-- ==== Sys2Proof/Word.lean ====
section
/-!
DEFINITION. Words, bytes and the finite maps every table of the device is kept in.

A finite map is a list of (key, value) pairs with strictly rising keys. Two maps with the same
contents are the same list, so states can be compared.
-/

namespace Sys2Proof

abbrev Byte := BitVec 8
abbrev Word := BitVec 64

/-- A finite map from `Nat`, sorted by key with no repeats (`FMap.wf`). -/
abbrev FMap (α : Type) := List (Nat × α)

namespace FMap

variable {α : Type}

/-- The value at a key, if the map lists one. -/
def get? : FMap α → Nat → Option α
  | [], _ => none
  | (k, v) :: m, j => if j = k then some v else get? m j

/-- The value at a key, or the default that an unlisted key stands for. -/
def getD (m : FMap α) (j : Nat) (d : α) : α := (get? m j).getD d

/-- Whether the map lists the key. -/
def has (m : FMap α) (j : Nat) : Bool := (get? m j).isSome

/-- The map with `v` at key `j`. -/
def set : FMap α → Nat → α → FMap α
  | [], j, v => [(j, v)]
  | (k, w) :: m, j, v =>
    if j < k then (j, v) :: (k, w) :: m
    else if j = k then (j, v) :: m
    else (k, w) :: set m j v

/-- The map without key `j`. -/
def erase : FMap α → Nat → FMap α
  | [], _ => []
  | (k, w) :: m, j => if j = k then m else (k, w) :: erase m j

/-- The map with `f` applied to the value at `j`, if there is one. -/
def modify (m : FMap α) (j : Nat) (f : α → α) : FMap α :=
  match get? m j with
  | some v => set m j (f v)
  | none => m

/-- `f` applied to every value. -/
def mapVal (m : FMap α) (f : Nat → α → α) : FMap α := m.map fun kv => (kv.1, f kv.1 kv.2)

/-- The entries that `p` accepts. -/
def keep (m : FMap α) (p : Nat → α → Bool) : FMap α := m.filter fun kv => p kv.1 kv.2

/-- The first entry that `p` accepts. -/
def first? (m : FMap α) (p : Nat → α → Bool) : Option (Nat × α) := m.find? fun kv => p kv.1 kv.2

/-- How many entries `p` accepts. -/
def count (m : FMap α) (p : Nat → α → Bool) : Nat := m.countP fun kv => p kv.1 kv.2

/-- The least key that the map does not list, from `start` upward. -/
def freeFrom : FMap α → Nat → Nat
  | [], n => n
  | (k, _) :: m, n => if k < n then freeFrom m n else if k = n then freeFrom m (n + 1) else n

/-- Strictly rising keys. -/
def wf : FMap α → Bool
  | [] => true
  | [_] => true
  | (j, _) :: (k, w) :: m => decide (j < k) && wf ((k, w) :: m)

end FMap

/-- A finite set of numbers, kept as a map to nothing. -/
abbrev NSet := FMap Unit

def NSet.mem (s : NSet) (n : Nat) : Bool := FMap.has s n
def NSet.add (s : NSet) (n : Nat) : NSet := FMap.set s n ()
def NSet.del (s : NSet) (n : Nat) : NSet := FMap.erase s n

/-- The bits `[hi:lo]` of a number. -/
def bitsOf (v hi lo : Nat) : Nat := (v / 2 ^ lo) % 2 ^ (hi + 1 - lo)

/-- Bit `i` of a number. -/
def bitOf (v i : Nat) : Bool := (v / 2 ^ i) % 2 == 1

/-- A truth value as a number. -/
def b2n (b : Bool) : Nat := if b then 1 else 0

/-- The bytes of `v`, least significant first (R8: little-endian). -/
def leBytes : Nat → Nat → List Byte
  | 0, _ => []
  | n + 1, v => BitVec.ofNat 8 v :: leBytes n (v / 256)

/-- The number whose little-endian bytes are given (R8). -/
def leNat : List Byte → Nat
  | [] => 0
  | b :: bs => b.toNat + 256 * leNat bs

/-- `n` items of a list from position `i`. -/
def slice {α : Type} (l : List α) (i n : Nat) : List α := (l.drop i).take n

/-- The little-endian field of `n` bytes at byte `i` of a byte string. -/
def leField (l : List Byte) (i n : Nat) : Nat := leNat (slice l i n)

/-- A list padded at its end to `n` items, or cut to `n` items. -/
def fitTo {α : Type} (l : List α) (n : Nat) (d : α) : List α := (l ++ List.replicate (n - l.length) d).take n

/-- The two's-complement reading of the low `w` bits of `v`. -/
def toSigned (w v : Nat) : Int :=
  let u := v % 2 ^ w
  if 2 ^ (w - 1) ≤ u then (u : Int) - (2 ^ w : Nat) else (u : Int)

/-- The low `w` bits of an integer, as a number. -/
def ofSigned (w : Nat) (i : Int) : Nat := (i % ((2 ^ w : Nat) : Int)).toNat

end Sys2Proof
end

