-- ==== Sys2Proof/Config.lean ====
section
/-!
DEFINITION. What an implementation fixes, what standards outside the spec compute, and the free
values. An opaque constant has no body, so no proof can rest on its value.
-/

namespace Sys2Proof.Config

/-! Status codes of R326. -/
def ok : Nat := 0x00
def replayed : Nat := 0x01
def short : Nat := 0x02
def accessDenied : Nat := 0x10
def translationFault : Nat := 0x11
def extentRevoked : Nat := 0x12
def staleRoute : Nat := 0x13
def staleVersion : Nat := 0x14
def poisoned : Nat := 0x15
def noSpace : Nat := 0x16
def backoff : Nat := 0x17
def invalidDescriptor : Nat := 0x18
def fuelExhausted : Nat := 0x19
def abortedReset : Nat := 0x20
def outcomeUnknown : Nat := 0x21
def timeout : Nat := 0x22
def shed : Nat := 0x23
def deviceOutOfService : Nat := 0x30

/-! Free values. Each is applied to a fresh number or to the operands it depends on. -/

/-- The DRBG's outputs (R553), by draw number. DESIGN CHOICE: log entry 9. -/
opaque entropy : Nat → Nat
/-- A byte of DRAM whose contents a short RESET_N pulse left undefined: pulse and PHA (R569).
DESIGN CHOICE: log entry 6. -/
opaque freeByte : Nat → Nat → Byte
/-- Data that an owner on another chip returns for a line: draw number and PHA.
DESIGN CHOICE: log entry 10. -/
opaque peerLine : Nat → Nat → List Byte
/-- A value that the spec leaves unstated: which one, and the operands or a draw number.
DESIGN CHOICE: log entry 7. -/
opaque unstated : Nat → Nat → Nat
/-- The offsets that the read-threshold tracking loop reaches from old offsets and corrected bits (R72).
DESIGN CHOICE: log entry 12. -/
opaque trackOffset : Nat → Nat → Nat

/-! Functions of standards that the spec names and does not restate. -/

/-- An ECDSA P-384 signature: key name, message. -/
opaque ecdsaSign : Nat → List Byte → List Byte
/-- The Maeleth debug key (R558). -/
opaque debugKey : List Byte
/-- The identity public key derived from the fuses (R552, R562). -/
opaque identityKey : List Byte
/-- The alias certificate of a boot: BODY_DIGEST, SVN, DEBUG_STATE (R552, R556). -/
opaque aliasCert : List Byte → Nat → Nat → List Byte
/-- The digest of the ROM, measurement 1 (R557). DESIGN CHOICE: log entry 12. -/
opaque romDigest : List Byte
/-- The digest of a configuration copy, measurement 6: its numbers and octets outside area 0x9000 (R557).
DESIGN CHOICE: log entry 12. -/
opaque cfgDigest : FMap Nat → FMap (List Byte) → List Byte

/-- The set of 0 to 1,023 in which a sliver's directory partition keeps a line (R184).
DESIGN CHOICE: log entry 11. -/
opaque dirSet : Nat → Nat
/-- The number by which a sender chooses among a node's sub-ports: node and TC (R222).
DESIGN CHOICE: log entry 11. -/
opaque pathHash : Nat → Nat → Nat
/-- The set of the PTC that a lookup probes: tenant and page, of 2 MiB or of 1 GiB (R270).
DESIGN CHOICE: log entry 11. -/
opaque ptcSet : Nat → Nat → Nat
/-- The set of 0 to 31 in which a slice keeps a line (R179). -/
opaque sliceSet : Nat → Nat

end Sys2Proof.Config
end

