-- ==== Sys2Proof/Syntax.lean ====
section
/-!
DEFINITION. The commands of the device: one constructor of `Instr` for each row of
spec/opcode_table.json, and the types of their operands.

A command is an event at the device's boundary or inside it: a message or frame arrives, a timer
reaches its deadline, an access ends, an engine takes its next step. An operand names the object
the event concerns, or carries what comes from outside the device with it.
-/

namespace Sys2Proof

/-- The domains that sleep (R497). -/
inductive ClkDomain where
  | kit (n : Nat)
  | port (n : Nat)
  | mesh
  | dram
  | nand
  | carillon
  deriving DecidableEq, Repr

/-- A number for each sleeping domain. -/
def ClkDomain.key : ClkDomain → Nat
  | .kit n => n
  | .port n => 1000 + n
  | .mesh => 2000
  | .dram => 2001
  | .nand => 2002
  | .carillon => 2003

/-- An ODP session (R511, R524): CAN FD, a port's mailbox, an address of the management VLAN, a script. -/
inductive Session where
  | can
  | mailbox (port : Nat)
  | vlan (addr : Nat)
  | script
  deriving DecidableEq, Repr

/-- An ODP message (R519). `reserved` holds when a reserved field of the header is not zero. -/
structure OdpMsg where
  op : Nat
  tid : Nat
  index : Nat
  sub : Nat
  ten : Bool
  tenant : Nat
  status : Nat
  arg : Nat
  reserved : Bool
  data : List Byte
  /-- The sub-port over which a VLAN message came. -/
  via : Nat
  deriving DecidableEq, Repr

/-- Where a unit lies in the NAND array (R66, R67). -/
structure FrostLoc where
  chan : Nat
  die : Nat
  block : Nat
  row : Nat
  slc : Bool
  deriving DecidableEq, Repr

/-- Which processor runs a Phicor instruction: a tabor, a port's Gale processor, Carillon (R148). -/
inductive Proc where
  | tabor (n : Nat)
  | gale (port : Nat)
  | carillon
  deriving DecidableEq, Repr

/-- An XLT packet: the header of R220 and the payload. -/
structure Pkt where
  version : Nat
  kind : Nat
  tc : Nat
  syn : Bool
  retx : Bool
  ceEcho : Bool
  src : Nat
  dst : Nat
  gen : Nat
  comp : Nat
  job : Nat
  window : Nat
  status : Nat
  first : Bool
  last : Bool
  offset : Nat
  psn : Nat
  ackPsn : Nat
  seq : Nat
  counter : Nat
  counted : Bool
  len : Nat
  aop : Nat
  a64 : Bool
  /-- A reserved field of the header is not zero. -/
  reserved : Bool
  payload : List Byte
  deriving DecidableEq, Repr

/-- A received XLT frame with the outcomes of the checks outside the XLT header (R218, R219). -/
structure RxFrame where
  sub : Nat
  /-- The ICV is right and the SA is the one in use. -/
  macsecOk : Bool
  /-- IPv6 source and destination addresses. -/
  srcAddr : Nat
  dstAddr : Nat
  udpPort : Nat
  checksumOk : Bool
  ce : Bool
  pkt : Pkt
  deriving DecidableEq, Repr

/-- A coherence message (R188, R189). -/
structure CohMsg where
  mtype : Nat
  src : Nat
  dst : Nat
  tag : Nat
  status : Nat
  /-- PHA[49:6] at the home chip. -/
  line : Nat
  backoffExp : Nat
  aop : Nat
  a64 : Bool
  word : Nat
  half : Bool
  dirty : Bool
  payload : List Byte
  /-- The domain index of the sending and of the receiving chip (R179). -/
  srcChip : Nat
  dstChip : Nat
  /-- The frame that brought it from another chip; none for a message of this chip's mesh. -/
  frame : Option RxFrame
  deriving DecidableEq, Repr

/-- What a neighbour's LLDP frame says (R228). -/
structure Neighbour where
  mac : Nat
  portName : Nat
  /-- The Maeleth TLV: NODE_ID, COMPOSITION, GENERATION, LANE_MODE, sub-port index. -/
  maeleth : Option (Nat × Nat × Nat × Nat × Nat)
  ttl : Nat
  deriving DecidableEq, Repr

/-- A frame that a sub-port sends. -/
inductive FrameOut where
  | xlt (p : Pkt)
  | lldp (node comp gen : Nat)
  /-- A frame of the management VLAN (R532): address, UDP destination port, message. -/
  | mgmt (addr udp : Nat) (bytes : List Byte)
  deriving DecidableEq, Repr

/-- The arbiters of R454: one for each sliver, one for each pseudo-channel. -/
inductive Arbiter where
  | sliver (n : Nat)
  | pch (n : Nat)
  deriving DecidableEq, Repr

/-- A request at a pseudo-channel arbiter (R454): its requester, and whether it is high-priority. -/
structure PcReq where
  requester : Nat
  high : Bool
  line : Nat
  deriving DecidableEq, Repr

/-- Four 64-bit words: an entry of the command ring (R283). -/
structure Quad where
  w0 : Word
  w1 : Word
  w2 : Word
  w3 : Word
  deriving DecidableEq, Repr

/-- A command of the device. -/
inductive Instr where
  /-- R567. Every supply reaches tolerance; the island clock starts and the board may later deassert RESET_N. -/
  | powerGood
  /-- R569. Assertion of RESET_N quiesces ports, puts DRAM into self-refresh and holds a cold reset until RESET_N rises. -/
  | resetNAssert
  /-- R540. Deassertion of RESET_N is boot t0: local time is zeroed, the CAN_ID straps are sampled and boot step 1 begins. -/
  | resetNDeassert (heldNs canId : Nat)
  /-- R58. Loss of supply loses DRAM contents; the next mount rebuilds the home map from Frost's journal. -/
  | supplyLoss
  /-- R505. PWR_WARN_N held low for 1 µs starts the timed shedding sequence. -/
  | pwrWarnNAssert
  /-- R504. VDD_CORE at a kit falls below its setpoint by SAG_MV or more, which starts the 2 µs persistence timer. -/
  | vddCoreSag (kit mv : Nat)
  /-- R504. A sag that has persisted 2 µs enters the shedding stage that its depth selects. -/
  | sagPersistExpiry
  /-- R503. Stage S1: Drumbeat suspends background tasks, Drift moves are abandoned and TIER_DRAIN pauses. -/
  | shedS1Enter
  /-- R503. Stage S2: kits are capped at 2.4 GHz, and new search and embedding items are refused with SHED. -/
  | shedS2Enter
  /-- R503. Stage S3: new host items and inbound fabric requests are refused with SHED. -/
  | shedS3Enter
  /-- R506. When S3_DRAIN_US expires or no admitted item remains, running items are ended and the Cloudbank flush starts. -/
  | shedS4Enter
  /-- R506. The Cloudbank flush ends and Frost starts its commit of buffered units and a commit record. -/
  | s4FlushDone
  /-- R506. After Frost's commit, DRAM enters self-refresh and PWR_SAFE is asserted. -/
  | pwrSafeAssert
  /-- R508. When the lift conditions have held for SHED_HOLD_MS, every stage lifts; from S4, DRAM leaves self-refresh and warm-reset steps 3 to 5 run. -/
  | shedLift
  /-- R497. A domain's idle time expires and its fast clock stops with its state kept. -/
  | domainSleep (d : ClkDomain)
  /-- R497. Work arrives at a sleeping domain, which restarts within its wake bound and takes up the work. -/
  | domainWake (d : ClkDomain)
  /-- R499. Each 10 µs, the adaptive voltage loop sets kit setpoints and requests VDD_CORE over AVSBus. -/
  | avsLoopPeriod (lowest : List (Nat × Nat))
  /-- R499. A kit's droop detector fires and the kit clock is stretched for 100 ns. -/
  | droopDetected (kit : Nat)
  /-- R499. Each 1 µs, the frequency loop sets each kit clock to its lowest cap. -/
  | freqLoopPeriod
  /-- R500. Each 50 µs, mean package power is compared with PKG_LIMIT_W and power caps or idle slots are adjusted. -/
  | pkgPowerLoopPeriod (meanMw : Nat)
  /-- R502. Each 10 µs, thermal caps and HBM idle slots are adjusted, and the thermal shedding trigger is taken at 120 °C. -/
  | tempLoopPeriod (kits hbm others : List (Nat × Int)) (overRated : List Nat)
  /-- R540. Boot step 1 ends: the island, local time and the Carillon ROM are running, and BOOT_STAGE becomes IMAGE. -/
  | bootIslandUp
  /-- R546. The NOR image has been read and checked: it is loaded, or the device enters recovery mode. -/
  | imageLoaded
  /-- R543. HBM and DDR5 training ends; failed modules are lost, a failed stack 0 or 4 makes the device FAILED, and mount starts. -/
  | dramTrained (failedStacks failedDimms : List Nat)
  /-- R95. Frost's mount completes: RANGE_PAGES, FLASH_SLOTS and group states are set, and LOST pages are marked. -/
  | mountDone (missingDies : List (Nat × Nat)) (missingChannels : List Nat)
  /-- R540. Restore and configuration complete: BOOT_STAGE becomes READY and fetched host items start. -/
  | bootReady
  /-- R550. In recovery mode, stack 0 or stack 4 has been trained and holds the staging buffer. -/
  | recoveryStackTrained (stack0Ok stack4Ok : Bool)
  /-- R559. A registration delay or backoff expires and a registration datagram is sent to every MGMT_PEERS address. -/
  | registrationAttempt
  /-- R559. A write of BOOT_ID to REG_ACK stops registration. -/
  | regAck (who : Session) (m : OdpMsg)
  /-- R548. A completed segmented write to FW_STAGE is checked; a passing image becomes STAGED, and a failing one raises FIRMWARE_REJECTED. -/
  | fwStage (who : Session) (m : OdpMsg)
  /-- R549. In STANDBY with an image staged, programming of the NOR image starts. -/
  | fwCommit (who : Session) (m : OdpMsg)
  /-- R549. NOR programming and read-back end; FIRMWARE_UPDATED or FIRMWARE_REJECTED is raised. -/
  | fwProgramDone (readsBackEqual : Bool)
  /-- R551. In STANDBY, SVN_FUSED is raised to the running image's SVN. -/
  | svnCommit (who : Session) (m : OdpMsg)
  /-- R555. A fabric key is installed wrapped in a slot. -/
  | fabricKeySet (who : Session) (m : OdpMsg)
  /-- R555. A write of FABRIC_KEY_ACTIVE naming the other slot starts a new connectivity association on every sub-port. -/
  | fabricKeyActive (who : Session) (m : OdpMsg)
  /-- R562. In STANDBY, the named root key slot is revoked in fuses. -/
  | rootKeyRevoke (who : Session) (m : OdpMsg)
  /-- R558. A signed token enables JTAG debug until the next cold reset. -/
  | debugUnlock (who : Session) (m : OdpMsg)
  /-- R556. An SPDM GET_VERSION request over DOE is answered. -/
  | getVersion (port : Nat)
  /-- R556. An SPDM GET_CAPABILITIES request is answered. -/
  | getCapabilities (port ver : Nat)
  /-- R556. An SPDM algorithm negotiation is answered with P-384 and SHA-384. -/
  | negotiateAlgorithms (port ver asym hash : Nat)
  /-- R556. An SPDM GET_DIGESTS request is answered for slot 0. -/
  | getDigests (port ver : Nat)
  /-- R556. An SPDM GET_CERTIFICATE request returns the slot 0 chain. -/
  | getCertificate (port ver slot offset len : Nat)
  /-- R556. An SPDM CHALLENGE is answered, signed by the alias key. -/
  | challenge (port ver slot nonce : Nat)
  /-- R557. An SPDM GET_MEASUREMENTS request returns the signed measurement blocks. -/
  | getMeasurements (port ver index nonce : Nat)
  /-- R46. A Drumbeat run of the Drift round decays HEAT and selects and starts page moves. -/
  | driftRound
  /-- R461. A periodic task's run ends, and the task's next start is computed. -/
  | drumbeatRunEnd (task : Nat)
  /-- R78. A Drumbeat run of Frost garbage collection folds SLC units and recovers blocks. -/
  | frostGcRun (moved : List (Nat × FrostLoc))
  /-- R460. A scrub run reads and corrects a share of DRAM lines and flash blocks, relocating marginal blocks. -/
  | scrubRun (badLines : List Nat) (marginal : List (Nat × FrostLoc))
  /-- R422. An eviction round hints cold block pages COLD for every store. -/
  | cumulusEvictionRound
  /-- R90. A journal flush writes a checkpoint of Frost's tables, trims records and clears write intents. -/
  | journalFlush
  /-- R38. A 64 KiB chunk copy ends; Drift copies the next chunk, starts another pass, or enters SWITCHING. -/
  | driftChunkCopyDone (move : Nat)
  /-- R39. Admitted writes have landed, dirty chunks are re-copied and any Frost commit is done; word 0 is rewritten and the page enters FREEING. -/
  | switchComplete (move : Nat)
  /-- R40. The stall budget runs out before the switch; the stall is released and the page returns to MOVING, or the move is abandoned. -/
  | switchStallExpiry (move : Nat)
  /-- R41. A move that has not reached FREEING within MOVE_TIMEOUT_DRAM or MOVE_TIMEOUT_FLASH is abandoned. -/
  | moveTimeout (move : Nat)
  /-- R37. A slot's in-flight reference count reaches zero; the slot is freed and a FREEING page becomes HOME. -/
  | sourceRefcountZero (tier slot : Nat)
  /-- R53. A DRAM line returns an uncorrectable error; it is poisoned, served from its mirror, or rebuilt from parity by class. -/
  | uncorrectableLine (pha copy : Nat)
  /-- R54. A stack or DIMM is declared lost, and re-homing or rebuild of its pages starts by class. -/
  | moduleLost (module : Nat)
  /-- R55. Drift finishes rebuilding or re-homing one page of a lost module. -/
  | pageRebuildDone (page : Nat)
  /-- R55. A slot becomes free and Drift homes a page that was waiting after module loss. -/
  | waitingPageHomed (page : Nat)
  /-- R60. No page is left in DRAM and TIER_DRAIN completes with OK and sets DRAINED, or completes with NO_SPACE. -/
  | tierDrainDone
  /-- R61. A write of 0 to DRAINED restores placement; a write of 1 is refused. -/
  | drained (who : Session) (m : OdpMsg)
  /-- R70. A flash unit read completes, and the unit is decoded and decrypted, or a retry is started. -/
  | frostUnitReadDone (unit corrected : Nat) (decoded : Bool)
  /-- R71. A read retry with further offsets completes; it decodes, retries again, or starts a parity rebuild. -/
  | frostReadRetryDone (unit : Nat) (decoded : Bool)
  /-- R71. A unit is rebuilt from its stripe row, or is declared lost. -/
  | frostParityRebuildDone (unit : Nat)
  /-- R73. A block's read count reaches READ_DISTURB_LIMIT and Frost relocates its valid units. -/
  | readDisturbRelocate (block : Nat) (moved : List (Nat × FrostLoc))
  /-- R75. The existing unit has been read into a write-buffer unit; the waiting line is merged and the write completes. -/
  | bufferUnitFillDone (unit : Nat)
  /-- R76. A buffered unit unwritten for FLUSH_AGE is programmed into the SLC region. -/
  | flushAgeExpiry (unit : Nat)
  /-- R76. An SLC or native program completes; the unit is mapped, and failures count toward die loss. -/
  | frostProgramDone (unit : Nat) (loc : FrostLoc) (ok : Bool)
  /-- R90. At least every 100 µs, journal records are committed and writes or grants waiting on intents are released. -/
  | journalGroupCommit
  /-- R84. A die stays busy beyond its parameter-page maximum, which counts toward die loss. -/
  | dieBusyTimeout (channel die : Nat)
  /-- R84. A die is declared lost and its units are rebuilt by parity onto other dies of the group. -/
  | flashDieLost (channel die : Nat)
  /-- R84. The rebuild of a lost die's units completes. -/
  | dieRebuildDone (channel die : Nat) (moved : List (Nat × FrostLoc))
  /-- R85. A channel fails, its group becomes DEGRADED and its pages start moving to other groups. -/
  | flashChannelLost (channel : Nat)
  /-- R85. A page of a DEGRADED group has been moved whole to another group; the next is started, or the group becomes READ_ONLY. -/
  | degradedPageMoved (page : Nat)
  /-- R89. Re-encryption of a destroyed tenant's shared flash pages ends, and the tenant's key is erased. -/
  | reencryptDone (tenant : Nat)
  /-- R93. In Standby, an orderly close writes back dirty lines and starts programming of Frost's buffer, checkpoint and close record. -/
  | close (who : Session) (m : OdpMsg)
  /-- R94. The close record is programmed and Frost enters the closed state. -/
  | closeRecordProgrammed
  /-- R69. A write to RESERVE_PCT is accepted only in Standby and takes effect at the next mount. -/
  | reservePct (who : Session) (m : OdpMsg)
  /-- R124. A write of a physical tabor number to FENCE_TABOR fences that tabor. -/
  | fenceTabor (who : Session) (m : OdpMsg)
  /-- R129. In Standby, FENCED_MAP is emptied at the next cold reset. -/
  | fenceClear (who : Session) (m : OdpMsg)
  /-- R126. A fence starts: the sliver's requests are held, the tabor stops, its program context ends and its slice readout starts. -/
  | taborFence (tabor : Nat)
  /-- R126. Slice readout ends; firmware is loaded into the new home chosen under R125. -/
  | fenceReadoutDone (tabor : Nat) (unreadable : List Nat)
  /-- R126. The Sliver Map entry is rewritten and held requests are released to the new home. -/
  | fenceRehomeDone (tabor : Nat)
  /-- R107. An uncorrectable error in scratch, instruction store or registers ends the program or fences the tabor. -/
  | scratchEccError (tabor : Nat) (home : Bool)
  /-- R124. An uncorrectable Cloudbank tag error fences the tabor. -/
  | sliceTagError (tabor : Nat)
  /-- R155. A queued invocation is admitted once a context, scratch and instruction residency are available. -/
  | invocationAdmit (tabor : Nat)
  /-- R156. A program's instructions finish copying into the instruction store and its context becomes ready. -/
  | programResident (tabor handle : Nat)
  /-- R157. A context that has run SLICE_US while another is ready leaves the pipeline. -/
  | sliceExpiry (tabor : Nat)
  /-- R142. A program held by WAITC or WAITF longer than WAIT_SWITCH_NS is switched out. -/
  | waitSwitchOut (tabor : Nat)
  /-- R142. A waited counter or word satisfies its condition and the held program resumes with acquire effect. -/
  | waitConditionMet (tabor ctx : Nat)
  /-- R103. A load from the range receives its line and its destination register becomes ready. -/
  | rangeLoadDone (tabor ctx tag : Nat)
  /-- R138. Scalar add. -/
  | add (p : Proc) (w : BitVec 32)
  /-- R138. Scalar subtract. -/
  | sub (p : Proc) (w : BitVec 32)
  /-- R138. Scalar bitwise and. -/
  | andOp (p : Proc) (w : BitVec 32)
  /-- R138. Scalar bitwise or. -/
  | orOp (p : Proc) (w : BitVec 32)
  /-- R138. Scalar bitwise xor. -/
  | xorOp (p : Proc) (w : BitVec 32)
  /-- R138. Scalar shift left by x[RS2] mod 64. -/
  | sll (p : Proc) (w : BitVec 32)
  /-- R138. Scalar logical shift right. -/
  | srl (p : Proc) (w : BitVec 32)
  /-- R138. Scalar arithmetic shift right. -/
  | sra (p : Proc) (w : BitVec 32)
  /-- R138. Scalar signed set-if-less-than. -/
  | slt (p : Proc) (w : BitVec 32)
  /-- R138. Scalar unsigned set-if-less-than. -/
  | sltu (p : Proc) (w : BitVec 32)
  /-- R138. Scalar signed minimum. -/
  | minOp (p : Proc) (w : BitVec 32)
  /-- R138. Scalar signed maximum. -/
  | maxOp (p : Proc) (w : BitVec 32)
  /-- R138. Scalar unsigned minimum. -/
  | minu (p : Proc) (w : BitVec 32)
  /-- R138. Scalar unsigned maximum. -/
  | maxu (p : Proc) (w : BitVec 32)
  /-- R138. Scalar set-if-equal. -/
  | seq (p : Proc) (w : BitVec 32)
  /-- R138. Scalar set-if-not-equal. -/
  | sne (p : Proc) (w : BitVec 32)
  /-- R138. Add a sign-extended immediate. -/
  | addi (p : Proc) (w : BitVec 32)
  /-- R138. And with a sign-extended immediate. -/
  | andi (p : Proc) (w : BitVec 32)
  /-- R138. Or with a sign-extended immediate. -/
  | ori (p : Proc) (w : BitVec 32)
  /-- R138. Xor with a sign-extended immediate. -/
  | xori (p : Proc) (w : BitVec 32)
  /-- R138. Shift left by an immediate count. -/
  | slli (p : Proc) (w : BitVec 32)
  /-- R138. Logical shift right by an immediate count. -/
  | srli (p : Proc) (w : BitVec 32)
  /-- R138. Arithmetic shift right by an immediate count. -/
  | srai (p : Proc) (w : BitVec 32)
  /-- R138. Signed set-if-less-than an immediate. -/
  | slti (p : Proc) (w : BitVec 32)
  /-- R138. Load IMM20 << 12, sign-extended. -/
  | lui (p : Proc) (w : BitVec 32)
  /-- R138. Low 64 bits of a 64 × 64 product. -/
  | mul (p : Proc) (w : BitVec 32)
  /-- R138. High 64 bits of a signed product. -/
  | mulh (p : Proc) (w : BitVec 32)
  /-- R138. High 64 bits of an unsigned product. -/
  | mulhu (p : Proc) (w : BitVec 32)
  /-- R138. Signed divide rounding toward zero, with defined zero-divisor and overflow results. -/
  | div (p : Proc) (w : BitVec 32)
  /-- R138. Unsigned divide. -/
  | divu (p : Proc) (w : BitVec 32)
  /-- R138. Signed remainder taking the dividend's sign. -/
  | rem (p : Proc) (w : BitVec 32)
  /-- R138. Unsigned remainder. -/
  | remu (p : Proc) (w : BitVec 32)
  /-- R138. Predicate register set from a scalar. -/
  | pset (p : Proc) (w : BitVec 32)
  /-- R138. Scalar register set from a predicate. -/
  | pget (p : Proc) (w : BitVec 32)
  /-- R138. Predicate and. -/
  | pand (p : Proc) (w : BitVec 32)
  /-- R138. Predicate or. -/
  | por (p : Proc) (w : BitVec 32)
  /-- R138. Predicate not. -/
  | pnot (p : Proc) (w : BitVec 32)
  /-- R137. Branch if equal. -/
  | beq (p : Proc) (w : BitVec 32)
  /-- R137. Branch if not equal. -/
  | bne (p : Proc) (w : BitVec 32)
  /-- R137. Branch if signed less than. -/
  | blt (p : Proc) (w : BitVec 32)
  /-- R137. Branch if signed greater or equal. -/
  | bge (p : Proc) (w : BitVec 32)
  /-- R137. Branch if unsigned less than. -/
  | bltu (p : Proc) (w : BitVec 32)
  /-- R137. Branch if unsigned greater or equal. -/
  | bgeu (p : Proc) (w : BitVec 32)
  /-- R138. Jump by IMM20 instructions. -/
  | j (p : Proc) (w : BitVec 32)
  /-- R138. Push PC + 1 on the return stack and jump. -/
  | call (p : Proc) (w : BitVec 32)
  /-- R138. Pop the return stack into PC. -/
  | ret (p : Proc) (w : BitVec 32)
  /-- R132. Scalar load from program scratch, bounds-checked. -/
  | lds (p : Proc) (w : BitVec 32)
  /-- R132. Scalar store to program scratch. -/
  | sts (p : Proc) (w : BitVec 32)
  /-- R138. Vector load from scratch. -/
  | vlds (p : Proc) (w : BitVec 32)
  /-- R138. Predicated vector store to scratch. -/
  | vsts (p : Proc) (w : BitVec 32)
  /-- R138. Gather elements from scratch by lane indices. -/
  | vgath (p : Proc) (w : BitVec 32)
  /-- R138. Scatter elements to scratch by lane indices. -/
  | vscat (p : Proc) (w : BitVec 32)
  /-- R138. Per-lane fp32 table look-up in scratch. -/
  | vlut (p : Proc) (w : BitVec 32)
  /-- R138. Scalar load from the range through the PTC. -/
  | ldg (p : Proc) (w : BitVec 32)
  /-- R138. Scalar store to the range through the PTC. -/
  | stg (p : Proc) (w : BitVec 32)
  /-- R138. 64 B aligned load from the range. -/
  | vldg (p : Proc) (w : BitVec 32)
  /-- R138. Predicated 64 B store to the range. -/
  | vstg (p : Proc) (w : BitVec 32)
  /-- R166. Acquire load of a flag that orders later accesses and empties the window read buffer. -/
  | ldacq (p : Proc) (w : BitVec 32)
  /-- R138. Vector integer add or subtract, wrapping or saturating. -/
  | vadd (p : Proc) (w : BitVec 32)
  /-- R138. Vector and, or, xor or and-not. -/
  | vlog (p : Proc) (w : BitVec 32)
  /-- R138. Vector signed or unsigned minimum or maximum. -/
  | vmm (p : Proc) (w : BitVec 32)
  /-- R138. Vector shifts by per-element counts. -/
  | vsh (p : Proc) (w : BitVec 32)
  /-- R138. Vector compare into a predicate register. -/
  | vcmp (p : Proc) (w : BitVec 32)
  /-- R138. Broadcast a scalar into every element. -/
  | vbcast (p : Proc) (w : BitVec 32)
  /-- R138. Vector register move. -/
  | vmov (p : Proc) (w : BitVec 32)
  /-- R138. Select between two vectors by predicate. -/
  | vsel (p : Proc) (w : BitVec 32)
  /-- R138. Extract element 0 into a scalar register. -/
  | vext (p : Proc) (w : BitVec 32)
  /-- R138. Vector floating-point add, subtract, minimum or maximum. -/
  | vfadd (p : Proc) (w : BitVec 32)
  /-- R138. Vector floating-point multiply. -/
  | vfmul (p : Proc) (w : BitVec 32)
  /-- R138. Vector fused multiply-add variants. -/
  | vfma (p : Proc) (w : BitVec 32)
  /-- R108. Dot-product accumulation, optionally with MX scales. -/
  | vdot (p : Proc) (w : BitVec 32)
  /-- R138. Narrowing conversion from fp32 or int32 lanes, with RNE or SR. -/
  | vcvtn (p : Proc) (w : BitVec 32)
  /-- R138. Widening conversion to fp32 or int32 lanes. -/
  | vcvtw (p : Proc) (w : BitVec 32)
  /-- R114. MX block quantise of 32 fp32 values. -/
  | vmxq (p : Proc) (w : BitVec 32)
  /-- R138. Cross-lane sum, max or min reduction. -/
  | vred (p : Proc) (w : BitVec 32)
  /-- R119. Compensated cross-lane reduction. -/
  | vredc (p : Proc) (w : BitVec 32)
  /-- R119. Element-wise compensated add. -/
  | vcadd (p : Proc) (w : BitVec 32)
  /-- R138. Lane or byte permute, interleave or de-interleave. -/
  | vperm (p : Proc) (w : BitVec 32)
  /-- R192. Atomic on the range, performed locally or through ATOM_X. -/
  | atom (p : Proc) (w : BitVec 32)
  /-- R254. Remote atomic through a window, sent with a SEQ. -/
  | ratom (p : Proc) (w : BitVec 32)
  /-- R138. Remote 4 B or 8 B load through a window. -/
  | rld (p : Proc) (w : BitVec 32)
  /-- R138. Remote 4 B or 8 B store through a window. -/
  | rst (p : Proc) (w : BitVec 32)
  /-- R242. Remote flag-store, sent once earlier stores are reported applied. -/
  | rstf (p : Proc) (w : BitVec 32)
  /-- R174. Remote 64 B load, possibly served from the window read buffer. -/
  | vrld (p : Proc) (w : BitVec 32)
  /-- R138. Remote 64 B store through a window. -/
  | vrst (p : Proc) (w : BitVec 32)
  /-- R248. Post a copy descriptor from scratch to a copy engine. -/
  | phicorCopy (p : Proc) (w : BitVec 32)
  /-- R142. Wait until an owned arrival counter reaches a threshold. -/
  | waitc (p : Proc) (w : BitVec 32)
  /-- R166. Hold later stores until earlier stores and atomics are performed. -/
  | fencePub (p : Proc) (w : BitVec 32)
  /-- R166. Hold later accesses until earlier loads are performed, and empty the window read buffer. -/
  | fenceAcq (p : Proc) (w : BitVec 32)
  /-- R166. Wait for every earlier access, including remote acknowledgement, and send open batches. -/
  | fenceFab (p : Proc) (w : BitVec 32)
  /-- R432. Load a Chime configuration block and initialise the register, feeding any prefix. -/
  | chmInit (p : Proc) (w : BitVec 32)
  /-- R433. Feed scratch bytes to the Chime register. -/
  | chmUpd (p : Proc) (w : BitVec 32)
  /-- R433. Feed the 64 bytes of a vector register. -/
  | chmVupd (p : Proc) (w : BitVec 32)
  /-- R433. Write the check value to a scalar register. -/
  | chmFin (p : Proc) (w : BitVec 32)
  /-- R159. End the program with its result and free its context. -/
  | endOp (p : Proc) (w : BitVec 32)
  /-- R157. Give the pipeline to the next ready context. -/
  | yield (p : Proc) (w : BitVec 32)
  /-- R138. No operation. -/
  | ctlNop (p : Proc) (w : BitVec 32)
  /-- R496. Read local time. -/
  | timeOp (p : Proc) (w : BitVec 32)
  /-- R138. Read remaining fuel. -/
  | fuelOp (p : Proc) (w : BitVec 32)
  /-- R134. Seed the program's generator streams. -/
  | srseed (p : Proc) (w : BitVec 32)
  /-- R138. Read the physical tabor number. -/
  | taborOp (p : Proc) (w : BitVec 32)
  /-- R142. Wait until a range word meets a condition, then take acquire effect. -/
  | waitf (p : Proc) (w : BitVec 32)
  /-- R150. Gale program reads 8 bytes of its packet. -/
  | pktLd (p : Proc) (w : BitVec 32)
  /-- R150. Gale program writes 8 bytes of the payload. -/
  | pktSt (p : Proc) (w : BitVec 32)
  /-- R150. Gale program reads the payload length. -/
  | pktLen (p : Proc) (w : BitVec 32)
  /-- R150. The request proceeds with its payload as left. -/
  | pktPass (p : Proc) (w : BitVec 32)
  /-- R150. The request is not applied and completes with ACCESS_DENIED. -/
  | pktReject (p : Proc) (w : BitVec 32)
  /-- R537. Script reads a dictionary object. -/
  | odRd (p : Proc) (w : BitVec 32)
  /-- R537. Script writes a dictionary object under the ODP rules. -/
  | odWr (p : Proc) (w : BitVec 32)
  /-- R138. Script raises SCRIPT_EVENT. -/
  | odEvent (p : Proc) (w : BitVec 32)
  /-- R174. A window read buffer entry 10 µs old is dropped. -/
  | wrbEntryExpiry (tabor ctx : Nat)
  /-- R170. Once an item's writes are performed, its completion is posted to its completion queue or to the spill area. -/
  | completionPost (item : Nat)
  /-- R191. The home receives a read for a shared copy and acts by directory state. -/
  | rdS (m : CohMsg)
  /-- R191. The home receives a read for ownership. -/
  | rdX (m : CohMsg)
  /-- R191. The home receives an ownership upgrade; an unlisted sender is treated as RD_X. -/
  | upg (m : CohMsg)
  /-- R193. The home receives an atomic and grants ownership or performs it at home, possibly combining. -/
  | atomX (m : CohMsg)
  /-- R191. The home receives a write-back and answers WB_ACK. -/
  | wb (m : CohMsg)
  /-- R191. The home receives an E-line drop. -/
  | evictClean (m : CohMsg)
  /-- R191. The home receives a non-allocating read. -/
  | rdUc (m : CohMsg)
  /-- R191. The home receives a write performed at home, which may clear poison. -/
  | wrUc (m : CohMsg)
  /-- R256. The home receives an atomic performed at home, with Reply Ledger handling for remote sources. -/
  | atomHome (m : CohMsg)
  /-- R183. An agent receives an invalidate snoop. -/
  | snpInv (m : CohMsg)
  /-- R183. An agent forwards the line to a requester and keeps a copy. -/
  | snpFwdS (m : CohMsg)
  /-- R183. An agent forwards the line and invalidates. -/
  | snpFwdX (m : CohMsg)
  /-- R183. An agent returns dirty data to the home and invalidates. -/
  | snpRecall (m : CohMsg)
  /-- R183. An agent returns a copy to the home and keeps its state. -/
  | snpData (m : CohMsg)
  /-- R191. The home receives a snoop acknowledgement, and may close the transaction. -/
  | ackInv (m : CohMsg)
  /-- R191. The home receives a forwarded-snoop acknowledgement with DIRTY. -/
  | ackFwd (m : CohMsg)
  /-- R191. The home receives line data from an agent. -/
  | dataHome (m : CohMsg)
  /-- R183. The requester receives a shared grant and enters S. -/
  | gntS (m : CohMsg)
  /-- R183. The requester receives an exclusive grant. -/
  | gntE (m : CohMsg)
  /-- R183. The requester receives a grant with dirty data and enters M. -/
  | gntM (m : CohMsg)
  /-- R183. The requester receives ownership without data and enters M. -/
  | gntUpg (m : CohMsg)
  /-- R189. The requester receives the old value of an atomic performed at home. -/
  | atomRsp (m : CohMsg)
  /-- R190. The agent receives write-back acknowledgement and frees its buffer. -/
  | wbAck (m : CohMsg)
  /-- R189. The requester receives the result of RD_UC or WR_UC. -/
  | ucRsp (m : CohMsg)
  /-- R198. The requester receives a refusal with BACKOFF, POISONED or ACCESS_DENIED. -/
  | refuse (m : CohMsg)
  /-- R197. A closed combining entry is applied in one update slot and each requester gets its old value. -/
  | combineEntryApply (sliver entry : Nat)
  /-- R198. A refused request's backoff wait expires and the request is resent. -/
  | backoffResend (tag : Nat)
  /-- R200. A snoop that may have found dirty data gets no answer within HOME_TIMEOUT; the line is poisoned. -/
  | homeTimeoutExpiry (line : Nat)
  /-- R201. An unanswered SNP_INV is resent after each further HOME_TIMEOUT. -/
  | snoopResend (line : Nat)
  /-- R203. A DOMAIN_HELLO from a peer is received; after commit it is refused and DOMAIN_PEER_LATE is raised. -/
  | domainHello (m : CohMsg)
  /-- R203. Every 100 ms, DOMAIN_HELLO is repeated on each direct link to a listed peer. -/
  | domainHelloTimer
  /-- R203. A proposal is received and answered with DOMAIN_CONFIRM. -/
  | domainPropose (m : CohMsg)
  /-- R203. The proposer receives a confirm; with every confirm in, it sends DOMAIN_COMMIT. -/
  | domainConfirm (m : CohMsg)
  /-- R203. A commit fixes the member list and domain index and raises DOMAIN_FORMED. -/
  | domainCommit (m : CohMsg)
  /-- R204. A late peer receives a refusal of its hello. -/
  | domainRefuse (m : CohMsg)
  /-- R203. FORM_WAIT, or a step 4 deadline, expires; a proposal is sent, unconfirmed members are left out, or a domain of one forms. -/
  | formWaitExpiry
  /-- R205. Every link to a peer has been down for PEER_LOSS_MS; its lines are poisoned or dropped. -/
  | peerLost (node : Nat)
  /-- R234. A write of ENABLE to a port's record starts training, or takes the port DOWN. -/
  | portEnable (who : Session) (m : OdpMsg)
  /-- R213. Signal is detected on every lane and auto-negotiation or equalisation begins. -/
  | laneSignalDetect (sub : Nat)
  /-- R213. Clause 73 auto-negotiation completes. -/
  | anegComplete (sub : Nat)
  /-- R213. Transmit equalisation is agreed and receivers are adapted. -/
  | eqAdaptComplete (sub : Nat)
  /-- R212. PCS alignment and FEC lock complete; the sub-port enters LINK. -/
  | pcsLock (sub partnerMac : Nat)
  /-- R211. Training fails on all four lanes; the port comes up narrow on a lane pair and raises PORT_NARROW. -/
  | trainingTimeout (port : Nat) (pair0 pair1 : Bool)
  /-- R215. An MKA frame is received on the uncontrolled port. -/
  | mkpduRx (sub ckn : Nat)
  /-- R212. A SAK is installed in both directions; the sub-port enters SECURE and LINK_UP is raised. -/
  | sakInstalled (sub : Nat)
  /-- R212. A sub-port leaves SECURE; LINK_DOWN is raised and its paths are rebound. -/
  | linkDown (sub : Nat)
  /-- R214. A lane loses lock and the sub-port retrains. -/
  | laneLockLoss (sub lane : Nat)
  /-- R214. A 1 ms window whose pre-FEC symbol error ratio exceeds 10^−SER_RETRAIN retrains the sub-port. -/
  | serWindowExceeded (sub errors symbols : Nat)
  /-- R214. A software write retrains every sub-port of the port. -/
  | retrain (who : Session) (m : OdpMsg)
  /-- R228. An LLDP frame updates the sub-port's neighbour. -/
  | lldpRx (sub : Nat) (n : Neighbour)
  /-- R228. Every LLDP_TX_S, an LLDP frame is transmitted. -/
  | lldpTxTimer (sub : Nat)
  /-- R228. A neighbour's TTL expires and NEIGHBOUR_CHANGED is raised. -/
  | neighbourAgeOut (sub : Nat)
  /-- R446. When a sub-port transmitter is free, the next frame is selected by TC7, TC6 and DWRR, and shaper credits change. -/
  | subportTxSelect (sub : Nat)
  /-- R221. A READ packet is checked and served and answered with a RESPONSE. -/
  | xltRead (f : RxFrame)
  /-- R221. A WRITE packet is checked and applied, and may increment a counter. -/
  | xltWrite (f : RxFrame)
  /-- R241. A FLAG_STORE packet is received and held until earlier packets of its job on the path are applied. -/
  | flagStore (f : RxFrame)
  /-- R241. Earlier packets have been applied or have failed; the flag is applied, or refused with the first failure. -/
  | flagStoreRelease (node tc psn : Nat)
  /-- R256. An ATOMIC packet is applied once, replayed from the ledger or refused. -/
  | atomic (f : RxFrame)
  /-- R246. The last BULK packet of a message arrives; the records are checked and applied in order and any reply message is sent. -/
  | bulk (f : RxFrame)
  /-- R252. A COPY_DATA packet is applied, and counted once visible. -/
  | copyData (f : RxFrame)
  /-- R225. The sender receives the result of a request. -/
  | response (f : RxFrame)
  /-- R225. The sender learns that packets up to ACK_PSN are applied or failed. -/
  | applied (f : RxFrame)
  /-- R224. The sender frees acknowledged packets and applies any ECN cut. -/
  | ack (f : RxFrame)
  /-- R224. The sender resends from the named PSN, or restarts the path when SYN is set. -/
  | nak (f : RxFrame)
  /-- R223. 2 µs after the first unacknowledged packet, the receiver sends ACK. -/
  | ackTimer (node tc : Nat)
  /-- R225. 4 µs after the oldest unreported applied packet, the receiver sends APPLIED. -/
  | appliedTimer (node tc : Nat)
  /-- R224. No ACK advances for one RTO; the sender resends, doubles RTO, halves the rate, or fails the path after RETRY_MAX. -/
  | rtoExpiry (node tc : Nat)
  /-- R225. An acknowledged request with no RESPONSE or APPLIED within RESPONSE_TIMEOUT_MS completes with TIMEOUT. -/
  | responseTimeout (req : Nat)
  /-- R222. A receiving path idle for 250 ms is freed. -/
  | rxPathExpiry (node tc : Nat)
  /-- R222. 250 ms after a chip warm reset was decided, XLT packets are accepted again. -/
  | xltQuietExpiry
  /-- R227. Each 20 µs without a cut, a path limiter rate rises by AI_STEP_GBPS. -/
  | rateIncreaseTick (node tc : Nat)
  /-- R231. A write of COMMIT applies the staged route and composition tables under a new generation, or is refused. -/
  | commit (who : Session) (m : OdpMsg)
  /-- R259. 5 ms after a commit, the previous generation is no longer accepted. -/
  | generationGraceExpiry
  /-- R260. A request refused with STALE_ROUTE is resent every 100 µs with the current generation. -/
  | staleResendTimer (req : Nat)
  /-- R260. After STALE_HOLD_MS of refusals, the request completes with STALE_ROUTE. -/
  | staleHoldExpiry (req : Nat)
  /-- R236. Installs an RWT entry bound to a contiguous PHA run. -/
  | windowOpen (item : Nat)
  /-- R240. Sets CLOSING, recalls cached lines and drains requests; the entry is freed. -/
  | windowClose (item : Nat)
  /-- R242. Once earlier stores to the destination are reported applied, a pending flag-store is sent, or completes with their failure. -/
  | flagStoreSend (req : Nat)
  /-- R244. GATHER_NS after its first record, an open BULK message is sent. -/
  | gatherTimer (node tc job : Nat)
  /-- R249. A queued copy descriptor starts when the engine has a free place. -/
  | copyDescriptorStart (copy : Nat)
  /-- R249. Every packet of a copy is applied or a failure has drained; the done flag is sent and the descriptor completes. -/
  | copyDone (copy : Nat)
  /-- R254. An acknowledged atomic without RESPONSE within ATOMIC_REPLY_US is re-sent with its SEQ. -/
  | atomicReplyTimer (req : Nat)
  /-- R254. After ATOMIC_RETRY_MS and a final reply wait, the atomic completes with OUTCOME_UNKNOWN. -/
  | atomicRetryExpiry (req : Nat)
  /-- R255. A Reply Ledger entry 8 ms old is dropped and its source's LOW rises. -/
  | ledgerEntryExpiry (node job seq : Nat)
  /-- R255. A source record is dropped 1 s after its last entry. -/
  | ledgerSourceExpiry (node job : Nat)
  /-- R257. LEDGER_HOLD_MS after a warm reset, remote atomics are applied again. -/
  | ledgerHoldExpiry
  /-- R262. At the owner, the record goes OFFERING and a CAS prepares the receiver's record. -/
  | ownHandoff (item : Nat)
  /-- R262. On a successful prepare, the owner's word becomes RELEASED and an OWNED flag-store goes to the receiver. -/
  | handoffCommit (handoff : Nat)
  /-- R263. No commit within 10 ms, or a failed prepare; the owner reclaims and raises OWNERSHIP_RECLAIMED. -/
  | handoffReclaim (handoff : Nat)
  /-- R264. A receiver left PREPARED for 10 ms reads the owner's word every 1 ms and resolves its own. -/
  | preparedResolvePoll (pha : Nat)
  /-- R323. Allocates a contiguous run of arrival counters. -/
  | counterAlloc (item : Nat)
  /-- R323. Frees owned counters that no open window names. -/
  | counterFree (item : Nat)
  /-- R253. Writes a counter value atomically with respect to increments. -/
  | counterSet (item : Nat)
  /-- R280. Installs a PTC entry checked against grants, and resumes tasks waiting on the MISS. -/
  | fill (port : Nat) (e : Quad)
  /-- R280. Refuses a MISS; waiting accesses fail with TRANSLATION_FAULT. -/
  | deny (port : Nat) (e : Quad)
  /-- R286. Withdraws the tenant's translations of a PVA range. -/
  | invalidate (port : Nat) (e : Quad)
  /-- R286. Withdraws every translation of the tenant. -/
  | invalidateTenant (port : Nat) (e : Quad)
  /-- R275. Adds a grant of pool pages to a tenant. -/
  | extentGrant (port : Nat) (e : Quad)
  /-- R289. Removes a run from a tenant's grants, withdraws translations, closes windows and releases unshared pages. -/
  | extentRevoke (port : Nat) (e : Quad)
  /-- R294. Moves a FREE tenant to ACTIVE and generates its XTS key. -/
  | tenantCreate (port : Nat) (e : Quad)
  /-- R284. Changes an ACTIVE tenant's class and quota. -/
  | tenantModify (port : Nat) (e : Quad)
  /-- R295. Moves a tenant to DESTROYING, ends its work, frees its resources, and makes it FREE. -/
  | tenantDestroy (port : Nat) (e : Quad)
  /-- R280. A MISS or page request unanswered within TRANSLATION_TIMEOUT_MS fails as DENY. -/
  | translationTimeout (tag : Nat)
  /-- R287. A DRAINING entry's INFLIGHT reaches zero; it becomes INVALID and any pending RESULT is written. -/
  | ptcDrainComplete (ent : Nat)
  /-- R287. 2 ms after a withdrawal or close starts, requests still counted are aborted with EXTENT_REVOKED. -/
  | drainTimeout (withdrawal : Nat)
  /-- R292. An ATS Translation Completion arrives; the access resumes, or a Page Request is sent. -/
  | atsTranslationCompletion (tag : Nat) (r w : Bool) (addr : Nat)
  /-- R292. A PRG Response resumes the task or fails its access. -/
  | prgResponse (tag code : Nat)
  /-- R293. Stops use of the named translations, drains or aborts users, and sends Invalidate Completion. -/
  | atsInvalidateRequest (port fn pasid page pages : Nat)
  /-- R298. At least every 10 µs, tenants' pipeline charges are summed and exhausted tenants are held. -/
  | quotaChargeTick
  /-- R298. A quota window ends and tenants' charges restart. -/
  | quotaWindowExpiry
  /-- R328. A PCIe port leaves DL_Active; completions spill and host accesses wait. -/
  | hostLinkDown (port unacked : Nat)
  /-- R329. The port returns to DL_Active; unacknowledged requests are re-issued in order and spilled entries drain. -/
  | hostLinkUp (port : Nat)
  /-- R330. A Function Level Reset of a VF disables its queues, ends its items and discards their completions. -/
  | vfFlr (port fn : Nat)
  /-- R330. A PF Function Level Reset or hot reset resets every VF, the channel and the admin queues, and fails MISSes. -/
  | pfFlr (port : Nat)
  /-- R310. Setting ENABLE on a submission queue resets HEAD and tail and makes it ACTIVE, or is refused. -/
  | sqEnable (port fn q value : Nat)
  /-- R311. Clearing ENABLE on a submission queue stops fetch and sets DRAINING. -/
  | sqDisable (port fn q value : Nat)
  /-- R311. A DRAINING submission queue has every completion written or spilled, and becomes DISABLED. -/
  | sqDrainDone (port fn q : Nat)
  /-- R310. Setting ENABLE on a completion queue resets its positions and phase, and writes waiting spilled entries. -/
  | cqEnable (port fn q value : Nat)
  /-- R310. Clearing ENABLE on a completion queue, allowed only when its submission queues are DISABLED or it is in ERROR. -/
  | cqDisable (port fn q value : Nat)
  /-- R312. A tail doorbell makes new entries fetchable, or puts the queue in ERROR with QUEUE_ERROR. -/
  | sqTailDoorbell (port fn q value : Nat)
  /-- R314. A head doorbell frees completion slots, into which waiting entries are written. -/
  | cqHeadDoorbell (port fn q value : Nat)
  /-- R313. Frees request ring slots for waiting MISS and RESULT entries. -/
  | reqRingHeadDoorbell (port value : Nat)
  /-- R313. Makes new command ring entries available to the translation channel. -/
  | cmdRingTailDoorbell (port value : Nat)
  /-- R318. The device fetches an entry in round-robin order and starts it or refuses it under R320. -/
  | sqEntryFetch (port fn q : Nat) (words : List Nat)
  /-- R315. The oldest unsignalled completion reaches IRQ_TIME_US and the MSI-X vector is sent. -/
  | irqTimeExpiry (port fn q : Nat)
  /-- R303. A write to a BAR register with no behaviour of its own stores its fields or has no effect. -/
  | mmioRegWrite (port fn offset width value : Nat)
  /-- R322. Host no-operation command. -/
  | nop (item : Nat)
  /-- R323. Copies host memory into a PVA range. -/
  | hostToPool (item : Nat)
  /-- R323. Copies a PVA range into host memory. -/
  | poolToHost (item : Nat)
  /-- R323. Atomic on a PVA word, returning the old value. -/
  | poolAtomic (item : Nat)
  /-- R332. A version-checked update of a region record at its home. -/
  | regionPublish (item : Nat)
  /-- R32. Makes each page of a PVA range absent and frees its slots. -/
  | pageRelease (item : Nat)
  /-- R47. Sets placement hints on the pages of a range. -/
  | pageHint (item : Nat)
  /-- R50. Sets the protection class of the pages of a range. -/
  | setProtection (item : Nat)
  /-- R60. Starts moving every DRAM-homed page to flash, or joins a running drain. -/
  | tierDrain (item : Nat)
  /-- R152. Reads, verifies and stores a Phicor image and returns a handle. -/
  | loadProgram (item : Nat)
  /-- R153. Marks a handle for removal. -/
  | unloadProgram (item : Nat)
  /-- R154. Invokes a program on a chosen tabor with arguments and fuel. -/
  | runProgram (item : Nat)
  /-- R150. Attaches a Gale-profile program to a window on every port. -/
  | progAttach (item : Nat)
  /-- R151. Removes a window's Gale attachment. -/
  | progDetach (item : Nat)
  /-- R249. Host command posting a copy descriptor. -/
  | copyOp (item : Nat)
  /-- R342. Opens a reduce-apply round, whose completion is the round's end. -/
  | roundDeclare (item : Nat)
  /-- R344. Cancels an open round with OUTCOME_UNKNOWN. -/
  | roundCancel (item : Nat)
  /-- R347. Writes a contributor's lines into a round's inbox slot. -/
  | roundContribute (item : Nat)
  /-- R346. An intercepted whole-line inbox write is decoded into pieces sent to unit homes, or refused. -/
  | inboxLineWrite (write : Nat)
  /-- R350. A unit home adds one piece into its accumulator; at count N it starts the apply. -/
  | pieceAccumulate (round piece : Nat)
  /-- R351. All weight, state and publish writes of a unit are performed. -/
  | unitDone (round unit : Nat)
  /-- R355. A block home has both units' values, quantises the MX block and writes elements and scale. -/
  | mxBlockQuantise (round array block : Nat)
  /-- R359. Every unit is done; round-complete flag-stores are sent and the declare completes once they are acknowledged. -/
  | roundComplete (round : Nat)
  /-- R361. An ended round's inbox run becomes ordinary memory. -/
  | inboxHoldExpiry (round : Nat)
  /-- R362. STALL_S passes without the round ending or accepting a piece; ROUND_STALLED is raised. -/
  | roundStalled (round : Nat)
  /-- R370. Creates an embedding table descriptor at VERSION 1. -/
  | tableCreate (item : Nat)
  /-- R371. A version-checked install of a new table descriptor. -/
  | tableReplace (item : Nat)
  /-- R371. No item pins an older descriptor; the pending replace or destroy completes. -/
  | tableUnpinned (table : Nat)
  /-- R373. Makes items naming the table fail and removes it once unpinned. -/
  | tableDestroy (item : Nat)
  /-- R378. Reads, dequantises, weights and pools rows per bag and writes outputs. -/
  | embLookup (item : Nat)
  /-- R377. A row home reads a row consistently, rereading on odd or changed SEQ. -/
  | rowRead (item k : Nat)
  /-- R377. A row home that waited for an update in progress reads the row once more. -/
  | rowUpdateEndWait (item k : Nat)
  /-- R383. SETs, ADDs, AXPYs or CLEARs rows, re-quantising each at its row home. -/
  | embUpdate (item : Nat)
  /-- R390. Creates a Squall index. -/
  | indexCreate (item : Nat)
  /-- R393. Numbers, encodes and places vectors. -/
  | insert (item : Nat)
  /-- R397. Stamps named items deleted. -/
  | delete (item : Nat)
  /-- R395. Starts stamping E + 2 and waits for items stamped E + 1. -/
  | epochPublish (item : Nat)
  /-- R395. Items stamped E + 1 have completed; E advances. -/
  | epochPublishDone (index : Nat)
  /-- R395. Each AUTO_PUBLISH_MS, indexes with stamped items are published. -/
  | autoPublishTimer
  /-- R400. Runs IVF or graph queries at a pinned epoch and writes results. -/
  | search (item : Nat)
  /-- R406. Rewrites graph edges and frees reclaimable items. -/
  | compact (item : Nat)
  /-- R392. Refuses new items and removes the index once idle. -/
  | indexDestroy (item : Nat)
  /-- R413. Creates a Cumulus store and starts intercepting its request area. -/
  | storeCreate (item : Nat)
  /-- R417. Writes a block into a fresh slot and switches the key to it. -/
  | putOp (item : Nat)
  /-- R416. Delivers a key's block as held at admission. -/
  | getOp (item : Nat)
  /-- R416. Raises a key's pin count. -/
  | pin (item : Nat)
  /-- R416. Lowers a key's pin count. -/
  | unpin (item : Nat)
  /-- R416. Removes a key. -/
  | drop (item : Nat)
  /-- R416. Raises the HEAT of a block's pages. -/
  | prefetch (item : Nat)
  /-- R414. Refuses new requests and removes the store once idle. -/
  | storeDestroy (item : Nat)
  /-- R420. A request line PUT waits for its landing counter and stores the block. -/
  | remotePut (write : Nat)
  /-- R421. A request line GET copies the block to the reply window and sends the reply word. -/
  | remoteGet (write : Nat)
  /-- R420. A request line PIN. -/
  | remotePin (write : Nat)
  /-- R420. A request line UNPIN. -/
  | remoteUnpin (write : Nat)
  /-- R420. A request line DROP. -/
  | remoteDrop (write : Nat)
  /-- R420. A request line PREFETCH. -/
  | remotePrefetch (write : Nat)
  /-- R420. The landing counter reaches THRESHOLD and the waiting remote PUT reads its data. -/
  | remotePutDataReady (item : Nat)
  /-- R420. PUT_WAIT_MS passes before THRESHOLD; the remote PUT ends with TIMEOUT. -/
  | putWaitExpiry (item : Nat)
  /-- R424. WAIT_US passes without the key gaining a block; the GET completes with FOUND 0. -/
  | getWaitExpiry (item : Nat)
  /-- R425. An operation waiting on ownership longer than OWN_WAIT_MS completes with TIMEOUT. -/
  | ownWaitExpiry (item : Nat)
  /-- R416. The last GET pinning an old slot ends and the slot is freed. -/
  | cumulusSlotRelease (store slot : Nat)
  /-- R423. A PUT that has waited 2 ms for dropped slots completes with NO_SPACE. -/
  | dropLruWaitExpiry (item : Nat)
  /-- R438. Computes check values over a span, per segment with an optional prefix. -/
  | check (item : Nat)
  /-- R442. A Chime unit is taken out of service and its work is moved to another kit. -/
  | chimeUnitLost (kit : Nat)
  /-- R452. Writes a tenant shaper entry on every sub-port and resets its credit. -/
  | tenantShaperSet (who : Session) (m : OdpMsg)
  /-- R452. Writes a class shaper entry on a port and resets its credit. -/
  | classShaperSet (who : Session) (m : OdpMsg)
  /-- R448. Writes class weights and resets their deficits. -/
  | dwrrWeights (who : Session) (m : OdpMsg)
  /-- R456. Each slot, an arbiter decides the grant from the requests present. -/
  | arbiterGrant (arb : Arbiter)
  /-- R458. The high-priority window ends and the quota masks clear. -/
  | hpWindowExpiry (arb : Arbiter)
  /-- R466. A running context's watchdog expires and a tenant-context reset follows. -/
  | ctxStall (tabor : Nat)
  /-- R466. A WAITC or WAITF held beyond WAIT_LIMIT_MS ends with TIMEOUT. -/
  | waitLimitExpiry (tabor ctx : Nat)
  /-- R466. An item's fixed-function watchdog expires; the item gets a tenant-context reset. -/
  | itemEngine (item : Nat)
  /-- R466. A home context retires nothing for HOME_WATCHDOG_US and its tabor is fenced. -/
  | homeWatchdog (tabor : Nat)
  /-- R466. A Gale processor or copy engine watchdog expires; the port is reset without retrain. -/
  | galeStall (port : Nat)
  /-- R466. A tier, Drift or Frost controller watchdog expires and a chip warm reset follows. -/
  | tierFault
  /-- R477. A kit clock, voltage or shared-logic fault orders a kit reset. -/
  | kitFault (kit : Nat)
  /-- R477. An uncorrectable port logic error orders a port reset. -/
  | portLogic (port : Nat)
  /-- R477. A SerDes or PCS fault orders a port reset with retrain. -/
  | portSerdes (port : Nat)
  /-- R477. An uncorrectable mesh-domain error orders a chip warm reset. -/
  | meshFault
  /-- R468. Every 100 µs each Tocsin writes its heartbeat to the other. -/
  | tocsinHeartbeat (tocsin : Nat)
  /-- R482. Tocsin A misses Tocsin B's heartbeat and resets the Carillon domain. -/
  | carillonWatchdog
  /-- R482. Tocsin B misses Tocsin A's heartbeat and restarts it. -/
  | tocsinAHeartbeat
  /-- R482. A restarted Tocsin re-reads its queue and resumes RUNNING resets. -/
  | tocsinRestarted (tocsin : Nat)
  /-- R484. The island is declared failed; Tocsin B performs a warm reset and runs without the island. -/
  | islandFailed
  /-- R486. Both Tocsin timers expire or a quiesce is ordered; FAULT_N asserts, ports stop and DRAM enters self-refresh. -/
  | hardwiredPathFire
  /-- R469. Ends one context or item and synthesises its completion. -/
  | tenantContextReset (tabor : Nat)
  /-- R469. Resets a kit, holding its slivers' requests. -/
  | kitReset (kit : Nat)
  /-- R469. Resets a port's MAC, Gale, Drumline and copy engine, with or without retrain. -/
  | portReset (port : Nat) (retrain : Bool)
  /-- R469. Resets Carillon, Tocsin B and the ODP transports. -/
  | carillonReset
  /-- R471. Ports drop frames and host fetch stops, then the write-back drain starts. -/
  | chipWarmReset
  /-- R471. Admitted accesses are finished and Cloudbank and Frost are written back; domains are reset. -/
  | warmResetDrainDone
  /-- R471. Domains are reset and firmware is reloaded; restore begins. -/
  | warmResetDomainsDone
  /-- R471. Sliver Map, tables and home map are restored; completion synthesis begins. -/
  | warmResetRestoreDone
  /-- R473. Completions are posted, host fetch resumes and fabric training starts. -/
  | warmResetDone
  /-- R487. A reset ends DONE; RESET_DONE is raised and escalation is counted. -/
  | resetDone (domain index : Nat)
  /-- R481. A reset misses its bound, becomes FAILED and escalates to the enclosing domain. -/
  | resetBoundExpiry (domain index : Nat)
  /-- R483. The out-of-service transition performs a warm reset and then salvage mode or a quiesce. -/
  | outOfService
  /-- R494. A software-ordered reset of a named domain. -/
  | resetRequest (who : Session) (m : OdpMsg)
  /-- R488. An operator-ordered out-of-service transition. -/
  | takeOutOfService (who : Session) (m : OdpMsg)
  /-- R493. A write of 0 clears EVENT_OVERRUN; a write of 1 is refused. -/
  | eventOverrun (who : Session) (m : OdpMsg)
  /-- R520. Reads an object's value. -/
  | odpRead (who : Session) (m : OdpMsg)
  /-- R514. Writes an object with no behaviour of its own, checking type, access, mode and lock. -/
  | odpWrite (who : Session) (m : OdpMsg)
  /-- R522. Returns an object's description. -/
  | describe (who : Session) (m : OdpMsg)
  /-- R527. Starts a segmented read, taking the value. -/
  | segReadInit (who : Session) (m : OdpMsg)
  /-- R527. Starts a segmented write. -/
  | segWriteInit (who : Session) (m : OdpMsg)
  /-- R527. One segment is received, or a gap triggers SEG_ACK. -/
  | segData (who : Session) (m : OdpMsg)
  /-- R527. The device, as sender of a read, advances or resends from the named SEQ. -/
  | segAck (who : Session) (m : OdpMsg)
  /-- R527. Ends a segmented write, which is checked and applied. -/
  | segEnd (who : Session) (m : OdpMsg)
  /-- R528. Takes exclusive write of an area. -/
  | lockOp (who : Session) (m : OdpMsg)
  /-- R528. Releases an area lock. -/
  | unlockOp (who : Session) (m : OdpMsg)
  /-- R520. Ends a transaction. -/
  | abortOp (who : Session) (m : OdpMsg)
  /-- R527. A segmented transfer stalls for SEG_TIMEOUT_MS and is aborted. -/
  | segTimeout (who : Session) (tid : Nat)
  /-- R528. A lock holder silent for LOCK_MAX_MS loses its lock. -/
  | lockMaxExpiry (area : Nat)
  /-- R526. A kept response older than 100 ms is discarded. -/
  | tidRetentionExpiry (who : Session) (tid : Nat)
  /-- R515. Accepted P values are saved to the configuration store and CONFIG_PENDING clears. -/
  | configStoreDone
  /-- R517. Switches between STANDBY, if no tenant or composition is live, and OPERATIONAL. -/
  | mgmtMode (who : Session) (m : OdpMsg)
  /-- R538. In STANDBY, stores the defaults of P objects for the next cold reset. -/
  | restoreDefaults (who : Session) (m : OdpMsg)
  /-- R538. A write of 0 clears TRIGGER_LOST. -/
  | triggerLost (who : Session) (m : OdpMsg)
  /-- R160. A write of 0 clears a tenant's LAST_VERIFY. -/
  | lastVerify (who : Session) (m : OdpMsg)
  /-- R531. Hands the mailbox request buffer to the device, or sets OVERRUN while BUSY. -/
  | mbDoorbell (port length : Nat)
  /-- R531. In DONE, releases the response buffer, sets IDLE and lets the next message out. -/
  | mbRelease (port : Nat)
  /-- R531. A write of 1 clears OVERRUN. -/
  | mbOverrunClear (port : Nat)
  /-- R531. A write of 1 clears NOTIFY_LOST. -/
  | mbNotifyLostClear (port : Nat)
  /-- R531. The host consumes notification slots. -/
  | mbNotifyHead (port head : Nat)
  /-- R535. A write of a script slot's IMAGE is verified and stored, or refused with VERIFY. -/
  | scriptImage (who : Session) (m : OdpMsg)
  /-- R535. A script slot is enabled or disabled, and a PERIOD trigger is started. -/
  | scriptEnable (who : Session) (m : OdpMsg)
  /-- R534. A PERIOD trigger's period elapses and a firing is queued. -/
  | triggerPeriod (slot : Nat)
  /-- R536. Carillon takes the next firing and runs its script. -/
  | scriptRun
  /-- R191. A DRAM access at a page home completes; the home sends its grant or response, the transaction may close, and the in-flight counts fall. -/
  | pageHomeAccessDone (line : Nat)
  /-- R84. A NAND block erase completes; the block becomes free, or an erase failure counts toward die loss and spare consumption. -/
  | frostEraseDone (block : Nat) (ok : Bool)
  /-- R508. PWR_WARN_N rises, which starts the SHED_HOLD_MS hold that lifts the shedding stages. -/
  | pwrWarnNDeassert
  /-- R508. VDD_CORE at every kit returns within SAG_MV / 2 of its setpoint, which starts the hold for lifting. -/
  | vddCoreSagClear
  /-- R570. REFCLK_25M stops; local time stops and the device behaves as for a loss of its island. -/
  | refclk25mInterruption
  /-- R327. A change of a function's Bus Master Enable sends completions to the spill area, or lets waiting entries drain into their queues. -/
  | busMasterEnable (port fn : Nat) (on : Bool)
  /-- R329. A PCIe completion for a device read of host memory arrives and the waiting item continues with the data. -/
  | hostReadCompletion (tag : Nat) (data : List Byte)
  /-- R447. A shaper credit rises to zero or a path rate limiter allows its head packet, so an idle sub-port makes a selection. -/
  | packetBecomesEligible (sub : Nat)
  deriving DecidableEq, Repr

end Sys2Proof
end

