-- ==== Sys2Proof/Decode.lean ====
section
/-!
DEFINITION. The command that a table word spells. No row of spec/opcode_table.json gives bits
(every row's list of fields is empty), so no word spells a command.
-/

namespace Sys2Proof

/-- The command that a word of `nbits` bits spells by the table: none, as the table gives no row bits.
DESIGN CHOICE: log entries 13, 14. -/
def decodeTableWord (_nbits _w : Nat) : Option Instr := none

end Sys2Proof
end

