-- ==== Sys2Proof/Machine/PartsCoh.lean ====
section
/-!
DEFINITION. Cloudbank, Belfry and the coherence domain (chapters 6 and 7 of the spec), and the
arbiters of chapter 17.
-/

namespace Sys2Proof.Machine

/-- A line's state at an agent (R182); a line not held is in I. -/
inductive LState where
  | m | o | e | s
  deriving DecidableEq, Repr

/-- A line that a slice holds, or that a write-back buffer keeps (R182, R190). -/
structure SliceLine where
  state : LState
  data : List Byte
  /-- When it was last used, as a number in the order of uses. -/
  last : Nat
  way : Nat
  deriving DecidableEq, Repr

/-- The state of a directory entry (R184); a free entry is not listed. -/
inductive DState where
  | sh | ex | ow
  deriving DecidableEq, Repr

/-- A directory entry (R184, R185). -/
structure DirEntry where
  state : DState
  owner : Option Nat
  /-- Agent ids, at most four, while `coarse` is false. -/
  sharers : List Nat
  coarse : Bool
  /-- Group bits: domain index × 8 + kit div 8. -/
  groups : NSet
  last : Nat
  deriving DecidableEq, Repr

/-- A line's transaction at its home (R187, R191). Its request has MTYPE 0 for a recall that the home
makes for itself: to free a directory entry (R186), or to close a window (R240). -/
structure Txn where
  req : CohMsg
  /-- Agents that have not answered, with the MTYPE of the snoop sent. -/
  waiting : List (Nat × Nat)
  /-- The access at the page home has not ended. -/
  home : Bool
  /-- The DRAM slot on which the access holds a reference: tier and slot. -/
  ref : Option (Nat × Nat)
  /-- The line's data, once known. -/
  data : Option (List Byte)
  /-- An owner answered that it held dirty data. -/
  dirty : Bool
  /-- The data went to the requester from the owner. -/
  forwarded : Bool
  /-- The further operands of a combining entry that this transaction applies (R197). -/
  more : List CohMsg
  snoopAt : Nat
  deriving DecidableEq, Repr

/-- A request that a home has queued (R187, R454, R455). -/
structure Queued where
  msg : CohMsg
  arrived : Nat
  deriving DecidableEq, Repr

/-- An entry of a combining buffer (R196). -/
structure Comb where
  line : Nat
  aop : Nat
  a64 : Bool
  ops : List CohMsg
  /-- Its place in the order of the line: the arrival number of its first operand (R197). -/
  arrived : Nat
  closed : Bool
  deriving DecidableEq, Repr

/-- A request refused with BACKOFF that waits to be resent (R198). -/
structure Backoff where
  msg : CohMsg
  due : Nat
  deriving DecidableEq, Repr

/-- On whose behalf a request was made (R180, R181, R193). -/
inductive CohFor where
  /-- The tabor's slice: contexts of the tabor wait for the line. -/
  | slice
  /-- One context's access, performed at the home: context and tag. -/
  | ctx (id tag : Nat)
  /-- A packet from outside the domain: node, TC, PSN, and the piece's place in its data. -/
  | packet (node tc psn place : Nat)
  deriving DecidableEq, Repr

/-- A request of an agent of this chip that has no answer (R183, R190). -/
structure AgentReq where
  tabor : Nat
  /-- Domain index of the home chip. -/
  chip : Nat
  line : Nat
  tag : Nat
  mtype : Nat
  tenant : Nat
  who : CohFor
  /-- Source node, job and SEQ of a remote atomic (R254). -/
  ledger : Option (Nat × Nat × Nat)
  /-- The request as it was sent. -/
  msg : CohMsg
  /-- Job, window and offset of an access through a window of a domain peer. -/
  via : Option (Nat × Nat × Nat)
  /-- Snoops that wait for the grant (R190). -/
  held : List CohMsg
  deriving DecidableEq, Repr

/-- The formation of a domain (R203, R204). -/
structure Forming where
  /-- Listed peers with a direct link: node ids. -/
  peers : List Nat
  heard : List Nat
  started : Nat
  helloDue : Nat
  /-- The list proposed, at the proposer, with the time of the proposal. -/
  proposed : Option (List Nat × Nat)
  confirmed : List Nat
  deriving DecidableEq, Repr

/-- The coherence side of the state (R179–R206, R454–R459). -/
structure Coh where
  dir : FMap DirEntry := []
  /-- Each tabor's slice: by domain index of the home × 2^44 + line. -/
  slices : FMap (FMap SliceLine) := []
  /-- Write-back buffers, by the same keys (R190). -/
  wbuf : FMap (FMap SliceLine) := []
  txns : FMap Txn := []
  /-- Ingress queues by sliver. -/
  queues : FMap (List Queued) := []
  comb : FMap (List Comb) := []
  /-- The last ATOM_X of a line: agent and time (R193). -/
  hot : FMap (Nat × Nat) := []
  /-- Messages on the mesh that have not been received. -/
  net : List CohMsg := []
  reqs : List AgentReq := []
  backoffs : List Backoff := []
  /-- Lines whose late snoop answers are discarded: line and agent (R200). -/
  late : List (Nat × Nat) := []
  /-- Reads served beside one another, without a transaction (R187): the requests. -/
  ucReads : List CohMsg := []
  nextTag : Nat := 1
  arrivals : Nat := 0
  /-- 0 none, 1 forming, 2 a domain has formed (R206). -/
  domState : Nat := 0
  domIndex : Nat := 0
  members : List Nat := []
  forming : Option Forming := none
  /-- Peers whose every direct link is down, with the time (R205). -/
  peerDown : FMap Nat := []
  lostPeers : List Nat := []
  /-- High-priority grants of each arbiter in its window: arbiter to (start, counts by tenant) (R458). -/
  hp : FMap (Nat × FMap Nat) := []
  /-- Round-robin positions of arbiters (R456). -/
  rr : FMap Nat := []
  /-- Requests at the pseudo-channel arbiters: by arbiter, (class, requester) in arrival order (R454). -/
  pc : FMap (List PcReq) := []
  /-- The owner of each arbiter's grant, and the slots it has had of it (R457). -/
  grant : FMap (Nat × Nat) := []
  /-- Consecutive refusals of a request, by agent × 2^16 + tag (R198, R455). -/
  refused : FMap Nat := []
  /-- First line of a domain peer's window, learnt from a grant: by chip, job and window. -/
  winBase : FMap Nat := []
  deriving DecidableEq, Repr

end Sys2Proof.Machine
end

