-- ==== Sys2Proof/Machine/Float.lean ====
section
/-!
DEFINITION. Number formats, exact values, rounding, MX blocks, compensated sums and check values
(R108–R119, R428–R431).

An operation decodes its operands to exact values, computes exactly, and rounds once when it
encodes the result.
-/

namespace Sys2Proof.Machine

/-- An exact value: `fin s m e` is (−1)^s × m × 2^e. -/
inductive FVal where
  | nan (s : Bool)
  | inf (s : Bool)
  | fin (s : Bool) (m : Nat) (e : Int)
  deriving DecidableEq, Repr

/-- A floating-point format of R111. `nanCode` is the canonical NaN, where there is one. -/
structure Fmt where
  width : Nat
  eb : Nat
  mb : Nat
  bias : Int
  hasInf : Bool
  nanCode : Option Nat
  maxCode : Nat
  deriving DecidableEq, Repr

namespace Fmt
def fp32 : Fmt := ⟨32, 8, 23, 127, true, some 0x7FC00000, 0x7F7FFFFF⟩
def bf16 : Fmt := ⟨16, 8, 7, 127, true, some 0x7FC0, 0x7F7F⟩
def fp16 : Fmt := ⟨16, 5, 10, 15, true, some 0x7E00, 0x7BFF⟩
def e5m2 : Fmt := ⟨8, 5, 2, 15, true, some 0x7E, 0x7B⟩
def e4m3 : Fmt := ⟨8, 4, 3, 7, false, some 0x7F, 0x7E⟩
def e3m2 : Fmt := ⟨6, 3, 2, 3, false, none, 0x1F⟩
def e2m3 : Fmt := ⟨6, 2, 3, 1, false, none, 0x1F⟩
def e2m1 : Fmt := ⟨4, 2, 1, 1, false, none, 0x7⟩
end Fmt

/-- The rounding of R116, and the directed roundings of R384 on the magnitude. -/
inductive Rnd where
  | rne
  | sr
  | trunc
  | away
  deriving DecidableEq, Repr

/-- The value that a code of a format stands for (R111). -/
def decodeF (f : Fmt) (b : Nat) : FVal :=
  let s := bitOf b (f.width - 1)
  let mag := b % 2 ^ (f.width - 1)
  let ex := mag / 2 ^ f.mb
  let fr := mag % 2 ^ f.mb
  if f.hasInf && ex == 2 ^ f.eb - 1 then (if fr = 0 then .inf s else .nan s)
  else if !f.hasInf && f.nanCode == some mag then .nan s
  else if ex = 0 then .fin s fr (1 - f.bias - f.mb)
  else .fin s (2 ^ f.mb + fr) (ex - f.bias - f.mb)

/-- `m / 2^d` under a rounding mode, with the 16-bit random value `r` for SR (R116). -/
def roundMag (mode : Rnd) (r m d : Nat) : Nat :=
  let k := m / 2 ^ d
  let rem := m % 2 ^ d
  match mode with
  | .rne =>
    if 2 ^ d < 2 * rem || (2 * rem == 2 ^ d && k % 2 == 1 && d != 0) then k + 1 else k
  | .sr => if 16 ≤ d then (m + r * 2 ^ (d - 16)) / 2 ^ d else (m + r / 2 ^ (16 - d)) / 2 ^ d
  | .trunc => k
  | .away => if rem = 0 then k else k + 1

/-- `m × 2^e` rounded to a multiple of `2^q`, in units of `2^q`. -/
def roundAt (mode : Rnd) (r m : Nat) (e q : Int) : Nat :=
  if q ≤ e then m * 2 ^ (e - q).toNat else roundMag mode r m (q - e).toNat

/-- The sign bit of a format at its place. -/
def signCode (f : Fmt) (s : Bool) : Nat := if s then 2 ^ (f.width - 1) else 0

/-- A value encoded in a format, with one rounding. An overflow goes to infinity where the format has
one and `sat` is not set, and to the largest finite value otherwise (R115). -/
def encodeWith (f : Fmt) (sat : Bool) (mode : Rnd) (r : Nat) (v : FVal) : Nat :=
  let ovf := if f.hasInf && !sat then (2 ^ f.eb - 1) * 2 ^ f.mb else f.maxCode
  match v with
  | .nan s =>
    match f.nanCode with
    | some c => c
    | none => signCode f s + f.maxCode
  | .inf s => signCode f s + ovf
  | .fin s m e =>
    if m = 0 then signCode f s
    else
      let lg : Int := (Nat.log2 m : Int) + e
      let q := max (lg - f.mb) (1 - f.bias - f.mb)
      let k := roundAt mode r m e q
      let code := (q + f.mb + f.bias - 1).toNat * 2 ^ f.mb + k
      signCode f s + (if f.maxCode < code then ovf else code)

def encodeF (f : Fmt) (v : FVal) : Nat := encodeWith f false .rne 0 v

namespace FVal

def neg : FVal → FVal
  | nan s => nan (!s)
  | inf s => inf (!s)
  | fin s m e => fin (!s) m e

def sign : FVal → Bool
  | nan s => s
  | inf s => s
  | fin s _ _ => s

def isNan : FVal → Bool
  | nan _ => true
  | _ => false

def isFinite : FVal → Bool
  | fin _ _ _ => true
  | _ => false

/-- The signed mantissa of a finite value at exponent `q`, at or below its own. -/
def mantAt (s : Bool) (m : Nat) (e q : Int) : Int :=
  let k : Int := (m * 2 ^ (e - q).toNat : Nat)
  if s then -k else k

/-- The exact sum. -/
def add : FVal → FVal → FVal
  | nan s, _ => nan s
  | _, nan s => nan s
  | inf s, inf t => if s = t then inf s else nan false
  | inf s, _ => inf s
  | _, inf t => inf t
  | fin s m e, fin t n g =>
    if m = 0 ∧ n = 0 then fin (s && t) 0 0
    else
      let q := min e g
      let k := mantAt s m e q + mantAt t n g q
      fin (decide (k < 0)) k.natAbs q

/-- The exact product. -/
def mul : FVal → FVal → FVal
  | nan s, _ => nan s
  | _, nan s => nan s
  | inf s, inf t => inf (s != t)
  | inf s, fin t n _ => if n = 0 then nan false else inf (s != t)
  | fin s m _, inf t => if m = 0 then nan false else inf (s != t)
  | fin s m e, fin t n g => fin (s != t) (m * n) (e + g)

/-- The quotient, with a sticky last bit below every bit that a format keeps. -/
def div : FVal → FVal → FVal
  | nan s, _ => nan s
  | _, nan s => nan s
  | inf _, inf _ => nan false
  | inf s, fin t _ _ => inf (s != t)
  | fin s _ _, inf t => fin (s != t) 0 0
  | fin s m e, fin t n g =>
    if n = 0 then (if m = 0 then nan false else inf (s != t))
    else
      let k := 64 + Nat.log2 n
      let a := m * 2 ^ k
      fin (s != t) (2 * (a / n) + (if a % n = 0 then 0 else 1)) (e - g - k - 1)

/-- The square root, with a sticky last bit. -/
def sqrt : FVal → FVal
  | nan s => nan s
  | inf s => if s then nan false else inf false
  | fin s m e =>
    if m = 0 then fin s 0 0
    else if s then nan false
    else
      let m' := if e % 2 = 0 then m * 2 ^ 64 else m * 2 ^ 65
      let e' := if e % 2 = 0 then e - 64 else e - 65
      let q := Nat.sqrt m'
      fin false (2 * q + (if q * q = m' then 0 else 1)) (e' / 2 - 1)

/-- Whether the exact value is below another; false when unordered. -/
def lt (a b : FVal) : Bool :=
  match a, b with
  | nan _, _ => false
  | _, nan _ => false
  | inf s, inf t => s && !t
  | inf s, _ => s
  | _, inf t => !t
  | fin s m e, fin t n g => decide (mantAt s m e (min e g) < mantAt t n g (min e g))

/-- Equality of values, with −0 equal to +0; false when unordered. -/
def eq (a b : FVal) : Bool :=
  !a.isNan && !b.isNan && !(lt a b) && !(lt b a)

def abs : FVal → FVal
  | nan _ => nan false
  | inf _ => inf false
  | fin _ m e => fin false m e

/-- `minimum` of IEEE 754-2019: a NaN operand gives NaN, and −0 is below +0. -/
def minimum (a b : FVal) : FVal :=
  if a.isNan || b.isNan then nan false
  else if lt a b then a else if lt b a then b else if a.sign then a else b

def maximum (a b : FVal) : FVal :=
  if a.isNan || b.isNan then nan false
  else if lt a b then b else if lt b a then a else if a.sign then b else a

/-- The value times a power of two. -/
def scale (k : Int) : FVal → FVal
  | fin s m e => fin s m (e + k)
  | v => v

/-- The integer `i` as a value. -/
def ofInt (i : Int) : FVal := fin (decide (i < 0)) i.natAbs 0

/-- The value rounded to an integer and saturated to `lo`–`hi`; a NaN gives 0 (R115). -/
def toInt (mode : Rnd) (r : Nat) (lo hi : Int) : FVal → Int
  | nan _ => 0
  | inf s => if s then lo else hi
  | fin s m e =>
    let k : Int := (roundAt mode r m e 0 : Nat)
    max lo (min hi (if s then -k else k))

end FVal

/-- One rounded operation on codes of a format. -/
def fop2 (f : Fmt) (op : FVal → FVal → FVal) (a b : Nat) : Nat :=
  encodeF f (op (decodeF f a) (decodeF f b))

def fadd (f : Fmt) : Nat → Nat → Nat := fop2 f FVal.add
def fsub (f : Fmt) (a b : Nat) : Nat := fop2 f (fun x y => x.add y.neg) a b
def fmul (f : Fmt) : Nat → Nat → Nat := fop2 f FVal.mul
def fdiv (f : Fmt) : Nat → Nat → Nat := fop2 f FVal.div
def fsqrt (f : Fmt) (a : Nat) : Nat := encodeF f (decodeF f a).sqrt
def fminF (f : Fmt) : Nat → Nat → Nat := fop2 f FVal.minimum
def fmaxF (f : Fmt) : Nat → Nat → Nat := fop2 f FVal.maximum

/-- `a × b + c` with one rounding (R110). -/
def ffma (f : Fmt) (a b c : Nat) : Nat :=
  encodeF f (((decodeF f a).mul (decodeF f b)).add (decodeF f c))

def add32 : Nat → Nat → Nat := fadd Fmt.fp32
def sub32 : Nat → Nat → Nat := fsub Fmt.fp32
def mul32 : Nat → Nat → Nat := fmul Fmt.fp32
def div32 : Nat → Nat → Nat := fdiv Fmt.fp32
def sqrt32 : Nat → Nat := fsqrt Fmt.fp32
def neg32 (a : Nat) : Nat := Nat.xor a 0x80000000
def finite32 (a : Nat) : Bool := (decodeF Fmt.fp32 a).isFinite

/-- The compensated step of R119: the pair `(s, c)` after adding `x`. -/
def compAdd (s c x : Nat) : Nat × Nat :=
  if finite32 s && finite32 c && finite32 x then
    let t := add32 s x
    let vs := (decodeF Fmt.fp32 s).abs
    let vx := (decodeF Fmt.fp32 x).abs
    let err := if vs.lt vx then add32 (sub32 x t) s else add32 (sub32 s t) x
    (t, add32 c err)
  else (add32 (add32 s c) x, 0)

/-- The tree step of a compensated reduction (R119): the partial sums' own c values are added too. -/
def compJoin (a b : Nat × Nat) : Nat × Nat :=
  if finite32 a.1 && finite32 a.2 && finite32 b.1 && finite32 b.2 then
    let r := compAdd a.1 a.2 b.1
    (r.1, add32 r.2 b.2)
  else (add32 (add32 (add32 a.1 a.2) b.1) b.2, 0)

/-- Adjacent items joined, one level of the reduction tree of R110. -/
def treeLevel {α : Type} (f : α → α → α) : List α → List α
  | a :: b :: l => f a b :: treeLevel f l
  | l => l

/-- The four levels over sixteen lanes (R110). -/
def tree16 {α : Type} (f : α → α → α) (l : List α) : List α :=
  treeLevel f (treeLevel f (treeLevel f (treeLevel f l)))

/-! Element types (R136). -/

/-- An element type of R136. -/
inductive Elt where
  | fp32 | bf16 | fp16 | e4m3 | e5m2 | e3m2 | e2m3 | e2m1
  | int8 | int4 | int16 | int32 | int64
  deriving DecidableEq, Repr

def Elt.ofCode : Nat → Option Elt
  | 0 => some .fp32
  | 1 => some .bf16
  | 2 => some .fp16
  | 3 => some .e4m3
  | 4 => some .e5m2
  | 5 => some .e3m2
  | 6 => some .e2m3
  | 7 => some .e2m1
  | 8 => some .int8
  | 9 => some .int4
  | 10 => some .int16
  | 11 => some .int32
  | 12 => some .int64
  | _ => none

def Elt.width : Elt → Nat
  | .fp32 => 32
  | .bf16 => 16
  | .fp16 => 16
  | .e4m3 => 8
  | .e5m2 => 8
  | .e3m2 => 6
  | .e2m3 => 6
  | .e2m1 => 4
  | .int8 => 8
  | .int4 => 4
  | .int16 => 16
  | .int32 => 32
  | .int64 => 64

/-- The floating-point format of an element type; none for the integer types. -/
def Elt.fmt? : Elt → Option Fmt
  | .fp32 => some Fmt.fp32
  | .bf16 => some Fmt.bf16
  | .fp16 => some Fmt.fp16
  | .e4m3 => some Fmt.e4m3
  | .e5m2 => some Fmt.e5m2
  | .e3m2 => some Fmt.e3m2
  | .e2m3 => some Fmt.e2m3
  | .e2m1 => some Fmt.e2m1
  | _ => none

def Elt.isFloat (t : Elt) : Bool := t.fmt?.isSome

/-- The number of whole elements in a 512-bit register: 85 for 6-bit types. -/
def Elt.count (t : Elt) : Nat := 512 / t.width

/-- The value of an element code. -/
def Elt.value (t : Elt) (b : Nat) : FVal :=
  match t.fmt? with
  | some f => decodeF f b
  | none => FVal.ofInt (toSigned t.width b)

/-- A value converted to an element of the type (R115, R116). -/
def Elt.convert (t : Elt) (mode : Rnd) (r : Nat) (v : FVal) : Nat :=
  match t.fmt? with
  | some f => encodeWith f false mode r v
  | none =>
    ofSigned t.width (v.toInt mode r (-(2 ^ (t.width - 1) : Nat)) ((2 ^ (t.width - 1) : Nat) - 1))

/-- emax of the element of an MX format (R112). -/
def Elt.emax : Elt → Int
  | .e4m3 => 8
  | .e5m2 => 15
  | .e3m2 => 4
  | .e2m3 => 2
  | .e2m1 => 2
  | _ => 0

/-- The value of an element of an MX block before its scale (R112, R114): int8 is read as int8 × 2^−6. -/
def Elt.mxValue (t : Elt) (b : Nat) : FVal :=
  match t with
  | .int8 => (FVal.ofInt (toSigned 8 b)).scale (-6)
  | t => t.value b

/-- The power of two an E8M0 scale stands for; none for NaN (R112). -/
def e8m0 (b : Nat) : Option Int := if b % 256 = 255 then none else some ((b % 256 : Nat) - 127)

/-- An MX element with its scale, as a value (R112). -/
def Elt.mxScaled (t : Elt) (scale b : Nat) : FVal :=
  match e8m0 scale with
  | none => .nan false
  | some k => (t.mxValue b).scale k

/-- The larger magnitude of finite values. -/
def magMax (a b : FVal) : FVal := if a.abs.lt b.abs then b.abs else a.abs

/-- MX block quantise (R114): the scale byte and the element codes. `r i` is the random value of element i. -/
def mxQuantise (t : Elt) (mode : Rnd) (r : Nat → Nat) (vs : List FVal) : Nat × List Nat :=
  if vs.all FVal.isFinite then
    let amax := vs.foldl magMax (.fin false 0 0)
    let k : Int :=
      match amax with
      | .fin _ m e => if m = 0 then -127 else max (-127) (min 127 ((Nat.log2 m : Int) + e - t.emax))
      | _ => -127
    ((k + 127).toNat, vs.zipIdx.map fun (v, i) =>
      match t with
      | .int8 => ofSigned 8 ((v.scale (6 - k)).toInt mode (r i) (-127) 127)
      | t =>
        match t.fmt? with
        | some f => encodeWith f true mode (r i) (v.scale (-k))
        | none => 0)
  else (255, vs.map fun _ => 0)

/-! Check values (R428–R431). -/

/-- The parameters of R428. -/
structure CrcPar where
  width : Nat
  poly : Nat
  init : Nat
  xorout : Nat
  refin : Bool
  refout : Bool
  deriving DecidableEq, Repr

/-- The low `n` bits of `v` in reverse order (R428). -/
def reflect : Nat → Nat → Nat
  | 0, _ => 0
  | n + 1, v => (v % 2) * 2 ^ n + reflect n (v / 2)

/-- One step of R428 for bit `i` of the byte. -/
def crcBit (p : CrcPar) (b reg i : Nat) : Nat :=
  let bit := (reg / 2 ^ (p.width - 1) + b / 2 ^ i) % 2
  let reg := (reg * 2) % 2 ^ p.width
  if bit = 1 then Nat.xor reg p.poly else reg

/-- One input byte of R428. -/
def crcByte (p : CrcPar) (reg : Nat) (b : Byte) : Nat :=
  let v := if p.refin then reflect 8 b.toNat else b.toNat
  [7, 6, 5, 4, 3, 2, 1, 0].foldl (crcBit p v) reg

def crcFeed (p : CrcPar) (reg : Nat) (bs : List Byte) : Nat := bs.foldl (crcByte p) reg

def crcValue (p : CrcPar) (reg : Nat) : Nat :=
  Nat.xor (if p.refout then reflect p.width reg else reg) p.xorout

/-- The fixed algorithms of R429. -/
def crcAlg : Nat → Option CrcPar
  | 1 => some ⟨32, 0x1EDC6F41, 0xFFFFFFFF, 0xFFFFFFFF, true, true⟩
  | 2 => some ⟨32, 0x04C11DB7, 0xFFFFFFFF, 0xFFFFFFFF, true, true⟩
  | 3 => some ⟨64, 0xAD93D23594C93659, 0xFFFFFFFFFFFFFFFF, 0xFFFFFFFFFFFFFFFF, true, true⟩
  | 4 => some ⟨16, 0x1021, 0xFFFF, 0, false, false⟩
  | 5 => some ⟨8, 0x07, 0, 0, false, false⟩
  | _ => none

/-- The parameters that a CHM block or a CHECK selects, or none where R430 refuses them. -/
def crcSelect (alg : Nat) (par : CrcPar) : Option CrcPar :=
  if alg = 0 then
    if 8 ≤ par.width ∧ par.width ≤ 64 ∧ par.poly ≠ 0 ∧ par.poly < 2 ^ par.width ∧ par.init < 2 ^ par.width
        ∧ par.xorout < 2 ^ par.width then some par else none
  else if par = ⟨0, 0, 0, 0, false, false⟩ then crcAlg alg
  else none

/-- CRC-32C of a byte string: ALG 1 with no prefix. -/
def crc32c (bs : List Byte) : Nat :=
  let p : CrcPar := ⟨32, 0x1EDC6F41, 0xFFFFFFFF, 0xFFFFFFFF, true, true⟩
  crcValue p (crcFeed p p.init bs)

end Sys2Proof.Machine
end

