-- ==== Sys2Proof/Machine/PartsCore.lean ====
section
/-!
DEFINITION. Program contexts, tabors, kits and the program store (chapters 4 and 5 of the spec).
-/

namespace Sys2Proof.Machine

/-- The Chime state of a program context (R432). -/
structure Chime where
  par : CrcPar
  reg : Nat
  deriving DecidableEq, Repr

/-- What an outstanding access of a context will do when it completes (R103, R140). -/
inductive PendKind where
  /-- A scalar load, or a remote load of 4 or 8 bytes: destination, SIZE. -/
  | loadX (rd size : Nat)
  /-- A 64 B load: destination. -/
  | loadV (rd : Nat)
  /-- A store: the bytes it writes, by place in the access. -/
  | store (bytes : FMap Byte)
  /-- An atomic: destination, AOP, 64 bits, operand, compare. -/
  | atom (rd aop : Nat) (a64 : Bool) (operand compare : Nat)
  /-- A flag-store, or a copy descriptor: nothing is written here. -/
  | post
  deriving DecidableEq, Repr

/-- A part of an access that lies in one line: the line of a chip of the domain, the byte in the line,
the bytes, and their place in the access (R161). -/
structure Part where
  key : Nat
  off : Nat
  n : Nat
  place : Nat
  deriving DecidableEq, Repr

/-- One outstanding access (R103). -/
structure Pend where
  /-- The number by which messages and packets refer to it. -/
  tag : Nat
  kind : PendKind
  /-- Parts that wait for their line; none for an access through a window outside the domain. -/
  parts : List Part
  /-- Data of the parts that have it, by place. -/
  got : FMap (List Byte)
  /-- The access goes through a window. -/
  remote : Bool
  /-- A window outside the domain: node, window, offset. -/
  win : Option (Nat × Nat × Nat)
  nf : Bool
  /-- The PTC entries through which it was admitted (R272). -/
  ptc : List Nat
  /-- The access has ended, with a status and data; it still has to be applied to the context. -/
  done : Option (Nat × List Byte)
  deriving DecidableEq, Repr

/-- Why a context does not run. -/
inductive Hold where
  | none
  /-- WAITC on a counter: reference, threshold, destination (R142). -/
  | counter (idx threshold rd : Nat)
  /-- WAITF on a word: PHA, comparison, value (R142). -/
  | word (pha cmp value : Nat)
  /-- A translation miss on a page of the tenant (R278). -/
  | miss (vpage : Nat)
  deriving DecidableEq, Repr

/-- What a context is doing: running, ready, held in the pipeline, or switched out (R155). -/
inductive CtxState where
  | running | ready | held | switchedOut
  deriving DecidableEq, Repr

/-- An entry of the window read buffer: the bytes of a line that have been read, by place (R174). -/
structure WrbEntry where
  node : Nat
  window : Nat
  line : Nat
  data : FMap Byte
  at_ : Nat
  deriving DecidableEq, Repr

/-- A program context: registers, scratch, fuel and what it waits for (R98, R131, R155). -/
structure Ctx where
  id : Nat
  tenant : Nat
  item : Nat
  handle : Nat
  /-- 0 tabor, 1 Gale, 2 Carillon (R148). -/
  profile : Nat
  code : List Nat
  pc : Nat
  fuel : Nat
  x : FMap Word
  v : FMap (BitVec 512)
  p : FMap Word
  ret : List Nat
  scratch : FMap Byte
  scratchBytes : Nat
  /-- The sixteen generator streams (R117). -/
  sr : List Nat
  /-- The physical tabor number, or 0 off the tabors. -/
  tabor : Nat
  chime : Option Chime
  state : CtxState
  hold : Hold
  holdSince : Nat
  /-- When the running slice began (R157). -/
  sliceStart : Nat
  pend : List Pend
  /-- Accesses for which later stores wait (FENCE PUB), and for which every later access waits (FENCE ACQ,
  FENCE FAB, acquires and atomics), by tag (R166). -/
  pubTags : List Nat
  acqTags : List Nat
  /-- The window read buffer is emptied before the next access. -/
  emptyWrb : Bool
  /-- Only accesses with a tag from here on may enter the window read buffer. -/
  wrbFrom : Nat
  wrb : List WrbEntry
  /-- The status with which the context ends once its accesses have completed (R144). -/
  ending : Option Nat
  /-- Places the context holds in its tabor: granules of scratch (R155). -/
  granules : Nat
  /-- The packet of a Gale program: header bytes and payload (R150). -/
  head : List Byte
  body : List Byte
  /-- The packet of a Gale run: source node, TC, PSN. -/
  pkt : Option (Nat × Nat × Nat)
  deriving DecidableEq, Repr

/-- An invocation that waits for a tabor (R155). -/
structure Invoke where
  item : Nat
  tenant : Nat
  handle : Nat
  fuel : Nat
  args : List Nat
  deriving DecidableEq, Repr

/-- A program copied, or being copied, into a tabor's instruction store (R156). -/
structure Resident where
  handle : Nat
  granules : Nat
  started : Nat
  ready : Bool
  deriving DecidableEq, Repr

/-- The program side of one tabor (R99, R155–R157). -/
structure Tabor where
  ctxs : List Ctx := []
  queue : List Invoke := []
  resident : List Resident := []
  /-- The home context's generator streams (R118); empty before they are first seeded. -/
  homeSr : List Nat := []
  deriving DecidableEq, Repr

/-- A verified image of the program store (R145, R152). -/
structure Image where
  tenant : Nat
  profile : Nat
  kind : Nat
  entry : Nat
  scratchKib : Nat
  fuelPerCall : Nat
  code : List Nat
  init : List Byte
  granules : Nat
  /-- UNLOAD_PROGRAM has marked it (R153). -/
  unloading : Bool
  deriving DecidableEq, Repr

/-- A sliver's fence in progress (R126). -/
structure Fence where
  /-- The slivers that the tabor homed. -/
  slivers : List Nat
  readout : Bool
  /-- Where each sliver goes, once chosen: sliver, tabor, adopted. -/
  dest : List (Nat × Nat × Bool)
  started : Nat
  deriving DecidableEq, Repr

/-- A Sliver Map entry (R122). -/
structure SliverEnt where
  kit : Nat
  pos : Nat
  adopted : Bool
  deriving DecidableEq, Repr

/-- Tabors, kits, the Sliver Map and the program store (R98–R160). DESIGN CHOICE: log entry 112. -/
structure Cores where
  /-- The Sliver Map; a sliver not listed is on position (sliver mod 64) of its native kit. -/
  map : FMap SliverEnt := []
  /-- Tabors fused off at manufacture. -/
  fused : NSet := []
  /-- FENCED_MAP (R129). -/
  fenced : NSet := []
  fenceClear : Bool := false
  fences : FMap Fence := []
  tabors : FMap Tabor := []
  /-- Kits left unclocked after three failed resets (R128). -/
  deadKits : NSet := []
  /-- Chime units out of service (R442). -/
  chimeLost : NSet := []
  images : FMap Image := []
  /-- Programs attached to windows: job × 65,536 + window, to a handle (R150). -/
  attach : FMap Nat := []
  /-- Gale program runs by port: the context, and the tag of the request it runs on (R150). -/
  gale : FMap Ctx := []
  nextCtx : Nat := 1
  nextPend : Nat := 1
  deriving DecidableEq, Repr

end Sys2Proof.Machine
end

