-- ==== Sys2Proof/Machine/PartsFab.lean ====
section
/-!
DEFINITION. Fabric ports, paths, windows, copies, counters, the Reply Ledger, handoffs and Drumline
(chapters 8, 9 and 17 of the spec).
-/

namespace Sys2Proof.Machine

/-- A fabric sub-port, numbered port × 2 + sub-port (R210–R216, R228). -/
structure SubPort where
  /-- 0 DOWN, 1 TRAINING, 2 LINK, 3 SECURE (R212). -/
  state : Nat := 0
  /-- The step of R213 that training has reached: 0 none, 1 waits for signal, 2 for auto-negotiation,
  3 for equalisation, 4 for PCS lock, 5 for a SAK. -/
  step : Nat := 0
  trainFrom : Nat := 0
  width : Nat := 0
  partnerMac : Nat := 0
  /-- The key id of the connectivity association in use, and of a second one (R555). -/
  ca : Nat := 0
  ca2 : Nat := 0
  neighbour : Option Neighbour := none
  neighbourAt : Nat := 0
  lldpDue : Nat := 0
  lldpFast : Nat := 0
  macsecDropAt : Option Nat := none
  malformedAt : Option Nat := none
  /-- The frame being sent: when it ends, its class, its tenant, its charge in bits. -/
  sending : Option (Nat × Nat × Option Nat × Nat) := none
  /-- Since when each credit has been brought up to date (R450). -/
  creditAt : Nat := 0
  /-- Class credits in bits, TC0 to TC7. -/
  classCredit : FMap Int := []
  tenantCredit : FMap Int := []
  deficit : FMap Nat := []
  /-- The class that DWRR is visiting, TC5 down to TC0; `dwrrIn` after its quantum was added. -/
  dwrrAt : Nat := 5
  dwrrIn : Bool := false
  /-- Last tenant and path served of each class, for the round robins (R447). -/
  lastTenant : FMap Nat := []
  lastPath : FMap Nat := []
  deriving DecidableEq, Repr

/-- Who waits for the result of a remote request. -/
inductive Origin where
  /-- A context's access: tabor, context, tag. -/
  | ctx (tabor ctx tag : Nat)
  | item (item : Nat)
  | copy (copy : Nat)
  /-- A step of a handoff: its number and step (R262). -/
  | handoff (n step : Nat)
  /-- A receiver's poll of a PREPARED record (R264). -/
  | poll (pha : Nat)
  /-- A flag-store or reply that nothing waits for but an event may report. -/
  | reply (tenant : Nat)
  /-- A round-complete flag-store of a round (R359). -/
  | flag (round : Nat)
  /-- A coherence message. -/
  | coh
  deriving DecidableEq, Repr

/-- A remote request that has not completed (R224, R225, R254, R260). -/
structure RemoteReq where
  origin : Origin
  tenant : Nat
  pkt : Pkt
  /-- The context that issued it, for R242: 0 for none. -/
  issuer : Nat
  firstSent : Nat
  lastSent : Nat
  acked : Bool
  /-- It was refused with STALE_ROUTE and waits to be sent again. -/
  refused : Bool
  /-- STALE_ROUTE refusals began; the generation waited for, if newer. -/
  staleFrom : Option Nat
  staleGen : Option Nat
  /-- A flag-store that waits for earlier stores (R242): their request numbers. -/
  after : List Nat
  failed : Option Nat
  /-- It travels as a record of a BULK message, by RTAG. -/
  bulk : Bool
  /-- It has been sent again as a new packet (R254, R260). -/
  resent : Bool
  /-- A reading item continues with the data. -/
  data : Option (List Byte)
  deriving DecidableEq, Repr

/-- A packet of a sending path. -/
structure TxPkt where
  pkt : Pkt
  req : Nat
  tenant : Option Nat
  sent : Bool
  /-- Its place in the order of arrival at the sub-ports. -/
  ord : Nat
  deriving DecidableEq, Repr

/-- A sending path, by node × 8 + TC (R222–R227). -/
structure TxPath where
  sub : Nat
  nextPsn : Nat
  /-- Unacknowledged and queued packets in PSN order. -/
  pkts : List TxPkt
  rtoNs : Nat
  timeouts : Nat
  advancedAt : Nat
  /-- Rate limiter in Mb/s, and its last cut and increase (R227). -/
  rate : Nat
  cutAt : Option Nat
  incAt : Nat
  /-- When the limiter allows the next packet. -/
  nextAt : Nat
  usedAt : Nat
  restart : Bool
  deriving DecidableEq, Repr

/-- A packet that has arrived in order and is not applied or failed; for a BULK message, its last packet
with the payload of them all (R241, R246). -/
structure OpenPkt where
  pkt : Pkt
  payload : List Byte
  /-- 0 waits for a Gale program, 1 is being performed, 2 is a flag that waits for earlier packets. -/
  stage : Nat
  /-- Pieces that have not ended. -/
  left : Nat
  failed : Option Nat
  /-- OK or REPLAYED of an atomic. -/
  status : Nat
  /-- Data of read pieces, by place. -/
  data : FMap (List Byte)
  /-- BULK: the byte of the next record. -/
  place : Nat
  /-- BULK: the reply so far, and the bytes of applied WRITE records. -/
  reply : List Byte
  landed : Nat
  since : Nat
  deriving DecidableEq, Repr

/-- A receiving path, by node × 8 + TC (R222, R223, R241). -/
structure RxPath where
  /-- The sub-port on which its packets arrive. -/
  sub : Nat
  start : Nat
  prevStart : Option Nat
  expected : Nat
  /-- In-order packets not acknowledged, and since when. -/
  unacked : Nat
  unackedAt : Nat
  ce : Bool
  /-- Applied packets are unreported since. -/
  unreported : Option Nat
  /-- Packets that have arrived and are not applied or failed, in PSN order. -/
  open_ : List OpenPkt
  lastAt : Nat
  nakAt : Option (Nat × Nat)
  /-- The first failure of each job since its last FLAG_STORE (R241). -/
  fails : FMap Nat
  /-- Packets of an incomplete BULK message. -/
  bulk : List Pkt
  deriving DecidableEq, Repr

/-- A Node Route Table entry (R229). -/
structure NrtEnt where
  addr : Nat
  ports : Nat
  direct : Bool
  deriving DecidableEq, Repr

/-- A Receive Window Table entry (R235). -/
structure Rwt where
  job : Nat
  window : Nat
  tenant : Nat
  closing : Bool
  /-- Rights: bit 0 R, 1 W, 2 ATOMIC, 3 FLAG. -/
  rights : Nat
  base : Nat
  lines : Nat
  ctrBase : Nat
  ctrCount : Nat
  /-- The lines whose recall the close in progress awaits. -/
  recalls : List Nat
  deriving DecidableEq, Repr

/-- An open gateway message (R244). -/
structure OpenMsg where
  node : Nat
  tc : Nat
  job : Nat
  bytes : List Byte
  reads : Nat
  since : Nat
  reqs : List Nat
  counter : Nat
  counted : Bool
  deriving DecidableEq, Repr

/-- A copy descriptor that has not completed (R248–R250). -/
structure Copy where
  port : Nat
  tenant : Nat
  origin : Origin
  words : List Nat
  running : Bool
  /-- Bytes sent so far. -/
  sentBytes : Nat
  /-- Requests not yet applied. -/
  out : List Nat
  /-- Writes to intercepted lines of this device that have not ended. -/
  local_ : Nat
  failed : Option Nat
  flagSent : Bool
  deriving DecidableEq, Repr

/-- A Reply Ledger entry (R255). -/
structure LedEnt where
  node : Nat
  job : Nat
  seq : Nat
  value : Nat
  status : Nat
  sliver : Nat
  at_ : Nat
  deriving DecidableEq, Repr

/-- A source record of the ledger (R255), by node × 2^20 + job. -/
structure LedSrc where
  low : Nat
  emptySince : Option Nat
  deriving DecidableEq, Repr

/-- A handoff at its owner (R262). -/
structure Handoff where
  item : Nat
  tenant : Nat
  /-- PHA of the local record. -/
  record : Nat
  pva : Nat
  epoch : Nat
  node : Nat
  window : Nat
  offset : Nat
  started : Nat
  /-- The outcome of the prepare: OK, or the status with which the handoff fails. -/
  prepared : Option Nat
  deriving DecidableEq, Repr

/-- A record that a peer left PREPARED at this device: since when, when the next read of the peer's word
is due, and the peer's window and offset (R264). -/
structure Prepared where
  since : Nat
  next : Nat
  node : Nat
  tenant : Nat
  job : Nat
  window : Nat
  offset : Nat
  /-- The peer's word, once read. -/
  word : Option Nat
  deriving DecidableEq, Repr

/-- The fabric side of the state (R207–R266, R444–R453). DESIGN CHOICE: log entry 112. -/
structure Fabric where
  subs : FMap SubPort := []
  tx : FMap TxPath := []
  rx : FMap RxPath := []
  /-- Frames that TC7 sends without a path of their own: ACK, NAK, APPLIED, RESPONSE, by sub-port. -/
  ctl : FMap (List (Nat × Pkt)) := []
  nextOrd : Nat := 0
  /-- Requests that wait for a free sending path, by number (R222). -/
  noPath : List Nat := []
  /-- Management frames of TC6 by sub-port: address and message bytes. -/
  mgmt : FMap (List FrameOut) := []
  reqs : FMap RemoteReq := []
  nextReq : Nat := 1
  nrt : FMap NrtEnt := []
  nrtStage : List Byte := []
  compStage : List Byte := []
  nodeId : Nat := 0xFFFF
  composition : Nat := 0
  generation : Nat := 0
  /-- Job to tenant, current and of the previous generation (R230, R259). -/
  jobs : FMap Nat := []
  prevJobs : FMap Nat := []
  prevGen : Option Nat := none
  commitAt : Nat := 0
  /-- The DOMAIN field of the composition in force (R230). -/
  domainList : List Nat := []
  /-- No XLT packet is accepted until then (R222). -/
  quietUntil : Option Nat := none
  /-- The last start PSN of each destination and TC (R223). -/
  lastStart : FMap Nat := []
  /-- The next SEQ of each destination node and job (R254). -/
  nextSeq : FMap Nat := []
  nextBulk : Nat := 0
  openMsgs : List OpenMsg := []
  rwt : FMap Rwt := []
  copies : FMap Copy := []
  counters : FMap Nat := []
  ctrOwner : FMap Nat := []
  ledger : List LedEnt := []
  sources : FMap LedSrc := []
  ledgerHold : Option Nat := none
  pressureAt : Option Nat := none
  handoffs : FMap Handoff := []
  /-- Records left PREPARED at this receiver, by the PHA of their word (R264). -/
  prepared : FMap Prepared := []
  /-- Requests that wait for a port's Gale processor, oldest first: node, TC, PSN, and the
  handle of the program attached at admission (R150, R151). -/
  galeWait : FMap (List (Nat × Nat × Nat × Nat)) := []
  deriving DecidableEq, Repr

end Sys2Proof.Machine
end

