-- ==== Sys2Proof/Machine/PartsHost.lean ====
section
/-!
DEFINITION. The parts of the state that belong to translation, tenants, the host ports, their
queues and their items (chapters 10 and 11 of the spec).
-/

namespace Sys2Proof.Machine

/-- A task that waits: an item, or a program context (R278). -/
inductive Task where
  | item (n : Nat)
  | ctx (tabor id : Nat)
  | copy (n : Nat)
  deriving DecidableEq, Repr

/-- A Pool Translation Cache entry (R270). Entries in INVALID are not listed. -/
structure PtcEnt where
  tenant : Nat
  /-- PVA[55:21]. -/
  vpn : Nat
  /-- 1 GiB. -/
  big : Bool
  r : Bool
  w : Bool
  /-- PHA[49:21]. -/
  ppn : Nat
  draining : Bool
  inflight : Nat
  last : Nat
  deriving DecidableEq, Repr

/-- An outstanding MISS (R278, R280). -/
structure Miss where
  tenant : Nat
  vpn : Nat
  write : Bool
  /-- The address missed. -/
  pva : Nat
  /-- The entry has been written to the request ring (or waits for a slot of it), with the time. -/
  writtenAt : Option Nat
  tasks : List Task
  deriving DecidableEq, Repr

/-- A grant (R275). -/
structure Grant where
  tenant : Nat
  first : Nat
  pages : Nat
  deriving DecidableEq, Repr

/-- A tenant (R294, R298, R299); a FREE tenant is not listed. -/
structure Tenant where
  /-- 1 ACTIVE, 2 DESTROYING. -/
  state : Nat
  cls : Nat
  quota : Nat
  /-- The number of the XTS key drawn at create (R552). -/
  key : Nat
  /-- Pipeline time charged in this window, in ns (R298). -/
  charge : Nat
  held : Bool
  deriving DecidableEq, Repr

/-- A withdrawal that has not ended: of INVALIDATE, INVALIDATE_TENANT, EXTENT_REVOKE,
TENANT_DESTROY, or a window close of WINDOW_CLOSE (R240, R285, R287, R289). -/
structure Withdrawal where
  port : Nat
  op : Nat
  tenant : Nat
  tag : Nat
  start : Nat
  /-- PTC entries that still drain. -/
  ents : List Nat
  /-- RWT keys whose close has not ended. -/
  windows : List Nat
  /-- First page and page count of a revocation. -/
  first : Nat
  pages : Nat
  /-- What is still to come of TENANT_DESTROY: 1 re-encryption. -/
  later : Bool
  deriving DecidableEq, Repr

/-- An entry of a port's ATS translation cache (R291). -/
structure AtcEnt where
  fn : Nat
  /-- PASID + 1, or 0 for none. -/
  pasid : Nat
  /-- 4 KiB page of the host address. -/
  page : Nat
  r : Bool
  w : Bool
  addr : Nat
  last : Nat
  deriving DecidableEq, Repr

/-- An ATS Translation Request or Page Request under way (R292). -/
structure AtsReq where
  port : Nat
  fn : Nat
  pasid : Nat
  page : Nat
  write : Bool
  /-- The translation was refused: a Page Request is owed or has been sent. -/
  refused : Bool
  /-- A Page Request has been sent, with the time. -/
  pri : Option Nat
  tasks : List Nat
  deriving DecidableEq, Repr

/-- Translation and tenants (R267–R301). DESIGN CHOICE: log entry 112. -/
structure Trans where
  ptc : FMap PtcEnt := []
  nextEnt : Nat := 1
  misses : FMap Miss := []
  nextTag : Nat := 1
  grants : FMap Grant := []
  tenants : FMap Tenant := []
  withdrawals : FMap Withdrawal := []
  nextWd : Nat := 1
  /-- Each port's ATS translation cache. -/
  atc : FMap (List AtcEnt) := []
  ats : FMap AtsReq := []
  quotaStart : Nat := 0
  chargedAt : Nat := 0
  /-- Fills that wait for a way of their set (R274). -/
  waitFill : List PtcEnt := []
  /-- Keys drawn (R553). -/
  keys : Nat := 0
  deriving DecidableEq, Repr

/-- A queue or ring of a function (R306–R312, R314, R315). DESIGN CHOICE: log entry 20. -/
structure Ring where
  base : Nat := 0
  sizeLog2 : Nat := 0
  enable : Bool := false
  /-- 0 DISABLED, 1 ACTIVE, 2 DRAINING, 3 ERROR. -/
  qstate : Nat := 0
  /-- SQ: next entry to fetch. CQ: slots below it are free again. -/
  head : Nat := 0
  /-- SQ: the tail. CQ: next slot to write. -/
  tail : Nat := 0
  phase : Bool := true
  cq : Nat := 0
  pasid : Nat := 0
  pasidEn : Bool := false
  irqEn : Bool := false
  irqCount : Nat := 1
  irqTime : Nat := 0
  /-- Entries written and not signalled, and when the oldest was written. -/
  unsig : Nat := 0
  oldest : Nat := 0
  deriving DecidableEq, Repr

/-- A function of a port: 0 is the physical function, n is VF n. PRESUMED: log entry 19. -/
structure HostFn where
  bme : Bool := false
  sq : FMap Ring := []
  cq : FMap Ring := []
  /-- The MSI-X table, by dword. -/
  msix : FMap Nat := []
  pba : NSet := []
  /-- The queue from which entries were last fetched (R318). -/
  lastQ : Nat := 7
  deriving DecidableEq, Repr

/-- A completion that waits in the spill area, or is written to a queue (R324, R327). -/
structure Cpl where
  fn : Nat
  cq : Nat
  sq : Nat
  cid : Nat
  status : Nat
  r0 : Nat
  r1 : Nat
  deriving DecidableEq, Repr

/-- An entry for the request ring: a MISS by its tag, or a RESULT (R282). -/
inductive ReqEnt where
  | miss (tag tenant : Nat) (write : Bool) (pva : Nat)
  | result (status tenant tag : Nat)
  deriving DecidableEq, Repr

/-- A request to host memory (R329). -/
inductive HostReq where
  | write (fn addr : Nat) (bytes : List Byte)
  | read (fn tag addr len : Nat)
  deriving DecidableEq, Repr

/-- A host port (R268, R302, R313, R327–R329). DESIGN CHOICE: log entry 20. -/
structure HostPort where
  up : Bool := false
  fns : FMap HostFn := []
  reqRing : Ring := {}
  cmdRing : Ring := {}
  /-- Request ring entries that wait for a slot, oldest first. -/
  waiting : List ReqEnt := []
  /-- The spill area, oldest first. -/
  spill : List Cpl := []
  /-- Requests sent, oldest first: writes, and reads without a completion. -/
  sent : List HostReq := []
  /-- Requests to re-issue when the link returns. -/
  replay : List HostReq := []
  /-- Requests made while the link is down, sent after it returns. -/
  held : List HostReq := []
  /-- Round-robin position of the fetch: function, queue, and entries taken in this turn (R318). -/
  rr : Nat × Nat × Nat := (0, 0, 0)
  deriving DecidableEq, Repr

/-- What an item waits for. -/
inductive Wait where
  | none
  /-- A MISS, by tag (R278). -/
  | miss (tag : Nat)
  /-- An ATS request, by tag (R292). -/
  | ats (tag : Nat)
  /-- Data of host memory, by tag (R329). -/
  | host (tag : Nat)
  /-- Remote requests (R170); they are listed in the item. -/
  | remote
  /-- Cumulus: the landing counter; WAIT_US; ownership; dropped slots (R420, R423–R425). -/
  | landing (since : Nat)
  | key (since : Nat)
  | own (since : Nat)
  | space (since : Nat)
  /-- A program, a round, a table, an index, a store, a copy or a drain, which ends the item itself. -/
  | engine
  deriving DecidableEq, Repr

/-- Where an item comes from. -/
inductive ItemSrc where
  | host (port fn q cid : Nat)
  /-- A Cumulus request line (R419): its store, and the reply's node, window and offset. -/
  | line (store node window offset : Nat)
  deriving DecidableEq, Repr

/-- A fetched item or accepted request line; its record survives every reset (R472). -/
structure Item where
  src : ItemSrc
  tenant : Nat
  opcode : Nat
  ordered : Bool
  /-- Words 0–7, and the extension's words 0–7 at 8–15. -/
  words : List Nat
  started : Bool := false
  /-- A Function Level Reset has ended it: its completion is discarded (R330). -/
  discard : Bool := false
  effect : Bool := false
  /-- How far the item has come, in units of its own. -/
  prog : Nat := 0
  wait : Wait := .none
  data : List Byte := []
  /-- Remote requests that have not completed. -/
  out : List Nat := []
  /-- The status with which it ends, once R170 holds. -/
  ended : Option Nat := none
  r0 : Nat := 0
  r1 : Nat := 0
  /-- Numbers that the item's engine keeps: pinned version, epoch, slot, counts. -/
  regs : FMap Nat := []
  deriving DecidableEq, Repr

/-- The host side (R302–R334). -/
structure HostSide where
  ports : FMap HostPort := []
  items : FMap Item := []
  nextItem : Nat := 1
  nextRead : Nat := 1
  deriving DecidableEq, Repr

end Sys2Proof.Machine
end

