-- ==== Sys2Proof/Machine/PartsMgmt.lean ====
section
/-!
DEFINITION. The parts of the state that belong to power, boot, the object dictionary, and
recovery (chapters 18 to 22 of the spec).
-/

namespace Sys2Proof.Machine

/-- Supplies, reference clock, control pins, shedding and Barometer (R495–R510, R563–R574).
DESIGN CHOICE: log entry 4. -/
structure Power where
  /-- Every supply is within tolerance (R567). -/
  supply : Bool := true
  /-- REFCLK_25M runs (R570). -/
  refclk : Bool := true
  /-- RESET_N is low (R569, R571). -/
  resetLow : Bool := false
  /-- PWR_WARN_N is low (R505, R571). -/
  warnLow : Bool := false
  /-- PWR_SAFE is high (R506, R571). -/
  pwrSafe : Bool := false
  /-- FAULT_N is low (R486, R571). -/
  faultLow : Bool := false
  /-- The CAN node number sampled from the straps (R572). -/
  canNode : Nat := 0
  /-- HBM and DDR5 are in self-refresh (R486, R506, R569). -/
  dramSelfRefresh : Bool := false
  /-- DRAM contents are undefined since a RESET_N pulse under 200 µs (R569). -/
  dramEpoch : Nat := 0
  /-- How far VDD_CORE at each kit is below its setpoint, in mV; kits not listed are sound (R504). -/
  sag : FMap Nat := []
  /-- The deepest sag that still waits for its 2 µs, with the time it began (R504). -/
  sagSince : Option Nat := none
  /-- The shedding stage, 0 to 4 (R503). -/
  stage : Nat := 0
  /-- The trigger of SHED_STATE: 0 none, 1 sag, 2 PWR_WARN_N, 3 THERMAL (R510). -/
  trigger : Nat := 0
  /-- The instant t0 of a running timed sequence (R505). -/
  timedFrom : Option Nat := none
  /-- When stage S3 was entered (R504, R505). -/
  s3At : Nat := 0
  /-- The steps of S4: 0 not in S4, 1 flushing, 2 Frost commits, 3 PWR_SAFE (R506). -/
  s4Phase : Nat := 0
  /-- Since when the conditions for lifting have held (R508). -/
  holdSince : Option Nat := none
  /-- Every sensor read below 95 °C in the last temperature period (R508). -/
  cool : Bool := true
  /-- Kit setpoints in mV (R499). -/
  setpoint : FMap Nat := []
  /-- The VDD_CORE request on AVSBus in mV; 0 before it is first written (R566). -/
  avsRequest : Nat := 0
  /-- Kit clocks in MHz (R499). -/
  freq : FMap Nat := []
  /-- Power caps in MHz; unlisted kits are uncapped (R500). -/
  powerCap : FMap Nat := []
  /-- Thermal caps in MHz (R502). -/
  thermalCap : FMap Nat := []
  /-- Kits held at 0.6 GHz because a sensor read 110 °C (R502). -/
  protect : NSet := []
  /-- Until when a kit's clock is stretched after a droop (R499). -/
  droopUntil : FMap Nat := []
  /-- Idle slots of every 16 at the arbiters, for package power (R500). -/
  idleSlots : Nat := 0
  /-- Idle slots of every 16 on the pseudo-channels of a hot stack (R502). -/
  hbmIdle : FMap Nat := []
  /-- The domains whose fast clock is stopped, by `ClkDomain.key` (R497). -/
  asleep : NSet := []
  /-- Boot holds because PWR_WARN_N came before READY (R569). -/
  bootHeld : Bool := false
  deriving DecidableEq, Repr

/-- What the device keeps of the image it runs (R545). -/
structure ImgInfo where
  version : Nat := 0
  svn : Nat := 0
  keyIndex : Nat := 0
  bodyDigest : List Byte := []
  deriving DecidableEq, Repr

/-- One copy of the configuration store (R547). -/
structure CfgCopy where
  seq : Nat := 0
  nums : FMap Nat := []
  octs : FMap (List Byte) := []
  tenantShapers : FMap (Nat × Nat × Nat) := []
  classShapers : FMap (Nat × Nat × Nat) := []
  deriving DecidableEq, Repr

/-- Boot, firmware, keys, attestation and registration (R540–R562). DESIGN CHOICE: log entry 3. -/
structure Boot where
  /-- BOOT_STAGE: 0 ISLAND, 1 IMAGE, 2 TRAINING, 3 MOUNT, 4 READY, 5 RECOVERY, 6 FAILED (R561). -/
  stage : Nat := 0
  /-- Frost has mounted and step 6 of R540 is running. -/
  mounted : Bool := false
  running : Option ImgInfo := none
  /-- The firmware image region of the NOR (R544); empty for an erased one. -/
  nor : List Byte := []
  /-- The staged image (R548). -/
  staged : List Byte := []
  /-- FW_STATE: 0 NONE, 1 STAGED, 2 PROGRAMMING, 3 PROGRAMMED (R561). -/
  fwState : Nat := 0
  svnFused : Nat := 0
  /-- ROOT_KEYS_REVOKED (R562). -/
  revoked : Nat := 0
  /-- The fused root key digests of slots 0 to 3 (R546). -/
  rootDigests : FMap (List Byte) := []
  serial : List Byte := List.replicate 16 0
  romVersion : Nat := 0
  /-- The certificate chain of the identity region (R544, R556). -/
  certChain : List Byte := []
  bootId : Nat := 0
  debugUnlocked : Bool := false
  /-- Fabric keys by slot: key id and key (R555). -/
  fabricKeys : FMap (Nat × List Byte) := []
  /-- The copies 0 and 1 of the configuration store (R547). -/
  cfg : FMap CfgCopy := []
  /-- P writes accepted and not yet stored: the time of the oldest (R515). -/
  cfgPendingSince : Option Nat := none
  /-- The P values that the next save writes (R515, R547). They differ from the values in force after
  RESTORE_DEFAULTS (R538). -/
  accepted : CfgCopy := {}
  /-- The stack that holds the recovery staging buffer (R550). -/
  recoveryStack : Option Nat := none
  /-- REG_STATE: 0 IDLE, 1 DELAY, 2 SENDING, 3 ACKNOWLEDGED (R561). -/
  regState : Nat := 0
  regAttempt : Nat := 0
  regDue : Nat := 0
  regWarm : Bool := false
  /-- Registration is due to start, once the device is in READY and a sub-port in SECURE (R559). -/
  regOwed : Bool := false
  /-- MGMT_PEERS was all zero at an attempt, so registration resumes when one is written (R559). -/
  regWaits : Bool := false
  /-- The SPDM version agreed on each port's DOE, once algorithms are negotiated (R556). -/
  spdm : FMap Nat := []
  deriving DecidableEq, Repr

/-- A segmented transfer in progress (R527). -/
structure SegXfer where
  who : Session
  req : OdpMsg
  /-- The device sends the data (a segmented read). -/
  sending : Bool
  total : Nat
  buf : List Byte
  /-- Next SEQ expected (a write), or first SEQ not acknowledged (a read). -/
  next : Nat
  /-- Segments sent so far (a read). -/
  sent : Nat
  /-- A gap has been answered and the resend is awaited. -/
  gap : Bool
  lastAt : Nat
  deriving DecidableEq, Repr

/-- A kept response (R526). -/
structure Kept where
  who : Session
  req : OdpMsg
  resp : OdpMsg
  at_ : Nat
  deriving DecidableEq, Repr

/-- A lock on an area of R516, by the area's place in that table (R528). -/
structure LockRec where
  who : Session
  lastAt : Nat
  deriving DecidableEq, Repr

/-- The ODP mailbox of a port (R531). DESIGN CHOICE: log entry 20. -/
structure Mailbox where
  /-- 0 IDLE, 1 BUSY, 2 DONE. -/
  state : Nat := 0
  overrun : Bool := false
  notifyLost : Bool := false
  respLength : Nat := 0
  notifyTail : Nat := 0
  notifyHead : Nat := 0
  /-- A request has been handed over and waits to be taken. -/
  handed : Option Nat := none
  /-- The request buffer, by byte; unlisted bytes are zero. -/
  reqBuf : FMap Byte := []
  respBuf : List Byte := []
  /-- The 64 notification slots. -/
  ring : FMap (List Byte) := []
  /-- Messages of the device that wait for the response buffer. -/
  waiting : List OdpMsg := []
  deriving DecidableEq, Repr

/-- A firing of a trigger (R536). -/
structure Firing where
  slot : Nat
  kind : Nat
  code : Nat
  arg0 : Nat
  arg1 : Nat
  deriving DecidableEq, Repr

/-- Something the device has sent out, in the order sent. Outside agents read it; no rule reads it back.
DESIGN CHOICE: log entry 110. -/
inductive Output where
  /-- An ODP frame on CAN FD: identifier and message (R529). -/
  | can (ident : Nat) (m : OdpMsg)
  /-- An SPDM response over DOE: port, response code, payload (R556). -/
  | spdm (port code : Nat) (bytes : List Byte)
  /-- An MSI-X message: port, function, vector (R316). -/
  | msix (port fn vector : Nat)
  /-- A frame of a sub-port (R219): sub-port and its bytes or packet, by a tag. -/
  | frame (sub : Nat) (f : FrameOut)
  /-- A PCIe request or message of the device other than a memory write: port, kind, operands (R292, R293). -/
  | pcie (port kind a b c : Nat)
  deriving DecidableEq, Repr

/-- Carillon, the dictionary's values and ODP (R511–R539). -/
structure Dict where
  /-- Numeric values written, by index × 256 + subindex; an unlisted one is at its default. -/
  num : FMap Nat := []
  /-- OCTETS and STR32 values written. -/
  oct : FMap (List Byte) := []
  segs : List SegXfer := []
  kept : List Kept := []
  /-- Locks by area place. -/
  locks : FMap LockRec := []
  mailbox : FMap Mailbox := []
  firings : List Firing := []
  /-- The script that runs: slot and its context. -/
  script : Option (Nat × Ctx) := none
  /-- When each PERIOD trigger next elapses. -/
  periodDue : FMap Nat := []
  triggerLost : Bool := false
  /-- Shaper entries that differ from the default: IDLE_SLOPE, HI_CREDIT, LO_CREDIT; tenant shapers by
  tenant, class shapers by port × 8 + class (R451). -/
  tenantShapers : FMap (Nat × Nat × Nat) := []
  classShapers : FMap (Nat × Nat × Nat) := []
  lastStatus : FMap Nat := []
  verifyResult : FMap Nat := []
  /-- LAST_VERIFY of each tenant (R160). -/
  lastVerify : FMap Nat := []
  deriving DecidableEq, Repr

/-- A fault record (R476). -/
structure FaultRec where
  cause : Nat
  domain : Nat
  /-- 0 PENDING, 1 RUNNING, 2 DONE, 3 SUBSUMED, 4 FAILED. -/
  action : Nat
  handler : Nat
  index : Nat
  seq : Nat
  detected : Nat
  ended : Nat
  detail : Nat
  deriving DecidableEq, Repr

/-- An event record (R490). -/
structure EvRec where
  code : Nat
  subject : Nat
  seq : Nat
  time : Nat
  arg0 : Nat
  arg1 : Nat
  deriving DecidableEq, Repr

/-- A reset that Tocsin has decided and that has not ended (R469, R481). -/
structure Reset where
  domain : Nat
  index : Nat
  cause : Nat
  /-- SEQ of its fault record; 0 for a reset without a record. -/
  seq : Nat
  start : Nat
  /-- Whether its first step has been performed (RUNNING). -/
  run : Bool
  /-- The record of the tabor fences that this reset performs on its way (R481). -/
  fences : List Nat
  /-- The contexts and items that a tenant-context reset ends. -/
  tasks : List Task
  deriving DecidableEq, Repr

/-- Events, faults and the recovery sequencers (R466–R494). -/
structure Recov where
  queueA : List FaultRec := []
  queueB : List FaultRec := []
  /-- The record of a chip warm reset with cause QUEUE_OVERFLOW, which no queue could take (R480). -/
  overflow : Option FaultRec := none
  /-- The 256 most recent records that left a queue, by SEQ mod 256. -/
  history : FMap FaultRec := []
  faultSeq : Nat := 0
  /-- The event log, by SEQ mod 1,024. -/
  log : FMap EvRec := []
  newest : Nat := 0
  overrun : Bool := false
  resets : List Reset := []
  /-- Resets that ended DONE and count toward escalation: domain, index, end time (R487). -/
  counted : List (Nat × Nat × Nat) := []
  /-- Failed kit resets: kit and time (R128, R481). -/
  kitFails : List (Nat × Nat) := []
  /-- DEVICE_STATE: 0 IN_SERVICE, 1 SALVAGE, 2 OUT_OF_SERVICE (R494). -/
  deviceState : Nat := 0
  oosReason : Nat := 0
  oosArg : Nat := 0
  /-- An out-of-service transition is decided and its warm reset has not ended (R483). -/
  oosRunning : Bool := false
  /-- TOCSIN_STATE: 0 running, 1 restarting, 2 failed, for A and B. -/
  tocsinA : Nat := 0
  tocsinB : Nat := 0
  beatA : Nat := 0
  beatB : Nat := 0
  restartedA : Option Nat := none
  /-- The island has been declared failed (R484). -/
  islandFailed : Bool := false
  /-- The hardwired path has fired (R486). -/
  quiesced : Bool := false
  quiesceOrdered : Bool := false
  /-- The step of R471 that a chip warm reset has reached: 0 none, 1 to 5. -/
  warmStep : Nat := 0
  deriving DecidableEq, Repr

end Sys2Proof.Machine
end

