-- ==== Sys2Proof/Machine/PartsStore.lean ====
section
/-!
DEFINITION. The parts of the state that belong to the range, its tiers, and Frost
(chapters 2 and 3 of the spec).
-/

namespace Sys2Proof.Machine

/-- A home map entry (R35). -/
structure HomeEntry where
  /-- 0 absent, 1 HBM, 2 DDR5, 3 flash. -/
  tier : Nat := 0
  /-- 0 HOME, 1 MOVING, 2 SWITCHING, 3 FREEING. -/
  state : Nat := 0
  /-- The class the page is given: 0 NONE, 1 MIRROR, 2 PARITY. -/
  prot : Nat := 0
  hint : Nat := 0
  hintTier : Nat := 0
  lost : Bool := false
  heat : Nat := 0
  moveSlot : Nat := 0
  slot : Nat := 0
  mirror : Nat := 0
  /-- The arrangement the page's DRAM home has; it differs from `prot` until a conversion move (R50). -/
  arranged : Nat := 0
  deriving DecidableEq, Repr

/-- A Drift move record (R37–R41). -/
structure Move where
  page : Nat
  srcTier : Nat
  srcSlot : Nat
  srcMirror : Nat
  srcArr : Nat
  dstTier : Nat
  dstSlot : Nat
  dstMirror : Nat
  dstArr : Nat
  /-- The chunk whose copy is in progress, 0 to 31; 32 when no copy runs. -/
  chunk : Nat
  /-- The first pass of 32 chunks has ended. -/
  passed : Bool
  /-- Dirty bits of the 32 chunks. -/
  dirty : NSet
  started : Nat
  /-- Returns from SWITCHING to MOVING. -/
  backs : Nat
  /-- When the first stalled request began to wait. -/
  stallSince : Option Nat
  deriving DecidableEq, Repr

/-- A place in a DRAM tier or in flash that is freed when its in-flight count reaches zero (R32, R42). -/
structure FreeRec where
  page : Nat
  mirror : Nat
  arranged : Nat
  deriving DecidableEq, Repr

/-- What is fitted on the board and what the parts report (R21, R27, R64, R577).
DESIGN CHOICE: log entries 2, 33. -/
structure Board where
  /-- 2 MiB slots of each HBM stack below its reserved area. -/
  stackSlots : FMap Nat := (List.range 8).map fun i => (i, 20840)
  /-- Bytes of each HBM stack. -/
  stackBytes : Nat := 48000000000
  /-- 2 MiB slots of each RDIMM, by channel × 2 + DIMM. -/
  dimmSlots : FMap Nat := (List.range 16).map fun i => (i, 122070)
  dimmBytes : FMap Nat := (List.range 16).map fun i => (i, 256000000000)
  /-- Dies fitted on each NAND channel. -/
  dies : FMap Nat := (List.range 48).map fun i => (i, 16)
  dieBytes : Nat := 250000000000
  /-- Spare blocks of each parity group, as Frost counts them at its first mount (R83). -/
  spareBlocks : FMap Nat := [(0, 1000), (1, 1000), (2, 1000)]
  /-- MAC address of each fabric sub-port. -/
  macs : FMap Nat := []
  deriving DecidableEq, Repr

/-- The range, the home map and Drift (R26–R63). -/
structure Tiers where
  /-- Home map copy A; a page not listed is absent and never set. -/
  homeA : FMap HomeEntry := []
  homeB : FMap HomeEntry := []
  rangePages : Nat := 0
  hbmSlots : Nat := 0
  ddrSlots : Nat := 0
  flashSlots : Nat := 0
  /-- Slots that are not free, by `slotKey`. -/
  used : NSet := []
  /-- In-flight reference counts, by `slotKey` (R42). -/
  refs : FMap Nat := []
  /-- Slots to be freed when their count reaches zero. -/
  freeing : FMap FreeRec := []
  /-- PARITY groups that hold a share, by tier × 2^32 + g, with the slot of the share (R51, R55). -/
  parity : FMap Nat := []
  moves : FMap Move := []
  /-- Moves selected in this round and not started: page and destination tier (R46). -/
  plan : List (Nat × Nat) := []
  /-- Moves started in this round. -/
  startedNow : Nat := 0
  /-- Slots that the working memory of rounds holds (R343). -/
  workSlots : Nat := 0
  /-- Modules that are lost (R54). -/
  lostModules : NSet := []
  /-- Uncorrectable lines: module, line, time (R54). -/
  ueLog : List (Nat × Nat × Nat) := []
  /-- Pages that depend on a lost module, with the module (R55). -/
  rebuild : FMap Nat := []
  /-- Pages that wait for a free slot after a module loss (R55). -/
  waiting : NSet := []
  /-- Lost modules whose REBUILD_DONE has not been raised. -/
  owing : NSet := []
  lowArmed : Bool := true
  /-- One sample counter for each sliver's home tabor (R45). -/
  samples : FMap Nat := []
  drained : Bool := false
  /-- Items of a running TIER_DRAIN (R60). -/
  drainItems : List Nat := []
  /-- Pages whose contents are undefined since a short RESET_N pulse: the pulse's number (R569). -/
  undef : FMap Nat := []
  /-- Bytes of such pages written since. -/
  written : NSet := []
  /-- Poisoned lines, by PHA / 64. -/
  poison : NSet := []
  /-- Pages all of whose lines are poisoned, but for those written since (R55). -/
  poisonPages : NSet := []
  cleared : NSet := []
  deriving DecidableEq, Repr

/-- A unit of the write buffer (R75, R76). DESIGN CHOICE: log entry 96. -/
structure BufUnit where
  last : Nat
  dirty : Bool
  programming : Bool
  /-- A write came while the unit was being programmed. -/
  rewritten : Bool
  filling : Bool
  deriving DecidableEq, Repr

/-- A journal record (R58, R88, R90). -/
inductive JRec where
  | home (page : Nat) (e : HomeEntry)
  | owner (page : Nat) (tenant : Option Nat)
  | intent (page : Nat)
  /-- A dirty line written as a record at S4 (R506). -/
  | line (pha : Nat)
  deriving DecidableEq, Repr

/-- Frost's tables as the newest checkpoint holds them. -/
structure Checkpoint where
  homes : FMap HomeEntry
  owners : FMap Nat
  groups : FMap Nat
  deriving DecidableEq, Repr

/-- A parity group (R67, R83). -/
structure Group where
  /-- 0 NORMAL, 1 NO_NEW_HOMES, 2 READ_ONLY, 3 DEGRADED. -/
  state : Nat := 0
  spares : Nat := 0
  spares0 : Nat := 0
  warned : Bool := false
  stopped : Bool := false
  readOnly : Bool := false
  deriving DecidableEq, Repr

/-- A unit read in progress (R70, R71). -/
structure UnitRead where
  retries : Nat
  rebuilding : Bool
  deriving DecidableEq, Repr

/-- A die (R84). -/
structure Die where
  busyAt : List Nat := []
  fails : Nat := 0
  lost : Bool := false
  rebuilt : Bool := false
  deriving DecidableEq, Repr

/-- Frost (R64–R97). -/
structure Frost where
  /-- The write buffer, by unit number PHA / 16,384. -/
  buf : FMap BufUnit := []
  groups : FMap Group := [(0, {}), (1, {}), (2, {})]
  /-- The parity group in which each flash-homed page lies (R578). -/
  pageGroup : FMap Nat := []
  /-- Key owners of pages (R88). -/
  owner : FMap Nat := []
  /-- Pages with a committed write intent (R90). -/
  intents : NSet := []
  /-- Records gathered and not yet committed. -/
  pend : List JRec := []
  /-- Records committed since the newest checkpoint. -/
  journal : List JRec := []
  checkpoint : Option Checkpoint := none
  commitRecord : Bool := false
  closeRecord : Bool := false
  closing : Bool := false
  closed : Bool := false
  /-- LAST_MOUNT: 0 CLEAN, 1 HELD, 2 UNCLEAN (R95). -/
  lastMount : Nat := 0
  mounting : Bool := false
  /-- Supply was lost since the last mount: the home map is rebuilt from the journal (R58). -/
  afterLoss : Bool := false
  /-- Checkpoint or journal is present on the mounted dies (R95). -/
  present : Bool := false
  /-- RESERVE_PCT and SLC_BLOCKS_PER_DIE as of the last mount (R69, R97). -/
  reserve : Nat := 10
  slcBlocks : Nat := 64
  /-- Where each unit is programmed. -/
  loc : FMap FrostLoc := []
  reads : FMap UnitRead := []
  /-- Erased-and-programmed blocks: reads since the erase (R73). -/
  readCount : FMap Nat := []
  eraseCount : FMap Nat := []
  /-- Blocks whose erase has been ordered. -/
  erasing : NSet := []
  /-- Read offsets of each group of 64 blocks (R72). -/
  offsets : FMap Nat := []
  dies : FMap Die := []
  diesMounted : Nat := 0
  lostChannels : NSet := []
  /-- Pages of DEGRADED groups that are moved next because of a buffered unit (R85). -/
  moveNext : List Nat := []
  /-- Re-encryption of destroyed tenants' pages: tenant and pages left (R89). -/
  reencrypt : FMap (List Nat) := []
  deriving DecidableEq, Repr

end Sys2Proof.Machine
end

