-- ==== Sys2Proof/Machine/PartsSvc.lean ====
section
/-!
DEFINITION. The parts of the state that belong to the services and to Drumbeat (chapters 12 to 15
and 17 of the spec).
-/

namespace Sys2Proof.Machine

/-- Who wrote an intercepted line (R345, R419). -/
inductive Writer where
  /-- A context's store: tabor, context, tag. -/
  | ctx (tabor ctx tag : Nat)
  /-- A remote packet: node, TC, PSN. -/
  | packet (node tc psn : Nat)
  /-- A ROUND_CONTRIBUTE item. -/
  | item (n : Nat)
  /-- A copy descriptor whose destination is this device. -/
  | copy (n : Nat)
  deriving DecidableEq, Repr

/-- A write to an inbox or request-area line that its home has intercepted. -/
structure LineWrite where
  /-- PHA of the line. -/
  pha : Nat
  /-- The access covers the whole line. -/
  whole : Bool
  bytes : List Byte
  writer : Writer
  /-- The contributor's zero map marks it: counted, neither read nor added (R347). -/
  zero : Bool
  deriving DecidableEq, Repr

/-- A piece on its way to a unit home (R346, R348): values by element place; none for a zero line. -/
structure Piece where
  unit : Nat
  vals : FMap Nat
  /-- The unit's element count that the piece settles, for the count of R350. -/
  write : Nat
  deriving DecidableEq, Repr

/-- A unit of a round (R350–R355). -/
structure RUnit where
  acc : List Nat := []
  comp : List Nat := []
  /-- Elements received from each contributor, added up. -/
  got : Nat := 0
  /-- 0 gathering, 1 applied, 2 done. -/
  phase : Nat := 0
  skipped : Bool := false
  poisoned : Bool := false
  deriving DecidableEq, Repr

/-- A round (R341–R362). -/
structure Round where
  tenant : Nat
  id : Nat
  item : Nat
  /-- The words of the declare. -/
  words : List Nat
  units : FMap RUnit := []
  /-- Inbox lines accepted. -/
  bitmap : NSet := []
  pieces : FMap Piece := []
  nextPiece : Nat := 1
  /-- Pieces left of each accepted write, and the write's writer. -/
  writes : FMap (Nat × Writer) := []
  /-- Waiting block halves: by array × 2^40 + block, the 16 values of unit 0 and of unit 1. -/
  halves : FMap (FMap (List Nat)) := []
  /-- Contributor table: NODE, WINDOW, CONTRIB_SCALE, FLAG_OFFSET. -/
  table : List (Nat × Nat × Nat × Nat) := []
  /-- PHA of the inbox run, and its lines. -/
  inbox : Nat
  inboxLines : Nat
  /-- HBM slots of its working memory (R343). -/
  work : Nat := 0
  ptcs : List Nat := []
  /-- Start of the present STALL_S. -/
  stallFrom : Nat
  /-- The status of its end, once decided. -/
  ended : Option Nat := none
  /-- ROUND_STALLED has been raised. -/
  stalled : Bool := false
  /-- How many entries of the table have had their flag sent. -/
  flagNext : Nat := 0
  /-- Flag-stores outstanding, and failed. -/
  flags : List Nat := []
  flagsFailed : Nat := 0
  /-- The declare has completed. -/
  finished : Bool := false
  /-- The end of the hold, once the round is over (R361). -/
  holdUntil : Nat := 0
  deriving DecidableEq, Repr

/-- An embedding table descriptor (R368). -/
structure Desc where
  version : Nat
  code4 : Bool
  d : Nat
  rows : Nat
  rowsPva : Nat
  rowMode : Bool
  defPva : Nat
  deriving DecidableEq, Repr

/-- An embedding table (R368–R373). -/
structure Table where
  tenant : Nat
  id : Nat
  cur : Desc
  /-- Items that pin a descriptor, with it. -/
  pins : FMap Desc := []
  /-- TABLE_REPLACE items that wait: item and its new version. -/
  replacing : List (Nat × Nat) := []
  destroying : Option Nat := none
  deriving DecidableEq, Repr

/-- A look-up under way (R374–R380). -/
structure Lookup where
  desc : Desc
  /-- Bag and row index of each index, and its weight. -/
  idx : List (Nat × Nat × Option Nat)
  /-- Places of `idx` whose row has not been added. -/
  todo : NSet
  /-- Places that wait for an update to end (R377). -/
  wait : NSet := []
  sums : FMap (List Nat) := []
  sizes : List Nat
  bad : NSet := []
  defaulted : Nat := 0
  invalid : Nat := 0
  deriving DecidableEq, Repr

/-- An item of a Squall index (R392–R397). -/
structure VItem where
  label : Nat
  tag : Nat
  /-- Elements as stored, in VFMT codes. -/
  vec : List Nat
  list : Nat
  codes : List Nat
  b : Nat
  ins : Nat
  del : Option Nat := none
  refused : Bool := false
  freed : Bool := false
  edges : List Nat := []
  /-- Where its vector lies in the store, for poison: byte offset. -/
  off : Nat := 0
  deriving DecidableEq, Repr

/-- A Squall index (R389–R406). -/
structure Index where
  tenant : Nat
  id : Nat
  words : List Nat
  epoch : Nat := 0
  items : FMap VItem := []
  next : Nat := 0
  entry : Option Nat := none
  /-- Items stamped and not completed: item to stamp. -/
  stamped : FMap Nat := []
  /-- Stamp of an insert or delete admitted now. -/
  pending : Nat := 1
  /-- Waiting publishes, oldest first: the item, or 0 for the device's own. -/
  publishes : List Nat := []
  /-- Query epochs pinned: item to epoch. -/
  pins : FMap Nat := []
  /-- Any item has been stamped since the last publish. -/
  dirty : Bool := false
  failed : Bool := false
  destroying : Option Nat := none
  ptcs : List Nat := []
  deriving DecidableEq, Repr

/-- A slot of a Cumulus store (R415). -/
structure CSlot where
  bytes : Nat
  /-- Items that read the slot (R416). -/
  readers : List Nat := []
  /-- No key names it: it is freed when its readers have ended. -/
  old : Bool := false
  deriving DecidableEq, Repr

/-- A key of a Cumulus store (R415–R417, R425). -/
structure CKey where
  version : Nat
  slot : Nat
  segs : Nat
  pins : Nat := 0
  last : Nat
  /-- PVA of the ownership record it is bound to. -/
  own : Nat := 0
  deriving DecidableEq, Repr

/-- A Cumulus store (R412–R427). -/
structure Store where
  tenant : Nat
  id : Nat
  words : List Nat
  keys : FMap CKey := []
  /-- Slots by byte offset in the blocks' part of block space. -/
  slots : FMap CSlot := []
  /-- PHA of the request area, and its lines. -/
  req : Nat := 0
  reqLines : Nat := 0
  failed : Bool := false
  destroying : Option Nat := none
  ptcs : List Nat := []
  deriving DecidableEq, Repr

/-- A Drumbeat task (R460–R463). -/
structure Drum where
  /-- The origin T0, and the number of the next run. -/
  t0 : Nat := 0
  k : Nat := 0
  lastStart : Nat := 0
  lastEnd : Nat := 0
  running : Bool := false
  /-- TASK_BEHIND has been raised and the task has not regained its schedule. -/
  behind : Bool := false
  deriving DecidableEq, Repr

/-- A reply word that a warm reset owes (R421): node, window, offset, word, job, composition id. -/
structure OwedFlag where
  tenant : Nat
  node : Nat
  window : Nat
  offset : Nat
  word : Nat
  comp : Nat
  deriving DecidableEq, Repr

/-- The services and Drumbeat. -/
structure Svc where
  writes : FMap LineWrite := []
  nextWrite : Nat := 1
  rounds : FMap Round := []
  nextRound : Nat := 1
  tables : FMap Table := []
  nextTable : Nat := 1
  lookups : FMap Lookup := []
  indexes : FMap Index := []
  nextIndex : Nat := 1
  autoDue : Nat := 0
  stores : FMap Store := []
  nextStore : Nat := 1
  owed : List OwedFlag := []
  drums : FMap Drum := []
  suspended : Bool := false
  deriving DecidableEq, Repr

end Sys2Proof.Machine
end

