-- ==== Sys2Proof/Machine/State.lean ====
section
/-!
DEFINITION. The state of the device, the state after reset, and the reasons for which a command
may have no next state.
-/

namespace Sys2Proof.Machine

/-- Why the machine stops. -/
inductive Fault where
  /-- Raised by UNCORRECTABLE_LINE for an address that does not lie in the chip's range (R26, R28).
  Safe: no part of the device has such an address, so the event cannot happen. -/
  | absentAddress (pha : Nat)
  deriving DecidableEq, Repr

/-- Why a command is refused. -/
inductive Refusal where
  /-- Raised by `exec` for a command that the model gives no meaning, by its mnemonic. Safe: nothing
  can be proved of what such a command does. -/
  | notModelled (mnemonic : String)
  deriving DecidableEq, Repr

/-- The state of the device. -/
structure State where
  /-- Local time in ns (R496). -/
  now : Nat := 0
  /-- How many free values have been drawn. The model's own. -/
  freeCtr : Nat := 0
  /-- Commands that wait, first in first out. The model's own. -/
  pending : List Instr := []
  /-- What the device has sent out, oldest first. The model's own. -/
  out : List Output := []
  /-- The bytes of the range, by PHA, whichever tier holds them (R26, R29). -/
  mem : List Host.Cell := []
  board : Board := {}
  pw : Power := {}
  bt : Boot := {}
  od : Dict := {}
  rc : Recov := {}
  ti : Tiers := {}
  fr : Frost := {}
  co : Cores := {}
  ch : Coh := {}
  fa : Fabric := {}
  tr : Trans := {}
  ho : HostSide := {}
  sv : Svc := {}
  deriving DecidableEq, Repr

/-- The device right after a cold reset: RESET_N has just been deasserted on a powered board.
DESIGN CHOICE: log entries 1, 2, 3, 4, 8. -/
def State.reset : State := {}

def State.setNow (s : State) (v : Nat) : State := { s with now := v }
def State.setFreeCtr (s : State) (v : Nat) : State := { s with freeCtr := v }
def State.setPending (s : State) (v : List Instr) : State := { s with pending := v }
def State.setOut (s : State) (v : List Output) : State := { s with out := v }
def State.setMem (s : State) (v : List Host.Cell) : State := { s with mem := v }
def State.setPw (s : State) (v : Power) : State := { s with pw := v }
def State.setBt (s : State) (v : Boot) : State := { s with bt := v }
def State.setOd (s : State) (v : Dict) : State := { s with od := v }
def State.setRc (s : State) (v : Recov) : State := { s with rc := v }
def State.setTi (s : State) (v : Tiers) : State := { s with ti := v }
def State.setFr (s : State) (v : Frost) : State := { s with fr := v }
def State.setCo (s : State) (v : Cores) : State := { s with co := v }
def State.setCh (s : State) (v : Coh) : State := { s with ch := v }
def State.setFa (s : State) (v : Fabric) : State := { s with fa := v }
def State.setTr (s : State) (v : Trans) : State := { s with tr := v }
def State.setHo (s : State) (v : HostSide) : State := { s with ho := v }
def State.setSv (s : State) (v : Svc) : State := { s with sv := v }

end Sys2Proof.Machine
end

