-- ==== Sys2Proof/Machine/Objects.lean ====
section
/-!
DEFINITION. The rows of the object dictionary (the object tables of chapters 2 to 21), and the
values of the objects that the device's own rules read.
-/

namespace Sys2Proof.Machine

/-- One object: the index of its record (the first of `count` records), subindex, type (R512), access
(0 RO, 1 RW, 2 RWS, 3 WO, 4 TEN; R513), persistence P (R515), default, range, and least and
greatest length. `unset` marks a default that the device sets itself (R522). -/
structure OdRow where
  index : Nat
  count : Nat
  sub : Nat
  typ : Nat
  access : Nat
  persistent : Bool
  dflt : Nat
  lo : Nat
  hi : Nat
  len : Nat
  lenMax : Nat
  unset : Bool
  deriving DecidableEq, Repr

/-- The objects of record 0x3000. -/
def odRows3000 : List OdRow := [
  ⟨0x3000, 1, 0x00, 2, 0, false, 18, 0, 255, 1, 1, false⟩,
  ⟨0x3000, 1, 0x01, 4, 0, false, 0, 0, 4294967295, 4, 4, true⟩,
  ⟨0x3000, 1, 0x02, 4, 0, false, 0, 0, 4294967295, 4, 4, true⟩,
  ⟨0x3000, 1, 0x03, 4, 0, false, 0, 0, 4294967295, 4, 4, true⟩,
  ⟨0x3000, 1, 0x04, 8, 2, true, 0, 0, 2, 1, 1, false⟩,
  ⟨0x3000, 1, 0x05, 2, 1, true, 8, 0, 255, 1, 1, false⟩,
  ⟨0x3000, 1, 0x06, 2, 1, true, 32, 0, 255, 1, 1, false⟩,
  ⟨0x3000, 1, 0x07, 2, 1, true, 16, 1, 255, 1, 1, false⟩,
  ⟨0x3000, 1, 0x08, 2, 1, true, 2, 1, 7, 1, 1, false⟩,
  ⟨0x3000, 1, 0x09, 3, 1, true, 64, 1, 4096, 2, 2, false⟩,
  ⟨0x3000, 1, 0x0A, 2, 1, true, 2, 0, 100, 1, 1, false⟩,
  ⟨0x3000, 1, 0x0B, 2, 1, true, 2, 0, 100, 1, 1, false⟩,
  ⟨0x3000, 1, 0x0C, 4, 1, true, 10000, 100, 1000000, 4, 4, false⟩,
  ⟨0x3000, 1, 0x0D, 4, 1, true, 100000, 1000, 10000000, 4, 4, false⟩,
  ⟨0x3000, 1, 0x0E, 2, 1, true, 2, 0, 100, 1, 1, false⟩,
  ⟨0x3000, 1, 0x0F, 2, 1, true, 50, 0, 100, 1, 1, false⟩,
  ⟨0x3000, 1, 0x10, 3, 1, true, 64, 1, 65535, 2, 2, false⟩,
  ⟨0x3000, 1, 0x11, 2, 1, true, 10, 5, 50, 1, 1, false⟩,
  ⟨0x3000, 1, 0x12, 1, 1, false, 0, 0, 1, 1, 1, false⟩]

/-- The objects of record 0x3400. -/
def odRows3400 : List OdRow := [
  ⟨0x3400, 1, 0x00, 2, 0, false, 16, 0, 255, 1, 1, false⟩,
  ⟨0x3400, 1, 0x01, 4, 0, false, 0, 0, 4294967295, 4, 4, true⟩,
  ⟨0x3400, 1, 0x02, 3, 0, false, 0, 0, 65535, 2, 2, true⟩,
  ⟨0x3400, 1, 0x03, 2, 2, true, 10, 10, 30, 1, 1, false⟩,
  ⟨0x3400, 1, 0x04, 3, 2, true, 64, 16, 256, 2, 2, false⟩,
  ⟨0x3400, 1, 0x05, 4, 1, true, 200000, 10000, 1000000, 4, 4, false⟩,
  ⟨0x3400, 1, 0x06, 3, 1, true, 200, 50, 1000, 2, 2, false⟩,
  ⟨0x3400, 1, 0x07, 2, 1, true, 6, 2, 12, 1, 1, false⟩,
  ⟨0x3400, 1, 0x08, 4, 1, true, 1000, 100, 100000, 4, 4, false⟩,
  ⟨0x3400, 1, 0x09, 2, 1, true, 25, 10, 50, 1, 1, false⟩,
  ⟨0x3400, 1, 0x0A, 2, 1, true, 5, 1, 20, 1, 1, false⟩,
  ⟨0x3400, 1, 0x0B, 2, 1, true, 60, 30, 90, 1, 1, false⟩,
  ⟨0x3400, 1, 0x0C, 1, 3, false, 0, 0, 1, 1, 1, false⟩,
  ⟨0x3400, 1, 0x0D, 8, 0, false, 0, 0, 3, 1, 1, false⟩,
  ⟨0x3400, 1, 0x0E, 8, 0, false, 0, 0, 3, 1, 1, false⟩,
  ⟨0x3400, 1, 0x0F, 8, 0, false, 0, 0, 3, 1, 1, false⟩,
  ⟨0x3400, 1, 0x10, 8, 0, false, 0, 0, 2, 1, 1, true⟩]

/-- The objects of record 0x3800. -/
def odRows3800 : List OdRow := [
  ⟨0x3800, 1, 0x00, 2, 0, false, 8, 0, 255, 1, 1, false⟩,
  ⟨0x3800, 1, 0x01, 3, 0, false, 0, 0, 65535, 2, 2, true⟩,
  ⟨0x3800, 1, 0x02, 3, 0, false, 0, 0, 65535, 2, 2, false⟩,
  ⟨0x3800, 1, 0x03, 10, 0, false, 0, 0, 0, 8192, 8192, false⟩,
  ⟨0x3800, 1, 0x04, 10, 0, true, 0, 0, 0, 544, 544, false⟩,
  ⟨0x3800, 1, 0x05, 3, 3, false, 0, 0, 65535, 2, 2, false⟩,
  ⟨0x3800, 1, 0x06, 5, 1, true, 0, 0, 18446744073709551615, 8, 8, false⟩,
  ⟨0x3800, 1, 0x07, 2, 1, true, 2, 1, 4, 1, 1, false⟩,
  ⟨0x3800, 1, 0x08, 1, 3, false, 0, 0, 1, 1, 1, false⟩]

/-- The objects of record 0x3C00. -/
def odRows3C00 : List OdRow := [
  ⟨0x3C00, 1, 0x00, 2, 0, false, 8, 0, 255, 1, 1, false⟩,
  ⟨0x3C00, 1, 0x01, 4, 0, false, 16384, 0, 4294967295, 4, 4, false⟩,
  ⟨0x3C00, 1, 0x02, 4, 1, true, 512, 64, 16384, 4, 4, false⟩,
  ⟨0x3C00, 1, 0x03, 4, 1, true, 100000000, 1000, 4294967295, 4, 4, false⟩,
  ⟨0x3C00, 1, 0x04, 5, 4, false, 0, 0, 18446744073709551615, 8, 8, false⟩,
  ⟨0x3C00, 1, 0x05, 2, 2, true, 8, 1, 8, 1, 1, false⟩,
  ⟨0x3C00, 1, 0x06, 1, 2, true, 1, 0, 1, 1, 1, false⟩,
  ⟨0x3C00, 1, 0x07, 3, 1, true, 200, 10, 10000, 2, 2, false⟩,
  ⟨0x3C00, 1, 0x08, 3, 1, true, 1000, 100, 60000, 2, 2, false⟩]

/-- The objects of record 0x4800. -/
def odRows4800 : List OdRow := [
  ⟨0x4800, 1, 0x00, 2, 0, false, 9, 0, 255, 1, 1, false⟩,
  ⟨0x4800, 1, 0x01, 8, 0, false, 0, 0, 3, 1, 1, false⟩,
  ⟨0x4800, 1, 0x02, 2, 0, false, 0, 0, 255, 1, 1, false⟩,
  ⟨0x4800, 1, 0x03, 10, 0, false, 0, 0, 0, 16, 16, false⟩,
  ⟨0x4800, 1, 0x04, 4, 1, true, 50, 10, 1000, 4, 4, false⟩,
  ⟨0x4800, 1, 0x05, 4, 2, true, 60000, 1000, 60000, 4, 4, false⟩,
  ⟨0x4800, 1, 0x06, 1, 1, true, 1, 0, 1, 1, 1, false⟩,
  ⟨0x4800, 1, 0x07, 3, 1, true, 1000, 0, 65535, 2, 2, false⟩,
  ⟨0x4800, 1, 0x08, 3, 1, true, 500, 350, 10000, 2, 2, false⟩,
  ⟨0x4800, 1, 0x09, 4, 0, false, 67108864, 0, 4294967295, 4, 4, false⟩]

/-- The objects of record 0x4000. -/
def odRows4000 : List OdRow := [
  ⟨0x4000, 1, 0x00, 2, 0, false, 18, 0, 255, 1, 1, false⟩,
  ⟨0x4000, 1, 0x01, 3, 0, false, 65535, 0, 65535, 2, 2, false⟩,
  ⟨0x4000, 1, 0x02, 3, 0, false, 0, 0, 65535, 2, 2, false⟩,
  ⟨0x4000, 1, 0x03, 3, 0, false, 0, 0, 65535, 2, 2, false⟩,
  ⟨0x4000, 1, 0x04, 3, 2, true, 47044, 1024, 65535, 2, 2, false⟩,
  ⟨0x4000, 1, 0x05, 3, 1, true, 20, 5, 1000, 2, 2, false⟩,
  ⟨0x4000, 1, 0x06, 2, 1, true, 16, 4, 64, 1, 1, false⟩,
  ⟨0x4000, 1, 0x07, 4, 1, true, 100, 10, 10000, 4, 4, false⟩,
  ⟨0x4000, 1, 0x08, 2, 1, true, 20, 5, 50, 1, 1, false⟩,
  ⟨0x4000, 1, 0x09, 3, 1, true, 10, 1, 1000, 2, 2, false⟩,
  ⟨0x4000, 1, 0x0A, 3, 1, true, 25, 1, 400, 2, 2, false⟩,
  ⟨0x4000, 1, 0x0B, 3, 1, true, 1, 1, 100, 2, 2, false⟩,
  ⟨0x4000, 1, 0x0C, 10, 1, true, 0, 0, 0, 8, 8, false⟩,
  ⟨0x4000, 1, 0x0D, 4, 1, true, 64, 0, 4096, 4, 4, false⟩,
  ⟨0x4000, 1, 0x0E, 2, 1, true, 3, 2, 6, 1, 1, false⟩,
  ⟨0x4000, 1, 0x0F, 2, 1, true, 5, 1, 30, 1, 1, false⟩,
  ⟨0x4000, 1, 0x10, 10, 3, false, 0, 0, 0, 2097152, 2097152, false⟩,
  ⟨0x4000, 1, 0x11, 10, 3, false, 0, 0, 0, 64, 8256, false⟩,
  ⟨0x4000, 1, 0x12, 3, 3, false, 0, 0, 65535, 2, 2, false⟩]

/-- The objects of record 0x4020. -/
def odRows4020 : List OdRow := [
  ⟨0x4020, 32, 0x00, 2, 0, false, 9, 0, 255, 1, 1, false⟩,
  ⟨0x4020, 32, 0x01, 1, 1, true, 1, 0, 1, 1, 1, false⟩,
  ⟨0x4020, 32, 0x02, 8, 2, true, 0, 0, 1, 1, 1, false⟩,
  ⟨0x4020, 32, 0x03, 1, 2, true, 0, 0, 1, 1, 1, false⟩,
  ⟨0x4020, 32, 0x04, 1, 2, true, 1, 0, 1, 1, 1, false⟩,
  ⟨0x4020, 32, 0x05, 2, 0, false, 0, 0, 255, 1, 1, false⟩,
  ⟨0x4020, 32, 0x06, 2, 0, false, 0, 0, 255, 1, 1, false⟩,
  ⟨0x4020, 32, 0x07, 10, 0, false, 0, 0, 0, 64, 64, false⟩,
  ⟨0x4020, 32, 0x08, 1, 3, false, 0, 0, 1, 1, 1, false⟩,
  ⟨0x4020, 32, 0x09, 10, 0, false, 0, 0, 0, 12, 12, false⟩]

/-- The objects of record 0x4400. -/
def odRows4400 : List OdRow := [
  ⟨0x4400, 1, 0x00, 2, 0, false, 11, 0, 255, 1, 1, false⟩,
  ⟨0x4400, 1, 0x01, 4, 0, false, 65536, 0, 4294967295, 4, 4, false⟩,
  ⟨0x4400, 1, 0x02, 4, 1, true, 256, 1, 65536, 4, 4, false⟩,
  ⟨0x4400, 1, 0x03, 4, 1, true, 1024, 0, 262144, 4, 4, false⟩,
  ⟨0x4400, 1, 0x04, 10, 1, false, 0, 0, 0, 8192, 8192, false⟩,
  ⟨0x4400, 1, 0x05, 1, 1, true, 1, 0, 1, 1, 1, false⟩,
  ⟨0x4400, 1, 0x06, 3, 1, true, 1000, 100, 20000, 2, 2, false⟩,
  ⟨0x4400, 1, 0x07, 3, 1, true, 10, 1, 100, 2, 2, false⟩,
  ⟨0x4400, 1, 0x08, 2, 0, false, 8, 0, 255, 1, 1, false⟩,
  ⟨0x4400, 1, 0x09, 2, 1, true, 6, 1, 7, 1, 1, false⟩,
  ⟨0x4400, 1, 0x0A, 3, 1, true, 500, 50, 1000, 2, 2, false⟩,
  ⟨0x4400, 1, 0x0B, 2, 1, true, 64, 1, 64, 1, 1, false⟩]

/-- The objects of record 0x5000. -/
def odRows5000 : List OdRow := [
  ⟨0x5000, 1, 0x00, 2, 0, false, 8, 0, 255, 1, 1, false⟩,
  ⟨0x5000, 1, 0x01, 4, 0, false, 2097152, 0, 4294967295, 4, 4, false⟩,
  ⟨0x5000, 1, 0x02, 4, 1, true, 100, 1, 10000, 4, 4, false⟩,
  ⟨0x5000, 1, 0x03, 4, 0, false, 2000, 0, 4294967295, 4, 4, false⟩,
  ⟨0x5000, 1, 0x04, 3, 1, true, 64, 1, 1024, 2, 2, false⟩,
  ⟨0x5000, 1, 0x05, 4, 0, false, 32768, 0, 4294967295, 4, 4, false⟩,
  ⟨0x5000, 1, 0x06, 3, 0, false, 64, 0, 65535, 2, 2, false⟩,
  ⟨0x5000, 1, 0x07, 4, 0, false, 65536, 0, 4294967295, 4, 4, false⟩,
  ⟨0x5000, 1, 0x08, 4, 1, true, 256, 1, 65536, 4, 4, false⟩]

/-- The objects of record 0x5400. -/
def odRows5400 : List OdRow := [
  ⟨0x5400, 1, 0x00, 2, 0, false, 8, 0, 255, 1, 1, false⟩,
  ⟨0x5400, 1, 0x01, 3, 0, false, 0, 0, 65535, 2, 2, false⟩,
  ⟨0x5400, 1, 0x02, 10, 0, false, 0, 0, 0, 8192, 8192, false⟩,
  ⟨0x5400, 1, 0x03, 4, 1, true, 1000, 100, 100000, 4, 4, false⟩,
  ⟨0x5400, 1, 0x04, 3, 1, true, 1000, 1, 1000, 2, 2, false⟩,
  ⟨0x5400, 1, 0x05, 3, 1, true, 65535, 1, 65535, 2, 2, false⟩,
  ⟨0x5400, 1, 0x06, 3, 1, true, 65535, 1, 65535, 2, 2, false⟩,
  ⟨0x5400, 1, 0x07, 3, 1, true, 65535, 1, 65535, 2, 2, false⟩,
  ⟨0x5400, 1, 0x08, 3, 1, true, 65535, 1, 65535, 2, 2, false⟩]

/-- The objects of record 0x5800. -/
def odRows5800 : List OdRow := [
  ⟨0x5800, 1, 0x00, 2, 0, false, 6, 0, 255, 1, 1, false⟩,
  ⟨0x5800, 1, 0x01, 8, 0, false, 0, 0, 1, 1, 1, false⟩,
  ⟨0x5800, 1, 0x02, 8, 0, false, 0, 0, 1, 1, 1, false⟩,
  ⟨0x5800, 1, 0x03, 3, 0, false, 512, 0, 65535, 2, 2, false⟩,
  ⟨0x5800, 1, 0x04, 2, 2, true, 8, 1, 8, 1, 1, false⟩,
  ⟨0x5800, 1, 0x05, 2, 1, true, 8, 1, 64, 1, 1, false⟩,
  ⟨0x5800, 1, 0x06, 4, 0, false, 520, 0, 4294967295, 4, 4, false⟩]

/-- The objects of record 0x6000. -/
def odRows6000 : List OdRow := [
  ⟨0x6000, 1, 0x00, 2, 0, false, 7, 0, 255, 1, 1, false⟩,
  ⟨0x6000, 1, 0x01, 3, 0, false, 0, 0, 65535, 2, 2, false⟩,
  ⟨0x6000, 1, 0x02, 3, 2, true, 64, 1, 256, 2, 2, false⟩,
  ⟨0x6000, 1, 0x03, 2, 1, true, 8, 1, 64, 1, 1, false⟩,
  ⟨0x6000, 1, 0x04, 3, 1, true, 30, 1, 3600, 2, 2, false⟩,
  ⟨0x6000, 1, 0x05, 2, 1, true, 25, 1, 50, 1, 1, false⟩,
  ⟨0x6000, 1, 0x06, 4, 1, true, 1000, 0, 60000, 4, 4, false⟩,
  ⟨0x6000, 1, 0x07, 3, 0, false, 4096, 0, 65535, 2, 2, false⟩]

/-- The objects of record 0x6400. -/
def odRows6400 : List OdRow := [
  ⟨0x6400, 1, 0x00, 2, 0, false, 5, 0, 255, 1, 1, false⟩,
  ⟨0x6400, 1, 0x01, 3, 2, true, 4096, 1, 16384, 2, 2, false⟩,
  ⟨0x6400, 1, 0x02, 3, 1, true, 64, 1, 4096, 2, 2, false⟩,
  ⟨0x6400, 1, 0x03, 3, 0, false, 0, 0, 65535, 2, 2, false⟩,
  ⟨0x6400, 1, 0x04, 2, 1, true, 8, 1, 64, 1, 1, false⟩,
  ⟨0x6400, 1, 0x05, 3, 1, true, 64, 1, 4096, 2, 2, false⟩]

/-- The objects of record 0x6800. -/
def odRows6800 : List OdRow := [
  ⟨0x6800, 1, 0x00, 2, 0, false, 5, 0, 255, 1, 1, false⟩,
  ⟨0x6800, 1, 0x01, 3, 2, true, 1024, 1, 4096, 2, 2, false⟩,
  ⟨0x6800, 1, 0x02, 3, 1, true, 16, 1, 1024, 2, 2, false⟩,
  ⟨0x6800, 1, 0x03, 3, 0, false, 0, 0, 65535, 2, 2, false⟩,
  ⟨0x6800, 1, 0x04, 3, 1, true, 64, 1, 4096, 2, 2, false⟩,
  ⟨0x6800, 1, 0x05, 4, 1, true, 0, 0, 60000, 4, 4, false⟩]

/-- The objects of record 0x6C00. -/
def odRows6C00 : List OdRow := [
  ⟨0x6C00, 1, 0x00, 2, 0, false, 7, 0, 255, 1, 1, false⟩,
  ⟨0x6C00, 1, 0x01, 3, 2, true, 256, 1, 1024, 2, 2, false⟩,
  ⟨0x6C00, 1, 0x02, 3, 1, true, 4, 1, 256, 2, 2, false⟩,
  ⟨0x6C00, 1, 0x03, 3, 0, false, 0, 0, 65535, 2, 2, false⟩,
  ⟨0x6C00, 1, 0x04, 3, 1, true, 1024, 64, 16384, 2, 2, false⟩,
  ⟨0x6C00, 1, 0x05, 3, 1, true, 10, 1, 1000, 2, 2, false⟩,
  ⟨0x6C00, 1, 0x06, 3, 1, true, 20, 11, 1000, 2, 2, false⟩,
  ⟨0x6C00, 1, 0x07, 2, 1, true, 64, 1, 255, 1, 1, false⟩]

/-- The objects of record 0x7000. -/
def odRows7000 : List OdRow := [
  ⟨0x7000, 1, 0x00, 2, 0, false, 3, 0, 255, 1, 1, false⟩,
  ⟨0x7000, 1, 0x01, 2, 0, false, 64, 0, 255, 1, 1, false⟩,
  ⟨0x7000, 1, 0x02, 3, 1, true, 64, 1, 4096, 2, 2, false⟩,
  ⟨0x7000, 1, 0x03, 2, 1, true, 50, 10, 90, 1, 1, false⟩]

/-- The objects of record 0x7400. -/
def odRows7400 : List OdRow := [
  ⟨0x7400, 1, 0x00, 2, 0, false, 19, 0, 255, 1, 1, false⟩,
  ⟨0x7400, 1, 0x01, 10, 1, true, 0, 0, 0, 1024, 1024, false⟩,
  ⟨0x7400, 1, 0x02, 10, 0, true, 0, 0, 0, 16384, 16384, false⟩,
  ⟨0x7400, 1, 0x03, 10, 3, false, 0, 0, 0, 24, 24, false⟩,
  ⟨0x7400, 1, 0x04, 2, 1, true, 4, 1, 32, 1, 1, false⟩,
  ⟨0x7400, 1, 0x05, 2, 1, true, 16, 1, 64, 1, 1, false⟩,
  ⟨0x7400, 1, 0x06, 2, 1, true, 8, 1, 64, 1, 1, false⟩,
  ⟨0x7400, 1, 0x07, 2, 1, true, 32, 1, 64, 1, 1, false⟩,
  ⟨0x7400, 1, 0x08, 3, 1, true, 64, 64, 1024, 2, 2, false⟩,
  ⟨0x7400, 1, 0x09, 4, 1, true, 10, 1, 1000, 4, 4, false⟩,
  ⟨0x7400, 1, 0x0A, 4, 1, true, 2, 1, 500, 4, 4, false⟩,
  ⟨0x7400, 1, 0x0B, 4, 1, true, 5, 1, 1000, 4, 4, false⟩,
  ⟨0x7400, 1, 0x0C, 4, 1, true, 1, 1, 500, 4, 4, false⟩,
  ⟨0x7400, 1, 0x0D, 4, 1, true, 1000, 100, 10000, 4, 4, false⟩,
  ⟨0x7400, 1, 0x0E, 4, 1, true, 200, 50, 5000, 4, 4, false⟩,
  ⟨0x7400, 1, 0x0F, 4, 1, true, 100, 10, 10000, 4, 4, false⟩,
  ⟨0x7400, 1, 0x10, 4, 1, true, 20, 5, 5000, 4, 4, false⟩,
  ⟨0x7400, 1, 0x11, 4, 1, true, 50, 10, 1000, 4, 4, false⟩,
  ⟨0x7400, 1, 0x12, 4, 1, true, 10, 5, 500, 4, 4, false⟩,
  ⟨0x7400, 1, 0x13, 3, 0, false, 1024, 0, 65535, 2, 2, false⟩]

/-- The objects of record 0x7420. -/
def odRows7420 : List OdRow := [
  ⟨0x7420, 32, 0x00, 2, 0, false, 3, 0, 255, 1, 1, false⟩,
  ⟨0x7420, 32, 0x01, 10, 0, true, 0, 0, 0, 128, 128, false⟩,
  ⟨0x7420, 32, 0x02, 10, 3, false, 0, 0, 0, 24, 24, false⟩,
  ⟨0x7420, 32, 0x03, 10, 1, true, 0, 0, 0, 6, 6, false⟩]

/-- The objects of record 0x1800. -/
def odRows1800 : List OdRow := [
  ⟨0x1800, 1, 0x00, 2, 0, false, 7, 0, 255, 1, 1, false⟩,
  ⟨0x1800, 1, 0x01, 10, 0, false, 0, 0, 0, 32768, 32768, false⟩,
  ⟨0x1800, 1, 0x02, 4, 0, false, 0, 0, 4294967295, 4, 4, false⟩,
  ⟨0x1800, 1, 0x03, 1, 1, false, 0, 0, 1, 1, 1, false⟩,
  ⟨0x1800, 1, 0x04, 10, 0, false, 0, 0, 0, 2048, 2048, false⟩,
  ⟨0x1800, 1, 0x05, 10, 0, false, 0, 0, 0, 2048, 2048, false⟩,
  ⟨0x1800, 1, 0x06, 10, 0, false, 0, 0, 0, 8192, 8192, false⟩,
  ⟨0x1800, 1, 0x07, 1, 1, true, 1, 0, 1, 1, 1, false⟩]

/-- The objects of record 0x7800. -/
def odRows7800 : List OdRow := [
  ⟨0x7800, 1, 0x00, 2, 0, false, 13, 0, 255, 1, 1, false⟩,
  ⟨0x7800, 1, 0x01, 8, 0, false, 0, 0, 2, 1, 1, false⟩,
  ⟨0x7800, 1, 0x02, 8, 0, false, 0, 0, 4, 1, 1, false⟩,
  ⟨0x7800, 1, 0x03, 2, 1, true, 8, 2, 64, 1, 1, false⟩,
  ⟨0x7800, 1, 0x04, 3, 1, true, 60, 1, 3600, 2, 2, false⟩,
  ⟨0x7800, 1, 0x05, 3, 1, true, 10, 5, 1000, 2, 2, false⟩,
  ⟨0x7800, 1, 0x06, 3, 1, true, 20, 10, 1000, 2, 2, false⟩,
  ⟨0x7800, 1, 0x07, 3, 1, true, 10, 1, 1000, 2, 2, false⟩,
  ⟨0x7800, 1, 0x08, 4, 1, true, 1000, 1, 600000, 4, 4, false⟩,
  ⟨0x7800, 1, 0x09, 1, 2, true, 1, 0, 1, 1, 1, false⟩,
  ⟨0x7800, 1, 0x0A, 4, 3, false, 0, 0, 4294967295, 4, 4, false⟩,
  ⟨0x7800, 1, 0x0B, 1, 3, false, 0, 0, 1, 1, 1, false⟩,
  ⟨0x7800, 1, 0x0C, 2, 0, false, 0, 0, 255, 1, 1, false⟩,
  ⟨0x7800, 1, 0x0D, 3, 0, false, 500, 0, 65535, 2, 2, false⟩]

/-- The objects of record 0x2000. -/
def odRows2000 : List OdRow := [
  ⟨0x2000, 1, 0x00, 2, 0, false, 10, 0, 255, 1, 1, false⟩,
  ⟨0x2000, 1, 0x01, 3, 1, true, 1100, 600, 1100, 2, 2, false⟩,
  ⟨0x2000, 1, 0x02, 2, 1, true, 100, 85, 105, 1, 1, false⟩,
  ⟨0x2000, 1, 0x03, 3, 1, true, 20, 5, 10000, 2, 2, false⟩,
  ⟨0x2000, 1, 0x04, 3, 1, true, 3600, 600, 3600, 2, 2, false⟩,
  ⟨0x2000, 1, 0x05, 2, 2, true, 25, 15, 60, 1, 1, false⟩,
  ⟨0x2000, 1, 0x06, 3, 2, true, 1000, 100, 1000, 2, 2, false⟩,
  ⟨0x2000, 1, 0x07, 3, 1, true, 10, 1, 10000, 2, 2, false⟩,
  ⟨0x2000, 1, 0x08, 2, 0, false, 0, 0, 255, 1, 1, false⟩,
  ⟨0x2000, 1, 0x09, 5, 0, false, 0, 0, 18446744073709551615, 8, 8, false⟩,
  ⟨0x2000, 1, 0x0A, 4, 0, false, 262144, 0, 4294967295, 4, 4, false⟩]

/-- The objects of record 0x0800. -/
def odRows0800 : List OdRow := [
  ⟨0x0800, 1, 0x00, 2, 0, false, 16, 0, 255, 1, 1, false⟩,
  ⟨0x0800, 1, 0x01, 8, 1, false, 0, 0, 1, 1, 1, true⟩,
  ⟨0x0800, 1, 0x02, 8, 1, true, 1, 0, 1, 1, 1, false⟩,
  ⟨0x0800, 1, 0x03, 1, 0, false, 0, 0, 1, 1, 1, false⟩,
  ⟨0x0800, 1, 0x04, 1, 3, false, 0, 0, 1, 1, 1, false⟩,
  ⟨0x0800, 1, 0x05, 4, 0, false, 1000, 0, 4294967295, 4, 4, false⟩,
  ⟨0x0800, 1, 0x06, 3, 2, true, 4000, 1, 4094, 2, 2, false⟩,
  ⟨0x0800, 1, 0x07, 3, 2, true, 47045, 1024, 65535, 2, 2, false⟩,
  ⟨0x0800, 1, 0x08, 10, 1, true, 0, 0, 0, 128, 128, false⟩,
  ⟨0x0800, 1, 0x09, 2, 0, false, 0, 0, 255, 1, 1, true⟩,
  ⟨0x0800, 1, 0x0A, 1, 1, true, 1, 0, 1, 1, 1, false⟩,
  ⟨0x0800, 1, 0x0B, 1, 1, true, 1, 0, 1, 1, 1, false⟩,
  ⟨0x0800, 1, 0x0C, 1, 1, true, 0, 0, 1, 1, 1, false⟩,
  ⟨0x0800, 1, 0x0D, 10, 0, false, 0, 0, 0, 22, 22, false⟩,
  ⟨0x0800, 1, 0x0E, 3, 1, true, 100, 10, 10000, 2, 2, false⟩,
  ⟨0x0800, 1, 0x0F, 4, 1, true, 10000, 100, 600000, 4, 4, false⟩,
  ⟨0x0800, 1, 0x10, 1, 1, false, 0, 0, 1, 1, 1, false⟩]

/-- The objects of record 0x0810. -/
def odRows0810 : List OdRow := [
  ⟨0x0810, 16, 0x00, 2, 0, false, 6, 0, 255, 1, 1, false⟩,
  ⟨0x0810, 16, 0x01, 10, 1, true, 0, 0, 0, 0, 24704, false⟩,
  ⟨0x0810, 16, 0x02, 8, 1, true, 0, 0, 3, 1, 1, false⟩,
  ⟨0x0810, 16, 0x03, 4, 1, true, 0, 0, 4294967295, 4, 4, false⟩,
  ⟨0x0810, 16, 0x04, 1, 1, true, 0, 0, 1, 1, 1, false⟩,
  ⟨0x0810, 16, 0x05, 2, 0, false, 0, 0, 255, 1, 1, false⟩,
  ⟨0x0810, 16, 0x06, 5, 0, false, 0, 0, 18446744073709551615, 8, 8, false⟩]

/-- The objects of record 0x1000. -/
def odRows1000 : List OdRow := [
  ⟨0x1000, 1, 0x00, 2, 0, false, 17, 0, 255, 1, 1, false⟩,
  ⟨0x1000, 1, 0x01, 9, 0, false, 0, 0, 0, 32, 32, false⟩,
  ⟨0x1000, 1, 0x02, 2, 0, false, 162, 0, 255, 1, 1, false⟩,
  ⟨0x1000, 1, 0x03, 10, 0, false, 0, 0, 0, 16, 16, false⟩,
  ⟨0x1000, 1, 0x04, 4, 0, false, 0, 0, 4294967295, 4, 4, true⟩,
  ⟨0x1000, 1, 0x05, 4, 0, false, 0, 0, 4294967295, 4, 4, true⟩,
  ⟨0x1000, 1, 0x06, 2, 0, false, 0, 0, 255, 1, 1, true⟩,
  ⟨0x1000, 1, 0x07, 2, 0, false, 0, 0, 255, 1, 1, true⟩,
  ⟨0x1000, 1, 0x08, 8, 0, false, 0, 0, 6, 1, 1, false⟩,
  ⟨0x1000, 1, 0x09, 5, 0, false, 0, 0, 18446744073709551615, 8, 8, true⟩,
  ⟨0x1000, 1, 0x0A, 10, 3, false, 0, 0, 0, 4608, 33554432, false⟩,
  ⟨0x1000, 1, 0x0B, 8, 0, false, 0, 0, 3, 1, 1, false⟩,
  ⟨0x1000, 1, 0x0C, 1, 3, false, 0, 0, 1, 1, 1, false⟩,
  ⟨0x1000, 1, 0x0D, 1, 3, false, 0, 0, 1, 1, 1, false⟩,
  ⟨0x1000, 1, 0x0E, 3, 2, true, 47046, 1024, 65535, 2, 2, false⟩,
  ⟨0x1000, 1, 0x0F, 3, 1, true, 2000, 0, 10000, 2, 2, false⟩,
  ⟨0x1000, 1, 0x10, 5, 3, false, 0, 0, 18446744073709551615, 8, 8, false⟩,
  ⟨0x1000, 1, 0x11, 8, 0, false, 0, 0, 3, 1, 1, false⟩]

/-- The objects of record 0x9000. -/
def odRows9000 : List OdRow := [
  ⟨0x9000, 1, 0x00, 2, 0, false, 11, 0, 255, 1, 1, false⟩,
  ⟨0x9000, 1, 0x01, 10, 0, false, 0, 0, 0, 97, 97, false⟩,
  ⟨0x9000, 1, 0x02, 10, 0, false, 0, 0, 0, 0, 8192, false⟩,
  ⟨0x9000, 1, 0x03, 2, 0, false, 0, 0, 255, 1, 1, true⟩,
  ⟨0x9000, 1, 0x04, 2, 3, false, 0, 0, 255, 1, 1, false⟩,
  ⟨0x9000, 1, 0x05, 10, 3, false, 0, 0, 0, 40, 40, false⟩,
  ⟨0x9000, 1, 0x06, 3, 1, true, 0, 0, 65535, 2, 2, false⟩,
  ⟨0x9000, 1, 0x07, 10, 0, false, 0, 0, 0, 4, 4, false⟩,
  ⟨0x9000, 1, 0x08, 8, 0, false, 0, 0, 1, 1, 1, false⟩,
  ⟨0x9000, 1, 0x09, 10, 3, false, 0, 0, 0, 112, 112, false⟩,
  ⟨0x9000, 1, 0x0A, 1, 2, true, 1, 0, 1, 1, 1, false⟩,
  ⟨0x9000, 1, 0x0B, 3, 0, false, 0, 0, 65535, 2, 2, false⟩]

/-- Every object of the dictionary. -/
def odTable : List OdRow :=
  odRows3000 ++ odRows3400 ++ odRows3800 ++ odRows3C00 ++ odRows4800 ++ odRows4000 ++ odRows4020 ++ odRows4400 ++
  odRows5000 ++ odRows5400 ++ odRows5800 ++ odRows6000 ++ odRows6400 ++ odRows6800 ++
  odRows6C00 ++ odRows7000 ++ odRows7400 ++ odRows7420 ++
  odRows1800 ++ odRows7800 ++ odRows2000 ++ odRows0800 ++ odRows0810 ++ odRows1000 ++ odRows9000

/-- The row of an object, if the dictionary has it (R511). -/
def odRow (index sub : Nat) : Option OdRow :=
  odTable.find? fun r => r.index ≤ index && index < r.index + r.count && r.sub == sub

/-- Whether an index exists (R511). -/
def odHasIndex (index : Nat) : Bool :=
  odTable.any fun r => r.index ≤ index && index < r.index + r.count

/-! The values of the objects that can be written. -/

namespace Par

/-- OD 0x3000.04 DEFAULT_PROTECTION. -/
def defaultProtection (s : State) : Nat := s.od.num.getD 0x300004 0

/-- OD 0x3000.05 PROMOTE_DDR5. -/
def promoteDdr5 (s : State) : Nat := s.od.num.getD 0x300005 8

/-- OD 0x3000.06 PROMOTE_HBM. -/
def promoteHbm (s : State) : Nat := s.od.num.getD 0x300006 32

/-- OD 0x3000.07 HEAT_SAMPLE. -/
def heatSample (s : State) : Nat := s.od.num.getD 0x300007 16

/-- OD 0x3000.08 HEAT_DECAY_SHIFT. -/
def heatDecayShift (s : State) : Nat := s.od.num.getD 0x300008 2

/-- OD 0x3000.09 MOVES_PER_ROUND. -/
def movesPerRound (s : State) : Nat := s.od.num.getD 0x300009 64

/-- OD 0x3000.0A HBM_FREE_LOW. -/
def hbmFreeLow (s : State) : Nat := s.od.num.getD 0x30000A 2

/-- OD 0x3000.0B DDR5_FREE_LOW. -/
def ddr5FreeLow (s : State) : Nat := s.od.num.getD 0x30000B 2

/-- OD 0x3000.0C MOVE_TIMEOUT_DRAM. -/
def moveTimeoutDram (s : State) : Nat := s.od.num.getD 0x30000C 10000

/-- OD 0x3000.0D MOVE_TIMEOUT_FLASH. -/
def moveTimeoutFlash (s : State) : Nat := s.od.num.getD 0x30000D 100000

/-- OD 0x3000.0E SPACE_LOW_PCT. -/
def spaceLowPct (s : State) : Nat := s.od.num.getD 0x30000E 2

/-- OD 0x3000.0F PIN_HBM_MAX_PCT. -/
def pinHbmMaxPct (s : State) : Nat := s.od.num.getD 0x30000F 50

/-- OD 0x3000.10 UE_LOSS_COUNT. -/
def ueLossCount (s : State) : Nat := s.od.num.getD 0x300010 64

/-- OD 0x3000.11 REBUILD_SHARE_PCT. -/
def rebuildSharePct (s : State) : Nat := s.od.num.getD 0x300011 10

/-- OD 0x3000.12 DRAINED. -/
def drained (s : State) : Nat := s.od.num.getD 0x300012 0

/-- OD 0x3400.03 RESERVE_PCT. -/
def reservePct (s : State) : Nat := s.od.num.getD 0x340003 10

/-- OD 0x3400.04 SLC_BLOCKS_PER_DIE. -/
def slcBlocksPerDie (s : State) : Nat := s.od.num.getD 0x340004 64

/-- OD 0x3400.05 READ_DISTURB_LIMIT. -/
def readDisturbLimit (s : State) : Nat := s.od.num.getD 0x340005 200000

/-- OD 0x3400.06 WEAR_SPREAD. -/
def wearSpread (s : State) : Nat := s.od.num.getD 0x340006 200

/-- OD 0x3400.07 READ_RETRY_MAX. -/
def readRetryMax (s : State) : Nat := s.od.num.getD 0x340007 6

/-- OD 0x3400.08 FLUSH_AGE. -/
def flushAge (s : State) : Nat := s.od.num.getD 0x340008 1000

/-- OD 0x3400.09 SPARE_WARN_PCT. -/
def spareWarnPct (s : State) : Nat := s.od.num.getD 0x340009 25

/-- OD 0x3400.0A SPARE_STOP_PCT. -/
def spareStopPct (s : State) : Nat := s.od.num.getD 0x34000A 5

/-- OD 0x3400.0B RELOCATE_BITS. -/
def relocateBits (s : State) : Nat := s.od.num.getD 0x34000B 60

/-- OD 0x3800.06 SR_SEED. -/
def srSeed (s : State) : Nat := s.od.num.getD 0x380006 0

/-- OD 0x3800.07 ADOPT_RADIUS. -/
def adoptRadius (s : State) : Nat := s.od.num.getD 0x380007 2

/-- OD 0x3C00.02 TENANT_STORE_KIB. -/
def tenantStoreKib (s : State) : Nat := s.od.num.getD 0x3C0002 512

/-- OD 0x3C00.03 FUEL_MAX. -/
def fuelMax (s : State) : Nat := s.od.num.getD 0x3C0003 100000000

/-- OD 0x3C00.05 CONTEXTS_PER_TABOR. -/
def contextsPerTabor (s : State) : Nat := s.od.num.getD 0x3C0005 8

/-- OD 0x3C00.06 GALE_PROGRAMS. -/
def galePrograms (s : State) : Nat := s.od.num.getD 0x3C0006 1

/-- OD 0x3C00.07 SLICE_US. -/
def sliceUs (s : State) : Nat := s.od.num.getD 0x3C0007 200

/-- OD 0x3C00.08 WAIT_SWITCH_NS. -/
def waitSwitchNs (s : State) : Nat := s.od.num.getD 0x3C0008 1000

/-- OD 0x4800.04 HOME_TIMEOUT. -/
def homeTimeout (s : State) : Nat := s.od.num.getD 0x480004 50

/-- OD 0x4800.05 FORM_WAIT. -/
def formWait (s : State) : Nat := s.od.num.getD 0x480005 60000

/-- OD 0x4800.06 COMBINING. -/
def combining (s : State) : Nat := s.od.num.getD 0x480006 1

/-- OD 0x4800.07 HOT_WINDOW_NS. -/
def hotWindowNs (s : State) : Nat := s.od.num.getD 0x480007 1000

/-- OD 0x4800.08 PEER_LOSS_MS. -/
def peerLossMs (s : State) : Nat := s.od.num.getD 0x480008 500

/-- OD 0x4000.04 XLT_UDP_PORT. -/
def xltUdpPort (s : State) : Nat := s.od.num.getD 0x400004 47044

/-- OD 0x4000.05 RTO_US. -/
def rtoUs (s : State) : Nat := s.od.num.getD 0x400005 20

/-- OD 0x4000.06 RETRY_MAX. -/
def retryMax (s : State) : Nat := s.od.num.getD 0x400006 16

/-- OD 0x4000.07 RESPONSE_TIMEOUT_MS. -/
def responseTimeoutMs (s : State) : Nat := s.od.num.getD 0x400007 100

/-- OD 0x4000.08 ECN_CUT_PCT. -/
def ecnCutPct (s : State) : Nat := s.od.num.getD 0x400008 20

/-- OD 0x4000.09 ECN_HOLD_US. -/
def ecnHoldUs (s : State) : Nat := s.od.num.getD 0x400009 10

/-- OD 0x4000.0A AI_STEP_GBPS. -/
def aiStepGbps (s : State) : Nat := s.od.num.getD 0x40000A 25

/-- OD 0x4000.0B RATE_MIN_GBPS. -/
def rateMinGbps (s : State) : Nat := s.od.num.getD 0x40000B 1

/-- OD 0x4000.0D REPLAY_WINDOW. -/
def replayWindow (s : State) : Nat := s.od.num.getD 0x40000D 64

/-- OD 0x4000.0E SER_RETRAIN. -/
def serRetrain (s : State) : Nat := s.od.num.getD 0x40000E 3

/-- OD 0x4000.0F LLDP_TX_S. -/
def lldpTxS (s : State) : Nat := s.od.num.getD 0x40000F 5

/-- OD 0x4020 + n, subindex 01: ENABLE of record n. -/
def portEnable (s : State) (n : Nat) : Nat := s.od.num.getD ((0x4020 + n) * 256 + 1) 1

/-- OD 0x4020 + n, subindex 02: LANE_MODE of record n. -/
def portLaneMode (s : State) (n : Nat) : Nat := s.od.num.getD ((0x4020 + n) * 256 + 2) 0

/-- OD 0x4020 + n, subindex 03: SPLIT of record n. -/
def portSplit (s : State) (n : Nat) : Nat := s.od.num.getD ((0x4020 + n) * 256 + 3) 0

/-- OD 0x4020 + n, subindex 04: ANEG of record n. -/
def portAneg (s : State) (n : Nat) : Nat := s.od.num.getD ((0x4020 + n) * 256 + 4) 1

/-- OD 0x4400.02 WINDOWS_PER_TENANT. -/
def windowsPerTenant (s : State) : Nat := s.od.num.getD 0x440002 256

/-- OD 0x4400.03 COUNTERS_PER_TENANT. -/
def countersPerTenant (s : State) : Nat := s.od.num.getD 0x440003 1024

/-- OD 0x4400.05 BATCHING. -/
def batching (s : State) : Nat := s.od.num.getD 0x440005 1

/-- OD 0x4400.06 GATHER_NS. -/
def gatherNs (s : State) : Nat := s.od.num.getD 0x440006 1000

/-- OD 0x4400.07 STALE_HOLD_MS. -/
def staleHoldMs (s : State) : Nat := s.od.num.getD 0x440007 10

/-- OD 0x4400.09 ATOMIC_RETRY_MS. -/
def atomicRetryMs (s : State) : Nat := s.od.num.getD 0x440009 6

/-- OD 0x4400.0A ATOMIC_REPLY_US. -/
def atomicReplyUs (s : State) : Nat := s.od.num.getD 0x44000A 500

/-- OD 0x4400.0B COPY_INFLIGHT. -/
def copyInflight (s : State) : Nat := s.od.num.getD 0x44000B 64

/-- OD 0x5000.02 TRANSLATION_TIMEOUT_MS. -/
def translationTimeoutMs (s : State) : Nat := s.od.num.getD 0x500002 100

/-- OD 0x5000.04 MISS_PER_TENANT. -/
def missPerTenant (s : State) : Nat := s.od.num.getD 0x500004 64

/-- OD 0x5000.08 GRANTS_PER_TENANT. -/
def grantsPerTenant (s : State) : Nat := s.od.num.getD 0x500008 256

/-- OD 0x5400.03 QUOTA_WINDOW_US. -/
def quotaWindowUs (s : State) : Nat := s.od.num.getD 0x540003 1000

/-- OD 0x5400.04 DEFAULT_QUOTA_PERMILLE. -/
def defaultQuotaPermille (s : State) : Nat := s.od.num.getD 0x540004 1000

/-- OD 0x5400.05 WAY_MASK_CLASS0. -/
def wayMaskClass0 (s : State) : Nat := s.od.num.getD 0x540005 65535

/-- OD 0x5400.06 WAY_MASK_CLASS1. -/
def wayMaskClass1 (s : State) : Nat := s.od.num.getD 0x540006 65535

/-- OD 0x5400.07 WAY_MASK_CLASS2. -/
def wayMaskClass2 (s : State) : Nat := s.od.num.getD 0x540007 65535

/-- OD 0x5400.08 WAY_MASK_CLASS3. -/
def wayMaskClass3 (s : State) : Nat := s.od.num.getD 0x540008 65535

/-- OD 0x5800.04 SQ_PER_TENANT. -/
def sqPerTenant (s : State) : Nat := s.od.num.getD 0x580004 8

/-- OD 0x5800.05 FETCH_BURST. -/
def fetchBurst (s : State) : Nat := s.od.num.getD 0x580005 8

/-- OD 0x6000.02 ROUNDS_MAX. -/
def roundsMax (s : State) : Nat := s.od.num.getD 0x600002 64

/-- OD 0x6000.03 ROUNDS_PER_TENANT. -/
def roundsPerTenant (s : State) : Nat := s.od.num.getD 0x600003 8

/-- OD 0x6000.04 STALL_S. -/
def stallS (s : State) : Nat := s.od.num.getD 0x600004 30

/-- OD 0x6000.05 WORK_MAX_PCT. -/
def workMaxPct (s : State) : Nat := s.od.num.getD 0x600005 25

/-- OD 0x6000.06 INBOX_HOLD_MS. -/
def inboxHoldMs (s : State) : Nat := s.od.num.getD 0x600006 1000

/-- OD 0x6400.01 TABLES_MAX. -/
def tablesMax (s : State) : Nat := s.od.num.getD 0x640001 4096

/-- OD 0x6400.02 TABLES_PER_TENANT. -/
def tablesPerTenant (s : State) : Nat := s.od.num.getD 0x640002 64

/-- OD 0x6400.04 SEQ_RETRY. -/
def seqRetry (s : State) : Nat := s.od.num.getD 0x640004 8

/-- OD 0x6400.05 LOOKUPS_PER_TENANT. -/
def lookupsPerTenant (s : State) : Nat := s.od.num.getD 0x640005 64

/-- OD 0x6800.01 INDEXES_MAX. -/
def indexesMax (s : State) : Nat := s.od.num.getD 0x680001 1024

/-- OD 0x6800.02 INDEXES_PER_TENANT. -/
def indexesPerTenant (s : State) : Nat := s.od.num.getD 0x680002 16

/-- OD 0x6800.04 SEARCHES_PER_TENANT. -/
def searchesPerTenant (s : State) : Nat := s.od.num.getD 0x680004 64

/-- OD 0x6800.05 AUTO_PUBLISH_MS. -/
def autoPublishMs (s : State) : Nat := s.od.num.getD 0x680005 0

/-- OD 0x6C00.01 STORES_MAX. -/
def storesMax (s : State) : Nat := s.od.num.getD 0x6C0001 256

/-- OD 0x6C00.02 STORES_PER_TENANT. -/
def storesPerTenant (s : State) : Nat := s.od.num.getD 0x6C0002 4

/-- OD 0x6C00.04 REMOTE_INFLIGHT. -/
def remoteInflight (s : State) : Nat := s.od.num.getD 0x6C0004 1024

/-- OD 0x6C00.05 PUT_WAIT_MS. -/
def putWaitMs (s : State) : Nat := s.od.num.getD 0x6C0005 10

/-- OD 0x6C00.06 OWN_WAIT_MS. -/
def ownWaitMs (s : State) : Nat := s.od.num.getD 0x6C0006 20

/-- OD 0x6C00.07 DROP_LRU_MAX. -/
def dropLruMax (s : State) : Nat := s.od.num.getD 0x6C0007 64

/-- OD 0x7000.02 CHECKS_PER_TENANT. -/
def checksPerTenant (s : State) : Nat := s.od.num.getD 0x700002 64

/-- OD 0x7000.03 CHECK_SHARE_PCT. -/
def checkSharePct (s : State) : Nat := s.od.num.getD 0x700003 50

/-- OD 0x7400.04 SLIVER_BURST_MAX. -/
def sliverBurstMax (s : State) : Nat := s.od.num.getD 0x740004 4

/-- OD 0x7400.05 SLIVER_HP_QUOTA. -/
def sliverHpQuota (s : State) : Nat := s.od.num.getD 0x740005 16

/-- OD 0x7400.06 PCH_BURST_MAX. -/
def pchBurstMax (s : State) : Nat := s.od.num.getD 0x740006 8

/-- OD 0x7400.07 PCH_HP_QUOTA. -/
def pchHpQuota (s : State) : Nat := s.od.num.getD 0x740007 32

/-- OD 0x7400.08 HP_WINDOW. -/
def hpWindow (s : State) : Nat := s.od.num.getD 0x740008 64

/-- OD 0x7400.09 DRIFT_PERIOD_MS. -/
def driftPeriodMs (s : State) : Nat := s.od.num.getD 0x740009 10

/-- OD 0x7400.0A DRIFT_MIN_MS. -/
def driftMinMs (s : State) : Nat := s.od.num.getD 0x74000A 2

/-- OD 0x7400.0B GC_PERIOD_MS. -/
def gcPeriodMs (s : State) : Nat := s.od.num.getD 0x74000B 5

/-- OD 0x7400.0C GC_MIN_MS. -/
def gcMinMs (s : State) : Nat := s.od.num.getD 0x74000C 1

/-- OD 0x7400.0D SCRUB_PERIOD_MS. -/
def scrubPeriodMs (s : State) : Nat := s.od.num.getD 0x74000D 1000

/-- OD 0x7400.0E SCRUB_MIN_MS. -/
def scrubMinMs (s : State) : Nat := s.od.num.getD 0x74000E 200

/-- OD 0x7400.0F EVICT_PERIOD_MS. -/
def evictPeriodMs (s : State) : Nat := s.od.num.getD 0x74000F 100

/-- OD 0x7400.10 EVICT_MIN_MS. -/
def evictMinMs (s : State) : Nat := s.od.num.getD 0x740010 20

/-- OD 0x7400.11 FLUSH_PERIOD_MS. -/
def flushPeriodMs (s : State) : Nat := s.od.num.getD 0x740011 50

/-- OD 0x7400.12 FLUSH_MIN_MS. -/
def flushMinMs (s : State) : Nat := s.od.num.getD 0x740012 10

/-- OD 0x1800.03 EVENT_OVERRUN. -/
def eventOverrun (s : State) : Nat := s.od.num.getD 0x180003 0

/-- OD 0x1800.07 EVENT_NOTIFY. -/
def eventNotify (s : State) : Nat := s.od.num.getD 0x180007 1

/-- OD 0x7800.03 ESCALATE_COUNT. -/
def escalateCount (s : State) : Nat := s.od.num.getD 0x780003 8

/-- OD 0x7800.04 ESCALATE_WINDOW_S. -/
def escalateWindowS (s : State) : Nat := s.od.num.getD 0x780004 60

/-- OD 0x7800.05 CTX_STALL_US. -/
def ctxStallUs (s : State) : Nat := s.od.num.getD 0x780005 10

/-- OD 0x7800.06 HOME_WATCHDOG_US. -/
def homeWatchdogUs (s : State) : Nat := s.od.num.getD 0x780006 20

/-- OD 0x7800.07 ENGINE_WATCHDOG_MS. -/
def engineWatchdogMs (s : State) : Nat := s.od.num.getD 0x780007 10

/-- OD 0x7800.08 WAIT_LIMIT_MS. -/
def waitLimitMs (s : State) : Nat := s.od.num.getD 0x780008 1000

/-- OD 0x7800.09 SALVAGE_ENABLE. -/
def salvageEnable (s : State) : Nat := s.od.num.getD 0x780009 1

/-- OD 0x2000.01 PKG_LIMIT_W. -/
def pkgLimitW (s : State) : Nat := s.od.num.getD 0x200001 1100

/-- OD 0x2000.02 TJ_THROTTLE_C. -/
def tjThrottleC (s : State) : Nat := s.od.num.getD 0x200002 100

/-- OD 0x2000.03 KIT_IDLE_US. -/
def kitIdleUs (s : State) : Nat := s.od.num.getD 0x200003 20

/-- OD 0x2000.04 KIT_FREQ_MAX_MHZ. -/
def kitFreqMaxMhz (s : State) : Nat := s.od.num.getD 0x200004 3600

/-- OD 0x2000.05 SAG_MV. -/
def sagMv (s : State) : Nat := s.od.num.getD 0x200005 25

/-- OD 0x2000.06 S3_DRAIN_US. -/
def s3DrainUs (s : State) : Nat := s.od.num.getD 0x200006 1000

/-- OD 0x2000.07 SHED_HOLD_MS. -/
def shedHoldMs (s : State) : Nat := s.od.num.getD 0x200007 10

/-- OD 0x0800.02 START_MODE. -/
def startMode (s : State) : Nat := s.od.num.getD 0x080002 1

/-- OD 0x0800.06 MGMT_VLAN_ID. -/
def mgmtVlanId (s : State) : Nat := s.od.num.getD 0x080006 4000

/-- OD 0x0800.07 ODP_UDP_PORT. -/
def odpUdpPort (s : State) : Nat := s.od.num.getD 0x080007 47045

/-- OD 0x0800.0A NOTIFY_CAN. -/
def notifyCan (s : State) : Nat := s.od.num.getD 0x08000A 1

/-- OD 0x0800.0B NOTIFY_MAILBOX. -/
def notifyMailbox (s : State) : Nat := s.od.num.getD 0x08000B 1

/-- OD 0x0800.0C NOTIFY_VLAN. -/
def notifyVlan (s : State) : Nat := s.od.num.getD 0x08000C 0

/-- OD 0x0800.0E SEG_TIMEOUT_MS. -/
def segTimeoutMs (s : State) : Nat := s.od.num.getD 0x08000E 100

/-- OD 0x0800.0F LOCK_MAX_MS. -/
def lockMaxMs (s : State) : Nat := s.od.num.getD 0x08000F 10000

/-- OD 0x0800.10 TRIGGER_LOST. -/
def triggerLost (s : State) : Nat := s.od.num.getD 0x080010 0

/-- OD 0x0810 + n, subindex 02: TRIGGER of record n. -/
def scriptTrigger (s : State) (n : Nat) : Nat := s.od.num.getD ((0x0810 + n) * 256 + 2) 0

/-- OD 0x0810 + n, subindex 03: TRIGGER_ARG of record n. -/
def scriptTriggerArg (s : State) (n : Nat) : Nat := s.od.num.getD ((0x0810 + n) * 256 + 3) 0

/-- OD 0x0810 + n, subindex 04: ENABLE of record n. -/
def scriptEnable (s : State) (n : Nat) : Nat := s.od.num.getD ((0x0810 + n) * 256 + 4) 0

/-- OD 0x1000.0E REG_UDP_PORT. -/
def regUdpPort (s : State) : Nat := s.od.num.getD 0x10000E 47046

/-- OD 0x1000.0F REG_SPREAD_MS. -/
def regSpreadMs (s : State) : Nat := s.od.num.getD 0x10000F 2000

/-- OD 0x9000.06 FABRIC_KEY_ACTIVE. -/
def fabricKeyActive (s : State) : Nat := s.od.num.getD 0x900006 0

/-- OD 0x9000.0A SPDM_ENABLE. -/
def spdmEnable (s : State) : Nat := s.od.num.getD 0x90000A 1

end Par

end Sys2Proof.Machine
end

