-- ==== Sys2Proof/Machine/Ops.lean ====
section
/-!
DEFINITION. The operations that every family of commands shares: free values, memory bytes,
outputs, interrupts, events, and fault records.
-/

namespace Sys2Proof.Machine

abbrev Res3 := Host.Outcome State Fault Refusal

/-- The deadline of a timer command is reached: local time is at least `t`. Local time does not advance while
REFCLK_25M is interrupted (R570). DESIGN CHOICE: log entry 15. -/
def State.reach (t : Nat) (s : State) : State := if s.pw.refclk then s.setNow (max s.now t) else s

/-! Free values. -/

/-- A fresh output of the DRBG (R553), and the state after the draw. DESIGN CHOICE: log entry 9. -/
def drawEntropy (s : State) : Nat × State :=
  (Config.entropy s.freeCtr, s.setFreeCtr (s.freeCtr + 1))

/-- A fresh value that the spec leaves unstated, and the state after the draw.
DESIGN CHOICE: log entries 7, 8. -/
def drawFree (what : Nat) (s : State) : Nat × State :=
  (Config.unstated what s.freeCtr, s.setFreeCtr (s.freeCtr + 1))

/-! Memory: bytes by PHA. -/

/-- What a byte that nothing lists reads as: zero (R29), or free where a short RESET_N pulse left
the contents undefined (R569). DESIGN CHOICE: log entry 5. -/
def emptyByte (s : State) (a : Nat) : Byte :=
  match s.ti.undef.get? (a / 0x200000) with
  | some e => if s.ti.written.mem a then 0 else Config.freeByte e a
  | none => 0

/-- The byte at a PHA. DESIGN CHOICE: log entries 5, 6. -/
def rdByte (s : State) (a : Nat) : Byte :=
  match FMap.get? s.mem a with
  | some b => b
  | none => emptyByte s a

/-- A memory with one byte written, in canonical form: rising addresses, no zero listed. -/
def memSet (m : List Host.Cell) (a : Nat) (b : Byte) : List Host.Cell :=
  if b = 0 then FMap.erase m a else FMap.set m a b

/-- The canonical form of memory. -/
def Memory.wf (m : List Host.Cell) : Bool := FMap.wf m && m.all fun c => c.2 ≠ 0

/-- The state with one byte of memory written. -/
def wrByte (s : State) (a : Nat) (b : Byte) : State :=
  let s := s.setMem (memSet s.mem a b)
  if s.ti.undef.has (a / 0x200000) then s.setTi { s.ti with written := s.ti.written.add a } else s

/-- `n` bytes from a PHA. -/
def rdBytes (s : State) (a : Nat) : Nat → List Byte
  | 0 => []
  | n + 1 => rdByte s a :: rdBytes s (a + 1) n

/-- The state with bytes written from a PHA. -/
def wrBytes (s : State) (a : Nat) : List Byte → State
  | [] => s
  | b :: bs => wrBytes (wrByte s a b) (a + 1) bs

/-- The little-endian number of `n` bytes at a PHA (R8). -/
def rdNat (s : State) (a n : Nat) : Nat := leNat (rdBytes s a n)

/-- The state with a little-endian number written at a PHA (R8). -/
def wrNat (s : State) (a n v : Nat) : State := wrBytes s a (leBytes n v)

/-- Whether the line of a PHA is poisoned. -/
def isPoisoned (s : State) (a : Nat) : Bool :=
  s.ti.poison.mem (a / 64) || (s.ti.poisonPages.mem (a / 0x200000) && !s.ti.cleared.mem (a / 64))

def setPoison (s : State) (a : Nat) : State :=
  s.setTi { s.ti with poison := s.ti.poison.add (a / 64) }

def clearPoison (s : State) (a : Nat) : State :=
  s.setTi { s.ti with
    poison := s.ti.poison.del (a / 64)
    cleared := if s.ti.poisonPages.mem (a / 0x200000) then s.ti.cleared.add (a / 64) else s.ti.cleared }

/-! Outputs. -/

/-- The state with one more thing sent out. DESIGN CHOICE: log entry 110. -/
def emit (o : Output) (s : State) : State := s.setOut (s.out ++ [o])

def getPort (s : State) (p : Nat) : HostPort := s.ho.ports.getD p {}
def setPort (s : State) (p : Nat) (v : HostPort) : State :=
  s.setHo { s.ho with ports := s.ho.ports.set p v }
def getFn (s : State) (p f : Nat) : HostFn := (getPort s p).fns.getD f {}
def setFn (s : State) (p f : Nat) (v : HostFn) : State :=
  setPort s p { getPort s p with fns := (getPort s p).fns.set f v }

/-- A write request to host memory: sent while the link is up, kept until it returns otherwise (R329).
DESIGN CHOICE: log entry 21. -/
def hostWrite (p f addr : Nat) (bytes : List Byte) (s : State) : State :=
  let hp := getPort s p
  let r := HostReq.write f addr bytes
  if hp.up then setPort s p { hp with sent := hp.sent ++ [r] }
  else setPort s p { hp with held := hp.held ++ [r] }

/-- MSI-X vector `v` of a function: sent, or held in the pending bit array while it is masked. The
mask bit of an entry is bit 0 of its fourth dword; PCI Express sets it at reset. -/
def sendVector (p f v : Nat) (s : State) : State :=
  let fn := getFn s p f
  if bitOf (fn.msix.getD (4 * v + 3) 1) 0 || !fn.bme then setFn s p f { fn with pba := fn.pba.add v }
  else emit (.msix p f v) s

/-! The mailbox and notifications (R531, R533). -/

def getMb (s : State) (p : Nat) : Mailbox := s.od.mailbox.getD p {}
def setMb (s : State) (p : Nat) (m : Mailbox) : State :=
  s.setOd { s.od with mailbox := s.od.mailbox.set p m }

/-- The bytes of an ODP message (R519). -/
def odpBytes (m : OdpMsg) : List Byte :=
  leBytes 1 m.op ++ leBytes 1 m.tid ++ leBytes 2 m.index ++ leBytes 1 m.sub ++
    leBytes 3 (b2n m.ten + 256 * m.tenant) ++ leBytes 1 m.status ++ [0] ++
    leBytes 2 m.data.length ++ leBytes 4 m.arg ++ m.data

/-- The 32 bytes of an event record (R490). -/
def eventBytes (e : EvRec) : List Byte :=
  leBytes 2 e.code ++ leBytes 2 e.subject ++ leBytes 4 e.seq ++ leBytes 8 e.time ++
    leBytes 8 e.arg0 ++ leBytes 8 e.arg1

/-- The NOTIFY message of an event record (R520). -/
def notifyMsg (e : EvRec) : OdpMsg :=
  { op := 0x11, tid := 0, index := 0, sub := 0, ten := false, tenant := 0, status := 0, arg := 0,
    reserved := false, data := eventBytes e, via := 0 }

/-- A NOTIFY written to a port's notification ring, or lost when the ring is full (R531). -/
def mailboxNotify (p : Nat) (m : OdpMsg) (s : State) : State :=
  let b := getMb s p
  if (b.notifyTail + 1) % 64 = b.notifyHead then setMb s p { b with notifyLost := true }
  else
    sendVector p 0 2
      (setMb s p { b with ring := b.ring.set b.notifyTail (fitTo (odpBytes m) 64 0),
                          notifyTail := (b.notifyTail + 1) % 64 })

/-- The addresses of MGMT_PEERS that are in use (R532, R538). -/
def mgmtPeers (s : State) : List Nat :=
  let bytes := fitTo (s.od.oct.getD 0x080008 []) 128 0
  ((List.range 8).map fun i => leField bytes (16 * i) 16).filter (· ≠ 0)

/-- A message on the management VLAN (R532): one frame of TC6 on the sub-port named, or on the lowest
one in SECURE; it is lost while none is in SECURE. -/
def sendVlan (addr : Nat) (sub : Option Nat) (m : OdpMsg) (s : State) : State :=
  match sub <|> (s.fa.subs.first? fun _ p => p.state = 3).map Prod.fst with
  | some n => s.setFa { s.fa with mgmt := s.fa.mgmt.set n (s.fa.mgmt.getD n [] ++ [.mgmt addr (Par.odpUdpPort s) (odpBytes m)]) }
  | none => s

/-- An event sent as a NOTIFY on every transport that is enabled (R533). -/
def notifyAll (e : EvRec) (s : State) : State :=
  let m := notifyMsg e
  if Par.eventNotify s = 0 then s
  else
    let s := if Par.notifyCan s ≠ 0 && s.pw.canNode ≠ 0 then emit (.can (0x200 + s.pw.canNode) m) s else s
    let s := if Par.notifyMailbox s ≠ 0 then mailboxNotify 1 m (mailboxNotify 0 m s) else s
    if Par.notifyVlan s ≠ 0 then (mgmtPeers s).foldl (fun s a => sendVlan a none m s) s else s

/-- A firing enters the queue of 64, or is dropped and sets TRIGGER_LOST (R536). -/
def enqueueFiring (f : Firing) (s : State) : State :=
  if s.od.firings.length < 64 then s.setOd { s.od with firings := s.od.firings ++ [f] }
  else s.setOd { s.od with triggerLost := true }

/-- A slot runs while ENABLE is 1 and IMAGE holds a verified image (R535). -/
def slotRuns (s : State) (n : Nat) : Bool :=
  Par.scriptEnable s n ≠ 0 && !(s.od.oct.getD ((0x0810 + n) * 256 + 1) []).isEmpty

/-- The firings of an event: one for each slot that runs and triggers on its code (R534). SCRIPT_EVENT
fires none (R537). -/
def fireEvent (code arg0 arg1 : Nat) (s : State) : State :=
  if code = 0x181 then s
  else
    (List.range 16).foldl (fun s n =>
      if slotRuns s n && Par.scriptTrigger s n = 1 && Par.scriptTriggerArg s n = code then
        enqueueFiring { slot := n, kind := 1, code := code, arg0 := arg0, arg1 := arg1 } s
      else s) s

/-- An event: logged, notified, and offered to the triggers (R490–R493). -/
def raise (code subject arg0 arg1 : Nat) (s : State) : State :=
  let seq := s.rc.newest + 1
  let e : EvRec := { code := code, subject := subject, seq := seq, time := s.now, arg0 := arg0, arg1 := arg1 }
  let s := s.setRc { s.rc with
    log := s.rc.log.set (seq % 1024) e
    newest := seq
    overrun := s.rc.overrun || s.rc.log.has (seq % 1024) }
  fireEvent code arg0 arg1 (notifyAll e s)

/-! Fault records and resets (R469–R481). -/

/-- Whether a domain instance contains another: the nesting of R25 and R469. A tabor's tenant
contexts and its fence lie in its kit; a port's retrain contains its reset; the chip warm reset
contains every domain but the restart of Tocsin A. -/
def encloses (d i d' i' : Nat) : Bool :=
  (d = 6 && d' < 6) || (d = 2 && d' < 2 && i' / 68 = i) || (d = 1 && d' = 0 && i' = i) ||
    (d = 4 && d' = 3 && i = i')

/-- A record leaves its queue for the history (R479, R493). -/
def retire (r : FaultRec) (s : State) : State :=
  s.setRc { s.rc with
    queueA := s.rc.queueA.filter fun q => q.seq ≠ r.seq
    queueB := s.rc.queueB.filter fun q => q.seq ≠ r.seq
    overflow := if s.rc.overflow.any (fun q => q.seq = r.seq) then none else s.rc.overflow
    history := s.rc.history.set (r.seq % 256) r }

/-- The record with a number, in either queue or outside them. -/
def recordOf (s : State) (seq : Nat) : Option FaultRec :=
  (s.rc.queueA ++ s.rc.queueB ++ s.rc.overflow.toList).find? fun q => q.seq = seq

/-- The record of a reset ends with an action and a detail (R476). -/
def endRecord (seq action detail : Nat) (s : State) : State :=
  match recordOf s seq with
  | some r => retire { r with action := action, detail := if action = 3 then detail else r.detail, ended := s.now } s
  | none => s

/-- The records of the resets that `seq` takes over become SUBSUMED (R481). -/
def subsume (seq : Nat) (rs : List Reset) (s : State) : State :=
  rs.foldl (fun s r => endRecord r.seq 3 seq s) s

/-- Tocsin orders a chip warm reset because a queue of fault records is full (R480).
DESIGN CHOICE: log entry 69. -/
def orderOverflow (cause handler : Nat) (s : State) : State :=
  let seq := s.rc.faultSeq + 1
  let r : FaultRec := { cause := 0x10, domain := 6, action := 0, handler := handler, index := 0, seq := seq,
                        detected := s.now, ended := 0, detail := cause }
  if s.rc.resets.any (fun x => x.domain = 6) then s
  else
    let inner := s.rc.resets.filter fun x => encloses 6 0 x.domain x.index
    let s := s.setRc { s.rc with faultSeq := seq, overflow := some r }
    let s := subsume seq inner s
    s.setRc { s.rc with
      resets := (s.rc.resets.filter fun x => !encloses 6 0 x.domain x.index) ++
        [{ domain := 6, index := 0, cause := 0x10, seq := seq, start := s.now, run := false,
           fences := inner.flatMap fun x => (if x.domain = 1 then [x.index] else []) ++ x.fences
           tasks := inner.flatMap fun x => x.tasks }] }

/-- A reset decided under a record of its own: it takes over the resets it encloses (R481). -/
def startReset (domain index cause seq : Nat) (fences : List Nat) (tasks : List Task) (s : State) : State :=
  let inner := s.rc.resets.filter fun x => encloses domain index x.domain x.index
  let fences := fences ++ inner.foldl (fun l x => l ++ (if x.domain = 1 then [x.index] else []) ++ x.fences) []
  let tasks := tasks ++ inner.flatMap fun x => x.tasks
  let s := subsume seq inner s
  s.setRc { s.rc with
    resets := (s.rc.resets.filter fun x => !encloses domain index x.domain x.index) ++
      [{ domain := domain, index := index, cause := cause, seq := seq, start := s.now, run := false,
         fences := fences, tasks := tasks }] }

/-- A fault that orders a reset (R476, R479–R481): its record is queued and the reset decided; or it
is covered by a reset in progress, which then performs its action; or the queue is full. In salvage
mode a fault that calls for a chip warm reset orders the quiesce instead (R489).
DESIGN CHOICE: log entry 58. -/
def fault (cause domain index detail : Nat) (tasks : List Task) (s : State) : State :=
  let handler := if domain = 7 || s.rc.islandFailed then 1 else 0
  let queue := if handler = 1 then s.rc.queueB else s.rc.queueA
  let seq := s.rc.faultSeq + 1
  let r : FaultRec := { cause := cause, domain := domain, action := 0, handler := handler, index := index,
                        seq := seq, detected := s.now, ended := 0, detail := detail }
  if s.rc.deviceState = 1 && domain = 6 then s.setRc { s.rc with quiesceOrdered := true }
  else match s.rc.resets.find? fun x => (x.domain = domain && x.index = index) || encloses x.domain x.index domain index with
  | some x =>
    let s := retire { r with action := 3, ended := s.now, detail := x.seq } (s.setRc { s.rc with faultSeq := seq })
    s.setRc { s.rc with resets := s.rc.resets.map fun y =>
      if y.domain = x.domain && y.index = x.index then
        { y with fences := if domain = 1 && x.domain ≠ 1 then y.fences ++ [index] else y.fences,
                 tasks := y.tasks ++ tasks }
      else y }
  | none =>
    if 64 ≤ queue.length then orderOverflow cause handler s
    else
      let s := s.setRc { s.rc with
        faultSeq := seq
        queueA := if handler = 0 then s.rc.queueA ++ [r] else s.rc.queueA
        queueB := if handler = 1 then s.rc.queueB ++ [r] else s.rc.queueB }
      startReset domain index cause seq (if domain = 1 then [index] else []) tasks s

/-! Items. -/

def getItem? (s : State) (n : Nat) : Option Item := s.ho.items.get? n
def setItem (n : Nat) (i : Item) (s : State) : State := s.setHo { s.ho with items := s.ho.items.set n i }
def modItem (n : Nat) (f : Item → Item) (s : State) : State :=
  s.setHo { s.ho with items := s.ho.items.modify n f }

/-- An item ends with a status and its results; its completion is posted once R170 holds. An item
that has ended keeps its first status; what its engine has counted stands where no result is given.
DESIGN CHOICE: log entry 28. -/
def endItem (n status r0 r1 : Nat) (s : State) : State :=
  modItem n (fun i => if i.ended.isSome then i
    else { i with ended := some status, r0 := if r0 = 0 then i.r0 else r0, r1 := if r1 = 0 then i.r1 else r1, wait := .none }) s

/-- The device serves no work: out of service, in salvage, quiesced, or without power or clock. -/
def State.inService (s : State) : Bool := s.rc.deviceState = 0 && !s.rc.quiesced

/-- Power is good, RESET_N is high, and the hardwired path has not fired.
DESIGN CHOICE: log entry 108. -/
def State.powered (s : State) : Bool := s.pw.supply && !s.pw.resetLow && !s.rc.quiesced

/-- The outcome of an event inside the device, which happens only while it is powered. -/
def State.act (s t : State) : Res3 := .next (if s.powered then t else s)

/-- The device works: it is powered, and not in shedding stage S4, in which it answers nothing but ODP (R506). -/
def State.alive (s : State) : Bool := s.powered && s.pw.stage < 4

/-- An idle step: a nanosecond of local time passes while the island's clock runs (R496).
DESIGN CHOICE: log entry 15. -/
def idle (s : State) : State :=
  if s.pw.supply && s.pw.refclk then s.setNow (s.now + 1) else s

end Sys2Proof.Machine
end

