-- ==== Sys2Proof/Machine/Drumbeat.lean ====
section
/-!
DEFINITION. Drumbeat: when a run of a periodic task starts and ends (R460–R463).

Tasks are numbered in the order of R460: 0 Drift round, 1 garbage collection, 2 scrub, 3 Cumulus
eviction round, 4 journal flush.
-/

namespace Sys2Proof.Machine

/-- P and Pmin of a task, in ns. -/
def drumPeriod (s : State) (t : Nat) : Nat × Nat :=
  match t with
  | 0 => (1000000 * Par.driftPeriodMs s, 1000000 * Par.driftMinMs s)
  | 1 => (1000000 * Par.gcPeriodMs s, 1000000 * Par.gcMinMs s)
  | 2 => (1000000 * Par.scrubPeriodMs s, 1000000 * Par.scrubMinMs s)
  | 3 => (1000000 * Par.evictPeriodMs s, 1000000 * Par.evictMinMs s)
  | _ => (1000000 * Par.flushPeriodMs s, 1000000 * Par.flushMinMs s)

def getDrum (s : State) (t : Nat) : Drum := s.sv.drums.getD t {}
def setDrum (t : Nat) (d : Drum) (s : State) : State :=
  s.setSv { s.sv with drums := s.sv.drums.set t d }

/-- The start of the next run: max(N(k), s(k−1) + Pmin, e(k−1)) (R461). -/
def drumStart (s : State) (t : Nat) : Nat :=
  let d := getDrum s t
  let (p, pmin) := drumPeriod s t
  if d.k = 0 then d.t0 else max (d.t0 + d.k * p) (max (d.lastStart + pmin) d.lastEnd)

/-- Whether a task may run now: Frost has mounted, the device is in service or the task is scrub in
salvage mode, no chip warm reset runs, and shedding has not suspended the task (R462, R489). -/
def drumAllowed (s : State) (t : Nat) : Bool :=
  s.powered && s.bt.mounted && s.rc.warmStep = 0 && (s.rc.deviceState = 0 || (s.rc.deviceState = 1 && t = 2)) &&
    (if t = 4 then s.pw.s4Phase ≤ 1 else !s.sv.suspended && s.pw.stage = 0) && !(getDrum s t).running

/-- A run starts at its time. TASK_BEHIND is raised when it starts more than 10 × P late, once until
the task has regained its schedule (R463). -/
def drumBegin (t : Nat) (s : State) : State :=
  let d := getDrum s t
  let (p, _) := drumPeriod s t
  let s := s.reach (drumStart s t)
  let nominal := d.t0 + d.k * p
  let late := nominal + 10 * p < s.now
  let s := setDrum t { d with k := d.k + 1, lastStart := s.now, running := true,
                              behind := if late then true else if s.now = nominal then false else d.behind } s
  if late && !d.behind then raise 0x180 t 0 0 s else s

/-- DRUMBEAT_RUN_END: the run of a task in progress ends (R461). -/
def execDrumbeatRunEnd (task : Nat) (s : State) : Res3 :=
  s.act (if (getDrum s task).running then
    setDrum task { getDrum s task with running := false, lastEnd := s.now } s
  else s)

end Sys2Proof.Machine
end

