-- ==== Sys2Proof/Machine/Tiers.lean ====
section
/-!
DEFINITION. The range and its tiers: homes, slots, protection, Drift and module loss
(chapter 2 of the spec).
-/

namespace Sys2Proof.Machine

/-! Slots (R34, R577). -/

/-- A number for slot `n` of a tier. -/
def slotKey (tier n : Nat) : Nat := 0x100000000 * tier + n

/-- The module that a DRAM slot lies on: a stack, or channel × 2 + DIMM + 0x10; none if the slot
number names no place (R577). -/
def moduleOf (s : State) (tier n : Nat) : Option Nat :=
  if tier = 1 then
    if n / 8 < s.board.stackSlots.getD (n % 8) 0 then some (n % 8) else none
  else
    let d0 := s.board.dimmSlots.getD (n % 8 * 2) 0
    let d1 := s.board.dimmSlots.getD (n % 8 * 2 + 1) 0
    if n / 8 < d0 then some (0x10 + n % 8 * 2)
    else if n / 8 < d0 + d1 then some (0x10 + n % 8 * 2 + 1) else none

/-- A DRAM slot that names a place on a module that is not lost. -/
def slotGood (s : State) (tier n : Nat) : Bool :=
  match moduleOf s tier n with
  | some m => !s.ti.lostModules.mem m
  | none => false

def slotUsed (s : State) (tier n : Nat) : Bool := s.ti.used.mem (slotKey tier n)

/-- The slots of a DRAM module. -/
def moduleSlots (s : State) (m : Nat) : Nat :=
  if m < 0x10 then s.board.stackSlots.getD m 0 else s.board.dimmSlots.getD (m - 0x10) 0

/-- The slots a tier offers after mount (R34, R68). -/
def tierSlots (s : State) (tier : Nat) : Nat :=
  if tier = 1 then s.ti.hbmSlots else if tier = 2 then s.ti.ddrSlots else s.ti.flashSlots

/-- The modules of a DRAM tier that are lost. -/
def lostOf (s : State) (tier : Nat) : List Nat :=
  (s.ti.lostModules.map Prod.fst).filter fun m => (tier = 1) == (m < 0x10)

/-! Frost's share of a home: groups and their room (R67, R578). -/

/-- Pages that lie in a parity group. -/
def groupPages (s : State) (g : Nat) : Nat := s.fr.pageGroup.count fun _ x => x = g

/-- The pages that a group can hold: its share of FLASH_SLOTS by its dies. -/
def groupRoom (s : State) (g : Nat) : Nat :=
  let dies := (List.range 16).foldl (fun n i => n + s.board.dies.getD (16 * g + i) 0) 0
  let all := (List.range 48).foldl (fun n i => n + s.board.dies.getD i 0) 0
  s.ti.flashSlots * dies / max all 1

def groupState (s : State) (g : Nat) : Nat := (s.fr.groups.getD g {}).state

/-- The free capacity of a group for new pages: none unless it is in NORMAL. -/
def groupFree (s : State) (g : Nat) : Nat :=
  if groupState s g = 0 then groupRoom s g - groupPages s g else 0

/-- The group that Frost takes for a page: NORMAL with the most free capacity, ties to the lower (R578). -/
def pickGroup (s : State) : Option Nat :=
  let best := (List.range 3).foldl (fun b g => if groupFree s b < groupFree s g then g else b) 0
  if groupFree s best = 0 then none else some best

/-- Free slots of a tier. -/
def freeSlots (s : State) (tier : Nat) : Nat :=
  if tier = 3 then s.ti.flashSlots - s.ti.used.count fun k _ => k / 0x100000000 = 3
  else
    let lost := (lostOf s tier).foldl (fun n m => n + moduleSlots s m) 0
    (tierSlots s tier - lost) -
      (s.ti.used.count fun k _ => k / 0x100000000 = tier && slotGood s tier (k % 0x100000000)) -
      (if tier = 1 then s.ti.workSlots else 0)

/-- The least number from `n` that satisfies `p`, within `fuel` numbers. -/
def findFrom (p : Nat → Bool) : Nat → Nat → Option Nat
  | 0, _ => none
  | fuel + 1, n => if p n then some n else findFrom p fuel (n + 1)

/-- One more than the greatest slot number of a tier. -/
def slotBound (s : State) (tier : Nat) : Nat :=
  if tier = 1 then 8 * (List.range 8).foldl (fun n i => max n (s.board.stackSlots.getD i 0)) 0
  else if tier = 2 then
    8 * (List.range 8).foldl (fun n i =>
      max n (s.board.dimmSlots.getD (2 * i) 0 + s.board.dimmSlots.getD (2 * i + 1) 0)) 0
  else s.ti.flashSlots

/-- Whether PARITY can be kept in a tier: all eight channels of DDR5 hold equal capacity (R51). -/
def parityAllowed (s : State) (tier : Nat) : Bool :=
  tier = 1 || ((List.range 8).all fun i =>
    s.board.dimmSlots.getD (2 * i) 0 + s.board.dimmSlots.getD (2 * i + 1) 0 =
      s.board.dimmSlots.getD 0 0 + s.board.dimmSlots.getD 1 0)

/-- The slot that keeps the parity share of a group, if the group is a PARITY group. -/
def parityShare? (s : State) (tier g : Nat) : Option Nat := s.ti.parity.get? (slotKey tier g)

/-- Whether a slot can become a data member of a PARITY group (R51): of one that exists, or of one
whose eight slots are all empty. -/
def canJoinParity (s : State) (tier n : Nat) : Bool :=
  let g := n / 8
  match parityShare? s tier g with
  | some share => n ≠ share
  | none =>
    n % 8 ≠ g % 8 && slotGood s tier (8 * g + g % 8) &&
      (List.range 8).all fun i => !slotUsed s tier (8 * g + i)

/-- Whether a slot can take a page of class NONE or MIRROR: it lies in no PARITY group. -/
def canTakePlain (s : State) (tier n : Nat) : Bool := (parityShare? s tier (n / 8)).isNone

/-- A place for a page: its slot, its second slot, and its arrangement. -/
structure Place where
  tier : Nat
  slot : Nat
  mirror : Nat
  arranged : Nat
  deriving DecidableEq, Repr

/-- A free place in a DRAM tier under a class (R30, R49, R51): the lowest slots that serve. -/
def dramPlace (s : State) (tier prot : Nat) : Option Place :=
  let free := fun n => slotGood s tier n && !slotUsed s tier n
  let bound := slotBound s tier
  if freeSlots s tier = 0 then none
  else if prot = 2 then
    if parityAllowed s tier then
      (findFrom (fun n => free n && canJoinParity s tier n) bound 0).map fun n => ⟨tier, n, 0, 2⟩
    else none
  else
    match findFrom (fun n => free n && canTakePlain s tier n) bound 0 with
    | none => none
    | some a =>
      if prot = 1 then
        (findFrom (fun n => free n && canTakePlain s tier n && n % 8 ≠ a % 8) bound 0).map fun b => ⟨tier, a, b, 1⟩
      else some ⟨tier, a, 0, 0⟩

/-- Frost accepts no new page: it is closed or has not mounted (R94). -/
def frostShut (s : State) : Bool := s.fr.closed || !s.bt.mounted

/-- A free place in flash: the lowest logical page number, while a group can take the page. -/
def flashPlace (s : State) : Option Place :=
  if frostShut s || (pickGroup s).isNone then none
  else (findFrom (fun n => !slotUsed s 3 n) s.ti.flashSlots 0).map fun n => ⟨3, n, 0, 0⟩

/-- A free place in a tier for a page of a class. -/
def placeIn (s : State) (tier prot : Nat) : Option Place :=
  if tier = 3 then flashPlace s else if tier = 1 || tier = 2 then dramPlace s tier prot else none

/-- A tier is above its low watermark: its free slots exceed the percentage of its slots. -/
def aboveLow (s : State) (tier : Nat) : Bool :=
  let pct := if tier = 1 then Par.hbmFreeLow s else Par.ddr5FreeLow s
  pct * tierSlots s tier < 100 * freeSlots s tier

/-- A TIER_DRAIN runs. -/
def draining (s : State) : Bool := !s.ti.drainItems.isEmpty

/-- The tiers of R30 in the order tried for a page. While a drain runs, or DRAINED is 1, only flash
is taken (R60, R61). -/
def homeOrder (s : State) (e : HomeEntry) : List Nat :=
  if draining s || s.ti.drained then [3]
  else
    (if e.hint = 1 || e.hint = 2 then [e.hintTier] else []) ++
      (if aboveLow s 1 then [1] else []) ++ (if aboveLow s 2 then [2] else []) ++ [3, 1, 2]

/-- The place of a new page home: that of the first tier that can hold the page under its class (R30). -/
def choosePlace (s : State) (e : HomeEntry) : Option Place :=
  (homeOrder s e).findSome? fun t => placeIn s t e.prot

/-- A place taken: its slots become used, and a new PARITY group takes its share's slot. -/
def takePlace (p : Place) (s : State) : State :=
  let g := p.slot / 8
  let newGroup := p.arranged = 2 && (parityShare? s p.tier g).isNone
  let share := 8 * g + g % 8
  let used := s.ti.used.add (slotKey p.tier p.slot)
  let used := if p.arranged = 1 then used.add (slotKey p.tier p.mirror) else used
  let used := if newGroup then used.add (slotKey p.tier share) else used
  s.setTi { s.ti with
    used := used
    parity := if newGroup then s.ti.parity.set (slotKey p.tier g) share else s.ti.parity }

/-- A place freed: its slots become free, and a PARITY group left without members gives its share back. -/
def freePlace (p : Place) (s : State) : State :=
  let g := p.slot / 8
  let used := s.ti.used.del (slotKey p.tier p.slot)
  let used := if p.arranged = 1 then used.del (slotKey p.tier p.mirror) else used
  match (if p.arranged = 2 then parityShare? s p.tier g else none) with
  | some share =>
    if (List.range 8).any (fun i => 8 * g + i ≠ share && used.mem (slotKey p.tier (8 * g + i))) then
      s.setTi { s.ti with used := used }
    else
      s.setTi { s.ti with used := used.del (slotKey p.tier share), parity := s.ti.parity.erase (slotKey p.tier g) }
  | none => s.setTi { s.ti with used := used }

/-! The home map (R29, R35, R36). -/

/-- A page's entry; a page never set has DEFAULT_PROTECTION. -/
def entryOf (s : State) (page : Nat) : HomeEntry :=
  match s.ti.homeA.get? page with
  | some e => e
  | none => { prot := Par.defaultProtection s }

/-- An entry written to copy A, then to copy B (R36). -/
def setEntry (page : Nat) (e : HomeEntry) (s : State) : State :=
  s.setTi { s.ti with homeA := s.ti.homeA.set page e, homeB := s.ti.homeB.set page e }

def HomeEntry.place (e : HomeEntry) : Place := ⟨e.tier, e.slot, e.mirror, e.arranged⟩

/-- The backing capacity in slots. -/
def backing (s : State) : Nat := s.ti.hbmSlots + s.ti.ddrSlots + s.ti.flashSlots

def freeAll (s : State) : Nat := freeSlots s 1 + freeSlots s 2 + freeSlots s 3

/-- LOW_SPACE is raised as the free slots cross below SPACE_LOW_PCT, once until they have recovered (R33). -/
def checkLowSpace (s : State) : State :=
  let pct := Par.spaceLowPct s
  if s.ti.lowArmed then
    if 100 * freeAll s < pct * backing s then
      raise 0x100 0 0 0 (s.setTi { s.ti with lowArmed := false })
    else s
  else if min (pct + 1) 100 * backing s ≤ 100 * freeAll s then s.setTi { s.ti with lowArmed := true }
  else s

/-- A record for the next group commit of Frost's journal (R90). -/
def journal (r : JRec) (s : State) : State := s.setFr { s.fr with pend := s.fr.pend ++ [r] }

/-- A page receives a home in a place (R30). Its lines read as zero until they are written (R29). -/
def homeAt (page : Nat) (p : Place) (s : State) : State :=
  let e := entryOf s page
  let e' := { e with tier := p.tier, state := 0, slot := p.slot, mirror := p.mirror, arranged := p.arranged }
  let s := setEntry page e' (takePlace p s)
  if p.tier = 3 then
    journal (.home page e')
      (s.setFr { s.fr with pageGroup := match pickGroup s with
        | some g => s.fr.pageGroup.set page g
        | none => s.fr.pageGroup })
  else s

/-- The first write to an absent page gives it a home and a key owner (R29–R31, R88); none when no
tier has a free slot. -/
def allocHome (page tenant : Nat) (s : State) : Option State :=
  match choosePlace s (entryOf s page) with
  | none => none
  | some p =>
    let s := homeAt page p s
    some (checkLowSpace (journal (.owner page (some tenant))
      (s.setFr { s.fr with owner := s.fr.owner.set page tenant })))

/-- A page's bytes, poison and undefined contents are gone: it reads as zeros (R29, R32). -/
def wipePage (page : Nat) (s : State) : State :=
  let inPage := fun a => a / 0x200000 = page
  let s := s.setMem (s.mem.filter fun c => !inPage c.1)
  s.setTi { s.ti with
    poison := s.ti.poison.keep fun l _ => l / 0x8000 ≠ page
    cleared := s.ti.cleared.keep fun l _ => l / 0x8000 ≠ page
    poisonPages := s.ti.poisonPages.del page
    undef := s.ti.undef.erase page
    written := s.ti.written.keep fun a _ => !inPage a }

/-- Every line of a page is poisoned until written (R55). -/
def poisonPage (page : Nat) (s : State) : State :=
  s.setTi { s.ti with
    poisonPages := s.ti.poisonPages.add page
    cleared := s.ti.cleared.keep fun l _ => l / 0x8000 ≠ page }

/-! In-flight counts of slots (R32, R42). -/

def refsOf (s : State) (tier slot : Nat) : Nat := s.ti.refs.getD (slotKey tier slot) 0

def addRef (tier slot : Nat) (s : State) : State :=
  s.setTi { s.ti with refs := s.ti.refs.set (slotKey tier slot) (refsOf s tier slot + 1) }

def dropRef (tier slot : Nat) (s : State) : State :=
  let n := refsOf s tier slot - 1
  s.setTi { s.ti with refs := if n = 0 then s.ti.refs.erase (slotKey tier slot) else s.ti.refs.set (slotKey tier slot) n }

/-- A place is freed at once when nothing refers to it, and else when its count reaches zero. -/
def releasePlace (page : Nat) (p : Place) (s : State) : State :=
  if p.tier = 0 then s
  else if refsOf s p.tier p.slot = 0 then freePlace p s
  else s.setTi { s.ti with freeing := s.ti.freeing.set (slotKey p.tier p.slot) ⟨page, p.mirror, p.arranged⟩ }

/-! Moves (R37–R43). -/

def Move.src (m : Move) : Place := ⟨m.srcTier, m.srcSlot, m.srcMirror, m.srcArr⟩
def Move.dst (m : Move) : Place := ⟨m.dstTier, m.dstSlot, m.dstMirror, m.dstArr⟩

def touchesFlash (m : Move) : Bool := m.srcTier = 3 || m.dstTier = 3

/-- Drift starts moves in this state of the device (R41, R61, R489). -/
def driftRuns (s : State) : Bool :=
  s.pw.stage = 0 && s.rc.deviceState = 0 && s.rc.warmStep = 0 && s.bt.mounted && !s.rc.quiesced

/-- MOVE_START: a page in HOME gets a move record and destination slots, and the copy of chunk 0
begins (R37, R38). No effect when there is no record or no place. -/
def startMove (page tier : Nat) (s : State) : State :=
  let e := entryOf s page
  let rec? := findFrom (fun r => !s.ti.moves.has r) 16 0
  let place? := placeIn s tier e.prot
  match rec?, place? with
  | some r, some p =>
    if e.state ≠ 0 || e.tier = 0 || !driftRuns s || s.ti.freeing.any (fun f => f.2.page = page) ||
        (e.tier = 3 && frostShut s) then s
    else
      let s := takePlace p s
      let s := setEntry page { e with state := 1, moveSlot := r } s
      s.setTi { s.ti with
        moves := s.ti.moves.set r
          { page := page, srcTier := e.tier, srcSlot := e.slot, srcMirror := e.mirror, srcArr := e.arranged,
            dstTier := p.tier, dstSlot := p.slot, dstMirror := p.mirror, dstArr := p.arranged, chunk := 0,
            passed := false, dirty := [], started := s.now, backs := 0, stallSince := none }
        startedNow := s.ti.startedNow + 1 }
  | _, _ => s

/-- Moves of the plan start in the order selected while records are free, within MOVES_PER_ROUND
(R46); a drain starts any DRAM-homed page, and no other move (R60). -/
def startPlanned : Nat → State → State
  | 0, s => s
  | n + 1, s =>
    if 16 ≤ s.ti.moves.length || !driftRuns s then s
    else if draining s then
      match s.ti.homeA.first? fun _ e => (e.tier = 1 || e.tier = 2) && e.state = 0 with
      | some (page, _) => if (flashPlace s).isSome then startPlanned n (startMove page 3 s) else s
      | none => s
    else
      match s.ti.plan with
      | [] => s
      | (page, tier) :: rest =>
        if Par.movesPerRound s ≤ s.ti.startedNow then s
        else startPlanned n (startMove page tier (s.setTi { s.ti with plan := rest }))

/-- A move is abandoned: the page stays HOME at the source and the destination is freed (R41). -/
def abandonMove (r : Nat) (s : State) : State :=
  match s.ti.moves.get? r with
  | none => s
  | some m =>
    let e := entryOf s m.page
    let s := freePlace m.dst (s.setTi { s.ti with moves := s.ti.moves.erase r })
    if e.tier = 0 then s else setEntry m.page { e with state := 0, moveSlot := 0 } s

/-- Every move that has not reached FREEING is abandoned (R41, R43). -/
def abandonAll (s : State) : State :=
  (s.ti.moves.map Prod.fst).foldl (fun s r =>
    match s.ti.moves.get? r with
    | some m => if (entryOf s m.page).state = 3 then s else abandonMove r s
    | none => s) s

/-- A write that lands at the source of a move sets the dirty bit of its chunk, once the copy of the
chunk has begun (R37, R38). -/
def markDirty (pha : Nat) (s : State) : State :=
  let page := pha / 0x200000
  let e := entryOf s page
  let c := pha % 0x200000 / 0x10000
  if e.state = 1 || e.state = 2 then
    s.setTi { s.ti with moves := s.ti.moves.modify e.moveSlot fun m =>
      if m.passed || c ≤ m.chunk then { m with dirty := m.dirty.add c } else m }
  else s

/-- The switch rule: no chunk is dirty, or one and both ends are DRAM (R39). -/
def switchReady (m : Move) : Bool :=
  m.dirty.isEmpty || (m.dirty.length = 1 && !touchesFlash m)

/-- DRIFT_CHUNK_COPY_DONE: the copy of a chunk ends; the next chunk of the pass begins, or the page
enters SWITCHING (R38, R39). -/
def execDriftChunkCopyDone (move : Nat) (s : State) : Res3 :=
  s.act (match s.ti.moves.get? move with
  | none => s
  | some m =>
    if (entryOf s m.page).state ≠ 1 then s
    else
      let put := fun (m : Move) => s.setTi { s.ti with moves := s.ti.moves.set move m }
      if !m.passed && m.chunk < 31 then
        put { m with chunk := m.chunk + 1, dirty := m.dirty.del (m.chunk + 1) }
      else if switchReady { m with passed := true } then
        setEntry m.page { entryOf s m.page with state := 2 } (put { m with passed := true, chunk := 32 })
      else
        let next := match m.dirty.first? fun c _ => m.passed && m.chunk < c with
          | some (c, _) => some c
          | none => m.dirty.head?.map Prod.fst
        match next with
        | some c => put { m with passed := true, chunk := c, dirty := m.dirty.del c }
        | none => put { m with passed := true, chunk := 32 })

/-- SWITCH_COMPLETE: in SWITCHING the dirty chunks are re-copied, Frost commits the new word 0 of a
move that touches flash (R58), word 0 is rewritten, and the page is FREEING (R36, R37). -/
def execSwitchComplete (move : Nat) (s : State) : Res3 :=
  s.act (match s.ti.moves.get? move with
  | none => s
  | some m =>
    let e := entryOf s m.page
    if e.state ≠ 2 then s
    else
      let e' := { e with tier := m.dstTier, state := 3, slot := m.dstSlot, mirror := m.dstMirror, arranged := m.dstArr,
                         hint := if e.hint = 3 && m.dstTier = 3 then 0 else e.hint }
      let s := setEntry m.page e' s
      let s := s.setTi { s.ti with moves := s.ti.moves.set move { m with dirty := [], stallSince := none, chunk := 32 } }
      let s := s.setFr { s.fr with
        journal := if touchesFlash m then s.fr.journal ++ [JRec.home m.page { e' with state := 0 }] else s.fr.journal
        pageGroup := if m.dstTier = 3 then
            (match pickGroup s with
            | some g => s.fr.pageGroup.set m.page g
            | none => s.fr.pageGroup)
          else s.fr.pageGroup.erase m.page
        intents := if m.dstTier = 3 then s.fr.intents else s.fr.intents.del m.page }
      s)

/-- SWITCH_STALL_EXPIRY: a switch has not finished within its stall budget: 2 µs between DRAM tiers,
250 µs into or out of flash. The page returns to MOVING; the sixteenth return abandons the move
(R40, R41). -/
def execSwitchStallExpiry (move : Nat) (s : State) : Res3 :=
  s.act (match s.ti.moves.get? move with
  | none => s
  | some m =>
    match m.stallSince with
    | none => s
    | some t =>
      if (entryOf s m.page).state ≠ 2 then s
      else
        let s := s.reach (t + if touchesFlash m then 250000 else 2000)
        if 16 ≤ m.backs + 1 then startPlanned 16 (abandonMove move s)
        else
          setEntry m.page { entryOf s m.page with state := 1 }
            (s.setTi { s.ti with moves := s.ti.moves.set move { m with backs := m.backs + 1, stallSince := none } }))

/-- MOVE_TIMEOUT: a move that has not reached FREEING in its time is abandoned (R41). -/
def execMoveTimeout (move : Nat) (s : State) : Res3 :=
  s.act (match s.ti.moves.get? move with
  | none => s
  | some m =>
    if (entryOf s m.page).state = 3 then s
    else
      let limit := if touchesFlash m then Par.moveTimeoutFlash s else Par.moveTimeoutDram s
      startPlanned 16 (abandonMove move (s.reach (m.started + 1000 * limit))))

/-- SOURCE_REFCOUNT_ZERO: nothing refers to a slot that is to be freed: the source of a page in
FREEING, which becomes HOME (R37, R42), or a slot of a released page (R32). -/
def execSourceRefcountZero (tier slot : Nat) (s : State) : Res3 :=
  s.act (
    if refsOf s tier slot ≠ 0 then s
    else
      match s.ti.moves.first? fun _ m =>
        m.srcTier = tier && m.srcSlot = slot && (entryOf s m.page).state = 3 with
      | some (r, m) =>
        let s := freePlace m.src (s.setTi { s.ti with moves := s.ti.moves.erase r })
        let s := setEntry m.page { entryOf s m.page with state := 0, moveSlot := 0 } s
        startPlanned 16 (checkLowSpace s)
      | none =>
        match s.ti.freeing.get? (slotKey tier slot) with
        | some f =>
          checkLowSpace (freePlace ⟨tier, slot, f.mirror, f.arranged⟩
            (s.setTi { s.ti with freeing := s.ti.freeing.erase (slotKey tier slot) }))
        | none => s)

/-- A page becomes absent (R32): its slots are freed once nothing refers to them, a move that has not
reached FREEING is abandoned, and LOST, HEAT and the key owner are cleared. Hint and class stay, but
for a page that lies in no grant any more (R289), which `reset` marks. -/
def releasePage (page : Nat) (reset : Bool) (s : State) : State :=
  let e := entryOf s page
  let s := if e.state = 1 || e.state = 2 then abandonMove e.moveSlot s else s
  let s := if e.state = 3 then
      -- the destination is freed as a released place; the source as FREEING frees it
      match s.ti.moves.get? e.moveSlot with
      | some m => releasePlace page m.src (s.setTi { s.ti with moves := s.ti.moves.erase e.moveSlot })
      | none => s
    else s
  let s := releasePlace page e.place s
  let e' : HomeEntry := { prot := if reset then Par.defaultProtection s else e.prot,
                          hint := if reset then 0 else e.hint,
                          hintTier := if reset then 0 else e.hintTier }
  let s := setEntry page e' s
  let s := if e.tier = 3 then journal (.home page e') s else s
  let s := if s.fr.owner.has page then
      journal (.owner page none) (s.setFr { s.fr with owner := s.fr.owner.erase page })
    else s
  let s := s.setFr { s.fr with
    pageGroup := s.fr.pageGroup.erase page
    intents := s.fr.intents.del page
    moveNext := s.fr.moveNext.filter (· ≠ page)
    buf := s.fr.buf.keep fun u _ => u / 128 ≠ page }
  let s := s.setTi { s.ti with rebuild := s.ti.rebuild.erase page, waiting := s.ti.waiting.del page }
  checkLowSpace (wipePage page s)

/-! Heat (R45). -/

/-- The sliver that homes a line (R121). -/
def sliverOf (line : Nat) : Nat := line * 0x9E3779B97F4A7C15 % 2 ^ 64 / 2 ^ 52

/-- A sliver's entry of the Sliver Map (R122). -/
def sliverEnt (s : State) (sl : Nat) : SliverEnt :=
  match s.co.map.get? sl with
  | some e => e
  | none => ⟨sl / 64, sl % 64, false⟩

/-- The physical tabor that homes a line (R120–R122). -/
def homeTabor (s : State) (line : Nat) : Nat :=
  let e := sliverEnt s (sliverOf line)
  e.kit * 68 + e.pos

/-- An access to a line, counted by its home tabor: every HEAT_SAMPLE-th raises its page's HEAT (R45). -/
def sampleAccess (pha : Nat) (s : State) : State :=
  let t := homeTabor s (pha / 64)
  let n := s.ti.samples.getD t 0 + 1
  if Par.heatSample s ≤ n then
    let page := pha / 0x200000
    let e := entryOf s page
    let s := s.setTi { s.ti with samples := s.ti.samples.erase t }
    if e.tier = 0 then s else setEntry page { e with heat := min 255 (e.heat + 1) } s
  else s.setTi { s.ti with samples := s.ti.samples.set t n }

/-! The Drift round (R46). -/

/-- A list sorted by `lt`, stable. -/
def sortBy {α : Type} (lt : α → α → Bool) : List α → List α
  | [] => []
  | a :: l => ins a (sortBy lt l)
where
  ins (a : α) : List α → List α
    | [] => [a]
    | b :: l => if lt b a then b :: ins a l else a :: b :: l

def hotter (a b : Nat × HomeEntry) : Bool := b.2.heat < a.2.heat
def colder (a b : Nat × HomeEntry) : Bool := a.2.heat < b.2.heat

/-- HOME pages that satisfy a test. -/
def homePages (s : State) (p : HomeEntry → Bool) : List (Nat × HomeEntry) :=
  s.ti.homeA.filter fun kv => kv.2.state = 0 && kv.2.tier ≠ 0 && !kv.2.lost && p kv.2

/-- How many slots a tier lacks of being above its low watermark. -/
def shortOf (s : State) (tier : Nat) : Nat :=
  let pct := if tier = 1 then Par.hbmFreeLow s else Par.ddr5FreeLow s
  pct * tierSlots s tier / 100 + 1 - freeSlots s tier

/-- Demotion candidates of a tier: unpinned pages, those without PREFER for the tier first (R47), the
coldest first. -/
def demotable (s : State) (tier : Nat) : List (Nat × HomeEntry) :=
  let l := homePages s fun e => e.tier = tier && e.hint ≠ 1
  sortBy colder (l.filter fun kv => !(kv.2.hint = 2 && kv.2.hintTier = tier)) ++
    sortBy colder (l.filter fun kv => kv.2.hint = 2 && kv.2.hintTier = tier)

/-- The tier to which R46 step 7 promotes a page, if any. -/
def promotion (s : State) (e : HomeEntry) : Option Nat :=
  let up1 := aboveLow s 1
  let up2 := aboveLow s 2
  if e.hint = 1 || e.hint = 3 then none
  else if e.hint = 2 && e.hintTier ≠ 3 && e.hintTier < e.tier && (if e.hintTier = 1 then up1 else up2) then some e.hintTier
  else if e.tier = 3 && Par.promoteHbm s ≤ e.heat && up1 then some 1
  else if e.tier = 3 && Par.promoteDdr5 s ≤ e.heat && up2 then some 2
  else if e.tier = 2 && Par.promoteHbm s ≤ e.heat && up1 then some 1
  else none

/-- The plan of a round: pages and their destinations, in the order of the steps of R46. -/
def driftPlan (s : State) : List (Nat × Nat) :=
  let ddrOk := freeSlots s 2 ≠ 0
  let low1 := !aboveLow s 1
  let low2 := !aboveLow s 2
  let step2 := if low1 && tierSlots s 1 ≠ 0 then
    ((demotable s 1).take (shortOf s 1)).map fun kv => (kv.1, if ddrOk then 2 else 3) else []
  let step3 := if low2 && tierSlots s 2 ≠ 0 then
    ((demotable s 2).take (shortOf s 2)).map fun kv => (kv.1, 3) else []
  let step4 := (homePages s fun e => e.hint = 3 && e.tier ≠ 3).map fun kv => (kv.1, 3)
  let step5 := (sortBy hotter (homePages s fun e => e.hint = 1 && e.tier ≠ e.hintTier)).map fun kv => (kv.1, kv.2.hintTier)
  let step6 := (sortBy hotter (homePages s fun e => e.tier ≠ 3 && e.prot ≠ e.arranged)).map fun kv => (kv.1, kv.2.tier)
  let step7 := (sortBy hotter (homePages s fun e => (promotion s e).isSome)).filterMap fun kv =>
    (promotion s kv.2).map fun t => (kv.1, t)
  let all := step2 ++ step3 ++ step4 ++ step5 ++ step6 ++ step7
  let kept := if s.ti.drained then all.filter fun pt => pt.2 = 3 else all
  kept.foldl (fun l pt => if l.any (fun q => q.1 = pt.1) then l else l ++ [pt]) []

/-- DRIFT_ROUND: a run of the Drift round (R46). HEAT decays, COLD pages lose their heat, the plan is
made, and moves start. A page marked COLD that is in flash already loses its hint. -/
def execDriftRound (s : State) : Res3 :=
  .next (
    if !drumAllowed s 0 then s
    else
      let s := drumBegin 0 s
      let shift := Par.heatDecayShift s
      let decay := fun (_ : Nat) (e : HomeEntry) =>
        { e with heat := if e.hint = 3 then 0 else e.heat - e.heat / 2 ^ shift,
                 hint := if e.hint = 3 && e.tier = 3 && e.state = 0 then 0 else e.hint }
      let s := s.setTi { s.ti with homeA := s.ti.homeA.mapVal decay, homeB := s.ti.homeB.mapVal decay,
                                   startedNow := 0 }
      if draining s then startPlanned 16 s
      else
        let s := s.setTi { s.ti with plan := driftPlan s }
        startPlanned 16 s)

/-! Uncorrectable lines and lost modules (R53–R57). -/

/-- The modules that hold a page's contents. -/
def pageModules (s : State) (e : HomeEntry) : List Nat :=
  if e.tier = 1 || e.tier = 2 then
    (moduleOf s e.tier e.slot).toList ++ (if e.arranged = 1 then (moduleOf s e.tier e.mirror).toList else [])
  else []

/-- Slots of a PARITY group in use that lie on lost modules and are not rebuilt. -/
def groupLosses (s : State) (tier g : Nat) : Nat :=
  ((List.range 8).filter fun i =>
    slotUsed s tier (8 * g + i) && !slotGood s tier (8 * g + i)).length

/-- A page's contents are gone with its modules: a NONE page on a lost module, a MIRROR page with both
copies lost, a PARITY page on a lost module whose group has lost two members (R55, R57). -/
def contentsLost (s : State) (e : HomeEntry) : Bool :=
  (e.tier = 1 || e.tier = 2) &&
    if e.arranged = 1 then !slotGood s e.tier e.slot && !slotGood s e.tier e.mirror
    else if e.arranged = 2 then !slotGood s e.tier e.slot && 2 ≤ groupLosses s e.tier (e.slot / 8)
    else !slotGood s e.tier e.slot

/-- REBUILD_DONE for each lost module that no page depends on, while no page waits for a slot (R55). -/
def checkRebuilt (s : State) : State :=
  if !s.ti.waiting.isEmpty then s
  else
    (s.ti.owing.map Prod.fst).foldl (fun s m =>
      if s.ti.rebuild.any fun r => r.2 = m then s
      else raise 0x102 m 0 0 (s.setTi { s.ti with owing := s.ti.owing.del m })) s

/-- A module is lost (R54–R57): moves into it are abandoned, and every page that it held is to be
rebuilt or re-homed; contents that no other copy holds are poisoned. A page of a PARITY group whose
share is lost moves out so that the share can be written in its place. -/
def loseModule (m : Nat) (s : State) : State :=
  if s.ti.lostModules.mem m then s
  else
    let s := s.setTi { s.ti with lostModules := s.ti.lostModules.add m, owing := s.ti.owing.add m }
    let s := raise 0x101 m 0 0 s
    let hit := fun (tier slot : Nat) => (tier = 1 || tier = 2) && moduleOf s tier slot = some m
    let s := (s.ti.moves.map Prod.fst).foldl (fun s r =>
      match s.ti.moves.get? r with
      | some mv =>
        if (entryOf s mv.page).state ≠ 3 && (hit mv.dstTier mv.dstSlot || hit mv.srcTier mv.srcSlot) then abandonMove r s
        else s
      | none => s) s
    let s := (s.ti.homeA.filter fun kv => (pageModules s kv.2).contains m).foldl (fun s kv =>
      let s := s.setTi { s.ti with rebuild := s.ti.rebuild.set kv.1 m }
      if contentsLost s kv.2 then poisonPage kv.1 s else s) s
    let s := (s.ti.parity.filter fun kv =>
        moduleOf s (kv.1 / 0x100000000) kv.2 = some m).foldl (fun s kv =>
      let tier := kv.1 / 0x100000000
      let g := kv.1 % 0x100000000
      match s.ti.homeA.first? fun _ e => e.tier = tier && e.arranged = 2 && e.slot / 8 = g with
      | some (page, _) => s.setTi { s.ti with rebuild := s.ti.rebuild.set page m }
      | none => s) s
    checkRebuilt s

/-- A page of a lost module gets a place of its class elsewhere; it waits when there is none (R55). A
MIRROR page keeps its surviving copy and gets a second one. -/
def rehomePage (page : Nat) (s : State) : State :=
  let e := entryOf s page
  let done := fun (s : State) => checkRebuilt (s.setTi { s.ti with
    rebuild := s.ti.rebuild.erase page, waiting := s.ti.waiting.del page })
  let wait := fun (s : State) => s.setTi { s.ti with waiting := s.ti.waiting.add page }
  if e.tier = 1 || e.tier = 2 then
    if e.arranged = 1 && !contentsLost s e then
      let keep := if slotGood s e.tier e.slot then e.slot else e.mirror
      let lost := if keep = e.slot then e.mirror else e.slot
      match findFrom (fun n => slotGood s e.tier n && !slotUsed s e.tier n && canTakePlain s e.tier n && n % 8 ≠ keep % 8)
          (slotBound s e.tier) 0 with
      | some n =>
        done (setEntry page { e with slot := keep, mirror := n }
          (s.setTi { s.ti with used := (s.ti.used.del (slotKey e.tier lost)).add (slotKey e.tier n) }))
      | none => wait s
    else
      let g := e.slot / 8
      let share? := if e.arranged = 2 then parityShare? s e.tier g else none
      let shareLost := match share? with
        | some sh => !slotGood s e.tier sh
        | none => false
      match choosePlace s e with
      | none => wait s
      | some p =>
        let s := homeAt page p s
        if shareLost && slotGood s e.tier e.slot then
          -- the parity share takes the place of the page that moved out
          let sh := share?.getD 0
          done (s.setTi { s.ti with parity := s.ti.parity.set (slotKey e.tier g) e.slot,
                                    used := s.ti.used.del (slotKey e.tier sh) })
        else done (freePlace e.place s)
  else done s

/-- UNCORRECTABLE_LINE: a DRAM read of a line returns an error that ECC cannot correct, from copy 0
(SLOT) or 1 (MIRROR_SLOT). NONE: the line is poisoned. MIRROR and PARITY: the line is served from the
rest and rewritten (R52, R53). UE_LOSS_COUNT distinct lines of a module within 1 s lose it (R54). An
address outside the range has no line. DEDUCED: log entry 107. -/
def execUncorrectableLine (pha copy : Nat) (s : State) : Res3 :=
  if s.ti.rangePages ≤ pha / 0x200000 then .fault (.absentAddress pha)
  else s.act (
    let e := entryOf s (pha / 0x200000)
    if e.tier ≠ 1 && e.tier ≠ 2 then s
    else
      match moduleOf s e.tier (if copy = 1 && e.arranged = 1 then e.mirror else e.slot) with
      | none => s
      | some m =>
        let line := pha / 64
        let recent := (s.ti.ueLog.filter fun (_, _, t) => s.now < t + 1000000000)
        let log := (recent.filter fun (m', l, _) => !(m' = m && l = line)) ++ [(m, line, s.now)]
        let s := s.setTi { s.ti with ueLog := log }
        let s := if e.arranged = 0 || (e.arranged = 1 && !(slotGood s e.tier e.slot && slotGood s e.tier e.mirror)) ||
            (e.arranged = 2 && 0 < groupLosses s e.tier (e.slot / 8)) then setPoison s pha else s
        if Par.ueLossCount s ≤ (log.filter fun (m', _, _) => m' = m).length then loseModule m s else s)

/-- MODULE_LOST: a module is declared lost (R54, R55). -/
def execModuleLost (module : Nat) (s : State) : Res3 :=
  s.act (if moduleSlots s module = 0 then s else loseModule module s)

/-- PAGE_REBUILD_DONE: Drift finishes rebuilding or re-homing one page of a lost module, or the page
waits for a slot (R55). -/
def execPageRebuildDone (page : Nat) (s : State) : Res3 :=
  s.act (if s.ti.rebuild.has page && !s.ti.waiting.mem page && (entryOf s page).state = 0 then rehomePage page s else s)

/-- WAITING_PAGE_HOMED: a page that waited for a free slot is homed (R55). -/
def execWaitingPageHomed (page : Nat) (s : State) : Res3 :=
  s.act (if s.ti.waiting.mem page then rehomePage page s else s)

/-- TIER_DRAIN_DONE: the drain ends with OK when no page has a home in DRAM, and sets DRAINED (R60,
R61); or with NO_SPACE when flash has no free slot for the next page. Every item that joined ends.
DESIGN CHOICE: log entry 72. -/
def execTierDrainDone (s : State) : Res3 :=
  s.act (
    if !draining s || s.pw.stage ≠ 0 then s
    else
      let left := s.ti.homeA.any fun kv => kv.2.tier = 1 || kv.2.tier = 2
      let fin := fun (st : Nat) (s : State) =>
        s.ti.drainItems.foldl (fun s i => endItem i st 0 0 s) s
      if !left && s.ti.moves.isEmpty then
        let s := fin Config.ok s
        s.setTi { s.ti with drained := true, drainItems := [] }
      else if left && s.ti.moves.isEmpty && (flashPlace s).isNone then
        let s := fin Config.noSpace s
        s.setTi { s.ti with drainItems := [] }
      else s)

/-! Access to a page (R29–R31, R55, R59, R83, R89, R94). -/

/-- Whether an access to a page may be performed now. -/
inductive Gate where
  | ok
  /-- It completes with a status and is not applied. -/
  | bad (status : Nat)
  /-- It waits: for a switch, or for a write intent. -/
  | stall
  deriving DecidableEq, Repr

/-- A page whose contents are gone and that has not been re-homed (R55). -/
def homeless (s : State) (page : Nat) (e : HomeEntry) : Bool :=
  (s.ti.rebuild.has page || s.ti.waiting.mem page) && contentsLost s e

/-- A flash-homed page whose key owner has no key reads as POISONED (R89). -/
def keyGone (s : State) (page : Nat) : Bool :=
  match s.fr.owner.get? page with
  | some t => !s.tr.tenants.has t
  | none => false

/-- A read of a page (R29, R55, R59, R89). -/
def readGate (page : Nat) (s : State) : Gate :=
  let e := entryOf s page
  if e.lost || homeless s page e || (e.tier = 3 && keyGone s page) then .bad Config.poisoned else .ok

/-- A write, atomic or accumulation to a page for a tenant: an absent page is given a home; a
flash-homed page needs a committed write intent (R90); a page in SWITCHING stalls it (R39). -/
def writeGate (page tenant : Nat) (s : State) : State × Gate :=
  let e := entryOf s page
  if e.lost || homeless s page e then (s, .bad Config.poisoned)
  else if e.tier = 0 then
    match allocHome page tenant s with
    | some s' =>
      if (entryOf s' page).tier = 3 then (journal (.intent page) s', .stall) else (s', .ok)
    | none => (s, .bad Config.noSpace)
  else if e.state = 2 then
    (s.setTi { s.ti with moves := s.ti.moves.modify e.moveSlot fun m =>
      if m.stallSince.isNone then { m with stallSince := some s.now } else m }, .stall)
  else if e.tier = 3 then
    if s.fr.closed || groupState s (s.fr.pageGroup.getD page 0) = 2 then (s, .bad Config.noSpace)
    else if s.fr.closing then (s, .stall)
    else if s.fr.intents.mem page then (s, .ok)
    else if s.fr.pend.contains (.intent page) then (s, .stall)
    else (journal (.intent page) s, .stall)
  else (s, .ok)

end Sys2Proof.Machine
end

