-- ==== Sys2Proof/Machine/Frost.lean ====
section
/-!
DEFINITION. Frost: unit reads, the write buffer, programs, failed parts and the journal
(chapter 3 of the spec).
-/

namespace Sys2Proof.Machine

def dieKey (chan die : Nat) : Nat := chan * 16 + die

/-- A number for a block of the array. -/
def blockKey (l : FrostLoc) : Nat := 0x100000 * dieKey l.chan l.die + l.block

/-- The 16 KiB unit of a PHA (R66). -/
def unitOf (pha : Nat) : Nat := pha / 0x4000

/-- The pool page of a unit. -/
def unitPage (u : Nat) : Nat := u / 128

def getDie (s : State) (k : Nat) : Die := s.fr.dies.getD k {}
def setDie (k : Nat) (d : Die) (s : State) : State := s.setFr { s.fr with dies := s.fr.dies.set k d }

/-- The group of a unit's page. -/
def unitGroup (s : State) (u : Nat) : Nat := s.fr.pageGroup.getD (unitPage u) 0

/-- Whether the part that holds a location is lost and not rebuilt. -/
def locLost (s : State) (chan die : Nat) : Bool :=
  s.fr.lostChannels.mem chan || ((getDie s (dieKey chan die)).lost && !(getDie s (dieKey chan die)).rebuilt)

/-- The lost members of the stripe rows of a die number in a group: a row has one unit on each of the
16 channels, on the dies of one number. -/
def rowLosses (s : State) (g die : Nat) : Nat :=
  ((List.range 16).filter fun i => locLost s (16 * g + i) die).length

/-- A unit is lost: its 256 lines are poisoned and FLASH_UNIT_LOST is raised (R71). -/
def loseUnit (u : Nat) (s : State) : State :=
  let s := (List.range 256).foldl (fun s i => setPoison s (0x4000 * u + 64 * i)) s
  raise 0x110 0 (unitPage u) 0 s

/-- A flash access to a unit that is not buffered starts a unit read, counted on its block (R70, R73).
DESIGN CHOICE: log entry 96. -/
def startUnitRead (u : Nat) (s : State) : State :=
  if s.fr.buf.has u || s.fr.reads.has u then s
  else
    let s := s.setFr { s.fr with reads := s.fr.reads.set u { retries := 0, rebuilding := false } }
    match s.fr.loc.get? u with
    | none => s
    | some l =>
      let b := blockKey l
      let s := s.setFr { s.fr with readCount := s.fr.readCount.set b (s.fr.readCount.getD b 0 + 1) }
      if locLost s l.chan l.die then
        s.setFr { s.fr with reads := s.fr.reads.set u { retries := 0, rebuilding := true } }
      else s

/-- A read of a flash-homed line: served from the write buffer, or by a unit read (R70).
DESIGN CHOICE: log entry 96. -/
def frostRead (pha : Nat) (s : State) : State :=
  if (entryOf s (pha / 0x200000)).tier = 3 then startUnitRead (unitOf pha) s else s

/-- The least recently written unit that is not being programmed or filled. -/
def oldestUnit (s : State) : Option Nat :=
  (s.fr.buf.foldl (fun (b : Option (Nat × Nat)) kv =>
    if kv.2.programming || kv.2.filling then b
    else match b with
      | some (_, t) => if kv.2.last < t then some (kv.1, kv.2.last) else b
      | none => some (kv.1, kv.2.last)) none).map Prod.fst

/-- A program of a buffered unit begins; in a DEGRADED group the page moves next instead (R76, R85). -/
def startProgram (u : Nat) (s : State) : State :=
  if groupState s (unitGroup s u) = 3 then
    s.setFr { s.fr with moveNext := s.fr.moveNext.filter (· ≠ unitPage u) ++ [unitPage u] }
  else s.setFr { s.fr with buf := s.fr.buf.modify u fun b => { b with programming := true } }

/-- A line write to a flash-homed page goes into the write buffer (R75, R76). -/
def frostWrite (pha : Nat) (s : State) : State :=
  if (entryOf s (pha / 0x200000)).tier ≠ 3 then s
  else
    let u := unitOf pha
    match s.fr.buf.get? u with
    | some b =>
      let b' := { b with last := s.now, dirty := true, rewritten := b.rewritten || b.programming }
      s.setFr { s.fr with buf := s.fr.buf.set u b' }
    | none =>
      let s := if 1024 ≤ s.fr.buf.length then
          match oldestUnit s with
          | some v => startProgram v s
          | none => s
        else s
      let b : BufUnit := { last := s.now, dirty := true, programming := false, rewritten := false, filling := true }
      s.setFr { s.fr with buf := s.fr.buf.set u b }

/-- Spare blocks of a group are taken, and its thresholds checked (R83).
DESIGN CHOICE: log entry 33. -/
def useSpares (g n : Nat) (s : State) : State :=
  let gr := s.fr.groups.getD g {}
  let left := gr.spares - n
  let put := fun (x : Group) (s : State) => s.setFr { s.fr with groups := s.fr.groups.set g x }
  let s := put { gr with spares := left } s
  let s := if 100 * left < Par.spareWarnPct s * gr.spares0 && !gr.warned then
      let x := s.fr.groups.getD g {}
      raise 0x111 g 0 0 (put { x with warned := true } s) else s
  let s := if 100 * left < Par.spareStopPct s * gr.spares0 && !gr.stopped then
      let x := s.fr.groups.getD g {}
      raise 0x112 g 0 0 (put { x with stopped := true, state := if x.state = 0 then 1 else x.state } s) else s
  if left = 0 && !gr.readOnly then
    let x := s.fr.groups.getD g {}
    raise 0x113 g 0 0 (put { x with readOnly := true, state := 2 } s)
  else s

/-- The units that lie on a die. -/
def unitsOn (s : State) (chan die : Nat) : List Nat :=
  (s.fr.loc.filter fun kv => kv.2.chan = chan && kv.2.die = die).map Prod.fst

/-- The rows of a die number in a group that have lost two members lose every unit they hold, but for
units whose newest data is in the write buffer (R86). -/
def checkRows (g die : Nat) (s : State) : State :=
  if rowLosses s g die < 2 then s
  else
    ((s.fr.loc.filter fun kv => kv.2.chan / 16 = g && kv.2.die = die && !s.fr.buf.has kv.1).map Prod.fst).foldl
      (fun s u => loseUnit u (s.setFr { s.fr with loc := s.fr.loc.erase u, reads := s.fr.reads.erase u })) s

/-- A die is declared lost (R84, R86). -/
def loseDie (chan die : Nat) (s : State) : State :=
  let k := dieKey chan die
  if (getDie s k).lost then s
  else
    let s := setDie k { getDie s k with lost := true } s
    let s := raise 0x114 chan die 0 s
    checkRows (chan / 16) die s

/-- A program or erase fails on a block: the block is retired for a spare, and the 32nd failure loses
the die (R83, R84). -/
def blockFailed (chan die : Nat) (s : State) : State :=
  let k := dieKey chan die
  let d := getDie s k
  let s := setDie k { d with fails := d.fails + 1 } s
  let s := useSpares (chan / 16) 1 s
  if 32 ≤ d.fails + 1 then loseDie chan die s else s

/-- Units mapped to new locations; one rewritten since, or lying elsewhere, is not (R73, R78). Blocks
left without a unit are erased. -/
def remap (from_ : Nat → FrostLoc → Bool) (moved : List (Nat × FrostLoc)) (s : State) : State :=
  moved.foldl (fun s ul =>
    match s.fr.loc.get? ul.1 with
    | some old =>
      if from_ ul.1 old && ul.2.chan / 16 = old.chan / 16 then
        let loc := s.fr.loc.set ul.1 ul.2
        s.setFr { s.fr with
          loc := loc
          erasing := if loc.any (fun kv => blockKey kv.2 = blockKey old) then s.fr.erasing else s.fr.erasing.add (blockKey old) }
      else s
    | none => s) s

/-- Relocations and folds program nothing while Frost is closed, closing, or in a reset (R94). -/
def frostPrograms (s : State) : Bool := s.bt.mounted && !s.fr.closed

/-- FROST_GC_RUN: a run of garbage collection: units are folded or copied to the given locations, and
emptied blocks are erased (R78, R79). -/
def execFrostGcRun (moved : List (Nat × FrostLoc)) (s : State) : Res3 :=
  .next (
    if !drumAllowed s 1 then s
    else
      let s := drumBegin 1 s
      if frostPrograms s then remap (fun u _ => !s.fr.buf.has u) moved s else s)

/-- SCRUB_RUN: a run of scrub. DRAM lines that it finds uncorrectable are handled as reads of them are
(R53); flash units that need more than RELOCATE_BITS are relocated (R74), but not in salvage mode (R462). -/
def execScrubRun (badLines : List Nat) (marginal : List (Nat × FrostLoc)) (s : State) : Res3 :=
  .next (
    if !drumAllowed s 2 then s
    else
      let s := drumBegin 2 s
      let s := badLines.foldl (fun s a =>
        match execUncorrectableLine a 0 s with
        | .next s' => s'
        | _ => s) s
      if frostPrograms s && s.rc.deviceState = 0 then remap (fun u _ => !s.fr.buf.has u) marginal s else s)

/-- FROST_UNIT_READ_DONE: the first read of a unit ends. The tracking loop learns from the corrected
bits (R72); a codeword that does not decode starts the retries (R71). DESIGN CHOICE: log entry 113. -/
def execFrostUnitReadDone (unit corrected : Nat) (decoded : Bool) (s : State) : Res3 :=
  s.act (match s.fr.reads.get? unit with
  | none => s
  | some r =>
    if r.rebuilding || r.retries ≠ 0 then s
    else if decoded then
      let s := s.setFr { s.fr with reads := s.fr.reads.erase unit }
      match s.fr.loc.get? unit with
      | some l =>
        let k := 0x100000 * dieKey l.chan l.die + l.block / 64
        s.setFr { s.fr with offsets := s.fr.offsets.set k (Config.trackOffset (s.fr.offsets.getD k 0) corrected) }
      | none => s
    else s.setFr { s.fr with reads := s.fr.reads.set unit { r with retries := 1 } })

/-- FROST_READ_RETRY_DONE: a retry ends; after READ_RETRY_MAX of them the unit is rebuilt (R71). -/
def execFrostReadRetryDone (unit : Nat) (decoded : Bool) (s : State) : Res3 :=
  s.act (match s.fr.reads.get? unit with
  | none => s
  | some r =>
    if r.rebuilding || r.retries = 0 then s
    else if decoded then s.setFr { s.fr with reads := s.fr.reads.erase unit }
    else if r.retries < Par.readRetryMax s then
      s.setFr { s.fr with reads := s.fr.reads.set unit { r with retries := r.retries + 1 } }
    else s.setFr { s.fr with reads := s.fr.reads.set unit { r with rebuilding := true } })

/-- FROST_PARITY_REBUILD_DONE: a unit is rebuilt from the 15 other members of its row, or is lost when
one of those is lost (R71, R86). -/
def execFrostParityRebuildDone (unit : Nat) (s : State) : Res3 :=
  s.act (match s.fr.reads.get? unit with
  | none => s
  | some r =>
    if !r.rebuilding then s
    else
      let s := s.setFr { s.fr with reads := s.fr.reads.erase unit }
      match s.fr.loc.get? unit with
      | some l =>
        let others := (List.range 16).any fun i =>
          16 * (l.chan / 16) + i ≠ l.chan && locLost s (16 * (l.chan / 16) + i) l.die
        if others then loseUnit unit s else s
      | none => s)

/-- READ_DISTURB_RELOCATE: a block whose read count has reached READ_DISTURB_LIMIT: its valid units go
to the given locations and it is erased (R73). -/
def execReadDisturbRelocate (block : Nat) (moved : List (Nat × FrostLoc)) (s : State) : Res3 :=
  s.act (
    if frostPrograms s && Par.readDisturbLimit s ≤ s.fr.readCount.getD block 0 then
      let s := remap (fun u l => blockKey l = block && !s.fr.buf.has u) moved s
      s.setFr { s.fr with erasing := s.fr.erasing.add block }
    else s)

/-- BUFFER_UNIT_FILL_DONE: the existing unit has been read into its buffer unit and the line merged (R75). -/
def execBufferUnitFillDone (unit : Nat) (s : State) : Res3 :=
  s.act (s.setFr { s.fr with buf := s.fr.buf.modify unit fun b => { b with filling := false } })

/-- FLUSH_AGE_EXPIRY: a unit has not been written for FLUSH_AGE: its program begins (R76). -/
def execFlushAgeExpiry (unit : Nat) (s : State) : Res3 :=
  s.act (match s.fr.buf.get? unit with
  | none => s
  | some b =>
    if b.programming || b.filling then s
    else startProgram unit (s.reach (b.last + 1000 * Par.flushAge s)))

/-- FROST_PROGRAM_DONE: the program of a buffered unit ends. A unit written meanwhile stays buffered
and dirty (R76). A failed program counts against the die, and the unit is programmed again (R84). -/
def execFrostProgramDone (unit : Nat) (loc : FrostLoc) (ok : Bool) (s : State) : Res3 :=
  s.act (match s.fr.buf.get? unit with
  | none => s
  | some b =>
    if !b.programming || loc.chan / 16 ≠ unitGroup s unit then s
    else if ok then
      let s := s.setFr { s.fr with loc := s.fr.loc.set unit loc }
      if b.rewritten then
        s.setFr { s.fr with buf := s.fr.buf.set unit { b with programming := false, rewritten := false } }
      else s.setFr { s.fr with buf := s.fr.buf.erase unit }
    else blockFailed loc.chan loc.die s)

/-- The journal's records committed: intents take effect, and what waited for them may go on (R90). -/
def commitJournal (s : State) : State :=
  let intents := s.fr.pend.foldl (fun n r => match r with
    | .intent p => n.add p
    | _ => n) s.fr.intents
  s.setFr { s.fr with journal := s.fr.journal ++ s.fr.pend, pend := [], intents := intents, present := true }

/-- JOURNAL_GROUP_COMMIT: the gathered records are programmed (R90). -/
def execJournalGroupCommit (s : State) : Res3 :=
  s.act (if frostPrograms s && !s.fr.pend.isEmpty then commitJournal s else s)

/-- Whether Belfry reports a line of a page Modified or Owned: an owner on this chip in M or O, or an
owner on another chip (R90). -/
def pageOwned (s : State) (page : Nat) : Bool :=
  s.ch.dir.any fun kv =>
    kv.1 / 0x8000 = page &&
      match kv.2.owner with
      | none => false
      | some a =>
        if a / 8192 = s.ch.domIndex then
          match (s.ch.slices.getD (a % 8192) []).get? (2 ^ 44 * s.ch.domIndex + kv.1) with
          | some l => l.state = .m || l.state = .o
          | none => false
        else true

/-- A checkpoint of Frost's tables; the records it covers are trimmed (R90). -/
def writeCheckpoint (s : State) : State :=
  s.setFr { s.fr with
    checkpoint := some { homes := s.ti.homeA.keep (fun _ e => e.tier = 3), owners := s.fr.owner, groups := s.fr.pageGroup }
    journal := [], pend := [], present := true }

/-- JOURNAL_FLUSH: a run of the journal flush: a checkpoint is written, and the intents of pages with
no buffered unit and no line Modified or Owned are cleared (R90). While Frost is closed it writes
nothing (R94). -/
def execJournalFlush (s : State) : Res3 :=
  .next (
    if !drumAllowed s 4 then s
    else
      let s := drumBegin 4 s
      if !frostPrograms s then s
      else
        let s := commitJournal s
        let keep := s.fr.intents.keep fun p _ => s.fr.buf.any (fun b => unitPage b.1 = p) || pageOwned s p
        let s := writeCheckpoint s
        -- the intents that stand are part of what the journal holds
        s.setFr { s.fr with intents := keep, journal := keep.map fun p => JRec.intent p.1 })

/-- DIE_BUSY_TIMEOUT: a die stays busy beyond its maximum; the third time within 1 s loses it (R84). -/
def execDieBusyTimeout (channel die : Nat) (s : State) : Res3 :=
  s.act (
    if s.board.dies.getD channel 0 ≤ die then s
    else
      let k := dieKey channel die
      let d := getDie s k
      let l := (d.busyAt.filter fun t => s.now < t + 1000000000) ++ [s.now]
      let s := setDie k { d with busyAt := l } s
      if 3 ≤ l.length then loseDie channel die s else s)

/-- FLASH_DIE_LOST: a die is declared lost (R84). -/
def execFlashDieLost (channel die : Nat) (s : State) : Res3 :=
  s.act (if s.board.dies.getD channel 0 ≤ die then s else loseDie channel die s)

/-- DIE_REBUILD_DONE: a lost die's units have been rewritten to other dies of the group; each block
that this took lowers the group's spares by one (R84). -/
def execDieRebuildDone (channel die : Nat) (moved : List (Nat × FrostLoc)) (s : State) : Res3 :=
  s.act (
    let k := dieKey channel die
    let d := getDie s k
    if !d.lost || d.rebuilt || !(unitsOn s channel die).all (fun u => moved.any fun m => m.1 = u) then s
    else
      let mine := moved.filter fun m => (unitsOn s channel die).contains m.1
      let blocks := mine.foldl (fun (n : NSet) m => n.add (blockKey m.2)) []
      let s := remap (fun _ l => l.chan = channel && l.die = die) moved s
      let s := setDie k { d with rebuilt := true } s
      useSpares (channel / 16) blocks.length s)

/-- A channel is lost: its group is DEGRADED (R85, R86). -/
def loseChannel (channel : Nat) (s : State) : State :=
  if s.fr.lostChannels.mem channel then s
  else
    let g := channel / 16
    let gr := s.fr.groups.getD g {}
    let s := s.setFr { s.fr with
      lostChannels := s.fr.lostChannels.add channel
      groups := s.fr.groups.set g { gr with state := 3 } }
    let s := raise 0x115 channel 0 0 s
    (List.range 16).foldl (fun s d => checkRows g d s) s

/-- FLASH_CHANNEL_LOST: a channel's controller or bus fails (R85). -/
def execFlashChannelLost (channel : Nat) (s : State) : Res3 :=
  s.act (if 48 ≤ channel || s.board.dies.getD channel 0 = 0 then s else loseChannel channel s)

/-- The page that Frost moves next out of a group with a lost channel (R85). -/
def degradedNext (s : State) : Option Nat :=
  let bad := fun p => match s.fr.pageGroup.get? p with
    | some g => (List.range 16).any fun i => s.fr.lostChannels.mem (16 * g + i)
    | none => false
  match s.fr.moveNext.find? bad with
  | some p => some p
  | none => (s.fr.pageGroup.first? fun p _ => bad p).map Prod.fst

/-- DEGRADED_PAGE_MOVED: a page of a group with a lost channel has been moved whole to another group,
or no group can take it and its own becomes READ_ONLY (R85). -/
def execDegradedPageMoved (page : Nat) (s : State) : Res3 :=
  s.act (
    if degradedNext s ≠ some page then s
    else
      let g := s.fr.pageGroup.getD page 0
      match pickGroup s with
      | some h =>
        s.setFr { s.fr with
          pageGroup := s.fr.pageGroup.set page h
          moveNext := s.fr.moveNext.filter (· ≠ page)
          loc := s.fr.loc.keep fun u _ => unitPage u ≠ page }
      | none =>
        if groupState s g = 2 then s
        else
          let gr := s.fr.groups.getD g {}
          raise 0x113 g 0 0 (s.setFr { s.fr with groups := s.fr.groups.set g { gr with state := 2, readOnly := true } }))

/-- FROST_ERASE_DONE: the erase of a block ends; a failure counts against its die (R84, R554). -/
def execFrostEraseDone (block : Nat) (ok : Bool) (s : State) : Res3 :=
  s.act (
    if !s.fr.erasing.mem block then s
    else
      let s := s.setFr { s.fr with erasing := s.fr.erasing.del block, readCount := s.fr.readCount.erase block }
      if ok then s.setFr { s.fr with eraseCount := s.fr.eraseCount.set block (s.fr.eraseCount.getD block 0 + 1) }
      else blockFailed (block / 0x100000 / 16) (block / 0x100000 % 16) s)

/-- CLOSE_RECORD_PROGRAMMED: every buffered unit has been programmed; the checkpoint and the close
record are written and Frost is closed (R93, R94). -/
def execCloseRecordProgrammed (s : State) : Res3 :=
  s.act (
    if !s.fr.closing || !s.fr.buf.isEmpty then s
    else
      let s := writeCheckpoint (commitJournal s)
      s.setFr { s.fr with closing := false, closed := true, closeRecord := true, intents := [] })

end Sys2Proof.Machine
end

