-- ==== Sys2Proof/Machine/Ports.lean ====
section
/-!
DEFINITION. Fabric sub-ports: their numbers, rates and neighbours, and where a path may go (chapter 8 of
the spec). Sub-ports are numbered port × 2 + sub-port.
-/

namespace Sys2Proof.Machine

def getSub (s : State) (n : Nat) : SubPort := s.fa.subs.getD n {}
def setSub (n : Nat) (p : SubPort) (s : State) : State := s.setFa { s.fa with subs := s.fa.subs.set n p }

/-- The sub-ports of a port: one, or two with SPLIT (R210). -/
def subsOf (s : State) (port : Nat) : List Nat :=
  if Par.portSplit s port ≠ 0 then [2 * port, 2 * port + 1] else [2 * port]

/-- A sub-port that its port has. -/
def subExists (s : State) (n : Nat) : Bool := n < 64 && (n % 2 = 0 || Par.portSplit s (n / 2) ≠ 0)

/-- Lanes of a sub-port at full width. -/
def fullWidth (s : State) (n : Nat) : Nat := if Par.portSplit s (n / 2) ≠ 0 then 2 else 4

/-- The rate of a sub-port in Gb/s (R207, R211). -/
def subRate (s : State) (n : Nat) : Nat :=
  (getSub s n).width * (if Par.portLaneMode s (n / 2) = 0 then 400 else 200)

def secure (s : State) (n : Nat) : Bool := (getSub s n).state = 3

/-- A node that is reached over a direct link now (R203, R228). -/
def directUp (s : State) (node : Nat) : Bool :=
  s.fa.subs.any fun kv => kv.2.state = 3 &&
    match kv.2.neighbour with
    | some nb => match nb.maeleth with
      | some (n, _) => n = node
      | none => false
    | none => false

/-- Domain peers whose every direct link is down have a clock running; others have none (R205). -/
def notePeers (s : State) : State :=
  let gone := s.ch.members.filter fun n => n ≠ s.fa.nodeId && !s.ch.lostPeers.contains n && !directUp s n
  let m := gone.foldl (fun (m : FMap Nat) n => m.set n (s.ch.peerDown.getD n s.now)) []
  s.setCh { s.ch with peerDown := m }

/-- The sub-ports in SECURE that may carry paths to a node (R222, R229). -/
def upSubs (s : State) (node : Nat) : List Nat :=
  match s.fa.nrt.get? node with
  | some e => (List.range 64).filter fun n => bitOf e.ports n && secure s n
  | none => []

/-- The sub-port to which a path to a node is bound: one of those that are up, by a hash of
destination and TC (R222). -/
def bindSub (s : State) (node tc : Nat) : Option Nat :=
  match upSubs s node with
  | [] => none
  | [n] => some n
  | l => l[Config.pathHash node tc % l.length]?

end Sys2Proof.Machine
end

