-- ==== Sys2Proof/Machine/Ctxs.lean ====
section
/-!
DEFINITION. Program contexts: finding them, the pipeline of a tabor, ending a context, and the end of
an outstanding access (R99, R103, R144, R155–R159).
-/

namespace Sys2Proof.Machine

def getTab (s : State) (t : Nat) : Tabor := s.co.tabors.getD t {}
def setTab (t : Nat) (v : Tabor) (s : State) : State := s.setCo { s.co with tabors := s.co.tabors.set t v }

def findCtx (s : State) (t id : Nat) : Option Ctx := (getTab s t).ctxs.find? fun c => c.id = id

def modCtx (t id : Nat) (f : Ctx → Ctx) (s : State) : State :=
  let v := getTab s t
  setTab t { v with ctxs := v.ctxs.map fun c => if c.id = id then f c else c } s

/-- A request admitted through a PTC entry has ended: its INFLIGHT falls (R272). Entry 0 is none. -/
def ptcDone (ent : Nat) (s : State) : State :=
  if ent = 0 then s
  else s.setTr { s.tr with ptc := s.tr.ptc.modify ent fun e => { e with inflight := e.inflight - 1 } }

def ptcDoneAll (ents : List Nat) (s : State) : State := ents.foldl (fun s e => ptcDone e s) s

/-- The tenant has used its quota of this window (R298). -/
def quotaHeld (s : State) (tenant : Nat) : Bool :=
  match s.tr.tenants.get? tenant with
  | some t => t.held
  | none => false

/-- The first ready context in arrival order takes an empty pipeline (R157). -/
def schedule (t : Nat) (s : State) : State :=
  let v := getTab s t
  if v.ctxs.any fun c => c.state = .running then s
  else
    match v.ctxs.find? fun c => c.state = .ready && !quotaHeld s c.tenant with
    | some c => modCtx t c.id (fun c => { c with state := .running, sliceStart := s.now }) s
    | none => s

/-- Pipeline time that the running context has used is charged to its tenant (R298). -/
def charge (t : Nat) (s : State) : State :=
  match (getTab s t).ctxs.find? fun c => c.state = .running with
  | some c =>
    let used := s.now - max c.sliceStart s.tr.chargedAt
    s.setTr { s.tr with tenants := s.tr.tenants.modify c.tenant fun n => { n with charge := n.charge + used } }
  | none => s

/-- A context leaves the pipeline with a new state, and moves behind the others in arrival order.
DESIGN CHOICE: log entry 94. -/
def leave (t id : Nat) (st : CtxState) (s : State) : State :=
  let s := match findCtx s t id with
    | some c => if c.state = .running then charge t s else s
    | none => s
  let v := getTab s t
  let gone := (v.ctxs.filter fun c => c.id = id).map fun c => { c with state := st }
  schedule t (setTab t { v with ctxs := (v.ctxs.filter fun c => c.id ≠ id) ++ gone } s)

/-- A context whose end is decided is freed once every outstanding access has completed; its item
completes with its status, and its result after END (R131, R144, R159). -/
def settleCtx (t id : Nat) (s : State) : State :=
  match findCtx s t id with
  | none => s
  | some c =>
    match c.ending with
    | none => s
    | some st =>
      if c.pend.all fun p => p.done.isSome then
        let r := if st = Config.ok then ((c.x.getD 10 0).toNat % 0x100000000) else 0
        let s := if c.state = .running then charge t s else s
        let v := getTab s t
        let s := setTab t { v with ctxs := v.ctxs.filter fun c => c.id ≠ id } s
        schedule t (endItem c.item st r 0 s)
      else s

/-- A context ends with a status: it leaves the pipeline and issues nothing more (R144). Outstanding
loads are discarded when they complete. An access that fails after END ends the program with its status (R141). -/
def endCtx (t id status : Nat) (s : State) : State :=
  let s := modCtx t id (fun c =>
    if c.ending = none || c.ending = some Config.ok then { c with ending := some status, hold := .none } else c) s
  settleCtx t id (leave t id .held s)

/-- Whether the end of an access writes a destination register. -/
def PendKind.loads : PendKind → Bool
  | .loadX _ _ => true
  | .loadV _ => true
  | .atom _ _ _ _ _ => true
  | .store _ => false
  | .post => false

def statusOk (st : Nat) : Bool := st = Config.ok || st = Config.replayed

/-- x31 after an instruction with NF (R141). -/
def nfStatus (p : Pend) (st : Nat) (c : Ctx) : Ctx :=
  if p.nf then { c with x := c.x.set 31 (BitVec.ofNat 64 (st % 256)) } else c

/-- An outstanding access ends with a status and data. A load keeps them until its register is
written; anything else is finished here: a failure ends the program, unless NF catches it (R141). -/
def pendDone (t id tag status : Nat) (data : List Byte) (s : State) : State :=
  match findCtx s t id with
  | none => s
  | some c =>
    match c.pend.find? fun p => p.tag = tag with
    | none => s
    | some p =>
      if p.done.isSome then s
      else
        let s := ptcDoneAll p.ptc s
        if p.kind.loads then
          settleCtx t id (modCtx t id (fun c => { c with pend := c.pend.map fun q =>
            if q.tag = tag then { q with done := some (status, data) } else q }) s)
        else
          let s := modCtx t id (fun c =>
            let c := { c with pend := c.pend.filter fun q => q.tag ≠ tag }
            if c.ending.isNone then nfStatus p status c else c) s
          if statusOk status || p.nf then settleCtx t id s else endCtx t id status s

/-- A context becomes ready again (R142, R281). -/
def resumeCtx (t id : Nat) (s : State) : State :=
  let s := modCtx t id (fun c => { c with hold := .none }) s
  match findCtx s t id with
  | some c => if c.state = .running then s else leave t id .ready s
  | none => s

end Sys2Proof.Machine
end

