-- ==== Sys2Proof/Machine/Paths.lean ====
section
/-!
DEFINITION. Sending paths and remote requests: PSNs, retransmission, batching, and the end of a
request at its issuer (R217–R227, R241–R247, R254, R260).
-/

namespace Sys2Proof.Machine

def pathKey (node tc : Nat) : Nat := node * 8 + tc

/-- `a` is before `b` under RFC 1982 serial arithmetic with numbers of `w` bits. -/
def serialLt (w a b : Nat) : Bool :=
  let d := (b + 2 ^ w - a % 2 ^ w) % 2 ^ w
  0 < d && d < 2 ^ (w - 1)

def serialLe (w a b : Nat) : Bool := a % 2 ^ w = b % 2 ^ w || serialLt w a b

def psnNext (p : Nat) : Nat := (p + 1) % 0x100000000

/-- A packet with every field at zero but VERSION. -/
def noPkt : Pkt :=
  { version := 1, kind := 0, tc := 0, syn := false, retx := false, ceEcho := false, src := 0, dst := 0, gen := 0,
    comp := 0, job := 0, window := 0, status := 0, first := false, last := false, offset := 0, psn := 0,
    ackPsn := 0, seq := 0, counter := 0, counted := false, len := 0, aop := 0, a64 := false, reserved := false,
    payload := [] }

/-- A packet of this device to a node, with its composition and generation (R220). -/
def stamp (s : State) (node : Nat) (p : Pkt) : Pkt :=
  { p with version := 1, src := s.fa.nodeId, dst := node, gen := s.fa.generation, comp := s.fa.composition,
           len := p.payload.length }

/-- The class of a tenant's traffic: TENANT_CLASS (R445). -/
def tenantClass (s : State) (t : Nat) : Nat :=
  ((s.od.oct.getD 0x740001 []).getD t (BitVec.ofNat 8 4)).toNat

/-- The job bound to a tenant (R217, R230). -/
def jobOf (s : State) (t : Nat) : Option Nat := (s.fa.jobs.first? fun _ x => x = t).map Prod.fst

/-- FAR_NODES names the node (R243). -/
def farNode (s : State) (node : Nat) : Bool :=
  bitOf (((s.od.oct.getD 0x440004 []).getD (node / 8) 0).toNat) (node % 8)

/-! Paths (R222–R224). -/

/-- The rate of a path's sub-port, in Mb/s. -/
def pathCap (s : State) (sub : Nat) : Nat := 1000 * max (subRate s sub) 1

/-- A start PSN: a draw that differs from the last start PSN to that node in that class (R223). -/
def drawStart (key : Nat) (s : State) : Nat × State :=
  let (v, s) := drawEntropy s
  let v := v % 0x100000000
  let v := if s.fa.lastStart.get? key = some v then psnNext v else v
  (v, s.setFa { s.fa with lastStart := s.fa.lastStart.set key v })

/-- The sending path that is freed for a new one: the least recently used without an unacknowledged packet. -/
def freeablePath (s : State) : Option Nat :=
  (s.fa.tx.foldl (fun (b : Option (Nat × Nat)) kv =>
    if !kv.2.pkts.isEmpty then b
    else match b with
      | some (_, t) => if kv.2.usedAt < t then some (kv.1, kv.2.usedAt) else b
      | none => some (kv.1, kv.2.usedAt)) none).map Prod.fst

/-- The state with a path to a node in a class; none when the table is full (R222). -/
def ensurePath (key : Nat) (s : State) : Option State :=
  if s.fa.tx.has key then some s
  else
    let room : Option State :=
      if s.fa.tx.length < 65536 then some s
      else (freeablePath s).map fun k => s.setFa { s.fa with tx := s.fa.tx.erase k }
    room.map fun s =>
      let (start, s) := drawStart key s
      let sub := (bindSub s (key / 8) (key % 8)).getD 64
      let p : TxPath :=
        { sub := sub, nextPsn := start, pkts := [], rtoNs := 1000 * Par.rtoUs s, timeouts := 0, advancedAt := s.now,
          rate := pathCap s sub, cutAt := none, incAt := s.now, nextAt := s.now, usedAt := s.now, restart := true }
      s.setFa { s.fa with tx := s.fa.tx.set key p }

/-- A packet joins the end of its path with the next PSN; the first of a path carries SYN (R223). -/
def pushPkt (key : Nat) (pkt : Pkt) (req : Nat) (tenant : Option Nat) (s : State) : State :=
  match s.fa.tx.get? key with
  | none => s
  | some p =>
    let pkt := { pkt with psn := p.nextPsn, syn := p.restart, tc := key % 8 }
    let q : TxPkt := { pkt := pkt, req := req, tenant := tenant, sent := false, ord := s.fa.nextOrd }
    let p := { p with
      nextPsn := psnNext p.nextPsn, restart := false, pkts := p.pkts ++ [q], usedAt := s.now,
      advancedAt := if p.pkts.isEmpty then s.now else p.advancedAt }
    s.setFa { s.fa with
      tx := s.fa.tx.set key p
      nextOrd := s.fa.nextOrd + 1
      reqs := s.fa.reqs.modify req fun r => { r with pkt := pkt, acked := false } }

/-- A packet without a path of its own: ACK, NAK, APPLIED or RESPONSE, in TC7 of a sub-port (R222). -/
def pushCtl (sub : Nat) (pkt : Pkt) (s : State) : State :=
  s.setFa { s.fa with
    ctl := s.fa.ctl.set sub (s.fa.ctl.getD sub [] ++ [(s.fa.nextOrd, { pkt with tc := 7 })])
    nextOrd := s.fa.nextOrd + 1 }

/-- Every unacknowledged packet of a path is sent again, in PSN order (R224). -/
def resendAll (key : Nat) (s : State) : State :=
  s.setFa { s.fa with tx := s.fa.tx.modify key fun p =>
    { p with pkts := p.pkts.map fun q => { q with sent := false, pkt := { q.pkt with retx := q.pkt.retx || q.sent } } } }

/-- A path restarts from its oldest unacknowledged packet with SYN and a new start PSN (R223). -/
def restartPath (key : Nat) (s : State) : State :=
  match s.fa.tx.get? key with
  | none => s
  | some p =>
    let (start, s) := drawStart key s
    let s := s.setFa { s.fa with tx := s.fa.tx.set key { p with pkts := [], nextPsn := start, restart := true } }
    p.pkts.foldl (fun s q => pushPkt key { q.pkt with retx := q.pkt.retx || q.sent } q.req q.tenant s) s

/-- A request's packet is put on its path; the request waits when no path is free (R222). -/
def launch (n : Nat) (s : State) : State :=
  match s.fa.reqs.get? n with
  | none => s
  | some r =>
    let key := pathKey r.pkt.dst r.pkt.tc
    match ensurePath key s with
    | some s => pushPkt key (stamp s r.pkt.dst r.pkt) n (some r.tenant) s
    | none => s.setFa { s.fa with noPath := s.fa.noPath ++ [n] }

/-! Gateways (R243–R245). -/

/-- A record header and its data, padded to 8 B (R245). -/
def recordBytes (rkind size window offset status rtag : Nat) (data : List Byte) : List Byte :=
  let v := rkind + 0x100 * size + 0x10000 * window + 0x100000000 * offset + 2 ^ 82 * status + 2 ^ 90 * rtag
  leBytes 16 v ++ fitTo data ((data.length + 7) / 8 * 8) 0

def isOpen (node tc job : Nat) (o : OpenMsg) : Bool := o.node = node && o.tc = tc && o.job = job

/-- The pieces of a message: packets of at most 8,192 B. -/
def cutBulk : Nat → List Byte → List (List Byte)
  | 0, _ => []
  | n + 1, bs => if bs.length ≤ 8192 then [bs] else bs.take 8192 :: cutBulk n (bs.drop 8192)

/-- A message as BULK packets on a path (R244): the requests it carries follow its last packet. -/
def sendBulk (node tc job : Nat) (tenant : Option Nat) (bytes : List Byte) (reqs : List Nat) (s : State) : State :=
  let key := pathKey node tc
  match ensurePath key s with
  | none => s
  | some s =>
    let seq := s.fa.nextBulk % 0x100000000
    let s := s.setFa { s.fa with nextBulk := s.fa.nextBulk + 1 }
    let parts := cutBulk 9 bytes
    let s := parts.zipIdx.foldl (fun s (bs, i) =>
      pushPkt key (stamp s node { noPkt with
        kind := 5, job := job, seq := seq, first := i = 0, last := i + 1 = parts.length, payload := bs }) 0 tenant s) s
    match (s.fa.tx.get? key).bind fun p => p.pkts.getLast? with
    | some q => s.setFa { s.fa with reqs := reqs.foldl (fun m n => m.modify n fun r =>
        { r with pkt := { r.pkt with psn := q.pkt.psn, gen := q.pkt.gen, comp := q.pkt.comp } }) s.fa.reqs }
    | none => s

/-- The open message of a path and job is sent (R244). -/
def flushOpen (node tc job : Nat) (s : State) : State :=
  match s.fa.openMsgs.find? (isOpen node tc job) with
  | none => s
  | some o =>
    let s := s.setFa { s.fa with openMsgs := s.fa.openMsgs.filter fun o => !isOpen node tc job o }
    sendBulk node tc job ((s.fa.jobs.get? job)) o.bytes o.reqs s

/-- A request becomes a record of the open message of its path and job (R244).
DESIGN CHOICE: log entry 98. -/
def appendRecord (n : Nat) (r : RemoteReq) (s : State) : State :=
  let node := r.pkt.dst
  let tc := r.pkt.tc
  let job := r.pkt.job
  let isRead := r.pkt.kind = 1
  let size := if isRead then leNat r.pkt.payload else r.pkt.payload.length
  let rk := if isRead then 3 else if r.pkt.kind = 3 then 2 else 1
  let bytes := recordBytes rk size r.pkt.window r.pkt.offset 0 (n % 0x10000) (if isRead then [] else r.pkt.payload)
  let full : Bool := match s.fa.openMsgs.find? (isOpen node tc job) with
    | some o => decide (65536 < o.bytes.length + bytes.length)
    | none => false
  let s := if full then flushOpen node tc job s else s
  let old : OpenMsg := (s.fa.openMsgs.find? (isOpen node tc job)).getD
    { node := node, tc := tc, job := job, bytes := [], reads := 0, since := s.now, reqs := [], counter := 0, counted := false }
  let o := { old with bytes := old.bytes ++ bytes, reads := old.reads + b2n isRead, reqs := old.reqs ++ [n] }
  let s := s.setFa { s.fa with
    openMsgs := (s.fa.openMsgs.filter fun o => !isOpen node tc job o) ++ [o]
    reqs := s.fa.reqs.modify n fun r => { r with bulk := true } }
  if rk = 2 || o.reads = 512 then flushOpen node tc job s else s

/-- The device batches a request (R243). -/
def batches (s : State) (p : Pkt) : Bool :=
  Par.batching s ≠ 0 && farNode s p.dst && (p.kind = 1 || p.kind = 2 || p.kind = 3) && !p.counted &&
    (let n := if p.kind = 1 then leNat p.payload else p.payload.length
     n = 4 || n = 8 || n = 64)

/-- A request that may go is batched or put on its path. -/
def dispatch (n : Nat) (s : State) : State :=
  match s.fa.reqs.get? n with
  | none => s
  | some r => if batches s r.pkt then appendRecord n r s else launch n s

/-- Earlier stores of an issuer to a node that a flag-store has to wait for: those that do not travel on
the flag's own path (R242). -/
def earlierStores (s : State) (issuer node tc : Nat) : List Nat :=
  (s.fa.reqs.filter fun kv =>
    kv.2.issuer = issuer && issuer ≠ 0 && kv.2.pkt.dst = node &&
      (kv.2.pkt.kind = 2 || kv.2.pkt.kind = 4 || kv.2.pkt.kind = 5) && kv.2.pkt.tc ≠ tc).map Prod.fst

/-- A remote request is issued. JOB is the job of the tenant (R217); a remote atomic takes the next SEQ
of its destination and job (R254). A flag-store with earlier stores on other paths waits (R242).
DESIGN CHOICE: log entry 98. -/
def sendReq (node : Nat) (origin : Origin) (tenant issuer : Nat) (p : Pkt) (s : State) : State :=
  let n := s.fa.nextReq
  let sk := 0x100000 * node + p.job
  let seq := s.fa.nextSeq.getD sk 0
  let p := if p.kind = 4 then { p with seq := seq } else p
  let p := { p with dst := node }
  let after := if p.kind = 3 then earlierStores s issuer node p.tc else []
  let r : RemoteReq :=
    { origin := origin, tenant := tenant, pkt := p, issuer := issuer, firstSent := 0, lastSent := 0, acked := false,
      refused := false, staleFrom := none, staleGen := none, after := after, failed := none, bulk := false, resent := false, data := none }
  let s := s.setFa { s.fa with
    nextReq := n + 1
    nextSeq := if p.kind = 4 then s.fa.nextSeq.set sk ((seq + 1) % 0x100000000) else s.fa.nextSeq
    reqs := s.fa.reqs.set n r }
  if after.isEmpty then dispatch n s else s

/-! The end of a request at its issuer. -/

/-- The issuer learns the outcome of a request. -/
def notifyOrigin (n : Nat) (o : Origin) (status : Nat) (data : List Byte) (s : State) : State :=
  match o with
  | .ctx t c tag => pendDone t c tag status data s
  | .item i =>
    let s := modItem i (fun it => { it with
      out := it.out.filter (· ≠ n)
      data := if data.isEmpty then it.data else data
      wait := if it.wait = .remote && (it.out.filter (· ≠ n)).isEmpty then .none else it.wait }) s
    if statusOk status then s else endItem i status 0 0 s
  | .copy c => s.setFa { s.fa with copies := s.fa.copies.modify c fun d =>
      { d with out := d.out.filter (· ≠ n),
               failed := if statusOk status then d.failed else d.failed <|> some status } }
  | .handoff h step =>
    if step = 2 then s.setFa { s.fa with handoffs := s.fa.handoffs.modify h fun d =>
        { d with prepared := some (if !statusOk status then status else if leNat data = 0 then Config.ok else Config.staleVersion) } }
    else s
  | .poll a =>
    if statusOk status then
      s.setFa { s.fa with prepared := s.fa.prepared.modify a fun p => { p with word := some (leNat data) } }
    else s
  | .reply _ => s
  | .flag r => s.setSv { s.sv with rounds := s.sv.rounds.modify r fun d =>
      { d with flags := d.flags.filter (· ≠ n), flagsFailed := d.flagsFailed + b2n (!statusOk status) } }
  | .coh => s

/-- A request ends: its record is dropped, flag-stores that waited for it learn of a failure (R242), and
its issuer is told. A reply that is lost raises CUMULUS_REPLY_LOST (R421). -/
def finishReq (n status : Nat) (data : List Byte) (s : State) : State :=
  match s.fa.reqs.get? n with
  | none => s
  | some r =>
    let s := s.setFa { s.fa with
      reqs := (s.fa.reqs.erase n).mapVal fun _ q =>
        if q.after.contains n then
          { q with after := q.after.filter (· ≠ n), failed := if statusOk status then q.failed else q.failed <|> some status }
        else q
      noPath := s.fa.noPath.filter (· ≠ n)
      openMsgs := s.fa.openMsgs.map fun o => { o with reqs := o.reqs.filter (· ≠ n) } }
    let s := notifyOrigin n r.origin status data s
    match r.origin with
    | .reply t => if statusOk status then s else raise 0x172 t r.pkt.dst 0 s
    | _ => s

/-- Unacknowledged packets of a request are taken off its path's list of reports: the request is sent
again as a new packet (R254, R260). -/
def resendReq (n : Nat) (s : State) : State :=
  match s.fa.reqs.get? n with
  | none => s
  | some r =>
    dispatch n (s.setFa { s.fa with reqs := s.fa.reqs.set n { r with
      acked := false, resent := true, refused := false, bulk := false } })

/-- A path is bound to another sub-port and sends every unacknowledged packet again (R222). A remote
atomic that was acknowledged and has no answer is sent again as a new packet (R254). -/
def rebindPath (key : Nat) (s : State) : State :=
  match s.fa.tx.get? key, bindSub s (key / 8) (key % 8) with
  | some p, some n =>
    let again := (s.fa.reqs.filter fun kv =>
      kv.2.pkt.kind = 4 && kv.2.acked && pathKey kv.2.pkt.dst kv.2.pkt.tc = key).map Prod.fst
    let s := resendAll key (s.setFa { s.fa with tx := s.fa.tx.set key { p with sub := n } })
    again.foldl (fun s r => resendReq r s) s
  | _, _ => s

/-- Paths bound to a sub-port that is not in SECURE, or that the node's entry does not name, are bound
to another one (R222). -/
def rebindPaths (s : State) : State :=
  (s.fa.tx.map Prod.fst).foldl (fun s k =>
    match s.fa.tx.get? k with
    | some p => if (upSubs s (k / 8)).contains p.sub then s else rebindPath k s
    | none => s) s

/-- Requests of a path that have had no answer. -/
def pathReqs (s : State) (key : Nat) : List Nat :=
  (s.fa.reqs.filter fun kv => pathKey kv.2.pkt.dst kv.2.pkt.tc = key && kv.2.after.isEmpty).map Prod.fst

/-- A path fails (R224): remote atomics are sent again as new packets (R254), every other request
completes with TIMEOUT, and PATH_FAILED is raised. -/
def failPath (key : Nat) (s : State) : State :=
  let ns := (pathReqs s key).filter fun n => !s.fa.noPath.contains n &&
    !(s.fa.openMsgs.any fun o => o.reqs.contains n)
  let s := s.setFa { s.fa with tx := s.fa.tx.erase key }
  let s := ns.foldl (fun s n =>
    match s.fa.reqs.get? n with
    | some r => if r.pkt.kind = 4 then resendReq n s else finishReq n Config.timeout [] s
    | none => s) s
  raise 0x146 0 (key / 8) 0 s

/-- Requests that waited for a free sending path go, oldest first (R222). -/
def retryNoPath (s : State) : State :=
  let ns := s.fa.noPath
  ns.foldl (fun s n => launch n s) (s.setFa { s.fa with noPath := [] })

/-- Packets up to a PSN have arrived at the receiver (R221): they leave the path. An advance resets the
retransmission timer (R224). -/
def ackUpTo (key psn : Nat) (s : State) : State :=
  match s.fa.tx.get? key with
  | none => s
  | some p =>
    let gone := p.pkts.filter fun q => q.sent && serialLe 32 q.pkt.psn psn
    if gone.isEmpty then s
    else
      let s := s.setFa { s.fa with
        tx := s.fa.tx.set key { p with
          pkts := p.pkts.filter fun q => !(q.sent && serialLe 32 q.pkt.psn psn)
          rtoNs := 1000 * Par.rtoUs s, timeouts := 0, advancedAt := s.now, usedAt := s.now }
        reqs := gone.foldl (fun m q => m.modify q.req fun r => { r with acked := true }) s.fa.reqs }
      let bulkPsns := (gone.filter fun q => q.pkt.kind = 5 && q.pkt.last).map fun q => q.pkt.psn
      let mark := fun (_ : Nat) (r : RemoteReq) =>
        if r.bulk && pathKey r.pkt.dst r.pkt.tc = key && bulkPsns.contains r.pkt.psn then { r with acked := true } else r
      retryNoPath (s.setFa { s.fa with reqs := s.fa.reqs.mapVal mark })

/-- A path's rate is cut on a report of congestion, at most once in ECN_HOLD_US (R227). -/
def cutRate (key : Nat) (s : State) : State :=
  match s.fa.tx.get? key with
  | none => s
  | some p =>
    if key % 8 = 7 || p.cutAt.any (fun t => s.now < t + 1000 * Par.ecnHoldUs s) then s
    else
      let rate := max (p.rate * (100 - Par.ecnCutPct s) / 100) (1000 * Par.rateMinGbps s)
      s.setFa { s.fa with tx := s.fa.tx.set key { p with rate := rate, cutAt := some s.now } }

/-- RATE_INCREASE_TICK: 20 µs since the later of the last cut and the last increase: the rate rises by
AI_STEP_GBPS, up to the sub-port's rate (R227). -/
def execRateIncreaseTick (node tc : Nat) (s : State) : Res3 :=
  s.act (
    let key := pathKey node tc
    match s.fa.tx.get? key with
    | none => s
    | some p =>
      if tc = 7 then s
      else
        let s := s.reach (max (p.cutAt.getD 0) p.incAt + 20000)
        let cap := pathCap s p.sub
        let rate := max (1000 * Par.rateMinGbps s) (min cap (p.rate + 1000 * Par.aiStepGbps s))
        s.setFa { s.fa with tx := s.fa.tx.set key { p with rate := rate, incAt := s.now } })

/-- FLAG_STORE_SEND: every store that a flag-store waited for has been reported: it is sent, or completes
with the status of the store that failed (R242). -/
def execFlagStoreSend (req : Nat) (s : State) : Res3 :=
  s.act (
    match s.fa.reqs.get? req with
    | none => s
    | some r =>
      if r.pkt.kind ≠ 3 || !r.after.isEmpty || r.acked || r.bulk then s
      else match r.failed with
        | some st => finishReq req st [] s
        | none =>
          if s.fa.noPath.contains req || s.fa.tx.any (fun kv => kv.2.pkts.any fun q => q.req = req) then s
          else dispatch req s)

/-- GATHER_TIMER: GATHER_NS has passed since the first record of an open message: it is sent (R244). -/
def execGatherTimer (node tc job : Nat) (s : State) : Res3 :=
  s.act (
    match s.fa.openMsgs.find? (isOpen node tc job) with
    | none => s
    | some o => flushOpen node tc job (s.reach (o.since + Par.gatherNs s)))

/-- RESPONSE_TIMEOUT: an acknowledged request other than a remote atomic has had no answer in
RESPONSE_TIMEOUT_MS: it completes with TIMEOUT (R225). -/
def execResponseTimeout (req : Nat) (s : State) : Res3 :=
  s.act (
    match s.fa.reqs.get? req with
    | none => s
    | some r =>
      if !r.acked || r.pkt.kind = 4 || r.refused then s
      else finishReq req Config.timeout [] (s.reach (r.lastSent + 1000000 * Par.responseTimeoutMs s)))

/-- ATOMIC_REPLY_TIMER: an acknowledged remote atomic has had no RESPONSE in ATOMIC_REPLY_US: it is sent
again as a new packet with the same SEQ, until ATOMIC_RETRY_MS after the first send (R254). -/
def execAtomicReplyTimer (req : Nat) (s : State) : Res3 :=
  s.act (
    match s.fa.reqs.get? req with
    | none => s
    | some r =>
      if r.pkt.kind ≠ 4 || !r.acked || r.refused then s
      else
        let s := s.reach (r.lastSent + 1000 * Par.atomicReplyUs s)
        if s.now ≤ r.firstSent + 1000000 * Par.atomicRetryMs s then resendReq req s else s)

/-- ATOMIC_RETRY_EXPIRY: re-sends have stopped and a further ATOMIC_REPLY_US has passed without a
RESPONSE: OUTCOME_UNKNOWN (R254). -/
def execAtomicRetryExpiry (req : Nat) (s : State) : Res3 :=
  s.act (
    match s.fa.reqs.get? req with
    | none => s
    | some r =>
      if r.pkt.kind ≠ 4 || r.firstSent = 0 then s
      else finishReq req Config.outcomeUnknown []
        (s.reach (r.firstSent + 1000000 * Par.atomicRetryMs s + 1000 * Par.atomicReplyUs s)))

end Sys2Proof.Machine
end

