-- ==== Sys2Proof/Machine/Links.lean ====
section
/-!
DEFINITION. Fabric links: training, LINK and SECURE, MACsec, neighbours (chapter 8 of the spec).

Sub-ports are numbered port × 2 + sub-port. `step` is the step of R213 that a sub-port has reached:
0 disabled, 1 waits for signal, 2 auto-negotiation, 3 equalisation, 4 PCS, 5 waits for a SAK.
-/

namespace Sys2Proof.Machine

/-- The credits of a sub-port that is not in SECURE are zero (R453). -/
def zeroCredits (p : SubPort) : SubPort := { p with classCredit := [], tenantCredit := [], sending := none }

/-- A sub-port leaves the link and waits for signal again, or is disabled. LINK_DOWN is raised when it
leaves SECURE (R212). -/
def dropLink (n : Nat) (enabled : Bool) (s : State) : State :=
  let p := getSub s n
  let s' := setSub n { zeroCredits p with
    state := 0, step := if enabled then 1 else 0, width := 0, trainFrom := s.now, partnerMac := 0, ca := 0, ca2 := 0 } s
  if p.state = 3 then notePeers (rebindPaths (raise 0x141 n 0 0 s')) else s'

/-- A sub-port retrains (R214). -/
def retrainSub (n : Nat) (s : State) : State :=
  if (getSub s n).step = 0 then s else raise 0x142 n 0 0 (dropLink n true s)

/-- LANE_SIGNAL_DETECT: signal on every lane; auto-negotiation follows in IEEE_200G with ANEG (R209, R213).
DESIGN CHOICE: log entry 113. -/
def execLaneSignalDetect (sub : Nat) (s : State) : Res3 :=
  s.act (
    let p := getSub s sub
    if !subExists s sub || p.state ≠ 0 || p.step ≠ 1 then s
    else
      let aneg := Par.portLaneMode s (sub / 2) = 1 && Par.portAneg s (sub / 2) ≠ 0
      setSub sub { p with state := 1, step := if aneg then 2 else 3, trainFrom := s.now } s)

/-- ANEG_COMPLETE (R213, step 2). -/
def execAnegComplete (sub : Nat) (s : State) : Res3 :=
  s.act (
    let p := getSub s sub
    if p.state = 1 && p.step = 2 then setSub sub { p with step := 3 } s else s)

/-- EQ_ADAPT_COMPLETE (R213, step 3). -/
def execEqAdaptComplete (sub : Nat) (s : State) : Res3 :=
  s.act (
    let p := getSub s sub
    if p.state = 1 && p.step = 3 then setSub sub { p with step := 4 } s else s)

/-- A sub-port enters LINK with a width: four LLDP frames follow at 1 s intervals (R212, R228). -/
def enterLink (n width mac : Nat) (s : State) : State :=
  setSub n { getSub s n with state := 2, step := 5, width := width, partnerMac := mac,
                             lldpFast := 4, lldpDue := s.now, creditAt := s.now } s

/-- PCS_LOCK: PCS aligned and FEC locked on every lane: state LINK (R213, step 4). -/
def execPcsLock (sub partnerMac : Nat) (s : State) : Res3 :=
  s.act (
    let p := getSub s sub
    if p.state = 1 && p.step = 4 then enterLink sub (fullWidth s sub) partnerMac s else s)

/-- TRAINING_TIMEOUT: an unsplit port has not brought all four lanes to LINK in time. It comes up on a
pair that did, lanes 0–1 first, and raises PORT_NARROW (R211); with no such pair it starts again. -/
def execTrainingTimeout (port : Nat) (pair0 pair1 : Bool) (s : State) : Res3 :=
  s.act (
    let n := 2 * port
    let p := getSub s n
    if 32 ≤ port || Par.portSplit s port ≠ 0 || p.state ≠ 1 then s
    else
      let s := s.reach (p.trainFrom + 250000000)
      if pair0 || pair1 then raise 0x143 port 0 0 (enterLink n 2 p.partnerMac s)
      else dropLink n true s)

/-- MKPDU_RX: an MKPDU of a connectivity association whose CAK the sub-port holds: that of the active
key id, or the one in use before a key change (R215, R555). -/
def execMkpduRx (sub ckn : Nat) (s : State) : Res3 :=
  s.act (
    let p := getSub s sub
    let held := s.bt.fabricKeys.any fun kv => kv.2.1 = ckn
    if p.state < 2 || ckn = 0 || !held then s
    else if ckn = Par.fabricKeyActive s then
      setSub sub { p with ca := ckn, ca2 := if p.ca = ckn then p.ca2 else p.ca } s
    else if p.ca = 0 || p.ca = ckn || p.ca2 = ckn then setSub sub { p with ca2 := if p.ca = ckn then p.ca2 else ckn } s
    else s)

/-- Registration starts: the delay of attempt 0 is drawn (R559). It waits for READY and for a sub-port in SECURE. -/
def beginRegistration (s : State) : State :=
  if !s.bt.regOwed || s.bt.stage ≠ 4 || s.rc.warmStep ≠ 0 || !s.fa.subs.any (fun kv => kv.2.state = 3) then s
  else
    let (d, s) := drawEntropy s
    s.setBt { s.bt with
      regOwed := false, regState := 1, regAttempt := 0, regWaits := false
      regDue := s.now + d % (1000000 * Par.regSpreadMs s + 1) }

/-- SAK_INSTALLED: a SAK of a connectivity association that the sub-port holds is installed in both
directions: SECURE, and LINK_UP. A further SAK of a sub-port in SECURE loses no frame, and under a new key
it ends the old association (R212, R215, R555). -/
def execSakInstalled (sub : Nat) (s : State) : Res3 :=
  s.act (
    let p := getSub s sub
    if p.state = 2 && (p.ca ≠ 0 || p.ca2 ≠ 0) then
      beginRegistration (notePeers (rebindPaths (raise 0x140 sub 0 0 (setSub sub { p with state := 3, creditAt := s.now } s))))
    else if p.state = 3 && p.ca = Par.fabricKeyActive s then setSub sub { p with ca2 := 0 } s
    else s)

/-- LINK_DOWN: a sub-port loses its link (R212). -/
def execLinkDown (sub : Nat) (s : State) : Res3 :=
  s.act (if (getSub s sub).state = 0 then s else dropLink sub true s)

/-- LANE_LOCK_LOSS: a lane loses lock: the sub-port retrains (R214). -/
def execLaneLockLoss (sub lane : Nat) (s : State) : Res3 :=
  s.act (
    let p := getSub s sub
    let base := if Par.portSplit s (sub / 2) ≠ 0 then 2 * (sub % 2) else 0
    if p.state < 2 || lane < base || base + fullWidth s sub ≤ lane then s else retrainSub sub s)

/-- SER_WINDOW_EXCEEDED: the pre-FEC symbol errors of a 1 ms window; the sub-port retrains when their
ratio exceeds 10^−SER_RETRAIN (R214). -/
def execSerWindowExceeded (sub errors symbols : Nat) (s : State) : Res3 :=
  s.act (
    if 2 ≤ (getSub s sub).state && symbols < errors * 10 ^ Par.serRetrain s then retrainSub sub s else s)

/-- LLDP_RX: a neighbour's LLDP frame; NEIGHBOUR_CHANGED when it appears or changes (R228). -/
def execLldpRx (sub : Nat) (n : Neighbour) (s : State) : Res3 :=
  s.act (
    let p := getSub s sub
    if p.state < 2 then s
    else
      let s' := setSub sub { p with neighbour := some n, neighbourAt := s.now + 1000000000 * n.ttl } s
      if p.neighbour = some n then s' else notePeers (raise 0x147 sub 0 0 s'))

/-- LLDP_TX_TIMER: an LLDP frame leaves: the first four at 1 s intervals, then each LLDP_TX_S (R228). -/
def execLldpTxTimer (sub : Nat) (s : State) : Res3 :=
  s.act (
    let p := getSub s sub
    if p.state < 2 then s
    else
      let s := s.reach p.lldpDue
      let gap := if 1 < p.lldpFast then 1 else Par.lldpTxS s
      let s := setSub sub { p with lldpFast := p.lldpFast - 1, lldpDue := p.lldpDue + 1000000000 * gap } s
      emit (.frame sub (.lldp s.fa.nodeId s.fa.composition s.fa.generation)) s)

/-- NEIGHBOUR_AGE_OUT: a neighbour's TTL has passed (R228). -/
def execNeighbourAgeOut (sub : Nat) (s : State) : Res3 :=
  s.act (
    let p := getSub s sub
    match p.neighbour with
    | none => s
    | some _ =>
      let s := s.reach p.neighbourAt
      notePeers (raise 0x147 sub 0 0 (setSub sub { p with neighbour := none } s)))

/-- MACSEC_DROP, at most once per second per sub-port (R216). -/
def macsecDrop (n : Nat) (s : State) : State :=
  let p := getSub s n
  if p.macsecDropAt.any (fun t => s.now < t + 1000000000) then s
  else raise 0x144 n 0 0 (setSub n { p with macsecDropAt := some s.now } s)

/-- XLT_MALFORMED, once per second per port (R218). -/
def xltMalformed (n : Nat) (s : State) : State :=
  let k := 2 * (n / 2)
  let p := getSub s k
  if p.malformedAt.any (fun t => s.now < t + 1000000000) then s
  else raise 0x145 (n / 2) 0 0 (setSub k { p with malformedAt := some s.now } s)

end Sys2Proof.Machine
end

