-- ==== Sys2Proof/Machine/TxSelect.lean ====
section
/-!
DEFINITION. Drumline: shaper credits and the selection of the next frame (R444–R453).
-/

namespace Sys2Proof.Machine

/-- Bits of a frame from the destination address through the FCS, with 20 B of preamble and gap (R449). -/
def chargeOf (payload : Nat) : Nat := 8 * (146 + payload + 20)

/-- The charge of a management frame: an 802.1Q tag more, and no XLT header (R532). -/
def mgmtCharge (bytes : Nat) : Nat := 8 * (102 + bytes + 20)

/-- IDLE_SLOPE, HI_CREDIT and LO_CREDIT of a class shaper (R451, R465). -/
def classShaper (s : State) (sub c : Nat) : Nat × Nat × Nat :=
  s.od.classShapers.getD (sub / 2 * 8 + c) (if c = 6 then 1000 else 0, 131072, 66864)

def tenantShaper (s : State) (t : Nat) : Nat × Nat × Nat := s.od.tenantShapers.getD t (0, 131072, 66864)

/-- The first packet of a path that has not been sent, within the limit of 512 packets and 2 MiB (R224). -/
def headPkt (p : TxPath) : Option TxPkt := go 512 0x200000 p.pkts
where
  go : Nat → Nat → List TxPkt → Option TxPkt
    | 0, _, _ => none
    | _ + 1, _, [] => none
    | n + 1, room, q :: l =>
      if room < q.pkt.payload.length then none
      else if q.sent then go n (room - q.pkt.payload.length) l
      else some q

/-- Heads of the paths bound to a sub-port in a class: path and packet. -/
def heads (s : State) (sub tc : Nat) : List (Nat × TxPkt) :=
  s.fa.tx.filterMap fun kv =>
    if kv.2.sub = sub && kv.1 % 8 = tc then (headPkt kv.2).map fun q => (kv.1, q) else none

def mgmtQueue (s : State) (sub : Nat) : List FrameOut := s.fa.mgmt.getD sub []
def ctlQueue (s : State) (sub : Nat) : List (Nat × Pkt) := s.fa.ctl.getD sub []

/-- A class has a packet waiting on a sub-port. -/
def classWaits (s : State) (sub c : Nat) : Bool :=
  !(heads s sub c).isEmpty || (c = 6 && !(mgmtQueue s sub).isEmpty) || (c = 7 && !(ctlQueue s sub).isEmpty)

/-- A tenant has a packet waiting on a sub-port. -/
def tenantWaits (s : State) (sub t : Nat) : Bool :=
  (List.range 7).any fun c => (heads s sub c).any fun h => h.2.tenant = some t

/-- A credit after `dt` ns without sending (R450). -/
def creep (rate : Nat) (sh : Nat × Nat × Nat) (waits : Bool) (dt : Nat) (c : Int) : Int :=
  if sh.1 = 0 then 0
  else
    let up := c + ((sh.1 * rate * dt / 10000 : Nat) : Int)
    if waits then min up sh.2.1
    else if 0 < c then 0
    else min up 0

/-- The credits of a sub-port brought up to an instant (R450). -/
def bringCredits (sub t : Nat) (s : State) : State :=
  let p := getSub s sub
  let dt := t - p.creditAt
  if dt = 0 then s
  else
    let rate := subRate s sub
    let cls := (List.range 8).foldl (fun (m : FMap Int) c =>
      let v := creep rate (classShaper s sub c) (classWaits s sub c) dt (m.getD c 0)
      if v = 0 then m.erase c else m.set c v) p.classCredit
    let tenants := ((s.od.tenantShapers.map Prod.fst) ++ p.tenantCredit.map Prod.fst).eraseDups
    let ten := tenants.foldl (fun (m : FMap Int) n =>
      let v := creep rate (tenantShaper s n) (tenantWaits s sub n) dt (m.getD n 0)
      if v = 0 then m.erase n else m.set n v) p.tenantCredit
    setSub sub { p with creditAt := t, classCredit := cls, tenantCredit := ten } s

def classOk (s : State) (sub c : Nat) : Bool :=
  (classShaper s sub c).1 = 0 || 0 ≤ (getSub s sub).classCredit.getD c 0

def tenantOk (s : State) (sub : Nat) (t : Option Nat) : Bool :=
  match t with
  | some n => (tenantShaper s n).1 = 0 || 0 ≤ (getSub s sub).tenantCredit.getD n 0
  | none => true

/-- The eligible heads of a class (R447). -/
def eligible (s : State) (sub c : Nat) : List (Nat × TxPkt) :=
  (heads s sub c).filter fun h =>
    classOk s sub c && (c = 7 ||
      (tenantOk s sub h.2.tenant && (s.fa.tx.get? h.1).any fun p => p.nextAt ≤ s.now))

/-- The credit of a shaper after a frame that takes its charge at the sub-port's rate: a governed shaper
falls by charge × (10,000 − IDLE_SLOPE) / 10,000, another waiting one rises by charge × IDLE_SLOPE / 10,000. -/
def spend (sh : Nat × Nat × Nat) (governed waits : Bool) (charge : Nat) (c : Int) : Int :=
  if sh.1 = 0 then 0
  else if governed then max (c - ((charge * (10000 - sh.1) / 10000 : Nat) : Int)) (-(sh.2.2 : Int))
  else
    let up := c + ((charge * sh.1 / 10000 : Nat) : Int)
    if waits then min up sh.2.1 else if 0 < c then 0 else min up 0

/-- A frame of a class and tenant starts: credits change for as long as it is sent (R450). -/
def startFrame (sub c : Nat) (tenant : Option Nat) (charge : Nat) (f : FrameOut) (s : State) : State :=
  let p := getSub s sub
  let rate := max (subRate s sub) 1
  let fin := s.now + (charge + rate - 1) / rate
  let cls := (List.range 8).foldl (fun (m : FMap Int) k =>
    let v := spend (classShaper s sub k) (k = c) (classWaits s sub k) charge (m.getD k 0)
    if v = 0 then m.erase k else m.set k v) p.classCredit
  let ten := ((s.od.tenantShapers.map Prod.fst) ++ p.tenantCredit.map Prod.fst).eraseDups.foldl (fun (m : FMap Int) n =>
    let v := spend (tenantShaper s n) (tenant = some n && c ≠ 7) (tenantWaits s sub n) charge (m.getD n 0)
    if v = 0 then m.erase n else m.set n v) p.tenantCredit
  emit (.frame sub f) (setSub sub { p with
    sending := some (fin, c, tenant, charge), creditAt := fin, classCredit := cls, tenantCredit := ten } s)

/-- A packet of a path leaves: its path's limiter is charged, and the request's first and last sends are
recorded (R227). -/
def sendPkt (sub : Nat) (h : Nat × TxPkt) (s : State) : State :=
  let key := h.1
  let q := h.2
  let charge := chargeOf q.pkt.payload.length
  let s := startFrame sub (key % 8) q.tenant charge (.xlt q.pkt) s
  let old := (s.fa.tx.get? key).elim true fun p => p.pkts.all fun x => !x.sent
  let upd := fun (p : TxPath) =>
    { p with
      pkts := p.pkts.map fun x => if x.ord = q.ord then { x with sent := true } else x
      nextAt := if key % 8 = 7 then p.nextAt else s.now + 1000 * charge / max p.rate 1
      advancedAt := if old then s.now else p.advancedAt
      usedAt := s.now }
  let seen := fun (r : RemoteReq) => { r with lastSent := s.now, firstSent := if r.firstSent = 0 then s.now else r.firstSent }
  let mark := fun (n : Nat) (r : RemoteReq) =>
    if n = q.req then seen r
    else if r.bulk && q.pkt.kind = 5 && r.pkt.psn = q.pkt.psn && pathKey r.pkt.dst r.pkt.tc = key then seen r
    else r
  s.setFa { s.fa with tx := s.fa.tx.modify key upd, reqs := s.fa.reqs.mapVal mark }

/-- The next item after the last one served, in rising order, wrapping round. -/
def nextAfter (last : Option Nat) (l : List Nat) : Option Nat :=
  match last with
  | none => l.foldl (fun b n => match b with
    | some m => some (min m n)
    | none => some n) none
  | some k =>
    let up := l.filter fun n => k < n
    let pool := if up.isEmpty then l else up
    pool.foldl (fun b n => match b with
      | some m => some (min m n)
      | none => some n) none

/-- The eligible packet of a class that is served next: tenants in turn, and a tenant's paths in turn (R447). -/
def pickInClass (s : State) (sub c : Nat) : Option (Nat × TxPkt) :=
  let l := eligible s sub c
  let p := getSub s sub
  let tag := fun (h : Nat × TxPkt) => match h.2.tenant with
    | some t => t + 1
    | none => 0
  match nextAfter (p.lastTenant.get? c) (l.map tag) with
  | none => none
  | some t =>
    let mine := l.filter fun h => tag h = t
    match nextAfter (p.lastPath.get? (2048 * c + t)) (mine.map Prod.fst) with
    | none => none
    | some k => mine.find? fun h => h.1 = k

def served (sub c : Nat) (h : Nat × TxPkt) (s : State) : State :=
  let p := getSub s sub
  let t := match h.2.tenant with
    | some t => t + 1
    | none => 0
  setSub sub { p with lastTenant := p.lastTenant.set c t, lastPath := p.lastPath.set (2048 * c + t) h.1 } s

/-- DWRR weights of TC0–TC5 (R465). -/
def weightOf (s : State) (sub c : Nat) : Nat :=
  let dflt : List Nat := [8, 16, 32, 32, 64, 64]
  match s.od.oct.get? ((0x7420 + sub / 2) * 256 + 3) with
  | some b => (b.getD c 0).toNat
  | none => dflt.getD c 0

/-- DWRR: the class that sends next, with the deficits after the visits on the way (R448). -/
def dwrr (s : State) (sub : Nat) : Nat → SubPort → Option (Nat × (Nat × TxPkt) × SubPort)
  | 0, _ => none
  | n + 1, p =>
    let c := p.dwrrAt
    let prev := if c = 0 then 5 else c - 1
    let waits := classWaits s sub c
    match pickInClass s sub c with
    | none =>
      dwrr s sub n { p with dwrrAt := prev, dwrrIn := false, deficit := if waits then p.deficit else p.deficit.erase c }
    | some h =>
      let d := p.deficit.getD c 0 + (if p.dwrrIn then 0 else 1024 * weightOf s sub c)
      let need := chargeOf h.2.pkt.payload.length / 8
      if need ≤ d then some (c, h, { p with dwrrIn := true, deficit := p.deficit.set c (d - need) })
      else dwrr s sub n { p with dwrrAt := prev, dwrrIn := false, deficit := p.deficit.set c d }

/-- One selection (R446). -/
def selectFrame (sub : Nat) (s : State) : State :=
  if !secure s sub then s
  else
    let tc7 := if classOk s sub 7 then
        match ctlQueue s sub, eligible s sub 7 with
        | [], [] => none
        | (_, k) :: _, [] => some (Sum.inl k)
        | [], l => (l.find? fun h => l.all fun g => h.2.ord ≤ g.2.ord).map Sum.inr
        | (o, k) :: _, l =>
          match l.find? fun h => l.all fun g => h.2.ord ≤ g.2.ord with
          | some h => if o < h.2.ord then some (Sum.inl k) else some (Sum.inr h)
          | none => some (Sum.inl k)
      else none
    match tc7 with
    | some (Sum.inl k) =>
      let s := s.setFa { s.fa with ctl := s.fa.ctl.set sub ((ctlQueue s sub).drop 1) }
      startFrame sub 7 none (chargeOf k.payload.length) (.xlt k) s
    | some (Sum.inr h) => sendPkt sub h s
    | none =>
      match (if classOk s sub 6 then mgmtQueue s sub else []) with
      | f :: rest =>
        let n := match f with
          | .mgmt _ _ b => b.length
          | _ => 0
        startFrame sub 6 none (mgmtCharge n) f (s.setFa { s.fa with mgmt := s.fa.mgmt.set sub rest })
      | [] =>
        match pickInClass s sub 6 with
        | some h => sendPkt sub h (served sub 6 h s)
        | none =>
          match dwrr s sub 200 (getSub s sub) with
          | some (c, h, p) => sendPkt sub h (served sub c h (setSub sub p s))
          | none => s

/-- SUBPORT_TX_SELECT: the transmitter of a sub-port is free: one selection (R446). -/
def execSubportTxSelect (sub : Nat) (s : State) : Res3 :=
  s.act (
    if !secure s sub then s
    else
      let s := match (getSub s sub).sending with
        | some (fin, _, _, _) => s.reach fin
        | none => s
      let s := bringCredits sub s.now s
      selectFrame sub (setSub sub { getSub s sub with sending := none } s))

/-- When a credit reaches zero at its slope. -/
def zeroAt (rate now : Nat) (sh : Nat × Nat × Nat) (c : Int) : Nat :=
  if sh.1 = 0 || 0 ≤ c then now
  else now + ((-c).toNat * 10000 + sh.1 * rate - 1) / (max (sh.1 * rate) 1)

/-- When the head packet of a path becomes eligible, as things stand. -/
def eligibleAt (s : State) (sub : Nat) (h : Nat × TxPkt) : Nat :=
  let p := getSub s sub
  let rate := max (subRate s sub) 1
  let c := h.1 % 8
  let a := zeroAt rate s.now (classShaper s sub c) (p.classCredit.getD c 0)
  if c = 7 then a
  else
    let b := match h.2.tenant with
      | some t => zeroAt rate s.now (tenantShaper s t) (p.tenantCredit.getD t 0)
      | none => s.now
    max (max a b) ((s.fa.tx.get? h.1).elim s.now fun x => x.nextAt)

/-- PACKET_BECOMES_ELIGIBLE: a credit rises to zero, or a limiter allows the head of its path: the idle
sub-port makes a selection (R447). -/
def execPacketBecomesEligible (sub : Nat) (s : State) : Res3 :=
  s.act (
    if !secure s sub then s
    else
      let s := match (getSub s sub).sending with
        | some (fin, _, _, _) => s.reach fin
        | none => s
      let s := bringCredits sub s.now s
      let times := (List.range 8).flatMap fun c => (heads s sub c).map (eligibleAt s sub)
      let rate := max (subRate s sub) 1
      let more := [6, 7].filterMap fun c =>
        if (c = 6 && !(mgmtQueue s sub).isEmpty) || (c = 7 && !(ctlQueue s sub).isEmpty) then
          some (zeroAt rate s.now (classShaper s sub c) ((getSub s sub).classCredit.getD c 0))
        else none
      match nextAfter none (times ++ more) with
      | none => s
      | some t =>
        let s := s.reach t
        selectFrame sub (setSub sub { getSub s sub with sending := none } (bringCredits sub s.now s)))

end Sys2Proof.Machine
end

