-- ==== Sys2Proof/Machine/Home.lean ====
section
/-!
DEFINITION. Belfry and Cloudbank: slices, the directory, the messages of a line's transaction, atomics
at the home and the Reply Ledger (R179–R202, R254–R258, R454–R457).
-/

namespace Sys2Proof.Machine

/-! Names of agents and lines. -/

/-- A line of a chip of the domain, as one number. -/
def lineKey (chip line : Nat) : Nat := 2 ^ 44 * chip + line

def agentId (chip tabor : Nat) : Nat := 8192 * chip + tabor
def agentTabor (a : Nat) : Nat := a % 8192
def agentChip (a : Nat) : Nat := a / 8192 % 8

/-- The agent id of the home of one of this chip's lines. -/
def homeAgent (s : State) (line : Nat) : Nat := agentId s.ch.domIndex (homeTabor s line)

def getSlice (s : State) (t : Nat) : FMap SliceLine := s.ch.slices.getD t []
def setSlice (t : Nat) (v : FMap SliceLine) (s : State) : State :=
  s.setCh { s.ch with slices := if v.isEmpty then s.ch.slices.erase t else s.ch.slices.set t v }
def getWbuf (s : State) (t : Nat) : FMap SliceLine := s.ch.wbuf.getD t []
def setWbuf (t : Nat) (v : FMap SliceLine) (s : State) : State :=
  s.setCh { s.ch with wbuf := if v.isEmpty then s.ch.wbuf.erase t else s.ch.wbuf.set t v }

/-- A fresh number in the order of uses. -/
def useNo (s : State) : Nat × State := (s.ch.arrivals, s.setCh { s.ch with arrivals := s.ch.arrivals + 1 })

def getDir (s : State) (line : Nat) : Option DirEntry := s.ch.dir.get? line
def setDir (line : Nat) (e : Option DirEntry) (s : State) : State :=
  s.setCh { s.ch with dir := match e with
    | some e => s.ch.dir.set line e
    | none => s.ch.dir.erase line }

/-! Messages. -/

/-- A message with every field at zero. -/
def noMsg : CohMsg :=
  { mtype := 0, src := 0xFFFF, dst := 0xFFFF, tag := 0, status := 0, line := 0, backoffExp := 0, aop := 0, a64 := false,
    word := 0, half := false, dirty := false, payload := [], srcChip := 0, dstChip := 0, frame := none }

/-- The bytes of a message (R188). -/
def cohBytes (m : CohMsg) : List Byte :=
  leBytes 16 (m.mtype + 2 ^ 8 * m.src + 2 ^ 24 * m.dst + 2 ^ 40 * m.tag + 2 ^ 56 * m.status + 2 ^ 64 * m.line +
    2 ^ 108 * m.backoffExp + 2 ^ 112 * m.aop + 2 ^ 117 * b2n m.a64 + 2 ^ 118 * m.word + 2 ^ 121 * b2n m.half +
    2 ^ 122 * b2n m.dirty) ++ m.payload

/-- The node id of a member of the domain. -/
def memberNode (s : State) (chip : Nat) : Nat := s.ch.members.getD chip 0xFFFF

/-- A COHERENCE packet to a directly linked peer, in TC7 (R188, R229). -/
def sendPeer (node job window offset : Nat) (m : CohMsg) (s : State) : State :=
  if (s.fa.nrt.get? node).any (fun e => e.direct) then
    match ensurePath (pathKey node 7) s with
    | some s => pushPkt (pathKey node 7)
        (stamp s node { noPkt with kind := 7, job := job, window := window, offset := offset, payload := cohBytes m }) 0 none s
    | none => s
  else s

/-- A message leaves: on the mesh, or to another chip of the domain. -/
def sendMsg (via : Option (Nat × Nat × Nat)) (m : CohMsg) (s : State) : State :=
  let m := { m with srcChip := s.ch.domIndex, frame := none }
  if m.dstChip = s.ch.domIndex then s.setCh { s.ch with net := s.ch.net ++ [m] }
  else
    let (job, window, offset) := via.getD (0, 0, 0)
    sendPeer (memberNode s m.dstChip) job window offset m s

/-- A message of the home of a line to the requester of a transaction. -/
def answer (req : CohMsg) (mtype status : Nat) (payload : List Byte) (s : State) : State :=
  sendMsg none { noMsg with
    mtype := mtype, src := homeAgent s req.line, dst := req.src, tag := req.tag, status := status, line := req.line,
    payload := payload, dstChip := req.srcChip } s

/-! The page home of a line. -/

def lineAddr (line : Nat) : Nat := line * 64
def linePage (line : Nat) : Nat := line / 0x8000

/-- The data of a line at its page home. -/
def homeBytes (s : State) (line : Nat) : List Byte := rdBytes s (lineAddr line) 64

/-- Bytes land at a page home: a move in progress notes the chunk, and Frost buffers the unit. -/
def landBytes (a : Nat) (bs : List Byte) (s : State) : State :=
  frostWrite a (markDirty a (wrBytes s a bs))

/-- The pseudo-channel that serves a line: of its slot's stack (R577), one of 64. -/
def pchOf (slot line : Nat) : Nat := slot % 8 * 64 + line % 64

/-- An access at a page home begins: the slot's in-flight count rises (R42), an HBM access queues at its
pseudo-channel (R454), and a flash unit is read (R70). -/
def beginHome (line : Nat) (requester : Nat) (high : Bool) (s : State) : Option (Nat × Nat) × State :=
  let e := entryOf s (linePage line)
  if e.tier = 1 then
    let p := pchOf e.slot line
    let q : PcReq := { requester := requester, high := high, line := line }
    (some (1, e.slot), addRef 1 e.slot (s.setCh { s.ch with pc := s.ch.pc.set p (s.ch.pc.getD p [] ++ [q]) }))
  else if e.tier = 2 then (some (2, e.slot), addRef 2 e.slot s)
  else if e.tier = 3 then (none, frostRead (lineAddr line) s)
  else (none, s)

/-- An access at a page home has ended. -/
def endHome (ref : Option (Nat × Nat)) (s : State) : State :=
  match ref with
  | some (t, n) => dropRef t n s
  | none => s

/-- The access at the page home of a line can end now: its pseudo-channel has granted it, and the flash
unit has been read. -/
def homeServed (s : State) (line : Nat) : Bool :=
  !(s.ch.pc.any fun kv => kv.2.any fun q => q.line = line) && !s.fr.reads.has (unitOf (lineAddr line))

/-! Slices (R179, R182, R190, R299). -/

/-- The ways in which a line may be allocated for a tenant (R299). DESIGN CHOICE: log entry 102. -/
def wayMask (s : State) (tenant : Option Nat) : Nat :=
  match tenant.bind fun t => s.tr.tenants.get? t with
  | none => 0xFFFF
  | some t =>
    match t.cls with
    | 0 => Par.wayMaskClass0 s
    | 1 => Par.wayMaskClass1 s
    | 2 => Par.wayMaskClass2 s
    | _ => Par.wayMaskClass3 s

/-- A line leaves a slice for want of room (R183, R190): M and O are written back, E is reported. The
line stays in the write-back buffer until WB_ACK. -/
def evictLine (t key : Nat) (s : State) : State :=
  match (getSlice s t).get? key with
  | none => s
  | some l =>
    let s := setSlice t ((getSlice s t).erase key) s
    let chip := key / 2 ^ 44
    let line := key % 2 ^ 44
    let m : CohMsg := { noMsg with
      src := agentId s.ch.domIndex t, dst := if chip = s.ch.domIndex then homeAgent s line else 0xFFFF,
      line := line, dstChip := chip, tag := 0 }
    match l.state with
    | .s => s
    | .e => sendMsg none { m with mtype := 0x06 } (setWbuf t ((getWbuf s t).set key l) s)
    | _ => sendMsg none { m with mtype := 0x05, payload := l.data, dirty := true } (setWbuf t ((getWbuf s t).set key l) s)

/-- A line enters a slice: in a free way that the tenant's class may use, or in place of the least
recently used line of those ways. DESIGN CHOICE: log entry 102. -/
def installLine (t key : Nat) (st : LState) (data : List Byte) (tenant : Option Nat) (s : State) : State :=
  let (n, s) := useNo s
  match (getSlice s t).get? key with
  | some l => setSlice t ((getSlice s t).set key { l with state := st, data := data, last := n }) s
  | none =>
    let mask := wayMask s tenant
    let same := (getSlice s t).filter fun kv => Config.sliceSet kv.1 = Config.sliceSet key
    let unused := (List.range 16).find? fun w => bitOf mask w && !((getSlice s t).any fun kv => kv.2.way = w)
    let free := (List.range 16).find? fun w => bitOf mask w && !(same.any fun kv => kv.2.way = w)
    match unused.or free with
    | some w => setSlice t ((getSlice s t).set key ⟨st, data, n, w⟩) s
    | none =>
      let old := same.foldl (fun (b : Option (Nat × SliceLine)) kv =>
        if !bitOf mask kv.2.way || s.ch.reqs.any (fun r => r.tabor = t && lineKey r.chip r.line = kv.1) then b
        else match b with
          | some x => if kv.2.last < x.2.last then some kv else b
          | none => some kv) none
      match old with
      | some (k, l) =>
        let s := evictLine t k s
        setSlice t ((getSlice s t).set key ⟨st, data, n, l.way⟩) s
      | none =>
        -- every way waits for a grant: the load and store unit of the agent keeps the line
        setSlice t ((getSlice s t).set key ⟨st, data, n, 16⟩) s

/-! The directory (R184–R186). -/

/-- The group bit of an agent (R184). -/
def groupOf (a : Nat) : Nat := agentChip a * 8 + agentTabor a / 68 / 8

/-- A tabor that homes a sliver. -/
def taborActive (s : State) (t : Nat) : Bool :=
  ((List.range 64).any fun i => let e := sliverEnt s (t / 68 % 64 * 64 + i); e.kit * 68 + e.pos = t) ||
    s.co.map.any fun kv => kv.2.kit * 68 + kv.2.pos = t

/-- The agents of a group: the active tabors of a mesh row of this chip, or the native positions of a
row of another chip. -/
def groupAgents (s : State) (g : Nat) : List Nat :=
  let chip := g / 8
  (List.range 8).flatMap fun k =>
    ((List.range 68).filter fun p =>
      if chip = s.ch.domIndex then taborActive s ((g % 8 * 8 + k) * 68 + p) else p < 64).map fun p =>
        agentId chip ((g % 8 * 8 + k) * 68 + p)

/-- The agents in S that an entry lists. -/
def sharersOf (s : State) (e : DirEntry) : List Nat :=
  if e.coarse then e.groups.flatMap fun kv => groupAgents s kv.1 else e.sharers

/-- An agent that an entry lists as holding the line (R190). -/
def listed (e : DirEntry) (a : Nat) : Bool :=
  e.owner = some a || (if e.coarse then e.groups.mem (groupOf a) else e.sharers.contains a)

/-- The fifth sharer makes an entry coarse (R185). -/
def addSharer (a : Nat) (e : DirEntry) : DirEntry :=
  if e.coarse then { e with groups := e.groups.add (groupOf a) }
  else if e.sharers.contains a then e
  else if e.sharers.length < 4 then { e with sharers := e.sharers ++ [a] }
  else { e with coarse := true, sharers := [], groups := (e.sharers ++ [a]).foldl (fun g x => g.add (groupOf x)) [] }

def entryEx (a last : Nat) : DirEntry :=
  { state := .ex, owner := some a, sharers := [], coarse := false, groups := [], last := last }

/-- The entries of the set in which a line's entry lies, but for its own (R184). -/
def dirSetMates (s : State) (line : Nat) : FMap DirEntry :=
  s.ch.dir.filter fun kv =>
    kv.1 ≠ line && sliverOf kv.1 = sliverOf line && Config.dirSet kv.1 = Config.dirSet line

/-- The entry that is evicted for a line, when its set is full: the least recently used one without a
transaction (R186). DESIGN CHOICE: log entry 102. -/
def dirVictim (s : State) (line : Nat) : Option Nat :=
  let l := dirSetMates s line
  if s.ch.dir.has line || s.ch.dir.length < 16 || l.length < 16 then none
  else (l.foldl (fun (b : Option (Nat × DirEntry)) kv =>
    if s.ch.txns.has kv.1 then b
    else match b with
      | some x => if kv.2.last < x.2.last then some kv else b
      | none => some kv) none).map Prod.fst

/-! Snoops. -/

/-- A snoop of a transaction to an agent. It names the requester's agent in SRC for the forwarding
snoops, and the home in SRC for the others. -/
def snoop (req : CohMsg) (mtype agent : Nat) (s : State) : State :=
  sendMsg none { noMsg with
    mtype := mtype, src := if mtype = 0x11 || mtype = 0x12 then req.src else homeAgent s req.line,
    dst := agent, tag := req.tag, line := req.line, dstChip := agentChip agent } s

/-- A transaction opens: its snoops go out, and its access at the page home begins. One that has no agent to wait for
takes the page home as its next stage. -/
def openTxn (req : CohMsg) (snoops : List (Nat × Nat)) (home : Bool) (more : List CohMsg) (s : State) : State :=
  let kit := agentTabor req.src / 68
  let home := home || snoops.isEmpty
  let (ref, s) := if home then beginHome req.line kit false s else (none, s)
  let t : Txn := { req := req, waiting := snoops, home := home, ref := ref, data := none, dirty := false,
                   forwarded := false, more := more, snoopAt := s.now }
  let s := s.setCh { s.ch with txns := s.ch.txns.set req.line t }
  snoops.foldl (fun s (a, ty) => snoop req ty a s) s

/-- A recall that the home makes for itself (R186, R240). -/
def recallLine (line : Nat) (s : State) : State :=
  match getDir s line with
  | none => s
  | some e =>
    let req : CohMsg := { noMsg with mtype := 0, src := homeAgent s line, line := line, srcChip := s.ch.domIndex }
    openTxn req ((e.owner.toList.map fun a => (a, 0x13)) ++
      ((sharersOf s e).filter fun a => e.owner ≠ some a).map fun a => (a, 0x10)) false [] s

/-! Atomics (R192–R194). -/

/-- The new value of a word under an atomic operation (R194); `n` is its width in bits. -/
def atomValue (aop n old operand compare : Nat) : Nat :=
  let o := operand % 2 ^ n
  match aop with
  | 0x00 => (old + o) % 2 ^ n
  | 0x01 => Nat.land old o
  | 0x02 => Nat.lor old o
  | 0x03 => Nat.xor old o
  | 0x04 => if toSigned n old ≤ toSigned n o then old else o
  | 0x05 => if toSigned n old ≤ toSigned n o then o else old
  | 0x06 => min old o
  | 0x07 => max old o
  | 0x08 => if n = 32 then add32 old o else add32 (old % 2 ^ 32) (o % 2 ^ 32) + 2 ^ 32 * add32 (old / 2 ^ 32) (o / 2 ^ 32)
  | 0x10 => o
  | 0x11 => if old = compare % 2 ^ n then o else old
  | _ => old

/-- Whether an operation may be combined (R194). -/
def combinable (aop : Nat) : Bool := aop ≤ 8

/-- An atomic performed on a line's bytes: the old value, and the line after it. -/
def atomOnLine (data : List Byte) (aop : Nat) (a64 : Bool) (off operand compare : Nat) : Nat × List Byte :=
  let w := if a64 then 8 else 4
  let old := leField data off w
  let new := atomValue aop (8 * w) old operand compare
  (old, data.take off ++ leBytes w new ++ data.drop (off + w))

/-- The byte of its line that an atomic message addresses. -/
def atomOff (m : CohMsg) : Nat := 8 * m.word + if !m.a64 && m.half then 4 else 0

/-! The Reply Ledger (R255–R258). -/

def srcKey (node job : Nat) : Nat := 0x100000 * node + job

/-- Who asks for an atomic through a message, when it came from outside the domain: node, job, SEQ. -/
def ledgerOf (s : State) (m : CohMsg) : Option (Nat × Nat × Nat) :=
  if m.srcChip = s.ch.domIndex then
    (s.ch.reqs.find? fun r => r.tag = m.tag && agentId s.ch.domIndex r.tabor = m.src).bind fun r => r.ledger
  else none

/-- LOW rises above a dropped SEQ (R255). -/
def raiseLow (node job seq : Nat) (s : State) : State :=
  let up := fun (x : LedSrc) => if serialLe 32 x.low seq then { x with low := (seq + 1) % 0x100000000 } else x
  s.setFa { s.fa with sources := s.fa.sources.modify (srcKey node job) up }

/-- An entry is dropped (R255). -/
def dropLedger (e : LedEnt) (s : State) : State :=
  let rest := s.fa.ledger.filter fun x => !(x.node = e.node && x.job = e.job && x.seq = e.seq)
  let s := raiseLow e.node e.job e.seq (s.setFa { s.fa with ledger := rest })
  if rest.any fun x => x.node = e.node && x.job = e.job then s
  else s.setFa { s.fa with sources := s.fa.sources.modify (srcKey e.node e.job) fun x => { x with emptySince := some s.now } }

/-- The answer of the ledger to an arriving atomic (R256, R257): a status and value; none when it is to
be applied. A source that the ledger does not hold starts with LOW at this SEQ. -/
def ledgerAnswer (led : Nat × Nat × Nat) (s : State) : Option (Nat × Nat) × State :=
  let (node, job, seq) := led
  if s.fa.ledgerHold.any (fun t => s.now < t) then (some (Config.outcomeUnknown, 0), s)
  else
    match s.fa.sources.get? (srcKey node job) with
    | none =>
      (none, s.setFa { s.fa with sources := s.fa.sources.set (srcKey node job) { low := seq, emptySince := some s.now } })
    | some x =>
      if serialLt 32 seq x.low then (some (Config.outcomeUnknown, 0), s)
      else
        match s.fa.ledger.find? fun e => e.node = node && e.job = job && e.seq = seq with
        | some e => (some (Config.replayed, e.value), s)
        | none => (none, s)

/-- The ledger has a free entry, or gets one by dropping its oldest entry that is over 8 ms old (R258). -/
def ledgerRoom (s : State) : Bool × State :=
  if s.fa.ledger.length < 1572864 then (true, s)
  else
    match s.fa.ledger.head? with
    | some e => if e.at_ + 8000000 < s.now then (true, dropLedger e s) else (false, s)
    | none => (true, s)

/-- An applied remote atomic is recorded; a source keeps its 4,096 most recent entries (R255). -/
def ledgerRecord (led : Nat × Nat × Nat) (value status sliver : Nat) (s : State) : State :=
  let (node, job, seq) := led
  let e : LedEnt := { node := node, job := job, seq := seq, value := value, status := status, sliver := sliver, at_ := s.now }
  let s := s.setFa { s.fa with
    ledger := s.fa.ledger ++ [e]
    sources := s.fa.sources.modify (srcKey node job) fun x => { x with emptySince := none } }
  let mine := s.fa.ledger.filter fun x => x.node = node && x.job = job
  if 4096 < mine.length then
    match mine.head? with
    | some old => dropLedger old s
    | none => s
  else s

/-- LEDGER_PRESSURE, at most once per second (R258). -/
def ledgerPressure (s : State) : State :=
  if s.fa.pressureAt.any (fun t => s.now < t + 1000000000) then s
  else raise 0x150 0 0 0 (s.setFa { s.fa with pressureAt := some s.now })

/-! Refusals (R198, R455). -/

/-- The number of an agent's request in the table of refusals. -/
def refKey (m : CohMsg) : Nat := 65536 * m.src + m.tag

/-- A request is refused with BACKOFF. A requester on this chip waits on a signal of the mesh; one on
another chip receives REFUSE (R198, R455). -/
def refuseBackoff (m : CohMsg) (s : State) : State :=
  let k := s.ch.refused.getD (refKey m) 0 + 1
  let exp := min (k - 1) 10
  let s := s.setCh { s.ch with refused := s.ch.refused.set (refKey m) k }
  if m.srcChip = s.ch.domIndex then
    s.setCh { s.ch with backoffs := s.ch.backoffs ++ [{ msg := m, due := s.now + 64 * 2 ^ exp }] }
  else
    sendMsg none { noMsg with
      mtype := 0x27, src := homeAgent s m.line, dst := m.src, tag := m.tag, status := Config.backoff, line := m.line,
      backoffExp := exp, dstChip := m.srcChip } s

/-- The tenant for whom a request is made: of its window for a request of another chip. -/
def msgTenant (s : State) (m : CohMsg) : Nat :=
  match m.frame with
  | some f => (s.fa.rwt.get? (65536 * f.pkt.job + f.pkt.window)).elim 0 fun w => w.tenant
  | none =>
    ((s.ch.reqs.find? fun r => r.tag = m.tag && agentId s.ch.domIndex r.tabor = m.src).elim 0) fun r => r.tenant

/-- A request whose line it writes, or may write. -/
def writes (mtype : Nat) : Bool :=
  mtype = 0x02 || mtype = 0x03 || mtype = 0x04 || mtype = 0x09 || mtype = 0x0A

/-- WR_UC with a full byte mask (R202). -/
def fullWrite (m : CohMsg) : Bool := m.mtype = 0x09 && (slice m.payload 64 8).all fun b => b = 0xFF

/-- The line after a WR_UC: bytes under the mask are written. -/
def maskMerge (old : List Byte) (payload : List Byte) : List Byte :=
  let mask := leField payload 64 8
  (fitTo old 64 0).zipIdx.map fun (b, i) => if bitOf mask i then payload.getD i 0 else b

/-! Serving a request (R191). -/

/-- The request's transaction is opened, or it is answered at once, by the state of the line's entry. -/
def serveOpen (m : CohMsg) (more : List CohMsg) (s : State) : State :=
  let line := m.line
  let me := m.src
  let others := fun (e : DirEntry) => (sharersOf s e).filter fun a => a ≠ me && e.owner ≠ some a
  let page := linePage line
  let gate := (entryOf s page).tier = 0 || ((entryOf s page).tier = 3 && !s.fr.intents.mem page) || (entryOf s page).state = 2
  match m.mtype, getDir s line with
  | 0x01, none => openTxn m [] true [] s
  | 0x01, some e =>
    match e.state, e.owner with
    | .sh, _ => openTxn m [] true [] s
    | _, some o => if o = me then openTxn m [] true [] s else openTxn m [(o, 0x11)] false [] s
    | _, none => openTxn m [] true [] s
  | 0x05, some e => if e.owner = some me then openTxn m [] true [] s else answer m 0x25 0 [] s
  | 0x05, none => answer m 0x25 0 [] s
  | 0x06, some e =>
    if e.owner = some me && e.state = .ex then answer m 0x25 0 [] (setDir line none s) else answer m 0x25 0 [] s
  | 0x06, none => answer m 0x25 0 [] s
  | 0x08, some e =>
    match e.state, e.owner with
    | .sh, _ => (s.setCh { s.ch with ucReads := s.ch.ucReads ++ [m] })
    | _, some o => openTxn m [(o, 0x14)] false [] s
    | _, none => (s.setCh { s.ch with ucReads := s.ch.ucReads ++ [m] })
  | 0x08, none => (s.setCh { s.ch with ucReads := s.ch.ucReads ++ [m] })
  | 0x09, e? => serveHome m e? more s
  | 0x0A, e? => serveHome m e? more s
  | ty, none => if ty = 0x02 || ty = 0x03 || ty = 0x04 then openTxn m [] true [] s else s
  | ty, some e =>
    if ty = 0x02 || ty = 0x03 || ty = 0x04 then
      if ty = 0x03 && listed e me && e.state ≠ .ex then
        openTxn m (((sharersOf s e).filter fun a => a ≠ me && e.owner ≠ some a).map (fun a => (a, 0x10)) ++
          (e.owner.toList.filter fun o => o ≠ me).map fun o => (o, 0x10)) gate [] s
      else
        match e.state, e.owner with
        | .sh, _ => openTxn m ((others e).map fun a => (a, 0x10)) (gate || !listed e me) [] s
        | _, some o =>
          if o = me then openTxn m ((others e).map fun a => (a, 0x10)) true [] s
          else openTxn m ((others e).map (fun a => (a, 0x10)) ++ [(o, 0x12)]) gate [] s
        | _, none => openTxn m [] true [] s
    else s
where
  /-- WR_UC and ATOM_HOME: every copy is recalled, and the home performs the access. -/
  serveHome (m : CohMsg) (e? : Option DirEntry) (more : List CohMsg) (s : State) : State :=
    match e? with
    | none => openTxn m [] true more s
    | some e =>
      openTxn m ((e.owner.toList.map fun a => (a, 0x13)) ++
        ((sharersOf s e).filter fun a => e.owner ≠ some a).map fun a => (a, 0x10)) true more s

/-- The home performs the ATOM_X itself, unless the line is quiet: no other request for it waits and no
ATOM_X of another agent came within HOT_WINDOW_NS (R193). -/
def atomAtHome (m : CohMsg) (s : State) : Bool :=
  (match s.ch.hot.get? m.line with
    | some (a, t) => a ≠ m.src && s.now < t + Par.hotWindowNs s
    | none => false) ||
  (s.ch.queues.any fun kv => kv.2.any fun q => q.msg.line = m.line && refKey q.msg ≠ refKey m) ||
  (s.ch.comb.any fun kv => kv.2.any fun c => c.line = m.line)

/-- An admitted request is performed, or its transaction opens (R187, R191, R193, R202, R256). -/
def serve (m : CohMsg) (s : State) : State :=
  let s := s.setCh { s.ch with refused := s.ch.refused.erase (refKey m) }
  let s := sampleAccess (lineAddr m.line) s
  if isPoisoned s (lineAddr m.line) && !fullWrite m then
    if m.mtype = 0x05 || m.mtype = 0x06 then answer m 0x25 0 [] (setDir m.line none s)
    else answer m 0x27 Config.poisoned [] s
  else
    match dirVictim s m.line with
    | some v =>
      if m.mtype = 0x05 || m.mtype = 0x06 || m.mtype = 0x08 then serveOpen m [] s
      else
        -- the request waits for the eviction of another entry of its set (R186)
        let (n, s) := useNo s
        let sl := sliverOf m.line
        recallLine v (s.setCh { s.ch with queues := s.ch.queues.set sl (⟨m, n⟩ :: s.ch.queues.getD sl []) })
    | none =>
      if m.mtype = 0x04 then
        let home := atomAtHome m s
        let s := s.setCh { s.ch with hot := s.ch.hot.set m.line (m.src, s.now) }
        if home then serveOpen { m with mtype := 0x0A } [] s else serveOpen m [] s
      else
        match (if m.mtype = 0x0A then ledgerOf s m else none) with
        | none => serveOpen m [] s
        | some led =>
          match ledgerAnswer led s with
          | (some (st, v), s) =>
            if statusOk st then answer m 0x24 st (leBytes 8 v) s else answer m 0x27 st [] s
          | (none, s) =>
            match ledgerRoom s with
            | (true, s) => serveOpen m [] s
            | (false, s) => refuseBackoff m (ledgerPressure s)

/-! The end of a transaction (R191). -/

/-- One atomic is performed on a line at its home, recorded, and answered (R192, R197, R256). -/
def performAtom (m : CohMsg) (data : List Byte) (s : State) : List Byte × State :=
  let operand := leField m.payload 0 8
  let compare := leField m.payload 8 8
  match ledgerOf s m with
  | none =>
    let (old, data) := atomOnLine data m.aop m.a64 (atomOff m) operand compare
    (data, answer m 0x24 Config.ok (leBytes 8 old) s)
  | some led =>
    match ledgerAnswer led s with
    | (some (st, v), s) =>
      (data, if statusOk st then answer m 0x24 st (leBytes 8 v) s else answer m 0x27 st [] s)
    | (none, s) =>
      match ledgerRoom s with
      | (false, s) => (data, refuseBackoff m (ledgerPressure s))
      | (true, s) =>
        let (old, data) := atomOnLine data m.aop m.a64 (atomOff m) operand compare
        (data, answer m 0x24 Config.ok (leBytes 8 old) (ledgerRecord led old Config.ok (sliverOf m.line) s))

/-- The home tabor takes a line into its slice in M, as the owner (R191). -/
def takeHome (line : Nat) (data : List Byte) (tenant : Option Nat) (s : State) : State :=
  let (n, s) := useNo s
  let s := setDir line (some (entryEx (homeAgent s line) n)) s
  installLine (homeTabor s line) (lineKey s.ch.domIndex line) .m data tenant s

/-- A transaction with nothing outstanding closes: the entry takes its next state and the requester is
answered. -/
def closeTxn (line : Nat) (s : State) : State :=
  match s.ch.txns.get? line with
  | none => s
  | some t =>
    if t.home || !t.waiting.isEmpty then s
    else
      let m := t.req
      let me := m.src
      let s := s.setCh { s.ch with txns := s.ch.txns.erase line }
      let (n, s) := useNo s
      let e? := getDir s line
      let data := t.data.getD (homeBytes s line)
      match m.mtype with
      | 0 =>
        let s := setDir line none s
        let s := match t.data with
          | some d => if t.dirty then landBytes (lineAddr line) d s else s
          | none => s
        s.setFa { s.fa with rwt := s.fa.rwt.mapVal fun _ w => { w with recalls := w.recalls.filter (· ≠ line) } }
      | 0x01 =>
        match e? with
        | none => answer m 0x21 0 data (setDir line (some (entryEx me n)) s)
        | some e =>
          if t.forwarded then
            if t.dirty then setDir line (some { addSharer me e with state := .ow, last := n }) s
            else
              let o := e.owner.getD me
              let e' := if e.state = .ow then { e with owner := none } else e
              setDir line (some { addSharer me (addSharer o e') with state := .sh, owner := none, last := n }) s
          else if e.state = .sh then answer m 0x20 0 data (setDir line (some { addSharer me e with last := n }) s)
          else answer m 0x21 0 data (setDir line (some (entryEx me n)) s)
      | 0x05 =>
        let s := landBytes (lineAddr line) m.payload s
        match e? with
        | none => answer m 0x25 0 [] s
        | some e =>
          if e.state = .ow && (e.coarse || e.sharers.any fun a => a ≠ me) then
            answer m 0x25 0 [] (setDir line (some { e with
              state := .sh, owner := none, sharers := e.sharers.filter (· ≠ me), last := n }) s)
          else answer m 0x25 0 [] (setDir line none s)
      | 0x08 => answer m 0x26 0 data s
      | 0x09 =>
        let s := clearPoison s (lineAddr line)
        takeHome line (maskMerge data m.payload) (some (msgTenant s m)) (answer m 0x26 0 [] s)
      | 0x0A =>
        let (d, s) := (m :: t.more).foldl (fun (x : List Byte × State) op => performAtom op x.1 x.2) (data, s)
        takeHome line d (some (msgTenant s m)) s
      | _ =>
        let upgrade : Bool := match e? with
          | some e => listed e me && (m.mtype = 0x03 || e.state = .sh || e.owner = some me) && e.state ≠ .ex
          | none => false
        let s := setDir line (some (entryEx me n)) s
        if t.forwarded then s
        else if upgrade then answer m 0x23 0 [] s
        else answer m 0x21 0 data s

/-! Arrival of a request (R187, R196, R454, R455). -/

/-- The requester whose places a message takes at an arbiter: the kit stop of an agent of this chip, or
the fabric port by which it came. -/
def requesterOf (s : State) (m : CohMsg) : Nat :=
  match m.frame with
  | some f => 64 + f.sub / 2
  | none =>
    match (s.ch.reqs.find? fun r => r.tag = m.tag && agentId s.ch.domIndex r.tabor = m.src).map AgentReq.who with
    | some (CohFor.packet node tc _ _) => 64 + ((s.fa.rx.get? (pathKey node tc)).elim 0 fun p => p.sub / 2)
    | _ => agentTabor m.src / 68

/-- A reset of a kit has begun and has not ended. -/
def kitInReset (s : State) (k : Nat) : Bool := s.rc.resets.any fun x => x.domain = 2 && x.index = k && x.run

/-- The sliver is being rehomed, or its kit is being reset: its requests are held (R126, R459, R475). -/
def sliverHeld (s : State) (sl : Nat) : Bool :=
  (s.co.fences.any fun kv => kv.2.slivers.contains sl) || kitInReset s (sliverEnt s sl).kit

/-- A sliver for which no home was found (R125). -/
def sliverHomeless (s : State) (sl : Nat) : Bool := 64 ≤ (sliverEnt s sl).kit

/-- A sliver's transactions in progress. -/
def sliverTxns (s : State) (sl : Nat) : Nat := s.ch.txns.count fun l _ => sliverOf l = sl

/-- A request can be served now: its line has no transaction, and the home has room for one. -/
def canServe (s : State) (m : CohMsg) : Bool :=
  !s.ch.txns.has m.line && sliverTxns s (sliverOf m.line) < 16 &&
    (m.mtype ≠ 0x08 || !(s.ch.queues.getD (sliverOf m.line) []).any fun q => q.msg.line = m.line)

/-- The combining buffer takes an atomic of a busy line (R196). -/
def joinComb (m : CohMsg) (s : State) : Option State :=
  let sl := sliverOf m.line
  let l := s.ch.comb.getD sl []
  if !(m.mtype = 0x04 || m.mtype = 0x0A) || !combinable m.aop || Par.combining s = 0 || !s.ch.txns.has m.line then none
  else
    match l.find? fun c => c.line = m.line && c.aop = m.aop && c.a64 = m.a64 && !c.closed && c.ops.length < 32 with
    | some c =>
      let upd := fun (x : Comb) =>
        if x = c then { x with ops := x.ops ++ [{ m with mtype := 0x0A }], closed := 31 ≤ x.ops.length } else x
      some (s.setCh { s.ch with comb := s.ch.comb.set sl (l.map upd) })
    | none =>
      if l.length < 4 then
        let (n, s) := useNo s
        let c : Comb := { line := m.line, aop := m.aop, a64 := m.a64, ops := [{ m with mtype := 0x0A }], arrived := n, closed := false }
        some (s.setCh { s.ch with comb := s.ch.comb.set sl (l ++ [c]) })
      else none

/-- A request reaches its home. -/
def homeArrive (m : CohMsg) (s : State) : State :=
  let sl := sliverOf m.line
  let q := s.ch.queues.getD sl []
  if sliverHomeless s sl then answer m 0x27 Config.deviceOutOfService [] s else
  match joinComb m s with
  | some s => s
  | none =>
    if q.isEmpty && !sliverHeld s sl && canServe s m then serve m s
    else if 32 ≤ q.length || 8 ≤ (q.filter fun x => requesterOf s x.msg = requesterOf s m).length then refuseBackoff m s
    else
      let (n, s) := useNo s
      s.setCh { s.ch with queues := s.ch.queues.set sl (q ++ [⟨m, n⟩]) }

/-! The arbiters (R456–R458). -/

/-- The choice of an arbiter among requests, each with its requester and whether it is high-priority:
the requests of requesters within their quota come first; a grant lasts while its owner has requests, up
to the burst limit; else it passes on in turn. -/
def arbitrate {α : Type} (cur : Option (Nat × Nat)) (rr burst quota : Nat) (hp : FMap Nat)
    (req : α → Nat) (high : α → Bool) (l : List α) : Option (α × Nat × Nat × Bool) :=
  let hot := l.filter fun a => high a && hp.getD (req a) 0 < quota
  let pool := if hot.isEmpty then l else hot
  let keep := match cur with
    | some (o, n) => if n < burst && pool.any (fun a => req a = o) then some (o, n + 1) else none
    | none => none
  let pick := match keep with
    | some x => some x
    | none => (nextAfter (some rr) (pool.map req)).map fun o => (o, 1)
  pick.bind fun (o, n) => (pool.find? fun a => req a = o).map fun a => (a, o, n, !hot.isEmpty)

def arbKey : Arbiter → Nat
  | .sliver n => n
  | .pch n => 4096 + n

/-- The grant, the turn and the quota counts after a slot. -/
def noteGrant (k o n : Nat) (high : Bool) (s : State) : State :=
  let (st, hp) := s.ch.hp.getD k (s.now, [])
  s.setCh { s.ch with
    grant := s.ch.grant.set k (o, n)
    rr := s.ch.rr.set k o
    hp := if high then s.ch.hp.set k (st, hp.set o (hp.getD o 0 + 1)) else s.ch.hp.set k (st, hp) }

/-- ARBITER_GRANT: a slot of an arbiter: the request it grants is served; a grant without a request
lapses (R456, R457). -/
def execArbiterGrant (arb : Arbiter) (s : State) : Res3 :=
  s.act (
    let k := arbKey arb
    let cur := s.ch.grant.get? k
    let rr := s.ch.rr.getD k 0
    let hp := (s.ch.hp.getD k (0, [])).2
    match arb with
    | .sliver sl =>
      let q := s.ch.queues.getD sl []
      let ok := if sliverHeld s sl then [] else q.filter fun x => canServe s { x.msg with mtype := if x.msg.mtype = 0x08 then 0x01 else x.msg.mtype }
      match arbitrate cur rr (Par.sliverBurstMax s) (Par.sliverHpQuota s) hp (fun x => requesterOf s x.msg)
          (fun x => x.msg.frame.isSome) ok with
      | none => s.setCh { s.ch with grant := s.ch.grant.erase k }
      | some (x, o, n, high) =>
        let rest := q.filter fun y => y ≠ x
        serve x.msg (noteGrant k o n high (s.setCh { s.ch with
          queues := if rest.isEmpty then s.ch.queues.erase sl else s.ch.queues.set sl rest }))
    | .pch p =>
      let q := s.ch.pc.getD p []
      match arbitrate cur rr (Par.pchBurstMax s) (Par.pchHpQuota s) hp (fun x => x.requester) (fun x => x.high) q with
      | none => s.setCh { s.ch with grant := s.ch.grant.erase k }
      | some (x, o, n, high) =>
        let rest := q.erase x
        noteGrant k o n high (s.setCh { s.ch with pc := if rest.isEmpty then s.ch.pc.erase p else s.ch.pc.set p rest }))

/-- HP_WINDOW_EXPIRY: the high-priority window of an arbiter ends, and its masks clear (R458). -/
def execHpWindowExpiry (arb : Arbiter) (s : State) : Res3 :=
  s.act (s.setCh { s.ch with hp := s.ch.hp.erase (arbKey arb) })

/-- FLASH_DIRTY_MAX (R507, R510). -/
def flashDirtyMax : Nat := 262144

/-- A line is in M or O at an agent: an owner on this chip that holds it so, or an owner on another chip (R507). -/
def dirtyHeld (s : State) (line : Nat) : Bool :=
  match (getDir s line).bind DirEntry.owner with
  | none => false
  | some a =>
    if a / 8192 = s.ch.domIndex then
      ((getSlice s (a % 8192)).get? (lineKey s.ch.domIndex line)).any fun l => l.state = .m || l.state = .o
    else true

/-- Lines of flash-homed pages in M or O (R507). -/
def flashDirty (s : State) : FMap DirEntry := s.ch.dir.keep fun l _ => (entryOf s (linePage l)).tier = 3 && dirtyHeld s l

/-- The least recently used dirty line of a flash-homed page is written back, and the grant waits (R507). -/
def writeBackOldest (s : State) : State :=
  let idle := (flashDirty s).filter fun kv => !s.ch.txns.has kv.1
  match idle.foldl (fun (b : Option (Nat × DirEntry)) kv => match b with
    | some x => if kv.2.last < x.2.last then some kv else some x
    | none => some kv) none with
  | some kv => recallLine kv.1 s
  | none => s

/-- PAGE_HOME_ACCESS_DONE: the access at a line's page home ends (R191, R272). Reads served beside one
another are answered. A transaction gets its data, or is refused where the page cannot be read or
written; it closes once every answer is in. A write to a page in SWITCHING, or to a flash-homed page
without a committed intent, has to wait (R39, R90). -/
def execPageHomeAccessDone (line : Nat) (s : State) : Res3 :=
  s.act (
    let page := linePage line
    if !homeServed s line then s
    else
      let reads := s.ch.ucReads.filter fun m => m.line = line
      let s := s.setCh { s.ch with ucReads := s.ch.ucReads.filter fun m => m.line ≠ line }
      let s := reads.foldl (fun s m =>
        match readGate page s with
        | .bad st => answer m 0x27 st [] s
        | _ => answer m 0x26 0 (homeBytes s line) s) s
      match s.ch.txns.get? line with
      | none => s
      | some t =>
        if !t.home then s
        else if writes t.req.mtype && (entryOf s page).tier = 3 && !(dirtyHeld s line) && flashDirtyMax ≤ (flashDirty s).length then
          writeBackOldest s
        else
          let (s, g) := if t.req.mtype = 0x05 then (s, Gate.ok)
            else if writes t.req.mtype then writeGate page (msgTenant s t.req) s
            else (s, readGate page s)
          match g with
          | .stall => s
          | .bad st =>
            if t.waiting.isEmpty then
              let s := endHome t.ref (s.setCh { s.ch with txns := s.ch.txns.erase line })
              (t.req :: t.more).foldl (fun s m => answer m 0x27 st [] s) s
            else s
          | .ok =>
            let s := endHome t.ref s
            closeTxn line (s.setCh { s.ch with txns := s.ch.txns.set line { t with home := false, ref := none } }))

end Sys2Proof.Machine
end

