-- ==== Sys2Proof/Machine/Alu.lean ====
section
/-!
DEFINITION. Phicor instruction fields, the decoding of a word to its operation, register access, and
the operations that touch only a context's own registers, scratch and Chime state (R131–R143, R579).
-/

namespace Sys2Proof.Machine

/-! Fields (R135). -/

def fOpc (w : Nat) : Nat := bitsOf w 6 0
def fRd (w : Nat) : Nat := bitsOf w 11 7
def fRs1 (w : Nat) : Nat := bitsOf w 16 12
def fRs2 (w : Nat) : Nat := bitsOf w 21 17
def fPred (w : Nat) : Nat := bitsOf w 24 22
def fFunc (w : Nat) : Nat := bitsOf w 31 25
def fFunc3 (w : Nat) : Nat := bitsOf w 19 17
def fImm12 (w : Nat) : Int := toSigned 12 (bitsOf w 31 20)
def fMPred (w : Nat) : Nat := bitsOf w 19 17
def fSize (w : Nat) : Nat := bitsOf w 22 20
def fOff9 (w : Nat) : Int := toSigned 9 (bitsOf w 31 23)
def fType (w : Nat) : Nat := bitsOf w 28 25
def fRnd (w : Nat) : Bool := bitOf w 29
def fFunc2 (w : Nat) : Nat := bitsOf w 31 30
def fCond (w : Nat) : Nat := bitsOf w 9 7
def fBRs1 (w : Nat) : Nat := bitsOf w 14 10
def fBRs2 (w : Nat) : Nat := bitsOf w 19 15
def fOff12 (w : Nat) : Int := toSigned 12 (bitsOf w 31 20)
def fImm20 (w : Nat) : Int := toSigned 20 (bitsOf w 31 12)

/-- The operations of R138, one for each instruction of the opcode table. -/
inductive Op where
  | add | sub | and | or | xor | sll | srl | sra | slt | sltu | min | max | minu | maxu | seq | sne
  | addi | andi | ori | xori | slli | srli | srai | slti
  | lui | mul | mulh | mulhu | div | divu | rem | remu
  | pset | pget | pand | por | pnot
  | beq | bne | blt | bge | bltu | bgeu | j | call | ret
  | lds | sts | vlds | vsts | vgath | vscat | vlut
  | ldg | stg | vldg | vstg | ldacq
  | vadd | vlog | vmm | vsh | vcmp | vbcast | vmov | vsel | vext
  | vfadd | vfmul | vfma | vdot | vcvtn | vcvtw | vmxq | vred | vredc | vcadd | vperm
  | atom | ratom | rld | rst | rstf | vrld | vrst | copy | waitc
  | fencePub | fenceAcq | fenceFab
  | chmInit | chmUpd | chmVupd | chmFin
  | endOp | yield | nop | time | fuel | srseed | taborOp | waitf
  | pktLd | pktSt | pktLen | pktPass | pktReject
  | odRd | odWr | odEvent
  deriving DecidableEq, Repr

/-- The bits above the six of a REG FUNC must be zero but for NF, which FUNC bit 6 is. -/
def pickOp (l : List Op) (n : Nat) : Option Op := l[n]?

/-- Whether a VEC operation takes a TYPE, RND and FUNC2 (R138, R579). -/
def vecOk (opc : Nat) (w : Nat) : Bool :=
  match Elt.ofCode (fType w) with
  | none => false
  | some t =>
    let isInt := !t.isFloat
    let f2 := fFunc2 w
    let rnd0 := !fRnd w
    let conv := t != .fp32 && t != .int32 && t != .int64
    let vs2 := fRs2 w
    match opc with
    | 0x20 => isInt && rnd0
    | 0x22 => isInt && rnd0
    | 0x23 => isInt && rnd0 && decide (f2 < 3)
    | 0x21 => rnd0
    | 0x25 => rnd0
    | 0x24 => (isInt || t == .fp32 || t == .bf16 || t == .fp16) && rnd0
    | 0x28 => (t == .fp32 || t == .bf16 || t == .fp16) && rnd0
    | 0x29 => (t == .fp32 || t == .bf16 || t == .fp16) && rnd0 && f2 == 0
    | 0x2A => (t == .fp32 || t == .bf16 || t == .fp16) && rnd0 && decide (f2 < 3)
    | 0x2C =>
      rnd0 &&
        (if f2 % 2 = 1 then
          f2 == 1 && (t == .e4m3 || t == .e5m2 || t == .e3m2 || t == .e2m3 || t == .e2m1 || t == .int8)
         else
          (t == .bf16 || t == .fp16 || t == .e4m3 || t == .e5m2 || t == .e2m1 || t == .int8 || t == .int4)
            && (f2 == 0 || t == .int8 || t == .int4))
    | 0x30 => conv && decide (f2 < 2) && decide (vs2 % 8 < (t.count + 15) / 16)
    | 0x31 => conv && decide (f2 < 2) && rnd0 && decide (vs2 % 8 < (t.count + 15) / 16)
    | 0x32 =>
      (t == .e4m3 || t == .e5m2 || t == .e3m2 || t == .e2m3 || t == .e2m1 || t == .int8) && f2 == 0
        && decide (vs2 % 4 < (if t = .e2m1 then 4 else 2))
    | 0x34 => (t == .fp32 || t == .int32) && rnd0 && decide (f2 < 3)
    | 0x35 => t == .fp32 && rnd0 && f2 == 0
    | 0x36 => t == .fp32 && rnd0 && f2 == 0
    | 0x38 => fType w == 0 && rnd0
    | _ => false

/-- FUNC of ATOM and RATOM: a defined AOP with a width bit and NF (R138, R194). -/
def aopOk (f : Nat) : Bool := decide (f % 32 ≤ 8) || (decide (0x10 ≤ f % 32) && decide (f % 32 ≤ 0x12))

/-- SIZE of a MEM operation (R137, R138). -/
def sizeOk (opc size : Nat) : Bool :=
  match opc with
  | 0x10 => decide (size ≤ 6)
  | 0x11 => decide (size ≤ 3)
  | 0x12 => decide (size ≤ 2)
  | 0x13 => decide (size ≤ 1)
  | 0x18 => decide (size ≤ 6)
  | 0x19 => decide (size ≤ 3)
  | 0x1A => size == 0
  | 0x1B => size == 0
  | 0x1C => size == 2 || size == 3 || size == 6
  | _ => false

/-- The operation that a word spells, if R138 and R579 define it. DEDUCED: log entry 116. -/
def opOf (w : Nat) : Option Op :=
  let f := fFunc w
  let opc := fOpc w
  match opc with
  | 0x01 => pickOp [.add, .sub, .and, .or, .xor, .sll, .srl, .sra, .slt, .sltu, .min, .max, .minu, .maxu, .seq, .sne] f
  | 0x02 => pickOp [.addi, .andi, .ori, .xori, .slli, .srli, .srai, .slti] (fFunc3 w)
  | 0x03 => some .lui
  | 0x04 => pickOp [.mul, .mulh, .mulhu] f
  | 0x05 => pickOp [.div, .divu, .rem, .remu] f
  | 0x06 => pickOp [.pset, .pget, .pand, .por, .pnot] f
  | 0x08 => pickOp [.beq, .bne, .blt, .bge, .bltu, .bgeu] (fCond w)
  | 0x09 => some .j
  | 0x0A => some .call
  | 0x0B => some .ret
  | 0x10 => if sizeOk opc (fSize w) then some .lds else none
  | 0x11 => if sizeOk opc (fSize w) then some .sts else none
  | 0x12 => if sizeOk opc (fSize w) then some .vlds else none
  | 0x13 => if sizeOk opc (fSize w) then some .vsts else none
  | 0x14 => if f < 2 then some .vgath else none
  | 0x15 => if f < 2 then some .vscat else none
  | 0x16 => some .vlut
  | 0x18 => if sizeOk opc (fSize w) then some .ldg else none
  | 0x19 => if sizeOk opc (fSize w) then some .stg else none
  | 0x1A => if sizeOk opc (fSize w) then some .vldg else none
  | 0x1B => if sizeOk opc (fSize w) then some .vstg else none
  | 0x1C => if sizeOk opc (fSize w) then some .ldacq else none
  | 0x20 => if vecOk opc w then some .vadd else none
  | 0x21 => if vecOk opc w then some .vlog else none
  | 0x22 => if vecOk opc w then some .vmm else none
  | 0x23 => if vecOk opc w then some .vsh else none
  | 0x24 => if vecOk opc w then some .vcmp else none
  | 0x25 => if vecOk opc w then pickOp [.vbcast, .vmov, .vsel, .vext] (fFunc2 w) else none
  | 0x28 => if vecOk opc w then some .vfadd else none
  | 0x29 => if vecOk opc w then some .vfmul else none
  | 0x2A => if vecOk opc w then some .vfma else none
  | 0x2C => if vecOk opc w then some .vdot else none
  | 0x30 => if vecOk opc w then some .vcvtn else none
  | 0x31 => if vecOk opc w then some .vcvtw else none
  | 0x32 => if vecOk opc w then some .vmxq else none
  | 0x34 => if vecOk opc w then some .vred else none
  | 0x35 => if vecOk opc w then some .vredc else none
  | 0x36 => if vecOk opc w then some .vcadd else none
  | 0x38 => if vecOk opc w then some .vperm else none
  | 0x40 => if aopOk f then some .atom else none
  | 0x41 => if aopOk f then some .ratom else none
  | 0x44 => if f % 64 < 2 then some .rld else none
  | 0x45 => if f % 64 < 2 then some .rst else none
  | 0x46 => if f % 64 = 0 then some .rstf else none
  | 0x47 => if f % 64 = 0 then some .vrld else none
  | 0x48 => if f % 64 = 0 then some .vrst else none
  | 0x49 => if f % 64 = 0 then some .copy else none
  | 0x4A => if f % 64 = 0 then some .waitc else none
  | 0x50 => pickOp [.fencePub, .fenceAcq, .fenceFab] f
  | 0x54 => pickOp [.chmInit, .chmUpd, .chmVupd, .chmFin] f
  | 0x60 => pickOp [.endOp, .yield, .nop, .time, .fuel, .srseed, .taborOp] f
  | 0x61 => if f < 3 then some .waitf else none
  | 0x70 => pickOp [.pktLd, .pktSt, .pktLen, .pktPass, .pktReject] f
  | 0x74 => pickOp [.odRd, .odWr, .odEvent] f
  | _ => none

/-- The profiles of R138 that hold an operation: tabor, Gale, Carillon. -/
def opProfiles (op : Op) (w : Nat) : Bool × Bool × Bool :=
  match fOpc w with
  | 0x01 => (true, true, true)
  | 0x02 => (true, true, true)
  | 0x03 => (true, true, true)
  | 0x04 => (true, true, true)
  | 0x05 => (true, false, true)
  | 0x08 => (true, true, true)
  | 0x09 => (true, true, true)
  | 0x0A => (true, true, true)
  | 0x0B => (true, true, true)
  | 0x10 => (true, true, true)
  | 0x11 => (true, true, true)
  | 0x12 => (true, true, false)
  | 0x13 => (true, true, false)
  | 0x14 => (true, true, false)
  | 0x15 => (true, true, false)
  | 0x20 => (true, true, false)
  | 0x21 => (true, true, false)
  | 0x22 => (true, true, false)
  | 0x23 => (true, true, false)
  | 0x24 => (true, fType w ≥ 8, false)
  | 0x25 => (true, true, false)
  | 0x38 => (true, true, false)
  | 0x54 => (true, true, false)
  | 0x60 => if op = .yield ∨ op = .srseed then (true, false, false) else (true, true, true)
  | 0x70 => (false, true, false)
  | 0x74 => (false, false, true)
  | _ => (true, false, false)

/-! Registers (R98). -/

namespace Ctx

def readX (c : Ctx) (n : Nat) : Word := if n = 0 then 0 else c.x.getD n 0
def readV (c : Ctx) (n : Nat) : BitVec 512 := c.v.getD n 0
def readP (c : Ctx) (n : Nat) : Word := if n = 0 then BitVec.allOnes 64 else c.p.getD n 0
/-- x0 ignores writes. -/
def writeX (c : Ctx) (n : Nat) (v : Word) : Ctx := if n = 0 then c else { c with x := c.x.set n v }
def writeV (c : Ctx) (n : Nat) (v : BitVec 512) : Ctx := { c with v := c.v.set n v }
/-- p0 ignores writes. -/
def writeP (c : Ctx) (n : Nat) (v : Word) : Ctx := if n = 0 then c else { c with p := c.p.set n v }

/-- `n` bytes of program scratch (R132); none outside the space. -/
def readS (c : Ctx) (a n : Nat) : Option (List Byte) :=
  if a + n ≤ c.scratchBytes then some ((List.range n).map fun i => c.scratch.getD (a + i) 0) else none

def putBytes : FMap Byte → Nat → List Byte → FMap Byte
  | m, _, [] => m
  | m, a, b :: bs => putBytes (if b = 0 then m.erase a else m.set a b) (a + 1) bs

def writeS (c : Ctx) (a : Nat) (bs : List Byte) : Option Ctx :=
  if a + bs.length ≤ c.scratchBytes then some { c with scratch := putBytes c.scratch a bs } else none

end Ctx

/-- The next state of a context, or the status that ends it. -/
abbrev Res := Except Nat Ctx

def xres (w : Nat) (c : Ctx) (v : Word) : Res := .ok (c.writeX (fRd w) v)

/-- A REG operation on two scalar sources. -/
def alu2 (f : Word → Word → Word) (w : Nat) (c : Ctx) : Res :=
  xres w c (f (c.readX (fRs1 w)) (c.readX (fRs2 w)))

/-- An IMM operation with the immediate sign-extended to 64 bits. -/
def aluImm (f : Word → Word → Word) (w : Nat) (c : Ctx) : Res :=
  xres w c (f (c.readX (fRs1 w)) (BitVec.ofInt 64 (fImm12 w)))

/-- A shift by the unsigned count of bits [25:20]. -/
def aluShamt (f : Word → Nat → Word) (w : Nat) (c : Ctx) : Res :=
  xres w c (f (c.readX (fRs1 w)) (bitsOf w 25 20))

def boolW (b : Bool) : Word := if b then 1 else 0
def smin (a b : Word) : Word := if a.slt b then a else b
def smax (a b : Word) : Word := if a.slt b then b else a
def umin (a b : Word) : Word := if a.ult b then a else b
def umax (a b : Word) : Word := if a.ult b then b else a

/-- The high half of the signed product. -/
def mulHigh (a b : Word) : Word := BitVec.ofInt 64 ((a.toInt * b.toInt) / (2 ^ 64 : Nat))
def mulHighU (a b : Word) : Word := BitVec.ofNat 64 ((a.toNat * b.toNat) / 2 ^ 64)
def divS (a b : Word) : Word := if b = 0 then BitVec.allOnes 64 else a.sdiv b
def divU (a b : Word) : Word := if b = 0 then BitVec.allOnes 64 else a / b
def remS (a b : Word) : Word := if b = 0 then a else a.srem b
def remU (a b : Word) : Word := if b = 0 then a else a % b

def opAdd : Nat → Ctx → Res := alu2 fun a b => a + b
def opSub : Nat → Ctx → Res := alu2 fun a b => a - b
def opAnd : Nat → Ctx → Res := alu2 fun a b => a &&& b
def opOr : Nat → Ctx → Res := alu2 fun a b => a ||| b
def opXor : Nat → Ctx → Res := alu2 fun a b => a ^^^ b
def opSll : Nat → Ctx → Res := alu2 fun a b => a <<< (b.toNat % 64)
def opSrl : Nat → Ctx → Res := alu2 fun a b => a >>> (b.toNat % 64)
def opSra : Nat → Ctx → Res := alu2 fun a b => a.sshiftRight (b.toNat % 64)
def opSlt : Nat → Ctx → Res := alu2 fun a b => boolW (a.slt b)
def opSltu : Nat → Ctx → Res := alu2 fun a b => boolW (a.ult b)
def opMin : Nat → Ctx → Res := alu2 smin
def opMax : Nat → Ctx → Res := alu2 smax
def opMinu : Nat → Ctx → Res := alu2 umin
def opMaxu : Nat → Ctx → Res := alu2 umax
def opSeq : Nat → Ctx → Res := alu2 fun a b => boolW (a == b)
def opSne : Nat → Ctx → Res := alu2 fun a b => boolW (a != b)
def opAddi : Nat → Ctx → Res := aluImm fun a b => a + b
def opAndi : Nat → Ctx → Res := aluImm fun a b => a &&& b
def opOri : Nat → Ctx → Res := aluImm fun a b => a ||| b
def opXori : Nat → Ctx → Res := aluImm fun a b => a ^^^ b
def opSlti : Nat → Ctx → Res := aluImm fun a b => boolW (a.slt b)
def opSlli : Nat → Ctx → Res := aluShamt fun a n => a <<< n
def opSrli : Nat → Ctx → Res := aluShamt fun a n => a >>> n
def opSrai : Nat → Ctx → Res := aluShamt fun a n => a.sshiftRight n
def opLui (w : Nat) (c : Ctx) : Res := xres w c (BitVec.ofInt 64 (fImm20 w * 4096))
def opMul : Nat → Ctx → Res := alu2 fun a b => a * b
def opMulh : Nat → Ctx → Res := alu2 mulHigh
def opMulhu : Nat → Ctx → Res := alu2 mulHighU
def opDiv : Nat → Ctx → Res := alu2 divS
def opDivu : Nat → Ctx → Res := alu2 divU
def opRem : Nat → Ctx → Res := alu2 remS
def opRemu : Nat → Ctx → Res := alu2 remU

def opPset (w : Nat) (c : Ctx) : Res := .ok (c.writeP (fRd w) (c.readX (fRs1 w)))
def opPget (w : Nat) (c : Ctx) : Res := .ok (c.writeX (fRd w) (c.readP (fRs1 w)))
def opPand (w : Nat) (c : Ctx) : Res := .ok (c.writeP (fRd w) (c.readP (fRs1 w) &&& c.readP (fRs2 w)))
def opPor (w : Nat) (c : Ctx) : Res := .ok (c.writeP (fRd w) (c.readP (fRs1 w) ||| c.readP (fRs2 w)))
def opPnot (w : Nat) (c : Ctx) : Res := .ok (c.writeP (fRd w) (~~~ (c.readP (fRs1 w))))

/-! Control flow. The program counter of a context already names the next instruction when the
operation runs; a target is relative to the instruction itself. -/

/-- The instruction index `pc − 1 + off` (R138). -/
def jumpTo (c : Ctx) (off : Int) : Ctx := { c with pc := ((c.pc : Int) - 1 + off).toNat }

def branchIf (cond : Word → Word → Bool) (w : Nat) (c : Ctx) : Res :=
  .ok (if cond (c.readX (fBRs1 w)) (c.readX (fBRs2 w)) then jumpTo c (fOff12 w) else c)

def opBeq : Nat → Ctx → Res := branchIf fun a b => a == b
def opBne : Nat → Ctx → Res := branchIf fun a b => a != b
def opBlt : Nat → Ctx → Res := branchIf fun a b => a.slt b
def opBge : Nat → Ctx → Res := branchIf fun a b => !a.slt b
def opBltu : Nat → Ctx → Res := branchIf fun a b => a.ult b
def opBgeu : Nat → Ctx → Res := branchIf fun a b => !a.ult b
def opJ (w : Nat) (c : Ctx) : Res := .ok (jumpTo c (fImm20 w))
/-- The return stack has 8 entries; a ninth push cannot occur in a verified program (R147). -/
def opCall (w : Nat) (c : Ctx) : Res :=
  if 8 ≤ c.ret.length then .error Config.invalidDescriptor
  else .ok { jumpTo c (fImm20 w) with ret := c.pc :: c.ret }
def opRet (_ : Nat) (c : Ctx) : Res :=
  match c.ret with
  | [] => .error Config.invalidDescriptor
  | a :: l => .ok { c with pc := a, ret := l }

/-! Scratch (R132, R137). -/

/-- Bytes of a scalar SIZE. -/
def scalarBytes (size : Nat) : Nat :=
  match size with
  | 0 => 1
  | 1 => 2
  | 2 => 4
  | 3 => 8
  | 4 => 1
  | 5 => 2
  | _ => 4

/-- A loaded scalar, zero- or sign-extended (R137). -/
def scalarLoad (size : Nat) (bs : List Byte) : Word :=
  if 4 ≤ size then BitVec.ofInt 64 (toSigned (8 * scalarBytes size) (leNat bs)) else BitVec.ofNat 64 (leNat bs)

/-- Bytes of a vector SIZE: LINE, HALF, SPLAT. -/
def vectorBytes (size : Nat) : Nat := if size = 0 then 64 else if size = 1 then 32 else 4

/-- The effective address of a MEM operation: base plus offset in units of the access size. -/
def memAddr (c : Ctx) (w unit : Nat) : Nat :=
  (c.readX (fRs1 w) + BitVec.ofInt 64 (fOff9 w * unit)).toNat

/-- Lanes of `w` bits, least significant first. -/
def lanes (w : Nat) (v : BitVec 512) : List Nat :=
  (List.range (512 / w)).map fun i => (v.toNat / 2 ^ (w * i)) % 2 ^ w

/-- The number with the given digits of `w` bits. -/
def packNat (w : Nat) : List Nat → Nat
  | [] => 0
  | a :: l => a % 2 ^ w + 2 ^ w * packNat w l

def packV (w : Nat) (l : List Nat) : BitVec 512 := BitVec.ofNat 512 (packNat w l)

def vecBytes (v : BitVec 512) : List Byte := leBytes 64 v.toNat
def bytesVec (bs : List Byte) : BitVec 512 := BitVec.ofNat 512 (leNat bs)

def opLds (w : Nat) (c : Ctx) : Res :=
  let n := scalarBytes (fSize w)
  match c.readS (memAddr c w n) n with
  | some bs => .ok (c.writeX (fRd w) (scalarLoad (fSize w) bs))
  | none => .error Config.accessDenied

def opSts (w : Nat) (c : Ctx) : Res :=
  let n := scalarBytes (fSize w)
  match c.writeS (memAddr c w n) (leBytes n (c.readX (fRd w)).toNat) with
  | some c => .ok c
  | none => .error Config.accessDenied

def opVlds (w : Nat) (c : Ctx) : Res :=
  let n := vectorBytes (fSize w)
  match c.readS (memAddr c w n) n with
  | some bs =>
    .ok (c.writeV (fRd w) (if n = 4 then packV 32 (List.replicate 16 (leNat bs)) else bytesVec bs))
  | none => .error Config.accessDenied

/-- Stores the enabled items of a list, `n` bytes each, at `addr i`, in rising order. -/
def storeItems (en : Nat → Bool) (addr : Nat → Nat) (n : Nat) : Ctx → List (Nat × Nat) → Res
  | c, [] => .ok c
  | c, (i, v) :: l =>
    if en i then
      match c.writeS (addr i) (leBytes n v) with
      | some c => storeItems en addr n c l
      | none => .error Config.accessDenied
    else storeItems en addr n c l

/-- Whether every byte of the enabled items lies in scratch. DEDUCED: log entry 115. -/
def itemsIn (c : Ctx) (en : Nat → Bool) (addr : Nat → Nat) (n k : Nat) : Bool :=
  (List.range k).all fun i => !en i || decide (addr i + n ≤ c.scratchBytes)

def predBit (c : Ctx) (p i : Nat) : Bool := (c.readP p).getLsbD i

/-- DEDUCED: log entry 115. -/
def opVsts (w : Nat) (c : Ctx) : Res :=
  let n := vectorBytes (fSize w)
  let a := memAddr c w n
  let en := predBit c (fMPred w)
  if itemsIn c en (fun i => a + 4 * i) 4 (n / 4) then
    storeItems en (fun i => a + 4 * i) 4 c (((lanes 32 (c.readV (fRd w))).take (n / 4)).zipIdx.map fun (v, i) => (i, v))
  else .error Config.accessDenied

/-- Element bytes of VGATH and VSCAT: FUNC 0 is 32-bit, FUNC 1 is 16-bit. -/
def gatherBytes (w : Nat) : Nat := if fFunc w = 0 then 4 else 2

/-- The scratch address of element `i` of a gather or scatter. DEDUCED: log entry 117. -/
def gatherAddr (w : Nat) (c : Ctx) (i : Nat) : Nat :=
  (c.readX (fRs1 w) + BitVec.ofNat 64 (gatherBytes w * ((lanes 32 (c.readV (fRs2 w))).getD i 0))).toNat

def opVgath (w : Nat) (c : Ctx) : Res :=
  let n := gatherBytes w
  let en := predBit c (fPred w)
  if itemsIn c en (gatherAddr w c) n 16 then
    let old := lanes (8 * n) (c.readV (fRd w))
    let new := (List.range 16).map fun i =>
      if en i then leNat ((c.readS (gatherAddr w c i) n).getD []) else old.getD i 0
    .ok (c.writeV (fRd w) (packV (8 * n) new))
  else .error Config.accessDenied

def opVscat (w : Nat) (c : Ctx) : Res :=
  let n := gatherBytes w
  let en := predBit c (fPred w)
  if itemsIn c en (gatherAddr w c) n 16 then
    storeItems en (gatherAddr w c) n c (((lanes (8 * n) (c.readV (fRd w))).take 16).zipIdx.map fun (v, i) => (i, v))
  else .error Config.accessDenied

/-- DEDUCED: log entry 117. -/
def lutAddr (w : Nat) (c : Ctx) (i : Nat) : Nat :=
  (c.readX (fRs1 w) + BitVec.ofNat 64 (1024 * i + 4 * ((lanes 8 (c.readV (fRs2 w))).getD i 0))).toNat

/-- A predicate bit governs one element of a vector operation unless the opcode states otherwise (R98). -/
def opVlut (w : Nat) (c : Ctx) : Res :=
  let en := predBit c (fPred w)
  if itemsIn c en (lutAddr w c) 4 16 then
    let old := lanes 32 (c.readV (fRd w))
    .ok (c.writeV (fRd w) (packV 32 ((List.range 16).map fun i =>
      if en i then leNat ((c.readS (lutAddr w c i) 4).getD []) else old.getD i 0)))
  else .error Config.accessDenied

/-! Vector operations. -/

/-- Whether element `i` of the type is enabled (R98). -/
def elemEn (c : Ctx) (p : Nat) (t : Elt) (i : Nat) : Bool :=
  if t.width = 4 then predBit c p (i / 2)
  else if t.width = 6 ∧ 64 ≤ i then predBit c p (i - 64)
  else predBit c p i

/-- Elements of a register by the type; the bits above the last whole element come back by `packElts`. -/
def elts (t : Elt) (v : BitVec 512) : List Nat :=
  (List.range t.count).map fun i => (v.toNat / 2 ^ (t.width * i)) % 2 ^ t.width

/-- Elements in place of those of `old`; bits beyond the last whole element are kept. -/
def packElts (t : Elt) (old : BitVec 512) (l : List Nat) : BitVec 512 :=
  let k := t.width * t.count
  BitVec.ofNat 512 (packNat t.width (l.take t.count) + (old.toNat / 2 ^ k) * 2 ^ k)

/-- Element-wise operation under the governing predicate; a disabled element keeps its value. -/
def vecMap (w : Nat) (c : Ctx) (f : Elt → Nat → Nat → Nat → Nat) : Res :=
  match Elt.ofCode (fType w) with
  | none => .error Config.invalidDescriptor
  | some t =>
    let d := elts t (c.readV (fRd w))
    let a := elts t (c.readV (fRs1 w))
    let b := elts t (c.readV (fRs2 w))
    .ok (c.writeV (fRd w) (packElts t (c.readV (fRd w)) ((List.range t.count).map fun i =>
      if elemEn c (fPred w) t i then f t (d.getD i 0) (a.getD i 0) (b.getD i 0) else d.getD i 0)))

/-- An integer clamped to the signed range of `n` bits. -/
def satTo (n : Nat) (i : Int) : Nat :=
  ofSigned n (max (-(2 ^ (n - 1) : Nat)) (min ((2 ^ (n - 1) : Nat) - 1) i))

def vaddElt (f2 : Nat) (t : Elt) (a b : Nat) : Nat :=
  let n := t.width
  let x := toSigned n a
  let y := toSigned n b
  match f2 with
  | 0 => ofSigned n (x + y)
  | 1 => ofSigned n (x - y)
  | 2 => satTo n (x + y)
  | _ => satTo n (x - y)

def opVadd (w : Nat) (c : Ctx) : Res := vecMap w c fun t _ a b => vaddElt (fFunc2 w) t a b

def vlogElt (f2 : Nat) (t : Elt) (a b : Nat) : Nat :=
  match f2 with
  | 0 => Nat.land a b
  | 1 => Nat.lor a b
  | 2 => Nat.xor a b
  | _ => Nat.land a (2 ^ t.width - 1 - b)

def opVlog (w : Nat) (c : Ctx) : Res := vecMap w c fun t _ a b => vlogElt (fFunc2 w) t a b

def vmmElt (f2 : Nat) (t : Elt) (a b : Nat) : Nat :=
  let s := decide (toSigned t.width a < toSigned t.width b)
  match f2 with
  | 0 => if s then a else b
  | 1 => if s then b else a
  | 2 => if a < b then a else b
  | _ => if a < b then b else a

def opVmm (w : Nat) (c : Ctx) : Res := vecMap w c fun t _ a b => vmmElt (fFunc2 w) t a b

def vshElt (f2 : Nat) (t : Elt) (a b : Nat) : Nat :=
  let n := b % t.width
  match f2 with
  | 0 => (a * 2 ^ n) % 2 ^ t.width
  | 1 => a / 2 ^ n
  | _ => ofSigned t.width (toSigned t.width a / ((2 ^ n : Nat) : Int))

def opVsh (w : Nat) (c : Ctx) : Res := vecMap w c fun t _ a b => vshElt (fFunc2 w) t a b

/-- The comparison of VCMP (R138). -/
def vcmpElt (f2 : Nat) (t : Elt) (a b : Nat) : Bool :=
  match t.fmt? with
  | some f =>
    let x := decodeF f a
    let y := decodeF f b
    match f2 with
    | 0 => x.eq y
    | 1 => x.lt y
    | 2 => x.isNan || y.isNan || x.lt y
    | _ => x.lt y || x.eq y
  | none =>
    match f2 with
    | 0 => a == b
    | 1 => decide (toSigned t.width a < toSigned t.width b)
    | 2 => decide (a < b)
    | _ => decide (toSigned t.width a ≤ toSigned t.width b)

/-- Bits of a predicate from a function of the bit number. -/
def predOf (f : Nat → Bool) : Word := BitVec.ofNat 64 (packNat 1 ((List.range 64).map fun i => b2n (f i)))

def opVcmp (w : Nat) (c : Ctx) : Res :=
  match Elt.ofCode (fType w) with
  | none => .error Config.invalidDescriptor
  | some t =>
    let a := elts t (c.readV (fRs1 w))
    let b := elts t (c.readV (fRs2 w))
    let old := c.readP (fRd w)
    let hit := fun i => vcmpElt (fFunc2 w) t (a.getD i 0) (b.getD i 0)
    let bits := if t.width = 4 then 64 else t.count
    .ok (c.writeP (fRd w) (predOf fun i =>
      if i < bits ∧ predBit c (fPred w) i = true then
        (if t.width = 4 then hit (2 * i) && hit (2 * i + 1) else hit i)
      else old.getLsbD i))

def opVbcast (w : Nat) (c : Ctx) : Res :=
  vecMap w c fun t _ _ _ => (c.readX (fRs1 w)).toNat % 2 ^ t.width

def opVmov (w : Nat) (c : Ctx) : Res := vecMap w c fun _ _ a _ => a

/-- VSEL writes every element: the first source where enabled, the second elsewhere. -/
def opVsel (w : Nat) (c : Ctx) : Res :=
  match Elt.ofCode (fType w) with
  | none => .error Config.invalidDescriptor
  | some t =>
    let a := elts t (c.readV (fRs1 w))
    let b := elts t (c.readV (fRs2 w))
    .ok (c.writeV (fRd w) (packElts t (c.readV (fRd w)) ((List.range t.count).map fun i =>
      if elemEn c (fPred w) t i then a.getD i 0 else b.getD i 0)))

def opVext (w : Nat) (c : Ctx) : Res :=
  match Elt.ofCode (fType w) with
  | none => .error Config.invalidDescriptor
  | some t =>
    let a := (c.readV (fRs1 w)).toNat % 2 ^ t.width
    if elemEn c (fPred w) t 0 then
      .ok (c.writeX (fRd w) (if t.isFloat then BitVec.ofNat 64 a else BitVec.ofInt 64 (toSigned t.width a)))
    else .ok c

def vfaddElt (f2 : Nat) (f : Fmt) (a b : Nat) : Nat :=
  match f2 with
  | 0 => fadd f a b
  | 1 => fsub f a b
  | 2 => fminF f a b
  | _ => fmaxF f a b

def opVfadd (w : Nat) (c : Ctx) : Res :=
  vecMap w c fun t _ a b => vfaddElt (fFunc2 w) (t.fmt?.getD Fmt.fp32) a b

def opVfmul (w : Nat) (c : Ctx) : Res := vecMap w c fun t _ a b => fmul (t.fmt?.getD Fmt.fp32) a b

/-- The three forms of VFMA; each rounds once. -/
def vfmaElt (f2 : Nat) (f : Fmt) (d a b : Nat) : Nat :=
  let x := decodeF f a
  let y := decodeF f b
  let z := decodeF f d
  match f2 with
  | 0 => encodeF f ((x.mul y).add z)
  | 1 => encodeF f ((x.mul y).neg.add z)
  | _ => encodeF f ((x.mul y).add z.neg)

def opVfma (w : Nat) (c : Ctx) : Res := vecMap w c fun t d a b => vfmaElt (fFunc2 w) (t.fmt?.getD Fmt.fp32) d a b

/-- Elements of each lane's group of a dot product (R108). DEDUCED: log entry 106. -/
def dotGroup (t : Elt) : Nat := match t.width with
  | 16 => 2
  | 4 => 8
  | _ => 4

/-- Lane `i` of VDOT (R108, R109): the new accumulator. DEDUCED: log entry 106. -/
def dotLane (f2 : Nat) (t : Elt) (sa sb : Nat) (a b : List Nat) (acc i : Nat) : Nat :=
  let g := dotGroup t
  let mx := f2 % 2 == 1
  let val := fun x => if mx then t.mxValue x else t.value x
  let prods := (List.range g).map fun k => (val (a.getD (g * i + k) 0)).mul (val (b.getD (g * i + k) 0))
  let sum := match prods with
    | [] => FVal.fin false 0 0
    | p :: l => l.foldl FVal.add p
  if mx then
    match e8m0 sa, e8m0 sb with
    | some x, some y => encodeF Fmt.fp32 ((decodeF Fmt.fp32 acc).add (sum.scale (x + y)))
    | _, _ => 0x7FC00000
  else if !t.isFloat && f2 == 0 then
    satTo 32 (toSigned 32 acc + sum.toInt .rne 0 (-(2 ^ 40 : Nat)) (2 ^ 40 : Nat))
  else encodeF Fmt.fp32 ((decodeF Fmt.fp32 acc).add sum)

def opVdot (w : Nat) (c : Ctx) : Res :=
  match Elt.ofCode (fType w) with
  | none => .error Config.invalidDescriptor
  | some t =>
    let a := elts t (c.readV (fRs1 w))
    let b := elts t (c.readV (fRs2 w))
    let d := lanes 32 (c.readV (fRd w))
    let per := if t.width = 4 then 4 else 8
    let sA := fun i => ((c.readX (fRs1 w)).toNat / 256 ^ (i / per)) % 256
    let sB := fun i => ((c.readX (fRs2 w)).toNat / 256 ^ (i / per)) % 256
    .ok (c.writeV (fRd w) (packV 32 ((List.range 16).map fun i =>
      if predBit c (fPred w) i then dotLane (fFunc2 w) t (sA i) (sB i) a b (d.getD i 0) i else d.getD i 0)))

/-! Stochastic rounding streams (R117). -/

/-- The random value for element `i`. -/
def srValue (sr : List Nat) (i : Nat) : Nat :=
  let k := (i / 16) % 4
  (sr.getD (i % 16) 0 / 2 ^ (48 - 16 * k)) % 65536

/-- L of stream `lane` (R117). -/
def srL (tabor lane : Nat) : Nat := tabor * 16 + lane

def srStep (tabor lane s : Nat) : Nat :=
  (s * 0x5851F42D4C957F2D + (2 * srL tabor lane + 1)) % 2 ^ 64

def srAdvance (tabor : Nat) (sr : List Nat) : List Nat := sr.zipIdx.map fun (s, i) => srStep tabor i s

/-- The rounding mode of a VEC word. -/
def rndOf (w : Nat) : Rnd := if fRnd w then .sr else .rne

/-- Every SR instruction advances every stream once, after using it. -/
def srUsed (w : Nat) (c : Ctx) : Ctx := if fRnd w then { c with sr := srAdvance c.tabor c.sr } else c

def opVcvtn (w : Nat) (c : Ctx) : Res :=
  match Elt.ofCode (fType w) with
  | none => .error Config.invalidDescriptor
  | some t =>
    let j := fRs2 w % 8
    let src := lanes 32 (c.readV (fRs1 w))
    let old := elts t (c.readV (fRd w))
    let val := fun i => if fFunc2 w = 0 then decodeF Fmt.fp32 (src.getD i 0) else FVal.ofInt (toSigned 32 (src.getD i 0))
    let new := (List.range t.count).map fun i =>
      if 16 * j ≤ i ∧ i < 16 * j + 16 ∧ elemEn c (fPred w) t i = true then
        t.convert (rndOf w) (srValue c.sr i) (val (i - 16 * j))
      else old.getD i 0
    .ok (srUsed w (c.writeV (fRd w) (packElts t (c.readV (fRd w)) new)))

def opVcvtw (w : Nat) (c : Ctx) : Res :=
  match Elt.ofCode (fType w) with
  | none => .error Config.invalidDescriptor
  | some t =>
    let j := fRs2 w % 8
    let src := elts t (c.readV (fRs1 w))
    let old := lanes 32 (c.readV (fRd w))
    .ok (c.writeV (fRd w) (packV 32 ((List.range 16).map fun i =>
      if predBit c (fPred w) i then
        (if t.count ≤ 16 * j + i then 0
         else if fFunc2 w = 0 then encodeF Fmt.fp32 (t.value (src.getD (16 * j + i) 0))
         else Elt.int32.convert .rne 0 (t.value (src.getD (16 * j + i) 0)))
      else old.getD i 0)))

def opVmxq (w : Nat) (c : Ctx) : Res :=
  match Elt.ofCode (fType w) with
  | none => .error Config.invalidDescriptor
  | some t =>
    let j := fRs2 w % 4
    let vals := (lanes 32 (c.readV (fRs1 w)) ++ lanes 32 (c.readV (fRs1 w + 1))).map (decodeF Fmt.fp32)
    let q := mxQuantise t (rndOf w) (fun i => srValue c.sr (32 * j + i)) vals
    let bits := 32 * t.width
    let old := (c.readV (fRd w)).toNat
    let lo := old % 2 ^ (bits * j)
    let hi := old / 2 ^ (bits * (j + 1))
    let kept := fun i => (old / 2 ^ (t.width * (32 * j + i))) % 2 ^ t.width
    let codes := q.2.zipIdx.map fun (b, i) => if elemEn c (fPred w) t (32 * j + i) then b else kept i
    let v := lo + 2 ^ (bits * j) * (packNat t.width codes + 2 ^ bits * hi)
    let x := (c.readX (fRd w)).toNat
    let x' := x % 256 ^ j + 256 ^ j * (q.1 + 256 * (x / 256 ^ (j + 1)))
    .ok (srUsed w ((c.writeV (fRd w) (BitVec.ofNat 512 v)).writeX (fRd w) (BitVec.ofNat 64 x')))

/-- The operation of VRED on two partial values. -/
def vredOp (f2 : Nat) (t : Elt) : Nat → Nat → Nat :=
  if t = .fp32 then (match f2 with
    | 0 => add32
    | 1 => fmaxF Fmt.fp32
    | _ => fminF Fmt.fp32)
  else (match f2 with
    | 0 => fun a b => (a + b) % 2 ^ 32
    | 1 => vmmElt 1 .int32
    | _ => vmmElt 0 .int32)

/-- The identity that a disabled lane enters the tree with. -/
def vredId (f2 : Nat) (t : Elt) : Nat :=
  if t = .fp32 then (match f2 with
    | 0 => 0x80000000
    | 1 => 0xFF800000
    | _ => 0x7F800000)
  else (match f2 with
    | 0 => 0
    | 1 => 0x80000000
    | _ => 0x7FFFFFFF)

def opVred (w : Nat) (c : Ctx) : Res :=
  match Elt.ofCode (fType w) with
  | none => .error Config.invalidDescriptor
  | some t =>
    let l := (lanes 32 (c.readV (fRs1 w))).zipIdx.map fun (v, i) =>
      if predBit c (fPred w) i then v else vredId (fFunc2 w) t
    .ok (c.writeV (fRd w) (packV 32 ((tree16 (vredOp (fFunc2 w) t) l).take 1)))

def opVredc (w : Nat) (c : Ctx) : Res :=
  let s := lanes 32 (c.readV (fRs1 w))
  let k := lanes 32 (c.readV (fRs2 w))
  let l := (List.range 16).map fun i =>
    if predBit c (fPred w) i then (s.getD i 0, k.getD i 0) else (0x80000000, 0x80000000)
  match tree16 compJoin l with
  | (a, b) :: _ => .ok (c.writeV (fRd w) (packV 32 [a, b]))
  | [] => .ok c

def opVcadd (w : Nat) (c : Ctx) : Res :=
  let x := lanes 32 (c.readV (fRs1 w))
  let s := lanes 32 (c.readV (fRd w))
  let k := lanes 32 (c.readV (fRd w + 1))
  let r := (List.range 16).map fun i =>
    if predBit c (fPred w) i then compAdd (s.getD i 0) (k.getD i 0) (x.getD i 0) else (s.getD i 0, k.getD i 0)
  .ok ((c.writeV (fRd w) (packV 32 (r.map Prod.fst))).writeV (fRd w + 1) (packV 32 (r.map Prod.snd)))

def opVperm (w : Nat) (c : Ctx) : Res :=
  let wd := if fFunc2 w = 1 then 8 else 32
  let a := lanes wd (c.readV (fRs1 w))
  let b := lanes wd (c.readV (fRs2 w))
  let old := lanes wd (c.readV (fRd w))
  let pick := fun i => match fFunc2 w with
    | 0 => a.getD (b.getD i 0 % 16) 0
    | 1 => a.getD (b.getD i 0 % 64) 0
    | 2 => if i % 2 = 0 then a.getD (i / 2) 0 else b.getD (i / 2) 0
    | _ => if i < 8 then a.getD (2 * i) 0 else a.getD (2 * (i - 8) + 1) 0
  .ok (c.writeV (fRd w) (packV wd ((List.range (512 / wd)).map fun i =>
    if predBit c (fPred w) i then pick i else old.getD i 0)))

/-! Chime (R432, R433). -/

/-- The parameters of a configuration block, with its prefix bytes, or none where the block is refused. -/
def chimeBlock (b : List Byte) : Option (CrcPar × List Byte) :=
  let f := leField b 2 1
  let par : CrcPar :=
    { width := leField b 1 1, poly := leField b 8 8, init := leField b 16 8, xorout := leField b 24 8,
      refin := bitOf f 0, refout := bitOf f 1 }
  let pre := bitOf f 2
  if 8 ≤ f ∨ leField b 3 5 ≠ 0 ∨ leField b 40 8 ≠ 0 ∨ (pre = false ∧ leField b 32 8 ≠ 0) then none
  else
    match crcSelect (leField b 0 1) par with
    | some p => some (p, if pre then slice b 32 8 else [])
    | none => none

def opChmInit (w : Nat) (c : Ctx) : Res :=
  match c.readS (c.readX (fRs1 w)).toNat 48 with
  | none => .error Config.accessDenied
  | some b =>
    match chimeBlock b with
    | none => .error Config.invalidDescriptor
    | some (p, pre) => .ok { c with chime := some ⟨p, crcFeed p p.init pre⟩ }

def chimeFeed (c : Ctx) (bs : List Byte) : Res :=
  match c.chime with
  | none => .error Config.invalidDescriptor
  | some h => .ok { c with chime := some { h with reg := crcFeed h.par h.reg bs } }

/-- A count of 0 has no effect, but an UPD before the first INIT ends the program (R433). -/
def opChmUpd (w : Nat) (c : Ctx) : Res :=
  let n := (c.readX (fRs2 w)).toNat
  if c.chime.isNone then .error Config.invalidDescriptor
  else if n = 0 then .ok c
  else if c.scratchBytes < n then .error Config.accessDenied
  else
    match c.readS (c.readX (fRs1 w)).toNat n with
    | none => .error Config.accessDenied
    | some bs => chimeFeed c bs

def opChmVupd (w : Nat) (c : Ctx) : Res := chimeFeed c (vecBytes (c.readV (fRs2 w)))

def opChmFin (w : Nat) (c : Ctx) : Res :=
  match c.chime with
  | none => .error Config.invalidDescriptor
  | some h => .ok (c.writeX (fRd w) (BitVec.ofNat 64 (crcValue h.par h.reg)))

/-! Control operations that touch only the context. -/

def opNop (_ : Nat) (c : Ctx) : Res := .ok c
def opTime (now : Nat) (w : Nat) (c : Ctx) : Res := .ok (c.writeX (fRd w) (BitVec.ofNat 64 now))
/-- The fuel that remains once this instruction's own unit has been taken. -/
def opFuel (w : Nat) (c : Ctx) : Res := .ok (c.writeX (fRd w) (BitVec.ofNat 64 c.fuel))
def opSrseed (w : Nat) (c : Ctx) : Res :=
  .ok { c with sr := (List.range 16).map fun i =>
    ((c.readX (fRs1 w)).toNat + i * (c.readX (fRs2 w)).toNat) % 2 ^ 64 }
def opTabor (w : Nat) (c : Ctx) : Res := .ok (c.writeX (fRd w) (BitVec.ofNat 64 c.tabor))

/-! Packet operations of a Gale program (R138, R150). -/

/-- The packet as the program sees it: header bytes, then payload. -/
def opPktLd (w : Nat) (c : Ctx) : Res :=
  let a := (c.readX (fRs1 w)).toNat
  let p := c.head ++ c.body
  if a + 8 ≤ p.length then .ok (c.writeX (fRd w) (BitVec.ofNat 64 (leField p a 8))) else .error Config.accessDenied

def opPktSt (w : Nat) (c : Ctx) : Res :=
  let a := (c.readX (fRs1 w)).toNat
  if a + 8 ≤ c.body.length then
    .ok { c with body := c.body.take a ++ leBytes 8 (c.readX (fRs2 w)).toNat ++ c.body.drop (a + 8) }
  else .error Config.accessDenied

def opPktLen (w : Nat) (c : Ctx) : Res := .ok (c.writeX (fRd w) (BitVec.ofNat 64 c.body.length))

/-- The operations that touch only the context, for the pure interpreter of service calls. -/
def pureOp (now : Nat) : Op → Option (Nat → Ctx → Res)
  | .add => some opAdd | .sub => some opSub | .and => some opAnd | .or => some opOr | .xor => some opXor
  | .sll => some opSll | .srl => some opSrl | .sra => some opSra | .slt => some opSlt | .sltu => some opSltu
  | .min => some opMin | .max => some opMax | .minu => some opMinu | .maxu => some opMaxu
  | .seq => some opSeq | .sne => some opSne
  | .addi => some opAddi | .andi => some opAndi | .ori => some opOri | .xori => some opXori
  | .slli => some opSlli | .srli => some opSrli | .srai => some opSrai | .slti => some opSlti
  | .lui => some opLui | .mul => some opMul | .mulh => some opMulh | .mulhu => some opMulhu
  | .div => some opDiv | .divu => some opDivu | .rem => some opRem | .remu => some opRemu
  | .pset => some opPset | .pget => some opPget | .pand => some opPand | .por => some opPor | .pnot => some opPnot
  | .beq => some opBeq | .bne => some opBne | .blt => some opBlt | .bge => some opBge
  | .bltu => some opBltu | .bgeu => some opBgeu | .j => some opJ | .call => some opCall | .ret => some opRet
  | .lds => some opLds | .sts => some opSts | .vlds => some opVlds | .vsts => some opVsts
  | .vgath => some opVgath | .vscat => some opVscat | .vlut => some opVlut
  | .vadd => some opVadd | .vlog => some opVlog | .vmm => some opVmm | .vsh => some opVsh | .vcmp => some opVcmp
  | .vbcast => some opVbcast | .vmov => some opVmov | .vsel => some opVsel | .vext => some opVext
  | .vfadd => some opVfadd | .vfmul => some opVfmul | .vfma => some opVfma | .vdot => some opVdot
  | .vcvtn => some opVcvtn | .vcvtw => some opVcvtw | .vmxq => some opVmxq | .vred => some opVred
  | .vredc => some opVredc | .vcadd => some opVcadd | .vperm => some opVperm
  | .yield => some opNop | .nop => some opNop | .time => some (opTime now) | .fuel => some opFuel
  | .srseed => some opSrseed | .taborOp => some opTabor
  | .fencePub => some opNop | .fenceAcq => some opNop | .fenceFab => some opNop
  | _ => none

/-- A service's call of a program: it runs until END, or ends with a status (R158). -/
def runPure (now : Nat) : Nat → Ctx → Res
  | 0, _ => .error Config.fuelExhausted
  | n + 1, c =>
    if c.fuel = 0 then .error Config.fuelExhausted
    else
      match c.code[c.pc]? with
      | none => .error Config.invalidDescriptor
      | some w =>
        let c := { c with pc := c.pc + 1, fuel := c.fuel - 1 }
        match opOf w with
        | none => .error Config.invalidDescriptor
        | some .endOp => .ok c
        | some op =>
          match pureOp now op with
          | none => .error Config.accessDenied
          | some f =>
            match f w c with
            | .ok c => runPure now n c
            | .error e => .error e

end Sys2Proof.Machine
end

