-- ==== Sys2Proof/Machine/Sha.lean ====
section
/-!
DEFINITION. SHA-384 and the verification of ECDSA P-384 signatures, which the spec names by their standards
(R146, R547, R551, R553, R558). PRESUMED: both are the functions of FIPS 180-4 and FIPS 186-5; log entry 16.
-/

namespace Sys2Proof.Machine

/-- A number that is evaluated before it is passed on. -/
def forced {α : Type} (n : Nat) (k : Nat → α) : α :=
  match n with
  | 0 => k 0
  | m + 1 => k (m + 1)

/-- The number of bytes, most significant first. -/
def beNat (bs : List Byte) : Nat := bs.foldl (fun n b => forced (256 * n + b.toNat) id) 0

/-- `n` bytes of a number, most significant first. -/
def beBytes (n v : Nat) : List Byte := (List.range n).map fun i => BitVec.ofNat 8 (v / 2 ^ (8 * (n - 1 - i)))

/-! SHA-384. -/

/-- Bits of a word rotated right. -/
def rotr64 (n x : Nat) : Nat := Nat.lor (Nat.shiftRight x n) (x % 2 ^ n * 2 ^ (64 - n))

/-- The constants of the 80 rounds. -/
def shaK : List Nat :=
  [0x428A2F98D728AE22, 0x7137449123EF65CD, 0xB5C0FBCFEC4D3B2F, 0xE9B5DBA58189DBBC] ++
  [0x3956C25BF348B538, 0x59F111F1B605D019, 0x923F82A4AF194F9B, 0xAB1C5ED5DA6D8118] ++
  [0xD807AA98A3030242, 0x12835B0145706FBE, 0x243185BE4EE4B28C, 0x550C7DC3D5FFB4E2] ++
  [0x72BE5D74F27B896F, 0x80DEB1FE3B1696B1, 0x9BDC06A725C71235, 0xC19BF174CF692694] ++
  [0xE49B69C19EF14AD2, 0xEFBE4786384F25E3, 0x0FC19DC68B8CD5B5, 0x240CA1CC77AC9C65] ++
  [0x2DE92C6F592B0275, 0x4A7484AA6EA6E483, 0x5CB0A9DCBD41FBD4, 0x76F988DA831153B5] ++
  [0x983E5152EE66DFAB, 0xA831C66D2DB43210, 0xB00327C898FB213F, 0xBF597FC7BEEF0EE4] ++
  [0xC6E00BF33DA88FC2, 0xD5A79147930AA725, 0x06CA6351E003826F, 0x142929670A0E6E70] ++
  [0x27B70A8546D22FFC, 0x2E1B21385C26C926, 0x4D2C6DFC5AC42AED, 0x53380D139D95B3DF] ++
  [0x650A73548BAF63DE, 0x766A0ABB3C77B2A8, 0x81C2C92E47EDAEE6, 0x92722C851482353B] ++
  [0xA2BFE8A14CF10364, 0xA81A664BBC423001, 0xC24B8B70D0F89791, 0xC76C51A30654BE30] ++
  [0xD192E819D6EF5218, 0xD69906245565A910, 0xF40E35855771202A, 0x106AA07032BBD1B8] ++
  [0x19A4C116B8D2D0C8, 0x1E376C085141AB53, 0x2748774CDF8EEB99, 0x34B0BCB5E19B48A8] ++
  [0x391C0CB3C5C95A63, 0x4ED8AA4AE3418ACB, 0x5B9CCA4F7763E373, 0x682E6FF3D6B2B8A3] ++
  [0x748F82EE5DEFB2FC, 0x78A5636F43172F60, 0x84C87814A1F0AB72, 0x8CC702081A6439EC] ++
  [0x90BEFFFA23631E28, 0xA4506CEBDE82BDE9, 0xBEF9A3F7B2C67915, 0xC67178F2E372532B] ++
  [0xCA273ECEEA26619C, 0xD186B8C721C0C207, 0xEADA7DD6CDE0EB1E, 0xF57D4F7FEE6ED178] ++
  [0x06F067AA72176FBA, 0x0A637DC5A2C898A6, 0x113F9804BEF90DAE, 0x1B710B35131C471B] ++
  [0x28DB77F523047D84, 0x32CAAB7B40C72493, 0x3C9EBE0A15C9BEBC, 0x431D67C49C100D4C] ++
  [0x4CC5D4BECB3E42B6, 0x597F299CFC657E2A, 0x5FCB6FAB3AD6FAEC, 0x6C44198C4A475817]

/-- The hash value before the first block. -/
def shaH : List Nat :=
  [0xCBBB9D5DC1059ED8, 0x629A292A367CD507, 0x9159015A3070DD17, 0x152FECD8F70E5939] ++
  [0x67332667FFC00B31, 0x8EB44A8768581511, 0xDB0C2E0D64F98FA7, 0x47B5481DBEFA4FA4]

/-- The eight working words. -/
structure Sha where
  a : Nat
  b : Nat
  c : Nat
  d : Nat
  e : Nat
  f : Nat
  g : Nat
  h : Nat

/-- The word of the message schedule that follows a window of sixteen. -/
def shaNext (w : List Nat) : Nat :=
  let x := w.getD 1 0
  let y := w.getD 14 0
  (w.getD 0 0 + Nat.xor (Nat.xor (rotr64 1 x) (rotr64 8 x)) (Nat.shiftRight x 7) + w.getD 9 0 +
    Nat.xor (Nat.xor (rotr64 19 y) (rotr64 61 y)) (Nat.shiftRight y 6)) % 2 ^ 64

/-- The rounds on a window of the schedule. -/
def shaRounds : List Nat → List Nat → Sha → Sha
  | [], _, s => s
  | k :: ks, w, s =>
    forced ((s.h + Nat.xor (Nat.xor (rotr64 14 s.e) (rotr64 18 s.e)) (rotr64 41 s.e) +
      Nat.xor (Nat.land s.e s.f) (Nat.land (2 ^ 64 - 1 - s.e) s.g) + k + w.headD 0) % 2 ^ 64) fun t1 =>
    forced ((t1 + Nat.xor (Nat.xor (rotr64 28 s.a) (rotr64 34 s.a)) (rotr64 39 s.a) +
      Nat.xor (Nat.xor (Nat.land s.a s.b) (Nat.land s.a s.c)) (Nat.land s.b s.c)) % 2 ^ 64) fun a =>
    forced ((s.d + t1) % 2 ^ 64) fun e =>
    forced (shaNext w) fun x => shaRounds ks (w.tail ++ [x]) ⟨a, s.a, s.b, s.c, e, s.e, s.f, s.g⟩

/-- One block of 16 words. -/
def shaBlock (h : List Nat) (w : List Nat) : List Nat :=
  let s := shaRounds shaK w ⟨h.getD 0 0, h.getD 1 0, h.getD 2 0, h.getD 3 0, h.getD 4 0, h.getD 5 0, h.getD 6 0, h.getD 7 0⟩
  (h.zip [s.a, s.b, s.c, s.d, s.e, s.f, s.g, s.h]).map fun x => (x.1 + x.2) % 2 ^ 64

/-- The words of `n` times eight bytes. -/
def shaWords : Nat → List Byte → List Nat
  | 0, _ => []
  | n + 1, bs => beNat (bs.take 8) :: shaWords n (bs.drop 8)

/-- `n` blocks of a padded message. -/
def shaBlocks : Nat → List Nat → List Byte → List Nat
  | 0, h, _ => h
  | n + 1, h, bs => shaBlocks n (shaBlock h (shaWords 16 (bs.take 128))) (bs.drop 128)

/-- SHA-384 of a byte string, as 48 bytes. PRESUMED: log entry 16. -/
def sha384 (m : List Byte) : List Byte :=
  let pad := (239 - m.length % 128) % 128
  let p := m ++ (0x80 : Byte) :: List.replicate pad 0 ++ beBytes 16 (8 * m.length)
  ((shaBlocks (p.length / 128) shaH p).take 6).flatMap fun x => beBytes 8 x

/-! ECDSA over the curve P-384. -/

/-- The prime of the field. -/
def p384 : Nat := 2 ^ 384 - 2 ^ 128 - 2 ^ 96 + 2 ^ 32 - 1

/-- The order of the group. -/
def n384 : Nat :=
  0xFFFFFFFFFFFFFFFFFFFFFFFFFFFFFFFFFFFFFFFFFFFFFFFFC7634D81F4372DDF581A0DB248B0A77AECEC196ACCC52973

/-- The constant of the curve equation. -/
def b384 : Nat :=
  0xB3312FA7E23EE7E4988E056BE3F82D19181D9C6EFE8141120314088F5013875AC656398D8A2ED19D2A85C8EDD3EC2AEF

/-- A point in Jacobian coordinates: x over z squared, y over z cubed, infinity where z is 0. -/
structure JPoint where
  x : Nat
  y : Nat
  z : Nat

/-- The base point. -/
def g384 : JPoint :=
  ⟨0xAA87CA22BE8B05378EB1C71EF320AD746E1D3B628BA79B9859F741E082542A385502F25DBF55296C3A545E3872760AB7,
   0x3617DE4A96262C6F5D9E98BF9292DC29F8F41DBD289A147CE9DA3113B5F0B8C00A60B1CE1D7E819D7A431D7C90EA0E5F, 1⟩

/-- Twice a point. -/
def JPoint.dbl (q : JPoint) : JPoint :=
  forced (q.z * q.z % p384) fun zz =>
  forced (3 * (q.x + p384 - zz) * (q.x + zz) % p384) fun m =>
  forced (q.y * q.y % p384) fun yy =>
  forced (4 * q.x * yy % p384) fun t =>
  forced ((m * m + 2 * (p384 - t)) % p384) fun x =>
  forced ((m * (t + p384 - x) + 8 * (p384 - yy * yy % p384)) % p384) fun y =>
  forced (2 * q.y * q.z % p384) fun z => ⟨x, y, z⟩

/-- The sum of two points. -/
def JPoint.add (q r : JPoint) : JPoint :=
  if q.z = 0 then r
  else if r.z = 0 then q
  else
    forced (q.z * q.z % p384) fun qz =>
    forced (r.z * r.z % p384) fun rz =>
    forced (q.x * rz % p384) fun u =>
    forced (q.y * rz * r.z % p384) fun v =>
    forced ((r.x * qz + (p384 - u)) % p384) fun h =>
    forced ((r.y * qz * q.z + (p384 - v)) % p384) fun w =>
    if h = 0 then (if w = 0 then q.dbl else ⟨1, 1, 0⟩)
    else
      forced (h * h % p384) fun hh =>
      forced (h * hh % p384) fun hhh =>
      forced (u * hh % p384) fun t =>
      forced ((w * w + (p384 - hhh) + 2 * (p384 - t)) % p384) fun x =>
      forced ((w * (t + p384 - x) + v * (p384 - hhh)) % p384) fun y =>
      forced (q.z * r.z * h % p384) fun z => ⟨x, y, z⟩

/-- `a` times the base point plus `b` times a point, from bit `n - 1` down. -/
def p384Sum (a b : Nat) (q both : JPoint) : Nat → JPoint → JPoint
  | 0, acc => acc
  | n + 1, acc =>
    let d := acc.dbl
    p384Sum a b q both n (match Nat.testBit a n, Nat.testBit b n with
      | false, false => d
      | true, false => d.add g384
      | false, true => d.add q
      | true, true => d.add both)

/-- `x` to the power `e` modulo `m`, from bit `n - 1` of the exponent down. -/
def powModBits (x e m : Nat) : Nat → Nat → Nat
  | 0, acc => acc
  | n + 1, acc => forced (acc * acc % m * (if Nat.testBit e n then x else 1) % m) fun a => powModBits x e m n a

/-- The inverse of a number modulo a prime of 384 bits. -/
def invMod (x m : Nat) : Nat := powModBits (x % m) (m - 2) m 384 1

/-- A signature of 96 bytes, r then s, verifies over SHA-384 of the message with an uncompressed key of 97 bytes.
PRESUMED: log entry 16. -/
def ecdsaVerify (key msg sig : List Byte) : Bool :=
  let x := beNat (slice key 1 48)
  let y := beNat (slice key 49 48)
  let r := beNat (slice sig 0 48)
  let t := beNat (slice sig 48 48)
  if key.length ≠ 97 ∨ sig.length ≠ 96 ∨ key.headD 0 ≠ 4 ∨ p384 ≤ x ∨ p384 ≤ y ∨
      y * y % p384 ≠ (x * x * x + (p384 - 3) * x + b384) % p384 ∨ r = 0 ∨ n384 ≤ r ∨ t = 0 ∨ n384 ≤ t then false
  else
    forced (invMod t n384) fun i =>
    forced (beNat (sha384 msg) * i % n384) fun a =>
    forced (r * i % n384) fun b =>
    let q := p384Sum a b ⟨x, y, 1⟩ (g384.add ⟨x, y, 1⟩) 384 ⟨1, 1, 0⟩
    let zi := invMod q.z p384
    q.z ≠ 0 && q.x * (zi * zi % p384) % p384 % n384 == r

end Sys2Proof.Machine
end

