-- ==== Sys2Proof/Machine/Verify.lean ====
section
/-!
DEFINITION. The program image and its verification (R145–R148, R579).
-/

namespace Sys2Proof.Machine

/-- Whether every field that an operation does not use is zero (R146, RESERVED_FIELD).
DEDUCED: log entry 116. -/
def reservedZero (op : Op) (w : Nat) : Bool :=
  let rd0 := fRd w == 0
  let a0 := fRs1 w == 0
  let b0 := fRs2 w == 0
  let p0 := fPred w == 0
  let m0 := fMPred w == 0
  match op with
  | .slli | .srli | .srai => bitsOf w 31 26 == 0
  | .addi | .andi | .ori | .xori | .slti | .lui => true
  | .pset | .pget | .pnot => b0 && p0
  | .ret => fFunc w == 0 && rd0 && a0 && b0 && p0
  | .fencePub | .fenceAcq | .fenceFab | .endOp | .yield | .nop | .pktPass | .pktReject =>
    rd0 && a0 && b0 && p0
  | .beq | .bne | .blt | .bge | .bltu | .bgeu => true
  | .j | .call => rd0
  | .lds | .sts | .vlds | .ldg | .stg | .vldg | .ldacq => m0
  | .vsts | .vstg | .vgath | .vscat => true
  | .vlut => fFunc w == 0
  | .rld | .vrld | .pktLd | .odRd => b0 && p0
  | .rst | .rstf | .vrst | .chmUpd | .srseed | .waitf | .pktSt | .odWr => rd0 && p0
  | .copy | .chmInit | .odEvent => rd0 && b0 && p0
  | .chmVupd => rd0 && a0 && p0
  | .chmFin | .time | .fuel | .taborOp | .pktLen => a0 && b0 && p0
  | .vbcast | .vmov | .vext | .vred | .vcadd => b0
  | .vperm => fFunc2 w != 3 || b0
  | .vcvtn | .vcvtw => decide (fRs2 w < 8)
  | .vmxq => decide (fRs2 w < 4)
  | .vadd | .vlog | .vmm | .vsh | .vcmp | .vsel | .vfadd | .vfmul | .vfma | .vdot | .vredc => true
  | _ => p0

/-- Whether every register field names a register of the profile (R146, REGISTER).
DEDUCED: log entry 116. -/
def registersOk (op : Op) (profile w : Nat) : Bool :=
  let predField : Nat :=
    match op with
    | .vsts | .vstg => fMPred w
    | .vgath | .vscat | .vlut | .vadd | .vlog | .vmm | .vsh | .vcmp | .vbcast | .vmov | .vsel | .vext
    | .vfadd | .vfmul | .vfma | .vdot | .vcvtn | .vcvtw | .vmxq | .vred | .vredc | .vcadd | .vperm => fPred w
    | _ => 0
  let gale := profile != 1 || (predField == 0 && (op != .vcmp || fRd w == 0))
  let own : Bool :=
    match op with
    | .pset => decide (fRd w < 8)
    | .pget => decide (fRs1 w < 8)
    | .vcmp => decide (fRd w < 8)
    | .pand | .por => decide (fRd w < 8) && decide (fRs1 w < 8) && decide (fRs2 w < 8)
    | .pnot => decide (fRd w < 8) && decide (fRs1 w < 8)
    | .ratom | .rld | .rst | .rstf | .vrld | .vrst => fRs1 w % 2 == 0
    | .vmxq => decide (fRs1 w ≤ 30)
    | .vcadd => fRd w % 2 == 0 && decide (fRd w ≤ 30)
    | _ => true
  gale && own

/-- The index that a branch, J or CALL at `i` goes to. -/
def targetOf (op : Op) (w i : Nat) : Option Int :=
  match op with
  | .beq | .bne | .blt | .bge | .bltu | .bgeu => some ((i : Int) + fOff12 w)
  | .j | .call => some ((i : Int) + fImm20 w)
  | _ => none

/-- Where control may go from `i` within one level of calls: a CALL counts as returning. -/
def flowNext (code : List Nat) (i : Nat) : List Nat :=
  match code[i]? with
  | none => []
  | some w =>
    match opOf w with
    | none => []
    | some op =>
      match op with
      | .endOp | .ret | .pktPass | .pktReject => []
      | .j => (targetOf op w i).elim [] fun t => [t.toNat]
      | .beq | .bne | .blt | .bge | .bltu | .bgeu => (i + 1) :: (targetOf op w i).elim [] fun t => [t.toNat]
      | _ => [i + 1]

/-- The target of a CALL at `i`. -/
def callAt (code : List Nat) (i : Nat) : Option Nat :=
  match code[i]? with
  | none => none
  | some w => if opOf w = some .call then (targetOf .call w i).map Int.toNat else none

/-- The places reachable along `next` from those of `todo`. -/
def reachFrom (next : Nat → List Nat) : Nat → List Nat → NSet → NSet
  | 0, _, seen => seen
  | _, [], seen => seen
  | n + 1, i :: todo, seen =>
    if seen.mem i then reachFrom next n todo seen else reachFrom next n (next i ++ todo) (seen.add i)

def reachLevel (code : List Nat) (starts : List Nat) : NSet :=
  reachFrom (flowNext code) (3 * code.length + starts.length + 1) starts []

/-- Reachable with calls followed as well. -/
def reachAll (code : List Nat) (starts : List Nat) : NSet :=
  reachFrom (fun i => flowNext code i ++ (callAt code i).toList) (4 * code.length + starts.length + 1) starts []

/-- The call targets inside the functions that start at `fs`. -/
def calledFrom (code : List Nat) (fs : List Nat) : List Nat :=
  ((reachLevel code fs).filterMap fun (i, _) => callAt code i).eraseDups

/-- The functions reached by exactly `n` nested calls from the entry. -/
def callLevel (code : List Nat) (entry : Nat) : Nat → List Nat
  | 0 => [entry]
  | n + 1 => calledFrom code (callLevel code entry n)

/-- The lowest index at which a check fails. -/
def firstBad (code : List Nat) (ok : Nat → Nat → Bool) : Option Nat :=
  ((code.zipIdx.find? fun (w, i) => !ok w i).map Prod.snd)

/-- Limits of a profile: instructions and scratch KiB (R146, R148). -/
def profileLimit (profile : Nat) : Nat × Nat :=
  match profile with
  | 0 => (3072, 53)
  | 1 => (1024, 4)
  | _ => (4096, 8)

def inProfile (op : Op) (profile w : Nat) : Bool :=
  match profile with
  | 0 => (opProfiles op w).1
  | 1 => (opProfiles op w).2.1
  | _ => (opProfiles op w).2.2

/-- The 32-bit words of a byte string. -/
def wordsOf : Nat → List Byte → List Nat
  | 0, _ => []
  | n + 1, bs => leNat (bs.take 4) :: wordsOf n (bs.drop 4)

/-- Verification of R146: the first check that fails with its index, or the parsed image. -/
def verifyImage (tenant fuelMax : Nat) (b : List Byte) : Except (Nat × Nat) Image :=
  let profile := leField b 6 1
  let kind := leField b 7 1
  let count := leField b 8 2
  let entry := leField b 10 2
  let kib := leField b 12 1
  let fuel := leField b 16 4
  let initBytes := leField b 20 4
  if b.length < 128 ∨ leField b 0 4 ≠ 0x31434850 ∨ leField b 4 2 ≠ 1 ∨ 2 < profile ∨ 4 < kind
      ∨ leField b 13 3 ≠ 0 ∨ leField b 80 48 ≠ 0 ∨ b.length ≠ 128 + 4 * count + initBytes then .error (0x01, 0)
  else if sha384 (b.drop 128) ≠ slice b 32 48 then .error (0x02, 0)
  else if count = 0 ∨ (profileLimit profile).1 < count ∨ count ≤ entry then .error (0x03, 0)
  else
    let code := wordsOf count (slice b 128 (4 * count))
    let opAt := fun w => opOf w
    match firstBad code (fun w _ => match opAt w with
      | none => false
      | some op => inProfile op profile w) with
    | some i => .error (0x04, i)
    | none =>
    match firstBad code (fun w _ => (opAt w).elim true fun op => reservedZero op w) with
    | some i => .error (0x05, i)
    | none =>
    match firstBad code (fun w _ => (opAt w).elim true fun op => registersOk op profile w) with
    | some i => .error (0x06, i)
    | none =>
    match firstBad code (fun w i => (opAt w).elim true fun op =>
      (targetOf op w i).elim true fun t => decide (0 ≤ t) && decide (t < count)) with
    | some i => .error (0x07, i)
    | none =>
    match (code.getLast?.bind opAt) with
    | some .endOp | some .j | some .ret | some .pktPass | some .pktReject =>
      match firstBad code (fun _ i => (callAt code i).elim true fun t => !(reachAll code [t]).mem i) with
      | some i => .error (0x09, i)
      | none =>
      match ((reachLevel code (callLevel code entry 8)).find? fun (i, _) => (callAt code i).isSome) with
      | some (i, _) => .error (0x09, i)
      | none =>
      if kib = 0 ∨ (profileLimit profile).2 < kib ∨ 1024 * kib < initBytes then .error (0x0A, 0)
      else if (profile = 0 ∧ 2 < kind) ∨ (profile = 1 ∧ kind ≠ 3) ∨ (profile = 2 ∧ kind ≠ 4)
          ∨ (kind = 0 ∧ fuel ≠ 0) ∨ (kind ≠ 0 ∧ fuel = 0) ∨ (kind = 3 ∧ 4096 < fuel)
          ∨ (kind ≠ 0 ∧ kind ≠ 3 ∧ fuelMax < fuel) then .error (0x0B, 0)
      else
        match ((reachLevel code [entry]).find? fun (i, _) => (code[i]?.bind opAt) = some .ret) with
        | some (i, _) => .error (0x0C, i)
        | none =>
          .ok { tenant := tenant, profile := profile, kind := kind, entry := entry, scratchKib := kib,
                fuelPerCall := fuel, code := code, init := b.drop (128 + 4 * count),
                granules := (b.length + 1023) / 1024, unloading := false }
    | _ => .error (0x08, count - 1)

/-- A context at the entry of an image (R131, R132, R134). -/
def newCtx (id tenant item handle : Nat) (im : Image) (fuel tabor : Nat) (args sr : List Nat) (now : Nat) : Ctx :=
  { id := id, tenant := tenant, item := item, handle := handle, profile := im.profile, code := im.code,
    pc := im.entry, fuel := fuel,
    x := args.zipIdx.foldl (fun m (v, i) => if v % 2 ^ 64 = 0 then m else m.set (10 + i) (BitVec.ofNat 64 v)) [],
    v := [], p := [], ret := [], scratch := Ctx.putBytes [] 0 im.init, scratchBytes := 1024 * im.scratchKib,
    sr := sr, tabor := tabor, chime := none, state := .ready, hold := .none, holdSince := now, sliceStart := now,
    pend := [], pubTags := [], acqTags := [], emptyWrb := false, wrbFrom := 0, wrb := [], ending := none, granules := im.scratchKib + 3, head := [], body := [],
    pkt := none }

end Sys2Proof.Machine
end

