-- ==== Sys2Proof/Machine/Rx.lean ====
section
/-!
DEFINITION. Receiving XLT packets: the checks of R218, receiving paths, the Receive Window Table, and how
an admitted request is performed (R218, R222–R225, R235–R246, R252, R259).
-/

namespace Sys2Proof.Machine

def getRx (s : State) (key : Nat) : Option RxPath := s.fa.rx.get? key
def setRx (key : Nat) (p : RxPath) (s : State) : State := s.setFa { s.fa with rx := s.fa.rx.set key p }
def modRx (key : Nat) (f : RxPath → RxPath) (s : State) : State := s.setFa { s.fa with rx := s.fa.rx.modify key f }

/-! Reports to the sender (R221–R225). -/

/-- The PSN before another. -/
def psnPrev (p : Nat) : Nat := (p + 0xFFFFFFFF) % 0x100000000

/-- Whether APPLIED covers a kind of packet (R225). -/
def appliedKind (k : Nat) : Bool := k = 2 || k = 3 || k = 5 || k = 6

/-- The highest PSN up to which every packet that APPLIED covers has been applied or has failed. -/
def appliedPsn (p : RxPath) : Nat :=
  match p.open_.find? fun o => appliedKind o.pkt.kind with
  | some o => psnPrev o.pkt.psn
  | none =>
    match p.bulk with
    | q :: _ => psnPrev q.psn
    | [] => psnPrev p.expected

def ctlPkt (s : State) (node kind ackPsn : Nat) (ce syn : Bool) : Pkt :=
  stamp s node { noPkt with kind := kind, ackPsn := ackPsn, ceEcho := ce, syn := syn, tc := 7 }

/-- APPLIED is sent when applied packets are unreported (R225). -/
def sendApplied (key : Nat) (s : State) : State :=
  match getRx s key with
  | none => s
  | some p =>
    if p.unreported.isNone then s
    else pushCtl p.sub (ctlPkt s (key / 8) 0x11 (appliedPsn p) false false) (setRx key { p with unreported := none } s)

/-- ACK is sent, with an APPLIED directly after it when one is due (R223, R225). -/
def sendAck (key : Nat) (s : State) : State :=
  match getRx s key with
  | none => s
  | some p =>
    let s := pushCtl p.sub (ctlPkt s (key / 8) 0x20 (psnPrev p.expected) p.ce false) (setRx key { p with unacked := 0, ce := false } s)
    sendApplied key s

/-! Checks 1 to 4 (R218, R222, R223). -/

/-- Checks 1 to 3: the frame is for this device and comes from the node it names. -/
def rxHeader (f : RxFrame) (s : State) : State × Bool :=
  let p := f.pkt
  if !secure s f.sub || !s.alive || s.rc.warmStep ≠ 0 || s.fa.quietUntil.any (fun t => s.now < t) || !f.checksumOk then (s, false)
  else if !f.macsecOk then (macsecDrop f.sub s, false)
  else
    let mine := (s.fa.nrt.get? s.fa.nodeId).any fun e => e.addr = f.dstAddr
    let theirs := (s.fa.nrt.get? p.src).any fun e => e.addr = f.srcAddr
    let direct : Bool := match (getSub s f.sub).neighbour with
      | some nb => nb.maeleth.any fun m => m.1 = p.src
      | none => false
    if !mine || f.udpPort ≠ Par.xltUdpPort s || p.version ≠ 1 || !theirs || (p.kind = 7 && !direct) then
      (xltMalformed f.sub s, false)
    else (s, true)

/-- A new receiving path. -/
def newRx (sub psn : Nat) (prev : Option Nat) (now : Nat) : RxPath :=
  { sub := sub, start := psn, prevStart := prev, expected := psn, unacked := 0, unackedAt := now, ce := false,
    unreported := none, open_ := [], lastAt := now, nakAt := none, fails := [], bulk := [] }

/-- An in-order packet is counted; ACK follows after 8, or at once on a mark (R223). -/
def countPkt (key : Nat) (f : RxFrame) (p : RxPath) (s : State) : State :=
  let p := { p with expected := psnNext p.expected, unacked := p.unacked + 1, sub := f.sub, lastAt := s.now,
                    unackedAt := if p.unacked = 0 then s.now else p.unackedAt, ce := p.ce || f.ce }
  let s := setRx key p s
  if 8 ≤ p.unacked || f.ce then sendAck key s else s

/-- A packet newer than expected is answered with NAK, once per expected PSN and RTO (R223). -/
def sendNak (key : Nat) (f : RxFrame) (p : RxPath) (s : State) : State :=
  if p.nakAt.any fun (e, t) => e = p.expected && s.now < t + 1000 * Par.rtoUs s then s
  else pushCtl f.sub (ctlPkt s (key / 8) 0x21 p.expected (p.ce || f.ce) false)
    (setRx key { p with nakAt := some (p.expected, s.now), ce := false } s)

/-- Check 4: whether a packet is the next of its path (R223). -/
def rxPsn (f : RxFrame) (s : State) : State × Bool :=
  let p := f.pkt
  let key := pathKey p.src p.tc
  match getRx s key with
  | none =>
    if !p.syn then (pushCtl f.sub (ctlPkt s p.src 0x21 p.psn false true) s, false)
    else
      let s := if s.fa.rx.length < 65536 then s
        else match s.fa.rx.first? fun _ r => r.lastAt + 250000000 ≤ s.now && r.open_.isEmpty with
          | some (k, _) => s.setFa { s.fa with rx := s.fa.rx.erase k }
          | none => s
      if 65536 ≤ s.fa.rx.length then (s, false)
      else (countPkt key f (newRx f.sub p.psn none s.now) s, true)
  | some r =>
    let r := { r with lastAt := s.now, ce := r.ce || f.ce }
    if p.syn && p.psn ≠ r.start && r.prevStart ≠ some p.psn then
      (countPkt key f (newRx f.sub p.psn (some r.start) s.now) s, true)
    else if p.syn && p.psn ≠ r.start then (sendAck key (setRx key r s), false)
    else if p.psn = r.expected then (countPkt key f r s, true)
    else if serialLt 32 p.psn r.expected then (sendAck key (setRx key r s), false)
    else (sendNak key f r s, false)

/-! Checks 5 to 9 (R218, R221, R238, R259). -/

/-- Check 5: reserved fields are zero and LEN suits KIND (R221). -/
def lenOk (p : Pkt) : Bool :=
  let n := p.payload.length
  let width := fun (k : Nat) => k = 4 || k = 8 || k = 64
  p.len = n &&
    match p.kind with
    | 1 => n = 2 && width (leNat p.payload)
    | 2 => width n
    | 3 => n = 8
    | 4 => n = 16
    | 5 => 1 ≤ n && n ≤ 8192
    | 6 => 64 ≤ n && n ≤ 8192 && n % 64 = 0
    | 7 => 16 ≤ n && n ≤ 88
    | 0x10 => n ≤ 64
    | 0x11 => n = 0
    | 0x20 => n = 0
    | 0x21 => n = 0
    | _ => false

/-- The tenant bound to a job, under the bindings of the generation that a packet carries (R259). -/
def boundTenant (s : State) (p : Pkt) : Option Nat :=
  if p.gen = s.fa.generation then s.fa.jobs.get? p.job else s.fa.prevJobs.get? p.job

/-- Checks 5 to 8: none, or the status with which the request is refused. -/
def rxEarly (s : State) (p : Pkt) : Option Nat :=
  if p.reserved || !lenOk p then some Config.invalidDescriptor
  else if 3 ≤ s.pw.stage then some Config.shed
  else if p.comp ≠ s.fa.composition then some Config.staleRoute
  else if !(p.gen = s.fa.generation || (s.fa.prevGen = some p.gen && s.now ≤ s.fa.commitAt + 5000000)) then
    some Config.staleRoute
  else
    match boundTenant s p with
    | some t => if (s.tr.tenants.get? t).any (fun x => x.state = 1) then none else some Config.accessDenied
    | none => some Config.accessDenied

def rwtKey (job window : Nat) : Nat := 65536 * job + window

/-- A revocation in progress covers a page of a window's run (R289). -/
def revoking (s : State) (w : Rwt) : Bool :=
  let first := w.base / 0x8000
  let last := (w.base + w.lines - 1) / 0x8000
  s.tr.withdrawals.any fun kv =>
    kv.2.op = 0x11 && kv.2.tenant = w.tenant && first < kv.2.first + kv.2.pages && kv.2.first ≤ last

/-- Check 9 for one access of a window: the PHA, or the status of the first test that fails (R238).
Rights: bit 0 R, 1 W, 2 ATOMIC, 3 FLAG. A window that a revocation closes answers as test 7.
DESIGN CHOICE: log entry 105. -/
def rwtCheck (s : State) (job window right offset len align : Nat) (counter : Option Nat) : Except Nat Nat :=
  match s.fa.rwt.get? (rwtKey job window) with
  | none => .error Config.accessDenied
  | some w =>
    if w.closing && !revoking s w then .error Config.accessDenied
    else if s.rc.deviceState = 1 && right ≠ 0 then .error Config.deviceOutOfService
    else if !bitOf w.rights right then .error Config.accessDenied
    else if w.lines * 64 < offset + len then .error Config.accessDenied
    else if offset % align ≠ 0 then .error Config.invalidDescriptor
    else if counter.any (fun c => c < w.ctrBase || w.ctrBase + w.ctrCount ≤ c) then .error Config.accessDenied
    else if w.closing || revoking s w then .error Config.extentRevoked
    else .ok (w.base * 64 + offset)

/-- Check 9 for a packet other than BULK and COHERENCE. -/
def rxWindow (s : State) (p : Pkt) : Except Nat Nat :=
  let ctr := if p.counted then some p.counter else none
  match p.kind with
  | 1 => rwtCheck s p.job p.window 0 p.offset (leNat p.payload) 1 ctr
  | 3 => rwtCheck s p.job p.window 3 p.offset 8 8 ctr
  | 4 => rwtCheck s p.job p.window 2 p.offset (if p.a64 then 8 else 4) (if p.a64 then 8 else 4) ctr
  | _ => rwtCheck s p.job p.window 1 p.offset p.payload.length 1 ctr

/-! Interception (R345, R419). -/

/-- The open round in whose inbox a PHA lies. -/
def inboxOf (s : State) (pha : Nat) : Option Nat :=
  (s.sv.rounds.first? fun _ r =>
    r.inbox ≤ pha && pha < r.inbox + 64 * r.inboxLines && (!r.finished || s.now < r.holdUntil)).map Prod.fst

/-- The Cumulus store in whose request area a PHA lies. -/
def storeOf (s : State) (pha : Nat) : Option Nat :=
  (s.sv.stores.first? fun _ r => r.reqLines ≠ 0 && r.req ≤ pha && pha < r.req + 64 * r.reqLines).map Prod.fst

def intercepted (s : State) (pha : Nat) : Bool := (inboxOf s pha).isSome || (storeOf s pha).isSome

/-- A write to an intercepted line waits for its home. -/
def interceptWrite (pha : Nat) (whole : Bool) (bytes : List Byte) (w : Writer) (zero : Bool) (s : State) : State :=
  s.setSv { s.sv with
    writes := s.sv.writes.set s.sv.nextWrite { pha := pha, whole := whole, bytes := bytes, writer := w, zero := zero }
    nextWrite := s.sv.nextWrite + 1 }

/-! Requests to homes (R161, R181). -/

/-- The parts of a byte range that lie in one line each: line, byte in the line, bytes, place in the data. -/
def lineParts : Nat → Nat → Nat → Nat → List (Nat × Nat × Nat × Nat)
  | 0, _, _, _ => []
  | fuel + 1, a, len, place =>
    if len = 0 then []
    else
      let n := min len (64 - a % 64)
      (a / 64, a % 64, n, place) :: lineParts fuel (a + n) (len - n) (place + n)

/-- A request whose requester is the home tabor itself, for an access from outside a slice (R181). -/
def ucRequest (line mtype tenant : Nat) (who : CohFor) (ledger : Option (Nat × Nat × Nat)) (m : CohMsg) (s : State) : State :=
  let tag := s.ch.nextTag % 65536
  let t := homeTabor s line
  let m := { m with
    mtype := mtype, src := agentId s.ch.domIndex t, dst := agentId s.ch.domIndex t, tag := tag, line := line,
    dstChip := s.ch.domIndex }
  let r : AgentReq := { tabor := t, chip := s.ch.domIndex, line := line, tag := tag, mtype := mtype, tenant := tenant,
                        who := who, ledger := ledger, msg := m, via := none, held := [] }
  sendMsg none m (s.setCh { s.ch with reqs := s.ch.reqs ++ [r], nextTag := s.ch.nextTag + 1 })

/-- The payload of a WR_UC: a line and its byte mask (R189). -/
def ucPayload (off : Nat) (bytes : List Byte) : List Byte :=
  fitTo (List.replicate off 0 ++ bytes) 64 0 ++ leBytes 8 ((2 ^ bytes.length - 1) * 2 ^ off)

/-! Performing an admitted request (R225, R241, R246, R252). -/

/-- A counter's increment (R252). -/
def bumpCounter (c n : Nat) (s : State) : State :=
  let v := (s.fa.counters.getD c 0 + n) % 2 ^ 64
  s.setFa { s.fa with counters := if v = 0 then s.fa.counters.erase c else s.fa.counters.set c v }

def modOpen (node tc psn : Nat) (f : OpenPkt → OpenPkt) (s : State) : State :=
  modRx (pathKey node tc) (fun p => { p with open_ := p.open_.map fun o => if o.pkt.psn = psn then f o else o }) s

def findOpen (s : State) (node tc psn : Nat) : Option OpenPkt :=
  (getRx s (pathKey node tc)).bind fun p => p.open_.find? fun o => o.pkt.psn = psn

/-- A RESPONSE to a request, on the sub-port by which it came. -/
def sendResponse (sub : Nat) (p : Pkt) (status : Nat) (payload : List Byte) (s : State) : State :=
  pushCtl sub (stamp s p.src { noPkt with kind := 0x10, status := status, ackPsn := p.psn, payload := payload, tc := 7 }) s

/-- The fields EPOCH, STATE and PEER of an ownership word (R261). -/
def ownWord (epoch state peer : Nat) : Nat := epoch % 2 ^ 32 + 2 ^ 32 * state + 2 ^ 48 * peer
def ownEpoch (w : Nat) : Nat := bitsOf w 31 0
def ownState (w : Nat) : Nat := bitsOf w 39 32
def ownPeer (w : Nat) : Nat := bitsOf w 63 48

/-- A remote 64-bit CAS from 0 that leaves PREPARED of the sender's node in a word is the prepare of a
handoff (R262); its record has to be resolved if it stays so (R264). -/
def notePrepared (p : Pkt) (old : Nat) (s : State) : State :=
  let new := leField p.payload 0 8
  if p.aop = 0x11 && p.a64 && old = 0 && leField p.payload 8 8 = 0 && ownState new = 3 && ownPeer new = p.src then
    match s.fa.rwt.get? (rwtKey p.job p.window) with
    | some w =>
      let a := w.base * 64 + p.offset
      if s.fa.prepared.has a then s
      else
        let e : Prepared := { since := s.now, next := s.now + 10000000, node := p.src, tenant := w.tenant, job := p.job,
                              window := p.window, offset := p.offset, word := none }
        s.setFa { s.fa with prepared := s.fa.prepared.set a e }
    | none => s
  else s

/-- A packet has been applied or has failed: its RESPONSE goes, its bytes are counted, its failure is
noted for the flags that follow, and APPLIED becomes due (R225, R241, R252). -/
def endPkt (node tc psn : Nat) (s : State) : State :=
  let key := pathKey node tc
  match getRx s key, findOpen s node tc psn with
  | some r, some o =>
    let p := o.pkt
    let s := modRx key (fun r => { r with
      open_ := r.open_.filter fun x => x.pkt.psn ≠ psn
      unreported := if appliedKind p.kind then r.unreported <|> some s.now else r.unreported
      fails := if p.kind = 3 then r.fails.erase p.job
        else match o.failed with
          | some st => if p.kind = 2 || p.kind = 4 || p.kind = 5 then r.fails.set p.job (r.fails.getD p.job st) else r.fails
          | none => r.fails }) s
    match o.failed with
    | some st =>
      let s := sendResponse r.sub p st [] s
      if p.kind = 5 && p.counted then bumpCounter p.counter o.landed s else s
    | none =>
      match p.kind with
      | 1 => sendResponse r.sub p Config.ok (o.data.flatMap fun kv => kv.2) s
      | 4 =>
        let data := o.data.flatMap fun kv => kv.2
        sendResponse r.sub p o.status data (notePrepared p (leNat data) s)
      | 5 =>
        let s := if p.counted then bumpCounter p.counter o.landed s else s
        if o.reply.isEmpty then s
        else
          let tenant := boundTenant s p
          sendBulk node tc p.job tenant o.reply [] s
      | _ => if p.counted then bumpCounter p.counter p.payload.length s else s
  | _, _ => s

/-- The bytes of one access go to their homes: line by line, or to an interceptor. The number of pieces. -/
def postWrite (node tc psn tenant a : Nat) (bytes : List Byte) (s : State) : Nat × State :=
  let parts := lineParts (bytes.length + 1) a bytes.length 0
  let s := parts.foldl (fun s (line, off, n, place) =>
    let part := slice bytes place n
    if intercepted s (line * 64) then interceptWrite (line * 64 + off) (n = 64) part (.packet node tc psn) false s
    else ucRequest line 0x09 tenant (.packet node tc psn place) none { noMsg with payload := ucPayload off part } s) s
  (parts.length, s)

def postRead (node tc psn tenant a len : Nat) (s : State) : Nat × State :=
  let parts := lineParts (len + 1) a len 0
  let s := parts.foldl (fun s (line, _, _, place) =>
    ucRequest line 0x08 tenant (.packet node tc psn place) none noMsg s) s
  (parts.length, s)

/-- Earlier packets of a path and job, other than copy data and reads, are not all applied (R241). -/
def earlierOpen (r : RxPath) (job psn : Nat) : Bool :=
  r.open_.any fun o => o.pkt.job = job && serialLt 32 o.pkt.psn psn && (o.pkt.kind = 2 || o.pkt.kind = 3 || o.pkt.kind = 4 || o.pkt.kind = 5)

/-- The fields of a record: RKIND, SIZE, WINDOW, OFFSET, RTAG (R245). -/
def recFields (b : List Byte) : Nat × Nat × Nat × Nat × Nat :=
  let v := leField b 0 16
  (bitsOf v 3 0, bitsOf v 14 8, bitsOf v 31 16, bitsOf v 81 32, bitsOf v 105 90)

/-- Whether a record's reserved bits are zero and its SIZE is allowed. -/
def recOk (b : List Byte) : Bool :=
  let v := leField b 0 16
  let (k, n, _, _, _) := recFields b
  bitsOf v 7 4 = 0 && !bitOf v 15 && bitsOf v 127 106 = 0 && (n = 4 || n = 8 || n = 64) && (k = 1 || (k = 2 && n = 8) || k = 3)

/-- The next record of a BULK message is performed; the message ends after the last one (R246). A record
that fails leaves a STATUS record in the reply, and the first failure is that of the message. -/
def nextRecord (node tc psn : Nat) : Nat → State → State
  | 0, s => s
  | fuel + 1, s =>
    match findOpen s node tc psn, getRx s (pathKey node tc) with
    | some o, some r =>
      let b := o.payload.drop o.place
      if b.length < 16 then endPkt node tc psn (modOpen node tc psn (fun o => { o with
          failed := if b.isEmpty then none else some Config.invalidDescriptor }) s)
      else
        let (k, n, window, offset, rtag) := recFields b
        let data := slice b 16 n
        let size := 16 + if k = 1 || k = 2 || k = 4 then (n + 7) / 8 * 8 else 0
        let tenant := (boundTenant s o.pkt).getD 0
        let refuse := fun (st : Nat) (s : State) =>
          nextRecord node tc psn fuel (modOpen node tc psn (fun o => { o with
            place := o.place + size, reply := o.reply ++ recordBytes 5 0 window offset st rtag [] }) s)
        if !recOk b then refuse Config.invalidDescriptor s
        else
          let ctr := if o.pkt.counted then some o.pkt.counter else none
          match rwtCheck s o.pkt.job window (if k = 3 then 0 else if k = 2 then 3 else 1) offset n (if k = 2 then 8 else 1) ctr with
          | .error st => refuse st s
          | .ok a =>
            if k = 3 then
              let (m, s) := postRead node tc psn tenant a n s
              modOpen node tc psn (fun o => { o with stage := 1, left := m, data := [] }) s
            else if k = 2 && earlierOpen r o.pkt.job psn then modOpen node tc psn (fun o => { o with stage := 2 }) s
            else
              let failedBefore := if k = 2 then r.fails.get? o.pkt.job else none
              match failedBefore with
              | some st => refuse st s
              | none =>
                let (m, s) := postWrite node tc psn tenant a data s
                modOpen node tc psn (fun o => { o with stage := 1, left := m }) s
    | _, _ => s

/-- A record has ended: its result joins the reply, and the next one follows. -/
def endRecordOf (node tc psn : Nat) (s : State) : State :=
  match findOpen s node tc psn with
  | none => s
  | some o =>
    let b := o.payload.drop o.place
    let (k, n, window, offset, rtag) := recFields b
    let size := 16 + if k = 1 || k = 2 then (n + 7) / 8 * 8 else 0
    let s := match o.failed with
      | some st =>
        let s := modOpen node tc psn (fun o => { o with
          reply := o.reply ++ recordBytes 5 0 window offset st rtag [], failed := none, place := o.place + size }) s
        modRx (pathKey node tc) (fun r => { r with fails := r.fails.set o.pkt.job (r.fails.getD o.pkt.job st) }) s
      | none => modOpen node tc psn (fun o => { o with
          reply := if k = 3 then o.reply ++ recordBytes 4 n window offset 0 rtag (o.data.flatMap fun kv => kv.2) else o.reply
          landed := if k = 1 then o.landed + n else o.landed
          place := o.place + size }) s
    nextRecord node tc psn 5000 s

/-- An admitted packet is performed: its accesses go to their homes. -/
def performPkt (node tc psn : Nat) (s : State) : State :=
  match findOpen s node tc psn, getRx s (pathKey node tc) with
  | some o, some r =>
    let p := { o.pkt with payload := if o.pkt.kind = 5 then o.pkt.payload else o.payload }
    let tenant := (boundTenant s p).getD 0
    let fail := fun (st : Nat) (s : State) => endPkt node tc psn (modOpen node tc psn (fun o => { o with failed := some st }) s)
    if p.kind = 5 then nextRecord node tc psn 5000 s
    else
      match rxWindow s { p with payload := o.pkt.payload } with
      | .error st => fail st s
      | .ok a =>
        match p.kind with
        | 1 =>
          let (n, s) := postRead node tc psn tenant a (leNat o.pkt.payload) s
          modOpen node tc psn (fun o => { o with stage := 1, left := n }) s
        | 3 =>
          if earlierOpen r p.job psn then modOpen node tc psn (fun o => { o with stage := 2 }) s
          else
            match r.fails.get? p.job with
            | some st => fail st s
            | none =>
              if (inboxOf s a).isSome || (storeOf s a).isSome then fail Config.invalidDescriptor s
              else
                let (n, s) := postWrite node tc psn tenant a p.payload s
                modOpen node tc psn (fun o => { o with stage := 1, left := n }) s
        | 4 =>
          if (inboxOf s a).isSome || (storeOf s a).isSome then fail Config.invalidDescriptor s
          else if !(p.aop ≤ 8 || (0x10 ≤ p.aop && p.aop ≤ 0x12)) then fail Config.invalidDescriptor s
          else
            let s := modOpen node tc psn (fun o => { o with stage := 1, left := 1 }) s
            ucRequest (a / 64) 0x0A tenant (.packet node tc psn 0) (some (p.src, p.job, p.seq))
              { noMsg with aop := p.aop, a64 := p.a64, word := a % 64 / 8, half := a % 8 = 4, payload := p.payload } s
        | _ =>
          let (n, s) := postWrite node tc psn tenant a p.payload s
          modOpen node tc psn (fun o => { o with stage := 1, left := n }) s
  | _, _ => s

/-- One piece of a packet has ended, with a status and the data of a read. -/
def pieceDone (node tc psn place status : Nat) (data : List Byte) (s : State) : State :=
  match findOpen s node tc psn with
  | none => s
  | some o =>
    let s := modOpen node tc psn (fun o => { o with
      left := o.left - 1
      status := if statusOk status then status else o.status
      failed := if statusOk status then o.failed else o.failed <|> some status
      data := if data.isEmpty then o.data else o.data.set place data }) s
    if o.left ≤ 1 then
      if o.pkt.kind = 5 then endRecordOf node tc psn s else endPkt node tc psn s
    else s

/-- FLAG_STORE_RELEASE: every earlier packet of a held flag's path and job has been applied or has
failed: the flag is applied, or refused with the first failure (R241). -/
def execFlagStoreRelease (node tc psn : Nat) (s : State) : Res3 :=
  s.act (
    match findOpen s node tc psn, getRx s (pathKey node tc) with
    | some o, some r =>
      if o.stage ≠ 2 || earlierOpen r o.pkt.job psn then s
      else
        let s := modOpen node tc psn (fun o => { o with stage := 1 }) s
        performPkt node tc psn s
    | _, _ => s)

/-! Gale programs (R150). -/

/-- The 48 header bytes of a packet (R220). -/
def xltHeader (p : Pkt) : List Byte :=
  leBytes 8 (p.version + 2 ^ 4 * p.kind + 2 ^ 10 * p.tc + 2 ^ 13 * b2n p.syn + 2 ^ 14 * b2n p.retx + 2 ^ 15 * b2n p.ceEcho +
    2 ^ 16 * p.src + 2 ^ 32 * p.dst + 2 ^ 48 * p.gen) ++
  leBytes 8 (p.comp + 2 ^ 16 * p.job + 2 ^ 36 * p.window + 2 ^ 52 * p.status + 2 ^ 60 * b2n p.first + 2 ^ 61 * b2n p.last) ++
  leBytes 8 p.offset ++ leBytes 8 (p.psn + 2 ^ 32 * p.ackPsn) ++
  leBytes 8 (p.seq + 2 ^ 32 * p.counter + 2 ^ 50 * b2n p.counted) ++
  leBytes 8 (p.len + 2 ^ 14 * p.aop + 2 ^ 19 * b2n p.a64)

/-- The window to which a packet belongs: that of the first record of a BULK message. -/
def galeWindow (o : OpenPkt) : Nat :=
  if o.pkt.kind = 5 then (recFields o.payload).2.2.1 else o.pkt.window

/-- The program attached to a packet's window. -/
def attached (s : State) (o : OpenPkt) : Option (Nat × Image) :=
  match s.co.attach.get? (rwtKey o.pkt.job (galeWindow o)) with
  | none => none
  | some h => (s.co.images.get? h).map fun im => (h, im)

/-- The next request that waits for a port's Gale processor gets its program run (R150). -/
def galeNext (port : Nat) : Nat → State → State
  | 0, s => s
  | fuel + 1, s =>
    if s.co.gale.has port then s
    else
      match s.fa.galeWait.getD port [] with
      | [] => s
      | (node, tc, psn, h) :: rest =>
        let s := s.setFa { s.fa with galeWait := if rest.isEmpty then s.fa.galeWait.erase port else s.fa.galeWait.set port rest }
        match findOpen s node tc psn with
        | none => galeNext port fuel s
        | some o =>
          match s.co.images.get? h with
          | none => galeNext port fuel (performPkt node tc psn s)
          | some im =>
            let c := newCtx s.co.nextCtx (boundTenant s o.pkt |>.getD 0) 0 h im im.fuelPerCall 0 [] [] s.now
            let c := { c with state := .running, head := xltHeader o.pkt, body := o.payload,
                              pkt := some (node, tc, psn) }
            s.setCo { s.co with gale := s.co.gale.set port c, nextCtx := s.co.nextCtx + 1 }

/-- A packet that has passed the early checks is performed, after the program of its window if one is
attached (R150). -/
def startPkt (sub : Nat) (o : OpenPkt) (s : State) : State :=
  let p := o.pkt
  let s := modRx (pathKey p.src p.tc) (fun r => { r with open_ := r.open_ ++ [o] }) s
  match attached s o with
  | some (h, _) =>
    let port := sub / 2
    galeNext port 4 (s.setFa { s.fa with galeWait := s.fa.galeWait.set port (s.fa.galeWait.getD port [] ++ [(p.src, p.tc, p.psn, h)]) })
  | none => performPkt p.src p.tc p.psn s

def openPkt (p : Pkt) (payload : List Byte) (now : Nat) : OpenPkt :=
  { pkt := p, payload := payload, stage := 0, left := 0, failed := none, status := Config.ok, data := [], place := 0,
    reply := [], landed := 0, since := now }

/-- A received request of one packet: READ, WRITE, FLAG_STORE, ATOMIC or COPY_DATA (R218, R225). -/
def rxRequest (kind : Nat) (f : RxFrame) (s : State) : State :=
  let p := f.pkt
  if p.kind ≠ kind then s
  else
    match rxHeader f s with
    | (s, false) => s
    | (s, true) =>
      match rxPsn f s with
      | (s, false) => s
      | (s, true) =>
        let o := openPkt p p.payload s.now
        match rxEarly s p with
        | some st =>
          let s := modRx (pathKey p.src p.tc) (fun r => { r with open_ := r.open_ ++ [{ o with failed := some st }] }) s
          endPkt p.src p.tc p.psn s
        | none => startPkt f.sub o s

/-- DESIGN CHOICE: log entry 113. -/
def execXltRead (f : RxFrame) (s : State) : Res3 := .next (rxRequest 1 f s)
def execXltWrite (f : RxFrame) (s : State) : Res3 := .next (rxRequest 2 f s)
def execFlagStore (f : RxFrame) (s : State) : Res3 := .next (rxRequest 3 f s)
def execAtomic (f : RxFrame) (s : State) : Res3 := .next (rxRequest 4 f s)
def execCopyData (f : RxFrame) (s : State) : Res3 := .next (rxRequest 6 f s)

/-- The records of a BULK message that answers this device: READ_DATA and STATUS end the requests that
their RTAG names (R246). -/
def bulkReplies (node : Nat) : Nat → List Byte → State → State
  | 0, _, s => s
  | fuel + 1, b, s =>
    if b.length < 16 then s
    else
      let v := leField b 0 16
      let k := bitsOf v 3 0
      let n := bitsOf v 14 8
      let rtag := bitsOf v 105 90
      let size := 16 + if k = 4 then (n + 7) / 8 * 8 else 0
      let req := s.fa.reqs.first? fun m r => r.bulk && r.pkt.dst = node && m % 0x10000 = rtag
      let s := match req with
        | some (m, _) =>
          if k = 4 then finishReq m Config.ok (slice b 16 n) s
          else if k = 5 then finishReq m (bitsOf v 89 82) [] s
          else s
        | none => s
      bulkReplies node fuel (b.drop size) s

/-- BULK: a packet of a message; the message is applied when its last packet has arrived (R246). A message
of replies ends requests of this device. -/
def execBulk (f : RxFrame) (s : State) : Res3 :=
  s.act (
    let p := f.pkt
    let key := pathKey p.src p.tc
    if p.kind ≠ 5 then s
    else
      match rxHeader f s with
      | (s, false) => s
      | (s, true) =>
        match rxPsn f s with
        | (s, false) => s
        | (s, true) =>
          let parts := if p.first then [p] else ((getRx s key).elim [] fun r => r.bulk) ++ [p]
          if !p.last then modRx key (fun r => { r with bulk := parts }) s
          else
            let s := modRx key (fun r => { r with bulk := [] }) s
            let bytes := parts.flatMap fun q => q.payload
            let k := bitsOf (leField bytes 0 16) 3 0
            let o := openPkt p bytes s.now
            match rxEarly s p with
            | some st =>
              let s := modRx key (fun r => { r with open_ := r.open_ ++ [{ o with failed := some st }] }) s
              endPkt p.src p.tc p.psn s
            | none =>
              if k = 4 || k = 5 then
                let s := modRx key (fun r => { r with unreported := r.unreported <|> some s.now }) s
                bulkReplies p.src 5000 bytes s
              else startPkt f.sub o s)

/-- ACK_TIMER: 2 µs after the first unacknowledged packet (R223). -/
def execAckTimer (node tc : Nat) (s : State) : Res3 :=
  s.act (
    match getRx s (pathKey node tc) with
    | none => s
    | some p => if p.unacked = 0 then s else sendAck (pathKey node tc) (s.reach (p.unackedAt + 2000)))

/-- APPLIED_TIMER: at the latest 4 µs after the oldest unreported packet was applied (R225). -/
def execAppliedTimer (node tc : Nat) (s : State) : Res3 :=
  s.act (
    match getRx s (pathKey node tc) with
    | none => s
    | some p =>
      match p.unreported with
      | none => s
      | some t => sendApplied (pathKey node tc) (s.reach (t + 4000)))

/-- RX_PATH_EXPIRY: no packet of a receiving path has arrived for 250 ms: it is freed (R222). -/
def execRxPathExpiry (node tc : Nat) (s : State) : Res3 :=
  s.act (
    match getRx s (pathKey node tc) with
    | none => s
    | some p =>
      if !p.open_.isEmpty then s
      else
        let s := s.reach (p.lastAt + 250000000)
        s.setFa { s.fa with rx := s.fa.rx.erase (pathKey node tc) })

/-- XLT_QUIET_EXPIRY: 250 ms after a chip warm reset was decided, XLT packets are accepted again (R222). -/
def execXltQuietExpiry (s : State) : Res3 :=
  s.act (
    match s.fa.quietUntil with
    | none => s
    | some t =>
      let s := s.reach t
      s.setFa { s.fa with quietUntil := none })

end Sys2Proof.Machine
end

