-- ==== Sys2Proof/Machine/Coh.lean ====
section
/-!
DEFINITION. The messages of coherence, received at homes and at agents, and the timers of a home
(R182–R202).
-/

namespace Sys2Proof.Machine

/-! Reception. -/

/-- A message is taken from the mesh, or from a COHERENCE packet that passes the checks of R218. -/
def cohTake (mtype : Nat) (m : CohMsg) (s : State) : State × Bool :=
  if m.mtype ≠ mtype then (s, false)
  else
    match m.frame with
    | none => if s.ch.net.contains m then (s.setCh { s.ch with net := s.ch.net.erase m }, true) else (s, false)
    | some f =>
      let p := f.pkt
      if p.kind ≠ 7 then (s, false)
      else
        match rxHeader f s with
        | (s, false) => (s, false)
        | (s, true) =>
          match rxPsn f s with
          | (s, false) => (s, false)
          | (s, true) =>
            if p.reserved || !lenOk p then (sendResponse f.sub p Config.invalidDescriptor [] s, false)
            else if p.comp ≠ s.fa.composition || !(p.gen = s.fa.generation || s.fa.prevGen = some p.gen) then
              (sendResponse f.sub p Config.staleRoute [] s, false)
            else (s, true)

/-- A request for a line of this chip reaches its home. One that comes through a window of another chip
of the domain takes check 9 first, with its right (R180); the line is the one that the window gives. -/
def homeReq (mtype : Nat) (right : Option Nat) (m : CohMsg) (s : State) : State :=
  match cohTake mtype m s with
  | (s, false) => s
  | (s, true) =>
    match m.frame, right with
    | some f, some r =>
      let p := f.pkt
      if 3 ≤ s.pw.stage then refuseBackoff m s else
      let refuse := fun (st : Nat) (s : State) => answer m 0x27 st [] s
      match boundTenant s p with
      | none => refuse Config.accessDenied s
      | some t =>
        if !(s.tr.tenants.get? t).any (fun x => x.state = 1) then refuse Config.accessDenied s
        else
          match rwtCheck s p.job p.window r p.offset 1 1 none with
          | .error st => refuse st s
          | .ok a =>
            if mtype ≠ 0x01 && intercepted s a then refuse Config.invalidDescriptor s
            else homeArrive { m with line := a / 64 } s
    | _, _ => homeArrive m s

def execRdS (m : CohMsg) (s : State) : Res3 := s.act (homeReq 0x01 (some 0) m s)
def execRdX (m : CohMsg) (s : State) : Res3 := s.act (homeReq 0x02 (some 1) m s)
def execUpg (m : CohMsg) (s : State) : Res3 := s.act (homeReq 0x03 (some 1) m s)
def execAtomX (m : CohMsg) (s : State) : Res3 := s.act (homeReq 0x04 (some 2) m s)
def execWb (m : CohMsg) (s : State) : Res3 := s.act (homeReq 0x05 none m s)
def execEvictClean (m : CohMsg) (s : State) : Res3 := s.act (homeReq 0x06 none m s)
def execRdUc (m : CohMsg) (s : State) : Res3 := s.act (homeReq 0x08 (some 0) m s)
def execWrUc (m : CohMsg) (s : State) : Res3 := s.act (homeReq 0x09 (some 1) m s)
def execAtomHome (m : CohMsg) (s : State) : Res3 := s.act (homeReq 0x0A (some 2) m s)

/-! The contexts that wait for a line (R183). -/

/-- What an access does with a line that its slice holds: the line's state and data after it, and the data
it takes; none where the state does not suffice. -/
def servePart (l : SliceLine) (k : PendKind) (q : Part) : Option (LState × List Byte × List Byte) :=
  let owned := l.state = .m || l.state = .e
  match k with
  | .loadX _ _ => some (l.state, l.data, slice l.data q.off q.n)
  | .loadV _ => some (l.state, l.data, slice l.data q.off q.n)
  | .store bytes =>
    if owned then
      some (.m, l.data.zipIdx.map fun (b, i) =>
        if q.off ≤ i && i < q.off + q.n then bytes.getD (q.place + (i - q.off)) b else b, [])
    else none
  | .atom _ aop a64 operand compare =>
    if owned then
      let (old, d) := atomOnLine l.data aop a64 q.off operand compare
      some (.m, d, leBytes (if a64 then 8 else 4) old)
    else none
  | .post => none

/-- One access of a context takes its part of a line. -/
def wakeOne (t key id tag : Nat) (s : State) : State :=
  match (findCtx s t id).bind fun c => c.pend.find? fun p => p.tag = tag with
  | none => s
  | some p =>
    match p.done, p.parts.find? fun q => q.key = key, (getSlice s t).get? key with
    | none, some q, some l =>
      match servePart l p.kind q with
      | none => s
      | some (st, data, got) =>
        let (n, s) := useNo s
        let s := setSlice t ((getSlice s t).set key { l with state := st, data := data, last := n }) s
        let p' := { p with parts := p.parts.filter (· ≠ q), got := if got.isEmpty then p.got else p.got.set q.place got }
        let s := modCtx t id (fun c => { c with pend := c.pend.map fun x => if x.tag = tag then p' else x }) s
        if p'.parts.isEmpty then pendDone t id tag Config.ok (p'.got.flatMap fun kv => kv.2) s else s
    | _, _, _ => s

/-- The accesses of a tabor's contexts, oldest first. -/
def pendsOf (s : State) (t : Nat) : List (Nat × Nat) :=
  (getTab s t).ctxs.flatMap fun c => c.pend.map fun p => (c.id, p.tag)

/-- Every access that waits for a line takes its part of it. -/
def wakeLine (t key : Nat) (s : State) : State :=
  (pendsOf s t).foldl (fun s (id, tag) => wakeOne t key id tag s) s

/-- The accesses that wait for a line end with a status. -/
def failLine (t key status : Nat) (s : State) : State :=
  (pendsOf s t).foldl (fun s (id, tag) =>
    match (findCtx s t id).bind fun c => c.pend.find? fun p => p.tag = tag with
    | some p => if p.parts.any fun q => q.key = key then pendDone t id tag status [] s else s
    | none => s) s

/-- A tabor's slice asks the home of a line for it. A request through a window of a domain peer carries
its job, window and offset. -/
def agentSend (t chip line mtype tenant : Nat) (who : CohFor) (via : Option (Nat × Nat × Nat)) (m : CohMsg) (s : State) : State :=
  let tag := s.ch.nextTag % 65536
  let m := { m with
    mtype := mtype, src := agentId s.ch.domIndex t, dst := if chip = s.ch.domIndex then homeAgent s line else 0xFFFF,
    tag := tag, line := if chip = s.ch.domIndex then line else line % 2 ^ 44, dstChip := chip }
  let r : AgentReq := { tabor := t, chip := chip, line := line, tag := tag, mtype := mtype, tenant := tenant, who := who,
                        ledger := none, msg := m, via := via, held := [] }
  sendMsg via m (s.setCh { s.ch with reqs := s.ch.reqs ++ [r], nextTag := s.ch.nextTag + 1 })

/-- The request of a tabor's slice for a line that has no answer. -/
def agentReq? (s : State) (t key : Nat) : Option AgentReq :=
  s.ch.reqs.find? fun r => r.tabor = t && lineKey r.chip r.line = key && r.mtype ≠ 0x08 && r.mtype ≠ 0x09 && r.mtype ≠ 0x0A

/-- A new access needs a line: it is served from the slice, or the slice sends the request of R183. -/
def needLine (t id tag key tenant : Nat) (k : PendKind) (via : Option (Nat × Nat × Nat)) (s : State) : State :=
  let chip := key / 2 ^ 44
  let line := key % 2 ^ 44
  let ask := fun (ty : Nat) (s : State) => if (agentReq? s t key).isSome then s else agentSend t chip line ty tenant .slice via noMsg s
  let askAtom := fun (aop : Nat) (a64 : Bool) (operand compare off : Nat) (s : State) =>
    agentSend t chip line 0x04 tenant (.ctx id tag) via
      { noMsg with aop := aop, a64 := a64, word := off / 8, half := off % 8 = 4, payload := leBytes 8 operand ++ leBytes 8 compare } s
  let off := ((findCtx s t id).bind fun c => (c.pend.find? fun p => p.tag = tag).bind fun p => p.parts.head?).elim 0 fun q => q.off
  match k, (getSlice s t).get? key with
  | .loadX _ _, some _ => wakeOne t key id tag s
  | .loadV _, some _ => wakeOne t key id tag s
  | .loadX _ _, none => ask 0x01 s
  | .loadV _, none => ask 0x01 s
  | .store _, some l => if l.state = .m || l.state = .e then wakeOne t key id tag s else ask 0x03 s
  | .store _, none => ask 0x02 s
  | .atom _ aop a64 o c, some l => if l.state = .m || l.state = .e then wakeOne t key id tag s else askAtom aop a64 o c off s
  | .atom _ aop a64 o c, none => askAtom aop a64 o c off s
  | .post, _ => s

/-! Grants and answers at the requester (R183, R189, R190). -/

def dropReq (r : AgentReq) (s : State) : State := s.setCh { s.ch with reqs := s.ch.reqs.filter fun x => x ≠ r }

/-- Snoops that waited for a grant are answered after it (R190). -/
def releaseHeld (r : AgentReq) (s : State) : State := s.setCh { s.ch with net := s.ch.net ++ r.held }

/-- The request that an answer names. -/
def reqOf (s : State) (m : CohMsg) : Option AgentReq :=
  s.ch.reqs.find? fun r => r.tag = m.tag && r.tabor = agentTabor m.dst

/-- The line that an answer of a domain peer names takes the place of the window offset by which it was
asked for, and the window's first line is learnt. -/
def learnLine (r : AgentReq) (m : CohMsg) (s : State) : State :=
  match r.via with
  | none => s
  | some (job, window, offset) =>
    let key := lineKey r.chip m.line
    let old := lineKey r.chip r.line
    let s := s.setCh { s.ch with winBase := s.ch.winBase.set (2 ^ 36 * r.chip + 2 ^ 16 * job + window) (m.line - offset / 64) }
    let v := getTab s r.tabor
    setTab r.tabor { v with ctxs := v.ctxs.map fun c => { c with pend := c.pend.map fun p =>
      { p with parts := p.parts.map fun q => if q.key = old then { q with key := key } else q } } } s

/-- A grant: the line enters the slice, and the accesses that wait for it are performed. -/
def takeGrant (mtype : Nat) (m : CohMsg) (s : State) : State :=
  match cohTake mtype m s with
  | (s, false) => s
  | (s, true) =>
    match reqOf s m with
    | none => s
    | some r =>
      let t := r.tabor
      let key := lineKey r.chip m.line
      let s := learnLine r m (dropReq r s)
      let s := if mtype = 0x23 then
          match (getSlice s t).get? key with
          | some l => installLine t key .m l.data (some r.tenant) s
          | none => s
        else
          let st := if mtype = 0x20 then LState.s else if mtype = 0x22 || r.mtype ≠ 0x01 then LState.m else LState.e
          installLine t key st m.payload (some r.tenant) s
      -- a line that a fenced tabor had asked for goes back at once (R126)
      let back := fun (s : State) => if s.co.fenced.mem t || s.co.fences.has t then evictLine t key s else s
      releaseHeld r (back (wakeLine t key s))

def execGntS (m : CohMsg) (s : State) : Res3 := s.act (takeGrant 0x20 m s)
def execGntE (m : CohMsg) (s : State) : Res3 := s.act (takeGrant 0x21 m s)
def execGntM (m : CohMsg) (s : State) : Res3 := s.act (takeGrant 0x22 m s)
def execGntUpg (m : CohMsg) (s : State) : Res3 := s.act (takeGrant 0x23 m s)

/-- The byte of its line at which a piece of a packet starts, and the bytes of the piece. -/
def pieceSpan (o : OpenPkt) (place : Nat) : Nat × Nat :=
  let (offset, len) :=
    if o.pkt.kind = 5 then
      let (_, n, _, off, _) := recFields (o.payload.drop o.place)
      (off, n)
    else if o.pkt.kind = 1 then (o.pkt.offset, leNat o.pkt.payload)
    else (o.pkt.offset, o.pkt.payload.length)
  let off := if place = 0 then offset % 64 else 0
  (off, min (len - place) (64 - off))

/-- The outcome of an access performed at the home reaches the one for whom it was made. -/
def ucDone (r : AgentReq) (status : Nat) (data : List Byte) (s : State) : State :=
  match r.who with
  | .packet node tc psn place =>
    let part : List Byte :=
      if r.mtype = 0x08 && statusOk status then
        match findOpen s node tc psn with
        | some o => let (off, n) := pieceSpan o place; slice data off n
        | none => []
      else data
    pieceDone node tc psn place status part s
  | .ctx id tag => pendDone r.tabor id tag status data s
  | .slice => if statusOk status then s else failLine r.tabor (lineKey r.chip r.line) status s

/-- ATOM_RSP: the old value of an atomic performed at the home (R189). -/
def execAtomRsp (m : CohMsg) (s : State) : Res3 :=
  s.act (match cohTake 0x24 m s with
  | (s, false) => s
  | (s, true) =>
    match reqOf s m with
    | none => s
    | some r =>
      let n := if r.msg.a64 then 8 else 4
      ucDone r m.status (match r.who with
        | .packet _ _ _ _ => m.payload
        | _ => m.payload.take n) (releaseHeld r (dropReq r s)))

/-- UC_RSP: the result of RD_UC or WR_UC (R189). -/
def execUcRsp (m : CohMsg) (s : State) : Res3 :=
  s.act (match cohTake 0x26 m s with
  | (s, false) => s
  | (s, true) =>
    match reqOf s m with
    | none => s
    | some r => ucDone r Config.ok m.payload (dropReq r s))

/-- WB_ACK: the write-back buffer gives the line up (R190). -/
def execWbAck (m : CohMsg) (s : State) : Res3 :=
  s.act (match cohTake 0x25 m s with
  | (s, false) => s
  | (s, true) =>
    let t := agentTabor m.dst
    setWbuf t ((getWbuf s t).erase (lineKey m.srcChip m.line)) s)

/-- A store of a whole line by a context waits for this request: its access, and the bytes (R202). -/
def wholeStore (s : State) (r : AgentReq) : Option (Nat × Nat × List Byte) :=
  let key := lineKey r.chip r.line
  (getTab s r.tabor).ctxs.findSome? fun c => c.pend.findSome? fun p =>
    match p.kind with
    | .store bytes =>
      if bytes.length = 64 && p.parts.any (fun q => q.key = key && q.n = 64) then some (c.id, p.tag, bytes.map Prod.snd) else none
    | _ => none

/-- REFUSE: a request of another chip's home, or of this chip's, is not performed (R189, R198). BACKOFF
waits and is sent again. A store of a whole line to a poisoned line is sent again as WR_UC, which the
home performs (R202); to a peer's line, as a WRITE through the window. DESIGN CHOICE: log entry 100. -/
def execRefuse (m : CohMsg) (s : State) : Res3 :=
  s.act (match cohTake 0x27 m s with
  | (s, false) => s
  | (s, true) =>
    match reqOf s m with
    | none => s
    | some r =>
      if m.status = Config.backoff then
        s.setCh { s.ch with backoffs := s.ch.backoffs ++
          [{ msg := r.msg, due := s.now + 64 * 2 ^ m.backoffExp }] }
      else
        let s := releaseHeld r (dropReq r s)
        match (if r.who = .slice then wholeStore s r else none) with
        | some (id, tag, bytes) =>
          match r.via with
          | none =>
            if m.status = Config.poisoned then
              agentSend r.tabor r.chip r.line 0x09 r.tenant (.ctx id tag) none { noMsg with payload := ucPayload 0 bytes } s
            else failLine r.tabor (lineKey r.chip r.line) m.status s
          | some (job, window, offset) =>
            if m.status = Config.poisoned || m.status = Config.invalidDescriptor then
              sendReq (memberNode s r.chip) (.ctx r.tabor id tag) r.tenant id
                { noPkt with kind := 2, tc := tenantClass s r.tenant, job := job, window := window, offset := offset, payload := bytes } s
            else failLine r.tabor (lineKey r.chip r.line) m.status s
        | none => ucDone r m.status [] s)

/-- BACKOFF_RESEND: the wait of a refused request ends, and it is sent again (R198, R455). -/
def execBackoffResend (tag : Nat) (s : State) : Res3 :=
  s.act (match s.ch.backoffs.find? fun b => b.msg.tag = tag with
  | none => s
  | some b =>
    let s := s.reach b.due
    let s := s.setCh { s.ch with backoffs := s.ch.backoffs.erase b }
    if b.msg.srcChip = s.ch.domIndex && b.msg.dstChip = s.ch.domIndex then homeArrive b.msg s
    else sendMsg ((s.ch.reqs.find? fun r => r.msg = b.msg).bind fun r => r.via) b.msg s)

/-! Snoops at an agent (R183, R190). -/

/-- A request that its home has not served yet. -/
def stillWaiting (s : State) (r : AgentReq) : Bool :=
  let same := fun (m : CohMsg) => m.tag = r.tag && m.src = r.msg.src && m.line = r.line && m.mtype ≤ 0x0A && 1 ≤ m.mtype
  s.ch.net.any same || (s.ch.queues.any fun kv => kv.2.any fun q => same q.msg) ||
    (s.ch.comb.any fun kv => kv.2.any fun c => c.ops.any same) || (s.ch.backoffs.any fun b => same b.msg)

/-- The line at an agent: in its slice, or in its write-back buffer; the latter is marked `true`. -/
def agentLine (s : State) (t key : Nat) : Option (SliceLine × Bool) :=
  match (getSlice s t).get? key with
  | some l => some (l, false)
  | none => ((getWbuf s t).get? key).map fun l => (l, true)

/-- The line's state at the agent after a snoop; none for I. A write-back buffer keeps its place until
WB_ACK. -/
def setAgentLine (t key : Nat) (wb : Bool) (l : SliceLine) (st : Option LState) (s : State) : State :=
  if wb then setWbuf t ((getWbuf s t).set key { l with state := st.getD .s }) s
  else match st with
    | some st => setSlice t ((getSlice s t).set key { l with state := st }) s
    | none => setSlice t ((getSlice s t).erase key) s

/-- The answer of an agent to a snoop. -/
def snoopAnswer (m : CohMsg) (t : Nat) (mtype : Nat) (dirty : Bool) (payload : List Byte) (s : State) : State :=
  sendMsg none { noMsg with
    mtype := mtype, src := agentId s.ch.domIndex t, dst := if m.srcChip = s.ch.domIndex then homeAgent s m.line else 0xFFFF,
    tag := m.tag, line := m.line, dirty := dirty, payload := payload, dstChip := m.srcChip } s

/-- The line goes to the requester that a forwarding snoop names. -/
def forwardLine (m : CohMsg) (t mtype : Nat) (dirty : Bool) (data : List Byte) (s : State) : State :=
  sendMsg none { noMsg with
    mtype := mtype, src := agentId s.ch.domIndex t, dst := m.src, tag := m.tag, line := m.line, dirty := dirty,
    payload := data, dstChip := agentChip m.src } s

/-- A snoop does not wait for the grant of an agent's own ATOM_X: it belongs to a transaction in which the home performs
that atomic and takes the line from every agent, or it is SNP_INV, which no home sends first to an agent to which it has
granted the line (R190, R191, R193). DEDUCED: log entry 118. -/
def ownSnoop (s : State) (mtype : Nat) (m : CohMsg) (r : AgentReq) : Bool :=
  r.mtype = 0x04 &&
    (mtype = 0x10 ||
      (if m.srcChip = s.ch.domIndex then
        (s.ch.txns.get? m.line).any fun t => (t.req :: t.more).any fun q => q.tag = r.tag && q.src = r.msg.src
      else m.tag = r.tag))

/-- An agent answers a snoop by the state of its line (R183). It holds a snoop that comes after the home
has served its own request for the line and before the grant (R190). -/
def agentSnoop (mtype : Nat) (m : CohMsg) (s : State) : State :=
  match cohTake mtype m s with
  | (s, false) => s
  | (s, true) =>
    let t := agentTabor m.dst
    let key := lineKey m.srcChip m.line
    match (s.ch.reqs.find? fun r => r.tabor = t && lineKey r.chip r.line = key &&
        r.mtype ≠ 0x08 && r.mtype ≠ 0x09 && r.mtype ≠ 0x0A && !stillWaiting s r && !ownSnoop s mtype m r) with
    | some r =>
      let m := { m with frame := none }
      s.setCh { s.ch with reqs := s.ch.reqs.map fun x => if x = r then { r with held := r.held ++ [m] } else x }
    | none =>
      match agentLine s t key with
      | none => snoopAnswer m t (if mtype = 0x10 || mtype = 0x13 then 0x18 else 0x19) false [] s
      | some (l, wb) =>
        -- a line that the readout of a fenced tabor could not read gives no answer (R127, R200)
        if l.data.isEmpty && mtype ≠ 0x10 then s else
        let dirty := l.state = .m || l.state = .o
        let put := fun (st : Option LState) (s : State) => setAgentLine t key wb l st s
        if wb && l.state = .s then snoopAnswer m t (if mtype = 0x10 || mtype = 0x13 then 0x18 else 0x19) false [] s
        else
          match mtype with
          | 0x10 => snoopAnswer m t 0x18 false [] (put none s)
          | 0x11 =>
            snoopAnswer m t 0x19 dirty [] (forwardLine m t 0x20 dirty l.data (put (some (if dirty then .o else .s)) s))
          | 0x12 =>
            snoopAnswer m t 0x19 dirty [] (forwardLine m t (if dirty then 0x22 else 0x21) dirty l.data (put none s))
          | 0x13 =>
            if dirty then snoopAnswer m t 0x1A true l.data (put none s) else snoopAnswer m t 0x18 false [] (put none s)
          | _ => snoopAnswer m t 0x1A dirty l.data s

def execSnpInv (m : CohMsg) (s : State) : Res3 := s.act (agentSnoop 0x10 m s)
def execSnpFwdS (m : CohMsg) (s : State) : Res3 := s.act (agentSnoop 0x11 m s)
def execSnpFwdX (m : CohMsg) (s : State) : Res3 := s.act (agentSnoop 0x12 m s)
def execSnpRecall (m : CohMsg) (s : State) : Res3 := s.act (agentSnoop 0x13 m s)
def execSnpData (m : CohMsg) (s : State) : Res3 := s.act (agentSnoop 0x14 m s)

/-! Answers at the home (R191, R200). -/

/-- The data of a forwarding snoop has reached, or is on its way to, the requester of a transaction.
DESIGN CHOICE: log entry 10. -/
def dataForwarded (s : State) (req : CohMsg) : Bool :=
  req.srcChip ≠ s.ch.domIndex || !(s.ch.reqs.any fun r => r.tag = req.tag && agentId s.ch.domIndex r.tabor = req.src) ||
    s.ch.net.any fun m => m.tag = req.tag && m.dst = req.src && 0x20 ≤ m.mtype && m.mtype ≤ 0x22

/-- An answer to a snoop of a line's transaction; the transaction may close. A late one is discarded, and
its sender is sent SNP_INV (R200). -/
def homeAck (mtype : Nat) (m : CohMsg) (s : State) : State :=
  match cohTake mtype m s with
  | (s, false) => s
  | (s, true) =>
    let line := m.line
    if s.ch.late.contains (line, m.src) then
      let s := s.setCh { s.ch with late := s.ch.late.erase (line, m.src) }
      snoop { noMsg with line := line, tag := m.tag } 0x10 m.src s
    else
      match s.ch.txns.get? line with
      | none => s
      | some t =>
        if !t.waiting.any fun w => w.1 = m.src then s
        else
          let t := { t with waiting := t.waiting.filter fun w => w.1 ≠ m.src, dirty := t.dirty || m.dirty }
          let t := if mtype = 0x1A then { t with data := some m.payload } else t
          let sent := mtype = 0x19 && t.req.mtype ≠ 0x08 && dataForwarded s t.req
          let t := if sent then { t with forwarded := true } else t
          if mtype = 0x19 && !sent && !t.home then
            let (ref, s) := beginHome line (agentTabor t.req.src / 68) false s
            s.setCh { s.ch with txns := s.ch.txns.set line { t with home := true, ref := ref } }
          else closeTxn line (s.setCh { s.ch with txns := s.ch.txns.set line t })

def execAckInv (m : CohMsg) (s : State) : Res3 := s.act (homeAck 0x18 m s)
def execAckFwd (m : CohMsg) (s : State) : Res3 := s.act (homeAck 0x19 m s)
def execDataHome (m : CohMsg) (s : State) : Res3 := s.act (homeAck 0x1A m s)

/-- COMBINE_ENTRY_APPLY: a combining entry of a free line takes its update slot: its operands are applied
in their order, once the line is at the home (R197). Requests that were queued before it go first. -/
def execCombineEntryApply (sliver entry : Nat) (s : State) : Res3 :=
  s.act (match (s.ch.comb.getD sliver [])[entry]? with
  | none => s
  | some c =>
    if s.ch.txns.has c.line || (s.ch.queues.getD sliver []).any (fun q => q.msg.line = c.line && q.arrived < c.arrived) then s
    else
      let rest := (s.ch.comb.getD sliver []).eraseIdx entry
      let s := s.setCh { s.ch with comb := if rest.isEmpty then s.ch.comb.erase sliver else s.ch.comb.set sliver rest }
      if isPoisoned s (lineAddr c.line) then c.ops.foldl (fun s m => answer m 0x27 Config.poisoned [] s) s
      else
        match c.ops with
        | [] => s
        | m :: more => serveOpen m more s)

/-- HOME_TIMEOUT_EXPIRY: a snoop that could have found dirty data has had no answer within HOME_TIMEOUT:
the line is poisoned, its entry freed, the requester refused, and LINE_POISONED raised (R200). -/
def execHomeTimeoutExpiry (line : Nat) (s : State) : Res3 :=
  s.act (match s.ch.txns.get? line with
  | none => s
  | some t =>
    let bad := t.waiting.filter fun w => w.2 ≠ 0x10
    if bad.isEmpty then s
    else
      let s := s.reach (t.snoopAt + 1000 * Par.homeTimeout s)
      let s := endHome t.ref (setDir line none (setPoison s (lineAddr line)))
      let s := s.setCh { s.ch with
        txns := s.ch.txns.erase line
        pc := s.ch.pc.mapVal fun _ l => l.filter fun q => q.line ≠ line
        late := s.ch.late ++ t.waiting.map fun w => (line, w.1) }
      let s := if t.req.mtype = 0 then s
        else (t.req :: t.more).foldl (fun s m => answer m 0x27 Config.poisoned [] s) s
      let s := s.setFa { s.fa with rwt := s.fa.rwt.mapVal fun _ w => { w with recalls := w.recalls.filter (· ≠ line) } }
      raise 0x130 0 (lineAddr line) 0 s)

/-- SNOOP_RESEND: SNP_INV is sent again to sharers that have not answered, at each further HOME_TIMEOUT
(R201). -/
def execSnoopResend (line : Nat) (s : State) : Res3 :=
  s.act (match s.ch.txns.get? line with
  | none => s
  | some t =>
    let inv := t.waiting.filter fun w => w.2 = 0x10
    if inv.isEmpty then s
    else
      let s := s.reach (t.snoopAt + 1000 * Par.homeTimeout s)
      let s := s.setCh { s.ch with txns := s.ch.txns.set line { t with snoopAt := s.now } }
      inv.foldl (fun s w => snoop t.req 0x10 w.1 s) s)

/-! Accesses of the device's own engines. -/

/-- A line as the coherent range holds it: from the slice or write-back buffer of its owner; a free value
where its owner is another chip; else from its page home. -/
def lineNow (s : State) (line : Nat) : List Byte :=
  let key := lineKey s.ch.domIndex line
  match (getDir s line).bind fun e => e.owner with
  | none => homeBytes s line
  | some o =>
    if agentChip o = s.ch.domIndex then
      match agentLine s (agentTabor o) key with
      | some (l, _) => l.data
      | none => homeBytes s line
    else Config.peerLine s.freeCtr (lineAddr line)

/-- Bytes of the range as an engine of the device reads them. -/
def readRange (s : State) (a n : Nat) : List Byte :=
  (lineParts (n + 1) a n 0).flatMap fun (line, off, k, _) => slice (lineNow s line) off k

/-- A line leaves every slice of this chip, and its entry is freed; holders on other chips are sent
SNP_INV. -/
def dropLine (line : Nat) (s : State) : State :=
  let key := lineKey s.ch.domIndex line
  match getDir s line with
  | none => s
  | some e =>
    let all := (e.owner.toList ++ sharersOf s e).eraseDups
    let s := all.foldl (fun s a =>
      if agentChip a = s.ch.domIndex then setSlice (agentTabor a) ((getSlice s (agentTabor a)).erase key) s
      else snoop { noMsg with line := line } 0x10 a s) s
    setDir line none s

/-- Bytes that an engine of the device writes: the newest copy of each line, changed, at its page home. A
whole line clears a poison marker (R202). -/
def writeRange (a : Nat) (bytes : List Byte) (s : State) : State :=
  (lineParts (bytes.length + 1) a bytes.length 0).foldl (fun s (line, off, n, place) =>
    let old := lineNow s line
    let s := dropLine line s
    let s := if n = 64 then clearPoison s (lineAddr line) else s
    let new := old.take off ++ slice bytes place n ++ old.drop (off + n)
    sampleAccess (lineAddr line) (landBytes (lineAddr line) new s)) s

/-- The accesses of an engine's read are counted (R45). -/
def sampleRange (a n : Nat) (s : State) : State :=
  (lineParts (n + 1) a n 0).foldl (fun s q => sampleAccess (lineAddr q.1) s) s

/-- A line of a byte range has a transaction in progress: an engine's access has to wait (R187). -/
def rangeBusy (s : State) (a n : Nat) : Bool :=
  n ≠ 0 && ((s.ch.txns.any fun kv => a / 64 ≤ kv.1 && kv.1 ≤ (a + n - 1) / 64) ||
    (lineParts (n + 1) a n 0).any fun q => sliverHeld s (sliverOf q.1))

/-- The pages of a byte range. -/
def pagesOf (a n : Nat) : List Nat :=
  if n = 0 then [] else (List.range ((a + n - 1) / 0x200000 + 1 - a / 0x200000)).map fun i => a / 0x200000 + i

/-- Whether an engine may read a byte range now: POISONED for a poisoned line or a lost page. -/
def readOk (s : State) (a n : Nat) : Gate :=
  if rangeBusy s a n then .stall
  else if (lineParts (n + 1) a n 0).any (fun q => sliverHomeless s (sliverOf q.1)) then .bad Config.deviceOutOfService
  else if (lineParts (n + 1) a n 0).any (fun q => isPoisoned s (q.1 * 64)) then .bad Config.poisoned
  else
    match (pagesOf a n).findSome? fun p => match readGate p s with
      | .ok => none
      | g => some g with
    | some g => g
    | none => .ok

/-- Whether an engine may write a byte range now; absent pages are given homes (R29–R31). A line that is
written only in part must not be poisoned. -/
def writeOk (a n tenant : Nat) (s : State) : State × Gate :=
  if rangeBusy s a n then (s, .stall)
  else if (lineParts (n + 1) a n 0).any (fun q => sliverHomeless s (sliverOf q.1)) then (s, .bad Config.deviceOutOfService)
  else if (lineParts (n + 1) a n 0).any (fun q => q.2.2.1 ≠ 64 && isPoisoned s (q.1 * 64)) then (s, .bad Config.poisoned)
  else
    (pagesOf a n).foldl (fun (x : State × Gate) p =>
      match x.2 with
      | .ok => writeGate p tenant x.1
      | g => (x.1, g)) (s, .ok)

/-- RTO_EXPIRY: no ACK has advanced for one RTO: everything unacknowledged is sent again and the timeout
doubles, up to 2 ms; the rate halves. After RETRY_MAX timeouts in a row the path fails (R224, R227), and
requests of coherence to that node fail with it. -/
def execRtoExpiry (node tc : Nat) (s : State) : Res3 :=
  s.act (
    let key := pathKey node tc
    match s.fa.tx.get? key with
    | none => s
    | some p =>
      if !p.pkts.any (fun q => q.sent) && p.sub < 64 then s
      else if p.pkts.isEmpty then s
      else
        let s := s.reach (p.advancedAt + p.rtoNs)
        let n := p.timeouts + 1
        if Par.retryMax s ≤ n then
          let s := failPath key s
          if tc = 7 then
            (s.ch.reqs.filter fun r => r.chip ≠ s.ch.domIndex && memberNode s r.chip = node).foldl (fun s r =>
              ucDone { r with who := if r.who = .slice then .slice else r.who } Config.timeout [] (dropReq r s)) s
          else s
        else
          let rate := if tc = 7 then p.rate else max (p.rate / 2) (1000 * Par.rateMinGbps s)
          let q := { p with timeouts := n, rtoNs := min (2 * p.rtoNs) 2000000, advancedAt := s.now, rate := rate }
          resendAll key (s.setFa { s.fa with tx := s.fa.tx.set key q }))

end Sys2Proof.Machine
end

