-- ==== Sys2Proof/Machine/Replies.lean ====
section
/-!
DEFINITION. What a sender learns: RESPONSE, APPLIED, ACK and NAK, and requests refused with STALE_ROUTE
(R221–R227, R254, R260).
-/

namespace Sys2Proof.Machine

/-- A packet without a path of its own is taken after checks 1 to 3 and 5 of R218. -/
def ctlTake (kind : Nat) (f : RxFrame) (s : State) : State × Bool :=
  if f.pkt.kind ≠ kind || f.pkt.reserved || !lenOk f.pkt then (s, false) else rxHeader f s

/-- How far a PSN lies behind the last one that a path has given out. -/
def psnBehind (p : TxPath) (psn : Nat) : Nat := (p.nextPsn + 0x1FFFFFFFF - psn) % 0x100000000

/-- The path to a node to which a PSN belongs: the one whose last PSN is closest after it. -/
def pathOf (s : State) (node psn : Nat) : Option Nat :=
  ((List.range 8).foldl (fun (b : Option (Nat × Nat)) tc =>
    match s.fa.tx.get? (pathKey node tc) with
    | none => b
    | some p =>
      let d := psnBehind p psn
      if 0x80000000 ≤ d then b
      else match b with
        | some (_, e) => if d < e then some (pathKey node tc, d) else b
        | none => some (pathKey node tc, d)) none).map Prod.fst

/-- ACK: packets up to ACK_PSN have arrived: they leave the path, and a mark cuts its rate (R224, R227).
DESIGN CHOICE: log entry 97. -/
def execAck (f : RxFrame) (s : State) : Res3 :=
  .next (match ctlTake 0x20 f s with
  | (s, false) => s
  | (s, true) =>
    match pathOf s f.pkt.src f.pkt.ackPsn with
    | none => s
    | some key =>
      let s := if f.pkt.ceEcho then cutRate key s else s
      ackUpTo key f.pkt.ackPsn s)

/-- NAK: packets from ACK_PSN on are sent again; with SYN, the path restarts from its oldest
unacknowledged packet with a new start PSN (R221, R223, R224). DESIGN CHOICE: log entry 97. -/
def execNak (f : RxFrame) (s : State) : Res3 :=
  .next (match ctlTake 0x21 f s with
  | (s, false) => s
  | (s, true) =>
    match pathOf s f.pkt.src f.pkt.ackPsn with
    | none => s
    | some key =>
      let s := if f.pkt.ceEcho then cutRate key s else s
      if f.pkt.syn then restartPath key s
      else resendAll key (ackUpTo key (psnPrev f.pkt.ackPsn) s))

/-- A request that has left this device. -/
def onWire (r : RemoteReq) : Bool := r.lastSent ≠ 0 && !r.refused

/-- APPLIED: every WRITE, FLAG_STORE, BULK and COPY_DATA packet of the path up to ACK_PSN has been applied,
or its failure has been reported (R225): those without a RESPONSE are applied. -/
def execApplied (f : RxFrame) (s : State) : Res3 :=
  .next (match ctlTake 0x11 f s with
  | (s, false) => s
  | (s, true) =>
    match pathOf s f.pkt.src f.pkt.ackPsn with
    | none => s
    | some key =>
      let done := s.fa.reqs.filter fun kv =>
        onWire kv.2 && pathKey kv.2.pkt.dst kv.2.pkt.tc = key && appliedKind kv.2.pkt.kind &&
          serialLe 32 kv.2.pkt.psn f.pkt.ackPsn
      done.foldl (fun s kv => finishReq kv.1 Config.ok [] s) s)

/-! Ownership records at the receiver of a handoff (R261, R264). -/

/-- An 8 B word of the range, changed at once by the device itself. -/
def putWord (a v : Nat) (s : State) : State := writeRange a (leBytes 8 v) s
def getWord (s : State) (a : Nat) : Nat := leNat (readRange s a 8)

/-- The peer's word has been read: RELEASED(e + 1, B) makes this device the owner; any other word at
epoch e + 1 or higher clears the record (R264). -/
def resolvePrepared (a : Nat) (s : State) : State :=
  match s.fa.prepared.get? a with
  | none => s
  | some p =>
    let mine := getWord s a
    if ownState mine ≠ 3 then s.setFa { s.fa with prepared := s.fa.prepared.erase a }
    else
      match p.word with
      | none => s
      | some w =>
        if (readOk s a 8) ≠ .ok then s
        else if w % 2 ^ 40 = ownWord (ownEpoch mine) 4 0 && ownPeer w = s.fa.nodeId then
          putWord a (ownWord (ownEpoch mine) 1 (ownPeer mine)) (s.setFa { s.fa with prepared := s.fa.prepared.erase a })
        else if ownEpoch mine ≤ ownEpoch w then
          putWord a 0 (s.setFa { s.fa with prepared := s.fa.prepared.erase a })
        else s.setFa { s.fa with prepared := s.fa.prepared.set a { p with word := none } }

/-- PREPARED_RESOLVE_POLL: a record left PREPARED for 10 ms reads the peer's word through its window, every
1 ms (R264). -/
def execPreparedResolvePoll (pha : Nat) (s : State) : Res3 :=
  s.act (
    let s := resolvePrepared pha s
    match s.fa.prepared.get? pha with
    | none => s
    | some p =>
      let s := s.reach p.next
      let s := s.setFa { s.fa with prepared := s.fa.prepared.set pha { p with next := s.now + 1000000 } }
      sendReq p.node (.poll pha) p.tenant 0
        { noPkt with kind := 1, tc := tenantClass s p.tenant, job := p.job, window := p.window, offset := p.offset,
                     payload := leBytes 2 8 } s)

/-! RESPONSE (R225, R260). -/

/-- A request is refused with STALE_ROUTE (R260): another composition ends it; else it waits for the
responder's generation, or to be sent again. -/
def staleReq (n : Nat) (r : RemoteReq) (p : Pkt) (s : State) : State :=
  if p.comp ≠ r.pkt.comp then
    finishReq n (if r.pkt.kind = 4 && r.resent then Config.outcomeUnknown else Config.staleRoute) [] s
  else
    let newer := serialLt 16 r.pkt.gen p.gen
    let s := s.setFa { s.fa with reqs := s.fa.reqs.set n { r with
      refused := true, staleFrom := r.staleFrom <|> some s.now, staleGen := if newer then some p.gen else none } }
    if newer && serialLe 16 p.gen s.fa.generation then resendReq n s else s

/-- A COHERENCE packet of this device was refused by a peer (R218): its request ends, or is sent again
after 100 µs while STALE_HOLD_MS lasts (R260). -/
def cohRefused (p : Pkt) (s : State) : State :=
  match (s.fa.tx.get? (pathKey p.src 7)).bind fun x => x.pkts.find? fun q => q.pkt.psn = p.ackPsn && q.pkt.kind = 7 with
  | none => s
  | some q =>
    match s.ch.reqs.find? fun r => cohBytes r.msg = q.pkt.payload && memberNode s r.chip = p.src with
    | none => s
    | some r =>
      let k := s.ch.refused.getD (refKey r.msg) 0
      if p.status = Config.staleRoute && p.comp = q.pkt.comp && k < 10 * Par.staleHoldMs s then
        s.setCh { s.ch with
          refused := s.ch.refused.set (refKey r.msg) (k + 1)
          backoffs := s.ch.backoffs ++ [{ msg := r.msg, due := s.now + 100000 }] }
      else
        let s := s.setCh { s.ch with refused := s.ch.refused.erase (refKey r.msg) }
        ucDone r p.status [] (releaseHeld r (dropReq r s))

/-- RESPONSE: the result of the request that ACK_PSN names: read data, an old value, or a status (R225). A
response that no request waits for is discarded (R254). DESIGN CHOICE: log entry 97. -/
def execResponse (f : RxFrame) (s : State) : Res3 :=
  .next (match ctlTake 0x10 f s with
  | (s, false) => s
  | (s, true) =>
    let p := f.pkt
    let mine := s.fa.reqs.filter fun kv => onWire kv.2 && kv.2.pkt.dst = p.src && kv.2.pkt.psn = p.ackPsn
    if mine.isEmpty then cohRefused p s
    else
      mine.foldl (fun s kv =>
        if p.status = Config.staleRoute then staleReq kv.1 kv.2 p s
        else
          let s := finishReq kv.1 p.status p.payload s
          match kv.2.origin with
          | .poll a => resolvePrepared a s
          | _ => s) s)

/-- STALE_RESEND_TIMER: a request refused with STALE_ROUTE is sent again every 100 µs with the current
generation, until STALE_HOLD_MS after the first refusal (R260). -/
def execStaleResendTimer (req : Nat) (s : State) : Res3 :=
  s.act (match s.fa.reqs.get? req with
  | none => s
  | some r =>
    match r.staleFrom with
    | none => s
    | some t =>
      if !r.refused || r.staleGen.any (fun g => !serialLe 16 g s.fa.generation) then s
      else
        let s := s.reach (r.lastSent + 100000)
        if s.now < t + 1000000 * Par.staleHoldMs s then resendReq req s else s)

/-- STALE_HOLD_EXPIRY: STALE_HOLD_MS after its first refusal, a refused request completes with
STALE_ROUTE (R260). -/
def execStaleHoldExpiry (req : Nat) (s : State) : Res3 :=
  s.act (match s.fa.reqs.get? req with
  | none => s
  | some r =>
    match r.staleFrom with
    | none => s
    | some t =>
      if !r.refused then s
      else finishReq req Config.staleRoute [] (s.reach (t + 1000000 * Par.staleHoldMs s)))

/-- Requests that waited for a generation are sent again on the new map (R260). -/
def releaseStale (s : State) : State :=
  (s.fa.reqs.filter fun kv =>
    kv.2.refused && kv.2.staleGen.any fun g => serialLe 16 g s.fa.generation).foldl (fun s kv => resendReq kv.1 s) s

end Sys2Proof.Machine
end

