-- ==== Sys2Proof/Machine/Domain.lean ====
section
/-!
DEFINITION. The coherence domain: its formation, and the loss of a peer (R203–R205).
-/

namespace Sys2Proof.Machine

/-! Peers that leave (R205). -/

def ofChip (chip a : Nat) : Bool := a ≠ 0xFFFF && agentChip a = chip

/-- The directory entry of a line after a peer is gone: none when nobody is left. -/
def dirWithout (chip : Nat) (e : DirEntry) : Option DirEntry :=
  let e := { e with
    owner := e.owner.filter fun a => !ofChip chip a
    sharers := e.sharers.filter fun a => !ofChip chip a
    groups := e.groups.keep fun g _ => g / 8 ≠ chip }
  if e.owner.isSome then some e
  else if e.coarse && !e.groups.isEmpty || !e.sharers.isEmpty then some { e with state := .sh }
  else none

/-- Lines that this chip homes and that a peer held in EX or OW are poisoned, and the peer leaves every
sharer list (R205). -/
def forgetHolder (chip : Nat) (s : State) : State :=
  s.ch.dir.foldl (fun s kv =>
    let s := if kv.2.owner.any (ofChip chip) then setPoison s (lineAddr kv.1) else s
    setDir kv.1 (dirWithout chip kv.2) s) s

/-- Lines homed on a peer leave the slices and write-back buffers; how many of them were dirty (R205). -/
def forgetHome (chip : Nat) (s : State) : Nat × State :=
  let gone := fun (k : Nat) => k / 2 ^ 44 = chip
  let dirty := fun (m : FMap (FMap SliceLine)) =>
    m.foldl (fun n kv => n + kv.2.count fun k l => gone k && (l.state = .m || l.state = .o)) 0
  let drop := fun (m : FMap (FMap SliceLine)) =>
    (m.mapVal fun _ v => v.keep fun k _ => !gone k).keep fun _ v => !v.isEmpty
  (dirty s.ch.slices + dirty s.ch.wbuf, s.setCh { s.ch with slices := drop s.ch.slices, wbuf := drop s.ch.wbuf })

/-- Requests and transactions that involve a peer end: requests to it time out, its own are dropped, and
its answers are no longer awaited. -/
def forgetTraffic (chip : Nat) (s : State) : State :=
  let from_ := fun (m : CohMsg) => m.srcChip = chip
  let mine := s.ch.reqs.filter fun r => r.chip = chip
  let s := s.setCh { s.ch with
    queues := (s.ch.queues.mapVal fun _ l => l.filter fun q => !from_ q.msg).keep fun _ l => !l.isEmpty
    ucReads := s.ch.ucReads.filter fun m => !from_ m
    backoffs := s.ch.backoffs.filter fun b => !from_ b.msg && b.msg.dstChip ≠ chip }
  let s := mine.foldl (fun s r => ucDone r Config.timeout [] (dropReq r s)) s
  (s.ch.txns.map Prod.fst).foldl (fun s line =>
    match s.ch.txns.get? line with
    | none => s
    | some t =>
      closeTxn line (s.setCh { s.ch with txns := s.ch.txns.set line { t with waiting := t.waiting.filter fun w => !ofChip chip w.1 } })) s

/-- A peer is gone: what the loss of a peer does to lines and requests, and how many dirty lines it cost. -/
def forgetPeer (chip : Nat) (s : State) : Nat × State :=
  let (n, s) := forgetHome chip (forgetHolder chip s)
  (n, forgetTraffic chip s)

/-- PEER_LOST: every direct link to a member has been down for PEER_LOSS_MS (R205). -/
def execPeerLost (node : Nat) (s : State) : Res3 :=
  s.act (match s.ch.peerDown.get? node with
  | none => s
  | some t =>
    if !s.ch.members.contains node || s.ch.lostPeers.contains node || node = s.fa.nodeId || directUp s node then s
    else
      let s := s.reach (t + 1000000 * Par.peerLossMs s)
      let (n, s) := forgetPeer (s.ch.members.idxOf node) s
      let s := s.setCh { s.ch with lostPeers := s.ch.lostPeers ++ [node], peerDown := s.ch.peerDown.erase node }
      raise 0x133 0 node n s)

/-! The domain index (R179, R203). -/

/-- The agent of the same tabor on the chip with another domain index. -/
def moveAgent (chip a : Nat) : Nat := if a = 0xFFFF then a else agentId chip (agentTabor a)

def moveMsg (chip : Nat) (m : CohMsg) : CohMsg :=
  { m with src := moveAgent chip m.src, dst := moveAgent chip m.dst, srcChip := chip, dstChip := chip }

def moveKeys {α : Type} (chip : Nat) (m : FMap α) : FMap α := m.map fun kv => (lineKey chip (kv.1 % 2 ^ 44), kv.2)

def moveEntry (chip : Nat) (e : DirEntry) : DirEntry :=
  { e with
    owner := e.owner.map (moveAgent chip)
    sharers := e.sharers.map (moveAgent chip)
    groups := e.groups.map fun g => (chip * 8 + g.1 % 8, ()) }

/-- This chip takes a domain index: its own lines and agents take it in every name. -/
def takeIndex (chip : Nat) (s : State) : State :=
  if chip = s.ch.domIndex then s
  else
    let mv := moveMsg chip
    let moveReq := fun (r : AgentReq) => { r with chip := chip, msg := mv r.msg, held := r.held.map mv }
    let moveTxn := fun (_ : Nat) (t : Txn) =>
      { t with req := mv t.req, waiting := t.waiting.map fun w => (moveAgent chip w.1, w.2), more := t.more.map mv }
    let s := s.setCh { s.ch with
      domIndex := chip
      slices := s.ch.slices.mapVal fun _ v => moveKeys chip v
      wbuf := s.ch.wbuf.mapVal fun _ v => moveKeys chip v
      dir := s.ch.dir.mapVal fun _ e => moveEntry chip e
      txns := s.ch.txns.mapVal moveTxn
      queues := s.ch.queues.mapVal fun _ l => l.map fun q => { q with msg := mv q.msg }
      comb := s.ch.comb.mapVal fun _ l => l.map fun c => { c with ops := c.ops.map mv }
      hot := s.ch.hot.mapVal fun _ x => (moveAgent chip x.1, x.2)
      net := s.ch.net.map mv
      reqs := s.ch.reqs.map moveReq
      backoffs := s.ch.backoffs.map fun b => { b with msg := mv b.msg }
      late := s.ch.late.map fun x => (x.1, moveAgent chip x.2)
      ucReads := s.ch.ucReads.map mv
      refused := [] }
    let movePart := fun (q : Part) => { q with key := lineKey chip (q.key % 2 ^ 44) }
    let movePend := fun (p : Pend) => { p with parts := p.parts.map movePart }
    s.setCo { s.co with tabors := s.co.tabors.mapVal fun _ t =>
      { t with ctxs := t.ctxs.map fun c => { c with pend := c.pend.map movePend } } }

/-! Formation (R203). -/

/-- A message of formation to a node: its identifiers follow the header, two bytes each. -/
def formMsg (node mtype : Nat) (ids : List Nat) (s : State) : State :=
  sendPeer node 0 0 0 { noMsg with mtype := mtype, payload := ids.flatMap fun n => leBytes 2 n } s

/-- The member list is fixed; an index is a node id's rank in the list (R203). -/
def formDomain (list : List Nat) (s : State) : State :=
  let s := takeIndex (list.idxOf s.fa.nodeId) s
  let s := s.setCh { s.ch with domState := 2, members := list, forming := none, lostPeers := [], peerDown := [] }
  raise 0x131 0 list.length 0 (notePeers s)

/-- The members of a proposal: those heard and this device, in ascending order. -/
def proposal (s : State) (f : Forming) : List Nat :=
  sortBy (fun a b => decide (a < b)) (s.fa.nodeId :: f.heard)

/-- The member with the lowest node id among those heard proposes; alone, it forms a domain of one (R203). -/
def propose (f : Forming) (s : State) : State :=
  let list := proposal s f
  if list.head? ≠ some s.fa.nodeId || f.proposed.isSome then s
  else if f.heard.isEmpty then formDomain [s.fa.nodeId] s
  else
    let s := s.setCh { s.ch with forming := some { f with proposed := some (list, s.now), confirmed := [] } }
    f.heard.foldl (fun s n => formMsg n 0x31 ([s.fa.composition, s.fa.generation] ++ list) s) s

/-- The listed peers with a direct link (R203). -/
def listedPeers (s : State) : List Nat :=
  (s.fa.domainList.filter fun n => n ≠ 0xFFFF && n ≠ s.fa.nodeId && directUp s n &&
    (s.fa.nrt.get? n).any fun e => e.direct).eraseDups

/-- PRESUMED: log entry 99. -/
def hello (f : Forming) (s : State) : State :=
  f.peers.foldl (fun s n => formMsg n 0x30 [] s) s

/-- A composition restart: members of the old domain leave it, and formation begins (R203, R231). A listed
device with no listed peer forms a domain of one. -/
def startForming (s : State) : State :=
  let others := (s.ch.members.zipIdx.filter fun x => x.1 ≠ s.fa.nodeId && !s.ch.lostPeers.contains x.1).map Prod.snd
  let s := others.foldl (fun s i => (forgetPeer i s).2) s
  let s := s.setCh { s.ch with domState := 0, members := [], lostPeers := [], peerDown := [], forming := none, winBase := [] }
  if s.fa.composition = 0 then takeIndex 0 s
  else
    let f : Forming := { peers := listedPeers s, heard := [], started := s.now, helloDue := s.now + 100000000,
                         proposed := none, confirmed := [] }
    let s := hello f (s.setCh { s.ch with domState := 1, forming := some f })
    if f.peers.isEmpty then propose f s else s

/-- The node that sent a message of formation, and the identifiers it carries. -/
def formNode (m : CohMsg) : Nat := m.frame.elim 0xFFFF fun f => f.pkt.src
/-- PRESUMED: log entry 99. -/
def formIds : Nat → List Byte → List Nat
  | 0, _ => []
  | n + 1, b => if b.length < 2 then [] else leField b 0 2 :: formIds n (b.drop 2)

/-- A message of formation that comes from another chip is taken. -/
def formTake (mtype : Nat) (m : CohMsg) (s : State) : State × Bool :=
  if m.frame.isNone then (s, false) else cohTake mtype m s

/-- DOMAIN_HELLO: a peer is heard; after the commit it is refused (R203, R204). -/
def execDomainHello (m : CohMsg) (s : State) : Res3 :=
  s.act (match formTake 0x30 m s with
  | (s, false) => s
  | (s, true) =>
    let n := formNode m
    match s.ch.forming with
    | some f =>
      if !s.fa.domainList.contains n || f.heard.contains n then s
      else
        let peers := if f.peers.contains n then f.peers else f.peers ++ [n]
        let f := { f with peers := peers, heard := f.heard ++ [n] }
        let s := s.setCh { s.ch with forming := some f }
        if f.peers.all f.heard.contains then propose f s else s
    | none => if s.ch.domState = 2 then raise 0x132 0 n 0 (formMsg n 0x34 [] s) else s)

/-- The 100 ms repeat of DOMAIN_HELLO (R203). A listed peer whose direct link has come up since is greeted too. -/
def execDomainHelloTimer (s : State) : Res3 :=
  s.act (match s.ch.forming with
  | none => s
  | some f =>
    let s := s.reach f.helloDue
    let f := { f with helloDue := s.now + 100000000, peers := (f.peers ++ listedPeers s).eraseDups }
    hello f (s.setCh { s.ch with forming := some f }))

/-- DOMAIN_PROPOSE: a proposed member confirms (R203). -/
def execDomainPropose (m : CohMsg) (s : State) : Res3 :=
  s.act (match formTake 0x31 m s with
  | (s, false) => s
  | (s, true) =>
    match s.ch.forming, formIds 16 m.payload with
    | some _, comp :: gen :: list =>
      if comp = s.fa.composition && gen = s.fa.generation && list.contains s.fa.nodeId then formMsg (formNode m) 0x32 [] s else s
    | _, _ => s)

/-- The proposer commits a list: every member is told, and it takes the list itself (R203). -/
def commitList (list : List Nat) (s : State) : State :=
  let s := (list.filter (· ≠ s.fa.nodeId)).foldl (fun s n =>
    formMsg n 0x33 ([s.fa.composition, s.fa.generation] ++ list) s) s
  formDomain list s

/-- DOMAIN_CONFIRM: with every confirm in, the proposer commits (R203). -/
def execDomainConfirm (m : CohMsg) (s : State) : Res3 :=
  s.act (match formTake 0x32 m s with
  | (s, false) => s
  | (s, true) =>
    match s.ch.forming with
    | none => s
    | some f =>
      match f.proposed with
      | none => s
      | some (list, _) =>
        let n := formNode m
        let f := { f with confirmed := if f.confirmed.contains n then f.confirmed else f.confirmed ++ [n] }
        let s := s.setCh { s.ch with forming := some f }
        if list.all fun x => x = s.fa.nodeId || f.confirmed.contains x then commitList list s else s)

/-- DOMAIN_COMMIT: the member list and the index are fixed, and DOMAIN_FORMED is raised (R203). -/
def execDomainCommit (m : CohMsg) (s : State) : Res3 :=
  s.act (match formTake 0x33 m s with
  | (s, false) => s
  | (s, true) =>
    match s.ch.forming, formIds 16 m.payload with
    | some _, comp :: _ :: list =>
      if comp = s.fa.composition && list.contains s.fa.nodeId then formDomain list s else s
    | _, _ => s)

/-- DOMAIN_REFUSE: the domain has been committed without this device, which goes on waiting (R203, R204). -/
def execDomainRefuse (m : CohMsg) (s : State) : Res3 := s.act (formTake 0x34 m s).1

/-- FORM_WAIT_EXPIRY: the proposer's wait for hellos, or for confirms, ends; a member that has heard no
peer, or has no commit within FORM_WAIT and 1 s, forms a domain of one (R203). -/
def execFormWaitExpiry (s : State) : Res3 :=
  s.act (match s.ch.forming with
  | none => s
  | some f =>
    match f.proposed with
    | some (list, t) =>
      let s := s.reach (t + 100000000)
      commitList (list.filter fun n => n = s.fa.nodeId || f.confirmed.contains n) s
    | none =>
      let wait := 1000000 * Par.formWait s
      if f.heard.isEmpty then formDomain [s.fa.nodeId] (s.reach (f.started + wait))
      else if (proposal s f).head? = some s.fa.nodeId then propose f (s.reach (f.started + wait))
      else formDomain [s.fa.nodeId] (s.reach (f.started + wait + 1000000000)))

end Sys2Proof.Machine
end

