-- ==== Sys2Proof/Machine/Xlate.lean ====
section
/-!
DEFINITION. The request ring, the Pool Translation Cache, and misses (R270–R282, R314, R315).
-/

namespace Sys2Proof.Machine

/-! Rings that the device writes (R314, R315). -/

def Ring.slots (r : Ring) : Nat := 2 ^ r.sizeLog2

/-- No slot is free: the slot after the write position is the first that the host has not consumed.
DEDUCED: log entry 101. -/
def Ring.full (r : Ring) : Bool := (r.tail + 1) % r.slots = r.head

/-- The ring after one entry has been written. DEDUCED: log entry 101. -/
def Ring.advance (r : Ring) (now : Nat) : Ring :=
  let t := (r.tail + 1) % r.slots
  { r with tail := t, phase := if t = 0 then !r.phase else r.phase, unsig := r.unsig + 1,
           oldest := if r.unsig = 0 then now else r.oldest }

/-- The vector of a ring is due (R315). -/
def Ring.irqDue (r : Ring) (now : Nat) : Bool :=
  r.irqEn && 0 < r.unsig && (r.irqCount ≤ r.unsig || r.oldest + 1000 * r.irqTime ≤ now)

def tenantPort (t : Nat) : Nat := t / 512
def tenantFn (t : Nat) : Nat := t % 512 + 1
def fnTenant (port fn : Nat) : Nat := port * 512 + (fn - 1)

/-- The 32 bytes of a request ring entry (R282). -/
def reqBytes (e : ReqEnt) (phase : Bool) : List Byte :=
  match e with
  | .miss tag tenant write pva =>
    leBytes 8 (0x01 + 2 ^ 16 * tenant + 2 ^ 26 * b2n write + 2 ^ 32 * tag) ++ leBytes 8 (pva % 2 ^ 56) ++
      leBytes 8 0 ++ leBytes 8 (2 ^ 63 * b2n phase)
  | .result status tenant tag =>
    leBytes 8 (0x02 + 2 ^ 8 * status + 2 ^ 16 * tenant + 2 ^ 32 * tag) ++ leBytes 8 0 ++ leBytes 8 0 ++
      leBytes 8 (2 ^ 63 * b2n phase)

/-- Waiting entries are written to the request ring of a port, oldest first, while it has free slots. A
MISS is outstanding toward its timeout from the moment it is written. -/
def drainReqRing (port : Nat) : Nat → State → State
  | 0, s => s
  | n + 1, s =>
    let hp := getPort s port
    match hp.waiting with
    | [] => s
    | e :: rest =>
      let r := hp.reqRing
      if !hp.up || !(getFn s port 0).bme || r.qstate ≠ 1 || r.full then s
      else
        let addr := r.base + 32 * r.tail
        let r' := r.advance s.now
        let due := r'.irqDue s.now
        let s := hostWrite port 0 addr (reqBytes e r.phase) s
        let s := setPort s port { getPort s port with
          waiting := rest, reqRing := if due then { r' with unsig := 0 } else r' }
        let s := match e with
          | .miss tag _ _ _ => s.setTr { s.tr with misses := s.tr.misses.modify tag fun m => { m with writtenAt := some s.now } }
          | .result _ _ _ => s
        drainReqRing port n (if due then sendVector port 0 1 s else s)

/-- An entry for a port's request ring; it waits in order of creation when the ring is full (R282). -/
def pushReqEnt (port : Nat) (e : ReqEnt) (s : State) : State :=
  let hp := getPort s port
  drainReqRing port (hp.waiting.length + 1) (setPort s port { hp with waiting := hp.waiting ++ [e] })

/-! Misses (R278–R281). -/

/-- A MISS that has been handed to the request ring. -/
def missQueued (s : State) (tag : Nat) (m : Miss) : Bool :=
  m.writtenAt.isSome || (getPort s (tenantPort m.tenant)).waiting.any fun e =>
    match e with
    | .miss t _ _ _ => t = tag
    | .result _ _ _ => false

/-- Misses of a tenant go to the ring while fewer than MISS_PER_TENANT are outstanding (R278). -/
def pumpMisses (tenant : Nat) : Nat → State → State
  | 0, s => s
  | n + 1, s =>
    let mine := s.tr.misses.filter fun kv => kv.2.tenant = tenant
    if Par.missPerTenant s ≤ (mine.filter fun kv => missQueued s kv.1 kv.2).length then s
    else
      match mine.find? fun kv => !missQueued s kv.1 kv.2 with
      | none => s
      | some (tag, m) =>
        pumpMisses tenant n (pushReqEnt (tenantPort tenant) (.miss tag m.tenant m.write m.pva) s)

/-- A task misses: it joins an outstanding MISS of the same tenant, 2 MiB page and access, or makes a new
one (R278). The state, and the tag of the MISS. -/
def noteMiss (tenant pva : Nat) (write : Bool) (task : Task) (s : State) : State × Nat :=
  let vpn := pva / 0x200000
  match s.tr.misses.first? fun _ m => m.tenant = tenant && m.vpn = vpn && m.write = write with
  | some (tag, m) =>
    let m := if m.tasks.contains task then m else { m with tasks := m.tasks ++ [task] }
    (s.setTr { s.tr with misses := s.tr.misses.set tag m }, tag)
  | none =>
    let tag := s.tr.nextTag
    let m : Miss := { tenant := tenant, vpn := vpn, write := write, pva := pva, writtenAt := none, tasks := [task] }
    let s := s.setTr { s.tr with misses := s.tr.misses.set tag m, nextTag := if tag = 0xFFFFFFFF then 1 else tag + 1 }
    (pumpMisses tenant 1 s, tag)

/-! Lookups (R270–R272, R289). -/

/-- The PHA that an entry gives for a PVA. -/
def PtcEnt.pha (e : PtcEnt) (pva : Nat) : Nat :=
  if e.big then 0x40000000 * (e.ppn / 512) + pva % 0x40000000 else 0x200000 * e.ppn + pva % 0x200000

/-- An entry in VALID of the tenant that maps a PVA with the right needed (R271). -/
def PtcEnt.hits (e : PtcEnt) (tenant pva : Nat) (write : Bool) : Bool :=
  !e.draining && e.tenant = tenant && (if e.big then e.vpn / 512 = pva / 0x40000000 else e.vpn = pva / 0x200000) &&
    (if write then e.w else e.r)

/-- A page of a run that an EXTENT_REVOKE in progress withdraws from the tenant (R289). -/
def pageRevoking (s : State) (tenant page : Nat) : Bool :=
  s.tr.withdrawals.any fun kv =>
    kv.2.op = 0x11 && kv.2.tenant = tenant && kv.2.first ≤ page && page < kv.2.first + kv.2.pages

/-- The outcome of a lookup. -/
inductive Look where
  /-- The entry and the PHA. -/
  | hit (ent pha : Nat)
  | miss
  | bad (status : Nat)
  /-- The entry's INFLIGHT is at its greatest: the request waits (R272). -/
  | full
  deriving DecidableEq, Repr

def ptcLook (s : State) (tenant pva : Nat) (write : Bool) : Look :=
  match s.tr.ptc.first? fun _ e => e.hits tenant pva write with
  | none => .miss
  | some (n, e) =>
    let a := e.pha pva
    if pageRevoking s tenant (a / 0x200000) then .bad Config.extentRevoked
    else if 65535 ≤ e.inflight then .full
    else .hit n a

/-- A request is admitted through an entry (R272). -/
def ptcAdmit (ent : Nat) (s : State) : State :=
  s.setTr { s.tr with ptc := s.tr.ptc.modify ent fun e => { e with inflight := e.inflight + 1, last := s.now } }

/-- The pieces of a PVA range that lie in one 2 MiB page each: PVA, bytes, place. -/
def pageParts : Nat → Nat → Nat → Nat → List (Nat × Nat × Nat)
  | 0, _, _, _ => []
  | fuel + 1, a, len, place =>
    if len = 0 then []
    else
      let n := min len (0x200000 - a % 0x200000)
      (a, n, place) :: pageParts fuel (a + n) (len - n) (place + n)

/-- The translation of a whole range: its pieces as PHA, bytes and place, and the entries used; or the
first thing that stands in its way, with the address concerned. -/
def lookRange (s : State) (tenant pva len : Nat) (write : Bool) : Except (Look × Nat) (List (Nat × Nat × Nat) × List Nat) :=
  (pageParts (len / 0x200000 + 2) pva len 0).foldl (fun acc (a, n, place) =>
    match acc with
    | .error e => .error e
    | .ok (parts, ents) =>
      match ptcLook s tenant a write with
      | .hit ent pha => .ok (parts ++ [(pha, n, place)], ents ++ [ent])
      | l => .error (l, a)) (.ok ([], []))

def ptcAdmitAll (ents : List Nat) (s : State) : State := ents.foldl (fun s e => ptcAdmit e s) s

end Sys2Proof.Machine
end

