-- ==== Sys2Proof/Machine/Copies.lean ====
section
/-!
DEFINITION. Copy descriptors and the copy engines of the ports (R248–R250).
-/

namespace Sys2Proof.Machine

/-- Word `i` of a list of words. -/
def wordAt (l : List Nat) (i : Nat) : Nat := l.getD i 0

/-- Bits of word `i`. -/
def wBits (l : List Nat) (i hi lo : Nat) : Nat := bitsOf (wordAt l i) hi lo

/-- The words of a byte string. -/
def wordsFrom : Nat → List Byte → List Nat
  | 0, _ => []
  | n + 1, b => leField b 0 8 :: wordsFrom n (b.drop 8)

/-- A copy descriptor that follows its layout (R248, R445). -/
def copyOk (w : List Nat) : Bool :=
  let len := wBits w 3 30 0
  wBits w 0 63 37 = 0 && wBits w 1 63 56 = 0 && wBits w 2 63 50 = 0 && wBits w 3 63 49 = 0 && wBits w 4 63 50 = 0 &&
    wordAt w 6 = 0 && wordAt w 7 = 0 && wBits w 0 34 32 ≠ 7 && wBits w 1 5 0 = 0 && wBits w 2 5 0 = 0 &&
    wBits w 3 5 0 = 0 && 64 ≤ len && len ≤ 1073741824 && wBits w 4 2 0 = 0

/-- The port whose engine runs a descriptor: the one that carries the path to its node (R249).
DESIGN CHOICE: log entry 111. -/
def copyPort (s : State) (w : List Nat) : Nat :=
  let node := wBits w 0 15 0
  let tc := wBits w 0 34 32
  match s.fa.tx.get? (pathKey node tc) with
  | some p => p.sub / 2
  | none => ((bindSub s node tc).getD 0) / 2

/-- A descriptor joins its engine's queue; or the status with which it is refused. -/
def postCopy (origin : Origin) (tenant : Nat) (w : List Nat) (s : State) : Except Nat (Nat × State) :=
  if !copyOk w then .error Config.invalidDescriptor
  else if (jobOf s tenant).isNone then .error Config.accessDenied
  else
    let n := s.fa.nextReq
    let c : Copy := { port := copyPort s w, tenant := tenant, origin := origin, words := w, running := false,
                      sentBytes := 0, out := [], local_ := 0, failed := none, flagSent := false }
    .ok (n, s.setFa { s.fa with copies := s.fa.copies.set n c, nextReq := n + 1 })

def modCopy (n : Nat) (f : Copy → Copy) (s : State) : State := s.setFa { s.fa with copies := s.fa.copies.modify n f }

/-- Bytes of a copy land in a window of this device: line by line, or at an interceptor (R248, R345).
DESIGN CHOICE: log entry 111. -/
def copyLocal (n : Nat) (c : Copy) (right offset len : Nat) (bytes : List Byte) (s : State) : State :=
  let counter := if right = 1 && bitOf (wordAt c.words 0) 35 then some (wBits c.words 3 48 31) else none
  match rwtCheck s ((jobOf s c.tenant).getD 0) (wBits c.words 0 31 16) right offset len (if right = 3 then 8 else 1) counter with
  | .error st => modCopy n (fun c => { c with failed := c.failed <|> some st }) s
  | .ok a =>
    if (lineParts (len + 1) a len 0).any fun q => intercepted s (q.1 * 64) then
      if right = 3 then modCopy n (fun c => { c with failed := c.failed <|> some Config.invalidDescriptor }) s
      else
        let parts := lineParts (len + 1) a len 0
        let s := parts.foldl (fun s (line, off, k, place) =>
          interceptWrite (line * 64 + off) (k = 64) (slice bytes place k) (.copy n) false s) s
        modCopy n (fun c => { c with local_ := c.local_ + parts.length }) s
    else
      match writeOk a len c.tenant s with
      | (s, .ok) =>
        let s := writeRange a bytes s
        match counter with
        | some k => bumpCounter k len s
        | none => s
      | (s, .bad st) => modCopy n (fun c => { c with failed := c.failed <|> some st }) s
      | (s, .stall) => modCopy n (fun c => { c with sentBytes := c.sentBytes - len }) s

/-- The engine sends packets of up to 8,192 B while fewer than 2 MiB are outstanding, reading the source
through the PTC as it goes (R249). -/
def copySend (n : Nat) : Nat → State → State
  | 0, s => s
  | fuel + 1, s =>
    match s.fa.copies.get? n with
    | none => s
    | some c =>
      let len := wBits c.words 3 30 0
      let node := wBits c.words 0 15 0
      if !c.running || c.failed.isSome || len ≤ c.sentBytes || 256 ≤ c.out.length then s
      else
        let k := min 8192 (len - c.sentBytes)
        let pva := wBits c.words 1 55 0 + c.sentBytes
        let k := min k (0x200000 - pva % 0x200000)
        match ptcLook s c.tenant pva false with
        | .miss => (noteMiss c.tenant pva false (.copy n) s).1
        | .full => s
        | .bad st => modCopy n (fun c => { c with failed := some st }) s
        | .hit _ pha =>
          match readOk s pha k with
          | .stall => s
          | .bad st => modCopy n (fun c => { c with failed := some st }) s
          | .ok =>
            let bytes := readRange s pha k
            let offset := wBits c.words 2 49 0 + c.sentBytes
            let s := modCopy n (fun c => { c with sentBytes := c.sentBytes + k }) (sampleRange pha k s)
            let s :=
              if node = s.fa.nodeId then copyLocal n c 1 offset k bytes s
              else
                let r := s.fa.nextReq
                let s := modCopy n (fun c => { c with out := c.out ++ [r] }) s
                sendReq node (.copy n) c.tenant 0
                  { noPkt with kind := 6, tc := wBits c.words 0 34 32, job := (jobOf s c.tenant).getD 0,
                               window := wBits c.words 0 31 16, offset := offset, counted := bitOf (wordAt c.words 0) 35,
                               counter := wBits c.words 3 48 31, payload := bytes } s
            copySend n fuel s

/-- COPY_DESCRIPTOR_START: a descriptor starts when its engine has a free place, in arrival order, and
sends; a running one goes on sending (R249). -/
def execCopyDescriptorStart (copy : Nat) (s : State) : Res3 :=
  s.act (match s.fa.copies.get? copy with
  | none => s
  | some c =>
    let busy := s.fa.copies.count fun _ x => x.port = c.port && x.running
    let first := (s.fa.copies.first? fun _ x => x.port = c.port && !x.running).map Prod.fst = some copy
    if c.running then copySend copy 256 s
    else if first && busy < Par.copyInflight s && s.alive then
      copySend copy 256 (modCopy copy (fun c => { c with running := true }) s)
    else s)

/-- A descriptor's one completion reaches the one who posted it (R249). -/
def endCopy (n : Nat) (c : Copy) (status : Nat) (s : State) : State :=
  let s := s.setFa { s.fa with copies := s.fa.copies.erase n }
  match c.origin with
  | .ctx t id tag => pendDone t id tag status [] s
  | .item i => endItem i status 0 0 s
  | _ => s

/-- COPY_DONE: every packet is applied, or a failure has drained: the done flag goes when it is asked for
and nothing failed; the descriptor then completes (R249, R250). -/
def execCopyDone (copy : Nat) (s : State) : Res3 :=
  s.act (match s.fa.copies.get? copy with
  | none => s
  | some c =>
    let len := wBits c.words 3 30 0
    let node := wBits c.words 0 15 0
    let drained := c.out.isEmpty && c.local_ = 0 && (c.failed.isSome || (c.running && len ≤ c.sentBytes))
    if !drained then s
    else if c.failed = none && bitOf (wordAt c.words 0) 36 && !c.flagSent then
      let value := leBytes 8 (wordAt c.words 5)
      let offset := wBits c.words 4 49 0
      let s := modCopy copy (fun c => { c with flagSent := true }) s
      if node = s.fa.nodeId then copyLocal copy c 3 offset 8 value s
      else
        let r := s.fa.nextReq
        let s := modCopy copy (fun c => { c with out := c.out ++ [r] }) s
        sendReq node (.copy copy) c.tenant 0
          { noPkt with kind := 3, tc := wBits c.words 0 34 32, job := (jobOf s c.tenant).getD 0,
                       window := wBits c.words 0 31 16, offset := offset, payload := value } s
    else endCopy copy c (c.failed.getD Config.ok) s)

end Sys2Proof.Machine
end

