-- ==== Sys2Proof/Machine/Issue.lean ====
section
/-!
DEFINITION. The issue of a Phicor instruction: the processor's running program, the scoreboard, fuel,
and how a program ends on each kind of processor (R99, R103, R140–R144, R148–R150, R536).
-/

namespace Sys2Proof.Machine

/-- The program that a processor runs. -/
def getProc (s : State) : Proc → Option Ctx
  | .tabor n => (getTab s n).ctxs.find? fun c => c.state = .running
  | .gale p => s.co.gale.get? p
  | .carillon => s.od.script.map Prod.snd

def putProc (p : Proc) (c : Ctx) (s : State) : State :=
  match p with
  | .tabor n => modCtx n c.id (fun _ => c) s
  | .gale n => s.setCo { s.co with gale := s.co.gale.set n c }
  | .carillon => s.setOd { s.od with script := s.od.script.map fun x => (x.1, c) }

/-! Registers that an instruction names (R101, R103). -/

/-- Scalar registers read or written, besides x31 under NF. -/
def usesX (op : Op) (w : Nat) : List Nat :=
  let d := fRd w
  let a := fRs1 w
  let b := fRs2 w
  match op with
  | .add | .sub | .and | .or | .xor | .sll | .srl | .sra | .slt | .sltu | .min | .max | .minu | .maxu | .seq | .sne
  | .mul | .mulh | .mulhu | .div | .divu | .rem | .remu | .atom | .waitc => [d, a, b]
  | .addi | .andi | .ori | .xori | .slli | .srli | .srai | .slti | .lds | .sts | .ldg | .stg | .ldacq | .pktLd
  | .odRd => [d, a]
  | .lui | .pget | .time | .fuel | .taborOp | .pktLen | .chmFin | .vext | .vmxq => [d]
  | .pset | .vlds | .vsts | .vldg | .vstg | .vgath | .vscat | .vlut | .vbcast | .copy | .chmInit | .odEvent => [a]
  | .beq | .bne | .blt | .bge | .bltu | .bgeu => [fBRs1 w, fBRs2 w]
  | .vdot => if fFunc2 w % 2 = 1 then [a, b] else []
  | .ratom => [d, a, a + 1, b]
  | .rld => [d, a, a + 1]
  | .rst | .rstf => [a, a + 1, b]
  | .vrld | .vrst => [a, a + 1]
  | .chmUpd | .srseed | .waitf | .pktSt | .odWr => [a, b]
  | .endOp => [10]
  | _ => []

/-- Vector registers read or written. -/
def usesV (op : Op) (w : Nat) : List Nat :=
  let d := fRd w
  let a := fRs1 w
  let b := fRs2 w
  match op with
  | .vlds | .vsts | .vldg | .vstg | .vrld => [d]
  | .vgath | .vscat | .vlut => [d, b]
  | .vadd | .vlog | .vmm | .vsh | .vsel | .vfadd | .vfmul | .vfma | .vdot | .vredc | .vperm => [d, a, b]
  | .vcmp => [a, b]
  | .vbcast => [d]
  | .vmov | .vcvtn | .vcvtw | .vred => [d, a]
  | .vext => [a]
  | .vmxq => [d, a, a + 1]
  | .vcadd => [d, d + 1, a]
  | .vrst | .chmVupd => [b]
  | _ => []

/-- Remote and atomic instructions carry the no-fault option in FUNC bit 6 (R135, R138). -/
def isRemote (op : Op) : Bool :=
  match op with
  | .atom | .ratom | .rld | .rst | .rstf | .vrld | .vrst | .copy | .waitc => true
  | _ => false

def hasNf (op : Op) (w : Nat) : Bool := isRemote op && bitOf w 31

/-- The registers that an outstanding access will write, as (scalar, vector). -/
def Pend.dests (p : Pend) : List Nat × List Nat :=
  let nf := if p.nf then [31] else []
  match p.kind with
  | .loadX rd _ => (rd :: nf, [])
  | .loadV rd => (nf, [rd])
  | .atom rd _ _ _ _ => (rd :: nf, [])
  | .store _ => (nf, [])
  | .post => (nf, [])

/-- An instruction waits at issue for the registers that outstanding accesses will write (R103). x0 is
never written. -/
def scoreboard (c : Ctx) (op : Op) (w : Nat) : Bool :=
  let xs := usesX op w ++ if hasNf op w then [31] else []
  let vs := usesV op w
  c.pend.any fun p => (p.dests.1.any fun r => r ≠ 0 && xs.contains r) || (p.dests.2.any fun r => vs.contains r)

/-! The ends of a program (R144, R150, R536). -/

/-- A Gale program has ended: its request proceeds with the payload that the program left, or fails (R150). -/
def galeDone (port : Nat) (failed : Option Nat) (s : State) : State :=
  match s.co.gale.get? port with
  | none => s
  | some c =>
    let s := s.setCo { s.co with gale := s.co.gale.erase port }
    let s := match c.pkt with
      | none => s
      | some (node, tc, psn) =>
        match failed with
        | none => performPkt node tc psn (modOpen node tc psn (fun o => { o with payload := c.body }) s)
        | some st => endPkt node tc psn (modOpen node tc psn (fun o => { o with failed := some st }) s)
    galeNext port 64 s

/-- The running script has ended: LAST_STATUS of its slot records how (R536). -/
def scriptDone (status : Nat) (s : State) : State :=
  match s.od.script with
  | none => s
  | some (slot, _) => s.setOd { s.od with script := none, lastStatus := s.od.lastStatus.set slot status }

/-- The program of a processor ends with a status other than OK. -/
def failProc (p : Proc) (c : Ctx) (status : Nat) (s : State) : State :=
  match p with
  | .tabor n => endCtx n c.id status s
  | .gale n => galeDone n (some status) s
  | .carillon => scriptDone status s

/-- The context after an instruction; a Gale program that has run its last instruction passes (R150). -/
def finishOp (p : Proc) (c : Ctx) (s : State) : State :=
  let s := putProc p c s
  match p with
  | .gale n => if c.code.length ≤ c.pc then galeDone n none s else s
  | _ => s

/-! Issue. -/

/-- The program for which a word may issue now as an operation: it is the word at the program's counter,
and every register it names is ready. -/
def canIssue (p : Proc) (op : Op) (w : Nat) (s : State) : Option Ctx :=
  match getProc s p with
  | none => none
  | some c =>
    if !s.alive || c.state ≠ .running || c.hold ≠ .none || c.ending.isSome then none
    else if c.code[c.pc]? ≠ some w || opOf w ≠ some op || scoreboard c op w then none
    else some c

/-- The issue of an instruction: with no fuel left the program ends with FUEL_EXHAUSTED, else `k` performs
it on the context with its unit of fuel taken and its counter at the next instruction (R143). -/
def issue (op : Op) (p : Proc) (w : BitVec 32) (k : Ctx → State → State) (s : State) : Res3 :=
  .next (match canIssue p op w.toNat s with
  | none => s
  | some c =>
    if c.fuel = 0 then failProc p c Config.fuelExhausted s
    else k { c with pc := c.pc + 1, fuel := c.fuel - 1 } s)

/-- An instruction that touches only its program's own registers, scratch and Chime state. -/
def issuePure (op : Op) (f : Nat → Ctx → Res) (p : Proc) (w : BitVec 32) (s : State) : Res3 :=
  issue op p w (fun c s =>
    match f w.toNat c with
    | .ok c => finishOp p c s
    | .error st => failProc p c st s) s

/-- A remote or atomic instruction ends at issue with a status: NF keeps the program going (R141). -/
def failNf (p : Proc) (c : Ctx) (nf : Bool) (status : Nat) (s : State) : State :=
  if nf then finishOp p { c with x := c.x.set 31 (BitVec.ofNat 64 (status % 256)) } s
  else failProc p c status s

end Sys2Proof.Machine
end

