-- ==== Sys2Proof/Machine/Access.lean ====
section
/-!
DEFINITION. Accesses of programs to the range and through windows, the ordering operations, and the
window read buffer (R103, R133, R138, R141, R161–R167, R174, R180, R278).
-/

namespace Sys2Proof.Machine

/-! Outstanding accesses and the order between them (R103, R165, R166). -/

/-- The item's effect bit is set: it issues a store, an atomic, a remote operation, a copy, a flag-store or a
write to host memory (R472). -/
def markEffect (item : Nat) (s : State) : State := modItem item (fun i => { i with effect := true }) s

def Pend.open_ (p : Pend) : Bool := p.done.isNone

def Pend.isStore (p : Pend) : Bool :=
  match p.kind with
  | .store _ => true
  | .atom _ _ _ _ _ => true
  | _ => false

/-- An access with one of the tags has not been performed. -/
def awaits (c : Ctx) (tags : List Nat) : Bool := c.pend.any fun p => p.open_ && tags.contains p.tag

/-- Earlier stores and atomics to the range have not all been performed. -/
def storesOpen (c : Ctx) : Bool := c.pend.any fun p => p.open_ && p.isStore && p.win.isNone

/-- A new access has to wait at issue: 16 are outstanding, or an ordering operation holds it back. -/
def heldBack (c : Ctx) (stores : Bool) : Bool :=
  16 ≤ c.pend.length || awaits c c.acqTags || (stores && awaits c c.pubTags)

/-- What a new access to a line waits for at issue: the line's write-back, or a request of the slice for
the line whose answer would not serve it. -/
def lineBlocked (s : State) (t key : Nat) (k : PendKind) : Bool :=
  (getWbuf s t).has key ||
    s.ch.reqs.any fun r =>
      let mine : Bool := match r.who with
        | .packet _ _ _ _ => false
        | _ => true
      let clash : Bool := match k with
        | .atom _ _ _ _ _ => true
        | .store _ => r.mtype = 1
        | _ => false
      r.tabor = t && lineKey r.chip r.line = key && mine && (8 ≤ r.mtype || r.mtype = 4 || clash)

/-- The context as the next access finds it: an acquire that has taken effect has emptied the window read
buffer (R174). -/
def openAccess (s : State) (c : Ctx) : Ctx :=
  if c.emptyWrb then { c with emptyWrb := false, wrb := [], wrbFrom := s.co.nextPend } else c

/-- The access joins the outstanding ones of its context; an acquire holds back every later one. -/
def addPend (c : Ctx) (kind : PendKind) (parts : List Part) (remote : Bool) (win : Option (Nat × Nat × Nat)) (nf acq : Bool)
    (ents : List Nat) (s : State) : Ctx × State :=
  let tag := s.co.nextPend
  let p : Pend := { tag := tag, kind := kind, parts := parts, got := [], remote := remote, win := win, nf := nf,
                    ptc := ents, done := none }
  let c := { c with pend := c.pend ++ [p], acqTags := if acq then c.acqTags ++ [tag] else c.acqTags,
                    emptyWrb := c.emptyWrb || acq }
  (c, s.setCo { s.co with nextPend := tag + 1 })

/-! Accesses to the range (R161, R278). -/

/-- An access to the range: where, how many bytes, what it does. -/
structure RangeAcc where
  pva : Nat
  len : Nat
  write : Bool
  kind : PendKind
  nf : Bool
  acq : Bool

/-- The parts of a list of PHA pieces that lie in one line each. -/
def lineSplit (s : State) (ps : List (Nat × Nat × Nat)) : List Part :=
  ps.flatMap fun (pha, n, place) =>
    (lineParts (n + 1) pha n place).map fun (line, off, k, pl) => ⟨lineKey s.ch.domIndex line, off, k, pl⟩

/-- Parts in which a store writes at least one byte. -/
def touched (k : PendKind) (ps : List Part) : List Part :=
  match k with
  | .store bytes => ps.filter fun q => (List.range q.n).any fun i => bytes.has (q.place + i)
  | _ => ps

/-- The bytes of a part of a store, when it writes a whole line. -/
def wholePart (k : PendKind) (q : Part) : Option (List Byte) :=
  match k with
  | .store bytes =>
    if q.n = 64 && (List.range 64).all (fun i => bytes.has (q.place + i)) then
      some ((List.range 64).map fun i => bytes.getD (q.place + i) 0)
    else none
  | _ => none

/-- The PHA of a part of this chip's range. -/
def partAddr (q : Part) : Nat := q.key % 2 ^ 44 * 64

/-- The accesses of the parts start. A whole line written to an inbox or request area goes to its home as
one write (R345, R419). -/
def startParts (t id tag tenant : Nat) (k : PendKind) (own : Bool) (vias : Part → Option (Nat × Nat × Nat))
    (parts : List Part) (s : State) : State :=
  parts.foldl (fun s q =>
    match (if own && intercepted s (partAddr q) then wholePart k q else none) with
    | some bytes =>
      let s := modCtx t id (fun c => { c with pend := c.pend.map fun p =>
        if p.tag = tag then { p with parts := p.parts.filter (· ≠ q) } else p }) s
      interceptWrite (partAddr q) true bytes (.ctx t id tag) false s
    | none => needLine t id tag q.key tenant k (vias q) s) s

/-- A store or atomic that an inbox or request area refuses: only whole lines are written there. -/
def interceptRefuses (s : State) (k : PendKind) (parts : List Part) : Bool :=
  parts.any fun q => intercepted s (partAddr q) &&
    match k with
    | .store _ => (wholePart k q).isNone
    | .atom _ _ _ _ _ => true
    | _ => false

/-- A context's access to the range issues, waits at issue, misses, or fails. -/
def rangeAccess (t : Nat) (c : Ctx) (a : RangeAcc) (s : State) : State :=
  let p := Proc.tabor t
  let isSt := a.write
  if heldBack c isSt || (match a.kind with | .atom _ _ _ _ _ => storesOpen c | _ => false) then s
  else if 2 ^ 56 < a.pva + a.len then failNf p c a.nf Config.translationFault s
  else
    match lookRange s c.tenant a.pva a.len a.write with
    | .error (.miss, pva) =>
      let s := modCtx t c.id (fun c => { c with hold := .miss (pva / 0x200000), holdSince := s.now }) s
      leave t c.id .switchedOut (noteMiss c.tenant pva a.write (.ctx t c.id) s).1
    | .error (.bad st, _) => failNf p c a.nf st s
    | .error (_, _) => s
    | .ok (ps, ents) =>
      let parts := touched a.kind (lineSplit s ps)
      if parts.any (fun q => lineBlocked s t q.key a.kind) then s
      else if interceptRefuses s a.kind parts then failNf p c a.nf Config.invalidDescriptor s
      else
        let tag := s.co.nextPend
        let (c, s) := addPend (openAccess s c) a.kind parts false none a.nf a.acq ents s
        let s := putProc p c (ptcAdmitAll ents (if a.write then markEffect c.item s else s))
        startParts t c.id tag c.tenant a.kind true (fun _ => none) parts s

/-- The issue of an instruction that accesses the range, or has no access to make. -/
def issueRange (op : Op) (f : Nat → Ctx → Except Nat (Option RangeAcc)) (p : Proc) (w : BitVec 32) (s : State) : Res3 :=
  issue op p w (fun c s =>
    match p with
    | .tabor t =>
      match f w.toNat c with
      | .error st => failProc p c st s
      | .ok none => finishOp p c s
      | .ok (some a) => rangeAccess t c a s
    | _ => s) s

/-- A map of bytes by place. -/
def byPlace (bs : List Byte) : FMap Byte := bs.zipIdx.map fun (b, i) => (i, b)

/-- LDG and LDACQ: a scalar load, with acquire effect for LDACQ. -/
def accLdg (acq : Bool) (w : Nat) (c : Ctx) : Except Nat (Option RangeAcc) :=
  let n := scalarBytes (fSize w)
  .ok (some { pva := memAddr c w n, len := n, write := false, kind := .loadX (fRd w) (fSize w), nf := false, acq := acq })

def accStg (w : Nat) (c : Ctx) : Except Nat (Option RangeAcc) :=
  let n := scalarBytes (fSize w)
  .ok (some { pva := memAddr c w n, len := n, write := true,
              kind := .store (byPlace (leBytes n (c.readX (fRd w)).toNat)), nf := false, acq := false })

/-- VLDG: the address must be aligned to 64 B. -/
def accVldg (w : Nat) (c : Ctx) : Except Nat (Option RangeAcc) :=
  let a := memAddr c w 64
  if a % 64 ≠ 0 then .error Config.invalidDescriptor
  else .ok (some { pva := a, len := 64, write := false, kind := .loadV (fRd w), nf := false, acq := false })

/-- VSTG: PRED bit i governs 32-bit lane i; with no lane enabled there is no access. -/
def accVstg (w : Nat) (c : Ctx) : Except Nat (Option RangeAcc) :=
  let bytes := (byPlace (vecBytes (c.readV (fRd w)))).filter fun kv => predBit c (fMPred w) (kv.1 / 4)
  if bytes.isEmpty then .ok none
  else .ok (some { pva := memAddr c w 64, len := 64, write := true, kind := .store bytes, nf := false, acq := false })

/-- The atomic that ATOM or RATOM performs: FUNC[4:0] the operation, FUNC[5] the width. -/
def atomKind (w : Nat) (c : Ctx) : PendKind :=
  .atom (fRd w) (fFunc w % 32) (bitOf (fFunc w) 5) (c.readX (fRs2 w)).toNat (c.readX (fRd w)).toNat

def atomBytes (w : Nat) : Nat := if bitOf (fFunc w) 5 then 8 else 4

/-- A misaligned atomic ends the program with INVALID_DESCRIPTOR (R192).
DESIGN CHOICE: log entry 95. -/
def accAtom (w : Nat) (c : Ctx) : Except Nat (Option RangeAcc) :=
  let a := (c.readX (fRs1 w)).toNat
  if a % atomBytes w ≠ 0 then .error Config.invalidDescriptor
  else .ok (some { pva := a, len := atomBytes w, write := true, kind := atomKind w c, nf := bitOf w 31, acq := true })

/-! Accesses through windows (R133, R174, R180, R236–R242). -/

/-- The index of a chip of this chip's domain, other than itself, that is not lost. -/
def peerIndex (s : State) (node : Nat) : Option Nat :=
  if s.ch.domState = 2 && node ≠ s.fa.nodeId && !s.ch.lostPeers.contains node then s.ch.members.idxOf? node else none

/-- An access through a window pair. -/
structure WinAcc where
  len : Nat
  /-- Right: 0 R, 1 W, 2 ATOMIC, 3 FLAG. -/
  right : Nat
  kind : PendKind
  /-- KIND of the packet: 1 READ, 2 WRITE, 3 FLAG_STORE, 4 ATOMIC. -/
  pktKind : Nat
  payload : List Byte
  aop : Nat := 0
  a64 : Bool := false

/-- The bytes of a range of a window that the read buffer holds, if it holds them all (R174). -/
def wrbRead (c : Ctx) (node window offset len : Nat) : Option (List Byte) :=
  let byte := fun (a : Nat) =>
    (c.wrb.find? fun e => e.node = node && e.window = window && e.line = a / 64).bind fun e => e.data.get? (a % 64)
  let l := (List.range len).map fun i => byte (offset + i)
  if l.all Option.isSome then some (l.filterMap id) else none

/-- The parts of an access to a peer's window: by the window's first line when a grant has told it, else by
a name made of the offset. -/
def peerParts (s : State) (chip job window offset len : Nat) : List Part :=
  (lineParts (len + 1) offset len 0).map fun (line, off, n, place) =>
    match s.ch.winBase.get? (2 ^ 36 * chip + 2 ^ 16 * job + window) with
    | some base => ⟨lineKey chip (base + line), off, n, place⟩
    | none => ⟨lineKey chip (2 ^ 43 + line), off, n, place⟩

/-- A window's line named by its offset is already asked for under another window. -/
def nameClash (s : State) (t job window : Nat) (parts : List Part) : Bool :=
  parts.any fun q => q.key % 2 ^ 44 / 2 ^ 43 = 1 &&
    s.ch.reqs.any fun r => r.tabor = t && lineKey r.chip r.line = q.key && r.via.any fun v => v.1 ≠ job || v.2.1 ≠ window

/-- What RATOM and RSTF wait for at issue (R166). -/
def winHeld (c : Ctx) (node : Nat) (a : WinAcc) : Bool :=
  (a.right = 2 && (storesOpen c || c.pend.any fun p => p.open_ && p.remote && p.isStore && p.win.any fun v => v.1 = node)) ||
    (a.right = 3 && storesOpen c)

/-- An access through the window pair of RS1 issues, waits at issue, or fails.
DESIGN CHOICE: log entry 93. -/
def winAccess (t : Nat) (nf : Bool) (w : Nat) (c : Ctx) (a : WinAcc) (s : State) : State :=
  let p := Proc.tabor t
  let ref := (c.readX (fRs1 w)).toNat
  let offset := (c.readX (fRs1 w + 1)).toNat
  let node := ref / 65536
  let window := ref % 65536
  if 2 ^ 32 ≤ ref then failProc p c Config.invalidDescriptor s
  else if heldBack c (a.right ≠ 0) || winHeld c node a then s
  else
    match jobOf s c.tenant with
    | none => failNf p c nf Config.accessDenied s
    | some job =>
      let start := fun (parts : List Part) (win : Option (Nat × Nat × Nat)) (k : Nat → Ctx → State → State) (s : State) =>
        let tag := s.co.nextPend
        let (c, s) := addPend (openAccess s c) a.kind parts true win nf (a.right = 2) [] s
        k tag c (putProc p c (markEffect c.item s))
      if 2 ^ 50 ≤ offset then failNf p c nf Config.accessDenied s
      else if a.right = 2 && offset % a.len ≠ 0 then failProc p c Config.invalidDescriptor s
      else if a.right = 3 && offset % 8 ≠ 0 then failNf p c nf Config.invalidDescriptor s
      else if node = s.fa.nodeId then
        match rwtCheck s job window a.right offset a.len 1 none with
        | .error st => failNf p c nf st s
        | .ok pha =>
          let parts := touched a.kind (lineSplit s [(pha, a.len, 0)])
          if parts.any (fun q => lineBlocked s t q.key a.kind) then s
          else if interceptRefuses s a.kind parts then failNf p c nf Config.invalidDescriptor s
          else start parts none (fun tag c s => startParts t c.id tag c.tenant a.kind true (fun _ => none) parts s) s
      else
        match (if a.right = 3 then none else peerIndex s node) with
        | some chip =>
          let parts := peerParts s chip job window offset a.len
          if parts.any (fun q => lineBlocked s t q.key a.kind) || nameClash s t job window parts then s
          else start parts none (fun tag c s =>
            startParts t c.id tag c.tenant a.kind false (fun q => some (job, window, offset + q.place)) parts s) s
        | none =>
          let c' := openAccess s c
          match (if a.right = 0 then wrbRead c' node window offset a.len else none) with
          | some bytes => start [] (some (node, window, offset)) (fun tag c s => pendDone t c.id tag Config.ok bytes s) s
          | none => start [] (some (node, window, offset)) (fun tag c s =>
              sendReq node (.ctx t c.id tag) c.tenant c.id
                { noPkt with kind := a.pktKind, tc := tenantClass s c.tenant, job := job, window := window, offset := offset,
                             payload := a.payload, aop := a.aop, a64 := a.a64 } s) s

/-- The issue of an instruction that goes through a window pair. -/
def issueWin (op : Op) (f : Nat → Ctx → WinAcc) (p : Proc) (w : BitVec 32) (s : State) : Res3 :=
  issue op p w (fun c s =>
    match p with
    | .tabor t => winAccess t (hasNf op w.toNat) w.toNat c (f w.toNat c) s
    | _ => s) s

/-- Bytes of RLD and RST: FUNC[0] selects 8 or 4. -/
def remoteBytes (w : Nat) : Nat := if bitOf (fFunc w) 0 then 8 else 4

def winRld (w : Nat) (_ : Ctx) : WinAcc :=
  let n := remoteBytes w
  { len := n, right := 0, kind := .loadX (fRd w) (if n = 8 then 3 else 2), pktKind := 1, payload := leBytes 2 n }
def winVrld (w : Nat) (_ : Ctx) : WinAcc :=
  { len := 64, right := 0, kind := .loadV (fRd w), pktKind := 1, payload := leBytes 2 64 }
def winRst (w : Nat) (c : Ctx) : WinAcc :=
  let bs := leBytes (remoteBytes w) (c.readX (fRs2 w)).toNat
  { len := remoteBytes w, right := 1, kind := .store (byPlace bs), pktKind := 2, payload := bs }
def winVrst (w : Nat) (c : Ctx) : WinAcc :=
  let bs := vecBytes (c.readV (fRs2 w))
  { len := 64, right := 1, kind := .store (byPlace bs), pktKind := 2, payload := bs }
def winRstf (w : Nat) (c : Ctx) : WinAcc :=
  let bs := leBytes 8 (c.readX (fRs2 w)).toNat
  { len := 8, right := 3, kind := .store (byPlace bs), pktKind := 3, payload := bs }
/-- DESIGN CHOICE: log entry 95. -/
def winRatom (w : Nat) (c : Ctx) : WinAcc :=
  { len := atomBytes w, right := 2, kind := atomKind w c, pktKind := 4,
    payload := leBytes 8 (c.readX (fRs2 w)).toNat ++ leBytes 8 (c.readX (fRd w)).toNat,
    aop := fFunc w % 32, a64 := bitOf (fFunc w) 5 }

/-- COPY: the descriptor at scratch x[RS1] is posted; its completion ends the access (R138, R248, R249). -/
def issueCopy (p : Proc) (w : BitVec 32) (s : State) : Res3 :=
  issue .copy p w (fun c s =>
    match p with
    | .tabor t =>
      if heldBack c true then s
      else
        match c.readS (c.readX (fRs1 w.toNat)).toNat 64 with
        | none => failProc p c Config.accessDenied s
        | some b =>
          let tag := s.co.nextPend
          match postCopy (.ctx t c.id tag) c.tenant (wordsFrom 8 b) s with
          | .error st => failNf p c (hasNf .copy w.toNat) st s
          | .ok (_, s) =>
            let (c, s) := addPend (openAccess s c) .post [] true none (hasNf .copy w.toNat) false [] s
            putProc p c (markEffect c.item s)
    | _ => s) s

/-! Fences (R166). -/

/-- FENCE PUB: later stores and atomics wait for the earlier stores and atomics to the range. -/
def fencePub (c : Ctx) : Ctx :=
  { c with pubTags := (c.pend.filter fun p => p.open_ && p.isStore && p.win.isNone).map fun p => p.tag }

/-- FENCE ACQ: every later access waits for the earlier loads, atomics and remote loads. -/
def fenceAcq (c : Ctx) : Ctx :=
  { c with
    acqTags := c.acqTags.filter (fun t => c.pend.any fun p => p.tag = t) ++
      (c.pend.filter fun p => p.open_ && p.kind.loads).map fun p => p.tag
    emptyWrb := true }

/-- FENCE FAB: every later access waits for every earlier one. -/
def fenceFab (c : Ctx) : Ctx :=
  { c with acqTags := (c.pend.filter fun p => p.open_).map fun p => p.tag, emptyWrb := true }

/-- Open messages that carry a record of a context are sent (R244). -/
def flushOf (c : Ctx) (s : State) : State :=
  (s.fa.openMsgs.filter fun o => o.reqs.any fun n => (s.fa.reqs.get? n).any fun r => r.issuer = c.id).foldl (fun s o =>
    flushOpen o.node o.tc o.job s) s

def issueFence (op : Op) (f : Ctx → Ctx) (flush : Bool) (p : Proc) (w : BitVec 32) (s : State) : Res3 :=
  issue op p w (fun c s => finishOp p (f c) (if flush then flushOf c s else s)) s

/-! The end of a load (R103, R141, R174). -/

/-- Bytes read through a window from outside the domain enter the read buffer of 8 lines; the oldest line
makes room (R174). -/
def wrbFill (c : Ctx) (node window offset : Nat) (bytes : List Byte) (now : Nat) : Ctx :=
  (lineParts (bytes.length + 1) offset bytes.length 0).foldl (fun c (line, off, n, place) =>
    let data := (List.range n).map fun i => (off + i, bytes.getD (place + i) 0)
    match c.wrb.find? fun e => e.node = node && e.window = window && e.line = line with
    | some old =>
      let new := { old with data := data.foldl (fun m kv => m.set kv.1 kv.2) old.data }
      { c with wrb := c.wrb.map fun e => if e = old then new else e }
    | none =>
      let e : WrbEntry := { node := node, window := window, line := line, data := data, at_ := now }
      let l := c.wrb ++ [e]
      { c with wrb := l.drop (l.length - 8) }) c

/-- The data of a finished access reaches its register. -/
def applyLoad (c : Ctx) (p : Pend) (status : Nat) (data : List Byte) (now : Nat) : Ctx :=
  let c := { c with pend := c.pend.filter fun q => q.tag ≠ p.tag }
  let c := match p.kind with
    | .loadX rd size => c.writeX rd (scalarLoad size (data.take (scalarBytes size)))
    | .loadV rd => c.writeV rd (bytesVec data)
    | .atom rd _ a64 _ _ => c.writeX rd (BitVec.ofNat 64 (leNat (data.take (if a64 then 8 else 4))))
    | _ => c
  let c := nfStatus p status c
  match p.win, p.kind with
  | some (node, window, offset), .loadX _ _ => if c.wrbFrom ≤ p.tag then wrbFill c node window offset data now else c
  | some (node, window, offset), .loadV _ => if c.wrbFrom ≤ p.tag then wrbFill c node window offset data now else c
  | _, _ => c

/-- RANGE_LOAD_DONE: a load or atomic has its data: its register becomes ready. One that failed ends the
program, unless NF catches it; of a program that has ended the data are discarded (R103, R141, R144). -/
def execRangeLoadDone (tabor ctx tag : Nat) (s : State) : Res3 :=
  s.act (match findCtx s tabor ctx with
  | none => s
  | some c =>
    match c.pend.find? fun p => p.tag = tag with
    | none => s
    | some p =>
      match p.done with
      | none => s
      | some (st, data) =>
        let gone := { c with pend := c.pend.filter fun q => q.tag ≠ tag }
        if c.ending.isSome then
          if statusOk st || p.nf then settleCtx tabor ctx (modCtx tabor ctx (fun _ => gone) s)
          else endCtx tabor ctx st (modCtx tabor ctx (fun _ => gone) s)
        else if statusOk st then modCtx tabor ctx (fun c => applyLoad c p st data s.now) s
        else if p.nf then modCtx tabor ctx (fun _ => nfStatus p st gone) s
        else endCtx tabor ctx st (modCtx tabor ctx (fun _ => gone) s))

/-- WRB_ENTRY_EXPIRY: entries of a context's window read buffer that are 10 µs old are dropped (R174). -/
def execWrbEntryExpiry (tabor ctx : Nat) (s : State) : Res3 :=
  s.act (match findCtx s tabor ctx with
  | none => s
  | some c =>
    match c.wrb with
    | [] => s
    | e :: l =>
      let oldest := l.foldl (fun t x => min t x.at_) e.at_
      let s := s.reach (oldest + 10000)
      modCtx tabor ctx (fun c => { c with wrb := c.wrb.filter fun x => s.now < x.at_ + 10000 }) s)

end Sys2Proof.Machine
end

