-- ==== Sys2Proof/Machine/Waits.lean ====
section
/-!
DEFINITION. Control and wait instructions, packet ends, and the scheduling of invocations on a tabor
(R138, R142, R150, R154–R157).
-/

namespace Sys2Proof.Machine

/-! Control (R138, R157). -/

/-- END: the program has run; its context ends once its accesses have completed, and the low 32 bits of x10
are its result (R131, R144, R159). -/
def issueEnd (p : Proc) (w : BitVec 32) (s : State) : Res3 :=
  issue .endOp p w (fun c s =>
    match p with
    | .tabor t => endCtx t c.id Config.ok (putProc p c s)
    | .gale n => galeDone n none (putProc p c s)
    | .carillon => scriptDone Config.ok s) s

/-- YIELD: the next ready context takes the pipeline (R157). -/
def issueYield (p : Proc) (w : BitVec 32) (s : State) : Res3 :=
  issue .yield p w (fun c s =>
    match p with
    | .tabor t => leave t c.id .ready (putProc p c s)
    | _ => finishOp p c s) s

/-- PASS and REJECT of a packet (R150). -/
def issuePkt (op : Op) (failed : Option Nat) (p : Proc) (w : BitVec 32) (s : State) : Res3 :=
  issue op p w (fun c s =>
    match p with
    | .gale n => galeDone n failed (putProc p c s)
    | _ => s) s

/-! Waits (R142, R166, R251). -/

def counterOf (s : State) (n : Nat) : Nat := s.fa.counters.getD n 0

/-- A satisfied WAITC writes the count to its register, and OK to x31 under NF (R138, R141). -/
def waitcDone (c : Ctx) (rd n : Nat) : Ctx :=
  let nf := (c.code[c.pc - 1]?).any fun w => hasNf .waitc w
  let c := c.writeX rd (BitVec.ofNat 64 n)
  { c with hold := .none, x := if nf then c.x.set 31 0 else c.x }

/-- WAITC: the program goes on when the counter has reached the threshold, and is held until then. A
reference with other bits, or a counter that its tenant does not own, ends it (R251). -/
def issueWaitc (p : Proc) (w : BitVec 32) (s : State) : Res3 :=
  issue .waitc p w (fun c s =>
    let ref := (c.readX (fRs1 w.toNat)).toNat
    let thr := (c.readX (fRs2 w.toNat)).toNat
    let rd := fRd w.toNat
    if heldBack c false then s
    else if 2 ^ 18 ≤ ref then failProc p c Config.invalidDescriptor s
    else if s.fa.ctrOwner.get? ref ≠ some c.tenant then failProc p c Config.accessDenied s
    else if thr ≤ counterOf s ref then finishOp p (waitcDone c rd (counterOf s ref)) s
    else putProc p { c with hold := .counter ref thr rd, holdSince := s.now } s) s

/-- The comparisons of WAITF: equal, not equal, unsigned not less. -/
def waitfMet (cmp v x : Nat) : Bool :=
  match cmp with
  | 0 => v = x
  | 1 => v ≠ x
  | _ => x ≤ v

/-- WAITF on the word at a PHA: whether it can be read, and whether it satisfies the condition. -/
def waitfTest (s : State) (pha cmp x : Nat) : Except Gate Bool :=
  match readOk s pha 8 with
  | .ok => .ok (waitfMet cmp (leNat (readRange s pha 8)) x)
  | g => .error g

/-- WAITF: the program goes on, with acquire effect, when the word satisfies the condition, and is held
until then (R142, R166). -/
def issueWaitf (p : Proc) (w : BitVec 32) (s : State) : Res3 :=
  issue .waitf p w (fun c s =>
    match p with
    | .tabor t =>
      let pva := (c.readX (fRs1 w.toNat)).toNat
      let x := (c.readX (fRs2 w.toNat)).toNat
      let cmp := fFunc w.toNat
      if heldBack c false then s
      else if 2 ^ 56 < pva + 8 then failProc p c Config.translationFault s
      else
        match lookRange s c.tenant pva 8 false with
        | .error (.miss, a) =>
          let s := modCtx t c.id (fun c => { c with hold := .miss (a / 0x200000), holdSince := s.now }) s
          leave t c.id .switchedOut (noteMiss c.tenant a false (.ctx t c.id) s).1
        | .error (.bad st, _) => failProc p c st s
        | .error (_, _) => s
        | .ok (ps, _) =>
          match ps with
          | (pha, 8, _) :: _ =>
            if c.pend.any fun q => q.open_ && q.isStore && q.parts.any fun r => r.key = lineKey s.ch.domIndex (pha / 64) then s
            else
              match waitfTest s pha cmp x with
              | .error (.bad st) => failProc p c st s
              | .error _ => s
              | .ok true => finishOp p { c with emptyWrb := true } s
              | .ok false => putProc p { c with hold := .word pha cmp x, holdSince := s.now } s
          | _ => failProc p c Config.invalidDescriptor s
    | _ => s) s

/-- WAIT_SWITCH_OUT: a program held for longer than WAIT_SWITCH_NS leaves the pipeline (R142). -/
def execWaitSwitchOut (tabor : Nat) (s : State) : Res3 :=
  s.act (match (getTab s tabor).ctxs.find? fun c => c.state = .running with
  | none => s
  | some c =>
    match c.hold with
    | .counter _ _ _ => leave tabor c.id .switchedOut (s.reach (c.holdSince + Par.waitSwitchNs s))
    | .word _ _ _ => leave tabor c.id .switchedOut (s.reach (c.holdSince + Par.waitSwitchNs s))
    | _ => s)

/-- A held context goes on: in the pipeline at once, else as the next ready context. -/
def wakeCtx (t : Nat) (c : Ctx) (s : State) : State :=
  let s := modCtx t c.id (fun _ => { c with hold := .none }) s
  if c.state = .running then s else leave t c.id .ready s

/-- WAIT_CONDITION_MET: the counter or word that a held program waits for satisfies its condition (R142). -/
def execWaitConditionMet (tabor ctx : Nat) (s : State) : Res3 :=
  s.act (match findCtx s tabor ctx with
  | none => s
  | some c =>
    if c.ending.isSome then s
    else
      match c.hold with
      | .counter ref thr rd =>
        if thr ≤ counterOf s ref then wakeCtx tabor (waitcDone c rd (counterOf s ref)) s else s
      | .word pha cmp x =>
        match waitfTest s pha cmp x with
        | .ok true => wakeCtx tabor { c with emptyWrb := true } s
        | .error (.bad st) => endCtx tabor ctx st s
        | _ => s
      | _ => s)

/-! Scheduling (R155–R157). -/

/-- SLICE_EXPIRY: the running context has had SLICE_US while another is ready (R157).
DESIGN CHOICE: log entry 94. -/
def execSliceExpiry (tabor : Nat) (s : State) : Res3 :=
  s.act (
    let v := getTab s tabor
    match v.ctxs.find? fun c => c.state = .running with
    | none => s
    | some c =>
      if v.ctxs.any fun d => d.state = .ready && !quotaHeld s d.tenant then
        let s := s.reach (c.sliceStart + 1000 * Par.sliceUs s)
        leave tabor c.id (if c.hold = .none then .ready else .switchedOut) s
      else s)

/-- The device gives a program a free value for each generator stream, or SR_SEED XOR L (R118, R134). -/
def seedStreams (tabor : Nat) (s : State) : List Nat × State :=
  if Par.srSeed s ≠ 0 then ((List.range 16).map fun i => Nat.xor (Par.srSeed s) (srL tabor i), s)
  else (List.range 16).foldl (fun (x : List Nat × State) _ =>
    let (v, s) := drawEntropy x.2
    (x.1 ++ [v % 2 ^ 64], s)) ([], s)

/-- Granules of instruction store that a program takes (R156). -/
def codeGranules (im : Image) : Nat := (4 * im.code.length + 1023) / 1024

/-- Residents left once the least recently started programs without a live context have made room for
`need` granules of the 12; none if they cannot. -/
def makeRoom (live : List Nat) (need : Nat) : Nat → List Resident → Option (List Resident)
  | 0, _ => none
  | fuel + 1, rs =>
    let used := rs.foldl (fun n r => n + r.granules) 0
    if used + need ≤ 12 then some rs
    else
      let idle := rs.filter fun r => !live.contains r.handle
      match idle with
      | [] => none
      | r :: l =>
        let old := l.foldl (fun (b : Resident) x => if x.started < b.started then x else b) r
        makeRoom live need fuel (rs.filter fun x => x.handle ≠ old.handle)

/-- A tabor that runs programs: it is neither fused off nor fenced, nor is its fence in progress, nor is its
kit left unclocked or being reset. -/
def taborRuns (s : State) (t : Nat) : Bool :=
  t < 4352 && !s.co.fused.mem t && !s.co.fenced.mem t && !s.co.fences.has t && !s.co.deadKits.mem (t / 68) &&
    !kitInReset s (t / 68)

/-- INVOCATION_ADMIT: the oldest invocation of a tabor's queue is admitted when a context, its scratch and
room for its instructions are free (R155, R156). -/
def execInvocationAdmit (tabor : Nat) (s : State) : Res3 :=
  .next (
    let v := getTab s tabor
    match v.queue with
    | [] => s
    | q :: rest =>
      if !s.alive || !taborRuns s tabor then s
      else
        match s.co.images.get? q.handle with
        | none => s
        | some im =>
          let used := v.ctxs.foldl (fun n c => n + c.granules) 0
          if Par.contextsPerTabor s ≤ v.ctxs.length || 56 < used + im.scratchKib + 3 then s
          else
            let live := v.ctxs.map fun c => c.handle
            let res : Option (List Resident × Bool) :=
              match v.resident.find? fun r => r.handle = q.handle with
              | some r => some (v.resident.map fun x => if x.handle = q.handle then { x with started := s.now } else x, r.ready)
              | none => (makeRoom live (codeGranules im) 13 v.resident).map fun l =>
                  (l ++ [{ handle := q.handle, granules := codeGranules im, started := s.now, ready := false }], false)
            match res with
            | none => s
            | some (l, ready) =>
              let (sr, s) := seedStreams tabor s
              let c := newCtx s.co.nextCtx q.tenant q.item q.handle im q.fuel tabor q.args sr s.now
              let c := { c with state := if ready then .ready else .held }
              let s := s.setCo { s.co with nextCtx := s.co.nextCtx + 1 }
              schedule tabor (setTab tabor { getTab s tabor with queue := rest, resident := l, ctxs := v.ctxs ++ [c] } s))

/-- PROGRAM_RESIDENT: a program's instructions are in the tabor's store; contexts that waited for them are
ready (R156). -/
def execProgramResident (tabor handle : Nat) (s : State) : Res3 :=
  s.act (
    let v := getTab s tabor
    if !v.resident.any fun r => r.handle = handle && !r.ready then s
    else
      schedule tabor (setTab tabor { v with
        resident := v.resident.map fun r => if r.handle = handle then { r with ready := true } else r
        ctxs := v.ctxs.map fun c =>
          if c.handle = handle && c.state = .held && c.ending.isNone then { c with state := .ready } else c } s))

end Sys2Proof.Machine
end

