-- ==== Sys2Proof/Machine/HostPort.lean ====
section
/-!
DEFINITION. The registers of the host ports, queues and doorbells, the fetch of entries, and the posting of
completions (R302–R331).
-/

namespace Sys2Proof.Machine

/-! Queues. Queue 8 of function 0 names the command ring as a submission queue and the request ring as a
completion queue (R313). -/

def getSq (s : State) (p f q : Nat) : Ring :=
  if f = 0 && q = 8 then (getPort s p).cmdRing else (getFn s p f).sq.getD q {}

def setSq (p f q : Nat) (r : Ring) (s : State) : State :=
  if f = 0 && q = 8 then setPort s p { getPort s p with cmdRing := r }
  else let fn := getFn s p f; setFn s p f { fn with sq := fn.sq.set q r }

def getCq (s : State) (p f q : Nat) : Ring :=
  if f = 0 && q = 8 then (getPort s p).reqRing else (getFn s p f).cq.getD q {}

def setCq (p f q : Nat) (r : Ring) (s : State) : State :=
  if f = 0 && q = 8 then setPort s p { getPort s p with reqRing := r }
  else let fn := getFn s p f; setFn s p f { fn with cq := fn.cq.set q r }

/-- A queue that its function has and that is not reserved (R304, R313); in recovery mode there is none (R550). -/
def queueExists (s : State) (p f q : Nat) : Bool :=
  p < 2 && s.bt.stage < 5 && ((f = 0 && (q = 0 || q = 8)) || (1 ≤ f && f ≤ 512 && q < Par.sqPerTenant s))

/-- Register accesses reach the device (R486): step 2 of boot has ended (R540). -/
def mmioUp (s : State) (p : Nat) : Bool := p < 2 && (getPort s p).up && s.alive && 2 ≤ s.bt.stage

/-- The mailbox of a port is reached: in every shedding stage, and from the end of step 1 of boot (R525, R542). -/
def mailboxUp (s : State) (p : Nat) : Bool := p < 2 && (getPort s p).up && s.powered && 1 ≤ s.bt.stage

/-- The tenant of a function is ACTIVE; the physical function has none. -/
def fnActive (s : State) (p f : Nat) : Bool :=
  f = 0 || (s.tr.tenants.get? (fnTenant p f)).any fun t => t.state = 1

/-- The event subject of a function: its tenant, or 0 for the physical function. -/
def fnSubject (p f : Nat) : Nat := if f = 0 then 0 else fnTenant p f

/-! Completion queues and the spill area (R314, R315, R324–R328). -/

/-- A vector of a completion queue is sent when it is due (R315). -/
def cqSignal (p f q : Nat) (s : State) : State :=
  let r := getCq s p f q
  if r.irqDue s.now then
    sendVector p f (if f = 0 && q = 8 then 1 else q) (setCq p f q { r with unsig := 0 } s)
  else s

/-- A completion queue can take an entry now. -/
def cqTakes (s : State) (p f q : Nat) : Bool :=
  let r := getCq s p f q
  (getPort s p).up && (getFn s p f).bme && r.qstate = 1 && !r.full

/-- The 32 bytes of a completion entry (R324). -/
def cplBytes (c : Cpl) (spilled phase : Bool) (head : Nat) : List Byte :=
  leBytes 8 (c.cid + 2 ^ 16 * c.status + 2 ^ 24 * (c.sq % 8) + 2 ^ 27 * b2n spilled + 2 ^ 32 * head) ++
    leBytes 8 c.r0 ++ leBytes 8 c.r1 ++ leBytes 8 (2 ^ 63 * b2n phase)

/-- A completion is written into its queue. -/
def writeCpl (p : Nat) (c : Cpl) (spilled : Bool) (s : State) : State :=
  let r := getCq s p c.fn c.cq
  let s := hostWrite p c.fn (r.base + 32 * r.tail) (cplBytes c spilled r.phase (getSq s p c.fn c.sq).head) s
  cqSignal p c.fn c.cq (setCq p c.fn c.cq (r.advance s.now) s)

/-- Waiting completions are written, each queue's in the order in which they were posted (R328). -/
def drainSpill (p : Nat) (s : State) : State :=
  let l := (getPort s p).spill
  let (s, left) := l.foldl (fun (x : State × List Cpl) c =>
    let (s, left) := x
    if cqTakes s p c.fn c.cq && !left.any (fun d => d.fn = c.fn && d.cq = c.cq) then (writeCpl p c true s, left)
    else (s, left ++ [c])) (s, [])
  setPort s p { getPort s p with spill := left }

/-- A completion is posted: into its queue, or into the spill area (R325, R327, R328). -/
def postCpl (p : Nat) (c : Cpl) (s : State) : State :=
  if cqTakes s p c.fn c.cq && !(getPort s p).spill.any (fun d => d.fn = c.fn && d.cq = c.cq) then writeCpl p c false s
  else setPort s p { getPort s p with spill := (getPort s p).spill ++ [c] }

/-- A flag-store of a tenant to a window: its request, or its outcome in a window of this device; none while
the word cannot be written yet. -/
def flagStore (node tenant window offset word : Nat) (origin : Origin) (s : State) : Option (Except Nat (Option Nat) × State) :=
  match jobOf s tenant with
  | none => some (.error Config.accessDenied, s)
  | some job =>
    if node = s.fa.nodeId then
      match rwtCheck s job window 3 offset 8 8 none with
      | .error st => some (.error st, s)
      | .ok a =>
        if intercepted s a then some (.error Config.invalidDescriptor, s)
        else
          match writeOk a 8 tenant s with
          | (s, .ok) => some (.ok none, putWord a word s)
          | (s, .bad st) => some (.error st, s)
          | (_, .stall) => none
    else
      let n := s.fa.nextReq
      some (.ok (some n), sendReq node origin tenant 0
        { noPkt with kind := 3, tc := tenantClass s tenant, job := job, window := window, offset := offset,
                     payload := leBytes 8 word } s)

/-- The reply word of a Cumulus request line that has ended (R421). The item keeps FOUND at 10 and 1 + the PEER of
an ownership refusal at 9. -/
def replyWord (i : Item) (st : Nat) : Nat :=
  let value := match i.opcode with
    | 0x3A => if statusOk st then i.r0 % 2 ^ 32 else 0
    | 0x3B | 0x3C => if statusOk st then i.r0 % 2 ^ 16 else 0
    | 0x39 => if statusOk st then i.r0 % 2 ^ 32 else 0
    | _ => 0
  let value := if st = Config.staleVersion then i.r0 % 2 ^ 32 else value
  let peer := match i.regs.getD 9 0 with
    | 0 => 0xFFFF
    | k => k - 1
  st + 2 ^ 8 * i.regs.getD 10 0 + 2 ^ 16 * peer + 2 ^ 32 * value

/-- The one reply of a request line whose item has ended and has nothing outstanding (R421). One that its
destination refuses is dropped. -/
def replyLine (n : Nat) (s : State) : State :=
  match getItem? s n with
  | none => s
  | some i =>
    match i.ended, i.src with
    | some st, .line _ node window offset =>
      if !i.out.isEmpty || !s.alive then s
      else
        match flagStore node i.tenant window offset (replyWord i st) (.reply i.tenant) s with
        | none => s
        | some (res, s) =>
          let s := s.setHo { s.ho with items := s.ho.items.erase n }
          match res with
          | .ok _ => s
          | .error _ => raise 0x172 i.tenant node 0 s
    | _, _ => s

/-- An item has ended and everything that it issued has been performed or has failed: its one completion is posted,
or the reply of a request line is sent (R170, R325, R421). -/
def postItem (item : Nat) (s : State) : State :=
  match getItem? s item with
  | none => s
  | some i =>
    match i.ended, i.src with
    | some st, .host p f q cid =>
      if !i.out.isEmpty || !s.alive then s
      else
        let s := s.setHo { s.ho with items := s.ho.items.erase item }
        if i.discard then s else postCpl p { fn := f, cq := (getSq s p f q).cq, sq := q, cid := cid, status := st, r0 := i.r0, r1 := i.r1 } s
    | some _, .line _ _ _ _ => replyLine item s
    | none, _ => s

/-- COMPLETION_POST: the one completion of an item that has ended is posted (R170, R325, R421); during a chip warm
reset completions wait for its step 5 (R474). DESIGN CHOICE: log entry 27. -/
def execCompletionPost (item : Nat) (s : State) : Res3 :=
  s.act (if s.rc.warmStep ≠ 0 then s else postItem item s)

/-- IRQ_TIME_EXPIRY: the oldest unsignalled entry is IRQ_TIME_US old (R315). -/
def execIrqTimeExpiry (port fn q : Nat) (s : State) : Res3 :=
  s.act (
    let r := getCq s port fn q
    if !r.irqEn || r.unsig = 0 then s else cqSignal port fn q (s.reach (r.oldest + 1000 * r.irqTime)))

/-! Queue registers (R306–R312). -/

/-- The fields of SQ_CFG that a write takes while ENABLE is 0; the rings and the administrative queue
reserve some of them (R307, R313). -/
def sqFields (f v : Nat) (r : Ring) : Ring :=
  if f = 0 then { r with sizeLog2 := v % 16, cq := 0 }
  else { r with sizeLog2 := v % 16, cq := bitsOf v 7 5, pasid := bitsOf v 27 8, pasidEn := bitOf v 28 }

/-- The interrupt fields of CQ_CFG; a count of 0 is outside the field's range and is not taken (R308).
DESIGN CHOICE: log entry 24. -/
def irqFields (v : Nat) (r : Ring) : Ring :=
  { r with irqEn := bitOf v 5, irqCount := if bitsOf v 15 8 = 0 then r.irqCount else bitsOf v 15 8, irqTime := bitsOf v 31 16 }

/-- SQ_ENABLE: a write of SQ_CFG that sets ENABLE: the queue becomes ACTIVE and empty, or the register stays
as it was (R310). -/
def execSqEnable (port fn q value : Nat) (s : State) : Res3 :=
  .next (
    let r := getSq s port fn q
    if !mmioUp s port || !queueExists s port fn q || r.enable || !bitOf value 4 then s
    else
      let r := sqFields fn value r
      let top := if fn = 0 && q = 8 then 14 else 12
      let cqOk := (fn = 0 && q = 8) || (getCq s port fn r.cq).qstate = 1
      if r.sizeLog2 < 4 || top < r.sizeLog2 || !fnActive s port fn || !cqOk then s
      else setSq port fn q { r with enable := true, qstate := 1, head := 0, tail := 0 } s)

/-- SQ_DISABLE: a write of SQ_CFG that clears ENABLE: fetching stops and the queue drains (R311). -/
def execSqDisable (port fn q value : Nat) (s : State) : Res3 :=
  .next (
    let r := getSq s port fn q
    if !mmioUp s port || !queueExists s port fn q || !r.enable || bitOf value 4 then s
    else setSq port fn q { r with enable := false, qstate := 2 } s)

/-- Items of a queue that have not had their completion posted. -/
def outstanding (s : State) (p f q : Nat) : Nat :=
  s.ho.items.count fun _ i => match i.src with
    | .host p' f' q' _ => p' = p && f' = f && q' = q
    | _ => false

/-- SQ_DRAIN_DONE: a draining queue has had every completion written, or spilled where its completion queue
is in ERROR or disabled: it becomes DISABLED (R311). The command ring drains until every RESULT is written. -/
def execSqDrainDone (port fn q : Nat) (s : State) : Res3 :=
  s.act (
    let r := getSq s port fn q
    if r.qstate ≠ 2 then s
    else if fn = 0 && q = 8 then
      let owed := s.tr.withdrawals.any fun kv => kv.2.port = port && kv.2.op ≠ 0 && kv.2.op ≠ 0xA5
      let waits := (getPort s port).waiting.any fun e => match e with
        | .result _ _ _ => true
        | _ => false
      if owed || waits then s else setSq port fn q { r with qstate := 0 } s
    else
      let c := getCq s port fn r.cq
      let spilled := (getPort s port).spill.any fun d => d.fn = fn && d.sq = q
      if outstanding s port fn q ≠ 0 || (spilled && c.qstate = 1) then s
      else setSq port fn q { r with qstate := 0 } s)

/-- CQ_ENABLE: a write of CQ_CFG that sets ENABLE: the queue starts empty with phase 1, and waiting entries
are written into it (R310, R312, R328). -/
def execCqEnable (port fn q value : Nat) (s : State) : Res3 :=
  .next (
    let r := getCq s port fn q
    if !mmioUp s port || !queueExists s port fn q || r.enable || !bitOf value 4 then s
    else
      let r := { irqFields value r with sizeLog2 := value % 16 }
      if r.sizeLog2 < 4 || 14 < r.sizeLog2 || !fnActive s port fn then s
      else
        let s := setCq port fn q { r with enable := true, qstate := 1, head := 0, tail := 0, phase := true, unsig := 0 } s
        if fn = 0 && q = 8 then drainReqRing port ((getPort s port).waiting.length + 1) s else drainSpill port s)

/-- CQ_DISABLE: a write of CQ_CFG that clears ENABLE: it is refused while a submission queue bound to the
queue is not DISABLED, unless the queue is in ERROR (R310, R312). -/
def execCqDisable (port fn q value : Nat) (s : State) : Res3 :=
  .next (
    let r := getCq s port fn q
    let bound := !(fn = 0 && q = 8) && (getFn s port fn).sq.any fun kv => kv.2.cq = q && kv.2.qstate ≠ 0
    if !mmioUp s port || !queueExists s port fn q || !r.enable || bitOf value 4 || (bound && r.qstate ≠ 3) then s
    else setCq port fn q { irqFields value r with enable := false, qstate := 0 } s)

/-- A queue goes to ERROR and QUEUE_ERROR is raised (R312). DESIGN CHOICE: log entry 25. -/
def queueError (p f q : Nat) (s : State) : State := raise 0x160 (fnSubject p f) q 0 s

/-- SQ_TAIL_DOORBELL (R309, R312, R318). -/
def execSqTailDoorbell (port fn q value : Nat) (s : State) : Res3 :=
  .next (
    let r := getSq s port fn q
    let v := value % 4096
    if !mmioUp s port || !queueExists s port fn q || (fn = 0 && q = 8) || r.qstate ≠ 1 then s
    else if r.slots ≤ v then queueError port fn q (setSq port fn q { r with qstate := 3 } s)
    else setSq port fn q { r with tail := v } s)

/-- CQ_HEAD_DOORBELL: slots are free again, and waiting completions are written into them (R314, R328). -/
def execCqHeadDoorbell (port fn q value : Nat) (s : State) : Res3 :=
  .next (
    let r := getCq s port fn q
    let v := value % 16384
    if !mmioUp s port || !queueExists s port fn q || (fn = 0 && q = 8) || r.qstate ≠ 1 then s
    else if r.slots ≤ v then queueError port fn q (setCq port fn q { r with qstate := 3 } s)
    else drainSpill port (setCq port fn q { r with head := v } s))

/-- REQ_RING_HEAD_DOORBELL: slots of the request ring are free for waiting entries (R282, R313). -/
def execReqRingHeadDoorbell (port value : Nat) (s : State) : Res3 :=
  .next (
    let r := getCq s port 0 8
    let v := value % 16384
    if !mmioUp s port || r.qstate ≠ 1 then s
    else if r.slots ≤ v then queueError port 0 8 (setCq port 0 8 { r with qstate := 3 } s)
    else drainReqRing port ((getPort s port).waiting.length + 1) (setCq port 0 8 { r with head := v } s))

/-- CMD_RING_TAIL_DOORBELL: entries of the command ring are there for the translation channel (R268, R313). -/
def execCmdRingTailDoorbell (port value : Nat) (s : State) : Res3 :=
  .next (
    let r := getSq s port 0 8
    let v := value % 16384
    if !mmioUp s port || r.qstate ≠ 1 then s
    else if r.slots ≤ v then queueError port 0 8 (setSq port 0 8 { r with qstate := 3 } s)
    else setSq port 0 8 { r with tail := v } s)

/-! Plain register writes (R303, R306). -/

/-- One 32-bit half of a 64-bit register after a write of 4 or 8 bytes at byte `at_` of it. -/
def mergeReg (old at_ width v : Nat) : Nat :=
  if width = 8 then v % 2 ^ 64
  else if at_ = 0 then 2 ^ 32 * (old / 2 ^ 32) + v % 2 ^ 32
  else old % 2 ^ 32 + 2 ^ 32 * (v % 2 ^ 32)

/-- A write to BASE: bits [11:0] are zero, and nothing changes while ENABLE is 1 (R306, R310). -/
def writeBase (r : Ring) (at_ width v : Nat) : Ring :=
  if r.enable then r else { r with base := 4096 * (mergeReg r.base at_ width v / 4096) }

/-- A write to SQ_CFG that leaves ENABLE as it is. -/
def writeSqCfg (p f q v : Nat) (s : State) : State :=
  let r := getSq s p f q
  if r.enable || bitOf v 4 then s else setSq p f q (sqFields f v r) s

/-- A write to CQ_CFG that leaves ENABLE as it is; the interrupt fields follow it at any time (R310). -/
def writeCqCfg (p f q v : Nat) (s : State) : State :=
  let r := getCq s p f q
  if r.enable ≠ bitOf v 4 then s
  else
    let r := irqFields v r
    cqSignal p f q (setCq p f q (if r.enable then r else { r with sizeLog2 := v % 16 }) s)

/-- A dword of the MSI-X table; a vector that is unmasked while pending is sent (R304, R313).
PRESUMED: log entry 19. DEDUCED: log entry 23. -/
def writeMsix (p f d v : Nat) (s : State) : State :=
  let fn := getFn s p f
  let fn := { fn with msix := fn.msix.set d (v % 2 ^ 32) }
  let vec := d / 4
  if d % 4 = 3 && !bitOf v 0 && fn.pba.mem vec && fn.bme then
    emit (.msix p f vec) (setFn s p f { fn with pba := fn.pba.del vec })
  else setFn s p f fn

/-- A write of a queue's base or configuration register at an offset from the queue registers' start. -/
def writeQueueReg (sq : Bool) (p f q off width v : Nat) (s : State) : State :=
  if !queueExists s p f q then s
  else if off < 8 then
    if sq then setSq p f q (writeBase (getSq s p f q) off width v) s
    else setCq p f q (writeBase (getCq s p f q) off width v) s
  else if off = 8 then (if sq then writeSqCfg p f q v s else writeCqCfg p f q v s)
  else s

/-- MMIO_REG_WRITE: an aligned write of 4 or 8 bytes to a register that is no doorbell and leaves ENABLE as
it is stores its fields, or the bytes of the mailbox's request buffer; every other write has no effect (R303, R304, R310, R313). -/
def execMmioRegWrite (port fn offset width value : Nat) (s : State) : Res3 :=
  .next (
    if mailboxUp s port && fn = 0 && (width = 4 || width = 8) && offset % width = 0 && 0x11000 ≤ offset && offset < 0x15000 then
      let mb := getMb s port
      let bytes := (leBytes width value).zipIdx
      setMb s port { mb with reqBuf := bytes.foldl (fun m b => m.set (offset - 0x11000 + b.2) b.1) mb.reqBuf }
    else if !mmioUp s port || 512 < fn || (width ≠ 4 && width ≠ 8) || offset % width ≠ 0 then s
    else if fn = 0 && 0x800 ≤ offset && offset < 0x820 then
      writeQueueReg (0x810 ≤ offset) port 0 8 (offset % 16) width value s
    else if 0x100 ≤ offset && offset < 0x300 && offset % 0x100 < (if fn = 0 then 0x10 else 0x100) then
      writeQueueReg (offset < 0x200) port fn (offset % 0x100 / 0x20) (offset % 0x20) width value s
    else if 0x2000 ≤ offset && offset < 0x2000 + (if fn = 0 then 48 else 128) then
      let d := (offset - 0x2000) / 4
      let s := writeMsix port fn d value s
      if width = 8 then writeMsix port fn (d + 1) (value / 2 ^ 32) s else s
    else s)

/-- BUS_MASTER_ENABLE: the bit of a function changes: with it set, waiting entries and vectors go (R327, R328). -/
def execBusMasterEnable (port fn : Nat) (on : Bool) (s : State) : Res3 :=
  .next (
    if !mmioUp s port || 512 < fn then s
    else
      let s := setFn s port fn { getFn s port fn with bme := on }
      if !on then s
      else
        let s := (getFn s port fn).pba.foldl (fun s kv =>
          if bitOf ((getFn s port fn).msix.getD (4 * kv.1 + 3) 1) 0 then s
          else emit (.msix port fn kv.1) (setFn s port fn { getFn s port fn with pba := (getFn s port fn).pba.del kv.1 })) s
        let s := if fn = 0 then drainReqRing port ((getPort s port).waiting.length + 1) s else s
        drainSpill port s)

/-! The link (R327–R329). -/

/-- HOST_LINK_DOWN: a port leaves DL_Active with its last `unacked` write requests not acknowledged: they and
the reads without a completion are to be sent again (R328, R329). -/
def execHostLinkDown (port unacked : Nat) (s : State) : Res3 :=
  s.act (
    let hp := getPort s port
    if 2 ≤ port || !hp.up then s
    else
      let isWrite := fun (r : HostReq) => match r with
        | .write _ _ _ => true
        | _ => false
      let writes := (hp.sent.filter isWrite).length
      let (again, done, _) := hp.sent.foldl (fun (x : List HostReq × List HostReq × Nat) r =>
        let (again, done, n) := x
        if isWrite r then
          if writes - unacked ≤ n then (again ++ [r], done, n + 1) else (again, done ++ [r], n + 1)
        else (again ++ [r], done, n)) ([], [], 0)
      raise 0x161 port 0 0 (setPort s port { hp with up := false, sent := done, replay := again }))

/-- HOST_LINK_UP: the port is in DL_Active: requests are issued again in their order before newer ones, and
waiting completions are written (R328, R329). -/
def execHostLinkUp (port : Nat) (s : State) : Res3 :=
  .next (
    let hp := getPort s port
    if 2 ≤ port || hp.up || !s.alive || s.bt.stage = 0 then s
    else
      let s := setPort s port { hp with up := true, sent := hp.sent ++ hp.replay ++ hp.held, replay := [], held := [] }
      let s := raise 0x162 port 0 0 s
      drainSpill port (drainReqRing port ((getPort s port).waiting.length + 1) s))

/-- Whether a read of host memory is still outstanding. -/
def readOpen (s : State) (tag : Nat) : Bool :=
  (List.range 2).any fun p =>
    let hp := getPort s p
    (hp.sent ++ hp.replay ++ hp.held).any fun r => match r with
      | .read _ t _ _ => t = tag
      | .write _ _ _ => false

/-- ATS invalidations whose last outstanding read has ended are completed (R293). -/
def settleInvs (s : State) : State :=
  s.tr.withdrawals.foldl (fun s kv =>
    if kv.2.op = 0xA5 && kv.2.ents.all (fun n => !readOpen s n) then
      emit (.pcie kv.2.port 3 kv.2.tenant kv.2.first kv.2.pages) (s.setTr { s.tr with withdrawals := s.tr.withdrawals.erase kv.1 })
    else s) s

/-- HOST_READ_COMPLETION: the data of a read of host memory reach the item that waits for them (R329).
DESIGN CHOICE: log entry 21. -/
def execHostReadCompletion (tag : Nat) (data : List Byte) (s : State) : Res3 :=
  .next (
    let found := (List.range 2).findSome? fun p =>
      ((getPort s p).sent.find? fun r => match r with
        | .read _ t _ len => t = tag && len = data.length
        | _ => false).map fun r => (p, r)
    match found with
    | none => s
    | some (p, r) =>
      if !mmioUp s p then s
      else
        let s := setPort s p { getPort s p with sent := (getPort s p).sent.erase r }
        let got := fun (i : Item) => if i.wait = Wait.host tag then { i with wait := .none, data := i.data ++ data } else i
        settleInvs (s.setHo { s.ho with items := s.ho.items.mapVal fun _ i => got i }))

/-! Fetching (R316–R320). -/

/-- The opcodes of R321: opcode, accepted on the administrative queue, accepted on a VF queue, with an
extension, idempotent. DEDUCED: log entry 23. -/
def opcodes : List (Nat × Bool × Bool × Bool × Bool) := [
  (0x00, true, true, false, true), (0x01, false, true, false, true), (0x02, false, true, false, true),
  (0x03, false, true, false, false), (0x04, false, true, false, false), (0x08, false, true, false, true),
  (0x09, false, true, false, true), (0x0A, false, true, false, true), (0x10, false, true, false, false),
  (0x11, false, true, false, true), (0x12, false, true, true, false), (0x13, false, true, false, true),
  (0x14, false, true, false, true), (0x18, false, true, false, false), (0x19, false, true, false, false),
  (0x1A, false, true, true, false), (0x1B, false, true, false, false), (0x1C, false, true, false, false),
  (0x1D, false, true, false, true), (0x1E, false, true, false, false), (0x20, false, true, true, false),
  (0x21, false, true, true, false), (0x28, false, true, true, false), (0x29, false, true, true, false),
  (0x2A, false, true, true, true), (0x2B, false, true, true, false), (0x2C, false, true, false, false),
  (0x30, false, true, true, false), (0x31, false, true, true, true), (0x32, false, true, true, false),
  (0x33, false, true, false, false), (0x34, false, true, false, false), (0x35, false, true, false, true),
  (0x36, false, true, false, false), (0x38, false, true, true, false), (0x39, false, true, true, false),
  (0x3A, false, true, true, true), (0x3B, false, true, false, false), (0x3C, false, true, false, false),
  (0x3D, false, true, false, false), (0x3E, false, true, false, true), (0x3F, false, true, false, false),
  (0x40, false, true, true, true), (0x80, true, false, false, true)]

/-- The outcome of the checks of R320 at fetch: none, or the status of the first that applies.
DEDUCED: log entry 23. -/
def fetchRefusal (s : State) (f tenant : Nat) (w : List Nat) : Option Nat :=
  let op := wBits w 0 7 0
  let row := opcodes.find? fun r => r.1 = op
  let stage := s.pw.stage
  if s.rc.deviceState ≠ 0 && op ≠ 0 then some Config.deviceOutOfService
  else if f ≠ 0 && !(s.tr.tenants.get? tenant).any (fun t => t.state = 1) then some Config.accessDenied
  else if f ≠ 0 && row.any (fun r => !r.2.2.1) then some Config.accessDenied
  else if 3 ≤ stage || (2 ≤ stage && [0x31, 0x32, 0x2A, 0x2B].contains op) || (1 ≤ stage && [0x35, 0x80].contains op) then
    some Config.shed
  else
    match row with
    | none => some Config.invalidDescriptor
    | some (_, adm, _, ext, _) =>
      if (f = 0 && !adm) || ext ≠ bitOf (wordAt w 0) 9 || wBits w 0 15 10 ≠ 0 || wBits w 0 63 32 ≠ 0 then
        some Config.invalidDescriptor
      else none

/-- A per-tenant limit holds an opcode at fetch (R381, R409, R441). -/
def fetchHeld (s : State) (tenant op : Nat) : Bool :=
  let n := s.ho.items.count fun _ i => i.tenant = tenant && i.opcode = op && i.ended.isNone
  (op = 0x2A && Par.lookupsPerTenant s ≤ n) || (op = 0x31 && Par.searchesPerTenant s ≤ n) ||
    (op = 0x40 && Par.checksPerTenant s ≤ n)

/-- Entries between HEAD and the tail. -/
def Ring.avail (r : Ring) : Nat := (r.tail + r.slots - r.head) % r.slots

/-- A queue from which an entry may be fetched now. -/
def fetchable (s : State) (p f q : Nat) : Bool :=
  let r := getSq s p f q
  (getFn s p f).bme && r.qstate = 1 && r.avail ≠ 0 && outstanding s p f q < r.slots

/-- The queue of a function whose turn it is: the next after the last one served. -/
def nextQueue (s : State) (p f : Nat) : Option Nat :=
  let last := (getFn s p f).lastQ
  ((List.range 8).map fun i => (last + 1 + i) % 8).find? fun q => fetchable s p f q

/-- The function and queue whose turn it is on a port: the same as before while its turn lasts, else the next
function that has pending entries (R318). -/
def fetchTurn (s : State) (p : Nat) : Option (Nat × Nat) :=
  let (f, q, n) := (getPort s p).rr
  if 0 < n && n < Par.fetchBurst s && fetchable s p f q then some (f, q)
  else
    let fs := (getPort s p).fns.map Prod.fst
    let order := (fs.filter fun g => f < g) ++ (fs.filter fun g => g ≤ f)
    order.findSome? fun g => (nextQueue s p g).map fun q => (g, q)

/-- SQ_ENTRY_FETCH: the entry at HEAD of the queue whose turn it is, with its extension, becomes an item, or
an item that ends at once with the status of R320 (R317–R320). DESIGN CHOICE: log entries 21, 26.
DEDUCED: log entry 22. -/
def execSqEntryFetch (port fn q : Nat) (words : List Nat) (s : State) : Res3 :=
  .next (
    let r := getSq s port fn q
    let n := if bitOf (wordAt words 0) 9 then 2 else 1
    let op := wBits words 0 7 0
    let tenant := if fn = 0 then 0 else fnTenant port fn
    if !mmioUp s port || s.rc.warmStep ≠ 0 || fetchTurn s port ≠ some (fn, q) then s
    else if words.length ≠ 8 * n || r.avail < n || (fetchRefusal s fn tenant words).isNone && fetchHeld s tenant op then s
    else
      let item : Item := { src := .host port fn q (wBits words 0 31 16), tenant := tenant, opcode := op,
                           ordered := bitOf (wordAt words 0) 8, words := words.map fun w => w % 2 ^ 64,
                           ended := fetchRefusal s fn tenant words }
      let s := setSq port fn q { r with head := (r.head + n) % r.slots } s
      let s := setFn s port fn { getFn s port fn with lastQ := q }
      let (f0, q0, k) := (getPort s port).rr
      let k := if f0 = fn && q0 = q && k < Par.fetchBurst s then k + 1 else 1
      let s := setPort s port { getPort s port with rr := (fn, q, k) }
      s.setHo { s.ho with items := s.ho.items.set s.ho.nextItem item, nextItem := s.ho.nextItem + 1 })

end Sys2Proof.Machine
end

