-- ==== Sys2Proof/Machine/Items.lean ====
section
/-!
DEFINITION. Items: when one may be performed, its accesses to the range and to host memory, and the
commands of chapter 11 on memory and pages (R292, R316–R323, R332, R32, R47–R50, R60).
-/

namespace Sys2Proof.Machine

/-! When an item may be performed (R316–R319). -/

/-- The queue of a host item. -/
def ItemSrc.queue : ItemSrc → Option (Nat × Nat × Nat)
  | .host p f q _ => some (p, f, q)
  | .line _ _ _ _ => none

/-- A fetched item may start: the device is READY, every earlier item of its queue has started, and for an
ORDERED item every earlier one has had its completion posted. -/
def mayStart (s : State) (n : Nat) (i : Item) : Bool :=
  s.bt.stage = 4 &&
    !s.ho.items.any fun kv =>
      kv.1 < n && i.src.queue.isSome && kv.2.src.queue = i.src.queue &&
        (i.ordered || !(kv.2.started || kv.2.ended.isSome))

/-- An item of an opcode that can go on now is marked as started and performed.
DESIGN CHOICE: log entry 27. -/
def withItem (n op : Nat) (s : State) (k : Item → State → State) : State :=
  match getItem? s n with
  | none => s
  | some i =>
    if !s.alive || i.opcode ≠ op || i.src.queue.isNone || i.ended.isSome || i.wait ≠ .none || s.rc.warmStep ≠ 0 then s
    else if !i.started && !mayStart s n i then s
    else k { i with started := true } (setItem n { i with started := true } s)

/-- The reserved bits of words 1 to 7 are zero: the widths that an opcode uses, from word 1. -/
def widthsOk (w : List Nat) (widths : List Nat) : Bool :=
  (List.range 7).all fun i => wordAt w (i + 1) < 2 ^ widths.getD i 0

/-- An item whose parameters break the rules of its opcode ends with INVALID_DESCRIPTOR (R320, R322). -/
def checked (n : Nat) (ok : Bool) (s : State) (k : State → State) : State :=
  if ok then k s else endItem n Config.invalidDescriptor 0 0 s

/-! Accesses of an engine on behalf of an item. -/

/-- How an access of an engine ends: with a value, with a status, or not yet. -/
inductive Acc (α : Type) where
  | ok (a : α) (s : State)
  | bad (status : Nat) (s : State)
  | wait (s : State)

/-- The next access after one that has succeeded. -/
def Acc.bind {α β : Type} (x : Acc α) (k : α → State → Acc β) : Acc β :=
  match x with
  | .ok a s => k a s
  | .bad st s => .bad st s
  | .wait s => .wait s

/-- The state after the accesses of an item: a status that is not OK ends it. -/
def Acc.run (n : Nat) (x : Acc Unit) : State :=
  match x with
  | .ok _ s => s
  | .bad st s => endItem n st 0 0 s
  | .wait s => s

/-- A translation that has just been used. -/
def ptcTouch (ents : List Nat) (s : State) : State :=
  ents.foldl (fun s e => s.setTr { s.tr with ptc := s.tr.ptc.modify e fun x => { x with last := s.now } }) s

/-- A PVA range of a tenant is translated for an item: the pieces as PHA, bytes and place. A miss makes the
item wait (R278). -/
def tryLook (n tenant pva len : Nat) (write : Bool) (s : State) : Acc (List (Nat × Nat × Nat)) :=
  if 2 ^ 56 < pva + len then .bad Config.translationFault s
  else
    match lookRange s tenant pva len write with
    | .error (.miss, a) =>
      let (s, tag) := noteMiss tenant a write (.item n) s
      .wait (modItem n (fun i => { i with wait := .miss tag }) s)
    | .error (.bad st, _) => .bad st s
    | .error (_, _) => .wait s
    | .ok (ps, ents) => .ok ps (ptcTouch ents s)

/-- Bytes at places of the range, once they can be read. -/
def readParts (ps : List (Nat × Nat × Nat)) (s : State) : Acc (List Byte) :=
  let gate := ps.foldl (fun (g : Gate) (a, k, _) => match g with
    | .ok => readOk s a k
    | g => g) .ok
  match gate with
  | .bad st => .bad st s
  | .stall => .wait s
  | .ok => .ok (ps.flatMap fun (a, k, _) => readRange s a k) (ps.foldl (fun s (a, k, _) => sampleRange a k s) s)

/-- Bytes written to places of the range, once they can be. Only whole lines may be written to an inbox or a
request area, so that any other write there is refused (R345, R419). -/
def writeParts (n tenant : Nat) (ps : List (Nat × Nat × Nat)) (bytes : List Byte) (s : State) : Acc Unit :=
  if ps.any fun (a, k, _) => (lineParts (k + 1) a k 0).any fun q => intercepted s (q.1 * 64) then
    .bad Config.invalidDescriptor s
  else
    match ps.foldl (fun (x : State × Gate) (a, k, _) =>
      match x.2 with
      | .ok => writeOk a k tenant x.1
      | g => (x.1, g)) (s, .ok) with
    | (s, .bad st) => .bad st s
    | (s, .stall) => .wait s
    | (s, .ok) =>
      .ok () (ps.foldl (fun s (a, k, place) => writeRange a (slice bytes place k) s) (markEffect n s))

/-- A read of a PVA range. -/
def tryRead (n tenant pva len : Nat) (s : State) : Acc (List Byte) :=
  (tryLook n tenant pva len false s).bind fun ps s => readParts ps s

/-- A write of a PVA range. -/
def tryWrite (n tenant pva : Nat) (bytes : List Byte) (s : State) : Acc Unit :=
  (tryLook n tenant pva bytes.length true s).bind fun ps s => writeParts n tenant ps bytes s

/-! Accesses to host memory (R291, R292, R329). -/

/-- The function and queue of a host item, and its PASID + 1, or 0 for none (R307). -/
def hostOf (s : State) (i : Item) : Option (Nat × Nat × Nat) :=
  i.src.queue.map fun (p, f, q) =>
    let r := getSq s p f q
    (p, f, if r.pasidEn then r.pasid + 1 else 0)

def getAtc (s : State) (p : Nat) : List AtcEnt := s.tr.atc.getD p []
def setAtc (p : Nat) (l : List AtcEnt) (s : State) : State := s.setTr { s.tr with atc := s.tr.atc.set p l }

/-- The address by which the device reaches a host address of an item: from the translation cache, or by an
ATS Translation Request that the item waits for. Items that touch host memory wait while the link is down.
DEDUCED: log entry 22. -/
def hostLook (n : Nat) (i : Item) (a : Nat) (write : Bool) (s : State) : Acc Nat :=
  match hostOf s i with
  | none => .wait s
  | some (p, f, pasid) =>
    if !(getPort s p).up || !(getFn s p f).bme then .wait s
    else
      let page := a / 4096
      match (getAtc s p).find? fun e => e.fn = f && e.pasid = pasid && e.page = page && (if write then e.w else e.r) with
      | some e =>
        .ok (4096 * (e.addr / 4096) + a % 4096)
          (setAtc p ((getAtc s p).map fun x => if x = e then { x with last := s.now } else x) s)
      | none =>
        match s.tr.ats.first? fun _ r => r.port = p && r.fn = f && r.pasid = pasid && r.page = page && r.write = write with
        | some (tag, r) =>
          let s := s.setTr { s.tr with ats := s.tr.ats.set tag { r with tasks := r.tasks ++ [n] } }
          .wait (modItem n (fun i => { i with wait := .ats tag }) s)
        | none =>
          let tag := s.tr.nextTag
          let r : AtsReq := { port := p, fn := f, pasid := pasid, page := page, write := write, refused := false,
                              pri := none, tasks := [n] }
          let s := s.setTr { s.tr with ats := s.tr.ats.set tag r, nextTag := if tag = 0xFFFFFFFF then 1 else tag + 1 }
          .wait (emit (.pcie p 1 tag f page) (modItem n (fun i => { i with wait := .ats tag }) s))

/-- Bytes of one 4 KiB page of host memory from an address on. -/
def hostRun (a len : Nat) : Nat := min len (4096 - a % 4096)

/-- The item asks for bytes of host memory that lie in one page, and waits for them. -/
def hostRead (n : Nat) (i : Item) (a len : Nat) (s : State) : Acc Unit :=
  (hostLook n i a false s).bind fun addr s =>
    match i.src with
    | .host p f _ _ =>
      let tag := s.ho.nextRead
      let s := s.setHo { s.ho with nextRead := tag + 1 }
      let s := setPort s p { getPort s p with sent := (getPort s p).sent ++ [.read f tag addr len] }
      .ok () (modItem n (fun i => { i with wait := .host tag }) s)
    | .line _ _ _ _ => .wait s

/-- The item writes bytes that lie in one page of host memory. -/
def hostPut (n : Nat) (i : Item) (a : Nat) (bytes : List Byte) (s : State) : Acc Unit :=
  (hostLook n i a true s).bind fun addr s =>
    match i.src with
    | .host p f _ _ => .ok () (hostWrite p f addr bytes (markEffect n s))
    | .line _ _ _ _ => .wait s

/-! The commands (R322, R323). -/

/-- NOP completes with OK (R322). -/
def execNop (item : Nat) (s : State) : Res3 :=
  .next (withItem item 0x00 s fun i s =>
    checked item (widthsOk i.words []) s fun s => endItem item Config.ok 0 0 s)

/-- Bytes of one piece of a transfer: within a page of host memory and a page of the range. -/
def pieceRun (pva host left : Nat) : Nat := min (hostRun host left) (0x200000 - pva % 0x200000)

/-- HOST_TO_POOL: a piece of host memory that has arrived is written, and the next one is asked for (R322,
R323). -/
def execHostToPool (item : Nat) (s : State) : Res3 :=
  .next (withItem item 0x01 s fun i s =>
    let pva := wordAt i.words 1
    let host := wordAt i.words 2
    let len := wordAt i.words 3
    checked item (widthsOk i.words [56, 64, 31] && len ≠ 0 && len ≤ 0x40000000) s fun s =>
      Acc.run item (
        (if i.data.isEmpty then Acc.ok i.prog s
         else (tryWrite item i.tenant (pva + i.prog) i.data s).bind fun _ s =>
           .ok (i.prog + i.data.length) (modItem item (fun i => { i with prog := i.prog + i.data.length, data := [] }) s)).bind
        fun prog s =>
          if len ≤ prog then .ok () (endItem item Config.ok 0 0 s)
          else
            let a := (host + prog) % 2 ^ 64
            hostRead item i a (pieceRun (pva + prog) a (len - prog)) s))

/-- The pieces of POOL_TO_HOST from the one at `prog` on. -/
def poolToHost (item : Nat) (i : Item) (pva host len : Nat) : Nat → Nat → State → Acc Unit
  | 0, _, s => .wait s
  | fuel + 1, prog, s =>
    if len ≤ prog then .ok () (endItem item Config.ok 0 0 s)
    else
      let a := (host + prog) % 2 ^ 64
      let k := pieceRun (pva + prog) a (len - prog)
      (tryRead item i.tenant (pva + prog) k s).bind fun bytes s =>
        (hostPut item i a bytes s).bind fun _ s =>
          poolToHost item i pva host len fuel (prog + k) (modItem item (fun i => { i with prog := prog + k }) s)

/-- POOL_TO_HOST copies a PVA range into host memory (R322, R323). -/
def execPoolToHost (item : Nat) (s : State) : Res3 :=
  .next (withItem item 0x02 s fun i s =>
    let len := wordAt i.words 3
    checked item (widthsOk i.words [56, 64, 31] && len ≠ 0 && len ≤ 0x40000000) s fun s =>
      Acc.run item (poolToHost item i (wordAt i.words 1) (wordAt i.words 2) len (len / 2048 + 4) i.prog s))

/-- POOL_ATOMIC: an atomic on a word of the range; RESULT0 is the old value (R322, R323). -/
def execPoolAtomic (item : Nat) (s : State) : Res3 :=
  .next (withItem item 0x03 s fun i s =>
    let pva := wordAt i.words 1
    let aop := wBits i.words 4 4 0
    let a64 := bitOf (wordAt i.words 4) 5
    let n := if a64 then 8 else 4
    checked item (widthsOk i.words [56, 64, 64, 6] && aopOk aop && pva % n = 0) s fun s =>
      Acc.run item ((tryLook item i.tenant pva n true s).bind fun ps s =>
        match ps with
        | [(a, _, _)] =>
          if intercepted s a then .bad Config.invalidDescriptor s
          else
            match writeOk a n i.tenant s with
            | (s, .bad st) => .bad st s
            | (s, .stall) => .wait s
            | (s, .ok) =>
              let (old, line) := atomOnLine (lineNow s (a / 64)) aop a64 (a % 64) (wordAt i.words 2) (wordAt i.words 3)
              .ok () (endItem item Config.ok old 0 (writeRange (a / 64 * 64) line (markEffect item s)))
        | _ => .bad Config.translationFault s))

/-- REGION_PUBLISH: NEW and PAYLOAD replace a record whose VERSION is EXPECTED, as one update of its line
(R332). -/
def execRegionPublish (item : Nat) (s : State) : Res3 :=
  .next (withItem item 0x04 s fun i s =>
    let pva := wordAt i.words 1
    let expected := wordAt i.words 2
    let new := wordAt i.words 3
    checked item (widthsOk i.words [56, 64, 64, 64, 64, 64] && pva % 32 = 0 && new ≠ expected) s fun s =>
      Acc.run item ((tryLook item i.tenant pva 32 true s).bind fun ps s =>
        (readParts ps s).bind fun old s =>
          let version := leField old 0 8
          if version ≠ expected then .ok () (endItem item Config.staleVersion version 0 s)
          else
            let bytes := leBytes 8 new ++ leBytes 8 (wordAt i.words 4) ++ leBytes 8 (wordAt i.words 5) ++
              leBytes 8 (wordAt i.words 6)
            (writeParts item i.tenant ps bytes s).bind fun _ s => .ok () (endItem item Config.ok new 0 s)))

/-! Page commands (R32, R47–R50). -/

/-- The pages of a range of an item, as far as they are translated: the item keeps the pool page of each. -/
def pageWalk (item tenant pva pages : Nat) : Nat → Nat → State → Acc Unit
  | 0, _, s => .wait s
  | fuel + 1, k, s =>
    if pages ≤ k then .ok () s
    else
      (tryLook item tenant (pva + 0x200000 * k) 0x200000 true s).bind fun ps s =>
        let page := (ps.headD (0, 0, 0)).1 / 0x200000
        pageWalk item tenant pva pages fuel (k + 1)
          (modItem item (fun i => { i with prog := k + 1, regs := i.regs.set k page }) s)

/-- The translation of the pages of an item's range, from word 1 on, as many as word 2 says. -/
def walkPages (item : Nat) (i : Item) (s : State) : Acc Unit :=
  let pva := wordAt i.words 1
  let pages := wordAt i.words 2
  if 2 ^ 56 < pva + 0x200000 * pages then .bad Config.translationFault s
  else pageWalk item i.tenant pva pages (pages + 1) i.prog s

/-- The pool pages of an item's range, once all are translated. -/
def withPages (item : Nat) (i : Item) (s : State) (k : List Nat → State → State) : State :=
  match walkPages item i s with
  | .ok _ s => k (((getItem? s item).map fun i => i.regs.map Prod.snd).getD []) s
  | .bad st s => endItem item st 0 0 s
  | .wait s => s

def pageArgsOk (w : List Nat) : Bool := wordAt w 1 % 0x200000 = 0 && wordAt w 2 ≠ 0

/-- PAGE_RELEASE makes every page of a range absent (R32). -/
def execPageRelease (item : Nat) (s : State) : Res3 :=
  .next (withItem item 0x08 s fun i s =>
    checked item (widthsOk i.words [56, 35] && pageArgsOk i.words) s fun s =>
      withPages item i s fun pages s =>
        endItem item Config.ok 0 0 (pages.foldl (fun s p => releasePage p false s) (markEffect item s)))

/-- HBM slots that a page takes under its class. DESIGN CHOICE: log entry 89. -/
def pinSlots (e : HomeEntry) : Nat := if e.prot = 1 then 2 else 1

/-- HBM slots of the pages with a PIN to HBM. DESIGN CHOICE: log entry 89. -/
def pinnedHbm (s : State) : Nat :=
  s.ti.homeA.foldl (fun n kv => if kv.2.hint = 1 && kv.2.hintTier = 1 then n + pinSlots kv.2 else n) 0

/-- PAGE_HINT sets the hint of every page of a range, or of none (R47, R48). -/
def execPageHint (item : Nat) (s : State) : Res3 :=
  .next (withItem item 0x09 s fun i s =>
    let hint := wBits i.words 3 1 0
    let tier := wBits i.words 3 3 2
    let hintOk := if hint = 1 || hint = 2 then tier ≠ 0 else tier = 0
    checked item (widthsOk i.words [56, 35, 4] && pageArgsOk i.words && hintOk &&
        !(hint = 1 && tier = 2 && s.ti.ddrSlots = 0)) s fun s =>
      withPages item i s fun pages s =>
        let pages := pages.eraseDups
        let set := fun (s : State) => pages.foldl (fun s p => setEntry p { entryOf s p with hint := hint, hintTier := tier } s) s
        let old := pinnedHbm s
        let new := pinnedHbm (set s)
        if hint = 1 && tier = 1 && old < new && Par.pinHbmMaxPct s * s.ti.hbmSlots < 100 * new then
          endItem item Config.noSpace 0 0 s
        else endItem item Config.ok 0 0 (set s))

/-- SET_PROTECTION sets the class of every page of a range (R50). -/
def execSetProtection (item : Nat) (s : State) : Res3 :=
  .next (withItem item 0x0A s fun i s =>
    let prot := wordAt i.words 3
    checked item (widthsOk i.words [56, 35, 2] && pageArgsOk i.words && prot ≠ 3) s fun s =>
      withPages item i s fun pages s =>
        endItem item Config.ok 0 0 (pages.foldl (fun s p => setEntry p { entryOf s p with prot := prot } s) s))

/-- STANDBY of the device (R517). -/
def standby (s : State) : Bool := s.od.num.getD 0x080001 (Par.startMode s) = 0

/-- TIER_DRAIN: a drain starts, or the item joins the running one (R60, R323). In STANDBY it is refused. -/
def execTierDrain (item : Nat) (s : State) : Res3 :=
  .next (withItem item 0x80 s fun i s =>
    checked item (widthsOk i.words []) s fun s =>
      if standby s then endItem item Config.accessDenied 0 0 s
      else
        let s := if draining s then s else abandonAll s
        let s := s.setTi { s.ti with drainItems := s.ti.drainItems ++ [item], plan := [] }
        startPlanned 16 (modItem item (fun i => { i with wait := .engine }) s))

end Sys2Proof.Machine
end

