-- ==== Sys2Proof/Machine/Programs.lean ====
section
/-!
DEFINITION. The commands on programs, and the COPY command (R145–R159, R249, R322).
-/

namespace Sys2Proof.Machine

/-! The program store (R152, R153). -/

/-- The program that an index of METRIC PROGRAM names (R389, R391). -/
def indexHandle (ix : Index) : Option Nat := if wBits ix.words 1 18 17 = 3 then some (wBits ix.words 7 15 0) else none

/-- The program of a round with OPT CUSTOM (R341, R349). -/
def roundHandle (r : Round) : Option Nat := if wBits r.words 1 18 17 = 3 then some (wBits r.words 15 15 0) else none

/-- Something runs, or may still run, the program of a handle. -/
def imageUsed (s : State) (h : Nat) : Bool :=
  s.co.tabors.any (fun kv => kv.2.ctxs.any (fun c => c.handle = h) || kv.2.queue.any (fun q => q.handle = h)) ||
    s.co.gale.any (fun kv => kv.2.handle = h) || s.co.attach.any (fun kv => kv.2 = h) ||
    s.fa.galeWait.any (fun kv => kv.2.any fun q => q.2.2.2 = h) ||
    s.sv.indexes.any (fun kv => indexHandle kv.2 = some h) || s.sv.rounds.any fun kv => roundHandle kv.2 = some h

/-- The storage of unloaded handles that nothing uses any more is freed (R153). -/
def purgeImages (s : State) : State :=
  let gone := (s.co.images.filter fun kv => kv.2.unloading && !imageUsed s kv.1).map Prod.fst
  if gone.isEmpty then s
  else
    s.setCo { s.co with
      images := s.co.images.keep fun h _ => !gone.contains h
      tabors := s.co.tabors.mapVal fun _ v => { v with resident := v.resident.filter fun r => !gone.contains r.handle } }

/-- The image of a handle that its tenant may still name. -/
def imageOf (s : State) (tenant h : Nat) : Option Image :=
  (s.co.images.get? h).bind fun im => if im.tenant = tenant && !im.unloading then some im else none

/-- LOAD_PROGRAM reads an image, verifies it, and keeps it under a handle (R145, R146, R152). -/
def execLoadProgram (item : Nat) (s : State) : Res3 :=
  .next (withItem item 0x10 s fun i s =>
    let pva := wordAt i.words 1
    let len := wordAt i.words 2
    checked item (widthsOk i.words [56, 32] && pva % 64 = 0) s fun s =>
      Acc.run item ((tryRead item i.tenant pva len s).bind fun bytes s =>
        match verifyImage i.tenant (Par.fuelMax s) bytes with
        | .error (reason, index) =>
          .bad Config.invalidDescriptor
            (s.setOd { s.od with lastVerify := s.od.lastVerify.set i.tenant (reason + 256 * index) })
        | .ok im =>
          let s := purgeImages s
          let total := s.co.images.foldl (fun n kv => n + kv.2.granules) 0
          let mine := s.co.images.foldl (fun n kv => if kv.2.tenant = i.tenant then n + kv.2.granules else n) 0
          if im.profile = 2 then .bad Config.invalidDescriptor s
          else if 16384 < total + im.granules || Par.tenantStoreKib s < mine + im.granules || 4096 ≤ s.co.images.length then
            .bad Config.noSpace s
          else
            let h := s.co.images.freeFrom 1
            .ok () (endItem item Config.ok h 0 (s.setCo { s.co with images := s.co.images.set h im }))))

/-- UNLOAD_PROGRAM marks a handle for removal (R153). -/
def execUnloadProgram (item : Nat) (s : State) : Res3 :=
  .next (withItem item 0x11 s fun i s =>
    let h := wordAt i.words 1
    checked item (widthsOk i.words [16] && (imageOf s i.tenant h).isSome) s fun s =>
      let s := s.setCo { s.co with images := s.co.images.modify h fun im => { im with unloading := true } }
      purgeImages (endItem item Config.ok 0 0 s))

/-! RUN_PROGRAM (R154). -/

/-- Of some tabors, the one with the fewest live contexts, ties to the lowest number. -/
def leastLoaded (s : State) (ts : List Nat) : Option Nat :=
  ts.foldl (fun b t => match b with
    | none => some t
    | some u => if (getTab s t).ctxs.length < (getTab s u).ctxs.length then some t else b) none

/-- The tabors of a kit that run programs. -/
def kitTabors (s : State) (k : Nat) : List Nat :=
  ((List.range 68).map fun i => k * 68 + i).filter fun t => taborRuns s t && taborActive s t

/-- RUN_PROGRAM: the invocation joins the queue of a tabor (R131, R143, R154, R155). -/
def execRunProgram (item : Nat) (s : State) : Res3 :=
  .next (withItem item 0x12 s fun i s =>
    let h := wBits i.words 1 15 0
    let placement := wBits i.words 1 17 16
    let kit := wBits i.words 1 23 18
    let pva := wordAt i.words 2
    let fuel := wordAt i.words 3
    let image := imageOf s i.tenant h
    let tabor : Acc (Option Nat) :=
      match placement with
      | 0 => (tryLook item i.tenant pva 1 false s).bind fun ps s =>
          .ok (some (homeTabor s ((ps.headD (0, 0, 0)).1 / 64))) s
      | 1 => .ok (leastLoaded s (kitTabors s kit)) s
      | _ => .ok (leastLoaded s ((List.range 64).flatMap (kitTabors s))) s
    checked item (widthsOk i.words [24, 56, 32] && placement ≠ 3 && fuel ≠ 0 && fuel ≤ Par.fuelMax s &&
        image.any (fun im => im.profile = 0 && im.kind = 0)) s fun _ =>
      Acc.run item (tabor.bind fun t s =>
        match t with
        | none => .bad Config.invalidDescriptor s
        | some t =>
          let q : Invoke := { item := item, tenant := i.tenant, handle := h, fuel := fuel, args := slice i.words 8 8 }
          let v := getTab s t
          .ok () (setTab t { v with queue := v.queue ++ [q] } (modItem item (fun i => { i with wait := .engine }) s))))

/-! Gale programs (R150, R151). -/

/-- PROG_ATTACH attaches a Gale-profile program to a window of the tenant's job (R150, R151). -/
def execProgAttach (item : Nat) (s : State) : Res3 :=
  .next (withItem item 0x13 s fun i s =>
    let h := wordAt i.words 1
    let window := wordAt i.words 2
    let image := imageOf s i.tenant h
    checked item (widthsOk i.words [16, 16] && Par.galePrograms s ≠ 0 && image.any (fun im => im.profile = 1)) s fun s =>
      match jobOf s i.tenant with
      | none => endItem item Config.accessDenied 0 0 s
      | some job =>
        let key := rwtKey job window
        if 256 ≤ s.co.attach.length && !s.co.attach.has key then endItem item Config.noSpace 0 0 s
        else endItem item Config.ok 0 0 (s.setCo { s.co with attach := s.co.attach.set key h }))

/-- PROG_DETACH removes a window's attachment (R151). -/
def execProgDetach (item : Nat) (s : State) : Res3 :=
  .next (withItem item 0x14 s fun i s =>
    checked item (widthsOk i.words [0, 16]) s fun s =>
      match jobOf s i.tenant with
      | none => endItem item Config.accessDenied 0 0 s
      | some job =>
        let key := rwtKey job (wordAt i.words 2)
        endItem item Config.ok 0 0 (s.setCo { s.co with attach := s.co.attach.erase key }))

/-- COPY posts the descriptor of its extension slot, whose completion is the item's (R249, R322). -/
def execCopy (item : Nat) (s : State) : Res3 :=
  .next (withItem item 0x1A s fun i s =>
    checked item (widthsOk i.words []) s fun s =>
      match postCopy (.item item) i.tenant (slice i.words 8 8) s with
      | .error st => endItem item st 0 0 s
      | .ok (_, s) => modItem item (fun i => { i with wait := .engine }) (markEffect item s))

end Sys2Proof.Machine
end

