-- ==== Sys2Proof/Machine/Windows.lean ====
section
/-!
DEFINITION. Windows and their closing, withdrawals of translations and extents, arrival counters, the Reply
Ledger's timers, and handoffs of ownership (R235–R240, R251–R264, R286–R289).
-/

namespace Sys2Proof.Machine

/-! Requests that are aborted (R287). -/

/-- A request of an agent that its home has not served is taken back. -/
def cancelReq (r : AgentReq) (s : State) : State :=
  if !stillWaiting s r then dropReq r s
  else
    let keep := fun (m : CohMsg) => !(m.tag = r.tag && m.src = r.msg.src && m.line = r.line && m.mtype ≤ 0x0A && 1 ≤ m.mtype)
    let s := dropReq r s
    s.setCh { s.ch with
      net := s.ch.net.filter keep
      queues := (s.ch.queues.mapVal fun _ l => l.filter fun q => keep q.msg).keep fun _ l => !l.isEmpty
      comb := s.ch.comb.mapVal fun _ l =>
        (l.map fun c => { c with ops := c.ops.filter keep }).filter fun c => !c.ops.isEmpty
      backoffs := s.ch.backoffs.filter fun b => keep b.msg }

/-- An access of a context ends with a status before it has been performed. -/
def abortPend (t id tag status : Nat) (s : State) : State :=
  let mine := s.ch.reqs.filter fun r => r.tabor = t && r.who = .ctx id tag
  let s := mine.foldl (fun s r => cancelReq r s) s
  let s := modCtx t id (fun c => { c with pend := c.pend.map fun p => if p.tag = tag then { p with parts := [] } else p }) s
  pendDone t id tag status [] s

/-- A packet that is being performed ends with a status. -/
def abortPkt (node tc psn status : Nat) (s : State) : State :=
  let mine := s.ch.reqs.filter fun r => match r.who with
    | .packet a b c _ => a = node && b = tc && c = psn
    | _ => false
  let s := mine.foldl (fun s r => cancelReq r s) s
  pieceDone node tc psn 0 status [] (modOpen node tc psn (fun o => { o with left := 1 }) s)

/-- Every access of a context, as tabor, context and access. -/
def allPends (s : State) : List (Nat × Nat × Pend) :=
  s.co.tabors.flatMap fun kv => kv.2.ctxs.flatMap fun c => c.pend.map fun p => (kv.1, c.id, p)

/-- Every packet that is being performed, with its path. -/
def allPkts (s : State) : List (Nat × OpenPkt) := s.fa.rx.flatMap fun kv => kv.2.open_.map fun o => (kv.1, o)

/-! Closing a window (R240). -/

/-- Lines of a window that an agent on another chip of the domain holds. -/
def foreignLines (s : State) (w : Rwt) : List Nat :=
  (s.ch.dir.filter fun kv => w.base ≤ kv.1 && kv.1 < w.base + w.lines &&
    (kv.2.owner.toList ++ sharersOf s kv.2).any fun a => agentChip a ≠ s.ch.domIndex).map Prod.fst

/-- The home recalls the lines of a closing window that other chips hold and that have no transaction. -/
def recallWindow (w : Rwt) (s : State) : State :=
  (foreignLines s w).foldl (fun s l => if s.ch.txns.has l then s else recallLine l s) s

/-- A packet is being performed on a window. -/
def onWindow (key : Nat) (o : OpenPkt) : Bool :=
  rwtKey o.pkt.job (if o.pkt.kind = 5 then (recFields (o.payload.drop o.place)).2.2.1 else o.pkt.window) = key &&
    (o.pkt.kind ≠ 5 || o.left ≠ 0 || o.stage = 2)

/-- A context's access through a window of this device that has not been performed. -/
def throughWindow (s : State) (w : Rwt) (p : Pend) : Bool :=
  p.open_ && p.remote && p.win.isNone && p.parts.any fun q =>
    q.key / 2 ^ 44 = s.ch.domIndex && w.base ≤ q.key % 2 ^ 44 && q.key % 2 ^ 44 < w.base + w.lines

/-- Requests of a window are still running, or lines of it are still held by other chips. -/
def windowBusy (s : State) (key : Nat) (w : Rwt) : Bool :=
  !(foreignLines s w).isEmpty || (allPkts s).any (fun x => onWindow key x.2) || (allPends s).any (fun x => throughWindow s w x.2.2) ||
    s.ch.txns.any fun kv => kv.2.req.frame.any fun f => rwtKey f.pkt.job f.pkt.window = key

/-- CLOSING is set, and the recall of the window's lines begins. -/
def startClose (key : Nat) (s : State) : State :=
  match s.fa.rwt.get? key with
  | none => s
  | some w =>
    if w.closing then s
    else
      let w := { w with closing := true, recalls := foreignLines s w }
      recallWindow w (s.setFa { s.fa with rwt := s.fa.rwt.set key w })

/-- Requests that still run on a window after 2 ms end with EXTENT_REVOKED. -/
def abortWindow (key : Nat) (s : State) : State :=
  match s.fa.rwt.get? key with
  | none => s
  | some w =>
    let s := ((allPkts s).filter fun x => onWindow key x.2).foldl (fun s x =>
      abortPkt (x.1 / 8) (x.1 % 8) x.2.pkt.psn Config.extentRevoked s) s
    ((allPends s).filter fun x => throughWindow s w x.2.2).foldl (fun s x =>
      abortPend x.1 x.2.1 x.2.2.tag Config.extentRevoked s) s

/-- The entry of a closing window is freed once nothing of it runs. -/
def tryFree (key : Nat) (s : State) : State :=
  match s.fa.rwt.get? key with
  | none => s
  | some w => if w.closing && !windowBusy s key w then s.setFa { s.fa with rwt := s.fa.rwt.erase key } else recallWindow w s

/-! Withdrawals (R285–R289). -/

/-- A page lies in a grant of some tenant. -/
def granted (s : State) (page : Nat) : Bool := s.tr.grants.any fun kv => kv.2.first ≤ page && page < kv.2.first + kv.2.pages

/-- A page lies in a grant of a tenant. -/
def grantedTo (s : State) (tenant page : Nat) : Bool :=
  s.tr.grants.any fun kv => kv.2.tenant = tenant && kv.2.first ≤ page && page < kv.2.first + kv.2.pages

/-- The pages of a run that the home map lists, and that have something to release. -/
def knownPages (s : State) (first pages : Nat) : List Nat :=
  (s.ti.homeA.map Prod.fst).filter fun p => first ≤ p && p < first + pages

/-- A run withdrawn from a tenant's grants: each page that lies in no grant any more is released (R289 step 4).
DESIGN CHOICE: log entry 92. -/
def releaseRun (first pages : Nat) (s : State) : State :=
  ((knownPages s first pages).filter fun p => !granted s p).foldl (fun s p => releasePage p true s) s

/-- A tenant's grants without a run. -/
def cutGrants (tenant first pages : Nat) (g : List Grant) : List Grant :=
  g.flatMap fun x =>
    if x.tenant ≠ tenant || x.first + x.pages ≤ first || first + pages ≤ x.first then [x]
    else
      (if x.first < first then [{ x with pages := first - x.first }] else []) ++
        (if first + pages < x.first + x.pages then
          [{ x with first := first + pages, pages := x.first + x.pages - (first + pages) }] else [])

/-- A list of grants as the table of grants. -/
def grantTable (g : List Grant) : FMap Grant := g.zipIdx.map fun (x, i) => (i, x)

/-- Pages whose key owner is a tenant that is being destroyed and that another tenant still holds: they pass
to the lowest-numbered such tenant, and those in flash are to be re-encrypted (R89). -/
def passKeys (tenant : Nat) (s : State) : State :=
  let mine := (s.fr.owner.filter fun kv => kv.2 = tenant).map Prod.fst
  mine.foldl (fun s p =>
    let heirs := (s.tr.grants.filter fun kv => kv.2.tenant ≠ tenant && kv.2.first ≤ p && p < kv.2.first + kv.2.pages).map fun kv =>
      kv.2.tenant
    match heirs with
    | [] => s
    | h :: l =>
      let heir := l.foldl min h
      let s := journal (.owner p (some heir)) (s.setFr { s.fr with owner := s.fr.owner.set p heir })
      if (entryOf s p).tier = 3 then
        s.setFr { s.fr with reencrypt := s.fr.reencrypt.set tenant (s.fr.reencrypt.getD tenant [] ++ [p]) }
      else s) s

/-- A destroyed tenant becomes FREE, and its key is erased. -/
def freeTenant (tenant : Nat) (s : State) : State :=
  s.setTr { s.tr with tenants := s.tr.tenants.erase tenant }

/-- The end of a withdrawal: what its operation still does, and its RESULT (R284, R289, R295).
DESIGN CHOICE: log entry 92. -/
def endWithdrawal (n : Nat) (w : Withdrawal) (s : State) : State :=
  let s := s.setTr { s.tr with withdrawals := s.tr.withdrawals.erase n }
  let result := pushReqEnt w.port (.result Config.ok w.tenant w.tag)
  match w.op with
  | 0 => endItem w.tag Config.ok 0 0 s
  | 0x11 => result (releaseRun w.first w.pages s)
  | 0x22 => result (freeTenant w.tenant s)
  | _ => result s

/-- What is left of a withdrawal: entries that still drain and windows that still close. -/
def wdLeft (s : State) (w : Withdrawal) : Withdrawal :=
  { w with ents := w.ents.filter fun e => s.tr.ptc.has e, windows := w.windows.filter fun k => (s.fa.rwt.get? k).any fun x => x.closing }

/-- A destroyed tenant's grants are revoked when its translations and windows are gone (R295 steps 5, 6). -/
def revokeTenant (n : Nat) (w : Withdrawal) (s : State) : State :=
  let mine := s.tr.grants.filter fun kv => kv.2.tenant = w.tenant
  let s := s.setTr { s.tr with
    grants := grantTable ((s.tr.grants.filter fun kv => kv.2.tenant ≠ w.tenant).map Prod.snd)
    withdrawals := s.tr.withdrawals.set n { w with later := true } }
  let s := passKeys w.tenant s
  mine.foldl (fun s kv => releaseRun kv.2.first kv.2.pages s) s

/-- A tenant has tasks that have not ended, or services (R295 step 2). -/
def tenantBusy (s : State) (t : Nat) : Bool :=
  s.ho.items.any (fun kv => kv.2.tenant = t && kv.2.ended.isNone) ||
    s.co.tabors.any (fun kv => kv.2.ctxs.any (fun c => c.tenant = t) || kv.2.queue.any fun q => q.tenant = t) ||
    s.sv.tables.any (fun kv => kv.2.tenant = t) || s.sv.indexes.any (fun kv => kv.2.tenant = t) ||
    s.sv.stores.any fun kv => kv.2.tenant = t

/-- Withdrawals with nothing left to drain end; that of a destroyed tenant waits for its re-encryption.
DESIGN CHOICE: log entry 92. -/
def settleWithdrawals (s : State) : State :=
  let s := (s.fa.rwt.filter fun kv => kv.2.closing).foldl (fun s kv => tryFree kv.1 s) s
  (s.tr.withdrawals.filter fun kv => kv.2.op ≠ 0xA5).foldl (fun s kv =>
    let w := wdLeft s kv.2
    let s := s.setTr { s.tr with withdrawals := s.tr.withdrawals.set kv.1 w }
    if !w.ents.isEmpty || !w.windows.isEmpty then s
    else if w.op = 0x22 && tenantBusy s w.tenant then s
    else if w.op = 0x22 then
      let s := if w.later then s else revokeTenant kv.1 w s
      if s.fr.reencrypt.has w.tenant then s else endWithdrawal kv.1 w s
    else endWithdrawal kv.1 w s) s

/-- A withdrawal begins. -/
def addWithdrawal (w : Withdrawal) (s : State) : State :=
  settleWithdrawals (s.setTr { s.tr with withdrawals := s.tr.withdrawals.set s.tr.nextWd w, nextWd := s.tr.nextWd + 1 })

/-- PTC entries that a test selects are withdrawn: INVALID at once, or DRAINING (R286). Those that drain. -/
def withdraw (p : PtcEnt → Bool) (s : State) : List Nat × State :=
  let hit := s.tr.ptc.filter fun kv => p kv.2
  let s := s.setTr { s.tr with
    ptc := (s.tr.ptc.keep fun _ e => !(p e && e.inflight = 0)).mapVal fun _ e => if p e then { e with draining := true } else e }
  ((hit.filter fun kv => kv.2.inflight ≠ 0).map Prod.fst, s)

/-- REENCRYPT_DONE: the pages that passed from a destroyed tenant are encrypted under their new owners' keys;
the tenant's key is erased (R89). -/
def execReencryptDone (tenant : Nat) (s : State) : Res3 :=
  s.act (
    if !s.fr.reencrypt.has tenant then s
    else settleWithdrawals (s.setFr { s.fr with reencrypt := s.fr.reencrypt.erase tenant }))

/-! WINDOW_OPEN and WINDOW_CLOSE (R236, R237, R240). -/

/-- The translation of one page for a window: a page that the tenant may only read breaks R236.
DESIGN CHOICE: log entry 90. -/
def windowLook (item tenant pva len : Nat) (s : State) : Acc Nat :=
  match lookRange s tenant pva len true with
  | .ok (ps, ents) => .ok ((ps.headD (0, 0, 0)).1) (ptcTouch ents s)
  | .error (.bad st, _) => .bad st s
  | .error (.full, _) => .wait s
  | .error (_, _) =>
    match lookRange s tenant pva len false with
    | .ok _ => .bad Config.invalidDescriptor s
    | .error _ => (tryLook item tenant pva len true s).bind fun ps s => .ok ((ps.headD (0, 0, 0)).1) s

/-- The pages of a window, which lie in one run from the PHA of the first. -/
def windowWalk (item tenant pva len : Nat) : Nat → Nat → Nat → State → Acc Nat
  | 0, _, _, s => .wait s
  | fuel + 1, done, base, s =>
    if len ≤ done then .ok base s
    else
      let k := min (len - done) (0x200000 - (pva + done) % 0x200000)
      (windowLook item tenant (pva + done) k s).bind fun a s =>
        let base := if done = 0 then a else base
        if a ≠ base + done then .bad Config.invalidDescriptor s
        else
          windowWalk item tenant pva len fuel (done + k) base
            (modItem item (fun i => { i with prog := done + k, regs := i.regs.set 0 base }) s)

/-- Counters of a run that belong to a tenant. -/
def ownsCounters (s : State) (tenant first count : Nat) : Bool :=
  first + count ≤ 262144 && (List.range count).all fun i => s.fa.ctrOwner.get? (first + i) = some tenant

/-- WINDOW_OPEN installs an entry bound to a run of the range (R236, R237).
DESIGN CHOICE: log entry 90. -/
def execWindowOpen (item : Nat) (s : State) : Res3 :=
  .next (withItem item 0x18 s fun i s =>
    let pva := wordAt i.words 1
    let lines := wordAt i.words 2
    let job := wBits i.words 3 19 0
    let window := wBits i.words 3 35 20
    let ctr := wBits i.words 4 17 0
    let count := wBits i.words 4 36 18
    let key := rwtKey job window
    checked item (widthsOk i.words [56, 44, 40, 37] && pva % 64 = 0 && lines ≠ 0 && count ≤ 262144) s fun s =>
      if 2 ^ 56 < pva + 64 * lines then endItem item Config.translationFault 0 0 s
      else if !ownsCounters s i.tenant ctr count then endItem item Config.accessDenied 0 0 s
      else
        Acc.run item ((windowWalk item i.tenant pva (64 * lines) (lines / 0x8000 + 3) i.prog (i.regs.getD 0 0) s).bind fun base s =>
          if s.fa.rwt.has key then .bad Config.invalidDescriptor s
          else if 65536 ≤ s.fa.rwt.length || Par.windowsPerTenant s ≤ s.fa.rwt.count (fun _ w => w.tenant = i.tenant) then
            .bad Config.noSpace s
          else
            let w : Rwt := { job := job, window := window, tenant := i.tenant, closing := false, rights := wBits i.words 3 39 36,
                             base := base / 64, lines := lines, ctrBase := ctr, ctrCount := count, recalls := [] }
            .ok () (endItem item Config.ok 0 0 (s.setFa { s.fa with rwt := s.fa.rwt.set key w }))))

/-- WINDOW_CLOSE: CLOSING is set, lines are recalled and requests drain; then the entry is freed (R240). -/
def execWindowClose (item : Nat) (s : State) : Res3 :=
  .next (withItem item 0x19 s fun i s =>
    let key := rwtKey (wBits i.words 3 19 0) (wBits i.words 3 35 20)
    let args := wordAt i.words 1 = 0 && wordAt i.words 2 = 0 && widthsOk i.words [0, 0, 36]
    checked item args s fun s =>
      match s.fa.rwt.get? key with
      | none => endItem item Config.invalidDescriptor 0 0 s
      | some w =>
        if w.tenant ≠ i.tenant then endItem item Config.accessDenied 0 0 s
        else if s.tr.withdrawals.any fun kv => kv.2.op = 0 && kv.2.tag = item then settleWithdrawals s
        else
          addWithdrawal { port := tenantPort i.tenant, op := 0, tenant := i.tenant, tag := item, start := s.now, ents := [],
                          windows := [key], first := 0, pages := 0, later := false } (startClose key s))

/-! Arrival counters (R251–R253, R323). -/

/-- The lowest run of free counters, in the order of those that are owned. -/
def freeRun (count : Nat) : FMap Nat → Nat → Option Nat
  | [], at_ => if at_ + count ≤ 262144 then some at_ else none
  | (k, _) :: m, at_ => if at_ + count ≤ k then some at_ else freeRun count m (k + 1)

/-- COUNTER_ALLOC: a contiguous run of counters becomes the tenant's (R251, R323). -/
def execCounterAlloc (item : Nat) (s : State) : Res3 :=
  .next (withItem item 0x1B s fun i s =>
    let count := wordAt i.words 1
    checked item (widthsOk i.words [19] && count ≠ 0 && count ≤ 262144) s fun s =>
      match freeRun count s.fa.ctrOwner 0 with
      | none => endItem item Config.noSpace 0 0 s
      | some first =>
        if Par.countersPerTenant s < s.fa.ctrOwner.count (fun _ t => t = i.tenant) + count then
          endItem item Config.noSpace 0 0 s
        else
          let owner := (List.range count).foldl (fun (m : FMap Nat) k => m.set (first + k) i.tenant) s.fa.ctrOwner
          endItem item Config.ok first 0 (s.setFa { s.fa with ctrOwner := owner }))

/-- COUNTER_FREE: counters that no open window names are given up (R323). -/
def execCounterFree (item : Nat) (s : State) : Res3 :=
  .next (withItem item 0x1C s fun i s =>
    let first := wordAt i.words 1
    let count := wordAt i.words 2
    checked item (widthsOk i.words [18, 19]) s fun s =>
      if !ownsCounters s i.tenant first count then endItem item Config.accessDenied 0 0 s
      else if s.fa.rwt.any fun kv => kv.2.ctrBase < first + count && first < kv.2.ctrBase + kv.2.ctrCount then
        endItem item Config.invalidDescriptor 0 0 s
      else
        let inRun := fun (k : Nat) => first ≤ k && k < first + count
        endItem item Config.ok 0 0 (s.setFa { s.fa with
          ctrOwner := s.fa.ctrOwner.keep fun k _ => !inRun k
          counters := s.fa.counters.keep fun k _ => !inRun k }))

/-- COUNTER_SET writes a counter (R253). -/
def execCounterSet (item : Nat) (s : State) : Res3 :=
  .next (withItem item 0x1D s fun i s =>
    let c := wordAt i.words 1
    checked item (widthsOk i.words [18, 64]) s fun s =>
      if !ownsCounters s i.tenant c 1 then endItem item Config.accessDenied 0 0 s
      else endItem item Config.ok 0 0 (s.setFa { s.fa with counters := s.fa.counters.set c (wordAt i.words 2) }))

/-! The Reply Ledger's timers and the grace of a generation (R255, R257, R259). -/

/-- LEDGER_ENTRY_EXPIRY: an entry is 8 ms old (R255). -/
def execLedgerEntryExpiry (node job seq : Nat) (s : State) : Res3 :=
  s.act (match s.fa.ledger.find? fun e => e.node = node && e.job = job && e.seq = seq with
  | none => s
  | some e => dropLedger e (s.reach (e.at_ + 8000000)))

/-- LEDGER_SOURCE_EXPIRY: a source has had no entry for 1 s (R255). -/
def execLedgerSourceExpiry (node job : Nat) (s : State) : Res3 :=
  s.act (match (s.fa.sources.get? (srcKey node job)).bind fun x => x.emptySince with
  | none => s
  | some t =>
    let s := s.reach (t + 1000000000)
    s.setFa { s.fa with sources := s.fa.sources.erase (srcKey node job) })

/-- LEDGER_HOLD_EXPIRY: remote atomics are applied again (R257). -/
def execLedgerHoldExpiry (s : State) : Res3 :=
  s.act (match s.fa.ledgerHold with
  | none => s
  | some t =>
    let s := s.reach t
    s.setFa { s.fa with ledgerHold := none })

/-- GENERATION_GRACE_EXPIRY: 5 ms after a commit the previous generation is no longer accepted (R259). -/
def execGenerationGraceExpiry (s : State) : Res3 :=
  s.act (match s.fa.prevGen with
  | none => s
  | some _ =>
    let s := s.reach (s.fa.commitAt + 5000000)
    s.setFa { s.fa with prevGen := none, prevJobs := [] })

/-! Handoffs (R261–R263). -/

/-- A compare-and-swap of an 8 B word of the range by the device itself: whether it took place, and the word
after it; none while the word cannot be written. DESIGN CHOICE: log entry 91. -/
def casWord (a tenant old new : Nat) (s : State) : Option (Bool × Nat × State) :=
  match writeOk a 8 tenant s with
  | (s, .ok) => let w := getWord s a; some (if w = old then (true, new, putWord a new s) else (false, w, s))
  | (_, _) => none

/-- OWN_HANDOFF: the record goes to OFFERING, and a CAS prepares the receiver's record (R262 steps 1, 2).
DESIGN CHOICE: log entry 91. -/
def execOwnHandoff (item : Nat) (s : State) : Res3 :=
  .next (withItem item 0x1E s fun i s =>
    let pva := wordAt i.words 1
    let node := wBits i.words 2 15 0
    let window := wBits i.words 2 31 16
    let offset := wordAt i.words 3
    checked item (widthsOk i.words [56, 32, 50] && pva % 8 = 0 && offset % 8 = 0) s fun s =>
      match jobOf s i.tenant with
      | none => endItem item Config.accessDenied 0 0 s
      | some job =>
        Acc.run item ((tryLook item i.tenant pva 32 true s).bind fun ps s =>
          match ps with
          | [(a, _, _)] =>
            match writeOk (a + 16) 8 i.tenant s with
            | (s, .bad st) => .bad st s
            | (s, .stall) => .wait s
            | (s, .ok) =>
              let w := getWord s (a + 16)
              if ownState w ≠ 1 then .ok () (endItem item Config.staleVersion w 0 s)
              else
                let e := ownEpoch w
                let s := putWord (a + 16) (ownWord e 2 node) (markEffect item s)
                let n := s.fa.nextReq
                let h : Handoff := { item := item, tenant := i.tenant, record := a, pva := pva, epoch := e, node := node,
                                     window := window, offset := offset, started := s.now, prepared := none }
                let s := s.setFa { s.fa with handoffs := s.fa.handoffs.set n h, nextReq := n + 1 }
                let s := modItem item (fun i => { i with wait := .engine }) s
                let next := ownWord ((e + 1) % 2 ^ 32) 3 s.fa.nodeId
                .ok () (sendReq node (.handoff n 2) i.tenant 0
                  { noPkt with kind := 4, tc := tenantClass s i.tenant, job := job, window := window, offset := offset + 16,
                               payload := leBytes 8 next ++ leBytes 8 0, aop := 0x11, a64 := true } s)
          | _ => .bad Config.translationFault s))

/-- HANDOFF_COMMIT: the prepare has succeeded: the owner's word becomes RELEASED, and the receiver is told
(R262 steps 3, 4). -/
def execHandoffCommit (handoff : Nat) (s : State) : Res3 :=
  s.act (match s.fa.handoffs.get? handoff with
  | none => s
  | some h =>
    if h.prepared ≠ some Config.ok || h.started + 10000000 ≤ s.now then s
    else
      let e := (h.epoch + 1) % 2 ^ 32
      match casWord (h.record + 16) h.tenant (ownWord h.epoch 2 h.node) (ownWord e 4 h.node) s with
      | none => s
      | some (false, w, s) =>
        endItem h.item Config.staleVersion w 0 (s.setFa { s.fa with handoffs := s.fa.handoffs.erase handoff })
      | some (true, w, s) =>
        let s := s.setFa { s.fa with handoffs := s.fa.handoffs.erase handoff }
        let flag := s.fa.nextReq
        let s := modItem h.item (fun i => { i with out := i.out ++ [flag] }) s
        endItem h.item Config.ok w 0 (sendReq h.node (.item h.item) h.tenant 0
          { noPkt with kind := 3, tc := tenantClass s h.tenant, job := (jobOf s h.tenant).getD 0, window := h.window,
                       offset := h.offset + 16, payload := leBytes 8 (ownWord e 1 s.fa.nodeId) } s))

/-- HANDOFF_RECLAIM: the prepare has failed, or 10 ms have passed without the commit: the owner takes the
record back (R263). -/
def execHandoffReclaim (handoff : Nat) (s : State) : Res3 :=
  s.act (match s.fa.handoffs.get? handoff with
  | none => s
  | some h =>
    let failed := h.prepared.filter fun st => st ≠ Config.ok
    let s := if failed.isSome then s else s.reach (h.started + 10000000)
    let e := (h.epoch + 1) % 2 ^ 32
    match casWord (h.record + 16) h.tenant (ownWord h.epoch 2 h.node) (ownWord e 1 s.fa.nodeId) s with
    | none => s
    | some (done, w, s) =>
      let s := s.setFa { s.fa with handoffs := s.fa.handoffs.erase handoff }
      let s := if done then raise 0x151 0 h.pva 0 s else s
      endItem h.item (failed.getD Config.timeout) w 0 s)

end Sys2Proof.Machine
end

