-- ==== Sys2Proof/Machine/Rounds.lean ====
section
/-!
DEFINITION. Rounds of gradient reduction and optimizer apply (R335–R364).
-/

namespace Sys2Proof.Machine

/-! Formats (R338–R340). -/

/-- The contribution formats of R339: element type, and whether it is an MX format. -/
def cfmt : Nat → Elt × Bool
  | 0 => (.fp32, false)
  | 1 => (.bf16, false)
  | 2 => (.fp16, false)
  | 3 => (.e4m3, false)
  | 4 => (.e5m2, false)
  | 5 => (.e4m3, true)
  | 6 => (.e5m2, true)
  | 7 => (.e3m2, true)
  | 8 => (.e2m3, true)
  | 9 => (.e2m1, true)
  | _ => (.int8, true)

/-- Parameters of an inbox line (R339). -/
def perLine (f : Elt × Bool) : Nat :=
  if f.2 then (match f.1.width with
    | 8 => 32
    | 6 => 64
    | _ => 96)
  else 512 / f.1.width

/-- The state formats of R340. -/
def sfmt : Nat → Elt × Bool
  | 0 => (.fp32, false)
  | 1 => (.bf16, false)
  | 2 => (.e4m3, true)
  | _ => (.e5m2, true)

/-- The publish formats of R340, from 1. -/
def pfmt : Nat → Elt × Bool
  | 1 => (.fp32, false)
  | 2 => (.bf16, false)
  | 3 => (.fp16, false)
  | 4 => (.e4m3, false)
  | 5 => (.e5m2, false)
  | 6 => (.e4m3, true)
  | 7 => (.e5m2, true)
  | 8 => (.e3m2, true)
  | 9 => (.e2m3, true)
  | 10 => (.e2m1, true)
  | _ => (.int8, true)

/-- `n` elements of `w` bits from bytes, packed from the least significant bit (R113). -/
def eltCodes (w n : Nat) (bytes : List Byte) : List Nat :=
  let v := leNat bytes
  (List.range n).map fun i => bitsOf v (w * i + w - 1) (w * i)

/-- An element as fp32 bits: it converts exactly. -/
def eltTo32 (e : Elt) (b : Nat) : Nat := encodeF Fmt.fp32 (e.value b)

/-- An element of an MX block times its scale, rounded to fp32 (R348). -/
def mxTo32 (e : Elt) (scale b : Nat) : Nat := encodeF Fmt.fp32 (e.mxScaled scale b)

/-- The values of an inbox line, as fp32 bits (R339, R348). -/
def lineVals (f : Elt × Bool) (bytes : List Byte) : List Nat :=
  let w := f.1.width
  if f.2 then
    let blocks := perLine f / 32
    (List.range blocks).flatMap fun j =>
      let scale := (bytes.getD (blocks * 4 * w + j) 0).toNat
      (eltCodes w 32 (slice bytes (j * 4 * w) (4 * w))).map (mxTo32 f.1 scale)
  else (eltCodes w (512 / w) bytes).map (eltTo32 f.1)

/-! The fields of a declare (R341). -/

def Round.opt (r : Round) : Nat := wBits r.words 1 18 17
def Round.units_ (r : Round) : Nat := wBits r.words 3 31 0
def Round.step (r : Round) : Nat := wBits r.words 3 63 32
def Round.n (r : Round) : Nat := wBits r.words 1 47 35

/-- The state count (R338). -/
def stateCount (w : List Nat) : Nat :=
  match wBits w 1 18 17 with
  | 0 => 1
  | 1 => 2
  | 2 => 1
  | _ => wBits w 1 34 33

/-- SLOT_LINES (R335). -/
def slotLines (w : List Nat) : Nat :=
  let k := perLine (cfmt (wBits w 1 22 19))
  (16 * wBits w 3 31 0 + k - 1) / k

/-- An array of a round that units write besides the target: its number (0 and 1 the states, 2 publish), PVA,
PVA of its scales, and format. -/
structure RArr where
  no : Nat
  pva : Nat
  scale : Nat
  elt : Elt
  mx : Bool
  deriving DecidableEq, Repr

def stateArrs (w : List Nat) : List RArr :=
  let f := sfmt (wBits w 1 24 23)
  (List.range (stateCount w)).map fun j => ⟨j, wordAt w (4 + j), wordAt w (10 + j), f.1, f.2⟩

def publishArr (w : List Nat) : List RArr :=
  let p := wBits w 1 29 26
  if p = 0 then [] else [⟨2, wordAt w 8, wordAt w 9, (pfmt p).1, (pfmt p).2⟩]

/-- Bytes of one unit's elements in an array. -/
def RArr.unitBytes (a : RArr) : Nat := 2 * a.elt.width

/-- The address ranges of a declare: PVA, bytes, and whether W is needed (R335). -/
def roundRanges (w : List Nat) : List (Nat × Nat × Bool) :=
  let u := wBits w 3 31 0
  let n := wBits w 1 47 35
  [(wordAt w 6, n * slotLines w * 64, true), (wordAt w 7, 16 * n, false), (wordAt w 2, 64 * u, true)] ++
    (stateArrs w ++ publishArr w).flatMap fun a =>
      (a.pva, a.unitBytes * u, true) :: if a.mx then [(a.scale, u / 2, true)] else []

/-- The rules of R335 and R338–R341 on the fields of a declare. -/
def declareOk (w : List Nat) : Bool :=
  let opt := wBits w 1 18 17
  let p := wBits w 1 29 26
  let sMx := (sfmt (wBits w 1 24 23)).2
  let pMx := p ≠ 0 && (pfmt p).2
  let count := stateCount w
  let n := wBits w 1 47 35
  let u := wBits w 3 31 0
  let pvas := [2, 4, 5, 6, 7, 8, 9, 10, 11]
  wBits w 1 63 48 = 0 && pvas.all (fun i => wordAt w i < 2 ^ 56) && wBits w 1 22 19 ≤ 10 && p ≤ 11 && 1 ≤ n && n ≤ 4096 &&
    u ≠ 0 && (opt = 3 || wBits w 1 34 33 = 0) && count ≤ 2 && (1 ≤ count || wordAt w 4 = 0) && (2 ≤ count || wordAt w 5 = 0) &&
    (p ≠ 0 || wordAt w 8 = 0) && (pMx || wordAt w 9 = 0) && ((sMx && 1 ≤ count) || wordAt w 10 = 0) &&
    ((sMx && 2 ≤ count) || wordAt w 11 = 0) && (!(sMx || pMx) || u % 2 = 0) &&
    ([2, 4, 5, 6, 8, 9, 10, 11].all fun i => wordAt w i % 64 = 0) && wordAt w 7 % 16 = 0 && (opt ≠ 3 || wBits w 15 63 16 = 0)

/-- HBM slots of a round's working memory (R343). -/
def workNeed (w : List Nat) : Nat :=
  let u := wBits w 3 31 0
  let mx := ((stateArrs w ++ publishArr w).filter fun a => a.mx).length
  let lines := wBits w 1 47 35 * slotLines w
  let total := u * (80 + (if bitOf (wordAt w 1) 31 then 64 else 0) + 32 * mx) + (lines + 7) / 8
  (9 * total + 8 * 0x200000 - 1) / (8 * 0x200000)

/-! Held translations (R337). -/

/-- The translation of a PVA by the entries that a service holds, whether or not they drain. -/
def heldLook (s : State) (ptcs : List Nat) (tenant pva : Nat) : Option Nat :=
  ptcs.findSome? fun n => (s.tr.ptc.get? n).bind fun e =>
    if e.tenant = tenant && (if e.big then e.vpn / 512 = pva / 0x40000000 else e.vpn = pva / 0x200000) then some (e.pha pva)
    else none

/-- The pieces of a PVA range by the entries that a service holds. -/
def heldRange (s : State) (ptcs : List Nat) (tenant pva len : Nat) : List (Nat × Nat × Nat) :=
  (pageParts (len / 0x200000 + 2) pva len 0).filterMap fun (a, n, place) =>
    (heldLook s ptcs tenant a).map fun pha => (pha, n, place)

/-- The translations of several ranges, with the entries used; the item waits for the first that is missing. -/
def lookAll (n tenant : Nat) : List (Nat × Nat × Bool) → State → Acc (List (List (Nat × Nat × Nat)) × List Nat)
  | [], s => .ok ([], []) s
  | (pva, len, write) :: l, s =>
    (tryLook n tenant pva len write s).bind fun ps s =>
      let ents := match lookRange s tenant pva len write with
        | .ok (_, e) => e
        | .error _ => []
      (lookAll n tenant l s).bind fun (rest, es) s => .ok (ps :: rest, ents ++ es) s

/-- Pieces that form one run, as its first PHA. -/
def oneRun : List (Nat × Nat × Nat) → Option Nat
  | [] => none
  | (a, n, p) :: l => if (l.foldl (fun (x : Bool × Nat) q => (x.1 && q.1 = x.2, x.2 + q.2.1)) (true, a + n)).1 && p = 0 then some a else none

/-! The end of a write to an inbox (R346). -/

def modRound (k : Nat) (f : Round → Round) (s : State) : State := s.setSv { s.sv with rounds := s.sv.rounds.modify k f }

/-- A ROUND_CONTRIBUTE item that has handed over its lines and has none outstanding ends. The item keeps the
lines outstanding at 0, and 1 + the status of the first refusal at 1. -/
def settleContribute (n : Nat) (s : State) : State :=
  match getItem? s n with
  | none => s
  | some i =>
    if i.opcode ≠ 0x21 || i.prog < wordAt i.words 4 || i.regs.getD 0 0 ≠ 0 then s
    else endItem n (match i.regs.getD 1 0 with
      | 0 => Config.ok
      | k => k - 1) 0 0 s

/-- A write to an intercepted line has been applied, or is refused: its writer learns the outcome. -/
def writerDone (w : Writer) (status : Nat) (s : State) : State :=
  match w with
  | .ctx t c tag => pendDone t c tag status [] s
  | .packet node tc psn => pieceDone node tc psn 0 status [] s
  | .copy n =>
    modCopy n (fun c =>
      let failed := if statusOk status then c.failed else c.failed <|> some status
      { c with local_ := c.local_ - 1, failed := failed }) s
  | .item n =>
    settleContribute n (modItem n (fun i =>
      let regs := i.regs.set 0 (i.regs.getD 0 0 - 1)
      { i with regs := if statusOk status || regs.getD 1 0 ≠ 0 then regs else regs.set 1 (status + 1) }) s)

/-! Flags (R358, R359). -/

/-- The round-complete flag word (R358). -/
def flagWord (r : Round) (status : Nat) : Nat := r.id + 2 ^ 16 * r.step + 2 ^ 48 * status

/-- The flags of a round that have not been sent, in the order of its table. -/
def sendFlags (k : Nat) : Nat → State → State
  | 0, s => s
  | fuel + 1, s =>
    match s.sv.rounds.get? k with
    | none => s
    | some r =>
      match r.table[r.flagNext]?, r.ended with
      | some (node, window, _, offset), some st =>
        let r' := { r with flagNext := r.flagNext + 1 }
        if node = 0xFFFF then sendFlags k fuel (modRound k (fun _ => r') s)
        else
          match flagStore node r.tenant window offset (flagWord r st) (.flag k) s with
          | none => s
          | some (res, s) =>
            let r' := match res with
              | .ok (some n) => { r' with flags := r'.flags ++ [n] }
              | .ok none => r'
              | .error _ => { r' with flagsFailed := r'.flagsFailed + 1 }
            sendFlags k fuel (modRound k (fun _ => r') s)
      | _, _ => s

/-- The end of an ended round: with every flag acknowledged or failed, the declare completes, the round's
references and working memory are given up, and its inbox run is held (R343, R359, R361). -/
def settleRound (k : Nat) (s : State) : State :=
  match s.sv.rounds.get? k with
  | none => s
  | some r =>
    match r.ended with
    | none => s
    | some st =>
      if r.finished || r.flagNext < r.table.length || !r.flags.isEmpty then s
      else
        let skipped := r.units.count fun _ u => u.skipped
        let poisoned := r.units.count fun _ u => u.poisoned
        let s := endItem r.item st (skipped + 2 ^ 32 * poisoned) r.flagsFailed s
        let s := ptcDoneAll r.ptcs s
        let s := s.setTi { s.ti with workSlots := s.ti.workSlots - r.work }
        modRound k (fun r => { r with finished := true, ptcs := [], work := 0, units := [], halves := [], bitmap := [],
                                       holdUntil := s.now + 1000000 * Par.inboxHoldMs s }) s

/-- A round ends before its units are done (R360): it accepts nothing more, its waiting writes fail, and its
flags go with its status. -/
def endRound (k status : Nat) (s : State) : State :=
  match s.sv.rounds.get? k with
  | none => s
  | some r =>
    if r.ended.isSome then s
    else
      let s := modRound k (fun r => { r with ended := some status, pieces := [], writes := [] }) s
      let s := r.writes.foldl (fun s kv => writerDone kv.2.2 status s) s
      let s := raise 0x171 r.tenant (r.id + 2 ^ 16 * status) 0 s
      settleRound k (sendFlags k (r.table.length + 1) s)

/-! Declaring and cancelling (R341–R344). -/

/-- The tenant's open round with an identifier. -/
def openRound (s : State) (tenant id : Nat) : Option (Nat × Round) :=
  s.sv.rounds.first? fun _ r => r.tenant = tenant && r.id = id && r.ended.isNone

/-- The contributor table: NODE, WINDOW, CONTRIB_SCALE and FLAG_OFFSET; none where an entry breaks R349.
DESIGN CHOICE: log entry 87. -/
def contribTable : Nat → List Byte → Option (List (Nat × Nat × Nat × Nat))
  | 0, _ => some []
  | n + 1, b =>
    let w0 := leField b 0 8
    let w1 := leField b 8 8
    if 2 ^ 50 ≤ w1 || w1 % 8 ≠ 0 then none
    else (contribTable n (b.drop 16)).map fun l => (bitsOf w0 15 0, bitsOf w0 31 16, bitsOf w0 63 32, w1) :: l

/-- ROUND_DECLARE opens a round (R341–R343). DESIGN CHOICE: log entry 87. -/
def execRoundDeclare (item : Nat) (s : State) : Res3 :=
  .next (withItem item 0x20 s fun i s =>
    let w := i.words
    let id := wBits w 1 15 0
    let custom := wBits w 1 18 17 = 3
    let handleOk := !custom || (imageOf s i.tenant (wBits w 15 15 0)).any fun im => im.kind = 1
    if bitOf (wordAt w 1) 16 then s
    else
      checked item (declareOk w && (openRound s i.tenant id).isNone && handleOk) s fun s =>
        Acc.run item ((lookAll item i.tenant (roundRanges w) s).bind fun (ps, ents) s =>
          (readParts (ps.getD 1 []) s).bind fun tbl s =>
            let lines := wBits w 1 47 35 * slotLines w
            match oneRun (ps.getD 0 []), contribTable (wBits w 1 47 35) tbl with
            | some inbox, some table =>
              let held := s.sv.rounds.filter fun kv =>
                !(kv.2.finished && kv.2.holdUntil ≤ s.now) && kv.2.inbox < inbox + 64 * lines &&
                  inbox < kv.2.inbox + 64 * kv.2.inboxLines
              let sameRun := fun (r : Round) => r.finished && r.inbox = inbox && r.inboxLines = lines
              let need := workNeed w
              let open_ := s.sv.rounds.filter fun kv => !kv.2.finished
              if held.any fun kv => !sameRun kv.2 then .bad Config.invalidDescriptor s
              else if Par.roundsMax s ≤ open_.length || Par.roundsPerTenant s ≤ (open_.filter fun kv => kv.2.tenant = i.tenant).length ||
                  freeSlots s 1 < need || Par.workMaxPct s * s.ti.hbmSlots < 100 * (s.ti.workSlots + need) then
                .bad Config.noSpace s
              else
                let ptcs := ents.eraseDups
                let r : Round := { tenant := i.tenant, id := id, item := item, words := w, table := table, inbox := inbox,
                                   inboxLines := lines, work := need, ptcs := ptcs, stallFrom := s.now }
                let s := ptcAdmitAll ptcs (s.setTi { s.ti with workSlots := s.ti.workSlots + need })
                let s := s.setSv { s.sv with
                  rounds := (s.sv.rounds.keep fun _ x => !sameRun x).set s.sv.nextRound r
                  nextRound := s.sv.nextRound + 1 }
                .ok () (modItem item (fun i => { i with wait := .engine }) s)
            | _, _ => .bad Config.invalidDescriptor s))

/-- ROUND_CANCEL: a declare of MODE 1 ends the tenant's open round with OUTCOME_UNKNOWN (R344). -/
def execRoundCancel (item : Nat) (s : State) : Res3 :=
  .next (withItem item 0x20 s fun i s =>
    let w := i.words
    if !bitOf (wordAt w 1) 16 then s
    else
      checked item (wordAt w 1 < 2 ^ 17 && (List.range 14).all fun k => wordAt w (k + 2) = 0) s fun s =>
        match openRound s i.tenant (wBits w 1 15 0) with
        | none => endItem item Config.invalidDescriptor 0 0 s
        | some (k, _) => endItem item Config.ok 0 0 (endRound k Config.outcomeUnknown s))

/-! Contributions (R345–R348). -/

/-- A line of a ROUND_CONTRIBUTE item goes to its place in the inbox. -/
def handLine (item : Nat) (pha : Nat) (bytes : List Byte) (zero : Bool) (s : State) : State :=
  let s := modItem item (fun i => { i with prog := i.prog + 1, regs := i.regs.set 0 (i.regs.getD 0 0 + 1) }) s
  interceptWrite pha true bytes (.item item) zero (markEffect item s)

/-- The lines of a ROUND_CONTRIBUTE item from line `k` on: from the range, from host memory, or marked as zero. -/
def contribute (item tenant : Nat) (i : Item) (inbox : Nat) : Nat → Nat → State → Acc Unit
  | 0, _, s => .wait s
  | fuel + 1, k, s =>
    let w := i.words
    let zmap := wordAt w 8
    let src := wordAt w 2 + 64 * k
    let pha := inbox + 64 * (wordAt w 3 + k)
    if wordAt w 4 ≤ k then .ok () s
    else
      (if zmap = 0 then Acc.ok false s
       else (tryRead item tenant (zmap + k / 8) 1 s).bind fun b s => .ok (bitOf (leNat b) (k % 8)) s).bind fun zero s =>
        if zero then contribute item tenant i inbox fuel (k + 1) (handLine item pha [] true s)
        else if bitOf (wordAt w 1) 28 then
          match (getItem? s item).map fun i => i.data with
          | some (b :: bs) =>
            let s := modItem item (fun i => { i with data := [] }) s
            contribute item tenant i inbox fuel (k + 1) (handLine item pha (b :: bs) false s)
          | _ => hostRead item i (src % 2 ^ 64) 64 s
        else
          (tryRead item tenant src 64 s).bind fun b s => contribute item tenant i inbox fuel (k + 1) (handLine item pha b false s)

/-- ROUND_CONTRIBUTE writes lines into a slot of a round's inbox (R347). -/
def execRoundContribute (item : Nat) (s : State) : Res3 :=
  .next (withItem item 0x21 s fun i s =>
    let w := i.words
    match openRound s i.tenant (wBits w 1 15 0) with
    | none => if i.prog = 0 then endItem item Config.invalidDescriptor 0 0 s else s
    | some (_, r) =>
      let lines := slotLines r.words
      let slot := wBits w 1 27 16
      checked item (widthsOk w [29, 64, 32, 32] && (List.range 7).all (fun k => wordAt w (9 + k) = 0) && wordAt w 8 < 2 ^ 56 &&
          slot < r.n && wordAt w 2 % 64 = 0 && wordAt w 4 ≠ 0 && wordAt w 3 + wordAt w 4 ≤ lines) s fun s =>
        match contribute item i.tenant i (r.inbox + 64 * slot * lines) (wordAt w 4 + 1) i.prog s with
        | .ok _ s => settleContribute item s
        | .wait s => s
        | .bad st s =>
          settleContribute item (modItem item (fun i => { i with
            prog := wordAt w 4, regs := if i.regs.getD 1 0 = 0 then i.regs.set 1 (st + 1) else i.regs }) s))

/-- The pieces of an accepted line: one for each unit that it covers. -/
def linePieces (r : Round) (lw : LineWrite) (write : Nat) : List Piece :=
  let lines := slotLines r.words
  let off := (lw.pha - r.inbox) / 64
  let slot := off / lines
  let f := cfmt (wBits r.words 1 22 19)
  let k := perLine f
  let first := off % lines * k / 16
  let scale := ((r.table.getD slot (0, 0, 0, 0)).2.2).1
  let vals := if lw.zero then [] else (lineVals f lw.bytes).map fun v => mul32 v scale
  ((List.range (k / 16)).filter fun j => first + j < r.units_).map fun j =>
    { unit := first + j, write := write,
      vals := if lw.zero then [] else (slice vals (16 * j) 16).zipIdx.map fun (v, i) => (i, v) }

/-- INBOX_LINE_WRITE: the home of an inbox line accepts a whole line whose bit is clear, and sends its pieces
to the unit homes; it refuses any other (R345, R346, R348). Writes to a held run wait (R361); once the line is
ordinary memory they are performed as such. -/
def execInboxLineWrite (write : Nat) (s : State) : Res3 :=
  s.act (match s.sv.writes.get? write with
  | none => s
  | some lw =>
    let drop := fun (s : State) => s.setSv { s.sv with writes := s.sv.writes.erase write }
    match inboxOf s lw.pha with
    | some k =>
      match s.sv.rounds.get? k with
      | none => s
      | some r =>
        let line := (lw.pha - r.inbox) / 64
        if r.ended.isSome then s
        else if !lw.whole || r.bitmap.mem line then writerDone lw.writer Config.invalidDescriptor (drop s)
        else
          let ps := linePieces r lw write
          let r := { r with
            bitmap := r.bitmap.add line
            pieces := ps.zipIdx.foldl (fun (m : FMap Piece) (p, i) => m.set (r.nextPiece + i) p) r.pieces
            nextPiece := r.nextPiece + ps.length
            writes := r.writes.set write (ps.length, lw.writer)
            stallFrom := if r.stalled then s.now else r.stallFrom }
          modRound k (fun _ => r) (drop s)
    | none =>
      if (storeOf s lw.pha).isSome then s
      else if lw.zero then writerDone lw.writer Config.invalidDescriptor (drop s)
      else
        let tenant := match lw.writer with
          | .ctx t c _ => (findCtx s t c).elim 0 fun c => c.tenant
          | .item n => (getItem? s n).elim 0 fun i => i.tenant
          | .copy n => (s.fa.copies.get? n).elim 0 fun c => c.tenant
          | .packet node tc psn => ((findOpen s node tc psn).bind fun o => boundTenant s o.pkt).getD 0
        match writeOk lw.pha lw.bytes.length tenant s with
        | (s, .ok) => writerDone lw.writer Config.ok (drop (writeRange lw.pha lw.bytes s))
        | (s, .bad st) => writerDone lw.writer st (drop s)
        | (s, .stall) => s)

/-! The apply (R351–R357). -/

/-- The generator streams of a home context; they are seeded when they are first used (R118). -/
def homeStreams (t : Nat) (s : State) : List Nat × State :=
  let v := getTab s t
  if v.homeSr.isEmpty then
    let (sr, s) := seedStreams t s
    (sr, setTab t { getTab s t with homeSr := sr } s)
  else (v.homeSr, s)

/-- Values converted to an element type at the home of the line that stores them, from element `first` of the
line on (R354). -/
def convAt (e : Elt) (sr : Bool) (pha first : Nat) (vals : List Nat) (s : State) : List Byte × State :=
  let code := fun (r : Nat → Nat) =>
    leBytes (vals.length * e.width / 8)
      (packNat e.width (vals.zipIdx.map fun (v, i) => e.convert (if sr then .sr else .rne) (r (first + i)) (decodeF Fmt.fp32 v)))
  if !sr then (code fun _ => 0, s)
  else
    let t := homeTabor s (pha / 64)
    let (st, s) := homeStreams t s
    (code (srValue st), setTab t { getTab s t with homeSr := srAdvance t st } s)

/-- A unit's 16 values of an array, without looking at poison. -/
def rawUnit (s : State) (r : Round) (a : RArr) (u : Nat) : List Nat :=
  let bytes := (heldRange s r.ptcs r.tenant (a.pva + u * a.unitBytes) a.unitBytes).flatMap fun (p, n, _) => readRange s p n
  if a.mx then
    let scale := leNat ((heldRange s r.ptcs r.tenant (a.scale + u / 2) 1).flatMap fun (p, n, _) => readRange s p n)
    (eltCodes a.elt.width 16 bytes).map (mxTo32 a.elt scale)
  else (eltCodes a.elt.width 16 bytes).map (eltTo32 a.elt)

/-- The places of a unit in an array: its elements, and its scale byte. -/
def unitPlaces (s : State) (r : Round) (a : RArr) (u : Nat) : List (Nat × Nat × Nat) :=
  heldRange s r.ptcs r.tenant (a.pva + u * a.unitBytes) a.unitBytes ++
    if a.mx then heldRange s r.ptcs r.tenant (a.scale + u / 2) 1 else []

def one32 : Nat := 0x3F800000

/-- +1, −1, 0 for either zero, NaN for NaN (R352). -/
def sign32 (c : Nat) : Nat :=
  match decodeF Fmt.fp32 c with
  | .nan _ => add32 c c
  | v => if v.eq (.fin false 0 0) then 0 else if v.sign then 0xBF800000 else one32

/-- One element of the update of R352: the new weight and states. -/
def optStep (w : List Nat) (g wt m v : Nat) : Nat × Nat × Nat :=
  let lr := wBits w 12 31 0
  let wd := wBits w 12 63 32
  let b1 := wBits w 13 31 0
  let b2 := wBits w 13 63 32
  let eps := wBits w 14 31 0
  let a1 := sub32 one32 b1
  let a2 := sub32 one32 b2
  let f := ffma Fmt.fp32
  match wBits w 1 18 17 with
  | 0 =>
    let m' := f b1 m g
    let d := f wd wt m'
    (f (neg32 lr) d wt, m', v)
  | 1 =>
    let m' := f b1 m (mul32 a1 g)
    let v' := f b2 v (mul32 a2 (mul32 g g))
    let u := div32 (mul32 m' (wBits w 15 31 0)) (add32 (sqrt32 (mul32 v' (wBits w 15 63 32))) eps)
    let d := f wd wt u
    (f (neg32 lr) d wt, m', v')
  | _ =>
    let c := f b1 m (mul32 a1 g)
    let u := sign32 c
    let d := f wd wt u
    (f (neg32 lr) d wt, f b2 m (mul32 a2 g), v)

/-- A custom step (R357): the new weights and states and whether the unit is skipped, or the status of a
call that failed. -/
def customStep (r : Round) (u t : Nat) (g w : List Nat) (sts : List (List Nat)) (s : State) :
    Except Nat (List Nat × List (List Nat) × Bool) × State :=
  match s.co.images.get? (wBits r.words 15 15 0) with
  | none => (.error Config.invalidDescriptor, s)
  | some im =>
    let bytes := fun (l : List Nat) => l.flatMap fun v => leBytes 4 v
    let (sr, s) := seedStreams t s
    let args := [r.step, u, r.id, wBits r.words 12 31 0, wBits r.words 12 63 32, wBits r.words 13 31 0,
                 wBits r.words 13 63 32, wBits r.words 14 31 0]
    let c := newCtx 0 r.tenant r.item (wBits r.words 15 15 0) im im.fuelPerCall t args sr s.now
    let input := bytes g ++ bytes w ++ sts.flatMap bytes
    let c := { c with scratch := Ctx.putBytes c.scratch 0 input }
    match runPure s.now (im.fuelPerCall + 1) c with
    | .error st => (.error st, s)
    | .ok c =>
      let get := fun (a : Nat) => eltCodes 32 16 ((c.readS a 64).getD [])
      (.ok (get 0x40, (List.range sts.length).map fun j => get (0x80 + 0x40 * j), (c.readX 10).toNat % 2 ^ 32 ≠ 0), s)

/-- The values of a unit wait at the block home of each MX array (R355). -/
def putHalf (k u : Nat) (a : RArr) (vals : List Nat) (s : State) : State :=
  modRound k (fun r =>
    let key := 2 ^ 40 * a.no + u / 2
    { r with halves := r.halves.set key ((r.halves.getD key []).set (u % 2) vals) }) s

/-- Pieces written with bytes, as one update of each line. -/
def putParts (ps : List (Nat × Nat × Nat)) (bytes : List Byte) (s : State) : State :=
  ps.foldl (fun s (a, n, place) => writeRange a (slice bytes place n) s) s

/-- Whether pieces may be written now. -/
def gateParts (ps : List (Nat × Nat × Nat)) (tenant : Nat) (s : State) : State × Gate :=
  ps.foldl (fun (x : State × Gate) (a, n, _) =>
    match x.2 with
    | .ok => writeOk a n tenant x.1
    | g => (x.1, g)) (s, .ok)

/-- The writes of a unit to an array that is not an MX array. -/
def writeUnit (r : Round) (u : Nat) (sr : Bool) (a : RArr) (vals : List Nat) (s : State) : State :=
  let ps := heldRange s r.ptcs r.tenant (a.pva + u * a.unitBytes) a.unitBytes
  let pha := (ps.headD (0, 0, 0)).1
  let (bytes, s) := convAt a.elt sr pha (pha % 64 * 8 / a.elt.width) vals s
  putParts ps bytes s

/-- A poisoned unit: nothing of it is written; its halves of MX blocks take its current values (R353, R355). -/
def poisonedUnit (k : Nat) (r : Round) (u : Nat) (s : State) : State :=
  ((stateArrs r.words ++ publishArr r.words).filter fun a => a.mx).foldl (fun s a => putHalf k u a (rawUnit s r a u) s) s

/-- The apply of a complete unit: whether it is skipped and whether it is poisoned. A status ends the round. -/
def applyUnit (k : Nat) (r : Round) (u : Nat) (reduced : List Nat) (s : State) : Acc (Bool × Bool) :=
  let target : RArr := ⟨3, wordAt r.words 2, 0, .fp32, false⟩
  let states := stateArrs r.words
  let publish := publishArr r.words
  let places := ((target :: states).flatMap fun a => unitPlaces s r a u)
  match readParts places s with
  | .wait s => .wait s
  | .bad _ s => .ok (false, true) (poisonedUnit k r u s)
  | .ok _ s =>
    let g := reduced.map fun a => mul32 (wBits r.words 14 63 32) a
    let w := rawUnit s r target u
    let sts := states.map fun a => rawUnit s r a u
    let skip := bitOf (wordAt r.words 1) 32 && g.any fun x => !finite32 x
    let tabor := homeTabor s ((places.headD (0, 0, 0)).1 / 64)
    let (res, s) :=
      if skip then (Except.ok (w, sts, true), s)
      else if r.opt = 3 then customStep r u tabor g w sts s
      else
        let l := (List.range 16).map fun i =>
          optStep r.words (g.getD i 0) (w.getD i 0) ((sts.getD 0 []).getD i 0) ((sts.getD 1 []).getD i 0)
        (Except.ok (l.map fun x => x.1,
          [l.map (fun x => x.2.1), l.map fun x => x.2.2].take states.length, false), s)
    match res with
    | .error st => .bad st s
    | .ok (w', sts', skipped) =>
      let plain := fun (l : List RArr) => l.filter fun a => !a.mx
      let w' := if skipped then w else w'
      let sts' := if skipped then sts else sts'
      let written := (if skipped then [] else target :: plain states) ++ plain publish
      match gateParts (written.flatMap fun a => unitPlaces s r a u) r.tenant s with
      | (s, .stall) => .wait s
      | (s, .bad st) => if st = Config.poisoned then .ok (false, true) (poisonedUnit k r u s) else .bad st s
      | (s, .ok) =>
        let s := markEffect r.item s
        let s := if skipped then s
          else (states.zip sts').foldl (fun s (a, vals) =>
            if a.mx then s else writeUnit r u (bitOf (wordAt r.words 1) 25) a vals s) (writeUnit r u false target w' s)
        let s := (plain publish).foldl (fun s a => writeUnit r u (bitOf (wordAt r.words 1) 30) a w' s) s
        let s := (states.zip sts').foldl (fun s (a, vals) => if a.mx then putHalf k u a vals s else s) s
        let s := (publish.filter fun a => a.mx).foldl (fun s a => putHalf k u a w' s) s
        .ok (skipped, false) s

/-- The accumulators of a unit after a piece (R350). -/
def accumulate (comp : Bool) (ru : RUnit) (p : Piece) : RUnit :=
  let acc := if ru.acc.isEmpty then List.replicate 16 0 else ru.acc
  let cs := if ru.comp.isEmpty then List.replicate 16 0 else ru.comp
  let ru := { ru with got := ru.got + 1 }
  if p.vals.isEmpty then { ru with acc := acc, comp := if comp then cs else [] }
  else
    let x := fun i => p.vals.getD i 0
    if comp then
      let l := (List.range 16).map fun i => compAdd (acc.getD i 0) (cs.getD i 0) (x i)
      { ru with acc := l.map Prod.fst, comp := l.map Prod.snd }
    else { ru with acc := (List.range 16).map fun i => add32 (acc.getD i 0) (x i) }

/-- PIECE_ACCUMULATE: a unit home adds one piece; with the N-th the unit is complete and is applied (R350,
R351). The piece waits while a line of the apply cannot be reached. DESIGN CHOICE: log entry 88. -/
def execPieceAccumulate (round piece : Nat) (s : State) : Res3 :=
  s.act (match s.sv.rounds.get? round with
  | none => s
  | some r =>
    match r.pieces.get? piece, r.ended with
    | some p, none =>
      let comp := bitOf (wordAt r.words 1) 31
      let ru := accumulate comp (r.units.getD p.unit {}) p
      let settle := fun (ru : RUnit) (s : State) =>
        let (left, writer) := r.writes.getD p.write (1, .item 0)
        let s := modRound round (fun r => { r with
          units := r.units.set p.unit ru, pieces := r.pieces.erase piece,
          writes := if left ≤ 1 then r.writes.erase p.write else r.writes.set p.write (left - 1, writer) }) s
        if left ≤ 1 then writerDone writer Config.ok s else s
      if ru.got < r.n then settle ru s
      else
        let reduced := if comp then (ru.acc.zip ru.comp).map fun (a, c) => add32 a c else ru.acc
        match applyUnit round r p.unit reduced s with
        | .wait s => s
        | .bad st s => endRound round st s
        | .ok (skipped, poisoned) s => settle { ru with phase := 1, skipped := skipped, poisoned := poisoned } s
    | _, _ => s)

/-- MX_BLOCK_QUANTISE: with the values of both units a block home quantises the block and writes its elements
and its scale (R355). A block of two poisoned units is not written. DESIGN CHOICE: log entry 88. -/
def execMxBlockQuantise (round array block : Nat) (s : State) : Res3 :=
  s.act (match s.sv.rounds.get? round with
  | none => s
  | some r =>
    let key := 2 ^ 40 * array + block
    let halves := r.halves.getD key []
    match (stateArrs r.words ++ publishArr r.words).find? fun a => a.no = array && a.mx, halves.get? 0, halves.get? 1, r.ended with
    | some a, some v0, some v1, none =>
      let done := modRound round fun r => { r with halves := r.halves.erase key }
      let bad := fun (u : Nat) => (r.units.get? u).any fun x => x.poisoned
      if bad (2 * block) && bad (2 * block + 1) then done s
      else
        let eps := heldRange s r.ptcs r.tenant (a.pva + block * 4 * a.elt.width) (4 * a.elt.width)
        let sps := heldRange s r.ptcs r.tenant (a.scale + block) 1
        match gateParts (eps ++ sps) r.tenant s with
        | (s, .stall) => s
        | (s, .bad st) => endRound round st s
        | (s, .ok) =>
          let sr := bitOf (wordAt r.words 1) (if array = 2 then 30 else 25)
          let vs := (v0 ++ v1).map (decodeF Fmt.fp32)
          let pha := (eps.headD (0, 0, 0)).1
          let t := homeTabor s (pha / 64)
          let (st, s) := if sr then homeStreams t s else ([], s)
          let first := pha % 64 * 8 / a.elt.width
          let (scale, codes) := mxQuantise a.elt (if sr then .sr else .rne) (fun i => srValue st (first + i)) vs
          let s := if sr then setTab t { getTab s t with homeSr := srAdvance t st } s else s
          let s := putParts eps (leBytes (4 * a.elt.width) (packNat a.elt.width codes)) s
          done (putParts sps [BitVec.ofNat 8 scale] s)
    | _, _, _, _ => s)

/-- UNIT_DONE: every write of a unit has been performed: its own, and those of its blocks (R351, R355).
DESIGN CHOICE: log entry 88. -/
def execUnitDone (round unit : Nat) (s : State) : Res3 :=
  s.act (match s.sv.rounds.get? round with
  | none => s
  | some r =>
    match r.units.get? unit with
    | none => s
    | some ru =>
      if ru.phase ≠ 1 || r.halves.any (fun kv => kv.1 % 2 ^ 40 = unit / 2 && FMap.has kv.2 (unit % 2)) then s
      else modRound round (fun r => { r with units := r.units.set unit { ru with phase := 2 } }) s)

/-! The end of a round (R359–R362). -/

/-- ROUND_COMPLETE: every unit is done: the flags go; once each has been acknowledged or has failed, the
declare completes (R359). A round that has ended otherwise completes in the same way (R360). -/
def execRoundComplete (round : Nat) (s : State) : Res3 :=
  s.act (match s.sv.rounds.get? round with
  | none => s
  | some r =>
    if r.ended.isSome then settleRound round (sendFlags round (r.table.length + 1) s)
    else if (r.units.count fun _ u => u.phase = 2) ≠ r.units_ then s
    else
      let st := if r.units.any fun kv => kv.2.poisoned then Config.poisoned else Config.ok
      settleRound round (sendFlags round (r.table.length + 1) (modRound round (fun r => { r with ended := some st }) s)))

/-- INBOX_HOLD_EXPIRY: the inbox run of an ended round is ordinary memory again (R361). -/
def execInboxHoldExpiry (round : Nat) (s : State) : Res3 :=
  s.act (match s.sv.rounds.get? round with
  | none => s
  | some r =>
    if !r.finished then s
    else
      let s := s.reach r.holdUntil
      s.setSv { s.sv with rounds := s.sv.rounds.erase round })

/-- ROUND_STALLED: STALL_S has passed since the declare, or since the last report or accepted piece (R362). -/
def execRoundStalled (round : Nat) (s : State) : Res3 :=
  s.act (match s.sv.rounds.get? round with
  | none => s
  | some r =>
    if r.ended.isSome then s
    else
      let s := s.reach (r.stallFrom + 1000000000 * Par.stallS s)
      let lines := slotLines r.words
      let open_ := r.units_ - r.units.count fun _ u => r.n ≤ u.got
      let short := (List.range r.n).filter fun c =>
        (r.bitmap.countP fun kv => c * lines ≤ kv.1 && kv.1 < (c + 1) * lines) < lines
      raise 0x170 r.tenant (r.id + 2 ^ 32 * open_) (short.length + 2 ^ 32 * short.headD 0)
        (modRound round (fun r => { r with stallFrom := s.now, stalled := true }) s))

end Sys2Proof.Machine
end

