-- ==== Sys2Proof/Machine/Embedding.lean ====
section
/-!
DEFINITION. Results that an item delivers to the range, to host memory or through a window, and the
embedding engine (R365–R388).
-/

namespace Sys2Proof.Machine

/-! Reads of units that may be poisoned. -/

/-- The part of translated pieces from place `off` on, `len` bytes, with places counted from 0. -/
def cutParts (ps : List (Nat × Nat × Nat)) (off len : Nat) : List (Nat × Nat × Nat) :=
  ps.filterMap fun (a, n, place) =>
    let lo := max place off
    let hi := min (place + n) (off + len)
    if lo < hi then some (a + (lo - place), hi - lo, lo - off) else none

/-- Bytes of pieces that can be read; none where a line of them is poisoned. -/
def bytesOrPoison (s : State) (ps : List (Nat × Nat × Nat)) : Option (List Byte) :=
  if ps.all (fun (a, n, _) => readOk s a n = .ok) then some (ps.flatMap fun (a, n, _) => readRange s a n) else none

/-- `count` units of `unit` bytes at a PVA; a unit that reads as poisoned is none. -/
def softRead (n tenant pva unit count : Nat) (s : State) : Acc (List (Option (List Byte))) :=
  if count = 0 then .ok [] s
  else
    (tryLook n tenant pva (unit * count) false s).bind fun ps s =>
      if ps.any (fun (a, k, _) => readOk s a k = .stall) then .wait s
      else
        .ok ((List.range count).map fun j => bytesOrPoison s (cutParts ps (unit * j) unit))
          (ps.foldl (fun s (a, k, _) => sampleRange a k s) s)

/-- The same for 32-bit numbers. -/
def softWords (n tenant pva count : Nat) (s : State) : Acc (List (Option Nat)) :=
  (softRead n tenant pva 4 count s).bind fun l s => .ok (l.map fun b => b.map leNat) s

/-! Where results go (R374, R379, R398, R418). -/

/-- A destination: 0 a PVA, 1 a host address, 2 a window with a counter. -/
structure Dest where
  kind : Nat
  addr : Nat
  node : Nat
  window : Nat
  offset : Nat
  counter : Option Nat
  deriving DecidableEq, Repr

/-- The fields of a destination: Ext 0 to 2 hold the window's. -/
def destOf (w : List Nat) (kind addr : Nat) (counted : Bool) : Dest :=
  { kind := kind, addr := addr, node := wBits w 8 15 0, window := wBits w 8 31 16, offset := wordAt w 9,
    counter := if counted then some (wordAt w 10) else none }

/-- The layout of a destination's fields (R374). -/
def destOk (w : List Nat) (d : Dest) : Bool :=
  d.kind ≤ 2 && d.addr % 64 = 0 && (d.kind ≠ 0 || d.addr < 2 ^ 56) && (d.kind ≠ 2 || d.addr = 0) &&
    wordAt w 8 < 2 ^ 32 && wordAt w 9 < 2 ^ 50 && wordAt w 9 % 64 = 0 && wordAt w 10 < 2 ^ 18

/-- Pieces of a host range that lie in one 4 KiB page each: address, bytes, place. -/
def hostPieces : Nat → Nat → Nat → Nat → List (Nat × Nat × Nat)
  | 0, _, _, _ => []
  | fuel + 1, a, len, place =>
    if len = 0 then []
    else
      let k := hostRun a len
      (a % 2 ^ 64, k, place) :: hostPieces fuel (a + k) (len - k) (place + k)

/-- Bytes to host memory that may lie in several pages: none is written before each is translated. -/
def hostPutAll (n : Nat) (i : Item) (a : Nat) (bytes : List Byte) (s : State) : Acc Unit :=
  let ps := hostPieces (bytes.length / 4096 + 2) a bytes.length 0
  (ps.foldl (fun (x : Acc Unit) (b, _, _) => x.bind fun _ s => (hostLook n i b true s).bind fun _ s => .ok () s)
    (.ok () s)).bind fun _ s =>
    ps.foldl (fun (x : Acc Unit) (b, k, place) => x.bind fun _ s => hostPut n i b (slice bytes place k) s) (.ok () s)

/-- Bytes to a window: 64 B WRITEs to another node, or the same checks and writes at a window of this device. -/
def windowPut (n : Nat) (i : Item) (d : Dest) (at_ : Nat) (bytes : List Byte) (s : State) : Acc Unit :=
  match jobOf s i.tenant with
  | none => .bad Config.accessDenied s
  | some job =>
    let lines := lineParts (bytes.length + 1) (d.offset + at_) bytes.length 0
    if d.node = s.fa.nodeId then
      match rwtCheck s job d.window 1 (d.offset + at_) bytes.length 1 d.counter with
      | .error st => .bad st s
      | .ok a =>
        if (lineParts (bytes.length + 1) a bytes.length 0).any fun q => intercepted s (q.1 * 64) then
          let parts := lineParts (bytes.length + 1) a bytes.length 0
          let s := parts.foldl (fun s (line, off, k, place) =>
            interceptWrite (line * 64 + off) (k = 64) (slice bytes place k) (.item n) false s) (markEffect n s)
          .ok () (modItem n (fun i => { i with regs := i.regs.set 0 (i.regs.getD 0 0 + parts.length) }) s)
        else
          match writeOk a bytes.length i.tenant s with
          | (s, .ok) =>
            let s := writeRange a bytes (markEffect n s)
            .ok () (match d.counter with
              | some k => bumpCounter k bytes.length s
              | none => s)
          | (s, .bad st) => .bad st s
          | (s, .stall) => .wait s
    else
      .ok () (lines.foldl (fun s (line, off, k, place) =>
        let r := s.fa.nextReq
        let s := modItem n (fun i => { i with out := i.out ++ [r] }) s
        sendReq d.node (.item n) i.tenant 0
          { noPkt with kind := 2, tc := tenantClass s i.tenant, job := job, window := d.window, offset := line * 64 + off,
                       counted := d.counter.isSome, counter := d.counter.getD 0, payload := slice bytes place k } s)
        (markEffect n s))

/-- Bytes of a result at a place of its destination. -/
def putResult (n : Nat) (i : Item) (d : Dest) (at_ : Nat) (bytes : List Byte) (s : State) : Acc Unit :=
  match d.kind with
  | 0 => tryWrite n i.tenant (d.addr + at_) bytes s
  | 1 => hostPutAll n i ((d.addr + at_) % 2 ^ 64) bytes s
  | _ => windowPut n i d at_ bytes s

/-- The end of an item once everything that it wrote through windows has been performed: until then it waits.
A write to an intercepted line that was refused gives its status. DESIGN CHOICE: log entries 27, 28. -/
def settleOut (n status r0 r1 : Nat) (s : State) : State :=
  match getItem? s n with
  | none => s
  | some i =>
    if !i.out.isEmpty then modItem n (fun i => { i with wait := .remote }) s
    else if i.regs.getD 0 0 ≠ 0 then s
    else match i.regs.getD 1 0 with
      | 0 => endItem n status r0 r1 s
      | k => endItem n (k - 1) r0 r1 s

/-! Tables (R365–R373). -/

/-- Bytes of a row slot (R365). -/
def Desc.stride (d : Desc) : Nat := 64 * ((8 + d.d * (if d.code4 then 4 else 8) / 8 + 63) / 64)
def Desc.codeBits (d : Desc) : Nat := if d.code4 then 4 else 8

/-- Pins of items that have not ended. -/
def livePins (s : State) (t : Table) : FMap Desc := t.pins.keep fun n _ => (getItem? s n).any fun i => i.ended.isNone

/-- A tenant's table, and one that accepts items. -/
def tableOf (s : State) (tenant id : Nat) : Option (Nat × Table) := s.sv.tables.first? fun _ t => t.tenant = tenant && t.id = id
def openTable (s : State) (tenant id : Nat) : Option (Nat × Table) :=
  s.sv.tables.first? fun _ t => t.tenant = tenant && t.id = id && t.destroying.isNone

/-- The table that an item has pinned, and the descriptor. -/
def pinned (s : State) (n : Nat) : Option (Nat × Desc) :=
  s.sv.tables.findSome? fun kv => (kv.2.pins.get? n).map fun d => (kv.1, d)

def setTable (k : Nat) (t : Table) (s : State) : State := s.setSv { s.sv with tables := s.sv.tables.set k t }

/-- The descriptor of a create or replace, when its fields follow R365 and R369. -/
def descOf (w : List Nat) (version : Nat) : Option Desc :=
  let d : Desc := { version := version, code4 := bitOf (wordAt w 1) 16, d := wBits w 1 27 17, rows := wordAt w 3,
                    rowsPva := wordAt w 2, rowMode := bitOf (wordAt w 1) 28, defPva := wordAt w 4 }
  if widthsOk w [29, 56, 32, 56] && (List.range 7).all (fun k => wordAt w (9 + k) = 0) && 16 ≤ d.d && d.d ≤ 1024 &&
      d.d % 16 = 0 && d.rowsPva % 64 = 0 && d.defPva % 64 = 0 && (d.rowMode || d.defPva = 0) && d.rows ≠ 0 &&
      d.rows ≤ 0xFFFFFFFE then some d
  else none

/-- TABLE_CREATE makes a table with VERSION 1 (R370). -/
def execTableCreate (item : Nat) (s : State) : Res3 :=
  .next (withItem item 0x28 s fun i s =>
    let id := wBits i.words 1 15 0
    match descOf i.words 1 with
    | none => endItem item Config.invalidDescriptor 0 0 s
    | some d =>
      checked item (wordAt i.words 8 = 0 && (tableOf s i.tenant id).isNone) s fun s =>
        if Par.tablesMax s ≤ s.sv.tables.length || Par.tablesPerTenant s ≤ s.sv.tables.count (fun _ t => t.tenant = i.tenant) then
          endItem item Config.noSpace 0 0 s
        else
          let k := s.sv.nextTable
          let s := s.setSv { s.sv with nextTable := k + 1 }
          endItem item Config.ok 1 0 (setTable k { tenant := i.tenant, id := id, cur := d } s))

/-- Replaces whose older descriptors nothing pins end, and then a destroyed table (R371, R373). -/
def settleTable (k : Nat) (s : State) : State :=
  match s.sv.tables.get? k with
  | none => s
  | some t =>
    let pins := livePins s t
    let ready := fun (v : Nat) => pins.all fun kv => v ≤ kv.2.version
    let s := (t.replacing.filter fun q => ready q.2).foldl (fun s q => endItem q.1 Config.ok q.2 0 s) s
    let t := { t with pins := pins, replacing := t.replacing.filter fun q => !ready q.2 }
    match t.destroying with
    | some n =>
      if pins.isEmpty then endItem n Config.ok 0 0 (s.setSv { s.sv with tables := s.sv.tables.erase k })
      else setTable k t s
    | none => setTable k t s

/-- TABLE_REPLACE compares EXPECTED_VERSION with the table's and installs the new descriptor, in one step; it
completes once no item pins an older one (R371). -/
def execTableReplace (item : Nat) (s : State) : Res3 :=
  .next (withItem item 0x29 s fun i s =>
    match openTable s i.tenant (wBits i.words 1 15 0) with
    | none => endItem item Config.invalidDescriptor 0 0 s
    | some (k, t) =>
      match descOf i.words (t.cur.version + 1) with
      | none => endItem item Config.invalidDescriptor 0 0 s
      | some d =>
        if wordAt i.words 8 ≠ t.cur.version then endItem item Config.staleVersion t.cur.version 0 s
        else
          let s := setTable k { t with cur := d, replacing := t.replacing ++ [(item, d.version)] } s
          settleTable k (modItem item (fun i => { i with wait := .engine }) s))

/-- TABLE_UNPINNED: no item pins an older descriptor: the replaces that waited for it, or the destroy, complete
(R371, R373). -/
def execTableUnpinned (table : Nat) (s : State) : Res3 := s.act (settleTable table s)

/-- TABLE_DESTROY: from now on items that name the table are refused; it completes once nothing pins the
table (R373). -/
def execTableDestroy (item : Nat) (s : State) : Res3 :=
  .next (withItem item 0x2C s fun i s =>
    match openTable s i.tenant (wordAt i.words 1) with
    | none => endItem item Config.invalidDescriptor 0 0 s
    | some (k, t) =>
      checked item (widthsOk i.words [16]) s fun s =>
        settleTable k (setTable k { t with destroying := some item } (modItem item (fun i => { i with wait := .engine }) s)))

/-! Rows (R366, R367, R384, R385). -/

/-- A row as it reads: SCALE, OFFSET, SEQ, PRESENT and the codes. -/
structure RowVal where
  scale : Nat
  offset : Nat
  seq : Nat
  present : Bool
  codes : List Nat
  deriving DecidableEq, Repr

def rowVal (d : Desc) (b : List Byte) : RowVal :=
  let h := leField b 0 8
  { scale := bitsOf h 15 0, offset := bitsOf h 31 16, seq := bitsOf h 47 32, present := bitOf h 48,
    codes := eltCodes d.codeBits d.d (slice b 8 (d.d * d.codeBits / 8)) }

def bf16To32 (b : Nat) : Nat := 65536 * b

/-- The dequantised row (R367). -/
def dequant (r : RowVal) : List Nat :=
  r.codes.map fun (c : Nat) => ffma Fmt.fp32 (encodeF Fmt.fp32 (FVal.ofInt (c : Int))) (bf16To32 r.scale) (bf16To32 r.offset)

/-- The bytes of a row slot, padding included (R365). -/
def rowBytes (d : Desc) (r : RowVal) : List Byte :=
  fitTo (leBytes 8 (r.scale + 2 ^ 16 * r.offset + 2 ^ 32 * r.seq + 2 ^ 48 * b2n r.present) ++
    leBytes (d.d * d.codeBits / 8) (packNat d.codeBits r.codes)) d.stride 0

/-- A value in a format, rounded toward −∞ or toward +∞. -/
def encodeDown (f : Fmt) (v : FVal) : Nat := if v.sign then encodeWith f false .away 0 v else encodeWith f true .trunc 0 v
def encodeUp (f : Fmt) (v : FVal) : Nat := if v.sign then encodeWith f true .trunc 0 v else encodeWith f false .away 0 v

/-- The quotients of a row, before they are rounded to codes, with its SCALE and OFFSET; none for a row that is
refused (R384). -/
def requant (code4 : Bool) (z : List Nat) : Option (Nat × Nat × List Nat) :=
  match z with
  | [] => none
  | z0 :: _ =>
    if z.any fun x => !finite32 x then none
    else
      let v := fun (b : Nat) => decodeF Fmt.fp32 b
      let lo := z.foldl (fminF Fmt.fp32) z0
      let hi := z.foldl (fmaxF Fmt.fp32) z0
      let l : Int := if code4 then 15 else 255
      let offset := encodeDown Fmt.bf16 (v lo)
      let o32 := v (bf16To32 offset)
      let diff := encodeUp Fmt.fp32 ((v hi).add o32.neg)
      let quot := encodeUp Fmt.fp32 ((v diff).div (FVal.ofInt l))
      let scale := encodeUp Fmt.bf16 (v quot)
      if !finite32 (bf16To32 offset) || !finite32 (bf16To32 scale) || !finite32 diff then none
      else if scale % 0x8000 = 0 then some (scale, offset, z.map fun _ => 0)
      else some (scale, offset, z.map fun x => div32 (sub32 x (bf16To32 offset)) (bf16To32 scale))

/-- Quotients rounded to codes. SR takes the streams of the row home's services, which advance once for each 32
elements (R116, R117). -/
def toCodes (code4 sr : Bool) (tabor : Nat) : Nat → List Nat → State → List Nat × State
  | 0, _, s => ([], s)
  | fuel + 1, q, s =>
    if q.isEmpty then ([], s)
    else
      let (st, s) := if sr then homeStreams tabor s else ([], s)
      let l : Int := if code4 then 15 else 255
      let codes := (q.take 32).zipIdx.map fun (x, j) =>
        ((decodeF Fmt.fp32 x).toInt (if sr then .sr else .rne) (srValue st j) 0 l).toNat
      let s := if sr then setTab tabor { getTab s tabor with homeSr := srAdvance tabor st } s else s
      let (rest, s) := toCodes code4 sr tabor fuel (q.drop 32) s
      (codes ++ rest, s)

/-! Look-ups (R374–R381). -/

/-- Offsets of bags that follow R375. -/
def offsetsOk (offs : List Nat) : Bool :=
  offs.headD 1 = 0 && (offs.zip (offs.drop 1)).all (fun (a, b) => a ≤ b && b - a ≤ 4096) && offs.getLastD 0 ≤ 0x100000

/-- The layout of a look-up (R374). -/
def lookupOk (w : List Nat) (d : Dest) : Bool :=
  widthsOk w [49, 56, 56, 56, 64] && wBits w 1 31 23 = 0 && wBits w 1 18 17 ≤ 2 && 1 ≤ wBits w 1 48 32 &&
    wBits w 1 48 32 ≤ 65536 && wordAt w 2 % 4 = 0 && wordAt w 3 % 4 = 0 && (bitOf (wordAt w 1) 19 || wordAt w 4 = 0) &&
    (List.range 5).all (fun k => wordAt w (11 + k) = 0) && destOk w d

def getLookup (s : State) (n : Nat) : Option Lookup := s.sv.lookups.get? n
def setLookup (n : Nat) (l : Lookup) (s : State) : State := s.setSv { s.sv with lookups := s.sv.lookups.set n l }

/-- A look-up that cannot go on ends with a status. -/
def Acc.lookup (n : Nat) (x : Acc Unit) : State :=
  match x with
  | .ok _ s => s
  | .bad st s => endItem n st 0 0 s
  | .wait s => s

/-- The offsets, indices and weights are read, and the look-up is ready to read rows (R375). -/
def startLookup (item : Nat) (i : Item) (desc : Desc) (s : State) : Acc Unit :=
  let w := i.words
  let bags := wBits w 1 48 32
  (softWords item i.tenant (wordAt w 3) (bags + 1) s).bind fun offs s =>
    if offs.any Option.isNone then
      .ok () (endItem item Config.poisoned 0 (bags + 2 ^ 32 * (desc.version % 2 ^ 32)) s)
    else
      let offs := offs.map fun o => o.getD 0
      if !offsetsOk offs then .bad Config.invalidDescriptor s
      else
        let total := offs.getLastD 0
        (softWords item i.tenant (wordAt w 2) total s).bind fun idx s =>
          (if bitOf (wordAt w 1) 19 then softWords item i.tenant (wordAt w 4) total s
           else .ok (idx.map fun _ => some 0) s).bind fun wts s =>
            let sizes := (offs.zip (offs.drop 1)).map fun (a, b) => b - a
            let bagOf := sizes.zipIdx.flatMap fun (n, b) => List.replicate n b
            let places := (bagOf.zip (idx.zip wts)).zipIdx
            let bad : NSet := places.foldl (fun m (q, _) => if q.2.1.isNone || q.2.2.isNone then m.add q.1 else m) []
            let todo : NSet := places.foldl (fun m (q, p) => if q.2.1.isNone || q.2.2.isNone then m else m.add p) []
            let weighted := bitOf (wordAt w 1) 19
            let l : Lookup :=
              { desc := desc, sizes := sizes, bad := bad, todo := todo,
                idx := places.map fun (q, _) => (q.1, q.2.1.getD 0, if weighted then q.2.2 else none) }
            .ok () (setLookup item l s)

/-- The output format of a look-up. -/
def outElt : Nat → Elt
  | 0 => .fp32
  | 1 => .bf16
  | _ => .fp16

/-- The bytes of a bag's results (R378–R380). -/
def bagBytes (w : List Nat) (l : Lookup) (b : Nat) : List Byte :=
  let e := outElt (wBits w 1 18 17)
  let f := (e.fmt?).getD Fmt.fp32
  let n := l.sizes.getD b 0
  let zero := List.replicate l.desc.d 0
  let vals :=
    if l.bad.mem b then List.replicate l.desc.d (f.nanCode.getD 0)
    else
      let sums := l.sums.getD b zero
      let sums := if bitOf (wordAt w 1) 16 && n ≠ 0 then
          sums.map fun x => div32 x (encodeF Fmt.fp32 (FVal.ofInt n))
        else sums
      sums.map fun x => encodeF f (decodeF Fmt.fp32 x)
  let bytes := vals.flatMap fun v => leBytes (f.width / 8) v
  fitTo bytes (64 * ((bytes.length + 63) / 64)) 0

/-- The bags of a look-up from the first that has not been written. -/
def writeBags (item : Nat) (i : Item) (l : Lookup) (d : Dest) : Nat → Nat → State → Acc Unit
  | 0, _, s => .wait s
  | fuel + 1, b, s =>
    if l.sizes.length ≤ b then .ok () s
    else
      let bytes := bagBytes i.words l b
      (putResult item i d (b * bytes.length) bytes s).bind fun _ s =>
        writeBags item i l d fuel (b + 1) (modItem item (fun i => { i with prog := b + 1 }) s)

/-- EMB_LOOKUP: at admission the table's descriptor is pinned, and the offsets, indices and weights are read;
when every row has been added, the bags are written (R372, R374–R380). -/
def execEmbLookup (item : Nat) (s : State) : Res3 :=
  .next (withItem item 0x2A s fun i s =>
    let w := i.words
    let d := destOf w (wBits w 1 21 20) (wordAt w 5) (bitOf (wordAt w 1) 22)
    match getLookup s item with
    | some l =>
      if !l.todo.isEmpty then s
      else
        Acc.lookup item ((writeBags item i l d (l.sizes.length + 1) i.prog s).bind fun _ s =>
          let r0 := l.defaulted + 2 ^ 32 * l.invalid
          let r1 := l.bad.length + 2 ^ 32 * (l.desc.version % 2 ^ 32)
          .ok () (settleOut item (if l.bad.isEmpty then Config.ok else Config.poisoned) r0 r1 s))
    | none =>
      match pinned s item with
      | some (_, desc) => Acc.lookup item (startLookup item i desc s)
      | none =>
        match openTable s i.tenant (wBits w 1 15 0) with
        | none => endItem item Config.invalidDescriptor 0 0 s
        | some (k, t) =>
          let s := s.setSv { s.sv with lookups := s.sv.lookups.keep fun n _ => (getItem? s n).any fun i => i.ended.isNone }
          let s := setTable k { t with pins := (livePins s t).set item t.cur } s
          let s := modItem item (fun i => { i with r1 := 2 ^ 32 * (t.cur.version % 2 ^ 32) }) s
          checked item (lookupOk w d) s fun s => Acc.lookup item (startLookup item i t.cur s))

/-- The values of one index are added to the sums of its bag (R378). -/
def poolRow (item p : Nat) (l : Lookup) (vals : List Nat) (s : State) : State :=
  let (bag, _, wt) := l.idx.getD p (0, 0, none)
  let ys := match wt with
    | some x => vals.map (mul32 x)
    | none => vals
  let old := l.sums.getD bag (List.replicate l.desc.d 0)
  setLookup item { l with todo := l.todo.del p, wait := l.wait.del p,
                          sums := l.sums.set bag ((old.zip ys).map fun (a, y) => add32 a y) } s

/-- An index that selects the default row (R369, R376). -/
def poolDefault (item p : Nat) (i : Item) (l : Lookup) (invalid : Bool) (s : State) : Acc Unit :=
  let l := { l with defaulted := l.defaulted + 1, invalid := l.invalid + b2n invalid }
  if !l.desc.rowMode then .ok () (poolRow item p l (List.replicate l.desc.d 0) s)
  else
    (softRead item i.tenant l.desc.defPva l.desc.stride 1 s).bind fun b s =>
      match b with
      | [some b] => .ok () (poolRow item p l (dequant (rowVal l.desc b)) s)
      | _ =>
        .ok () (setLookup item { l with todo := l.todo.del p, wait := l.wait.del p, bad := l.bad.add ((l.idx.getD p (0, 0, none)).1) } s)

/-- The row home reads the row of an index and sends its values to the bag (R376–R378). A row whose SEQ is odd is
read again only once its update has ended. -/
def readRow (item p : Nat) (last : Bool) (s : State) : State :=
  match getItem? s item, getLookup s item with
  | some i, some l =>
    if !s.alive || i.opcode ≠ 0x2A || i.ended.isSome || i.wait ≠ .none || s.rc.warmStep ≠ 0 || !l.todo.mem p || l.wait.mem p ≠ last then s
    else
      let (bag, row, _) := l.idx.getD p (0, 0, none)
      Acc.lookup item (
        if l.desc.rows ≤ row then poolDefault item p i l true s
        else
          (softRead item i.tenant (l.desc.rowsPva + row * l.desc.stride) l.desc.stride 1 s).bind fun b s =>
            match b with
            | [some b] =>
              let r := rowVal l.desc b
              if r.seq % 2 = 1 && !last then .ok () (setLookup item { l with wait := l.wait.add p } s)
              else if !r.present then poolDefault item p i l false s
              else .ok () (poolRow item p l (dequant r) s)
            | _ => .ok () (setLookup item { l with todo := l.todo.del p, wait := l.wait.del p, bad := l.bad.add bag } s))
  | _, _ => s

/-- ROW_READ: the row home of index `k` of a look-up reads the row (R377). Between two commands no update is
half written, so that every reread finds the same SEQ. -/
def execRowRead (item k : Nat) (s : State) : Res3 := s.act (readRow item k false s)

/-- ROW_UPDATE_END_WAIT: a row home that found SEQ odd SEQ_RETRY times and waited for the update in progress to
end reads the row once more (R377). -/
def execRowUpdateEndWait (item k : Nat) (s : State) : Res3 := s.act (readRow item k true s)

/-! Updates (R382–R386). -/

/-- The layout of an update (R382). -/
def updateOk (w : List Nat) : Bool :=
  widthsOk w [53, 56, 56, 32] && wBits w 1 31 20 = 0 && 1 ≤ wBits w 1 52 32 && wBits w 1 52 32 ≤ 0x100000 &&
    wordAt w 2 % 4 = 0 && wordAt w 3 % 64 = 0 && (wBits w 1 17 16 ≠ 3 || wordAt w 3 = 0) &&
    (wBits w 1 17 16 = 2 || wordAt w 4 = 0) && (List.range 7).all (fun k => wordAt w (9 + k) = 0)

/-- What an update makes of a row: its SCALE, OFFSET, PRESENT and quotients or zero codes; none when it is
refused (R383, R384). -/
def newRow (w : List Nat) (d : Desc) (old : Option RowVal) (data : List Nat) : Option (Nat × Nat × Bool × List Nat) :=
  let zero := List.replicate d.d 0
  let x := match old with
    | some r => if r.present then dequant r else zero
    | none => zero
  let put := fun (z : List Nat) => (requant d.code4 z).map fun (scale, offset, q) => (scale, offset, true, q)
  match wBits w 1 17 16 with
  | 0 => put data
  | 1 => put ((x.zip data).map fun (a, e) => add32 a e)
  | 2 => put ((x.zip data).map fun (a, e) => ffma Fmt.fp32 (wordAt w 4) e a)
  | _ => some (0, 0, false, zero)

/-- One row of an update (R383–R385): 1 updated, 2 refused, 3 poisoned. The row is written as one step, with SEQ
at the next even value; the SEQ of a poisoned row is gone, so that the next one is free. -/
def updateRow (item : Nat) (i : Item) (d : Desc) (row : Nat) (data : List Nat) (s : State) : Acc Nat :=
  let w := i.words
  let op := wBits w 1 17 16
  (tryLook item i.tenant (d.rowsPva + row * d.stride) d.stride true s).bind fun ps s =>
    if ps.any (fun (a, k, _) => readOk s a k = .stall) then .wait s
    else
      let old := (bytesOrPoison s ps).map (rowVal d)
      if old.isNone && (op = 1 || op = 2) then .ok 3 s
      else
        match newRow w d old data with
        | none => .ok 2 s
        | some (scale, offset, present, q) =>
          match gateParts ps i.tenant s with
          | (s, .bad st) => .bad st s
          | (s, .stall) => .wait s
          | (s, .ok) =>
            let (seq, s) := match old with
              | some r => ((r.seq + 2 - r.seq % 2) % 0x10000, s)
              | none =>
                let (v, s) := drawFree 385 s
                ((v % 0x8000) * 2, s)
            let (codes, s) :=
              toCodes d.code4 (bitOf (wordAt w 1) 18) (homeTabor s ((ps.headD (0, 0, 0)).1 / 64)) (d.d + 1) q s
            (writeParts item i.tenant ps
              (rowBytes d { scale := scale, offset := offset, seq := seq, present := present, codes := codes }) s).bind
              fun _ s => .ok 1 s

/-- The rows of an update from place `k` on. The item's results count what it has done so far. -/
def updateRows (item : Nat) (i : Item) (d : Desc) : Nat → Nat → State → Acc Unit
  | 0, _, s => .wait s
  | fuel + 1, k, s =>
    let w := i.words
    if wBits w 1 52 32 ≤ k then .ok () s
    else
      let size := if bitOf (wordAt w 1) 19 then 2 else 4
      (tryRead item i.tenant (wordAt w 2 + 4 * k) 4 s).bind fun b s =>
        let row := leNat b
        let next := fun (r0 r1 : Nat) (s : State) =>
          updateRows item i d fuel (k + 1) (modItem item (fun i => { i with prog := k + 1, r0 := i.r0 + r0, r1 := i.r1 + r1 }) s)
        if d.rows ≤ row then next (2 ^ 32) 0 s
        else
          (if wBits w 1 17 16 = 3 then Acc.ok [] s
           else tryRead item i.tenant (wordAt w 3 + k * d.d * size) (d.d * size) s).bind fun b s =>
            let data := (eltCodes (8 * size) d.d b).map fun x => if size = 2 then bf16To32 x else x
            (updateRow item i d row data s).bind fun what s =>
              match what with
              | 1 => next 1 0 s
              | 2 => next 0 1 s
              | _ => next 0 (2 ^ 32) s

/-- EMB_UPDATE updates the listed rows one at a time, each in one step at its row home (R383–R386). -/
def execEmbUpdate (item : Nat) (s : State) : Res3 :=
  .next (withItem item 0x2B s fun i s =>
    let w := i.words
    let go := fun (desc : Desc) (s : State) =>
      Acc.run item ((updateRows item i desc (wBits w 1 52 32 + 1) i.prog s).bind fun _ s =>
        let poison := ((getItem? s item).map fun i => i.r1 / 2 ^ 32).getD 0
        .ok () (endItem item (if poison = 0 then Config.ok else Config.poisoned) 0 0 s))
    match pinned s item with
    | some (_, desc) => go desc s
    | none =>
      match openTable s i.tenant (wBits w 1 15 0) with
      | none => endItem item Config.invalidDescriptor 0 0 s
      | some (k, t) =>
        checked item (updateOk w) s fun s =>
          if wordAt w 8 ≠ 0 && wordAt w 8 ≠ t.cur.version then endItem item Config.staleVersion t.cur.version 0 s
          else go t.cur (setTable k { t with pins := (livePins s t).set item t.cur } s))

end Sys2Proof.Machine
end

