-- ==== Sys2Proof/Machine/Squall.lean ====
section
/-!
DEFINITION. Squall vector search (R389–R411).
-/

namespace Sys2Proof.Machine

/-! The fields of an index (R389). -/

def Index.graph (x : Index) : Bool := bitOf (wordAt x.words 1) 16
def Index.metric (x : Index) : Nat := wBits x.words 1 18 17
def Index.vfmt (x : Index) : Nat := wBits x.words 1 20 19
def Index.codeK (x : Index) : Nat := if bitOf (wordAt x.words 1) 21 then 16 else 256
def Index.tableU8 (x : Index) : Bool := bitOf (wordAt x.words 1) 22
def Index.m (x : Index) : Nat := wBits x.words 1 31 24
def Index.dim (x : Index) : Nat := wBits x.words 1 43 32
def Index.degree (x : Index) : Nat := wBits x.words 1 50 44
def Index.nlist (x : Index) : Nat := wordAt x.words 2
def Index.efBuild (x : Index) : Nat := wBits x.words 7 31 16
def Index.itemsMax (x : Index) : Nat := wordAt x.words 8
def Index.subDim (x : Index) : Nat := x.dim / x.m
def Index.elt (x : Index) : Elt := outElt x.vfmt
def Index.fmt (x : Index) : Fmt := (x.elt.fmt?).getD Fmt.fp32

/-- Bytes of one vector, and from one vector to the next in a list of them. -/
def Index.vecBytes (x : Index) : Nat := x.dim * (x.fmt.width / 8)
def Index.vecStride (x : Index) : Nat := 64 * ((x.vecBytes + 63) / 64)

/-- Store bytes that an item takes: its entry or record, its vector and its edges, and what the private layout
adds to them (R392). -/
def Index.itemSpace (x : Index) : Nat :=
  64 + x.vecStride + (if x.graph then 64 * ((4 * x.degree + 63) / 64) else 0) + 64 * Config.unstated 392 (wordAt x.words 1)

/-- The rules of R389. -/
def indexOk (w : List Nat) : Bool :=
  let x : Index := { tenant := 0, id := 0, words := w }
  let graphFields := x.degree = 0 && x.efBuild = 0
  let ivfFields := !bitOf (wordAt w 1) 21 && !bitOf (wordAt w 1) 22 && x.m = 0 && x.nlist = 0 && wordAt w 3 = 0 && wordAt w 4 = 0
  widthsOk w [51, 17, 56, 56, 56, 35, 32] && !bitOf (wordAt w 1) 23 && (List.range 7).all (fun k => wordAt w (9 + k) = 0) &&
    x.vfmt ≤ 2 && 16 ≤ x.dim && x.dim ≤ 2048 && x.dim % 16 = 0 && wordAt w 3 % 64 = 0 && wordAt w 4 % 64 = 0 &&
    wordAt w 5 % 0x200000 = 0 && wordAt w 6 ≠ 0 && (x.metric = 3 || wBits w 7 15 0 = 0) && 1 ≤ x.itemsMax &&
    x.itemsMax ≤ 0xFFFFFFFE &&
    (if x.graph then ivfFields && 8 ≤ x.degree && x.degree ≤ 64 && x.degree ≤ x.efBuild && x.efBuild ≤ 1024
     else graphFields && 8 ≤ x.m && x.m ≤ 128 && x.dim % x.m = 0 && 1 ≤ x.nlist && x.nlist ≤ 65536 &&
       (x.tableU8 || x.m * x.codeK * 4 ≤ 32768))

/-- A tenant's index, and one that accepts items. -/
def indexOf (s : State) (tenant id : Nat) : Option (Nat × Index) := s.sv.indexes.first? fun _ x => x.tenant = tenant && x.id = id
def openIndex (s : State) (tenant id : Nat) : Option (Nat × Index) :=
  s.sv.indexes.first? fun _ x => x.tenant = tenant && x.id = id && x.destroying.isNone
def setIndex (k : Nat) (x : Index) (s : State) : State := s.setSv { s.sv with indexes := s.sv.indexes.set k x }
def modIndex (k : Nat) (f : Index → Index) (s : State) : State := s.setSv { s.sv with indexes := s.sv.indexes.modify k f }

/-- An item that has not ended. -/
def liveItem (s : State) (n : Nat) : Bool := (getItem? s n).any fun i => i.ended.isNone

/-- INDEX_CREATE (R389, R390). -/
def execIndexCreate (item : Nat) (s : State) : Res3 :=
  .next (withItem item 0x30 s fun i s =>
    let w := i.words
    let id := wBits w 1 15 0
    let x : Index := { tenant := i.tenant, id := id, words := w }
    let handleOk := x.metric ≠ 3 || (imageOf s i.tenant (wBits w 7 15 0)).any fun im => im.kind = 2
    checked item (indexOk w && handleOk && (indexOf s i.tenant id).isNone) s fun s =>
      if Par.indexesMax s ≤ s.sv.indexes.length ||
          Par.indexesPerTenant s ≤ s.sv.indexes.count (fun _ x => x.tenant = i.tenant) then endItem item Config.noSpace 0 0 s
      else
        let ranges := (wordAt w 5, 0x200000 * wordAt w 6, true) ::
          if x.graph then []
          else [(wordAt w 3, x.nlist * x.dim * 4, false), (wordAt w 4, x.codeK * x.dim * 4, false)]
        Acc.run item ((lookAll item i.tenant ranges s).bind fun (_, ents) s =>
          let ptcs := ents.eraseDups
          let k := s.sv.nextIndex
          let s := ptcAdmitAll ptcs (s.setSv { s.sv with nextIndex := k + 1 })
          .ok () (endItem item Config.ok 0 0 (setIndex k { x with ptcs := ptcs } s))))

/-! Reading the index's arrays. -/

/-- Bytes of an index's ranges: POISONED where a line of them is. -/
def heldRead (x : Index) (pva len : Nat) (s : State) : Acc (List Byte) :=
  readParts (heldRange s x.ptcs x.tenant pva len) s

def heldF32 (x : Index) (pva count : Nat) (s : State) : Acc (List Nat) :=
  (heldRead x pva (4 * count) s).bind fun b s => .ok (eltCodes 32 count b) s

def centroid (x : Index) (l : Nat) (s : State) : Acc (List Nat) := heldF32 x (wordAt x.words 3 + 4 * x.dim * l) x.dim s

/-- The codewords of a sub-quantiser. -/
def codewords (x : Index) (j : Nat) (s : State) : Acc (List (List Nat)) :=
  (heldF32 x (wordAt x.words 4 + 4 * x.codeK * x.subDim * j) (x.codeK * x.subDim) s).bind fun l s =>
    .ok ((List.range x.codeK).map fun c => slice l (c * x.subDim) x.subDim) s

/-- The stored vector of an item, widened to fp32, once its line can be read. -/
def itemVec (x : Index) (v : VItem) (s : State) : Acc (List Nat) :=
  (heldRead x (wordAt x.words 5 + v.off) (64 + x.vecStride) s).bind fun _ s =>
    .ok (v.vec.map fun b => encodeF Fmt.fp32 (decodeF x.fmt b)) s

/-- Accesses over a list, one after another. -/
def accMap {α β : Type} (f : α → State → Acc β) : List α → State → Acc (List β)
  | [], s => .ok [] s
  | a :: l, s => (f a s).bind fun b s => (accMap f l s).bind fun bs s => .ok (b :: bs) s

/-! Distances (R391, R407). -/

/-- Partial sums added in fp32 in arrival order, which is not the model's to fix: the order is free. -/
def arriveSum (l : List Nat) (s : State) : Nat × State :=
  let key := fun (j : Nat) => Config.unstated 391 (0x10000 * s.freeCtr + j)
  let l' := sortBy (fun (a b : Nat × Nat) => key a.2 < key b.2) l.zipIdx
  ((l'.map Prod.fst).foldl add32 0, s.setFreeCtr (s.freeCtr + 1))

def one32f : Nat := encodeF Fmt.fp32 (FVal.ofInt 1)

/-- A list in pieces of 16, the last one padded with zeros: the piece and its elements in use. -/
def pieces16 : Nat → List Nat → List (List Nat × Nat)
  | 0, _ => []
  | fuel + 1, l => if l.isEmpty then [] else (fitTo (l.take 16) 16 0, min 16 l.length) :: pieces16 fuel (l.drop 16)

/-- One call of the distance kernel (R407). -/
def callKernel (x : Index) (q v : List Nat) (used what : Nat) (s : State) : Acc Nat :=
  let h := wBits x.words 7 15 0
  match s.co.images.get? h with
  | none => .bad Config.invalidDescriptor s
  | some im =>
    let t := homeTabor s (((heldLook s x.ptcs x.tenant (wordAt x.words 5)).getD 0) / 64)
    let (sr, s) := seedStreams t s
    let c := newCtx 0 x.tenant 0 h im im.fuelPerCall t [used, what] sr s.now
    let c := { c with scratch := Ctx.putBytes c.scratch 0 ((q ++ v).flatMap fun b => leBytes 4 b) }
    match runPure s.now (im.fuelPerCall + 1) c with
    | .error st => .bad st s
    | .ok c => .ok ((c.readX 10).toNat % 2 ^ 32) s

/-- The sum of kernel calls over the pieces of two vectors. -/
def kernelSum (x : Index) (what : Nat) (q v : List Nat) (s : State) : Acc Nat :=
  let ps := (pieces16 (q.length + 1) q).zip (pieces16 (v.length + 1) v)
  (accMap (fun (p : (List Nat × Nat) × List Nat × Nat) s => callKernel x p.1.1 p.2.1 p.1.2 what s) ps s).bind fun l s =>
    let (r, s) := arriveSum l s
    .ok r s

def l2Terms (q v : List Nat) : List Nat := (q.zip v).map fun (a, b) =>
  let d := sub32 a b
  mul32 d d

/-- The exact distance of two vectors (R391), and the sum from which it is formed. -/
def exactDist (x : Index) (q v : List Nat) (s : State) : Acc (Nat × Nat) :=
  match x.metric with
  | 0 =>
    let (d, s) := arriveSum ((q.zip v).map fun (a, b) => mul32 a b) s
    .ok (neg32 d, d) s
  | 1 =>
    let (d, s) := arriveSum ((q.zip v).map fun (a, b) => mul32 a b) s
    .ok (sub32 one32f d, d) s
  | 2 =>
    let (d, s) := arriveSum (l2Terms q v) s
    .ok (d, d) s
  | _ => (kernelSum x 1 q v s).bind fun d s => .ok (d, d) s

/-- The vector divided by the square root of its sum of squares. -/
def normalise (v : List Nat) (s : State) : List Nat × State :=
  let (q, s) := arriveSum (v.map fun a => mul32 a a) s
  (v.map fun a => div32 a (sqrt32 q), s)

/-- The order of results: by distance, then by number. A NaN, for which the spec gives no place, is last. -/
def nearer (a b : Nat × Nat) : Bool :=
  let x := decodeF Fmt.fp32 a.1
  let y := decodeF Fmt.fp32 b.1
  if x.isNan || y.isNan then (!x.isNan && y.isNan) || (x.isNan && y.isNan && a.2 < b.2)
  else x.lt y || (x.eq y && a.2 < b.2)

def nearest (n : Nat) (l : List (Nat × Nat)) : List (Nat × Nat) := (sortBy nearer l).take n

/-! Graph search (R404–R406). -/

/-- The nodes of a graph that can be visited. -/
def Index.nodes (x : Index) : FMap VItem := x.items.keep fun _ v => !v.refused && !v.freed

/-- The search of R405: candidates with their distances, the nodes expanded, and the nodes measured. -/
def beam (x : Index) (q : List Nat) (ef : Nat) : Nat → List (Nat × Nat) → List Nat → List Nat → State → Acc (List (Nat × Nat))
  | 0, cand, _, _, s => .ok cand s
  | fuel + 1, cand, done, seen, s =>
    match cand.find? fun c => !done.contains c.2 with
    | none => .ok cand s
    | some (_, n) =>
      let out := (((x.items.get? n).map fun v => v.edges).getD []).filter fun m => !seen.contains m && x.nodes.has m
      (accMap (fun m s =>
        match x.items.get? m with
        | none => .ok (0, m) s
        | some v => (itemVec x v s).bind fun vec s => (exactDist x q vec s).bind fun d s => .ok (d.1, m) s) out s).bind fun ds s =>
        beam x q ef fuel (nearest ef (cand ++ ds)) (n :: done) (out ++ seen) s

/-- The candidates that a search from the entry node finds. -/
def graphFind (x : Index) (q : List Nat) (ef : Nat) (s : State) : Acc (List (Nat × Nat)) :=
  match x.entry.bind fun n => (x.items.get? n).map fun v => (n, v) with
  | none => .ok [] s
  | some (n, v) =>
    (itemVec x v s).bind fun vec s => (exactDist x q vec s).bind fun d s =>
      beam x q ef (x.items.length + 1) [(d.1, n)] [] [n] s

/-- The distances of some nodes from a node. -/
def nodeDists (x : Index) (v : VItem) (ns : List Nat) (s : State) : Acc (List (Nat × Nat)) :=
  (itemVec x v s).bind fun q s =>
    accMap (fun m s =>
      match x.items.get? m with
      | none => .ok (0, m) s
      | some u => (itemVec x u s).bind fun vec s => (exactDist x q vec s).bind fun d s => .ok (d.1, m) s)
      (ns.filter fun m => x.items.has m) s

/-- The nearest `degree` of some nodes, as a new edge list of a node. -/
def pickEdges (x : Index) (v : VItem) (ns : List Nat) (s : State) : Acc (List Nat) :=
  if ns.length ≤ x.degree then .ok ns s
  else (nodeDists x v ns s).bind fun ds s => .ok ((nearest x.degree ds).map Prod.snd) s

/-- A node is placed: its out-edges, and the reverse edges of its neighbours (R404). -/
def placeNode (x : Index) (n : Nat) (v : VItem) (q : List Nat) (s : State) : Acc Index :=
  match x.entry with
  | none => .ok { x with items := x.items.set n v, entry := some n } s
  | some _ =>
    (graphFind x q x.efBuild s).bind fun found s =>
      let out := (nearest x.degree found).map Prod.snd
      let x := { x with items := x.items.set n { v with edges := out } }
      (accMap (fun m s =>
        match x.items.get? m with
        | none => .ok (m, []) s
        | some u => (pickEdges x u (u.edges ++ [n]) s).bind fun e s => .ok (m, e) s) out s).bind fun es s =>
        .ok { x with items := es.foldl (fun it (m, e) => it.modify m fun u => { u with edges := e }) x.items } s

/-! Stamps and epochs (R395, R396). -/

/-- An INSERT or DELETE is stamped with the pending epoch at its admission. -/
def stamp_ (k n : Nat) (s : State) : State := modIndex k (fun x => { x with stamped := x.stamped.set n x.pending, dirty := true }) s

/-- The stamp of an item. -/
def stampOf (x : Index) (n : Nat) : Nat := x.stamped.getD n x.pending

/-- The next publish begins: later items are stamped E + 2. -/
def startPublish (x : Index) : Index := { x with pending := x.epoch + 2, dirty := false }

/-- A publish is admitted, and waits behind the others. -/
def addPublish (n : Nat) (x : Index) : Index :=
  let x := if x.publishes.isEmpty then startPublish x else x
  { x with publishes := x.publishes ++ [n] }

/-- An item that names an index: it goes on when the index accepts it. -/
def withIndex (item : Nat) (i : Item) (s : State) (k : Nat → Index → State → State) : State :=
  match openIndex s i.tenant (wBits i.words 1 15 0) with
  | none => if i.regs.getD 7 0 = 0 then endItem item Config.invalidDescriptor 0 0 s else
      match indexOf s i.tenant (wBits i.words 1 15 0) with
      | none => s
      | some (n, x) => k n x s
  | some (n, x) => if x.failed then endItem item Config.extentRevoked 0 0 s else k n x s

/-- An item is marked as admitted to its index. -/
def admitted (item : Nat) (s : State) : State := modItem item (fun i => { i with regs := i.regs.set 7 1 }) s

/-! Inserts (R393, R394). -/

/-- A free run of the store for an item: the lowest one. -/
def storeRoom (x : Index) : Option Nat :=
  let need := x.itemSpace
  let live := x.nodes.map fun kv => kv.2.off
  let total := 0x200000 * wordAt x.words 6
  let fits := fun (o : Nat) => o + need ≤ total && live.all fun p => p + need ≤ o || o + need ≤ p
  ((0 :: live.map (· + need)).filter fits).foldl (fun (b : Option Nat) o => match b with
    | some p => some (min p o)
    | none => some o) none

/-- The list of a vector, its codes and its term b (R393). -/
def encodeIvf (x : Index) (v : List Nat) (given : Option Nat) (s : State) : Acc (Nat × List Nat × Nat) :=
  (match given with
    | some l => Acc.ok l s
    | none =>
      (accMap (fun l s => (centroid x l s).bind fun c s => (exactDist x v c s).bind fun d s => .ok (d.1, l) s)
        (List.range x.nlist) s).bind fun ds s => .ok (((nearest 1 ds).headD (0, 0)).2) s).bind fun l s =>
    (centroid x l s).bind fun c s =>
      let r := (v.zip c).map fun (a, b) => sub32 a b
      (accMap (fun j s =>
        (codewords x j s).bind fun ws s =>
          let rj := slice r (j * x.subDim) x.subDim
          (accMap (fun (w : List Nat × Nat) s =>
            let (d, s) := arriveSum (l2Terms rj w.1) s
            .ok (d, w.2) s) ws.zipIdx s).bind fun ds s =>
            let best := ((nearest 1 ds).headD (0, 0)).2
            .ok (best, ws.getD best []) s) (List.range x.m) s).bind fun codes s =>
        let rhat := codes.flatMap Prod.snd
        let (nn, s) := arriveSum (rhat.map fun a => mul32 a a) s
        let (cr, s) := arriveSum ((c.zip rhat).map fun (a, b) => mul32 a b) s
        .ok (l, codes.map Prod.fst, add32 nn (mul32 (encodeF Fmt.fp32 (FVal.ofInt 2)) cr)) s

/-- A vector as it is placed: widened to fp32 and, under COSINE, normalised; none when it is refused. -/
def prepareVec (x : Index) (codes : List Nat) (s : State) : Option (List Nat) × State :=
  let v := codes.map fun b => encodeF Fmt.fp32 (decodeF x.fmt b)
  if v.any fun a => !finite32 a then (none, s)
  else if x.metric = 1 then
    if v.all fun a => a % 2 ^ 31 = 0 then (none, s)
    else
      let (v, s) := normalise v s
      (some v, s)
  else (some v, s)

/-- One vector of an INSERT is numbered and placed. -/
def insertOne (item : Nat) (i : Item) (k j : Nat) (x : Index) (s : State) : Acc Unit :=
  let w := i.words
  let n := x.next
  (tryRead item i.tenant (wordAt w 2 + j * x.vecStride) x.vecBytes s).bind fun vb s =>
  (tryRead item i.tenant (wordAt w 3 + 8 * j) 8 s).bind fun lb s =>
  (if wordAt w 4 = 0 then Acc.ok [] s else tryRead item i.tenant (wordAt w 4 + 4 * j) 4 s).bind fun tb s =>
  (if bitOf (wordAt w 8) 0 then (tryRead item i.tenant (wordAt w 9 + 4 * j) 4 s).bind fun b s => .ok (some (leNat b)) s
   else Acc.ok none s).bind fun list s =>
    let v0 : VItem := { label := leNat lb, tag := leNat tb, vec := [], list := 0, codes := [], b := 0, ins := stampOf x item }
    let keep := fun (x : Index) (refused : Bool) (s : State) =>
      let s := setIndex k { x with next := n + 1 } s
      modItem item (fun i => { i with prog := j + 1, r0 := i.r0 + 2 ^ 32, r1 := i.r1 + b2n refused }) s
    if x.itemsMax ≤ n then .bad Config.noSpace s
    else if !x.graph && list.any fun l => x.nlist ≤ l then .bad Config.invalidDescriptor s
    else
      match prepareVec x (eltCodes x.fmt.width x.dim vb) s with
      | (none, s) => .ok () (keep { x with items := x.items.set n { v0 with refused := true } } true s)
      | (some v, s) =>
        match storeRoom x with
        | none => .bad Config.noSpace s
        | some off =>
          let stored := v.map fun a => encodeF x.fmt (decodeF Fmt.fp32 a)
          let ps := heldRange s x.ptcs x.tenant (wordAt x.words 5 + off) (64 + x.vecStride)
          let bytes := fitTo (leBytes 64 (Config.unstated 393 s.freeCtr) ++ leBytes x.vecBytes (packNat x.fmt.width stored))
            (64 + x.vecStride) 0
          (writeParts item i.tenant ps bytes (s.setFreeCtr (s.freeCtr + 1))).bind fun _ s =>
            let v1 := { v0 with vec := stored, off := off }
            if x.graph then
              (placeNode x n v1 (stored.map fun b => encodeF Fmt.fp32 (decodeF x.fmt b)) s).bind fun x s =>
                .ok () (keep x false s)
            else
              (encodeIvf x v list s).bind fun (l, codes, b) s =>
                .ok () (keep { x with items := x.items.set n { v1 with list := l, codes := codes, b := b } } false s)

/-- The vectors of an INSERT from place `j` on. -/
def insertFrom (item : Nat) (i : Item) (k : Nat) : Nat → Nat → State → Acc Unit
  | 0, _, s => .wait s
  | fuel + 1, j, s =>
    if wBits i.words 1 32 16 ≤ j then .ok () (endItem item Config.ok 0 0 s)
    else
      match s.sv.indexes.get? k with
      | none => .wait s
      | some x => (insertOne item i k j x s).bind fun _ s => insertFrom item i k fuel (j + 1) s

/-- The layout of an INSERT (R393). -/
def insertOk (w : List Nat) (x : Index) : Bool :=
  widthsOk w [33, 56, 56, 56] && 1 ≤ wBits w 1 32 16 && wBits w 1 32 16 ≤ 65536 && wordAt w 2 % 64 = 0 && wordAt w 3 % 8 = 0 &&
    wordAt w 4 % 4 = 0 && wordAt w 8 < 2 && wordAt w 9 < 2 ^ 56 && (wordAt w 8 = 1 || wordAt w 9 = 0) &&
    (!x.graph || wordAt w 8 = 0) && (List.range 6).all (fun k => wordAt w (10 + k) = 0)

/-- INSERT numbers, encodes and places vectors (R393, R394, R404). The vectors of one INSERT are placed before those
of the next, so that each has consecutive numbers. -/
def execInsert (item : Nat) (s : State) : Res3 :=
  .next (withItem item 0x32 s fun i s =>
    withIndex item i s fun k x s =>
      let s := if i.regs.getD 7 0 = 0 then stamp_ k item (admitted item s) else s
      checked item (insertOk i.words x) s fun s =>
        let others := s.ho.items.any fun kv =>
          kv.1 ≠ item && kv.2.opcode = 0x32 && kv.2.ended.isNone && kv.2.regs.getD 6 0 = 1 && kv.2.tenant = i.tenant &&
            wBits kv.2.words 1 15 0 = x.id
        if others then s
        else
          let s := if i.regs.getD 6 0 = 0 then
              modItem item (fun i => { i with r0 := x.next, regs := i.regs.set 6 1 }) s
            else s
          Acc.run item (insertFrom item i k (wBits i.words 1 32 16 + 1) i.prog s))

/-- DELETE stamps the named items that have no delete stamp (R397). -/
def execDelete (item : Nat) (s : State) : Res3 :=
  .next (withItem item 0x33 s fun i s =>
    withIndex item i s fun k _ s =>
      let first := wordAt i.words 2
      let count := wordAt i.words 3
      let s := stamp_ k item (admitted item s)
      checked item (widthsOk i.words [16, 32, 32] && count ≠ 0) s fun s =>
        match s.sv.indexes.get? k with
        | none => s
        | some x =>
          let hit := fun (n : Nat) (v : VItem) => first ≤ n && n < first + count && v.del.isNone
          let marked := x.items.count hit
          let x := { x with items := x.items.mapVal fun n v => if hit n v then { v with del := some (stampOf x item) } else v }
          endItem item Config.ok (marked + 2 ^ 32 * (count - marked)) 0 (markEffect item (setIndex k x s)))

/-- EPOCH_PUBLISH: from now on items are stamped E + 2; the publish waits for those stamped E + 1 (R395). -/
def execEpochPublish (item : Nat) (s : State) : Res3 :=
  .next (withItem item 0x34 s fun i s =>
    withIndex item i s fun k _ s =>
      checked item (widthsOk i.words [16]) s fun s =>
        modItem item (fun i => { i with wait := .engine, regs := i.regs.set 7 1 }) (modIndex k (addPublish item) s))

/-- EPOCH_PUBLISH_DONE: no item stamped E + 1 is left: E becomes E + 1, and the next publish begins (R395). -/
def execEpochPublishDone (index : Nat) (s : State) : Res3 :=
  .next (match s.sv.indexes.get? index with
  | none => s
  | some x =>
    match x.publishes with
    | [] => s
    | n :: rest =>
      let left := x.stamped.keep fun m _ => liveItem s m
      if !s.alive || left.any (fun kv => kv.2 ≤ x.epoch + 1) then s
      else
        let x := { x with epoch := x.epoch + 1, publishes := rest, stamped := left }
        let x := if rest.isEmpty then x else startPublish x
        endItem n Config.ok x.epoch 0 (setIndex index x s))

/-- AUTO_PUBLISH_TIMER: every AUTO_PUBLISH_MS each index with items stamped since its last publish is published
(R395). -/
def execAutoPublishTimer (s : State) : Res3 :=
  .next (if Par.autoPublishMs s = 0 || !s.alive then s
  else
    let s := s.reach (s.sv.autoDue + 1000000 * Par.autoPublishMs s)
    s.setSv { s.sv with
      autoDue := s.now
      indexes := s.sv.indexes.mapVal fun _ x => if x.dirty && !x.failed && x.destroying.isNone then addPublish 0 x else x })

/-! Searches (R398–R403, R405, R408). -/

/-- An item is visible to a query epoch (R396). -/
def VItem.visible (v : VItem) (e : Nat) : Bool := !v.refused && !v.freed && v.ins ≤ e && v.del.all fun d => e < d

/-- The table of a sub-quantiser for a query, or for a probed list under PROGRAM (R400 step 2). -/
def tableOfSub (x : Index) (q : List Nat) (c : List Nat) (j : Nat) (s : State) : Acc (List Nat) :=
  let qj := slice q (j * x.subDim) x.subDim
  let cj := slice c (j * x.subDim) x.subDim
  (codewords x j s).bind fun ws s =>
    accMap (fun (w : List Nat) s =>
      if x.metric = 3 then kernelSum x 0 qj ((cj.zip w).map fun (a, b) => add32 a b) s
      else
        let (d, s) := arriveSum ((qj.zip w).map fun (a, b) => mul32 a b) s
        .ok d s) ws s

/-- The sum s of an entry's codes, with fp32 tables or with the byte tables of R401. -/
def scanSum (x : Index) (tables : List (List Nat)) (codes : List Nat) : Nat :=
  let term := fun (j : Nat) => (tables.getD j []).getD (codes.getD j 0) 0
  if !x.tableU8 then ((List.range x.m).map term).foldl add32 0
  else
    let lo := tables.map fun t => t.tail.foldl (fminF Fmt.fp32) (t.headD 0)
    let hi := tables.map fun t => t.tail.foldl (fmaxF Fmt.fp32) (t.headD 0)
    let span := (hi.zip lo).map fun (a, b) => sub32 a b
    let top := span.tail.foldl (fmaxF Fmt.fp32) (span.headD 0)
    let d := div32 top (encodeF Fmt.fp32 (FVal.ofInt 255))
    let delta := if d % 2 ^ 31 = 0 then one32f else d
    let t := (List.range x.m).map fun j =>
      ((decodeF Fmt.fp32 (div32 (sub32 (term j) (lo.getD j 0)) delta)).toInt .rne 0 0 255).toNat
    let total : Nat := t.foldl (fun (a b : Nat) => a + b) 0
    add32 (mul32 delta (encodeF Fmt.fp32 (FVal.ofInt (total : Int)))) (lo.foldl add32 0)

/-- The approximate distance of an entry (R400): from the list's coarse sum, the entry's b, and s. -/
def approxDist (x : Index) (raw b sum : Nat) : Nat :=
  match x.metric with
  | 0 => neg32 (add32 raw sum)
  | 1 => sub32 one32f (add32 raw sum)
  | 2 => sub32 (add32 raw b) (mul32 (encodeF Fmt.fp32 (FVal.ofInt 2)) sum)
  | _ => sum

/-- The candidates of an IVF query (R400, R402). -/
def ivfFind (x : Index) (w : List Nat) (q : List Nat) (e : Nat) (s : State) : Acc (List (Nat × Nat)) :=
  let k := wBits w 1 39 29
  let rerank := wordAt w 4
  (accMap (fun l s => (centroid x l s).bind fun c s => (exactDist x q c s).bind fun d s => .ok (d, l) s)
    (List.range x.nlist) s).bind fun ds s =>
    let probe := (nearest (wBits w 3 15 0) (ds.map fun (d, l) => (d.1, l))).map Prod.snd
    (if x.metric = 3 then Acc.ok [] s else accMap (tableOfSub x q []) (List.range x.m) s).bind fun common s =>
      (accMap (fun l s =>
        let raw := ((ds.find? fun d => d.2 = l).map fun d => d.1.2).getD 0
        (if x.metric = 3 then (centroid x l s).bind fun c s => accMap (tableOfSub x q c) (List.range x.m) s
         else Acc.ok common s).bind fun tables s =>
          let entries := x.items.filter fun kv => kv.2.list = l && !kv.2.refused && !kv.2.freed
          (accMap (fun (kv : Nat × VItem) s =>
            (heldRead x (wordAt x.words 5 + kv.2.off) 64 s).bind fun _ s =>
              .ok (if kv.2.visible e then some (approxDist x raw kv.2.b (scanSum x tables kv.2.codes), kv.1) else none) s)
            entries s).bind fun r s => .ok (r.filterMap id) s) probe s).bind fun found s =>
        let cand := nearest (max k rerank) found.flatten
        if rerank = 0 then .ok cand s
        else
          (accMap (fun (c : Nat × Nat) s =>
            match x.items.get? c.2 with
            | none => .ok c s
            | some v => (itemVec x v s).bind fun vec s => (exactDist x q vec s).bind fun d s => .ok (d.1, c.2) s) cand s).bind
            fun l s => .ok (nearest k l) s

/-- The results of a graph query (R405). -/
def graphQuery (x : Index) (w : List Nat) (q : List Nat) (e : Nat) (s : State) : Acc (List (Nat × Nat)) :=
  (graphFind x q (wBits w 3 31 16) s).bind fun found s =>
    .ok (nearest (wBits w 1 39 29) (found.filter fun c => (x.items.get? c.2).any fun v => v.visible e)) s

/-- The filter of a SEARCH (R398, R403). -/
def passes (w : List Nat) (tag : Nat) : Bool :=
  let lo := wBits w 6 31 0
  let hi := wBits w 6 63 32
  match wBits w 1 45 44 with
  | 0 => true
  | 1 => Nat.land tag hi = lo
  | _ => lo ≤ tag && tag ≤ hi

def resultBytes (label dist item : Nat) : List Byte := leBytes 8 label ++ leBytes 4 dist ++ leBytes 4 item
def emptyResult : List Byte := resultBytes 0 0x7F800000 0xFFFFFFFF

/-- Entries of a query's output, and the bytes of it (R398, R399). -/
def outEntries (w : List Nat) : Nat := 4 * ((wBits w 1 39 29 + 3) / 4)

/-- DESIGN CHOICE: log entry 104. -/
def queryBytes (x : Index) (w : List Nat) (l : List (Nat × Nat)) : List Byte :=
  let rows := l.map fun (d, n) => resultBytes (((x.items.get? n).map fun v => v.label).getD 0) d n
  (rows ++ List.replicate (outEntries w - rows.length) emptyResult).flatten

/-- The store still holds the vectors that the device wrote. A write that the device admitted to it makes the
results undefined (R390). DESIGN CHOICE: log entry 104. -/
def storeIntact (x : Index) (s : State) : Bool :=
  x.nodes.all fun kv =>
    let ps := heldRange s x.ptcs x.tenant (wordAt x.words 5 + kv.2.off + 64) x.vecBytes
    ps.any (fun (a, n, _) => readOk s a n ≠ .ok) ||
      ps.flatMap (fun (a, n, _) => readRange s a n) = leBytes x.vecBytes (packNat x.fmt.width kv.2.vec)

/-- Free values in place of the results of a query. -/
def freeResults (w : List Nat) (s : State) : List Byte × State :=
  (leBytes (16 * outEntries w) (Config.unstated 390 s.freeCtr), s.setFreeCtr (s.freeCtr + 1))

/-- The bytes of a query at its source, none where they are poisoned (R380, R408). -/
def readQuery (item : Nat) (i : Item) (x : Index) (j : Nat) (s : State) : Acc (Option (List Byte)) :=
  let w := i.words
  if bitOf (wordAt w 1) 40 then
    let have_ := ((getItem? s item).map fun i => i.data).getD []
    if x.vecBytes ≤ have_.length then .ok (some (have_.take x.vecBytes)) s
    else
      let a := (wordAt w 2 + j * x.vecStride + have_.length) % 2 ^ 64
      match hostRead item i a (hostRun a (x.vecBytes - have_.length)) s with
      | .ok _ s => .wait s
      | .bad st s => .bad st s
      | .wait s => .wait s
  else (softRead item i.tenant (wordAt w 2 + j * x.vecStride) x.vecBytes 1 s).bind fun l s => .ok (l.headD none) s

/-- One query: its output, whether it is short, and whether it is poisoned. A kernel call that fails ends the item. -/
def runQuery (x : Index) (w : List Nat) (e : Nat) (bytes : Option (List Byte)) (s : State) : Acc (List Byte × Bool × Bool) :=
  let bad := ((List.replicate (outEntries w) emptyResult).flatten, false, true)
  match bytes with
  | none => .ok bad s
  | some b =>
    let q := (eltCodes x.fmt.width x.dim b).map fun c => encodeF Fmt.fp32 (decodeF x.fmt c)
    let (q, s) := if x.metric = 1 then normalise q s else (q, s)
    if !storeIntact x s then
      let (out, s) := freeResults w s
      .ok (out, Config.unstated 403 s.freeCtr % 2 = 1, false) s
    else
      match (if x.graph then graphQuery x w q e s else ivfFind x w q e s) with
      | .wait s => .wait s
      | .bad st s => if st = Config.poisoned then .ok bad s else .bad st s
      | .ok l s =>
        let l := (l.take (wBits w 1 39 29)).filter fun c => (x.items.get? c.2).any fun v => passes w v.tag
        .ok (queryBytes x w l, l.length < wBits w 1 39 29, false) s

/-- The queries of a SEARCH from number `j` on. -/
def queriesFrom (item : Nat) (i : Item) (x : Index) (e : Nat) (d : Dest) : Nat → Nat → State → Acc Unit
  | 0, _, s => .wait s
  | fuel + 1, j, s =>
    if wBits i.words 1 28 16 ≤ j then .ok () s
    else
      (readQuery item i x j s).bind fun b s =>
        (runQuery x i.words e b s).bind fun (out, short, bad) s =>
          (putResult item i d (j * out.length) out s).bind fun _ s =>
            queriesFrom item i x e d fuel (j + 1) (modItem item (fun i =>
              { i with prog := j + 1, data := [], r0 := i.r0 + b2n short + 2 ^ 32 * b2n bad }) s)

/-- The layout of a SEARCH (R398). -/
def searchOk (w : List Nat) (x : Index) (d : Dest) : Bool :=
  let k := wBits w 1 39 29
  let probe := wBits w 3 15 0
  let ef := wBits w 3 31 16
  let rerank := wordAt w 4
  widthsOk w [46, 64, 32, 16, 64, 64] && 1 ≤ wBits w 1 28 16 && wBits w 1 28 16 ≤ 4096 && 1 ≤ k && k ≤ 1024 &&
    wBits w 1 45 44 ≤ 2 && (bitOf (wordAt w 1) 40 || wordAt w 2 < 2 ^ 56) && wordAt w 2 % 64 = 0 &&
    (if x.graph then probe = 0 && rerank = 0 && k ≤ ef && ef ≤ 1024
     else ef = 0 && 1 ≤ probe && probe ≤ min x.nlist 1024 && (rerank = 0 || (k ≤ rerank && rerank ≤ 1024))) &&
    (List.range 5).all (fun j => wordAt w (11 + j) = 0) && destOk w d

/-- SEARCH pins the current epoch at its admission and runs its queries (R396, R398–R403, R405, R408).
DESIGN CHOICE: log entry 104. -/
def execSearch (item : Nat) (s : State) : Res3 :=
  .next (withItem item 0x31 s fun i s =>
    withIndex item i s fun k x s =>
      let w := i.words
      let d := destOf w (wBits w 1 42 41) (wordAt w 5) (bitOf (wordAt w 1) 43)
      let e := x.pins.getD item x.epoch
      let s := if i.regs.getD 7 0 = 0 then
          modIndex k (fun x => { x with pins := (x.pins.keep fun n _ => liveItem s n).set item e })
            (modItem item (fun i => { i with r1 := e }) (admitted item s))
        else s
      checked item (searchOk w x d) s fun s =>
        Acc.run item ((queriesFrom item i x e d (wBits w 1 28 16 + 1) i.prog s).bind fun _ s =>
          let r0 : Nat := ((getItem? s item).map fun i => i.r0).getD 0
          let status := if 2 ^ 32 ≤ r0 then Config.poisoned else if r0 ≠ 0 then Config.short else Config.ok
          .ok () (settleOut item status 0 0 s)))

/-! Reclaiming (R406) and destroying (R392). -/

/-- COMPACT in graph mode: edge lists that name a reclaimable node are rewritten. -/
def rewriteEdges (x : Index) (gone : Nat → Bool) (s : State) : Acc Index :=
  (accMap (fun (kv : Nat × VItem) s =>
    if gone kv.1 || !(kv.2.edges.any gone) then .ok (kv.1, kv.2.edges) s
    else
      let more := kv.2.edges.flatMap fun m =>
        if gone m then (((x.items.get? m).map fun v => v.edges).getD []).filter fun j => !gone j else [m]
      (pickEdges x kv.2 (more.eraseDups.filter fun m => m ≠ kv.1) s).bind fun e s => .ok (kv.1, e) s) x.nodes s).bind fun l s =>
    .ok { x with items := l.foldl (fun it (n, e) => it.modify n fun v => { v with edges := e }) x.items } s

/-- COMPACT frees the items whose delete stamp no admitted query can precede (R406). Another COMPACT that has been
admitted on the index completes with it. -/
def execCompact (item : Nat) (s : State) : Res3 :=
  .next (withItem item 0x35 s fun i s =>
    withIndex item i s fun k x s =>
      checked item (widthsOk i.words [16]) s fun s =>
        let same := s.ho.items.filter fun kv =>
          kv.2.opcode = 0x35 && kv.2.ended.isNone && kv.2.regs.getD 7 0 = 1 && kv.2.tenant = i.tenant && wBits kv.2.words 1 15 0 = x.id
        if i.regs.getD 7 0 = 0 && !same.isEmpty then modItem item (fun i => { i with wait := .engine }) (admitted item s)
        else
          let pins := x.pins.keep fun n _ => liveItem s n
          let eMin : Nat := pins.foldl (fun (m : Nat) kv => min m kv.2) x.epoch
          let s := if i.regs.getD 7 0 = 0 then modItem item (fun i => { i with regs := i.regs.set 5 eMin }) (admitted item s) else s
          let eMin : Nat := (((getItem? s item).map fun i => i.regs).getD []).foldl (fun (m : Nat) kv => if kv.1 = 5 then kv.2 else m) 0
          let gone := fun (n : Nat) => (x.items.get? n).any fun v => !v.refused && !v.freed && v.del.any fun d => d ≤ eMin
          Acc.run item ((if x.graph then rewriteEdges x gone s else Acc.ok x s).bind fun x s =>
            let count := x.items.count fun n _ => gone n
            let left := x.nodes.filter fun kv => !gone kv.1
            let entry := if x.entry.any gone then (left.map Prod.fst).head? else x.entry
            let x := { x with
              entry := entry
              items := x.items.mapVal fun n v => if gone n then { v with freed := true, vec := [], codes := [], edges := [] } else v }
            let s := setIndex k x s
            let done := item :: (same.map Prod.fst).filter fun n => n ≠ item
            .ok () (done.foldl (fun s n => endItem n Config.ok count 0 s) s)))

/-- Pages of a range by the entries that a service holds. -/
def heldPages (s : State) (ptcs : List Nat) (tenant pva pages : Nat) : List Nat :=
  ((heldRange s ptcs tenant pva (0x200000 * pages)).map fun q => q.1 / 0x200000).eraseDups

/-- An index is gone: its references are given up, and its store's pages are absent. -/
def removeIndex (k : Nat) (x : Index) (s : State) : State :=
  let s := (heldPages s x.ptcs x.tenant (wordAt x.words 5) (wordAt x.words 6)).foldl (fun s p => releasePage p false s) s
  ptcDoneAll x.ptcs (s.setSv { s.sv with indexes := s.sv.indexes.erase k })

/-- Items that an index has admitted and that have not ended. -/
def indexBusy (s : State) (x : Index) : Bool :=
  s.ho.items.any fun kv =>
    0x31 ≤ kv.2.opcode && kv.2.opcode ≤ 0x35 && kv.2.tenant = x.tenant && kv.2.ended.isNone && kv.2.regs.getD 7 0 = 1 &&
      wBits kv.2.words 1 15 0 = x.id

/-- INDEX_DESTROY: from now on items that name the index are refused; it completes once none of its items remains
(R392). -/
def execIndexDestroy (item : Nat) (s : State) : Res3 :=
  .next (withItem item 0x36 s fun i s =>
    match indexOf s i.tenant (wordAt i.words 1) with
    | none => endItem item Config.invalidDescriptor 0 0 s
    | some (k, x) =>
      checked item (widthsOk i.words [16] && (x.destroying.isNone || x.destroying = some item)) s fun s =>
        let x := { x with destroying := some item }
        if indexBusy s x then setIndex k x s
        else endItem item Config.ok 0 0 (removeIndex k x (markEffect item s)))

end Sys2Proof.Machine
end

