-- ==== Sys2Proof/Machine/Cumulus.lean ====
section
/-!
DEFINITION. The Cumulus block store (R412–R427).
-/

namespace Sys2Proof.Machine

/-! The fields of a store (R412, R413). -/

def Store.dropLru (x : Store) : Bool := bitOf (wordAt x.words 1) 16
def Store.pinTier (x : Store) : Nat := wBits x.words 1 18 17
def Store.keysMax (x : Store) : Nat := wordAt x.words 4
def Store.landing (x : Store) : Nat := wordAt x.words 7
def Store.landingSegs (x : Store) : Nat := wordAt x.words 8
def Store.coldMs (x : Store) : Nat := wordAt x.words 9

/-- Pages of the index (R413), and where the blocks begin. -/
def indexPages (keysMax : Nat) : Nat := (keysMax * 64 + 0x1FFFFF) / 0x200000
def Store.blocks (x : Store) : Nat := wordAt x.words 2 + 0x200000 * indexPages x.keysMax
def Store.blockPages (x : Store) : Nat := wordAt x.words 3 - indexPages x.keysMax

/-- The rules of R412 and R413 on the fields. -/
def storeOk (w : List Nat) : Bool :=
  widthsOk w [19, 56, 35, 32, 56, 17, 56] && (List.range 6).all (fun k => wordAt w (10 + k) = 0) && wordAt w 8 < 2 ^ 32 &&
    wordAt w 9 < 2 ^ 32 && wBits w 1 18 17 ≤ 2 && wordAt w 2 % 0x200000 = 0 && 2 ≤ wordAt w 3 && 1 ≤ wordAt w 4 &&
    wordAt w 4 ≤ 16777216 && wordAt w 5 % 64 = 0 && wordAt w 6 ≤ 65536 && (wordAt w 5 ≠ 0 || wordAt w 6 = 0) &&
    wordAt w 7 % 65536 = 0 && (wordAt w 7 ≠ 0 || wordAt w 8 = 0) && indexPages (wordAt w 4) + 2 ≤ wordAt w 3

def tenantStore (s : State) (tenant id : Nat) : Option (Nat × Store) :=
  s.sv.stores.first? fun _ x => x.tenant = tenant && x.id = id
def openStore (s : State) (tenant id : Nat) : Option (Nat × Store) :=
  s.sv.stores.first? fun _ x => x.tenant = tenant && x.id = id && x.destroying.isNone
def setStore (k : Nat) (x : Store) (s : State) : State := s.setSv { s.sv with stores := s.sv.stores.set k x }

/-- A run of PHA overlaps an inbox or another store's request area. -/
def runTaken (s : State) (a lines : Nat) : Bool :=
  s.sv.rounds.any (fun kv => !(kv.2.finished && kv.2.holdUntil ≤ s.now) && kv.2.inbox < a + 64 * lines &&
      a < kv.2.inbox + 64 * kv.2.inboxLines) ||
    s.sv.stores.any fun kv => kv.2.req < a + 64 * lines && a < kv.2.req + 64 * kv.2.reqLines

/-- STORE_CREATE makes a store, and the homes of its request area begin to intercept (R412, R413, R419). -/
def execStoreCreate (item : Nat) (s : State) : Res3 :=
  .next (withItem item 0x38 s fun i s =>
    let w := i.words
    let id := wBits w 1 15 0
    checked item (storeOk w && (tenantStore s i.tenant id).isNone) s fun s =>
      if Par.storesMax s ≤ s.sv.stores.length ||
          Par.storesPerTenant s ≤ s.sv.stores.count (fun _ x => x.tenant = i.tenant) then endItem item Config.noSpace 0 0 s
      else
        let lines := wordAt w 6
        let req := if lines = 0 then [] else [(wordAt w 5, 64 * lines, true)]
        let land_ := if wordAt w 8 = 0 then [] else [(wordAt w 7, 65536 * wordAt w 8, true)]
        Acc.run item ((lookAll item i.tenant (req ++ (wordAt w 2, 0x200000 * wordAt w 3, true) :: land_) s).bind fun (ps, ents) s =>
          match (if lines = 0 then some 0 else oneRun (ps.getD 0 [])) with
          | none => .bad Config.invalidDescriptor s
          | some a =>
            if lines ≠ 0 && runTaken s a lines then .bad Config.invalidDescriptor s
            else
              let ptcs := ents.eraseDups
              let k := s.sv.nextStore
              let s := ptcAdmitAll ptcs (s.setSv { s.sv with nextStore := k + 1 })
              .ok () (endItem item Config.ok 0 0
                (setStore k { tenant := i.tenant, id := id, words := w, req := a, reqLines := lines, ptcs := ptcs } s))))

/-! Slots (R415). -/

/-- Bytes of the slot of a block: the next power of two from 64 KiB. -/
def slotBytes (segs : Nat) : Nat :=
  if segs ≤ 1 then 0x10000 else if segs ≤ 2 then 0x20000 else if segs ≤ 4 then 0x40000 else if segs ≤ 8 then 0x80000
  else if segs ≤ 16 then 0x100000 else if segs ≤ 32 then 0x200000 else 0x400000

/-- The pages of the blocks' part that a slot lies on. -/
def slotPages (off bytes : Nat) : List Nat := (List.range ((bytes + 0x1FFFFF) / 0x200000)).map fun j => off / 0x200000 + j

/-- Slots that lie on a page. -/
def slotsOn (x : Store) (page : Nat) : List (Nat × CSlot) := x.slots.filter fun kv => (slotPages kv.1 kv.2.bytes).contains page

/-- A free slot of a size: on a page that holds slots of the size, else on the lowest free page or pair of pages. -/
def findSlot (x : Store) (bytes : Nat) : Option Nat :=
  let pages := List.range x.blockPages
  let free := fun (p : Nat) => p < x.blockPages && (slotsOn x p).isEmpty
  if bytes = 0x400000 then (pages.find? fun p => free p && free (p + 1)).map fun p => 0x200000 * p
  else
    let partly := pages.findSome? fun p =>
      let on := slotsOn x p
      if on.isEmpty || on.any fun kv => kv.2.bytes ≠ bytes then none
      else ((List.range (0x200000 / bytes)).map fun j => 0x200000 * p + j * bytes).find? fun o => !x.slots.has o
    match partly with
    | some o => some o
    | none => (pages.find? free).map fun p => 0x200000 * p

/-- An old slot whose readers have all ended is freed. -/
def freeSlot (s : State) (x : Store) (off : Nat) : Store :=
  match x.slots.get? off with
  | none => x
  | some c => if c.old && c.readers.all fun n => !liveItem s n then { x with slots := x.slots.erase off } else x

/-- A key loses its slot: the slot is old, and is freed once nothing reads it. -/
def retireSlot (s : State) (x : Store) (off : Nat) : Store :=
  freeSlot s { x with slots := x.slots.modify off fun c => { c with old := true } } off

/-- The keys whose blocks lie on a page. -/
def keysOn (x : Store) (page : Nat) : List (Nat × CKey) :=
  x.keys.filter fun kv => (slotPages kv.2.slot ((x.slots.get? kv.2.slot).elim 0 fun c => c.bytes)).contains page

/-- The pool page behind a page of the blocks' part. -/
def poolPage (s : State) (x : Store) (page : Nat) : Option Nat :=
  (heldLook s x.ptcs x.tenant (x.blocks + 0x200000 * page)).map fun a => a / 0x200000

/-- Pages with a pinned block carry PREFER to PIN_TIER; the hint returns to NONE with the last pin (R422). -/
def refreshHints (old new : Store) (s : State) : State :=
  if new.pinTier = 0 then s
  else
    let pinned := fun (x : Store) => ((x.keys.filter fun kv => kv.2.pins ≠ 0).flatMap fun kv =>
      slotPages kv.2.slot ((x.slots.get? kv.2.slot).elim 0 fun c => c.bytes)).eraseDups
    let was := pinned old
    let now := pinned new
    let put := fun (hint tier : Nat) (s : State) (p : Nat) =>
      match poolPage s new p with
      | none => s
      | some q => setEntry q { entryOf s q with hint := hint, hintTier := tier } s
    let s := (was.filter fun p => !now.contains p).foldl (put 0 0) s
    (now.filter fun p => !was.contains p).foldl (put 2 new.pinTier) s

/-- The store with changed keys, and the hints that follow them. -/
def putStore (k : Nat) (old new : Store) (s : State) : State := refreshHints old new (setStore k new s)

/-! Operations (R416–R418, R425). -/

/-- An operation of a host item or a request line (R418, R420). -/
structure CReq where
  op : Nat
  key : Nat
  segs : Nat
  expected : Nat
  waitUs : Nat
  /-- Ownership record to bind, or 0. -/
  own : Nat
  /-- PUT: 0 a PVA, 1 a host address, 2 the landing area. GET: as in `Dest`. -/
  kind : Nat
  addr : Nat
  deriving DecidableEq, Repr

def creq (i : Item) : CReq :=
  let w := i.words
  match i.src with
  | .host _ _ _ _ =>
    { op := i.opcode, key := wordAt w 2 + 2 ^ 64 * wordAt w 3, segs := wBits w 1 22 16, expected := wordAt w 4,
      waitUs := wBits w 1 41 26, own := if i.opcode = 0x39 then wordAt w 8 else 0, kind := wBits w 1 24 23, addr := wordAt w 5 }
  | .line _ _ _ _ =>
    { op := i.opcode, key := wordAt w 6 + 2 ^ 64 * wordAt w 7, segs := wBits w 0 11 5, expected := wordAt w 5,
      waitUs := wBits w 0 63 48, own := 0, kind := 2, addr := wordAt w 1 }

/-- The layout of a host item (R418). -/
def cmdOk (i : Item) : Bool :=
  let w := i.words
  match i.opcode with
  | 0x39 => widthsOk w [25, 64, 64, 64, 64] && 1 ≤ wBits w 1 22 16 && wBits w 1 22 16 ≤ 64 && wBits w 1 24 23 ≤ 1 &&
      wordAt w 5 % 64 = 0 && (wBits w 1 24 23 = 1 || wordAt w 5 < 2 ^ 56) && wordAt w 8 < 2 ^ 56 &&
      (List.range 7).all fun k => wordAt w (9 + k) = 0
  | 0x3A => widthsOk w [42, 64, 64, 0, 64] && wBits w 1 22 16 = 0 && (List.range 5).all (fun k => wordAt w (11 + k) = 0) &&
      destOk w (destOf w (wBits w 1 24 23) (wordAt w 5) (bitOf (wordAt w 1) 25))
  | 0x3D => widthsOk w [16, 64, 64, 64]
  | _ => widthsOk w [16, 64, 64]

/-- The layout of the rest of a request line (R420). -/
def lineRestOk (i : Item) : Bool := wordAt i.words 3 < 2 ^ 18

def modRegs (n k v : Nat) (s : State) : State := modItem n (fun i => { i with regs := i.regs.set k v }) s

/-- An operation on a key with no block (R416). -/
def notFound (n : Nat) (s : State) : State := endItem n Config.ok 0 0 s

/-- Another PUT has taken its turn at a key and has not ended: later changes of the key wait (R417). -/
def keyBusy (s : State) (n k key : Nat) : Bool :=
  s.ho.items.any fun kv =>
    kv.1 ≠ n && kv.2.opcode = 0x39 && kv.2.ended.isNone && kv.2.regs.getD 7 0 = k + 1 && kv.2.regs.getD 11 0 = 1 &&
      (creq kv.2).key = key

/-- What the ownership record of a bound key makes of an operation (R425). -/
inductive OwnRule where
  | served
  | waits
  | refused (epoch peer : Nat)
  deriving DecidableEq, Repr

def ownRule (drop : Bool) (word : Nat) : OwnRule :=
  match ownState word with
  | 1 => .served
  | 2 | 3 => .waits
  | 4 => if drop then .served else .refused (ownEpoch word) (ownPeer word)
  | _ => if drop then .served else .refused (ownEpoch word) 0xFFFF

/-- The PVA of a block. -/
def blockPva (x : Store) (slot : Nat) : Nat := x.blocks + slot

/-- The switch of a PUT: the key names the new slot and its VERSION rises (R416, R417). GETs that wait for the key
go on. -/
def switchKey (n k : Nat) (x : Store) (r : CReq) (slot : Nat) (s : State) : State :=
  let old := x.keys.get? r.key
  let c : CKey := match old with
    | some c => { c with version := c.version + 1, slot := slot, segs := r.segs, last := s.now,
                         own := if r.own ≠ 0 then r.own else c.own }
    | none => { version := 1, slot := slot, segs := r.segs, last := s.now, own := r.own }
  let x' := { x with keys := x.keys.set r.key c, slots := x.slots.modify slot fun c => { c with old := false, readers := [] } }
  let s := endItem n Config.ok c.version 0 (markEffect n s)
  let x' := match old with
    | some c => retireSlot s x' c.slot
    | none => x'
  let s := putStore k x x' s
  s.setHo { s.ho with items := s.ho.items.mapVal fun _ i =>
    match i.wait with
    | .key _ => if i.regs.getD 7 0 = k + 1 && (creq i).key = r.key then { i with wait := .none } else i
    | _ => i }

/-- The data of a PUT from byte `at_` on, in pieces of at most 64 KiB. -/
def putData (n : Nat) (i : Item) (x : Store) (r : CReq) (slot : Nat) : Nat → Nat → State → Acc Unit
  | 0, _, s => .wait s
  | fuel + 1, at_, s =>
    let total := 65536 * r.segs
    if total ≤ at_ then .ok () s
    else
      let store := fun (bytes : List Byte) (s : State) =>
        (writeParts n i.tenant (heldRange s x.ptcs x.tenant (blockPva x slot + at_) bytes.length) bytes s).bind fun _ s =>
          putData n i x r slot fuel (at_ + bytes.length) (modItem n (fun i => { i with prog := at_ + bytes.length, data := [] }) s)
      match r.kind with
      | 0 => (tryRead n i.tenant (r.addr + at_) 65536 s).bind store
      | 1 =>
        let data := ((getItem? s n).map fun i => i.data).getD []
        if data.isEmpty then hostRead n i ((r.addr + at_) % 2 ^ 64) (hostRun (r.addr + at_) (total - at_)) s
        else store data s
      | _ => (readParts (heldRange s x.ptcs x.tenant (x.landing + r.addr + at_) 65536) s).bind store

/-- The data of a GET from byte `at_` on, to a PVA or to host memory. -/
def getData (n : Nat) (i : Item) (x : Store) (c : Nat × Nat) (d : Dest) : Nat → Nat → State → Acc Unit
  | 0, _, s => .wait s
  | fuel + 1, at_, s =>
    if 65536 * c.2 ≤ at_ then .ok () s
    else
      (readParts (heldRange s x.ptcs x.tenant (blockPva x c.1 + at_) 65536) s).bind fun bytes s =>
        (putResult n i d at_ bytes s).bind fun _ s =>
          getData n i x c d fuel (at_ + 65536) (modItem n (fun i => { i with prog := at_ + 65536 }) s)

/-- The copy descriptor by which a block leaves through a window. -/
def blockCopy (s : State) (tenant pva bytes node window offset : Nat) (counter : Option Nat) : List Nat :=
  [node + 2 ^ 16 * window + 2 ^ 32 * tenantClass s tenant + 2 ^ 35 * b2n counter.isSome, pva, offset,
   bytes + 2 ^ 31 * counter.getD 0, 0, 0, 0, 0]

/-- The delivery of a GET that has pinned a slot (R416, R420). -/
def deliver (n : Nat) (i : Item) (x : Store) (s : State) : State :=
  let slot := i.regs.getD 12 0
  let segs := i.regs.getD 14 0
  let w := i.words
  let post := fun (node window offset : Nat) (counter : Option Nat) (s : State) =>
    match postCopy (.item n) i.tenant (blockCopy s i.tenant (blockPva x slot) (65536 * segs) node window offset counter) s with
    | .error st => endItem n st 0 0 s
    | .ok (_, s) => modItem n (fun i => { i with wait := .engine }) (markEffect n s)
  match i.src with
  | .line _ node window _ => post node window (wordAt w 1) (if bitOf (wordAt w 0) 4 then some (wordAt w 3) else none) s
  | .host _ _ _ _ =>
    let d := destOf w (wBits w 1 24 23) (wordAt w 5) (bitOf (wordAt w 1) 25)
    if d.kind = 2 then post d.node d.window d.offset d.counter s
    else Acc.run n ((getData n i x (slot, segs) d 66 i.prog s).bind fun _ s => .ok () (settleOut n Config.ok 0 0 s))

/-- A PUT that has taken its turn writes its data, and then the key switches. -/
def finishPut (n : Nat) (i : Item) (k : Nat) (x : Store) (r : CReq) (s : State) : State :=
  let slot := i.regs.getD 12 0
  Acc.run n ((putData n i x r slot (r.segs * 17 + 2) i.prog s).bind fun _ s =>
    match s.sv.stores.get? k with
    | none => .wait s
    | some x => .ok () (switchKey n k x r slot s))

/-- The key that a full store drops next: the least recently accessed one without a pin or a PUT under way. -/
def lruKey (s : State) (n k : Nat) (x : Store) : Option Nat :=
  (x.keys.foldl (fun (b : Option (Nat × Nat)) kv =>
    if kv.2.pins ≠ 0 || keyBusy s n k kv.1 then b
    else match b with
      | some (t, key) => if kv.2.last < t then some (kv.2.last, kv.1) else some (t, key)
      | none => some (kv.2.last, kv.1)) none).map Prod.snd

/-- A slot for a PUT (R415, R423): a dropped block makes room when its slot has drained; until then the PUT
waits. -/
def takeSlot (n k : Nat) (r : CReq) : Nat → State → Option Nat × State
  | 0, s => (none, endItem n Config.noSpace 0 0 s)
  | fuel + 1, s =>
    match s.sv.stores.get? k, getItem? s n with
    | some x, some i =>
      match findSlot x (slotBytes r.segs) with
      | some off =>
        if !x.keys.has r.key && x.keysMax ≤ x.keys.length then (none, endItem n Config.noSpace 0 0 s)
        else
          (some off, setStore k { x with slots := x.slots.set off { bytes := slotBytes r.segs, readers := [n], old := true } } s)
      | none =>
        let draining := i.regs.has 15 && x.slots.any fun kv => kv.2.old && i.regs.getD 15 0 = kv.1 + 1
        let since := match i.wait with
          | .space t => t
          | _ => s.now
        if draining then (none, modItem n (fun i => { i with wait := .space since }) s)
        else if !x.dropLru || Par.dropLruMax s ≤ i.regs.getD 16 0 then (none, endItem n Config.noSpace 0 0 s)
        else
          match lruKey s n k x with
          | none => (none, endItem n Config.noSpace 0 0 s)
          | some key =>
            let off := (x.keys.get? key).elim 0 fun c => c.slot
            let x' := retireSlot s { x with keys := x.keys.erase key } off
            let s := modItem n (fun i => { i with
              regs := (i.regs.set 15 (off + 1)).set 16 (i.regs.getD 16 0 + 1) }) (markEffect n (putStore k x x' s))
            takeSlot n k r fuel s
    | _, _ => (none, s)

/-- An operation takes its turn at the key (R416, R417, R423). -/
def takeTurn (n : Nat) (i : Item) (k : Nat) (x : Store) (r : CReq) (s : State) : State :=
  let c := x.keys.get? r.key
  let version := c.elim 0 fun c => c.version
  let mismatch := if r.expected = 0 then false else if r.expected = 2 ^ 64 - 1 then c.isSome else c.isNone || version ≠ r.expected
  let s := modRegs n 10 (b2n c.isSome) s
  match r.op, c with
  | 0x39, _ =>
    if mismatch then endItem n Config.staleVersion version 0 s
    else
      match takeSlot n k r 258 s with
      | (none, s) => s
      | (some off, s) =>
        let s := modRegs n 12 off (modRegs n 11 1 s)
        match getItem? s n, s.sv.stores.get? k with
        | some i, some x => finishPut n { i with wait := .none } k x r (modItem n (fun i => { i with wait := .none }) s)
        | _, _ => s
  | 0x3A, none =>
    if r.waitUs = 0 then notFound n s
    else
      let since := if i.regs.has 17 then i.regs.getD 17 0 else s.now
      modItem n (fun i => { i with wait := .key since, regs := i.regs.set 17 since }) s
  | 0x3A, some c =>
    let x := { x with slots := x.slots.modify c.slot fun d => { d with readers := d.readers ++ [n] },
                      keys := x.keys.set r.key { c with last := s.now } }
    let s := setStore k x s
    let i' := { i with regs := ((((i.regs.set 10 1).set 11 1).set 12 c.slot).set 13 c.version).set 14 c.segs,
                       r0 := 65536 * c.segs + 2 ^ 32, r1 := c.version, wait := Wait.none }
    deliver n i' x (setItem n i' s)
  | 0x3B, some c =>
    if 65535 ≤ c.pins then endItem n Config.noSpace 0 0 s
    else
      endItem n Config.ok (c.pins + 1 + 2 ^ 32) 0
        (markEffect n (putStore k x { x with keys := x.keys.set r.key { c with pins := c.pins + 1 } } s))
  | 0x3C, some c =>
    if c.pins = 0 then endItem n Config.invalidDescriptor 0 0 s
    else
      endItem n Config.ok (c.pins - 1 + 2 ^ 32) 0
        (markEffect n (putStore k x { x with keys := x.keys.set r.key { c with pins := c.pins - 1 } } s))
  | 0x3D, _ =>
    if mismatch then endItem n Config.staleVersion version 0 s
    else match c with
      | none => notFound n s
      | some c =>
        endItem n Config.ok (2 ^ 32) c.version
          (markEffect n (putStore k x (retireSlot s { x with keys := x.keys.erase r.key } c.slot) s))
  | 0x3E, some c =>
    let bytes := (x.slots.get? c.slot).elim 0 fun d => d.bytes
    let s := (slotPages c.slot bytes).foldl (fun s p =>
      match poolPage s x p with
      | none => s
      | some q =>
        let e := entryOf s q
        setEntry q { e with heat := max e.heat (Par.promoteHbm s) } s) s
    endItem n Config.ok (2 ^ 32) 0 s
  | _, none => notFound n s
  | _, some _ => s

/-- The ownership word of a bound key is read with an acquire (R425). -/
def checkOwn (n : Nat) (i : Item) (x : Store) (r : CReq) (s : State) : Acc Bool :=
  match (x.keys.get? r.key).map fun c => c.own with
  | none => .ok true s
  | some 0 => .ok true s
  | some pva =>
    (tryRead n i.tenant (pva + 16) 8 s).bind fun b s =>
      match ownRule (r.op = 0x3D) (leNat b) with
      | .served => .ok true s
      | .waits =>
        let since := match i.wait with
          | .own t => t
          | _ => s.now
        .ok false (modItem n (fun i => { i with wait := .own since }) s)
      | .refused epoch peer =>
        .ok false (endItem n Config.staleVersion epoch peer (modRegs n 10 1 (modRegs n 9 (peer + 1) s)))

/-- The landing area's data of a remote PUT are there (R420): otherwise the PUT waits for its counter. -/
def landed (n : Nat) (i : Item) (x : Store) (r : CReq) (s : State) : Acc Bool :=
  match i.src with
  | .host _ _ _ _ => .ok true s
  | .line _ _ _ _ =>
    if r.op ≠ 0x39 then .ok true s
    else
      let ctr := wordAt i.words 3
      if 65536 * x.landingSegs < r.addr + 65536 * r.segs then .bad Config.invalidDescriptor s
      else if s.fa.ctrOwner.get? ctr ≠ some i.tenant then .bad Config.accessDenied s
      else if wordAt i.words 4 ≤ counterOf s ctr then .ok true s
      else .ok false (modItem n (fun i => { i with wait := .landing s.now }) s)

/-- The next progress of an admitted operation. -/
def runReq (n k : Nat) (s : State) : State :=
  match getItem? s n, s.sv.stores.get? k with
  | some i, some x =>
    let r := creq i
    if i.ended.isSome then s
    else if x.failed then endItem n Config.extentRevoked 0 0 s
    else if i.regs.getD 11 0 = 1 then
      if r.op = 0x39 then finishPut n i k x r s else deliver n i x s
    else if keyBusy s n k r.key && r.op ≠ 0x3A && r.op ≠ 0x3E then s
    else
      Acc.run n ((landed n i x r s).bind fun go s =>
        if !go then .ok () s
        else (checkOwn n i x r s).bind fun go s =>
          if !go then .ok () s
          else
            (if r.own = 0 || r.op ≠ 0x39 then Acc.ok true s
             else (tryRead n i.tenant r.own 16 s).bind fun b s => .ok (leNat b = r.key) s).bind fun good s =>
              if !good then .bad Config.invalidDescriptor s
              else .ok () (takeTurn n i k x r s))
  | _, _ => s

/-! Host commands (R418). -/

/-- An operation of the host can go on while it waits for ownership or for space: it looks again. -/
def hostOp (n op : Nat) (s : State) : State :=
  match getItem? s n with
  | none => s
  | some i =>
    let again := match i.wait with
      | .none => true
      | .own _ => true
      | .space _ => true
      | _ => false
    if !s.alive || i.opcode ≠ op || i.src.queue.isNone || i.ended.isSome || !again || s.rc.warmStep ≠ 0 then s
    else if !i.started && !mayStart s n i then s
    else
      let s := modItem n (fun i => { i with started := true }) s
      match i.regs.getD 7 0 with
      | 0 =>
        match openStore s i.tenant (wBits i.words 1 15 0) with
        | none => endItem n Config.invalidDescriptor 0 0 s
        | some (k, _) => checked n (cmdOk i) s fun s => runReq n k (modRegs n 7 (k + 1) s)
      | k + 1 => runReq n k s

/-- PUT writes a block into a fresh slot and switches the key to it (R416–R418). -/
def execPut (item : Nat) (s : State) : Res3 := .next (hostOp item 0x39 s)

/-- GET delivers the block as the key held it at admission (R416–R418). -/
def execGet (item : Nat) (s : State) : Res3 := .next (hostOp item 0x3A s)

/-- PIN raises the pin count of a key (R416). -/
def execPin (item : Nat) (s : State) : Res3 := .next (hostOp item 0x3B s)

/-- UNPIN lowers the pin count of a key (R416). -/
def execUnpin (item : Nat) (s : State) : Res3 := .next (hostOp item 0x3C s)

/-- DROP removes a key (R416, R417). -/
def execDrop (item : Nat) (s : State) : Res3 := .next (hostOp item 0x3D s)

/-- PREFETCH raises the heat of the block's pages (R416). -/
def execPrefetch (item : Nat) (s : State) : Res3 := .next (hostOp item 0x3E s)

/-- Operations that a store has admitted and that have not ended. -/
def storeBusy (s : State) (k : Nat) : Bool :=
  s.ho.items.any fun kv => 0x39 ≤ kv.2.opcode && kv.2.opcode ≤ 0x3E && kv.2.ended.isNone && kv.2.regs.getD 7 0 = k + 1

/-- A store is gone: its references are given up, and its block space is absent. -/
def removeStore (k : Nat) (x : Store) (s : State) : State :=
  let s := (heldPages s x.ptcs x.tenant (wordAt x.words 2) (wordAt x.words 3)).foldl (fun s p => releasePage p false s) s
  ptcDoneAll x.ptcs (s.setSv { s.sv with stores := s.sv.stores.erase k })

/-- STORE_DESTROY: from now on the store is refused to commands and request lines; it completes once none of its
operations remains (R414). -/
def execStoreDestroy (item : Nat) (s : State) : Res3 :=
  .next (withItem item 0x3F s fun i s =>
    match tenantStore s i.tenant (wordAt i.words 1) with
    | none => endItem item Config.invalidDescriptor 0 0 s
    | some (k, x) =>
      checked item (widthsOk i.words [16] && (x.destroying.isNone || x.destroying = some item)) s fun s =>
        if storeBusy s k then setStore k { x with destroying := some item } s
        else endItem item Config.ok 0 0 (removeStore k x (markEffect item s)))

/-! Request lines (R419–R421). -/

/-- Words 0 to 2 of a line follow R420. -/
def lineOk (w : List Nat) : Bool :=
  let op := wBits w 0 3 0
  1 ≤ op && op ≤ 6 && wBits w 0 15 12 = 0 && (op ≠ 1 || (1 ≤ wBits w 0 11 5 && wBits w 0 11 5 ≤ 64)) && wordAt w 1 < 2 ^ 50 &&
    (op ≠ 2 || wordAt w 1 % 64 = 0) && (op ≠ 1 || wordAt w 1 % 65536 = 0) && wordAt w 2 < 2 ^ 50 && wordAt w 2 % 8 = 0

/-- The item of a request line that its write became. -/
def lineItem (s : State) (write : Nat) : Option (Nat × Item) :=
  s.ho.items.first? fun _ i => i.src.queue.isNone && i.regs.getD 8 0 = write

/-- A request line of an operation: its home refuses it, or accepts it and the request runs; an accepted request
that has waited goes on. A request that has ended is answered. -/
def remoteOp (write op : Nat) (s : State) : State :=
  if !s.alive || s.rc.warmStep ≠ 0 || s.bt.stage ≠ 4 then s
  else
    match s.sv.writes.get? write with
    | some lw =>
      match storeOf s lw.pha with
      | none => s
      | some k =>
        match s.sv.stores.get? k with
        | none => s
        | some x =>
          let w := wordsFrom 8 lw.bytes
          let drop := fun (s : State) => s.setSv { s.sv with writes := s.sv.writes.erase write }
          let refuse := fun (st : Nat) (s : State) => writerDone lw.writer st (drop s)
          if !lw.whole || lw.zero || !lineOk w || x.destroying.isSome then refuse Config.invalidDescriptor s
          else if wBits w 0 3 0 ≠ op then s
          else if Par.remoteInflight s ≤ s.ho.items.count (fun _ i => match i.src with
              | .line st _ _ _ => st = k
              | .host _ _ _ _ => false) then refuse Config.backoff s
          else
            let n := s.ho.nextItem
            let i : Item := { src := .line k (wBits w 0 31 16) (wBits w 0 47 32) (wordAt w 2), tenant := x.tenant,
                              opcode := 0x38 + op, ordered := false, words := w, started := true,
                              regs := FMap.set (FMap.set [] 7 (k + 1)) 8 write }
            let s := writerDone lw.writer Config.ok (drop s)
            let s := s.setHo { s.ho with items := s.ho.items.set n i, nextItem := n + 1 }
            let s := checked n (lineRestOk i) s fun s => runReq n k s
            replyLine n s
    | none =>
      match lineItem s write with
      | none => s
      | some (n, i) =>
        let again := match i.wait with
          | .none => true
          | .own _ => true
          | .space _ => true
          | _ => false
        if i.opcode ≠ 0x38 + op then s
        else if i.ended.isSome then replyLine n s
        else if !again then s
        else replyLine n (runReq n (i.regs.getD 7 0 - 1) s)

/-- REMOTE_PUT: a request line PUT (R419–R421). -/
def execRemotePut (write : Nat) (s : State) : Res3 := .next (remoteOp write 1 s)

/-- REMOTE_GET: a request line GET (R419–R421). -/
def execRemoteGet (write : Nat) (s : State) : Res3 := .next (remoteOp write 2 s)

/-- REMOTE_PIN: a request line PIN (R419–R421). -/
def execRemotePin (write : Nat) (s : State) : Res3 := .next (remoteOp write 3 s)

/-- REMOTE_UNPIN: a request line UNPIN (R419–R421). -/
def execRemoteUnpin (write : Nat) (s : State) : Res3 := .next (remoteOp write 4 s)

/-- REMOTE_DROP: a request line DROP (R419–R421). -/
def execRemoteDrop (write : Nat) (s : State) : Res3 := .next (remoteOp write 5 s)

/-- REMOTE_PREFETCH: a request line PREFETCH (R419–R421). -/
def execRemotePrefetch (write : Nat) (s : State) : Res3 := .next (remoteOp write 6 s)

/-! Waits (R420, R423–R425). -/

/-- An operation that waits, of a kind that `since` recognises, with the time since which it waits. -/
def waiting (s : State) (n : Nat) (since : Wait → Option Nat) : Option (Item × Nat) :=
  (getItem? s n).bind fun i => if i.ended.isSome || !s.alive then none else (since i.wait).map fun t => (i, t)

/-- REMOTE_PUT_DATA_READY: the landing counter has reached THRESHOLD: the waiting PUT goes on (R420). -/
def execRemotePutDataReady (item : Nat) (s : State) : Res3 :=
  s.act (match waiting s item (fun w => match w with
      | .landing t => some t
      | _ => none) with
  | none => s
  | some (i, _) =>
    if counterOf s (wordAt i.words 3) < wordAt i.words 4 then s
    else replyLine item (runReq item (i.regs.getD 7 0 - 1) (modItem item (fun i => { i with wait := .none }) s)))

/-- PUT_WAIT_EXPIRY: the counter has not reached THRESHOLD within PUT_WAIT_MS: the PUT ends with TIMEOUT (R420). -/
def execPutWaitExpiry (item : Nat) (s : State) : Res3 :=
  s.act (match waiting s item (fun w => match w with
      | .landing t => some t
      | _ => none) with
  | none => s
  | some (_, t) =>
    let s := s.reach (t + 1000000 * Par.putWaitMs s)
    replyLine item (endItem item Config.timeout 0 0 s))

/-- GET_WAIT_EXPIRY: WAIT_US has passed and the key has no block: the GET completes with FOUND 0 (R424). -/
def execGetWaitExpiry (item : Nat) (s : State) : Res3 :=
  s.act (match waiting s item (fun w => match w with
      | .key t => some t
      | _ => none) with
  | none => s
  | some (i, t) =>
    let s := s.reach (t + 1000 * (creq i).waitUs)
    replyLine item (notFound item s))

/-- OWN_WAIT_EXPIRY: an operation has waited on ownership for OWN_WAIT_MS: TIMEOUT (R425). -/
def execOwnWaitExpiry (item : Nat) (s : State) : Res3 :=
  s.act (match waiting s item (fun w => match w with
      | .own t => some t
      | _ => none) with
  | none => s
  | some (_, t) =>
    let s := s.reach (t + 1000000 * Par.ownWaitMs s)
    replyLine item (endItem item Config.timeout 0 0 s))

/-- DROP_LRU_WAIT_EXPIRY: a PUT has waited 2 ms for dropped slots: NO_SPACE (R423). -/
def execDropLruWaitExpiry (item : Nat) (s : State) : Res3 :=
  s.act (match waiting s item (fun w => match w with
      | .space t => some t
      | _ => none) with
  | none => s
  | some (_, t) =>
    let s := s.reach (t + 2000000)
    replyLine item (endItem item Config.noSpace 0 0 s))

/-- CUMULUS_SLOT_RELEASE: the last GET that pinned an old slot has ended: the slot is freed (R416). -/
def execCumulusSlotRelease (store slot : Nat) (s : State) : Res3 :=
  s.act (match s.sv.stores.get? store with
  | none => s
  | some x => setStore store (freeSlot s x slot) s)

/-- CUMULUS_EVICTION_ROUND hints COLD each page all of whose blocks are idle and unpinned (R422). -/
def execCumulusEvictionRound (s : State) : Res3 :=
  .next (if !drumAllowed s 3 then s
  else
    let s := drumBegin 3 s
    s.sv.stores.foldl (fun s kv =>
      let x := kv.2
      if x.coldMs = 0 then s
      else
        (List.range x.blockPages).foldl (fun s p =>
          let on := keysOn x p
          if on.isEmpty || on.any fun kv => kv.2.pins ≠ 0 || s.now < kv.2.last + 1000000 * x.coldMs then s
          else match poolPage s x p with
            | none => s
            | some q => setEntry q { entryOf s q with hint := 3, hintTier := 0 } s) s) s)

end Sys2Proof.Machine
end

