-- ==== Sys2Proof/Machine/Check.lean ====
section
/-!
DEFINITION. The CHECK command and the loss of a Chime unit (R436–R442).
-/

namespace Sys2Proof.Machine

/-- The parameters of a CHECK (R436). -/
def checkPar (w : List Nat) : CrcPar :=
  { width := wBits w 1 22 16, poly := wordAt w 8, init := wordAt w 9, xorout := wordAt w 10,
    refin := bitOf (wordAt w 1) 3, refout := bitOf (wordAt w 1) 4 }

/-- The rules of R436 and R438. -/
def checkOk (w : List Nat) : Bool :=
  let seg := wBits w 1 12 8
  widthsOk w [23, 64, 31, 56, 64] && wBits w 1 15 13 = 0 && (List.range 5).all (fun k => wordAt w (11 + k) = 0) &&
    wBits w 1 7 6 ≠ 3 && (seg = 0 || (9 ≤ seg && seg ≤ 30 && wordAt w 4 ≠ 0)) && 1 ≤ wordAt w 3 && wordAt w 3 ≤ 0x40000000 &&
    wordAt w 4 % 8 = 0 && (bitOf (wordAt w 1) 5 || wordAt w 2 < 2 ^ 56) && (crcSelect (wBits w 1 2 0) (checkPar w)).isSome

/-- Bytes of a segment, and how many segments there are (R437). -/
def segBytes (w : List Nat) : Nat := if wBits w 1 12 8 = 0 then wordAt w 3 else 2 ^ wBits w 1 12 8
def segCount (w : List Nat) : Nat := (wordAt w 3 + segBytes w - 1) / segBytes w

/-- The register of a segment before its data (R431, R437). -/
def segStart (p : CrcPar) (w : List Nat) (k : Nat) : Nat :=
  match wBits w 1 7 6 with
  | 0 => p.init
  | 1 => crcFeed p p.init (leBytes 8 ((wordAt w 2 + k * segBytes w) % 2 ^ 64))
  | _ => crcFeed p p.init (leBytes 8 ((wordAt w 5 + k) % 2 ^ 64))

/-- The value of a segment; none when a byte of it is poisoned (R438, R439). Host data come piece by piece: the item
keeps the register at 2 and the bytes fed at 3. -/
def segValue (item : Nat) (i : Item) (p : CrcPar) (k : Nat) (s : State) : Acc (Option Nat) :=
  let w := i.words
  let start := wordAt w 2 + k * segBytes w
  let len := min (segBytes w) (wordAt w 3 - k * segBytes w)
  if bitOf (wordAt w 1) 5 then
    let cur := (getItem? s item).getD i
    let fed := cur.regs.getD 3 0
    let reg := crcFeed p (if fed = 0 then segStart p w k else cur.regs.getD 2 0) cur.data
    let fed := fed + cur.data.length
    if len ≤ fed then .ok (some (crcValue p reg)) (modItem item (fun i => { i with data := [], regs := i.regs.erase 3 }) s)
    else
      let a := (start + fed) % 2 ^ 64
      match hostRead item i a (hostRun a (len - fed)) s with
      | .ok _ s => .wait (modItem item (fun i => { i with data := [], regs := (i.regs.set 2 reg).set 3 fed }) s)
      | .bad st s => .bad st s
      | .wait s => .wait s
  else (softRead item i.tenant start len 1 s).bind fun b s =>
    .ok ((b.headD none).map fun bytes => crcValue p (crcFeed p (segStart p w k) bytes)) s

/-- The segments of a CHECK from number `k` on. RESULT1 counts the poisoned ones. -/
def segsFrom (item : Nat) (i : Item) (p : CrcPar) : Nat → Nat → State → Acc Unit
  | 0, _, s => .wait s
  | fuel + 1, k, s =>
    let w := i.words
    if segCount w ≤ k then .ok () s
    else
      (segValue item i p k s).bind fun v s =>
        match v with
        | none => segsFrom item i p fuel (k + 1) (modItem item (fun i => { i with prog := k + 1, r1 := i.r1 + 1 }) s)
        | some v =>
          (if wordAt w 4 = 0 then Acc.ok () s else tryWrite item i.tenant (wordAt w 4 + 8 * k) (leBytes 8 v) s).bind fun _ s =>
            segsFrom item i p fuel (k + 1) (modItem item (fun i =>
              { i with prog := k + 1, r0 := if wBits w 1 12 8 = 0 then v else i.r0 }) s)

/-- CHECK computes the check values of a span, segment by segment (R436–R440). -/
def execCheck (item : Nat) (s : State) : Res3 :=
  .next (withItem item 0x40 s fun i s =>
    let w := i.words
    match checkOk w, crcSelect (wBits w 1 2 0) (checkPar w) with
    | true, some p =>
      Acc.run item ((segsFrom item i p (segCount w + 1) i.prog s).bind fun _ s =>
        let bad := ((getItem? s item).map fun i => i.r1).getD 0
        let r0 := if wBits w 1 12 8 = 0 then 0 else segCount w
        .ok () (endItem item (if bad = 0 then Config.ok else Config.poisoned) r0 0 s))
    | _, _ => endItem item Config.invalidDescriptor 0 0 s)

/-- A kit's Chime unit goes out of service until a cold reset; another kit's unit does its work (R442). -/
def loseChime (kit : Nat) (s : State) : State :=
  if 64 ≤ kit || s.co.chimeLost.mem kit then s
  else raise 0x123 kit 0 0 (s.setCo { s.co with chimeLost := s.co.chimeLost.add kit })

/-- CHIME_UNIT_LOST: a kit's Chime unit reports an uncorrectable error (R442). -/
def execChimeUnitLost (kit : Nat) (s : State) : Res3 := .next (if s.alive then loseChime kit s else s)

end Sys2Proof.Machine
end

