-- ==== Sys2Proof/Machine/Abort.lean ====
section
/-!
DEFINITION. Items and contexts that a reset ends (R472–R474), and the services of a tenant that is destroyed.
-/

namespace Sys2Proof.Machine

/-- The item may be repeated without harm: an opcode marked idempotent in R321, or a Cumulus GET or PREFETCH
request line (R473). -/
def idempotent (i : Item) : Bool :=
  if i.src.queue.isSome then opcodes.any fun o => o.1 = i.opcode && o.2.2.2.2 else i.opcode = 0x3A || i.opcode = 0x3E

/-- The status with which a reset ends an item (R473). -/
def resetStatus (i : Item) : Nat := if !i.effect || idempotent i then Config.abortedReset else Config.outcomeUnknown

/-- The contexts that run for an item, as tabor and context. -/
def ctxsOf (s : State) (n : Nat) : List (Nat × Nat) :=
  s.co.tabors.flatMap fun kv => (kv.2.ctxs.filter fun c => c.item = n).map fun c => (kv.1, c.id)

/-- An item is ended by a reset: what its engine has begun stops, and its completion follows once what it issued has
been performed or has failed (R473, R474). -/
def abortItem (n : Nat) (s : State) : State :=
  match getItem? s n with
  | none => s
  | some i =>
    if i.ended.isSome then s
    else
      let st := resetStatus i
      let s := s.setCo { s.co with tabors := s.co.tabors.mapVal fun _ v => { v with queue := v.queue.filter fun q => q.item ≠ n } }
      let s := s.setSv { s.sv with writes := s.sv.writes.keep fun _ lw => lw.writer ≠ .item n }
      let stop := fun (c : Copy) => if c.origin = Origin.item n then { c with failed := some (c.failed.getD st) } else c
      let s := s.setFa { s.fa with copies := s.fa.copies.mapVal fun _ c => stop c }
      let s := (s.sv.rounds.filter fun kv => kv.2.item = n && !kv.2.finished).foldl (fun s kv => endRound kv.1 st s) s
      let ctxs := ctxsOf s n
      let s := ctxs.foldl (fun s tc => endCtx tc.1 tc.2 st s) s
      if !ctxs.isEmpty || s.fa.copies.any (fun kv => kv.2.origin = .item n) || s.sv.rounds.any (fun kv => kv.2.item = n && !kv.2.finished)
      then modItem n (fun i => { i with wait := .engine }) s
      else endItem n st 0 0 s

/-- A context is ended by a reset, with the status of its item. -/
def abortCtx (t id : Nat) (s : State) : State :=
  match findCtx s t id with
  | none => s
  | some c => endCtx t id (match getItem? s c.item with
    | some i => resetStatus i
    | none => Config.abortedReset) s

/-- A task is ended by a reset. -/
def abortTask (k : Task) (s : State) : State :=
  match k with
  | .item n => abortItem n s
  | .ctx t id => abortCtx t id s
  | .copy _ => s

/-- Items of a tenant that have not ended. -/
def itemsOf (s : State) (tenant : Nat) : List Nat :=
  (s.ho.items.filter fun kv => kv.2.tenant = tenant && kv.2.ended.isNone).map Prod.fst

/-- The tasks of a tenant. -/
def tasksOf (s : State) (tenant : Nat) : List Task := (itemsOf s tenant).map Task.item

/-- The services of tenants that are being destroyed are destroyed once their tasks have ended (R295, R373, R392,
R414). -/
def destroyServices (s : State) : State :=
  let gone := (s.tr.tenants.filter fun kv => kv.2.state = 2 && (itemsOf s kv.1).isEmpty).map Prod.fst
  let s := s.setSv { s.sv with tables := s.sv.tables.keep fun _ t => !gone.contains t.tenant }
  let s := (s.sv.indexes.filter fun kv => gone.contains kv.2.tenant).foldl (fun s kv => removeIndex kv.1 kv.2 s) s
  (s.sv.stores.filter fun kv => gone.contains kv.2.tenant).foldl (fun s kv => removeStore kv.1 kv.2 s) s

/-- What waits for drains, closes and tasks goes on. -/
def settleAll (s : State) : State := settleWithdrawals (destroyServices s)

/-! The end of a drain (R287, R390, R413). -/

/-- An index fails: its items complete with EXTENT_REVOKED. -/
def failIndex (k : Nat) (x : Index) (s : State) : State :=
  let s := setIndex k { x with failed := true } s
  (s.ho.items.filter fun kv =>
    0x31 ≤ kv.2.opcode && kv.2.opcode ≤ 0x35 && kv.2.tenant = x.tenant && kv.2.regs.getD 7 0 = 1 && wBits kv.2.words 1 15 0 = x.id).foldl
    (fun s kv => endItem kv.1 Config.extentRevoked 0 0 s) s

/-- A store fails in the same way. -/
def failStore (k : Nat) (x : Store) (s : State) : State :=
  let s := setStore k { x with failed := true } s
  (s.ho.items.filter fun kv => 0x39 ≤ kv.2.opcode && kv.2.opcode ≤ 0x3E && kv.2.regs.getD 7 0 = k + 1).foldl
    (fun s kv => endItem kv.1 Config.extentRevoked 0 0 s) s

/-- Everything that is still counted in some PTC entries is aborted with EXTENT_REVOKED, and the entries become
INVALID (R287). -/
def abortEnts (ents : List Nat) (s : State) : State :=
  let hit := fun (l : List Nat) => l.any fun e => ents.contains e
  let s := ((allPends s).filter fun x => hit x.2.2.ptc && x.2.2.done.isNone).foldl (fun s x =>
    abortPend x.1 x.2.1 x.2.2.tag Config.extentRevoked s) s
  let s := (s.sv.rounds.filter fun kv => hit kv.2.ptcs && !kv.2.finished).foldl (fun s kv => endRound kv.1 Config.extentRevoked s) s
  let s := (s.sv.indexes.filter fun kv => hit kv.2.ptcs).foldl (fun s kv => failIndex kv.1 kv.2 s) s
  let s := (s.sv.stores.filter fun kv => hit kv.2.ptcs).foldl (fun s kv => failStore kv.1 kv.2 s) s
  s.setTr { s.tr with ptc := s.tr.ptc.keep fun n _ => !ents.contains n }

end Sys2Proof.Machine
end

