-- ==== Sys2Proof/Machine/Translate.lean ====
section
/-!
DEFINITION. The command ring, grants and tenants, drains, ATS, and quotas (R267–R301).
-/

namespace Sys2Proof.Machine

/-! Filling the Pool Translation Cache (R270, R274, R280). -/

/-- The set whose ways an entry may take (R270). -/
def PtcEnt.set (e : PtcEnt) : Nat :=
  (if e.big then Config.ptcSet e.tenant (2 ^ 35 + e.vpn / 512) else Config.ptcSet e.tenant e.vpn) % 131072

/-- An entry covers a 2 MiB page of its tenant with a right. -/
def PtcEnt.covers (e : PtcEnt) (tenant vpn : Nat) : Bool :=
  e.tenant = tenant && (if e.big then e.vpn / 512 = vpn / 512 else e.vpn = vpn)

/-- A task that waited for a MISS goes on. -/
def resumeTask (tag : Nat) (k : Task) (s : State) : State :=
  match k with
  | .item n => modItem n (fun i => if i.wait = Wait.miss tag then { i with wait := .none } else i) s
  | .ctx t id => resumeCtx t id s
  | .copy _ => s

/-- A task's access fails with TRANSLATION_FAULT (R280); the no-fault option keeps a program going (R141). -/
def failTask (k : Task) (s : State) : State :=
  match k with
  | .item n => endItem n Config.translationFault 0 0 s
  | .ctx t id =>
    match findCtx s t id with
    | none => s
    | some c =>
      let w := c.code.getD c.pc 0
      match opOf w with
      | some op =>
        if hasNf op w then
          resumeCtx t id (modCtx t id (fun c =>
            { c with pc := c.pc + 1, fuel := c.fuel - 1, x := c.x.set 31 (BitVec.ofNat 64 Config.translationFault) }) s)
        else endCtx t id Config.translationFault s
      | none => endCtx t id Config.translationFault s
  | .copy n => modCopy n (fun c => { c with failed := c.failed <|> some Config.translationFault }) s

/-- A MISS is answered: its entry leaves the ring's waiting list, and the tenant's further misses go. -/
def dropMiss (tag : Nat) (m : Miss) (s : State) : State :=
  let s := s.setTr { s.tr with misses := s.tr.misses.erase tag }
  let p := tenantPort m.tenant
  let other := fun (e : ReqEnt) => match e with
    | .miss t _ _ _ => t ≠ tag
    | .result _ _ _ => true
  let s := setPort s p { getPort s p with waiting := (getPort s p).waiting.filter other }
  pumpMisses m.tenant 1024 s

/-- DEDUCED: log entry 73. -/
def denyMiss (tag : Nat) (s : State) : State :=
  match s.tr.misses.get? tag with
  | none => s
  | some m => m.tasks.foldl (fun s k => failTask k s) (dropMiss tag m s)

/-- An entry in VALID: in place of the one it replaces, in a free way of its set, or in place of the least recently
used way that qualifies; none while no way does (R274). -/
def placeEnt (e : PtcEnt) (s : State) : Option State :=
  let put := fun (t : FMap PtcEnt) => s.setTr { s.tr with ptc := t.set s.tr.nextEnt e, nextEnt := s.tr.nextEnt + 1 }
  match s.tr.ptc.first? fun _ o => !o.draining && o.tenant = e.tenant && o.big = e.big && o.vpn = e.vpn with
  | some (n, o) => some (s.setTr { s.tr with ptc := s.tr.ptc.set n { o with ppn := e.ppn, r := e.r, w := e.w, last := s.now } })
  | none =>
    let mates := s.tr.ptc.filter fun kv => kv.2.set = e.set
    if s.tr.ptc.length < 16 ∨ mates.length < 16 then some (put s.tr.ptc)
    else
      let free := mates.filter fun kv => !kv.2.draining && kv.2.inflight = 0
      match free with
      | [] => none
      | f :: l => some (put (s.tr.ptc.erase (l.foldl (fun b kv => if kv.2.last < b.2.last then kv else b) f).1))

/-- A fill: the entry is installed and the tasks of the MISSes that it answers are resumed; or it waits for a way. -/
def install (e : PtcEnt) (s : State) : State :=
  match placeEnt e s with
  | none => s.setTr { s.tr with waitFill := s.tr.waitFill ++ [e] }
  | some s =>
    (s.tr.misses.filter fun kv => e.covers kv.2.tenant kv.2.vpn && (if kv.2.write then e.w else e.r)).foldl
      (fun s kv => kv.2.tasks.foldl (fun s k => resumeTask kv.1 k s) (dropMiss kv.1 kv.2 s)) s

/-- Fills that waited for a way try again, oldest first. -/
def retryFills (s : State) : State :=
  s.tr.waitFill.foldl (fun s e => install e s) (s.setTr { s.tr with waitFill := [] })

/-! The command ring (R268, R269, R282–R285). -/

def giveResult (port tenant tag status : Nat) (s : State) : State := pushReqEnt port (.result status tenant tag) s

/-- The bits that an operation may set: of ARG0 and of ARG1, and whether it has a PVA and the bits of a FILL. -/
def opMasks : Nat → Option (Nat × Nat × Bool × Bool)
  | 0x01 => some (0x1FFFFFFF, 0, true, true)
  | 0x02 => some (0, 0, true, false)
  | 0x03 => some (0, 0x7FFFFFFFF, true, false)
  | 0x04 => some (0, 0, false, false)
  | 0x10 => some (0x1FFFFFFF, 0x1FFFFFFF, false, false)
  | 0x11 => some (0x1FFFFFFF, 0x1FFFFFFF, false, false)
  | 0x20 => some (0xFFFF0003, 0, false, false)
  | 0x21 => some (0xFFFF0003, 0, false, false)
  | 0x22 => some (0, 0, false, false)
  | _ => none

/-- Reserved fields of an entry are zero (R10, R283, R284). DESIGN CHOICE: log entry 84. -/
def entryOk (e : Quad) : Bool :=
  match opMasks (e.w0.toNat % 256) with
  | none => false
  | some (m0, m1, pva, fill) =>
    bitsOf e.w0.toNat 19 18 = 0 && bitsOf e.w0.toNat 31 23 = 0 && (fill || bitsOf e.w0.toNat 22 20 = 0) &&
      e.w1.toNat < 2 ^ 56 && (pva || e.w1.toNat = 0) && Nat.land e.w2.toNat m0 = e.w2.toNat && Nat.land e.w3.toNat m1 = e.w3.toNat

/-- The entry at HEAD of a port's command ring is started (R285): an entry of the operation `op`; undefined
operations are taken with FILL. It is not executed for a tenant of the other port (R269).
DESIGN CHOICE: log entry 84. -/
def cmdEntry (port op : Nat) (e : Quad) (s : State) (k : Nat → Nat → State → State) : State :=
  let r := getSq s port 0 8
  let code := e.w0.toNat % 256
  let tenant := bitsOf e.w0.toNat 17 8
  let tag := bitsOf e.w0.toNat 63 32
  if !mmioUp s port || !(getFn s port 0).bme || r.qstate ≠ 1 || r.head = r.tail || s.rc.warmStep ≠ 0 ||
      !(code = op || (op = 1 && (opMasks code).isNone)) then s
  else
    let s := retryFills (setSq port 0 8 { r with head := (r.head + 1) % r.slots } s)
    if tenantPort tenant ≠ port then giveResult port tenant tag Config.accessDenied s
    else if !entryOk e then giveResult port tenant tag Config.invalidDescriptor s
    else k tenant tag s

/-- FILL installs a translation that lies within the tenant's grants (R276, R280, R284).
DEDUCED: log entry 73. -/
def execFill (port : Nat) (e : Quad) (s : State) : Res3 :=
  .next (cmdEntry port 1 e s fun tenant tag s =>
    let big := bitOf e.w0.toNat 20
    let span := if big then 512 else 1
    let vpn := e.w1.toNat / 0x200000
    let ppn := e.w2.toNat
    if e.w1.toNat % (0x200000 * span) ≠ 0 || ppn % span ≠ 0 || s.ti.rangePages < ppn + span then
      giveResult port tenant tag Config.invalidDescriptor s
    else if (List.range span).any fun k => !grantedTo s tenant (ppn + k) then
      let s := giveResult port tenant tag Config.invalidDescriptor s
      (s.tr.misses.filter fun kv => kv.2.tenant = tenant && vpn ≤ kv.2.vpn && kv.2.vpn < vpn + span).foldl
        (fun s kv => denyMiss kv.1 s) s
    else
      install { tenant := tenant, vpn := vpn, big := big, r := bitOf e.w0.toNat 21, w := bitOf e.w0.toNat 22, ppn := ppn,
                draining := false, inflight := 0, last := s.now } s)

/-- DENY refuses the MISS of its TAG (R280). -/
def execDeny (port : Nat) (e : Quad) (s : State) : Res3 :=
  .next (cmdEntry port 2 e s fun tenant tag s =>
    match s.tr.misses.get? tag with
    | some m => if m.tenant = tenant then denyMiss tag s else s
    | none => s)

/-- A context held by WAITF on a word whose translation is withdrawn looks the word up again. -/
def rewait (tenant : Nat) (p : Nat → Bool) (s : State) : State :=
  let held := s.co.tabors.flatMap fun kv => (kv.2.ctxs.filter fun c => c.tenant = tenant && (match c.hold with
    | .word pha _ _ => p (pha / 0x200000)
    | _ => false)).map fun c => (kv.1, c.id)
  held.foldl (fun s tc =>
    resumeCtx tc.1 tc.2 (modCtx tc.1 tc.2 (fun c => { c with pc := c.pc - 1, fuel := c.fuel + 1 }) s)) s

/-- The pool pages that an entry maps. -/
def PtcEnt.maps (e : PtcEnt) (page : Nat) : Bool :=
  if e.big then e.ppn / 512 = page / 512 else e.ppn = page

/-- Translations of a tenant are withdrawn for an operation of the command ring (R286, R287). -/
def startWithdrawal (port op tenant tag first pages : Nat) (windows : List Nat) (p : PtcEnt → Bool) (s : State) : State :=
  let hit := (s.tr.ptc.filter fun kv => kv.2.tenant = tenant && p kv.2).map Prod.snd
  let (ents, s) := withdraw (fun e => e.tenant = tenant && p e) s
  let w : Withdrawal := { port := port, op := op, tenant := tenant, tag := tag, start := s.now, ents := ents, windows := windows,
                          first := first, pages := pages, later := false }
  let s := s.setTr { s.tr with withdrawals := s.tr.withdrawals.set s.tr.nextWd w, nextWd := s.tr.nextWd + 1 }
  let s := windows.foldl (fun s k => startClose k s) s
  settleAll (rewait tenant (fun page => hit.any fun e => e.maps page) s)

/-- INVALIDATE withdraws the translations of a PVA range (R284, R286). -/
def execInvalidate (port : Nat) (e : Quad) (s : State) : Res3 :=
  .next (cmdEntry port 3 e s fun tenant tag s =>
    let lo := e.w1.toNat / 0x200000
    let hi := lo + e.w3.toNat
    if e.w3.toNat = 0 || e.w1.toNat % 0x200000 ≠ 0 then giveResult port tenant tag Config.invalidDescriptor s
    else startWithdrawal port 3 tenant tag 0 0 [] (fun x =>
      let first := if x.big then x.vpn / 512 * 512 else x.vpn
      first < hi && lo < first + (if x.big then 512 else 1)) s)

/-- INVALIDATE_TENANT withdraws every translation of the tenant (R284, R286). -/
def execInvalidateTenant (port : Nat) (e : Quad) (s : State) : Res3 :=
  .next (cmdEntry port 4 e s fun tenant tag s => startWithdrawal port 4 tenant tag 0 0 [] (fun _ => true) s)

/-- EXTENT_GRANT adds a grant (R275). DESIGN CHOICE: log entry 85. -/
def execExtentGrant (port : Nat) (e : Quad) (s : State) : Res3 :=
  .next (cmdEntry port 0x10 e s fun tenant tag s =>
    let first := e.w2.toNat
    let pages := e.w3.toNat
    if pages = 0 || s.ti.rangePages < first + pages then giveResult port tenant tag Config.invalidDescriptor s
    else if 65536 ≤ s.tr.grants.length || Par.grantsPerTenant s ≤ s.tr.grants.count (fun _ g => g.tenant = tenant) then
      giveResult port tenant tag Config.noSpace s
    else
      let l := s.tr.grants.map Prod.snd ++ [{ tenant := tenant, first := first, pages := pages }]
      giveResult port tenant tag Config.ok (s.setTr { s.tr with grants := grantTable l }))

/-- Windows of a tenant that overlap a run of pool pages. -/
def windowsOver (s : State) (tenant first pages : Nat) : List Nat :=
  (s.fa.rwt.filter fun kv => kv.2.tenant = tenant && kv.2.base < 32768 * (first + pages) && 32768 * first < kv.2.base + kv.2.lines).map
    Prod.fst

/-- EXTENT_REVOKE withdraws the tenant's grants over a run (R289, R290). -/
def execExtentRevoke (port : Nat) (e : Quad) (s : State) : Res3 :=
  .next (cmdEntry port 0x11 e s fun tenant tag s =>
    let first := e.w2.toNat
    let pages := e.w3.toNat
    if pages = 0 then giveResult port tenant tag Config.invalidDescriptor s
    else
      let s := s.setTr { s.tr with grants := grantTable (cutGrants tenant first pages (s.tr.grants.map Prod.snd)) }
      let moving := (s.ti.moves.filter fun kv => first ≤ kv.2.page && kv.2.page < first + pages && (entryOf s kv.2.page).state ≠ 3).map
        Prod.fst
      let s := moving.foldl (fun s r => abandonMove r s) s
      startWithdrawal port 0x11 tenant tag first pages (windowsOver s tenant first pages) (fun x =>
        let lo := if x.big then x.ppn / 512 * 512 else x.ppn
        lo < first + pages && first < lo + (if x.big then 512 else 1)) s)

/-! Tenants (R294, R295, R298, R299). -/

def quotaOf (s : State) (arg : Nat) : Nat := if bitsOf arg 31 16 = 0 then Par.defaultQuotaPermille s else bitsOf arg 31 16

/-- TENANT_CREATE brings a FREE tenant into service with a fresh XTS key (R294, R553). It is refused in Standby
(R518) and while debug is unlocked (R558). DESIGN CHOICE: log entry 83. -/
def execTenantCreate (port : Nat) (e : Quad) (s : State) : Res3 :=
  .next (cmdEntry port 0x20 e s fun tenant tag s =>
    if standby s || s.bt.debugUnlocked then giveResult port tenant tag Config.accessDenied s
    else if s.tr.tenants.has tenant || 1000 < bitsOf e.w2.toNat 31 16 then giveResult port tenant tag Config.invalidDescriptor s
    else
      let (_, s) := drawEntropy s
      let t : Tenant := { state := 1, cls := bitsOf e.w2.toNat 1 0, quota := quotaOf s e.w2.toNat, key := s.tr.keys + 1,
                          charge := 0, held := false }
      giveResult port tenant tag Config.ok (s.setTr { s.tr with tenants := s.tr.tenants.set tenant t, keys := s.tr.keys + 1 }))

/-- TENANT_MODIFY changes the class and quota of an ACTIVE tenant (R284, R298).
DESIGN CHOICE: log entry 83. -/
def execTenantModify (port : Nat) (e : Quad) (s : State) : Res3 :=
  .next (cmdEntry port 0x21 e s fun tenant tag s =>
    match s.tr.tenants.get? tenant with
    | some t =>
      if t.state ≠ 1 || 1000 < bitsOf e.w2.toNat 31 16 then giveResult port tenant tag Config.invalidDescriptor s
      else
        giveResult port tenant tag Config.ok (s.setTr { s.tr with
          tenants := s.tr.tenants.set tenant { t with cls := bitsOf e.w2.toNat 1 0, quota := quotaOf s e.w2.toNat } })
    | none => giveResult port tenant tag Config.invalidDescriptor s)

/-- The tabor under which a tenant-context reset of items is recorded: that of the first context among them, or 0.
DESIGN CHOICE: log entry 86. -/
def resetTabor (s : State) (l : List Nat) : Nat := ((l.flatMap fun n => ctxsOf s n).headD (0, 0)).1

/-- TENANT_DESTROY takes an ACTIVE tenant out of service (R295). DESIGN CHOICE: log entry 86. -/
def execTenantDestroy (port : Nat) (e : Quad) (s : State) : Res3 :=
  .next (cmdEntry port 0x22 e s fun tenant tag s =>
    match s.tr.tenants.get? tenant with
    | some t =>
      if t.state ≠ 1 then giveResult port tenant tag Config.invalidDescriptor s
      else
        let s := s.setTr { s.tr with tenants := s.tr.tenants.set tenant { t with state := 2 } }
        let items := itemsOf s tenant
        let s := if items.isEmpty then s else fault 0x11 0 (resetTabor s items) 0 (tasksOf s tenant) s
        let s := s.setFa { s.fa with
          ctrOwner := s.fa.ctrOwner.keep fun _ o => o ≠ tenant
          counters := s.fa.counters.keep fun k _ => s.fa.ctrOwner.get? k ≠ some tenant }
        let s := s.setCo { s.co with images := s.co.images.mapVal fun _ m => { m with unloading := m.unloading || m.tenant = tenant } }
        let windows := (s.fa.rwt.filter fun kv => kv.2.tenant = tenant).map Prod.fst
        startWithdrawal port 0x22 tenant tag 0 0 windows (fun _ => true) s
    | none => giveResult port tenant tag Config.invalidDescriptor s)

/-! Timers and drains (R280, R287, R292). -/

/-- Page Requests that may be sent are sent, at most 64 of a VF outstanding (R291, R292). -/
def pumpPri (s : State) : State :=
  s.tr.ats.foldl (fun s kv =>
    let r := kv.2
    let out := s.tr.ats.count fun _ q => q.port = r.port && q.fn = r.fn && q.pri.isSome
    if r.refused && r.pri.isNone && out < 64 then
      emit (.pcie r.port 2 kv.1 r.fn r.page) (s.setTr { s.tr with ats := s.tr.ats.set kv.1 { r with pri := some s.now } })
    else s) s

def failAts (tag : Nat) (s : State) : State :=
  match s.tr.ats.get? tag with
  | none => s
  | some r =>
    let s := s.setTr { s.tr with ats := s.tr.ats.erase tag }
    pumpPri (r.tasks.foldl (fun s n => endItem n Config.translationFault 0 0 s) s)

/-- TRANSLATION_TIMEOUT: TRANSLATION_TIMEOUT_MS has passed since a MISS was written, or since a Page Request was sent:
as a DENY (R280, R292). -/
def execTranslationTimeout (tag : Nat) (s : State) : Res3 :=
  s.act (match s.tr.misses.get? tag with
  | some m =>
    match m.writtenAt with
    | none => s
    | some t => denyMiss tag (s.reach (t + 1000000 * Par.translationTimeoutMs s))
  | none =>
    match (s.tr.ats.get? tag).bind fun r => r.pri with
    | none => s
    | some t => failAts tag (s.reach (t + 1000000 * Par.translationTimeoutMs s)))

/-- PTC_DRAIN_COMPLETE: the INFLIGHT of a draining entry has reached zero: it becomes INVALID (R287). -/
def execPtcDrainComplete (ent : Nat) (s : State) : Res3 :=
  s.act (match s.tr.ptc.get? ent with
  | some e =>
    if e.draining && e.inflight = 0 then settleAll (retryFills (s.setTr { s.tr with ptc := s.tr.ptc.erase ent }))
    else settleAll s
  | none => settleAll s)

/-- DRAIN_TIMEOUT: 2 ms after a withdrawal's start every request still counted in it is aborted (R240, R287, R293). -/
def execDrainTimeout (withdrawal : Nat) (s : State) : Res3 :=
  s.act (match s.tr.withdrawals.get? withdrawal with
  | none => s
  | some w =>
    let s := s.reach (w.start + 2000000)
    if w.op = 0xA5 then
      let late := fun (i : Item) => match i.wait with
        | .host tag => w.ents.contains tag
        | _ => false
      let s := (s.ho.items.filter fun kv => late kv.2).foldl (fun s kv => endItem kv.1 Config.extentRevoked 0 0 s) s
      let keep := fun (r : HostReq) => match r with
        | .read _ t _ _ => !w.ents.contains t
        | .write _ _ _ => true
      let hp := getPort s w.port
      settleInvs (setPort s w.port { hp with sent := hp.sent.filter keep, replay := hp.replay.filter keep, held := hp.held.filter keep })
    else
      let s := abortEnts w.ents s
      settleAll (retryFills (w.windows.foldl (fun s k => abortWindow k s) s)))

/-! ATS (R291–R293). -/

/-- ATS_TRANSLATION_COMPLETION: the host answers a Translation Request: the translation enters the port's cache and
the tasks go on; without the right needed a Page Request follows (R292). -/
def execAtsTranslationCompletion (tag : Nat) (r w : Bool) (addr : Nat) (s : State) : Res3 :=
  .next (match s.tr.ats.get? tag with
  | none => s
  | some q =>
    if q.refused || !mmioUp s q.port then s
    else if !(if q.write then w else r) then
      pumpPri (s.setTr { s.tr with ats := s.tr.ats.set tag { q with refused := true } })
    else
      let e : AtcEnt := { fn := q.fn, pasid := q.pasid, page := q.page, r := r, w := w, addr := 4096 * (addr / 4096), last := s.now }
      let l := (getAtc s q.port).filter fun x => !(x.fn = q.fn && x.pasid = q.pasid && x.page = q.page)
      let l := if 32768 ≤ l.length then
          (match l with
          | [] => []
          | x :: rest => l.erase (rest.foldl (fun b y => if y.last < b.last then y else b) x))
        else l
      let s := setAtc q.port (l ++ [e]) (s.setTr { s.tr with ats := s.tr.ats.erase tag })
      q.tasks.foldl (fun s n => modItem n (fun i => if i.wait = Wait.ats tag then { i with wait := .none } else i) s) s)

/-- PRG_RESPONSE: after Success the device translates again; any other response fails the access (R292). -/
def execPrgResponse (tag code : Nat) (s : State) : Res3 :=
  .next (match s.tr.ats.get? tag with
  | none => s
  | some q =>
    if q.pri.isNone || !mmioUp s q.port then s
    else if code = 0 then
      pumpPri (emit (.pcie q.port 1 tag q.fn q.page)
        (s.setTr { s.tr with ats := s.tr.ats.set tag { q with refused := false, pri := none } }))
    else failAts tag s)

/-- ATS_INVALIDATE_REQUEST: the named translations are used no more; the completion is sent once the reads that use
them have ended (R293). -/
def execAtsInvalidateRequest (port fn pasid page pages : Nat) (s : State) : Res3 :=
  .next (if !mmioUp s port then s
  else
    let named := fun (e : AtcEnt) => e.fn = fn && e.pasid = pasid && page ≤ e.page && e.page < page + pages
    let gone := (getAtc s port).filter named
    let s := setAtc port ((getAtc s port).filter fun e => !named e) s
    let hp := getPort s port
    let reads := (hp.sent ++ hp.replay ++ hp.held).filterMap fun r => match r with
      | .read f t a _ => if gone.any fun e => e.fn = f && e.addr / 4096 = a / 4096 then some t else none
      | .write _ _ _ => none
    let w : Withdrawal := { port := port, op := 0xA5, tenant := fn, tag := 0, start := s.now, ents := reads, windows := [],
                            first := page, pages := pages, later := false }
    settleInvs (s.setTr { s.tr with withdrawals := s.tr.withdrawals.set s.tr.nextWd w, nextWd := s.tr.nextWd + 1 }))

/-! Quotas (R298). -/

/-- Tabors that home at least one sliver (R130): every sliver with a home has a tabor of its own, but for those
that are adopted. -/
def activeTabors (s : State) : Nat := 4096 - s.co.map.count fun _ e => e.adopted || 64 ≤ e.kit

/-- A tenant has used its quota of the window. -/
def overQuota (s : State) (t : Tenant) : Bool := t.quota < 1000 && t.quota * activeTabors s * Par.quotaWindowUs s ≤ t.charge

/-- A tabor gives its pipeline to another context when its running one belongs to a held tenant. -/
def yieldHeld (t : Nat) (s : State) : State :=
  match (getTab s t).ctxs.find? fun c => c.state = .running with
  | some c => if quotaHeld s c.tenant then leave t c.id .ready s else s
  | none => schedule t s

/-- QUOTA_CHARGE_TICK: the pipeline time of the running contexts is charged; tenants that have used their quota lose
the pipeline (R298). -/
def execQuotaChargeTick (s : State) : Res3 :=
  .next (if !s.alive then s
  else
    let tabs := s.co.tabors.map Prod.fst
    let s := tabs.foldl (fun s t => charge t s) s
    let s := s.setTr { s.tr with chargedAt := s.now, tenants := s.tr.tenants.mapVal fun _ t => { t with held := t.held || overQuota s t } }
    tabs.foldl (fun s t => yieldHeld t s) s)

/-- QUOTA_WINDOW_EXPIRY: a new window begins with nothing charged (R298). -/
def execQuotaWindowExpiry (s : State) : Res3 :=
  .next (if !s.alive then s
  else
    let s := s.reach (s.tr.quotaStart + 1000 * Par.quotaWindowUs s)
    let s := s.setTr { s.tr with
      quotaStart := s.now, chargedAt := s.now,
      tenants := s.tr.tenants.mapVal fun _ t => { t with charge := 0, held := false } }
    (s.co.tabors.map Prod.fst).foldl (fun s t => schedule t s) s)

end Sys2Proof.Machine
end

