-- ==== Sys2Proof/Machine/Fences.lean ====
section
/-!
DEFINITION. Fencing of tabors, the choice of a sliver's new home, and the out-of-service transition
(chapters 4 and 18 of the spec).
-/

namespace Sys2Proof.Machine

/-! The out-of-service transition (R483). -/

/-- The out-of-service transition begins: a chip warm reset with cause OUT_OF_SERVICE (R483, R488). A device that has
left service, or is leaving it, takes no further one. -/
def leaveService (reason arg1 : Nat) (s : State) : State :=
  if s.rc.deviceState ≠ 0 || s.rc.oosRunning then s
  else fault 0x12 6 0 0 [] (s.setRc { s.rc with oosRunning := true, oosReason := reason, oosArg := arg1 })

/-! The Sliver Map and the choice of a home (R122, R125). -/

/-- The physical tabor that homes a sliver (R122). -/
def sliverTabor (s : State) (sl : Nat) : Nat := (sliverEnt s sl).kit * 68 + (sliverEnt s sl).pos

/-- The slivers that a tabor homes, in rising order but for native ones first. -/
def sliversOf (s : State) (t : Nat) : List Nat :=
  let native := ((List.range 64).map fun i => t / 68 * 64 + i).filter fun sl => sliverTabor s sl = t
  native ++ (s.co.map.filter fun kv => kv.1 / 64 ≠ t / 68 && kv.2.kit * 68 + kv.2.pos = t).map Prod.fst

/-- A tabor that can home slivers: it is neither fused off nor fenced, its fence has not begun, and its kit is clocked. -/
def taborGood (s : State) (t : Nat) : Bool :=
  !s.co.fused.mem t && !s.co.fenced.mem t && !s.co.fences.has t && !s.co.deadKits.mem (t / 68)

/-- Homes chosen for slivers by fences that have not ended: sliver, tabor, adopted. -/
def chosenHomes (s : State) : List (Nat × Nat × Bool) := s.co.fences.flatMap fun kv => kv.2.dest

/-- The spares of a kit: good positions that home no sliver (R122), lowest first. -/
def sparesOf (s : State) (kit : Nat) : List Nat :=
  ((List.range 68).map fun p => kit * 68 + p).filter fun t =>
    taborGood s t && (sliversOf s t).isEmpty && !(chosenHomes s).any fun d => d.2.1 = t

/-- The mesh distance between two kits (R120). -/
def meshDistance (j k : Nat) : Nat :=
  let d := fun (a b : Nat) => (a - b) + (b - a)
  d (j % 8) (k % 8) + d (j / 8) (k / 8)

/-- Adopted slivers of a kit. -/
def adoptedIn (s : State) (kit : Nat) : Nat :=
  (s.co.map.count fun _ e => e.adopted && e.kit = kit) + ((chosenHomes s).filter fun d => d.2.2 && d.2.1 / 68 = kit).length

/-- A tabor that may adopt a sliver: it is active and homes no adopted sliver (R125). -/
def mayAdopt (s : State) (t : Nat) : Bool :=
  let own := sliversOf s t
  taborGood s t && !own.isEmpty && !(own.any fun sl => (sliverEnt s sl).adopted) && !(chosenHomes s).any fun d => d.2.1 = t

/-- The adopting tabor of a kit: its lowest-numbered eligible position. -/
def adopterIn (s : State) (kit : Nat) : Option Nat := ((List.range 68).map fun p => kit * 68 + p).find? (mayAdopt s)

/-- Kits that may adopt from a kit, in the order of choice of R125. -/
def adoptKits (s : State) (kit : Nat) : List Nat :=
  let near := (List.range 64).filter fun k => meshDistance kit k ≤ Par.adoptRadius s && adoptedIn s k < 16
  sortBy (fun a b => let da := meshDistance kit a; let db := meshDistance kit b
                     da < db || (da = db && adoptedIn s a < adoptedIn s b)) near

/-- The new home of a sliver whose home tabor, or native kit, has none for it: a spare of the kit, else an adopting
tabor; and whether it adopts (R125). -/
def newHome (s : State) (kit : Nat) : Option (Nat × Bool) :=
  match sparesOf s kit with
  | t :: _ => some (t, false)
  | [] => ((adoptKits s kit).findSome? (adopterIn s)).map fun t => (t, true)

/-- The entry of a sliver that no tabor homes. DEDUCED: log entry 103. -/
def homelessEnt : SliverEnt := { kit := 64, pos := 0, adopted := false }

/-- A Sliver Map entry rewritten: SLIVER_ADOPTED and KIT_SPARES_EXHAUSTED are raised as R125 states; without a home
the device goes out of service. -/
def rehome (sl kit : Nat) (home : Option (Nat × Bool)) (s : State) : State :=
  match home with
  | none => leaveService 2 0 (s.setCo { s.co with map := s.co.map.set sl homelessEnt })
  | some (t, adopted) =>
    let e : SliverEnt := { kit := t / 68, pos := t % 68, adopted := adopted }
    let s := s.setCo { s.co with map := s.co.map.set sl e }
    if adopted then raise 0x121 sl t 0 s
    else if (sparesOf s kit).isEmpty then raise 0x122 kit 0 0 s
    else s

/-! What a fence loses (R127, R257, R470). -/

/-- The Reply Ledger entries of some slivers are dropped, and LOW of each source that had one there rises above every
SEQ held for it (R257). -/
def dropLedgerOf (sls : List Nat) (s : State) : State :=
  let gone := s.fa.ledger.filter fun e => sls.contains e.sliver
  let s := gone.foldl (fun s e =>
    ((s.fa.ledger.filter fun x => x.node = e.node && x.job = e.job).foldl (fun s x => raiseLow x.node x.job x.seq s) s)) s
  gone.foldl (fun s e => dropLedger e s) s

/-- A message that asks its home for a line or an access. -/
def asksHome (m : CohMsg) : Bool := (0x01 ≤ m.mtype && m.mtype ≤ 0x04) || (0x08 ≤ m.mtype && m.mtype ≤ 0x0A)

/-- A transaction that was admitted and not applied ends (R127): its requester is told ABORTED_RESET. Where the data
are on their way from an owner to the requester, it goes on; where an owner gives the line up, it goes on as a recall.
DESIGN CHOICE: log entry 74. -/
def stopTxn (line : Nat) (x : Txn) (s : State) : State :=
  if !asksHome x.req || x.forwarded || x.waiting.any (fun w => w.2 = 0x11 || w.2 = 0x12) then s
  else
    let s := (x.req :: x.more).foldl (fun s m => answer m 0x27 Config.abortedReset [] s) s
    if x.req.mtype ≠ 0x08 && (x.waiting.any (fun w => w.2 = 0x13) || (x.dirty && x.data.isSome)) then
      let recTxn : Txn :=
        { x with req := { noMsg with mtype := 0, src := x.req.src, line := line, srcChip := s.ch.domIndex }, more := [] }
      s.setCh { s.ch with txns := s.ch.txns.set line recTxn }
    else
      let s := endHome x.ref s
      s.setCh { s.ch with
        txns := s.ch.txns.erase line
        pc := s.ch.pc.mapVal fun _ l => l.filter fun q => q.line ≠ line
        late := s.ch.late ++ x.waiting.map fun w => (line, w.1) }

/-- Requests that the homes of some slivers had admitted and not applied are not applied, the operands in their
combining buffers among them (R127, R470). -/
def dropAdmitted (sls : List Nat) (s : State) : State :=
  let ops := (s.ch.comb.filter fun kv => sls.contains kv.1).flatMap fun kv => kv.2.flatMap fun c => c.ops
  let s := s.setCh { s.ch with comb := s.ch.comb.keep fun sl _ => !sls.contains sl }
  let s := ops.foldl (fun s m => answer m 0x27 Config.abortedReset [] s) s
  let reads := s.ch.ucReads.filter fun m => sls.contains (sliverOf m.line)
  let s := s.setCh { s.ch with ucReads := s.ch.ucReads.filter fun m => !sls.contains (sliverOf m.line) }
  let s := reads.foldl (fun s m => answer m 0x27 Config.abortedReset [] s) s
  (s.ch.txns.filter fun kv => sls.contains (sliverOf kv.1)).foldl (fun s kv => stopTxn kv.1 kv.2 s) s

/-- The entry of a line once an agent no longer holds it; none when nobody does. -/
def dirDrop (a : Nat) (e : DirEntry) : Option DirEntry :=
  let sharers := e.sharers.filter (· ≠ a)
  if e.owner = some a then
    if e.state = .ow && (e.coarse || !sharers.isEmpty) then some { e with state := .sh, owner := none, sharers := sharers } else none
  else if e.owner.isNone && !e.coarse && sharers.isEmpty then none
  else some { e with sharers := sharers }

/-- One line of a tabor's slice is read out (R126, R127): a dirty line of this chip goes to its page home, a line of
another chip goes back to its home, and a line that cannot be read is poisoned. -/
def readOutLine (t key : Nat) (l : SliceLine) (bad : Bool) (s : State) : State :=
  let line := key % 2 ^ 44
  if key / 2 ^ 44 = s.ch.domIndex then
    let s := setWbuf t ((getWbuf s t).erase key) (setSlice t ((getSlice s t).erase key) s)
    let s := if bad then setPoison s (lineAddr line)
      else if l.state = .m || l.state = .o then landBytes (lineAddr line) l.data s else s
    match getDir s line with
    | some e => setDir line (dirDrop (agentId s.ch.domIndex t) e) s
    | none => s
  else if bad then
    setWbuf t ((getWbuf s t).set key { l with state := .m, data := [] }) (setSlice t ((getSlice s t).erase key) s)
  else evictLine t key s

/-- A tabor's slice is read out. A line for which a request is outstanding follows its grant. -/
def readOut (t : Nat) (unreadable : List Nat) (s : State) : State :=
  let asked := fun (key : Nat) => s.ch.reqs.any fun r => r.tabor = t && lineKey r.chip r.line = key
  let s := ((getWbuf s t).filter fun kv => kv.1 / 2 ^ 44 = s.ch.domIndex && !(getSlice s t).has kv.1).foldl
    (fun s kv => readOutLine t kv.1 kv.2 (unreadable.contains (kv.1 % 2 ^ 44)) s) s
  ((getSlice s t).filter fun kv => !asked kv.1).foldl
    (fun s kv => readOutLine t kv.1 kv.2 (unreadable.contains (kv.1 % 2 ^ 44)) s) s

/-- The invocations that wait for a tabor end (R475: they cannot go on there).
DESIGN CHOICE: log entry 74. -/
def endQueued (t : Nat) (s : State) : State := ((getTab s t).queue.map Invoke.item).foldl (fun s n => abortItem n s) s

/-- The program contexts of a tabor end (R126, R470). DESIGN CHOICE: log entry 74. -/
def endContexts (t : Nat) (s : State) : State := ((getTab s t).ctxs.map Ctx.id).foldl (fun s id => abortCtx t id s) s

/-- Resets run from here on: their records are RUNNING (R476). -/
def markRun (domain index : Nat) (s : State) : State :=
  let run := fun (r : FaultRec) => { r with action := if r.action = 0 then 1 else r.action }
  let hit := fun (r : FaultRec) => s.rc.resets.any fun x => x.domain = domain && x.index = index && x.seq = r.seq
  let upd := fun (l : List FaultRec) => l.map fun r => if hit r then run r else r
  s.setRc { s.rc with
    resets := s.rc.resets.map fun x => if x.domain = domain && x.index = index then { x with run := true } else x
    queueA := upd s.rc.queueA
    queueB := upd s.rc.queueB
    overflow := s.rc.overflow.map fun r => if hit r then run r else r }

/-- A reset that has to fence a tabor: the fence itself, or the kit reset within which it is performed (R128, R481). -/
def fencesTabor (x : Reset) (t : Nat) : Bool := (x.domain = 1 && x.index = t) || (x.domain = 2 && x.fences.contains t)

/-- TABOR_FENCE: the fence of a tabor begins (R126 steps 1 and 2). -/
def execTaborFence (tabor : Nat) (s : State) : Res3 :=
  s.act (match s.rc.resets.find? fun x => fencesTabor x tabor with
  | none => s
  | some x =>
    let s := if x.domain = 1 then markRun 1 tabor s else s
    if s.co.fused.mem tabor || s.co.fenced.mem tabor || s.co.fences.has tabor then s
    else
      let sls := sliversOf s tabor
      let f : Fence := { slivers := sls, readout := false, dest := [], started := s.now }
      let s := s.setCo { s.co with fences := s.co.fences.set tabor f }
      let s := dropAdmitted sls s
      let s := if x.domain = 1 then x.tasks.foldl (fun s k => abortTask k s) s else s
      settleAll (endQueued tabor (endContexts tabor s)))

/-- Homes are chosen for slivers one after the other. -/
def chooseHomes (t : Nat) : List Nat → State → State
  | [], s => s
  | sl :: sls, s =>
    let s := match newHome s (t / 68) with
      | some (n, a) => s.setCo { s.co with fences := s.co.fences.modify t fun f => { f with dest := f.dest ++ [(sl, n, a)] } }
      | none => s
    chooseHomes t sls s

/-- FENCE_READOUT_DONE: the slice has been read out, and the new home gets the home firmware (R126 steps 3 and 4). -/
def execFenceReadoutDone (tabor : Nat) (unreadable : List Nat) (s : State) : Res3 :=
  s.act (match s.co.fences.get? tabor with
  | none => s
  | some f =>
    if f.readout then s
    else
      let s := readOut tabor unreadable s
      chooseHomes tabor f.slivers (s.setCo { s.co with fences := s.co.fences.modify tabor fun f => { f with readout := true } }))

/-- A tabor has been fenced: FENCED_MAP lists it, and TABOR_FENCED is raised. A kit whose tabors are all out of use
loses its Chime unit (R129, R442). -/
def markFenced (t : Nat) (s : State) : State :=
  let s := raise 0x120 t 0 0 (s.setCo { s.co with fenced := s.co.fenced.add t })
  if (List.range 68).all fun p => s.co.fused.mem (t / 68 * 68 + p) || s.co.fenced.mem (t / 68 * 68 + p) then loseChime (t / 68) s
  else s

/-- FENCE_REHOME_DONE: the Sliver Map is rewritten, and held requests go to the new home (R126 step 5). -/
def execFenceRehomeDone (tabor : Nat) (s : State) : Res3 :=
  s.act (match s.co.fences.get? tabor with
  | none => s
  | some f =>
    if !f.readout then s
    else
      let s := dropLedgerOf f.slivers s
      let s := s.setCo { s.co with
        fences := s.co.fences.erase tabor
        tabors := s.co.tabors.modify tabor fun v => { v with resident := [], homeSr := [] } }
      let s := markFenced tabor s
      f.slivers.foldl (fun s sl =>
        rehome sl (tabor / 68) ((f.dest.find? fun d => d.1 = sl).map Prod.snd) s) s)

/-- SCRATCH_ECC_ERROR: an uncorrectable error in the home context's part of a tabor fences it; one in the program's
part ends the program (R107). DESIGN CHOICE: log entry 75. -/
def execScratchEccError (tabor : Nat) (home : Bool) (s : State) : Res3 :=
  .next (
    if !s.alive || 4352 ≤ tabor || !taborGood s tabor then s
    else if home then fault 0x04 1 tabor 0 [] s
    else
      let cs := (getTab s tabor).ctxs
      match (cs.find? fun c => c.state = .running) <|> cs.head? with
      | some c => fault 0x01 0 tabor 0 [.ctx tabor c.id] s
      | none => s)

/-- SLICE_TAG_ERROR: an uncorrectable tag error of a slice fences the tabor (R124). -/
def execSliceTagError (tabor : Nat) (s : State) : Res3 :=
  .next (if !s.alive || 4352 ≤ tabor || !taborGood s tabor then s else fault 0x06 1 tabor 0 [] s)

/-! The Sliver Map at a cold reset (R122). -/

/-- The entries of a kit's slivers at a cold reset: its 64 lowest good positions; slivers beyond those have no home
yet. -/
def nativeEnts (s : State) (kit : Nat) : List (Nat × Option SliverEnt) :=
  let good := (List.range 68).filter fun p => taborGood s (kit * 68 + p)
  (List.range 64).map fun i => (kit * 64 + i, (good[i]?).map fun p => { kit := kit, pos := p, adopted := false })

/-- The Sliver Map built from fuses and FENCED_MAP; slivers without a native home are adopted (R122, R125). -/
def buildMap (s : State) : State :=
  let ents := (List.range 64).flatMap (nativeEnts s)
  let own := ents.filterMap fun x => x.2.bind fun e =>
    if e = { kit := x.1 / 64, pos := x.1 % 64, adopted := false } then none else some (x.1, e)
  let lost := (ents.filter fun x => x.2.isNone).map Prod.fst
  let ents := (own ++ lost.map fun sl => (sl, homelessEnt)).foldl (fun (m : FMap SliverEnt) x => m.set x.1 x.2) []
  let s := s.setCo { s.co with map := ents }
  lost.foldl (fun s sl => match newHome s (sl / 64) with
    | some (t, a) =>
      let e : SliverEnt := { kit := t / 68, pos := t % 68, adopted := a }
      s.setCo { s.co with map := s.co.map.set sl e }
    | none => s) s

/-- No home was found for a sliver at the build of the map: the device goes out of service (R122, R125). -/
def checkHomes (s : State) : State := if s.co.map.any fun kv => 64 ≤ kv.2.kit then leaveService 2 0 s else s

end Sys2Proof.Machine
end

