-- ==== Sys2Proof/Machine/Wipe.lean ====
section
/-!
DEFINITION. What the resets of the whole chip and shedding stage S4 share: the end of every item, the write-back
of Cloudbank and of Frost's buffer, and the state that the domains lose (chapters 18 and 19 of the spec).
-/

namespace Sys2Proof.Machine

/-! The end of every item (R473, R474, R360, R421). -/

/-- Where the flag-stores of a round that have not been acknowledged go: node, window, offset. -/
def flagsLeft (s : State) (r : Round) : List (Nat × Nat × Nat) :=
  (r.flags.filterMap fun n => (s.fa.reqs.get? n).map fun q => (q.pkt.dst, q.pkt.window, q.pkt.offset)) ++
    ((r.table.drop r.flagNext).filter fun e => e.1 ≠ 0xFFFF).map fun e => (e.1, e.2.1, e.2.2.2)

/-- A round is ended by a reset of the chip (R360): its declare counts every flag-store that was not acknowledged, and
those are owed to the next commit of the same composition. DESIGN CHOICE: log entry 77. -/
def wipeRound (r : Round) (s : State) : State :=
  if r.finished then s
  else
    let failed := r.ended.any fun st => st ≠ Config.ok && st ≠ Config.poisoned
    let st := if failed then r.ended.getD Config.outcomeUnknown else Config.outcomeUnknown
    let left := flagsLeft s r
    let owed := left.map fun (node, window, offset) =>
      ({ tenant := r.tenant, node := node, window := window, offset := offset, word := flagWord r st,
         comp := s.fa.composition } : OwedFlag)
    let skipped := r.units.count fun _ u => u.skipped
    let poisoned := r.units.count fun _ u => u.poisoned
    let s := modItem r.item (fun i =>
      { i with ended := some st, r0 := skipped + 2 ^ 32 * poisoned, r1 := r.flagsFailed + left.length, wait := .none, out := [] }) s
    let s := s.setSv { s.sv with owed := s.sv.owed ++ owed }
    if failed then s else raise 0x171 r.tenant (r.id + 2 ^ 16 * st) 0 s

/-- The status of an item after a reset of the chip: an item that has ended keeps its status unless something that it
issued is outstanding (R473, R474). DESIGN CHOICE: log entry 77. -/
def wipeStatus (i : Item) : Nat :=
  match i.ended with
  | none => resetStatus i
  | some st => if !i.out.isEmpty && statusOk st then resetStatus i else st

/-- An item is ended by a reset of the chip; the reply of a request line is owed (R421).
DESIGN CHOICE: log entry 77. -/
def wipeItem (n : Nat) (i : Item) (s : State) : State :=
  let st := wipeStatus i
  match i.src with
  | .host _ _ _ _ => modItem n (fun i => { i with ended := some st, wait := .none, out := [], data := [] }) s
  | .line _ node window offset =>
    let st := if statusOk st then resetStatus i else st
    let o : OwedFlag := { tenant := i.tenant, node := node, window := window, offset := offset, word := replyWord i st,
                          comp := s.fa.composition }
    s.setHo { s.ho with items := s.ho.items.erase n } |> fun s => s.setSv { s.sv with owed := s.sv.owed ++ [o] }

/-- Every item ends, and with it every round, program context and waiting invocation (R470, R506). -/
def endItems (s : State) : State :=
  let s := s.sv.rounds.foldl (fun s kv => wipeRound kv.2 s) s
  let s := s.ho.items.foldl (fun s kv => wipeItem kv.1 kv.2 s) s
  let s := s.setSv { s.sv with rounds := [], writes := [] }
  s.setCo { s.co with tabors := [], gale := [] }

/-- The completions of every item that has ended are posted, or go to the spill area (R327). -/
def postAll (s : State) : State := (s.ho.items.map Prod.fst).foldl (fun s n => postItem n s) s

/-! Write-back (R471, R506). -/

/-- The dirty lines of this chip in the slices and write-back buffers, with their data. -/
def dirtyLines (s : State) : List (Nat × List Byte) :=
  (s.ch.wbuf ++ s.ch.slices).flatMap fun kv => kv.2.filterMap fun l =>
    if l.1 / 2 ^ 44 = s.ch.domIndex && (l.2.state = .m || l.2.state = .o) then some (l.1 % 2 ^ 44, l.2.data) else none

/-- Dirty lines that other chips of the domain home go back to them. -/
def returnForeign (s : State) : State :=
  s.ch.slices.foldl (fun s kv => (kv.2.filter fun l => l.1 / 2 ^ 44 ≠ s.ch.domIndex).foldl (fun s l => evictLine kv.1 l.1 s) s) s

/-- Every dirty line of this chip is written to its page home. -/
def flushLines (s : State) : State := (dirtyLines s).foldl (fun s l => landBytes (lineAddr l.1) l.2 s) s

/-- The flush of stage S4: a line of a flash-homed page becomes a line record of the journal (R506). -/
def flushS4 (s : State) : State :=
  (dirtyLines s).foldl (fun s l =>
    let a := lineAddr l.1
    if (entryOf s (a / 0x200000)).tier = 3 then journal (.line a) (wrBytes s a l.2) else landBytes a l.2 s) s

/-- A buffered unit is programmed in SLC mode (R91). Where it lies is a free value. -/
def programSlc (u : Nat) (s : State) : State :=
  let (f, s) := drawFree 91 s
  let g := (s.fr.pageGroup.get? (unitPage u)).getD 0
  let l : FrostLoc := { chan := 16 * g + f % 16, die := f / 16 % 16, block := f / 256 % 4096, row := f / 0x100000 % 4096, slc := true }
  s.setFr { s.fr with loc := s.fr.loc.set u l, buf := s.fr.buf.erase u }

/-- Frost programs every buffered unit, and a commit record (R91). -/
def frostCommit (s : State) : State :=
  let s := commitJournal ((s.fr.buf.map Prod.fst).foldl (fun s u => programSlc u s) s)
  s.setFr { s.fr with commitRecord := !s.fr.closed, intents := [], reads := [] }

/-! What the domains lose (R24, R470). -/

/-- Drift after a reset of the chip: moves in MOVING or SWITCHING are abandoned, and the source slots of a page in
FREEING are freed (R43). Copy B is rewritten from copy A (R36). -/
def wipeTiers (s : State) : State :=
  let s := abandonAll s
  let s := s.ti.moves.foldl (fun s kv =>
    setEntry kv.2.page { entryOf s kv.2.page with state := 0, moveSlot := 0 } (freePlace kv.2.src s)) s
  let s := s.ti.freeing.foldl (fun s kv =>
    freePlace ⟨kv.1 / 0x100000000, kv.1 % 0x100000000, kv.2.mirror, kv.2.arranged⟩ s) s
  s.setTi { s.ti with
    moves := [], freeing := [], refs := [], plan := [], startedNow := 0, samples := [], workSlots := 0
    drainItems := [], homeB := s.ti.homeA }

/-- Cloudbank, Belfry and the domain are empty; agents and transactions are gone. -/
def wipeCoh (s : State) : State := s.setCh { nextTag := s.ch.nextTag, arrivals := s.ch.arrivals }

/-- Images that survive in the program store: those that a Gale attachment, or an index of METRIC PROGRAM, names
(R153). -/
def keptImage (s : State) (h : Nat) : Bool :=
  s.co.attach.any (fun kv => kv.2 = h) || s.sv.indexes.any fun kv => indexHandle kv.2 = some h

/-- Tabors and the program store. -/
def wipeCores (s : State) : State :=
  s.setCo { s.co with fences := [], tabors := [], gale := [], images := s.co.images.keep fun h _ => keptImage s h }

/-- The composition is cleared (R232). -/
def detach (s : State) : State :=
  let old := s.fa.composition
  let s := s.setFa { s.fa with
    composition := 0, generation := 0, nodeId := 0xFFFF, jobs := [], prevJobs := [], prevGen := none, domainList := [] }
  if old = 0 then s else raise 0x149 0 old 0 s

/-- Paths, packets, copies, remote requests and handoffs are gone; counters are zero (R222, R253). A window that was
closing is closed. The Reply Ledger's entries go with the slivers that hold them. -/
def wipeFabric (s : State) : State :=
  let s := dropLedgerOf ((s.fa.ledger.map LedEnt.sliver).eraseDups) s
  s.setFa { s.fa with
    tx := [], rx := [], ctl := [], noPath := [], mgmt := [], reqs := [], openMsgs := [], copies := [], galeWait := []
    handoffs := [], counters := []
    rwt := s.fa.rwt.keep fun _ w => !w.closing
    subs := s.fa.subs.mapVal fun _ p => { p with sending := none } }

/-- Entries that indexes and stores hold. DESIGN CHOICE: log entry 78. -/
def heldEnts (s : State) : List Nat :=
  (s.sv.indexes.flatMap fun kv => kv.2.ptcs) ++ s.sv.stores.flatMap fun kv => kv.2.ptcs

/-- The PTC and the ATS caches are empty, and outstanding MISSes void (R296). What an index or a store keeps of the
translations of its ranges stays with its descriptor: such entries serve no lookup any more.
DEDUCED: log entry 29. DESIGN CHOICE: log entry 78. -/
def wipeTrans (s : State) : State :=
  let held := heldEnts s
  s.setTr { s.tr with
    ptc := (s.tr.ptc.keep fun n _ => held.contains n).mapVal fun n e => { e with draining := true, inflight := held.count n }
    misses := [], waitFill := [], atc := [], ats := [] }

/-- What the services keep: their descriptors; nothing that was under way. DEDUCED: log entry 29. -/
def wipeServices (s : State) : State :=
  s.setSv { s.sv with
    writes := [], rounds := [], lookups := []
    tables := s.sv.tables.mapVal fun _ t => { t with pins := [], replacing := [], destroying := none }
    indexes := s.sv.indexes.mapVal fun _ x => { x with stamped := [], publishes := [], pins := [], destroying := none }
    stores := s.sv.stores.mapVal fun _ x => { x with
      destroying := none
      slots := (x.slots.keep fun _ c => !c.old).mapVal fun _ c => { c with readers := [] } } }

/-- ODP sessions, transfers and locks, the running script and the queued firings are gone with the Carillon domain
(R470, R528, R537). DEDUCED: log entry 70. -/
def wipeCarillon (s : State) : State :=
  s.setOd { s.od with
    segs := [], kept := [], locks := [], mailbox := [], script := none, firings := []
    triggerLost := s.od.triggerLost || !s.od.firings.isEmpty }

/-- Every domain but the island has been reset (R471 step 3). -/
def wipeChip (s : State) : State :=
  wipeCarillon (wipeServices (wipeTrans (wipeFabric (wipeCores (wipeCoh (wipeTiers (endItems s)))))))

/-- Every sub-port of the device. -/
def allSubs (s : State) : List Nat := ((List.range 32).flatMap fun p => subsOf s p)

/-- The fabric ports stop: their links are down. DESIGN CHOICE: log entry 109. -/
def stopPorts (s : State) : State :=
  ((s.fa.subs.filter fun kv => kv.2.state ≠ 0 || kv.2.step ≠ 0).map Prod.fst).foldl (fun s n => dropLink n false s) s

/-- The enabled fabric ports start to train (R213). -/
def startPorts (s : State) : State :=
  (allSubs s).foldl (fun s n =>
    if Par.portEnable s (n / 2) ≠ 0 && (getSub s n).state = 0 && (getSub s n).step = 0 then dropLink n true s else s) s

end Sys2Proof.Machine
end

