-- ==== Sys2Proof/Machine/Power.lean ====
section
/-!
DEFINITION. Sleep, Barometer's loops, and shedding (chapter 19 of the spec).
-/

namespace Sys2Proof.Machine

/-! The island (R484). -/

/-- The island has failed: Tocsin B handles every domain from now on, and performs a chip warm reset (R484).
DESIGN CHOICE: log entry 60. -/
def failIsland (s : State) : State :=
  if s.rc.islandFailed then s
  else fault 0x0D 6 0 0 [] (raise 0x1F2 0 0 0 (s.setRc { s.rc with islandFailed := true, tocsinA := 2 }))

/-- REFCLK_25M_INTERRUPTION: local time stops, and the device behaves as for a loss of its island (R570). -/
def execRefclk25mInterruption (s : State) : Res3 :=
  .next (if !s.powered || !s.pw.refclk then s else failIsland (s.setPw { s.pw with refclk := false }))

/-! Sleep (R497, R498). -/

/-- Admitted work of a kit: program contexts and invocations, and requests at its slivers. -/
def kitBusy (s : State) (k : Nat) : Bool :=
  s.co.tabors.any (fun kv => kv.1 / 68 = k && !(kv.2.ctxs.isEmpty && kv.2.queue.isEmpty)) ||
    s.ch.queues.any (fun kv => !kv.2.isEmpty && (sliverEnt s kv.1).kit = k) ||
    s.ch.txns.any (fun kv => (sliverEnt s (sliverOf kv.1)).kit = k) ||
    s.ch.comb.any fun kv => !kv.2.isEmpty && (sliverEnt s kv.1).kit = k

/-- Frames queued at a port in either direction, or a descriptor of its copy engine. -/
def portBusy (s : State) (p : Nat) : Bool :=
  s.fa.tx.any (fun kv => kv.2.sub / 2 = p && !kv.2.pkts.isEmpty) || s.fa.rx.any (fun kv => kv.2.sub / 2 = p && !kv.2.open_.isEmpty) ||
    s.fa.ctl.any (fun kv => kv.1 / 2 = p && !kv.2.isEmpty) || s.fa.mgmt.any (fun kv => kv.1 / 2 = p && !kv.2.isEmpty) ||
    s.fa.copies.any (fun kv => kv.2.port = p) || s.co.gale.has p

/-- A domain meets its idle condition (R497). -/
def domainIdle (s : State) : ClkDomain → Bool
  | .kit k => !kitBusy s k
  | .port p => !portBusy s p
  | .mesh =>
    (List.range 64).all (fun k => s.pw.asleep.mem (ClkDomain.kit k).key) && (List.range 32).all (fun p => s.pw.asleep.mem (ClkDomain.port p).key) &&
      s.pw.asleep.mem ClkDomain.dram.key && s.pw.asleep.mem ClkDomain.nand.key && s.ho.items.isEmpty
  | .dram => s.ti.refs.isEmpty && s.ti.moves.isEmpty && s.ch.txns.isEmpty
  | .nand => s.fr.reads.isEmpty && s.fr.buf.isEmpty && s.fr.pend.isEmpty
  | .carillon => s.od.segs.isEmpty && s.od.script.isNone

/-- The domain is one of R24. -/
def domainOk : ClkDomain → Bool
  | .kit k => k < 64
  | .port p => p < 32
  | _ => true

/-- DOMAIN_SLEEP: an idle domain's fast clock stops, and its state is kept (R497). After an island failure no domain
sleeps (R484). -/
def execDomainSleep (d : ClkDomain) (s : State) : Res3 :=
  .next (
    if !s.powered || s.bt.stage ≠ 4 || s.rc.islandFailed || s.rc.warmStep ≠ 0 || !domainOk d || !domainIdle s d then s
    else s.setPw { s.pw with asleep := s.pw.asleep.add d.key })

/-- DOMAIN_WAKE: work has arrived: the domain's clock runs, and with it the mesh (R497). -/
def execDomainWake (d : ClkDomain) (s : State) : Res3 :=
  .next (
    if !s.powered || !s.pw.asleep.mem d.key then s
    else s.setPw { s.pw with asleep := (s.pw.asleep.del d.key).del ClkDomain.mesh.key })

/-! Barometer (R499–R502). -/

/-- Barometer runs: the device is powered and past step 1 of its boot. -/
def baroRuns (s : State) : Bool := s.powered && s.bt.stage ≠ 0 && s.rc.warmStep = 0

/-- Kits that are clocked. -/
def liveKits (s : State) : List Nat := (List.range 64).filter fun k => !s.co.deadKits.mem k

/-- A setpoint in steps of 5 mV, from 520 to 820 mV (R499). DESIGN CHOICE: log entry 79. -/
def setpointOf (mv : Nat) : Nat := min 820 (max 520 ((mv + 4) / 5 * 5))

/-- The VDD_CORE request: the highest setpoint plus 30 mV, at least 550 mV (R566).
DESIGN CHOICE: log entry 82. -/
def coreRequest (points : FMap Nat) : Nat := max 550 (points.foldl (fun n kv => max n kv.2) 0 + 30)

/-- AVS_LOOP_PERIOD: each kit's setpoint becomes the lowest value that passes its critical-path monitors, and VDD_CORE
is requested (R499, R566). DESIGN CHOICE: log entry 79. -/
def execAvsLoopPeriod (lowest : List (Nat × Nat)) (s : State) : Res3 :=
  .next (
    if !baroRuns s then s
    else
      let points := (lowest.filter fun x => x.1 < 64 && !s.co.deadKits.mem x.1).foldl
        (fun (m : FMap Nat) x => m.set x.1 (setpointOf x.2)) s.pw.setpoint
      s.setPw { s.pw with setpoint := points, avsRequest := coreRequest points })

/-- DROOP_DETECTED: the kit clock is stretched for 100 ns (R499). -/
def execDroopDetected (kit : Nat) (s : State) : Res3 :=
  .next (if !baroRuns s || 64 ≤ kit then s else s.setPw { s.pw with droopUntil := s.pw.droopUntil.set kit (s.now + 100) })

/-- The shedding cap (R503). -/
def shedCap (s : State) : Nat := if 2 ≤ s.pw.stage then 2400 else 3600

/-- The lowest of a kit's caps, in MHz (R499). -/
def kitCap (s : State) (k : Nat) : Nat :=
  min (min (Par.kitFreqMaxMhz s) (s.pw.powerCap.getD k 3600)) (min (s.pw.thermalCap.getD k 3600) (shedCap s))

/-- FREQ_LOOP_PERIOD: a kit with admitted work runs at its lowest cap, an idle one at 0.6 GHz (R499). -/
def execFreqLoopPeriod (s : State) : Res3 :=
  .next (
    if !baroRuns s then s
    else
      let f := (liveKits s).foldl (fun (m : FMap Nat) k => m.set k (if kitBusy s k then kitCap s k else 600)) []
      s.setPw { s.pw with freq := f })

/-- PKG_POWER_LOOP_PERIOD: the mean package power of the last 1 ms is compared with PKG_LIMIT_W (R500).
DESIGN CHOICE: log entry 79. -/
def execPkgPowerLoopPeriod (meanMw : Nat) (s : State) : Res3 :=
  .next (
    if !baroRuns s then s
    else
      let limit := 1000 * Par.pkgLimitW s
      let busy := (liveKits s).filter (kitBusy s)
      let clock := fun (k : Nat) => s.pw.freq.getD k 600
      let cap := fun (k : Nat) => s.pw.powerCap.getD k 3600
      if limit < meanMw then
        let top := busy.foldl (fun n k => max n (clock k)) 600
        if top = 600 then s.setPw { s.pw with idleSlots := min 12 (s.pw.idleSlots + 1) }
        else
          let caps := (busy.filter fun k => clock k = top).foldl
            (fun (m : FMap Nat) k => m.set k (max 600 (min (cap k) top - 100))) s.pw.powerCap
          s.setPw { s.pw with powerCap := caps }
      else if meanMw * 100 < limit * 98 then
        let low := (liveKits s).foldl (fun n k => min n (cap k)) 3600
        let caps := ((liveKits s).filter fun k => cap k = low).foldl
          (fun (m : FMap Nat) k => if low + 100 < 3600 then m.set k (low + 100) else m.erase k) s.pw.powerCap
        s.setPw { s.pw with powerCap := caps, idleSlots := s.pw.idleSlots - 1 }
      else s)

/-! Shedding (R503–R508). -/

/-- Whether the conditions of R508 hold, and since when. DESIGN CHOICE: log entry 109. -/
def noteHold (s : State) : State :=
  if !s.pw.warnLow && s.pw.sag.isEmpty && (s.pw.trigger ≠ 3 || s.pw.cool) then
    s.setPw { s.pw with holdSince := s.pw.holdSince <|> some s.now }
  else s.setPw { s.pw with holdSince := none }

/-- A shedding stage is entered, and with it every lower one (R503). -/
def enterStage (n : Nat) (s : State) : State :=
  if n ≤ s.pw.stage then s
  else
    let old := s.pw.stage
    let s := s.setPw { s.pw with stage := n, s3At := if old < 3 && 3 ≤ n then s.now else s.pw.s3At }
    let s := if old = 0 then abandonAll (s.setSv { s.sv with suspended := true }) else s
    let s := if old < 2 && 2 ≤ n then s.setPw { s.pw with freq := s.pw.freq.mapVal fun _ f => min f 2400 } else s
    noteHold (raise 0x190 0 n 0 s)

/-- The timed sequence starts, unless it runs already or the device is in S4 (R505). During boot, boot holds (R569). -/
def startTimed (trigger : Nat) (s : State) : State :=
  if s.pw.timedFrom.isSome || 4 ≤ s.pw.stage then s
  else s.setPw { s.pw with timedFrom := some s.now, trigger := trigger, bootHeld := s.bt.stage ≠ 4 }

/-- PWR_WARN_N_ASSERT: PWR_WARN_N has been low for 1 µs (R505). -/
def execPwrWarnNAssert (s : State) : Res3 :=
  .next (if !s.powered then s else noteHold (startTimed 2 (s.setPw { s.pw with warnLow := true })))

/-- PWR_WARN_N_DEASSERT: PWR_WARN_N rises (R508). -/
def execPwrWarnNDeassert (s : State) : Res3 :=
  .next (if !s.powered then s else noteHold (s.setPw { s.pw with warnLow := false }))

/-- The stage that a depth of sag selects (R504). -/
def sagStage (s : State) (mv : Nat) : Nat :=
  let base := Par.sagMv s
  if base + 30 ≤ mv then 3 else if base + 15 ≤ mv then 2 else if base ≤ mv then 1 else 0

/-- The deepest stage that the present sags select. DESIGN CHOICE: log entry 81. -/
def sagNow (s : State) : Nat := s.pw.sag.foldl (fun n kv => max n (sagStage s kv.2)) 0

/-- VDD_CORE_SAG: VDD_CORE at a kit is `mv` below its setpoint; a deeper sag waits 2 µs of its own (R504).
DESIGN CHOICE: log entry 81. -/
def execVddCoreSag (kit mv : Nat) (s : State) : Res3 :=
  .next (
    if !baroRuns s || 64 ≤ kit || mv < Par.sagMv s then s
    else
      let old := sagNow s
      let s := s.setPw { s.pw with sag := s.pw.sag.set kit mv }
      let s := if old < sagNow s then s.setPw { s.pw with sagSince := some s.now } else s
      noteHold s)

/-- SAG_PERSIST_EXPIRY: the sag has persisted for 2 µs: the stage that its depth selects is entered (R504). -/
def execSagPersistExpiry (s : State) : Res3 :=
  .next (match s.pw.sagSince with
  | none => s
  | some t =>
    if !s.powered then s
    else
      let s := s.reach (t + 2000)
      let s := s.setPw { s.pw with sagSince := none, trigger := if s.pw.stage = 0 && s.pw.timedFrom.isNone then 1 else s.pw.trigger }
      enterStage (sagNow s) s)

/-- VDD_CORE_SAG_CLEAR: VDD_CORE at every kit is within SAG_MV / 2 of its setpoint (R508). -/
def execVddCoreSagClear (s : State) : Res3 :=
  .next (if !s.powered then s else noteHold (s.setPw { s.pw with sag := [], sagSince := none }))

/-- A stage of the timed sequence is entered (R505). -/
def timedStage (n : Nat) (s : State) : State :=
  if !s.powered || s.pw.timedFrom.isNone then s else enterStage n s

/-- SHED_S1_ENTER: step 1 of the timed sequence (R505). -/
def execShedS1Enter (s : State) : Res3 := .next (timedStage 1 s)

/-- SHED_S2_ENTER: step 2 of the timed sequence (R505). -/
def execShedS2Enter (s : State) : Res3 := .next (timedStage 2 s)

/-- SHED_S3_ENTER: step 3 of the timed sequence (R505). -/
def execShedS3Enter (s : State) : Res3 := .next (timedStage 3 s)

/-- SHED_S4_ENTER: S3 has been held for S3_DRAIN_US, or no admitted item remains in a timed sequence: every item ends,
completions are posted, and the flush of Cloudbank begins (R504–R506). -/
def execShedS4Enter (s : State) : Res3 :=
  .next (
    if !s.powered || s.pw.stage ≠ 3 then s
    else
      let s := if s.pw.timedFrom.isSome && s.ho.items.isEmpty then s else s.reach (s.pw.s3At + 1000 * Par.s3DrainUs s)
      let s := enterStage 4 (postAll (endItems s))
      s.setPw { s.pw with s4Phase := 1 })

/-- S4_FLUSH_DONE: Cloudbank has been flushed, lines of flash-homed pages into the journal; Frost commits (R506). -/
def execS4FlushDone (s : State) : Res3 :=
  .next (
    if !s.powered || s.pw.s4Phase ≠ 1 then s
    else
      let s := wipeCoh (flushS4 s)
      s.setPw { s.pw with s4Phase := 2 })

/-- PWR_SAFE_ASSERT: Frost has committed and DRAM is in self-refresh: PWR_SAFE is asserted (R91, R506). -/
def execPwrSafeAssert (s : State) : Res3 :=
  .next (
    if !s.powered || s.pw.s4Phase ≠ 2 then s
    else
      let s := if s.bt.mounted then frostCommit s else s
      s.setPw { s.pw with s4Phase := 3, dramSelfRefresh := true, pwrSafe := true, timedFrom := none })

/-- Tasks that shedding had suspended resume with a new origin (R462). -/
def resumeDrums (s : State) : State :=
  s.setSv { s.sv with
    suspended := s.rc.deviceState ≠ 0
    drums := s.sv.drums.mapVal fun t d => if t = 4 then d else { d with t0 := s.now, k := 0, behind := false } }

/-- SHED_LIFT: the conditions have held for SHED_HOLD_MS: every stage lifts. From S4 the device deasserts PWR_SAFE,
takes DRAM out of self-refresh, and runs steps 3 to 5 of a warm reset, or boots on (R508, R569).
DESIGN CHOICE: log entry 109. -/
def execShedLift (s : State) : Res3 :=
  .next (
    if !s.powered || s.pw.stage = 0 || s.pw.timedFrom.isSome || s.pw.s4Phase = 1 || s.pw.s4Phase = 2 then s
    else
      match s.pw.holdSince with
      | none => s
      | some t =>
        let old := s.pw.stage
        let s := s.reach (t + 1000000 * Par.shedHoldMs s)
        let s := s.setPw { s.pw with
          stage := 0, trigger := 0, s4Phase := 0, bootHeld := false
          pwrSafe := s.pw.pwrSafe && old ≠ 4, dramSelfRefresh := s.pw.dramSelfRefresh && old ≠ 4 }
        let s := raise 0x190 0 0 0 s
        if old = 4 && s.bt.stage = 4 then
          let s := wipeChip (stopPorts (detach s))
          s.setRc { s.rc with warmStep := 3 }
        else resumeDrums s)

/-! Temperature (R502). -/

/-- The readings of a part. -/
def readings (l : List (Nat × Int)) (k : Nat) : List Int := (l.filter fun x => x.1 = k).map Prod.snd

/-- A kit's thermal cap after a period; `none` once it is uncapped. DESIGN CHOICE: log entry 80. -/
def thermalStep (tj : Int) (temps : List Int) (cap : Nat) : Nat :=
  if temps.any fun t => 110 ≤ t then 600
  else if temps.any fun t => tj < t then max 600 (cap - 100)
  else if temps.all fun t => t < tj - 2 then min 3600 (cap + 100)
  else cap

/-- A period's readings of one kit. DESIGN CHOICE: log entry 80. -/
def heatKit (kits : List (Nat × Int)) (k : Nat) (s : State) : State :=
  let temps := readings kits k
  let hot := temps.any fun t => 110 ≤ t
  let was := s.pw.protect.mem k
  let cap := if temps.isEmpty then s.pw.thermalCap.getD k 3600
    else thermalStep (Par.tjThrottleC s) temps (s.pw.thermalCap.getD k 3600)
  let s := s.setPw { s.pw with
    thermalCap := if cap = 3600 then s.pw.thermalCap.erase k else s.pw.thermalCap.set k cap
    freq := if hot then s.pw.freq.set k 600 else s.pw.freq
    protect := if hot then s.pw.protect.add k else if temps.isEmpty then s.pw.protect else s.pw.protect.del k }
  if hot && !was then raise 0x191 k 0 0 s else s

/-- A period's readings of one HBM stack. -/
def heatStack (hbm : List (Nat × Int)) (k : Nat) (s : State) : State :=
  let temps := readings hbm k
  if temps.any fun t => 95 < t then s.setPw { s.pw with hbmIdle := s.pw.hbmIdle.set k (min 12 (s.pw.hbmIdle.getD k 0 + 1)) }
  else if !temps.isEmpty && temps.all (fun t => t < 93) then s.setPw { s.pw with hbmIdle := s.pw.hbmIdle.erase k }
  else s

/-- TEMP_LOOP_PERIOD: thermal caps and HBM idle slots follow the sensors; at 120 °C, or with a stack beyond its rated
maximum, the timed sequence starts with trigger THERMAL (R502). DESIGN CHOICE: log entry 80. -/
def execTempLoopPeriod (kits hbm others : List (Nat × Int)) (overRated : List Nat) (s : State) : Res3 :=
  .next (
    if !baroRuns s then s
    else
      let s := (liveKits s).foldl (fun s k => heatKit kits k s) s
      let s := (List.range 8).foldl (fun s k => heatStack hbm k s) s
      let all := (kits ++ hbm ++ others).map Prod.snd
      let s := s.setPw { s.pw with cool := all.all fun t => t < 95 }
      let s := if all.any (fun t => 120 ≤ t) || !overRated.isEmpty then startTimed 3 s else s
      noteHold s)

end Sys2Proof.Machine
end

