-- ==== Sys2Proof/Machine/Boot.lean ====
section
/-!
DEFINITION. Cold reset, boot, mount, firmware checks, and registration (chapters 3, 21 and 22 of the spec).
-/

namespace Sys2Proof.Machine

/-! The configuration store (R515, R547). -/

/-- The newest valid copy of the configuration store (R547). -/
def newestCfg (s : State) : Option CfgCopy :=
  s.bt.cfg.foldl (fun b kv => match b with
    | some c => if c.seq < kv.2.seq then some kv.2 else some c
    | none => some kv.2) none

/-- A stored number is within the range of its object (R515). -/
def storedOk (k v : Nat) : Bool :=
  match odRow (k / 256) (k % 256) with
  | some r => r.persistent && r.lo ≤ v && v ≤ r.hi
  | none => false

/-- The values of the configuration store take effect (R515, R547). -/
def loadCfg (s : State) : State :=
  match newestCfg s with
  | none => raise 0x1A1 0 0x10 0 s
  | some c =>
    let c := { c with nums := c.nums.keep storedOk }
    let s := s.setOd { s.od with num := c.nums, oct := c.octs, tenantShapers := c.tenantShapers, classShapers := c.classShapers }
    let periods := (List.range 16).foldl (fun (m : FMap Nat) n =>
      if slotRuns s n && Par.scriptTrigger s n = 3 then m.set n (s.now + 1000000 * Par.scriptTriggerArg s n) else m) []
    (s.setOd { s.od with periodDue := periods }).setBt { s.bt with accepted := c }

/-- The accepted P values saved as a whole copy, in the region that does not hold the newest valid one (R547). -/
def saveCfg (s : State) : State :=
  let (seq, place) := match newestCfg s with
    | none => (0, 0)
    | some c => (c.seq, if s.bt.cfg.any (fun kv => kv.1 = 0 && kv.2 = c) then 1 else 0)
  s.setBt { s.bt with cfg := s.bt.cfg.set place { s.bt.accepted with seq := seq + 1 }, cfgPendingSince := none }

/-! Cold reset (R486, R567–R569). -/

/-- Every line that the directory shows held in EX or OW by an agent of this chip is poisoned (R486).
DEDUCED: log entry 30. -/
def poisonOwned (s : State) : State :=
  (s.ch.dir.filter fun kv => kv.2.state ≠ .sh && kv.2.owner.any fun a => a / 8192 = s.ch.domIndex).foldl
    (fun s kv => setPoison s (lineAddr kv.1)) s

/-- What a cold reset leaves of the tiers: the home map, whose moves end as at every reset (R43). -/
def coldTiers (s : State) : State :=
  let s := wipeTiers s
  s.setTi { s.ti with
    rangePages := 0, hbmSlots := 0, ddrSlots := 0, flashSlots := 0
    lostModules := [], ueLog := [], rebuild := [], waiting := [], owing := [], lowArmed := true, drained := false }

/-- What a cold reset leaves of Frost: what is programmed. -/
def coldFrost (s : State) : State :=
  s.setFr { s.fr with
    buf := [], pend := [], closing := false, closed := false, mounting := false, reads := [], erasing := []
    moveNext := [], dies := s.fr.dies.mapVal fun _ d => { d with busyAt := [] } }

/-- What a cold reset leaves of the cores: fuses, FENCED_MAP, Gale attachments, and the images that survive. -/
def coldCores (s : State) : State :=
  s.setCo {
    fused := s.co.fused
    fenced := if s.co.fenceClear then [] else s.co.fenced
    attach := s.co.attach
    images := s.co.images.keep fun h _ => keptImage s h
    nextCtx := s.co.nextCtx, nextPend := s.co.nextPend }

/-- What a cold reset leaves of translation: grants and tenants, and what their withdrawals have still to do.
DEDUCED: log entry 29. -/
def coldTrans (s : State) : State :=
  let s := wipeTrans s
  s.setTr { s.tr with ptc := s.tr.ptc, quotaStart := 0, chargedAt := 0, tenants := s.tr.tenants.mapVal fun _ t => { t with charge := 0, held := false } }

/-- What a cold reset leaves of the fabric: windows and counter allocations. -/
def coldFabric (s : State) : State :=
  s.setFa { rwt := s.fa.rwt.keep fun _ w => !w.closing, ctrOwner := s.fa.ctrOwner }

/-- What a cold reset leaves of the services: their descriptors. -/
def coldServices (s : State) : State :=
  let s := wipeServices s
  s.setSv { s.sv with owed := [], drums := [], suspended := false, autoDue := 0 }

/-- What a cold reset leaves of boot: fuses, the NOR and its configuration store. Programming that was under way leaves
no valid image (R549). -/
def coldBoot (s : State) : State :=
  s.setBt {
    nor := if s.bt.fwState = 2 then [] else s.bt.nor
    svnFused := s.bt.svnFused, revoked := s.bt.revoked, rootDigests := s.bt.rootDigests, serial := s.bt.serial
    romVersion := s.bt.romVersion, certChain := s.bt.certChain, fabricKeys := s.bt.fabricKeys, cfg := s.bt.cfg }

/-- A cold reset of everything but the pins and the supplies. -/
def coldState (s : State) : State :=
  let s := coldServices (coldFabric (coldTrans (coldCores (coldFrost (coldTiers (coldBoot s))))))
  let s := s.setCh {}
  let s := s.setHo {}
  let s := s.setRc {}
  s.setOd {}

/-- The pins and supplies under a cold reset. -/
def coldPower (supply : Bool) (s : State) : State :=
  s.setPw {
    supply := supply, refclk := s.pw.refclk, resetLow := true, faultLow := s.pw.faultLow && supply
    dramSelfRefresh := supply, dramEpoch := s.pw.dramEpoch }

/-- POWER_GOOD: every supply is within tolerance. RESET_N stays asserted (R567). -/
def execPowerGood (s : State) : Res3 :=
  .next (
    if s.pw.supply then s
    else s.setPw { s.pw with supply := true, refclk := true, resetLow := true, pwrSafe := false })

/-- Whether the P writes that wait are stored before a reset with the supplies on is not stated (R515). -/
def cfgAtReset (s : State) : State :=
  if s.bt.cfgPendingSince.isNone then s
  else
    let (f, s) := drawFree 515 s
    if f % 2 = 1 then saveCfg s else s

/-- RESET_N_ASSERT: the ports stop, DRAM enters self-refresh, and a cold reset is held until RESET_N rises. Lines that
were owned in the caches are poisoned (R486, R569). -/
def execResetNAssert (s : State) : Res3 :=
  .next (if !s.pw.supply || s.pw.resetLow then s else coldPower true (coldState (poisonOwned (cfgAtReset s))))

/-- Pages homed in DRAM have undefined contents after a RESET_N pulse that was too short (R569).
DESIGN CHOICE: log entry 6. -/
def dramUndefined (s : State) : State :=
  let n := s.pw.dramEpoch + 1
  let s := s.setPw { s.pw with dramEpoch := n }
  (s.ti.homeA.filter fun kv => kv.2.tier = 1 || kv.2.tier = 2).foldl (fun s kv =>
    let s := wipePage kv.1 s
    s.setTi { s.ti with undef := s.ti.undef.set kv.1 n }) s

/-- RESET_N_DEASSERT: t0 of boot: local time is zero, and the CAN_ID straps are sampled (R496, R540, R572). -/
def execResetNDeassert (heldNs canId : Nat) (s : State) : Res3 :=
  .next (
    if !s.pw.supply || !s.pw.resetLow then s
    else
      let s := if heldNs < 200000 && !s.fr.afterLoss then dramUndefined s else s
      (s.setPw { s.pw with resetLow := false, faultLow := false, canNode := canId % 128 }).setNow 0)

/-- SUPPLY_LOSS: DRAM loses its contents, and with them the home map (R58). P writes that were not stored are lost
(R515). -/
def execSupplyLoss (s : State) : Res3 :=
  .next (
    if !s.pw.supply then s
    else
      let s := coldPower false (coldState s)
      let s := s.setTi { s.ti with homeA := [], homeB := [], used := [], parity := [], undef := [], written := [] }
      s.setFr { s.fr with afterLoss := true })

/-- Boot holds while shedding lasts, and after a PWR_WARN_N before READY (R569).
DESIGN CHOICE: log entry 71. -/
def bootHolds (s : State) : Bool := s.pw.stage ≠ 0 || s.pw.bootHeld

/-! Boot, step 1 (R540, R547). -/

/-- A BOOT_ID is drawn; it is never 0 (R553, R561). -/
def drawBootId (s : State) : State :=
  let (v, s) := drawEntropy s
  s.setBt { s.bt with bootId := if v % 2 ^ 64 = 0 then 1 else v % 2 ^ 64 }

/-- BOOT_ISLAND_UP: step 1 of boot has ended. The configuration is loaded, MGMT_MODE takes START_MODE (R517), and
AVSBus is first written (R566). -/
def execBootIslandUp (s : State) : Res3 :=
  .next (
    if !s.powered || s.bt.stage ≠ 0 || bootHolds s then s
    else
      let s := drawBootId (loadCfg s)
      let s := s.setOd { s.od with num := s.od.num.set 0x080001 (Par.startMode s) }
      let s := s.setPw { s.pw with avsRequest := 750 }
      s.setBt { s.bt with stage := 1 })

/-! The firmware image (R545, R546). -/

def allZero (l : List Byte) : Bool := l.all (· = 0)

/-- IMAGE_VERSION, SVN, KEY_INDEX and BODY_DIGEST of an image. -/
def imgInfo (img : List Byte) : ImgInfo :=
  { version := leField img 8 4, svn := leField img 12 1, keyIndex := leField img 7 1, bodyDigest := slice img 32 48 }

/-- Checks 0x01 to 0x07 of an image, in order; the reason of the first that fails (R546). -/
def fwCheck (s : State) (img : List Byte) : Option Nat :=
  let info := imgInfo img
  let bodyLen := leField img 16 4
  let header := leField img 0 4 = 0x31464858 && leField img 4 2 = 1 && 512 ≤ img.length && allZero (slice img 13 3) &&
    allZero (slice img 20 12) && allZero (slice img 177 15) && allZero (slice img 288 224)
  if !header then some 1
  else if leField img 6 1 ≠ 0xA2 then some 2
  else if bodyLen % 4096 ≠ 0 || bodyLen < 4096 || 0x2000000 - 4096 < bodyLen || img.length ≠ 512 + bodyLen then some 3
  else if 4 ≤ info.keyIndex || bitOf s.bt.revoked info.keyIndex ||
      s.bt.rootDigests.get? info.keyIndex ≠ some (sha384 (slice img 80 97)) then some 4
  else if !ecdsaVerify (slice img 80 97) (slice img 0 192) (slice img 192 96) then some 5
  else if sha384 (img.drop 512) ≠ info.bodyDigest then some 6
  else if info.svn < s.bt.svnFused || 63 < info.svn then some 7
  else none

/-- IMAGE_LOADED: the ROM has checked the image of the NOR: it runs, or the device enters recovery mode (R540 step 2,
R546, R550). Fabric ports start to train (R540 step 4). DEDUCED: log entry 31. -/
def execImageLoaded (s : State) : Res3 :=
  .next (
    if !s.powered || s.bt.stage ≠ 1 || bootHolds s then s
    else match fwCheck s s.bt.nor with
      | some reason => raise 0x1A1 0 reason 0 (s.setBt { s.bt with stage := 5 })
      | none => startPorts (s.setBt { s.bt with stage := 2, running := some (imgInfo s.bt.nor) }))

/-- RECOVERY_STACK_TRAINED: in recovery mode, stack 0, or else stack 4, holds the staging buffer (R550). -/
def execRecoveryStackTrained (stack0Ok stack4Ok : Bool) (s : State) : Res3 :=
  .next (
    if !s.powered || s.bt.stage ≠ 5 || s.bt.recoveryStack.isSome || bootHolds s then s
    else if stack0Ok then s.setBt { s.bt with recoveryStack := some 0 }
    else if stack4Ok then s.setBt { s.bt with recoveryStack := some 4 }
    else s.setBt { s.bt with stage := 6 })

/-! Training and mount (R54, R58, R95, R96, R543). -/

/-- DRAM_TRAINED: modules that failed training are lost. Without stack 0 or 4 the device is FAILED and leaves service;
otherwise mount starts (R54, R543). -/
def execDramTrained (failedStacks failedDimms : List Nat) (s : State) : Res3 :=
  .next (
    if !s.powered || s.bt.stage ≠ 2 || bootHolds s then s
    else
      let lostHbm := failedStacks.filter (· < 8)
      let dimms := failedDimms.filter fun d => d < 16 && 0 < s.board.dimmSlots.getD d 0
      let s := (lostHbm ++ dimms.map (· + 0x10)).foldl (fun s m => loseModule m s) (s.setPw { s.pw with dramSelfRefresh := false })
      if lostHbm.contains 0 || lostHbm.contains 4 then
        raise 0x1F3 0 3 0 ((s.setBt { s.bt with stage := 6 }).setRc { s.rc with deviceState := 2, oosReason := 3, quiesceOrdered := true })
      else (s.setBt { s.bt with stage := 3 }).setFr { s.fr with mounting := true })

/-- The homes that Frost has committed: the checkpoint with the journal applied (R58).
DEDUCED: log entry 30. -/
def committedHomes (s : State) : FMap HomeEntry :=
  s.fr.journal.foldl (fun m r => match r with
    | .home p e => m.set p e
    | _ => m) ((s.fr.checkpoint.map Checkpoint.homes).getD [])

/-- The key owners that Frost has committed (R88). -/
def committedOwners (s : State) : FMap Nat :=
  s.fr.journal.foldl (fun m r => match r with
    | .owner p (some t) => m.set p t
    | .owner p none => m.erase p
    | _ => m) ((s.fr.checkpoint.map Checkpoint.owners).getD [])

/-- The home map rebuilt from the journal after a loss of supply: a page whose last committed home is flash keeps its
contents; another page that has a key owner comes back with LOST set; any other page is absent (R58).
DEDUCED: log entry 30. -/
def rebuildHomes (s : State) : State :=
  let homes := (committedHomes s).keep fun _ e => e.tier = 3
  let owners := committedOwners s
  let lost : FMap HomeEntry := owners.foldl (fun m kv =>
    if homes.has kv.1 then m
    else
      let e : HomeEntry := { prot := Par.defaultProtection s, lost := true }
      m.set kv.1 e) []
  let all := homes.foldl (fun m kv => m.set kv.1 { kv.2 with state := 0, moveSlot := 0 }) lost
  let used := homes.foldl (fun (n : NSet) kv => n.add (slotKey 3 kv.2.slot)) []
  let flash := fun (p : Nat) => homes.has p
  let s := s.setMem (s.mem.filter fun c => flash (c.1 / 0x200000))
  let s := s.setTi { s.ti with
    homeA := all, homeB := all, used := used, refs := [], parity := []
    poison := s.ti.poison.keep fun l _ => flash (l / 0x8000)
    cleared := s.ti.cleared.keep fun l _ => flash (l / 0x8000)
    poisonPages := s.ti.poisonPages.keep fun p _ => flash p }
  s.setFr { s.fr with
    owner := owners
    pageGroup := s.fr.pageGroup.keep fun p _ => flash p
    loc := s.fr.loc.keep fun u _ => flash (unitPage u) }

/-- Pages with a write intent come back with LOST set after an UNCLEAN end; their count is raised (R95). -/
def markLost (s : State) : State :=
  let pages := (s.fr.intents.map Prod.fst).filter fun p => (entryOf s p).tier = 3
  let s := pages.foldl (fun s p => setEntry p { entryOf s p with lost := true } s) s
  raise 0x116 0 pages.length 0 s

/-- The state of a group at mount, from its remaining spare blocks (R83). -/
def mountedGroup (s : State) (g : Group) : Group :=
  let zero := g.spares = 0
  let stop := 100 * g.spares < Par.spareStopPct s * g.spares0
  { g with
    state := if zero then 2 else if stop then 1 else 0
    readOnly := zero, stopped := stop, warned := 100 * g.spares < Par.spareWarnPct s * g.spares0 }

/-- The parity groups at mount: a first mount counts their spare blocks (R83, R95).
DESIGN CHOICE: log entry 32. -/
def mountGroups (first : Bool) (s : State) : State :=
  let start := fun (k : Nat) (g : Group) =>
    let n := s.board.spareBlocks.getD k 0
    if first then { g with spares := n, spares0 := n } else g
  s.setFr { s.fr with groups := s.fr.groups.mapVal fun k g => mountedGroup s (start k g), lostChannels := [] }

/-- Dies in service on a channel. -/
def diesIn (s : State) (missing : List (Nat × Nat)) (channels : List Nat) (c : Nat) : Nat :=
  if channels.contains c then 0
  else ((List.range (s.board.dies.getD c 0)).filter fun d => !missing.contains (c, d) && !(getDie s (dieKey c d)).lost).length

/-- RANGE_PAGES and the slots of each tier at the end of mount (R27, R34, R68, R96, R577). -/
def mountSizes (missing : List (Nat × Nat)) (channels : List Nat) (s : State) : State :=
  let dies := (List.range 48).foldl (fun n c => n + diesIn s missing channels c) 0
  let raw := dies * s.board.dieBytes
  let dimm := (s.board.dimmBytes.map Prod.snd).sum
  let s := s.setFr { s.fr with diesMounted := dies, reserve := Par.reservePct s, slcBlocks := Par.slcBlocksPerDie s }
  s.setTi { s.ti with
    rangePages := (8 * s.board.stackBytes + dimm + raw) / 0x200000
    hbmSlots := (s.board.stackSlots.map Prod.snd).sum
    ddrSlots := (s.board.dimmSlots.map Prod.snd).sum
    flashSlots := raw * 15 * (100 - s.fr.reserve) / (16 * 100 * 0x200000) }

/-- MOUNT_DONE: Frost has mounted. LAST_MOUNT follows the previous end; after a loss of supply the home map is rebuilt;
dies and channels found missing are lost (R58, R95, R96). Drumbeat's tasks count from here (R461).
DESIGN CHOICE: log entry 32. -/
def execMountDone (missingDies : List (Nat × Nat)) (missingChannels : List Nat) (s : State) : Res3 :=
  .next (
    if !s.powered || s.bt.stage ≠ 3 || !s.fr.mounting || bootHolds s then s
    else
      let first := !s.fr.present
      let kind := if first || s.fr.closeRecord then 0 else if s.fr.commitRecord then 1 else 2
      let chans := missingChannels.filter fun c => c < 48 && 0 < s.board.dies.getD c 0
      let dies := missingDies.filter fun d => d.2 < s.board.dies.getD d.1 0 && !chans.contains d.1
      let s := if s.fr.afterLoss then rebuildHomes s else s
      let s := mountSizes dies chans (mountGroups first s)
      let s := if kind = 2 then markLost s else s
      let s := s.setFr { s.fr with
        lastMount := kind, intents := [], commitRecord := false, closeRecord := false, closed := false
        mounting := false, afterLoss := false }
      let s := writeCheckpoint (s.setBt { s.bt with mounted := true })
      let s := dies.foldl (fun s d => loseDie d.1 d.2 s) s
      let s := chans.foldl (fun s c => loseChannel c s) s
      (List.range 5).foldl (fun s t => setDrum t { t0 := s.now } s) s)

/-- BOOT_READY: tenants, grants, windows and service descriptors are restored, and the device is in READY (R540 step 6).
A sliver without a home takes the device out of service (R125). Registration follows (R559). -/
def execBootReady (s : State) : Res3 :=
  .next (
    if !s.powered || s.bt.stage ≠ 3 || !s.bt.mounted || bootHolds s then s
    else
      let s := buildMap s
      let s := s.setBt { s.bt with stage := 4, regOwed := true, regWarm := false }
      beginRegistration (checkHomes s))

/-! Registration (R559, R560). -/

/-- The registration datagram (R560). DESIGN CHOICE: log entry 37. -/
def regDatagram (s : State) : List Byte :=
  let img := s.bt.running.getD {}
  leBytes 8 (1 + 2 ^ 16 * b2n (s.rc.deviceState = 1) + 2 ^ 17 * b2n s.bt.regWarm + 2 ^ 32 * s.bt.regAttempt) ++
    leBytes 8 s.bt.bootId ++ fitTo s.bt.serial 16 0 ++
    leBytes 8 (img.version + 2 ^ 32 * (img.svn % 64) + 2 ^ 40 * s.fr.lastMount) ++
    leBytes 8 (s.ti.rangePages + 2 ^ 32 * activeTabors s) ++ leBytes 8 (s.board.macs.getD 0 0) ++ leBytes 8 0

/-- The wait after an attempt, in ns: min(2^(k−1), 32) s before attempt k, lengthened by 0 to 25 % (R559). -/
def regBackoff (k draw : Nat) : Nat :=
  let base := 1000000000 * min (2 ^ min (k - 1) 5) 32
  base + draw % (base / 4 + 1)

/-- REGISTRATION_ATTEMPT: a datagram goes to every address of MGMT_PEERS by the lowest sub-port in SECURE; with no
address registration stops until one is written (R559). DESIGN CHOICE: log entry 37. -/
def execRegistrationAttempt (s : State) : Res3 :=
  .next (
    if !s.alive || s.bt.stage ≠ 4 || s.rc.warmStep ≠ 0 || (s.bt.regState ≠ 1 && s.bt.regState ≠ 2) then s
    else
      let s := s.reach s.bt.regDue
      let peers := mgmtPeers s
      if peers.isEmpty then s.setBt { s.bt with regState := 0, regWaits := true }
      else
        let d := regDatagram s
        let s := match (s.fa.subs.first? fun _ p => p.state = 3).map Prod.fst with
          | some n => s.setFa { s.fa with
              mgmt := s.fa.mgmt.set n (s.fa.mgmt.getD n [] ++ peers.map fun a => FrameOut.mgmt a (Par.regUdpPort s) d) }
          | none => s
        let k := s.bt.regAttempt + 1
        let (f, s) := drawEntropy s
        s.setBt { s.bt with regState := 2, regAttempt := k, regDue := s.now + regBackoff k f })

end Sys2Proof.Machine
end

