-- ==== Sys2Proof/Machine/Attest.lean ====
section
/-!
DEFINITION. SPDM over the ports' DOE (R556, R557). Request and response codes and error codes are those of DMTF
DSP0274, which the spec names; a response is given by its code and its contents in the order of that standard's
fields.
-/

namespace Sys2Proof.Machine

/-- The device answers SPDM on a port: its physical function is there, and Carillon runs. -/
def spdmUp (s : State) (port : Nat) : Bool := mmioUp s port && s.rc.warmStep = 0

/-- An ERROR response with an error code. -/
def spdmError (port code : Nat) (s : State) : State := emit (.spdm port 0x7F (leBytes 1 code)) s

/-- A request is served while SPDM_ENABLE is 1, and is answered with Unsupported Request otherwise (R556). -/
def spdmServe (port : Nat) (s : State) (k : State → State) : State :=
  if !spdmUp s port then s
  else if Par.spdmEnable s = 0 then spdmError port 0x07 s
  else k s

/-- A request that needs the algorithms agreed, under the version agreed. -/
def spdmAgreed (port ver : Nat) (s : State) (k : State → State) : State :=
  spdmServe port s fun s =>
    match s.bt.spdm.get? port with
    | none => spdmError port 0x04 s
    | some v => if v = ver then k s else spdmError port 0x41 s

/-- DEBUG_STATE (R558). -/
def debugState (s : State) : Nat := b2n s.bt.debugUnlocked

/-- BODY_DIGEST and SVN of the running image. -/
def aliasSeed (s : State) : List Byte × Nat :=
  let img := s.bt.running.getD {}
  (img.bodyDigest, img.svn)

/-- The chain of slot 0: the identity region, and the alias certificate of this boot (R552, R556). -/
def slot0Chain (s : State) : List Byte :=
  let (d, v) := aliasSeed s
  s.bt.certChain ++ Config.aliasCert d v (debugState s)

/-- A signature by the alias key, which BODY_DIGEST, SVN and DEBUG_STATE determine (R552). -/
def aliasSign (s : State) (bytes : List Byte) : List Byte :=
  let (d, v) := aliasSeed s
  Config.ecdsaSign (leNat (d ++ leBytes 1 v ++ leBytes 1 (debugState s))) bytes

/-- The measurement blocks, by index (R557). Blocks 2 and 3 measure the running image.
DESIGN CHOICE: log entry 18. -/
def measurements (s : State) : FMap (List Byte) :=
  let image : FMap (List Byte) := match s.bt.running with
    | some img => [(2, img.bodyDigest), (3, leBytes 4 img.version ++ leBytes 1 img.svn ++ leBytes 1 s.bt.svnFused)]
    | none => []
  let cfg : FMap (List Byte) := match newestCfg s with
    | some c => [(6, Config.cfgDigest (c.nums.keep fun k _ => k / 256 ≠ 0x9000) (c.octs.keep fun k _ => k / 256 ≠ 0x9000))]
    | none => []
  [(1, Config.romDigest)] ++ image ++ [(4, sha384 (leBytes 1 s.bt.revoked)), (5, leBytes 1 (debugState s))] ++ cfg

/-- GET_VERSION: versions 1.2 and 1.3; what was agreed before is void (R556).
PRESUMED: log entry 17. -/
def execGetVersion (port : Nat) (s : State) : Res3 :=
  .next (spdmServe port s fun s =>
    emit (.spdm port 0x04 [0x12, 0x13]) (s.setBt { s.bt with spdm := s.bt.spdm.erase port }))

/-- GET_CAPABILITIES: certificates, challenges and signed measurements (R556).
PRESUMED: log entry 17. -/
def execGetCapabilities (port ver : Nat) (s : State) : Res3 :=
  .next (spdmServe port s fun s =>
    if ver = 0x12 || ver = 0x13 then emit (.spdm port 0x61 (leBytes 1 ver ++ leBytes 4 0x16)) s else spdmError port 0x41 s)

/-- NEGOTIATE_ALGORITHMS: ECDSA P-384 and SHA-384 only (R556). PRESUMED: log entry 17. -/
def execNegotiateAlgorithms (port ver asym hash : Nat) (s : State) : Res3 :=
  .next (spdmServe port s fun s =>
    if ver ≠ 0x12 && ver ≠ 0x13 then spdmError port 0x41 s
    else if bitOf asym 7 && bitOf hash 1 then
      emit (.spdm port 0x63 (leBytes 4 0x80 ++ leBytes 4 0x02)) (s.setBt { s.bt with spdm := s.bt.spdm.set port ver })
    else spdmError port 0x01 s)

/-- GET_DIGESTS: slot 0 (R556). -/
def execGetDigests (port ver : Nat) (s : State) : Res3 :=
  .next (spdmAgreed port ver s fun s => emit (.spdm port 0x01 (leBytes 1 1 ++ sha384 (slot0Chain s))) s)

/-- GET_CERTIFICATE: a portion of the chain of slot 0, and the bytes that remain (R556). -/
def execGetCertificate (port ver slot offset len : Nat) (s : State) : Res3 :=
  .next (spdmAgreed port ver s fun s =>
    let chain := slot0Chain s
    if slot ≠ 0 || chain.length ≤ offset then spdmError port 0x01 s
    else
      let part := slice chain offset len
      emit (.spdm port 0x02 (leBytes 1 0 ++ leBytes 2 part.length ++ leBytes 2 (chain.length - offset - part.length) ++ part)) s)

/-- CHALLENGE: signed by the alias key (R552, R556). -/
def execChallenge (port ver slot nonce : Nat) (s : State) : Res3 :=
  .next (spdmAgreed port ver s fun s =>
    if slot ≠ 0 then spdmError port 0x01 s
    else
      let (d, s) := drawEntropy s
      let body := leBytes 1 0 ++ leBytes 1 1 ++ sha384 (slot0Chain s) ++ leBytes 32 d
      emit (.spdm port 0x03 (body ++ aliasSign s (leBytes 32 nonce ++ body))) s)

/-- GET_MEASUREMENTS: how many blocks there are, one block, or all of them, signed (R556, R557). -/
def execGetMeasurements (port ver index nonce : Nat) (s : State) : Res3 :=
  .next (spdmAgreed port ver s fun s =>
    let blocks := measurements s
    let chosen := if index = 0xFF then some blocks else if index = 0 then some [] else (blocks.get? index).map fun b => [(index, b)]
    match chosen with
    | none => spdmError port 0x01 s
    | some l =>
      let (d, s) := drawEntropy s
      let recs := l.flatMap fun kv => leBytes 1 kv.1 ++ leBytes 2 kv.2.length ++ kv.2
      let count := if index = 0 then blocks.length else l.length
      let body := leBytes 1 count ++ leBytes 3 recs.length ++ recs ++ leBytes 32 d
      emit (.spdm port 0x60 (body ++ aliasSign s (leBytes 32 nonce ++ body))) s)

end Sys2Proof.Machine
end

