-- ==== Sys2Proof/Machine/Dictionary.lean ====
section
/-!
DEFINITION. The values of the objects of the dictionary (R511–R516, R522, and the object tables of every chapter).
-/

namespace Sys2Proof.Machine

/-! Areas and rows (R511, R516, R550). -/

/-- The first index of each area of R516, in table order. -/
def areaFirsts : List Nat :=
  [0x0800, 0x1000, 0x1800, 0x2000, 0x3000, 0x3400, 0x3800, 0x3C00, 0x4000, 0x4400, 0x4800,
   0x5000, 0x5400, 0x5800, 0x6000, 0x6400, 0x6800, 0x6C00, 0x7000, 0x7400, 0x7800, 0x9000]

/-- The place of an index's area in that table. -/
def areaOf (index : Nat) : Nat := (areaFirsts.filter (· ≤ index)).length - 1

/-- Recovery mode, also after its stacks have failed: the device runs only its ROM (R550). -/
def inRecovery (s : State) : Bool := (s.bt.stage = 5 || s.bt.stage = 6) && s.bt.running.isNone

/-- MGMT_MODE reads STANDBY (R517, R550). -/
def mgmtStandby (s : State) : Bool := inRecovery s || standby s

/-- The object that a request names, or the status that refuses it (R511, R513, R521). In recovery mode only areas
0x1000 and 0x9000 and MGMT_MODE exist (R550). -/
def odLook (s : State) (index sub : Nat) (ten : Bool) : Except Nat OdRow :=
  let area := areaFirsts.getD (areaOf index) 0
  if inRecovery s && area ≠ 0x1000 && area ≠ 0x9000 && index ≠ 0x0800 then .error 0x01
  else if inRecovery s && index = 0x0800 && sub ≠ 1 then .error 0x02
  else if !odHasIndex index then .error 0x01
  else match odRow index sub with
    | none => .error 0x02
    | some r => if (r.access = 4) == ten then .ok r else .error 0x03

/-! Records as bytes. -/

/-- A fault record (R476). -/
def faultBytes (r : FaultRec) : List Byte :=
  leBytes 8 (r.cause + 2 ^ 8 * r.domain + 2 ^ 12 * r.action + 2 ^ 15 * r.handler + 2 ^ 16 * (r.index % 65536) + 2 ^ 32 * (r.seq % 2 ^ 32)) ++
    leBytes 8 r.detected ++ leBytes 8 r.ended ++ leBytes 8 (r.detail % 2 ^ 56)

/-- Word 0 of a fault record, which RESET_DONE carries (R491). -/
def faultWord0 (r : FaultRec) : Nat := leNat ((faultBytes r).take 8)

/-- A queue of fault records: 64 places. -/
def queueBytes (l : List FaultRec) : List Byte := fitTo (l.flatMap faultBytes) 2048 0

/-- A Sliver Map entry (R122). -/
def sliverBytes (e : SliverEnt) : List Byte := leBytes 2 (e.kit % 64 + 2 ^ 6 * e.pos + 2 ^ 13 * b2n e.adopted)

/-- Bits of a set, as bytes. -/
def setBytes (n : Nat) (l : NSet) : List Byte :=
  (List.range n).map fun i => BitVec.ofNat 8 (((List.range 8).map fun b => b2n (l.mem (8 * i + b)) * 2 ^ b).sum)

/-- A shaper entry (R451). -/
def shaperBytes (e : Nat × Nat × Nat) : List Byte := leBytes 4 e.1 ++ leBytes 4 e.2.1 ++ leBytes 8 e.2.2

/-- An entry of TENANT_TABLE; all zero for a FREE tenant (R301). DEDUCED: log entry 39. -/
def tenantBytes (s : State) (t : Nat) : List Byte :=
  match s.tr.tenants.get? t with
  | none => leBytes 8 0
  | some x => leBytes 8 (x.state + 2 ^ 2 * x.cls + 2 ^ 8 * t + 2 ^ 32 * x.quota)

/-- What NEIGHBOUR holds of a sub-port (R234). -/
def neighbourBytes (s : State) (sub : Nat) : List Byte :=
  match (getSub s sub).neighbour with
  | none => List.replicate 32 0
  | some n =>
    let (node, comp, gen) := match n.maeleth with
      | some (a, b, c, _, _) => (a, b, c)
      | none => (0, 0, 0)
    leBytes 6 n.mac ++ leBytes 8 n.portName ++ leBytes 2 node ++ leBytes 2 comp ++ leBytes 2 gen ++ List.replicate 12 0

/-- The number by which LOCK_STATE names a holder (R538). -/
def lockCode (w : Session) : Nat :=
  match w with
  | .can => 1
  | .mailbox 0 => 2
  | .mailbox _ => 3
  | .vlan _ => 4
  | .script => 0

/-- The holder of an area's lock, or of the lock of every area, which has place 22 (R528). -/
def lockHolder (s : State) (area : Nat) : Option Session :=
  (s.od.locks.get? area <|> s.od.locks.get? 22).map LockRec.who

def lockStateBytes (s : State) : List Byte :=
  (List.range 22).flatMap fun a => leBytes 1 ((lockHolder s a).elim 0 lockCode)

/-! Values. -/

/-- The default of an object of type OCTETS or STR32 that is not all zero. -/
def octDefault (r : OdRow) : List Byte :=
  match r.index * 256 + r.sub with
  | 0x40000C => (List.range 8).map fun i => BitVec.ofNat 8 (8 * i)
  | 0x740001 => List.replicate 1024 4
  | 0x742003 => [8, 16, 32, 32, 64, 64]
  | 0x100001 => fitTo ("MSX-XH4-1100".toList.map fun c => BitVec.ofNat 8 c.toNat) 32 0
  | _ => List.replicate r.len 0

/-- DOMAIN_STATE (R206): DEGRADED once a peer is lost. -/
def domainState (s : State) : Nat := if s.ch.domState = 2 && !s.ch.lostPeers.isEmpty then 3 else s.ch.domState

/-- Member node ids by domain index, 0xFFFF for none or lost (R206). -/
def memberBytes (s : State) : List Byte :=
  (List.range 8).flatMap fun i =>
    leBytes 2 (if s.ch.lostPeers.contains (s.ch.members.getD i 0xFFFF) then 0xFFFF else s.ch.members.getD i 0xFFFF)

/-- Numbers that report state: the value of an object that nothing stores. -/
def odNumber (s : State) (r : OdRow) (n tenant : Nat) : Option Nat :=
  match r.index * 256 + r.sub with
  | 0x300001 => some s.ti.rangePages
  | 0x300002 => some s.ti.hbmSlots
  | 0x300003 => some s.ti.ddrSlots
  | 0x300012 => some (b2n s.ti.drained)
  | 0x340001 => some s.ti.flashSlots
  | 0x340002 => some s.fr.diesMounted
  | 0x34000D => some (groupState s 0)
  | 0x34000E => some (groupState s 1)
  | 0x34000F => some (groupState s 2)
  | 0x340010 => some s.fr.lastMount
  | 0x380001 => some (activeTabors s)
  | 0x380002 => some (s.co.map.count fun _ e => e.adopted)
  | 0x3C0004 => some (s.od.lastVerify.getD tenant 0)
  | 0x480001 => some (domainState s)
  | 0x480002 => some s.ch.domIndex
  | 0x400001 => some s.fa.nodeId
  | 0x400002 => some s.fa.composition
  | 0x400003 => some s.fa.generation
  | 0x402005 => some ((getSub s (2 * n)).state + 16 * (getSub s (2 * n + 1)).state)
  | 0x402006 => some ((getSub s (2 * n)).width + 16 * (getSub s (2 * n + 1)).width)
  | 0x540001 => some (s.tr.tenants.count fun _ t => t.state = 1)
  | 0x580001 => some (b2n (getPort s 0).up)
  | 0x580002 => some (b2n (getPort s 1).up)
  | 0x600001 => some (s.sv.rounds.count fun _ x => !x.finished)
  | 0x640003 => some s.sv.tables.length
  | 0x680003 => some s.sv.indexes.length
  | 0x6C0003 => some s.sv.stores.length
  | 0x700001 => some (64 - s.co.chimeLost.length)
  | 0x180002 => some s.rc.newest
  | 0x180003 => some (b2n s.rc.overrun)
  | 0x780001 => some s.rc.deviceState
  | 0x780002 => some (if s.rc.deviceState = 0 then 0 else s.rc.oosReason)
  | 0x78000C => some (s.rc.tocsinA + 4 * s.rc.tocsinB)
  | 0x200008 => some (s.pw.stage + 16 * s.pw.trigger)
  | 0x200009 => some s.now
  | 0x080001 => some (b2n (!mgmtStandby s))
  | 0x080003 => some (b2n s.bt.cfgPendingSince.isSome)
  | 0x080009 => some s.pw.canNode
  | 0x080010 => some (b2n s.od.triggerLost)
  | 0x081005 => some (s.od.lastStatus.getD n 0)
  | 0x081006 => some (s.od.verifyResult.getD n 0)
  | 0x100004 => some s.bt.romVersion
  | 0x100005 => some ((s.bt.running.map ImgInfo.version).getD 0)
  | 0x100006 => some ((s.bt.running.map ImgInfo.svn).getD 0)
  | 0x100007 => some s.bt.svnFused
  | 0x100008 => some s.bt.stage
  | 0x100009 => some s.bt.bootId
  | 0x10000B => some s.bt.fwState
  | 0x100011 => some s.bt.regState
  | 0x900003 => some s.bt.revoked
  | 0x900008 => some (debugState s)
  | 0x90000B => some s.tr.tenants.length
  | _ => none

/-- Byte strings that report state. -/
def odOctets (s : State) (r : OdRow) (n : Nat) : Option (List Byte) :=
  match r.index * 256 + r.sub with
  | 0x380003 => some ((List.range 4096).flatMap fun sl => sliverBytes (sliverEnt s sl))
  | 0x380004 => some (setBytes 544 s.co.fenced)
  | 0x480003 => some (memberBytes s)
  | 0x402007 => some (neighbourBytes s (2 * n) ++ neighbourBytes s (2 * n + 1))
  | 0x402009 => some (leBytes 6 (s.board.macs.getD (2 * n) 0) ++ leBytes 6 (s.board.macs.getD (2 * n + 1) 0))
  | 0x540002 => some ((List.range 1024).flatMap (tenantBytes s))
  | 0x740002 => some ((List.range 1024).flatMap fun t => shaperBytes (tenantShaper s t))
  | 0x742001 => some ((List.range 8).flatMap fun c => shaperBytes (classShaper s (2 * n) c))
  | 0x180001 => some ((List.range 1024).flatMap fun i => (s.rc.log.get? i).elim (List.replicate 32 0) eventBytes)
  | 0x180004 => some (queueBytes s.rc.queueA)
  | 0x180005 => some (queueBytes s.rc.queueB)
  | 0x180006 => some ((List.range 256).flatMap fun i => (s.rc.history.get? i).elim (List.replicate 32 0) faultBytes)
  | 0x08000D => some (lockStateBytes s)
  | 0x100003 => some (fitTo s.bt.serial 16 0)
  | 0x900001 => some Config.identityKey
  | 0x900002 => some s.bt.certChain
  | 0x900007 => some ((List.range 2).flatMap fun k => leBytes 2 ((s.bt.fabricKeys.get? k).elim 0 Prod.fst))
  | _ => none

/-- The value of an object as bytes (R512). -/
def odValue (s : State) (r : OdRow) (index tenant : Nat) : List Byte :=
  let n := index - r.index
  let key := index * 256 + r.sub
  if r.typ = 9 || r.typ = 10 then
    match odOctets s r n with
    | some b => b
    | none => s.od.oct.getD key (octDefault r)
  else
    leBytes r.len (match odNumber s r n tenant with
      | some v => v
      | none => s.od.num.getD key r.dflt)

/-- The data of a DESCRIBE response (R522). -/
def describeBytes (r : OdRow) : List Byte :=
  leBytes 1 r.typ ++ leBytes 1 r.access ++ leBytes 1 (b2n r.persistent) ++ [0] ++ leBytes 4 r.lenMax ++
    if r.typ = 9 || r.typ = 10 || r.typ = 11 || r.unset then List.replicate 24 0
    else leBytes 8 r.lo ++ leBytes 8 r.hi ++ leBytes 8 r.dflt

end Sys2Proof.Machine
end

