-- ==== Sys2Proof/Machine/Settings.lean ====
section
/-!
DEFINITION. What an accepted write does to each object that has a behaviour of its own, and when its owning chapter
refuses it. Each answers a status of R521, which is 0 for an accepted write, and the state after it.
-/

namespace Sys2Proof.Machine

/-- RANGE, STATE, BUSY and VERIFY of R521. -/
def odRange : Nat := 0x04
def odState : Nat := 0x06
def odBusy : Nat := 0x08
def odVerify : Nat := 0x0D

/-- A write that its chapter accepts while a condition holds. -/
def acceptIf (ok : Bool) (status : Nat) (s t : State) : Nat × State := if ok then (0, t) else (status, s)

/-! Values that are stored (R514, R515). -/

/-- A P write has been accepted and is to be stored. -/
def noteSave (s : State) : State := s.setBt { s.bt with cfgPendingSince := s.bt.cfgPendingSince <|> some s.now }

/-- A number takes a value. -/
def storeNum (r : OdRow) (key v : Nat) (s : State) : State :=
  let s := s.setOd { s.od with num := s.od.num.set key v }
  if r.persistent then
    noteSave (s.setBt { s.bt with accepted := { s.bt.accepted with nums := s.bt.accepted.nums.set key v } })
  else s

/-- A byte string takes a value. -/
def storeOct (r : OdRow) (key : Nat) (b : List Byte) (s : State) : State :=
  let s := s.setOd { s.od with oct := s.od.oct.set key b }
  if r.persistent then
    noteSave (s.setBt { s.bt with accepted := { s.bt.accepted with octs := s.bt.accepted.octs.set key b } })
  else s

/-- The value of a stored number. -/
def numOf (s : State) (index sub : Nat) : Nat :=
  s.od.num.getD (index * 256 + sub) ((odRow index sub).elim 0 OdRow.dflt)

/-! Tiers and Frost. -/

/-- DRAINED: a write of 0 restores placement, and a write of 1 is refused (R61). -/
def writeDrained (v : Nat) (s : State) : Nat × State :=
  acceptIf (v = 0) odRange s (s.setTi { s.ti with drained := false })

/-- FLASH_SLOTS under a reserve, with the dies mounted (R68). -/
def slotsUnder (s : State) (pct : Nat) : Nat := s.fr.diesMounted * s.board.dieBytes * 15 * (100 - pct) / (16 * 100 * 0x200000)

/-- RESERVE_PCT is refused where the pages homed in flash would exceed the new FLASH_SLOTS (R69). -/
def writeReservePct (r : OdRow) (v : Nat) (s : State) : Nat × State :=
  acceptIf (s.fr.pageGroup.length ≤ slotsUnder s v) odRange s (storeNum r 0x340003 v s)

/-- A tabor's slice after its dirty lines of this chip have been written back: M becomes E, and O becomes S.
DEDUCED: log entry 35. -/
def cleanSlice (s : State) (l : FMap SliceLine) : FMap SliceLine :=
  l.mapVal fun k x =>
    if k / 2 ^ 44 ≠ s.ch.domIndex then x
    else if x.state = .m then { x with state := .e } else if x.state = .o then { x with state := .s } else x

/-- A line whose owner held it in O is shared once it has been written back. DEDUCED: log entry 35. -/
def cleanEntry (e : DirEntry) : DirEntry :=
  match e.state, e.owner with
  | .ow, some a => { e with state := .sh, owner := none, sharers := if e.sharers.contains a then e.sharers else e.sharers ++ [a] }
  | _, _ => e

/-- Belfry writes back every dirty line (R93, step 1). -/
def writeBackAll (s : State) : State :=
  let mine := fun (e : DirEntry) => e.owner.any fun a => a / 8192 = s.ch.domIndex
  let s := flushLines s
  s.setCh { s.ch with
    slices := s.ch.slices.mapVal fun _ l => cleanSlice s l
    dir := s.ch.dir.mapVal fun _ e => if mine e then cleanEntry e else e }

/-- CLOSE: an orderly close begins, in STANDBY only (R93). DEDUCED: log entry 35. -/
def writeClose (v : Nat) (s : State) : Nat × State :=
  if !mgmtStandby s then (odState, s)
  else if v = 0 || s.fr.closed || s.fr.closing || !s.bt.mounted then (0, s)
  else
    let s := writeBackAll s
    (0, s.setFr { s.fr with closing := true })

/-! Tabors and programs. -/

/-- FENCE_TABOR fences a tabor; one that is out of use already stays so (R124).
DESIGN CHOICE: log entry 76. -/
def writeFenceTabor (v : Nat) (s : State) : Nat × State :=
  if 4352 ≤ v then (odRange, s)
  else if s.co.fused.mem v || s.co.fenced.mem v || s.co.fences.has v then (0, s)
  else (0, fault 0x11 1 v 0 [] s)

/-- FENCE_CLEAR empties FENCED_MAP at the next cold reset, in STANDBY only (R129). -/
def writeFenceClear (v : Nat) (s : State) : Nat × State :=
  if !mgmtStandby s then (odState, s) else (0, if v = 0 then s else s.setCo { s.co with fenceClear := true })

/-- LAST_VERIFY of a tenant is cleared by a write of 0 (R160). -/
def writeLastVerify (tenant v : Nat) (s : State) : Nat × State :=
  acceptIf (v = 0) odRange s (s.setOd { s.od with lastVerify := s.od.lastVerify.erase tenant })

/-- GALE_PROGRAMS at 0 removes every attachment (R160). DEDUCED: log entry 41. -/
def writeGalePrograms (r : OdRow) (v : Nat) (s : State) : Nat × State :=
  let s := storeNum r 0x3C0006 v s
  (0, if v = 0 then purgeImages (s.setCo { s.co with attach := [] }) else s)

/-! Fabric. -/

/-- Every sub-port that a port has, or had before its split changed, trains anew, or is down (R210, R213).
DEDUCED: log entry 34. -/
def restartPort (p : Nat) (s : State) : State :=
  let on := Par.portEnable s p ≠ 0
  [2 * p, 2 * p + 1].foldl (fun s n =>
    if subExists s n then dropLink n on s
    else if (getSub s n).step = 0 && (getSub s n).state = 0 then s
    else dropLink n false s) s

/-- The fabric ports run: the image has been loaded, no warm reset stops them, and the device is not out of service. -/
def portsRun (s : State) : Bool :=
  2 ≤ s.bt.stage && s.bt.stage ≤ 4 && s.rc.warmStep = 0 && s.pw.stage < 4 && s.rc.deviceState ≠ 2

/-- ENABLE of a port starts training, or takes the port DOWN (R213, R234). -/
def writePortEnable (r : OdRow) (n v : Nat) (s : State) : Nat × State :=
  let was := Par.portEnable s n
  let s := storeNum r ((0x4020 + n) * 256 + 1) v s
  (0, if was = v || !portsRun s then s else restartPort n s)

/-- LANE_MODE and SPLIT: the port's sub-ports come up in the new arrangement (R207, R210, R453).
DEDUCED: log entry 34. -/
def writeLanes (r : OdRow) (key n v : Nat) (s : State) : Nat × State :=
  let was := s.od.num.getD key r.dflt
  let s := storeNum r key v s
  (0, if was = v || !portsRun s then s else restartPort n s)

/-- RETRAIN retrains every sub-port of a port (R214). -/
def writeRetrain (n v : Nat) (s : State) : Nat × State :=
  (0, if v = 0 then s else (subsOf s n).foldl (fun s k => retrainSub k s) s)

/-- The entry of the staged Node Route Table with an index, where it is valid (R229). -/
def stagedRoute (b : List Byte) (i : Nat) : Option NrtEnt :=
  let e := slice b (32 * i) 32
  let w3 := leField e 24 8
  if bitOf w3 16 then some { addr := leField e 0 16, ports := leField e 16 8, direct := bitOf w3 17 } else none

/-- The staged Node Route Table keeps R229: every valid entry names its index, with reserved bits zero. -/
def routesOk : Nat → Nat → List Byte → Bool
  | 0, _, _ => true
  | k + 1, i, b =>
    match b with
    | [] => true
    | _ =>
      let w3 := leField b 24 8
      (!bitOf w3 16 || (w3 % 65536 = i && w3 < 2 ^ 18)) && routesOk k (i + 1) (b.drop 32)

/-- The routes of the staged table, by node. -/
def routesFrom : Nat → Nat → List Byte → FMap NrtEnt
  | 0, _, _ => []
  | k + 1, i, b =>
    match b with
    | [] => []
    | _ =>
      match stagedRoute b 0 with
      | some e => (i, e) :: routesFrom k (i + 1) (b.drop 32)
      | none => routesFrom k (i + 1) (b.drop 32)

/-- The bindings of the staged composition table: job and tenant (R230). -/
def stagedJobs (b : List Byte) : List (Nat × Nat) :=
  (List.range (leField b 6 2)).map fun i => let w := leField b (64 + 8 * i) 8; (w % 2 ^ 20, w / 2 ^ 20 % 1024)

/-- The staged composition table keeps R230. -/
def stagedOk (b : List Byte) : Bool :=
  let n := leField b 6 2
  let jobs := stagedJobs b
  64 ≤ b.length && n ≤ 1024 && b.length = 64 + 8 * n && allZero (slice b 24 40) &&
    (List.range n).all (fun i => leField b (64 + 8 * i) 8 < 2 ^ 30) &&
    decide (jobs.map Prod.fst).Nodup && decide (jobs.map Prod.snd).Nodup

/-- `g` is newer than `h` under serial arithmetic with 16-bit numbers (R231). -/
def genNewer (g h : Nat) : Bool := let d := (g + 65536 - h) % 65536; d ≠ 0 && d < 32768

/-- The words that a warm reset left owed go to their windows if the composition is the same, and are dropped
otherwise (R360, R421, R474). -/
def payOwed (comp : Nat) (s : State) : State :=
  let owed := s.sv.owed
  let s := s.setSv { s.sv with owed := [] }
  (owed.filter fun o => o.comp = comp).foldl (fun s o =>
    match flagStore o.node o.tenant o.window o.offset o.word (.reply o.tenant) s with
    | some (_, s) => s
    | none => s) s

/-- The staged tables take effect (R231, R232). DESIGN CHOICE: log entry 36. -/
def applyCommit (b : List Byte) (s : State) : State :=
  let comp := leField b 0 2
  let gen := leField b 2 2
  let old := s.fa.composition
  let restart := comp ≠ old
  let jobs := (stagedJobs b).foldl (fun (m : FMap Nat) x => m.set x.1 x.2) []
  let s := if restart && old ≠ 0 then raise 0x149 0 old 0 s else s
  let s := s.setFa { s.fa with
    composition := comp, generation := gen, nodeId := leField b 4 2, commitAt := s.now
    prevGen := if restart then none else some s.fa.generation
    prevJobs := if restart then [] else s.fa.jobs
    jobs := jobs, nrt := routesFrom 65536 0 s.fa.nrtStage
    domainList := ((List.range 8).map fun i => leField b (8 + 2 * i) 2).filter (· ≠ 0xFFFF) }
  let s := if restart && comp ≠ 0 then raise 0x148 0 comp gen s else s
  let s := s.setBt { s.bt with
    regOwed := false, regState := if s.bt.regState = 3 then 3 else 0, regWaits := false }
  let s := if restart then startForming s else s
  payOwed comp (releaseStale (retryNoPath (rebindPaths (notePeers s))))

/-- COMMIT (R231); in STANDBY it may not install a composition (R518). -/
def writeCommit (v : Nat) (s : State) : Nat × State :=
  let b := s.fa.compStage
  if leField b 2 2 ≠ v || !stagedOk b || !routesOk 65536 0 s.fa.nrtStage ||
      (leField b 0 2 = s.fa.composition && !genNewer v s.fa.generation) then (odRange, s)
  else if mgmtStandby s && leField b 0 2 ≠ 0 then (odState, s)
  else (0, applyCommit b s)

/-! Shapers (R448, R451, R452). -/

/-- The entry and the RESET field of a set object, whose word 0 has `width` bits of number (R451, R464, R465). -/
def shaperArgs (width : Nat) (b : List Byte) : Option (Nat × Bool × (Nat × Nat × Nat)) :=
  let w0 := leField b 0 8
  let slope := leField b 8 4
  let hi := leField b 12 4
  let lo := leField b 16 8
  if w0 % 2 ^ 10 < 2 ^ width && w0 < 2 ^ 11 && slope ≤ 10000 && 66864 ≤ hi && hi ≤ 16777216 && 66864 ≤ lo && lo ≤ 16777216 then
    some (w0 % 2 ^ 10, bitOf w0 10, (slope, hi, lo))
  else none

/-- A sub-port's credit at a change: HI_CREDIT or zero, and zero while it is not in SECURE (R452, R453). -/
def creditAtSet (p : SubPort) (full : Bool) (hi : Nat) : Int := if full && p.state = 3 then hi else 0

/-- TENANT_SHAPER_SET changes a tenant's shaper on every sub-port (R452). -/
def writeTenantShaper (b : List Byte) (s : State) : Nat × State :=
  match shaperArgs 10 b with
  | none => (odRange, s)
  | some (t, full, e) =>
    let s := s.fa.subs.foldl (fun s kv => bringCredits kv.1 t s) s
    let s := s.setFa { s.fa with
      subs := s.fa.subs.mapVal fun _ p => { p with tenantCredit := p.tenantCredit.set t (creditAtSet p full e.2.1) } }
    let s := s.setOd { s.od with tenantShapers := s.od.tenantShapers.set t e }
    (0, noteSave (s.setBt { s.bt with
      accepted := { s.bt.accepted with tenantShapers := s.bt.accepted.tenantShapers.set t e } }))

/-- CLASS_SHAPER_SET changes a class shaper on both sub-ports of its port (R452). -/
def writeClassShaper (port : Nat) (b : List Byte) (s : State) : Nat × State :=
  match shaperArgs 3 b with
  | none => (odRange, s)
  | some (c, full, e) =>
    let k := port * 8 + c
    let s := [2 * port, 2 * port + 1].foldl (fun s n =>
      if s.fa.subs.has n then
        let s := bringCredits n 1024 s
        let p := getSub s n
        setSub n { p with classCredit := p.classCredit.set c (creditAtSet p full e.2.1) } s
      else s) s
    let s := s.setOd { s.od with classShapers := s.od.classShapers.set k e }
    (0, noteSave (s.setBt { s.bt with
      accepted := { s.bt.accepted with classShapers := s.bt.accepted.classShapers.set k e } }))

/-- DWRR_WEIGHTS: a class whose weight changes starts with no deficit (R448). -/
def writeWeights (r : OdRow) (port : Nat) (b : List Byte) (s : State) : Nat × State :=
  if b.any (· = 0) then (odRange, s)
  else
    let old := (List.range 6).map fun c => weightOf s (2 * port) c
    let changed := (List.range 6).filter fun c => old.getD c 0 ≠ (b.getD c 0).toNat
    let s := storeOct r ((0x7420 + port) * 256 + 3) b s
    (0, [2 * port, 2 * port + 1].foldl (fun s n =>
      if s.fa.subs.has n then
        let p := getSub s n
        setSub n { p with deficit := changed.foldl (fun m c => m.erase c) p.deficit } s
      else s) s)

/-! Recovery and the dictionary. -/

/-- EVENT_OVERRUN is cleared by a write of 0 (R493). -/
def writeEventOverrun (v : Nat) (s : State) : Nat × State :=
  acceptIf (v = 0) odRange s (s.setRc { s.rc with overrun := false })

/-- RESET_REQUEST orders a reset of domain 2 to 6 with cause SOFTWARE (R494). -/
def writeResetRequest (v : Nat) (s : State) : Nat × State :=
  let d := v % 16
  let i := v / 65536
  let ok := v / 16 % 4096 = 0 && ((d = 2 && i < 64) || ((d = 3 || d = 4) && i < 32) || ((d = 5 || d = 6) && i = 0))
  acceptIf ok odRange s (fault 0x11 d i 0 [] s)

/-- TAKE_OUT_OF_SERVICE: the transition with reason OPERATOR (R488). -/
def writeTakeOut (v : Nat) (s : State) : Nat × State := (0, if v = 0 then s else leaveService 4 0 s)

/-- MGMT_MODE: STANDBY needs that no tenant and no composition is live, and that no TIER_DRAIN runs (R517). -/
def writeMgmtMode (r : OdRow) (v : Nat) (s : State) : Nat × State :=
  acceptIf (v = 1 || (s.tr.tenants.isEmpty && s.fa.composition = 0 && s.ti.drainItems.isEmpty)) odState s
    (storeNum r 0x080001 v s)

/-- RESTORE_DEFAULTS stores the default of every P object but FENCED_MAP and area 0x9000, in STANDBY only (R538). -/
def writeRestore (v : Nat) (s : State) : Nat × State :=
  if !mgmtStandby s then (odState, s)
  else if v = 0 then (0, s)
  else
    let c := s.bt.accepted
    let keep : CfgCopy := { nums := c.nums.keep fun k _ => 0x900000 ≤ k, octs := c.octs.keep fun k _ => 0x900000 ≤ k }
    (0, noteSave (s.setBt { s.bt with accepted := keep }))

/-- TRIGGER_LOST is cleared by a write of 0 (R538). -/
def writeTriggerLost (v : Nat) (s : State) : Nat × State :=
  acceptIf (v = 0) odRange s (s.setOd { s.od with triggerLost := false })

/-- MGMT_PEERS: registration that found no address resumes when one is written (R559). -/
def writePeers (r : OdRow) (b : List Byte) (s : State) : Nat × State :=
  let s := storeOct r 0x080008 b s
  (0, if s.bt.regWaits && !allZero b then s.setBt { s.bt with regWaits := false, regState := 2, regDue := s.now } else s)

/-! Scripts (R534, R535). -/

/-- A value suits the trigger of a slot (R534). DESIGN CHOICE: log entry 40. -/
def triggerArgOk (kind v : Nat) : Bool :=
  match kind with
  | 0 => v = 0
  | 1 => v < 65536
  | 2 => v < 2 ^ 24
  | _ => 10 ≤ v && v ≤ 3600000

/-- IMAGE is verified before it is stored; the slot's VERIFY_RESULT records a failure (R535). -/
def writeScriptImage (r : OdRow) (n : Nat) (b : List Byte) (s : State) : Nat × State :=
  if Par.scriptEnable s n ≠ 0 then (odState, s)
  else
    let bad := fun (reason index : Nat) =>
      (odVerify, s.setOd { s.od with verifyResult := s.od.verifyResult.set n (reason + 256 * index) })
    if b.isEmpty then (0, storeOct r ((0x0810 + n) * 256 + 1) b s)
    else match verifyImage 0 (Par.fuelMax s) b with
      | .error (reason, index) => bad reason index
      | .ok im => if im.profile ≠ 2 || im.kind ≠ 4 then bad 0x0B 0 else (0, storeOct r ((0x0810 + n) * 256 + 1) b s)

/-- TRIGGER does not change while the slot is enabled (R535). DESIGN CHOICE: log entry 40. -/
def writeTrigger (r : OdRow) (n v : Nat) (s : State) : Nat × State :=
  acceptIf (Par.scriptEnable s n = 0) odState s (storeNum r ((0x0810 + n) * 256 + 2) v s)

/-- TRIGGER_ARG suits the trigger (R534). DESIGN CHOICE: log entry 40. -/
def writeTriggerArg (r : OdRow) (n v : Nat) (s : State) : Nat × State :=
  acceptIf (triggerArgOk (Par.scriptTrigger s n) v) odRange s (storeNum r ((0x0810 + n) * 256 + 3) v s)

/-- ENABLE of a slot; with it a PERIOD trigger starts (R534, R535). -/
def writeScriptEnable (r : OdRow) (n v : Nat) (s : State) : Nat × State :=
  let was := Par.scriptEnable s n
  let arg := Par.scriptTriggerArg s n
  let s := storeNum r ((0x0810 + n) * 256 + 4) v s
  (0, if was = v then s
    else if v = 1 && Par.scriptTrigger s n = 3 && triggerArgOk 3 arg then
      s.setOd { s.od with periodDue := s.od.periodDue.set n (s.now + 1000000 * arg) }
    else s.setOd { s.od with periodDue := s.od.periodDue.erase n })

/-! Identity, firmware and keys. -/

/-- REG_ACK equal to BOOT_ID stops registration (R559). DESIGN CHOICE: log entry 38. -/
def writeRegAck (v : Nat) (s : State) : Nat × State :=
  let runs := s.bt.regOwed || s.bt.regWaits || s.bt.regState = 1 || s.bt.regState = 2
  (0, if v = s.bt.bootId && runs then s.setBt { s.bt with regState := 3, regOwed := false, regWaits := false } else s)

/-- FW_STAGE: checks 0x01 to 0x07; a passing image is STAGED, and a failing one is refused (R548). -/
def writeFwStage (b : List Byte) (s : State) : Nat × State :=
  if s.bt.stage = 6 then (odState, s)
  else if s.bt.fwState = 2 then (odRange, s)
  else match fwCheck s b with
    | some reason => (odRange, raise 0x1A1 0 reason 0 s)
    | none => (0, s.setBt { s.bt with staged := b, fwState := 1 })

/-- FW_COMMIT: programming starts, in STANDBY with an image staged (R549). -/
def writeFwCommit (v : Nat) (s : State) : Nat × State :=
  if !mgmtStandby s || s.bt.fwState ≠ 1 then (odState, s)
  else (0, if v = 0 then s else s.setBt { s.bt with fwState := 2 })

/-- SVN_COMMIT raises SVN_FUSED to the running image's SVN, in STANDBY only (R551). -/
def writeSvnCommit (v : Nat) (s : State) : Nat × State :=
  if !mgmtStandby s then (odState, s)
  else (0, match s.bt.running with
    | some img => if v = 0 then s else s.setBt { s.bt with svnFused := max s.bt.svnFused img.svn }
    | none => s)

/-- ROOT_KEY_REVOKE, in STANDBY only: not the running image's slot, and not the last one left (R562). -/
def writeRevoke (v : Nat) (s : State) : Nat × State :=
  let used := s.bt.running.any fun img => img.keyIndex = v
  let others := (List.range 4).any fun k => k ≠ v && !bitOf s.bt.revoked k
  if 4 ≤ v then (odRange, s)
  else if !mgmtStandby s then (odState, s)
  else if used || !others then (odRange, s)
  else (0, s.setBt { s.bt with revoked := Nat.lor s.bt.revoked (2 ^ v) })

/-- FABRIC_KEY_SET installs a key in a slot that is not the active one (R555, R562). -/
def writeFabricKey (b : List Byte) (s : State) : Nat × State :=
  let id := leField b 0 2
  let k := leField b 2 1
  let active := (s.bt.fabricKeys.get? k).any fun x => x.1 = Par.fabricKeyActive s
  acceptIf (id ≠ 0 && k ≤ 1 && allZero (slice b 3 5) && !active) odRange s
    (s.setBt { s.bt with fabricKeys := s.bt.fabricKeys.set k (id, b.drop 8) })

/-- FABRIC_KEY_ACTIVE names a filled slot; a second connectivity association starts on every sub-port that has one
(R555). -/
def writeKeyActive (r : OdRow) (v : Nat) (s : State) : Nat × State :=
  if v = 0 || !s.bt.fabricKeys.any (fun kv => kv.2.1 = v) then (odRange, s)
  else
    let s := storeNum r 0x900006 v s
    (0, s.setFa { s.fa with
      subs := s.fa.subs.mapVal fun _ p => if p.state < 2 || p.ca = 0 || p.ca = v then p else { p with ca2 := v } })

/-- DEBUG_UNLOCK: a token of the serial, signed over the serial and BOOT_ID, in STANDBY with no XTS key live (R558). -/
def writeDebugUnlock (b : List Byte) (s : State) : Nat × State :=
  if !mgmtStandby s || !s.tr.tenants.isEmpty then (odState, s)
  else
    acceptIf (b.take 16 = fitTo s.bt.serial 16 0 && ecdsaVerify Config.debugKey (b.take 16 ++ leBytes 8 s.bt.bootId) (b.drop 16))
      odRange s (s.setBt { s.bt with debugUnlocked := true })

end Sys2Proof.Machine
end

