-- ==== Sys2Proof/Machine/Odp.lean ====
section
/-!
DEFINITION. ODP: the requests of every session, segmented transfers, locks, and the mailbox (R519–R532).
-/

namespace Sys2Proof.Machine

/-! A write of an object (R513–R518, R521, R528). -/

/-- What an owning chapter asks of a number beyond the range of its object.
DESIGN CHOICE: log entry 51. -/
def chapterOk (s : State) (r : OdRow) (v : Nat) : Bool :=
  match r.index * 256 + r.sub with
  | 0x340009 => Par.spareStopPct s < v
  | 0x34000A => v < Par.spareWarnPct s
  | 0x400004 => v ≠ Par.odpUdpPort s
  | 0x080007 => v ≠ Par.xltUdpPort s
  | 0x740005 => v ≤ numOf s 0x7400 0x08
  | 0x740007 => v ≤ numOf s 0x7400 0x08
  | 0x740008 => numOf s 0x7400 0x05 ≤ v && numOf s 0x7400 0x07 ≤ v
  | 0x740009 => numOf s 0x7400 0x0A < v
  | 0x74000A => v < numOf s 0x7400 0x09
  | 0x74000B => numOf s 0x7400 0x0C < v
  | 0x74000C => v < numOf s 0x7400 0x0B
  | 0x74000D => numOf s 0x7400 0x0E < v
  | 0x74000E => v < numOf s 0x7400 0x0D
  | 0x74000F => numOf s 0x7400 0x10 < v
  | 0x740010 => v < numOf s 0x7400 0x0F
  | 0x740011 => numOf s 0x7400 0x12 < v
  | 0x740012 => v < numOf s 0x7400 0x11
  | 0x200004 => v % 100 = 0
  | _ => true

/-- What an owning chapter asks of each byte of a string. DESIGN CHOICE: log entry 51. -/
def bytesOk (r : OdRow) (b : List Byte) : Bool :=
  match r.index * 256 + r.sub with
  | 0x40000C => b.all fun x => x.toNat ≤ 63
  | 0x740001 => b.all fun x => x.toNat ≤ 6
  | _ => true

/-- A value is stored under the range rules of its chapter. -/
def plainWrite (r : OdRow) (index v : Nat) (b : List Byte) (s : State) : Nat × State :=
  let key := index * 256 + r.sub
  if r.typ = 9 || r.typ = 10 then acceptIf (bytesOk r b) odRange s (storeOct r key b s)
  else acceptIf (chapterOk s r v) odRange s (storeNum r key v s)

/-- What a write of an object does, by the rule of its chapter. -/
def applyWrite (r : OdRow) (index tenant : Nat) (b : List Byte) (s : State) : Nat × State :=
  let n := index - r.index
  let v := leNat b
  match r.index * 256 + r.sub with
  | 0x300012 => writeDrained v s
  | 0x340003 => writeReservePct r v s
  | 0x34000C => writeClose v s
  | 0x380005 => writeFenceTabor v s
  | 0x380008 => writeFenceClear v s
  | 0x3C0004 => writeLastVerify tenant v s
  | 0x3C0006 => writeGalePrograms r v s
  | 0x402001 => writePortEnable r n v s
  | 0x402002 => writeLanes r (index * 256 + 2) n v s
  | 0x402003 => writeLanes r (index * 256 + 3) n v s
  | 0x402008 => writeRetrain n v s
  | 0x400010 => (0, s.setFa { s.fa with nrtStage := b })
  | 0x400011 => (0, s.setFa { s.fa with compStage := b })
  | 0x400012 => writeCommit v s
  | 0x740003 => writeTenantShaper b s
  | 0x742002 => writeClassShaper n b s
  | 0x742003 => writeWeights r n b s
  | 0x180003 => writeEventOverrun v s
  | 0x78000A => writeResetRequest v s
  | 0x78000B => writeTakeOut v s
  | 0x080001 => writeMgmtMode r v s
  | 0x080004 => writeRestore v s
  | 0x080008 => writePeers r b s
  | 0x080010 => writeTriggerLost v s
  | 0x081001 => writeScriptImage r n b s
  | 0x081002 => writeTrigger r n v s
  | 0x081003 => writeTriggerArg r n v s
  | 0x081004 => writeScriptEnable r n v s
  | 0x10000A => writeFwStage b s
  | 0x10000C => writeFwCommit v s
  | 0x10000D => writeSvnCommit v s
  | 0x100010 => writeRegAck v s
  | 0x900004 => writeRevoke v s
  | 0x900005 => writeFabricKey b s
  | 0x900006 => writeKeyActive r v s
  | 0x900009 => writeDebugUnlock b s
  | _ => plainWrite r index v b s

/-- The length of a value suits its object (R512, R514, R539). -/
def lengthOk (r : OdRow) (n : Nat) : Bool :=
  r.len ≤ n && n ≤ r.lenMax && !(r.index = 0x0810 && r.sub = 1 && 0 < n && n < 128)

/-- Another session holds the lock of an index's area (R528). -/
def lockedFrom (s : State) (who : Session) (index : Nat) : Bool :=
  (lockHolder s (areaOf index)).any fun h => h ≠ who

/-- Before READY, writes reach only areas 0x0800, 0x1000 and 0x9000 (R542). -/
def writableNow (s : State) (index : Nat) : Bool :=
  s.bt.stage = 4 || [0, 1, 21].contains (areaOf index)

/-- A write of a value by a session (R513, R514, R528, R542). DESIGN CHOICE: log entry 42. -/
def writeOd (who : Session) (r : OdRow) (index tenant : Nat) (b : List Byte) (s : State) : Nat × State :=
  let text := r.typ = 9 || r.typ = 10
  if r.access = 0 then (0x03, s)
  else if !lengthOk r b.length then (0x05, s)
  else if !text && (leNat b < r.lo || r.hi < leNat b) then (odRange, s)
  else if (r.access = 2 && !mgmtStandby s) || !writableNow s index then (odState, s)
  else if lockedFrom s who index then (0x07, s)
  else applyWrite r index tenant b s

/-- The firings of an accepted write: one for each slot that runs and triggers on its object (R534). -/
def fireWrite (oref : Nat) (b : List Byte) (s : State) : State :=
  (List.range 16).foldl (fun s n =>
    if slotRuns s n && Par.scriptTrigger s n = 2 && Par.scriptTriggerArg s n = oref then
      enqueueFiring { slot := n, kind := 2, code := oref, arg0 := leNat (b.take 8), arg1 := 0 } s
    else s) s

/-- A write that a message of a session asks for. DESIGN CHOICE: log entry 50. -/
def writeBy (who : Session) (m : OdpMsg) (b : List Byte) (s : State) : Nat × State :=
  match odLook s m.index m.sub m.ten with
  | .error st => (st, s)
  | .ok r =>
    match writeOd who r m.index m.tenant b s with
    | (0, t) => (0, fireWrite (m.sub + 256 * m.index) b t)
    | x => x

/-! Transports (R529–R532). -/

/-- The data limit of a message (R530). -/
def odpLimit : Session → Nat
  | .can => 48
  | .mailbox _ => 16368
  | .vlan _ => 8000
  | .script => 8

/-- The response buffer takes the next message that waits for it (R531).
DESIGN CHOICE: log entry 49. -/
def pumpMb (p : Nat) (s : State) : State :=
  let b := getMb s p
  match b.waiting with
  | m :: rest =>
    if b.state = 0 then
      let bytes := odpBytes m
      sendVector p 0 2 (setMb s p { b with state := 2, respBuf := bytes, respLength := bytes.length, waiting := rest })
    else s
  | [] => s

/-- A message of the device to a session. -/
def sendTo (who : Session) (m : OdpMsg) (s : State) : State :=
  match who with
  | .can => if s.pw.canNode = 0 then s else emit (.can (0x100 + s.pw.canNode) m) s
  | .mailbox p => let b := getMb s p; pumpMb p (setMb s p { b with waiting := b.waiting ++ [m] })
  | .vlan a => sendVlan a (some m.via) m s
  | .script => s

/-- The message that the first bytes of the request buffer spell (R519, R531). -/
def mbRequest (b : Mailbox) (len : Nat) : OdpMsg :=
  let bytes := (List.range len).map fun i => b.reqBuf.getD i 0
  let w := fun (o n : Nat) => leField bytes o n
  { op := w 0 1, tid := w 1 1, index := w 2 2, sub := w 4 1, ten := bitOf (w 5 1) 0, tenant := w 6 2 % 1024
    status := w 8 1, arg := w 12 4, data := bytes.drop 16, via := 0
    reserved := 2 ≤ w 5 1 || 1024 ≤ w 6 2 || w 9 1 ≠ 0 || len < 16 || 16384 < len || w 10 2 + 16 ≠ len }

/-- Carillon answers: not in boot step 1, nor in a chip warm reset or a Carillon domain reset (R525, R542). -/
def carillonUp (s : State) : Bool :=
  s.powered && 1 ≤ s.bt.stage && s.rc.warmStep = 0 && !s.rc.resets.any fun x => x.domain = 5 && x.run

/-- The device takes a message of a session; none when its transport does not bring it (R525, R529, R531, R532). -/
def takeMsg (who : Session) (m : OdpMsg) (s : State) : Option State :=
  if !carillonUp s then none
  else match who with
  | .can => if s.pw.canNode = 0 then none else some s
  | .mailbox p =>
    let b := getMb s p
    if mailboxUp s p && b.state = 1 && b.handed.any (fun len => mbRequest b len = { m with via := 0 }) then
      some (pumpMb p (setMb s p { b with state := 0, handed := none }))
    else none
  | .vlan a => if (mgmtPeers s).contains a && (getSub s m.via).state = 3 then some s else none
  | .script => none

/-! Requests and responses (R523–R526). -/

/-- A message of the device within a transaction (R519). DESIGN CHOICE: log entry 50. -/
def replyMsg (m : OdpMsg) (op status arg : Nat) (data : List Byte) : OdpMsg :=
  { m with op := op, status := status, arg := arg, reserved := false, data := data }

/-- The message, whatever sub-port brought it. DESIGN CHOICE: log entry 48. -/
def bareMsg (m : OdpMsg) : OdpMsg := { m with via := 0 }

/-- The kept response to a message that repeats a request (R526). DESIGN CHOICE: log entry 48. -/
def keptFor (s : State) (who : Session) (m : OdpMsg) : Option OdpMsg :=
  (s.od.kept.find? fun k => k.who = who && k.req = bareMsg m && s.now < k.at_ + 100000000).map Kept.resp

/-- A response is kept: the session's last 16 TIDs (R526). DESIGN CHOICE: log entry 48. -/
def keepResp (who : Session) (m resp : OdpMsg) (s : State) : State :=
  let k : Kept := { who := who, req := bareMsg m, resp := resp, at_ := s.now }
  let mine := (s.od.kept.filter fun x => x.who = who && x.req.tid ≠ m.tid) ++ [k]
  s.setOd { s.od with kept := (s.od.kept.filter fun x => x.who ≠ who) ++ mine.drop (mine.length - 16) }

/-- A request of a lock's holder restarts LOCK_MAX_MS (R528). -/
def touchLocks (who : Session) (s : State) : State :=
  s.setOd { s.od with locks := s.od.locks.mapVal fun _ l => if l.who = who then { l with lastAt := s.now } else l }

/-- A session with 8 requests not yet answered (R524). Only a mailbox can have one: its responses wait for the host.
DESIGN CHOICE: log entry 49. -/
def sessionFull (s : State) : Session → Bool
  | .mailbox p => 8 ≤ ((getMb s p).waiting.filter fun m => m.op = 0x10).length
  | _ => false

/-- What is wrong with a request before its object is looked at (R521, R531).
DESIGN CHOICE: log entries 42, 43. -/
def headerBad (who : Session) (m : OdpMsg) : Option Nat :=
  if m.reserved || odpLimit who < m.data.length then some 0x0E
  else match who with
  | .mailbox p => if m.ten && m.tenant / 512 ≠ p then some 0x0C else none
  | _ => none

/-- What a request is answered with: its status, ARG and data. -/
structure Answer where
  status : Nat
  arg : Nat := 0
  data : List Byte := []

/-- A request is performed once and answered (R523–R526). `after` follows an OK response.
DESIGN CHOICE: log entry 42. -/
def answerMsg (who : Session) (m : OdpMsg) (perform : State → Answer × State) (after : State → State) (s : State) : State :=
  match takeMsg who m s with
  | none => s
  | some s =>
    let s := touchLocks who s
    match keptFor s who m with
    | some resp => sendTo who { resp with via := m.via } s
    | none =>
      let (a, s) : Answer × State :=
        if sessionFull s who then ({ status := odBusy }, s)
        else match headerBad who m with
          | some st => ({ status := st }, s)
          | none => perform s
      let resp := replyMsg m 0x10 a.status a.arg a.data
      let s := sendTo who resp (keepResp who m resp s)
      if a.status = 0 then after s else s

/-- A status alone as an answer. -/
def statusOnly (x : Nat × State) : Answer × State := ({ status := x.1 }, x.2)

/-! Segmented transfers (R527). -/

def findSeg (s : State) (who : Session) (tid : Nat) : Option SegXfer :=
  s.od.segs.find? fun x => x.who = who && x.req.tid = tid

def dropSeg (who : Session) (tid : Nat) (s : State) : State :=
  s.setOd { s.od with segs := s.od.segs.filter fun x => !(x.who = who && x.req.tid = tid) }

/-- DESIGN CHOICE: log entry 47. -/
def putSeg (x : SegXfer) (s : State) : State :=
  let s := dropSeg x.who x.req.tid s
  s.setOd { s.od with segs := s.od.segs ++ [{ x with lastAt := s.now }] }

/-- The number of segments of a transfer. -/
def segsOf (x : SegXfer) : Nat := (x.total + odpLimit x.who - 1) / odpLimit x.who

/-- The segments of a read that may be sent: at most 16 not acknowledged (R527, step 3). -/
def sendSegs (who : Session) (tid : Nat) : Nat → State → State
  | 0, s => s
  | k + 1, s =>
    match findSeg s who tid with
    | none => s
    | some x =>
      if x.sent < segsOf x && x.sent < x.next + 16 then
        let bytes := (x.buf.drop (x.sent * odpLimit who)).take (odpLimit who)
        let s := sendTo who (replyMsg x.req 0x06 0 x.sent bytes) s
        sendSegs who tid k (putSeg { x with sent := x.sent + 1 } s)
      else s

/-- The device sends a read's segments, and SEG_END once the last one is acknowledged (R527). -/
def pumpSeg (who : Session) (tid : Nat) (s : State) : State :=
  let s := sendSegs who tid 16 s
  match findSeg s who tid with
  | none => s
  | some x =>
    if segsOf x ≤ x.next then sendTo who (replyMsg x.req 0x08 0 (crc32c x.buf) []) (dropSeg who tid s) else s

/-- The device ends a transfer with ABORT (R520, R527). -/
def abortSeg (who : Session) (m : OdpMsg) (status : Nat) (s : State) : State :=
  sendTo who (replyMsg m 0x0B status 0 []) (dropSeg who m.tid s)

/-- A message that draws no RESPONSE is taken (R531). DESIGN CHOICE: log entry 47. -/
def takeQuiet (who : Session) (m : OdpMsg) (k : State → State) (s : State) : State :=
  match takeMsg who m s with
  | none => s
  | some s =>
    let s := touchLocks who s
    match headerBad who m with
    | some st => abortSeg who m st s
    | none => k s

/-- A further transfer finds no place (R527). -/
def segsFull (s : State) (who : Session) : Bool :=
  16 ≤ s.od.segs.length || 4 ≤ (s.od.segs.filter fun x => x.who = who).length

/-- SEG_DATA received: in order, out of order, or of a wrong length (R527).
DESIGN CHOICE: log entry 45. -/
def takeSegment (who : Session) (m : OdpMsg) (s : State) : State :=
  match findSeg s who m.tid with
  | none => abortSeg who m 0x09 s
  | some x =>
    if x.sending then abortSeg who m 0x09 s
    else if m.arg < x.next then putSeg x s
    else if x.next < m.arg then
      if x.gap then putSeg x s else sendTo who (replyMsg m 0x07 0 x.next []) (putSeg { x with gap := true } s)
    else
      let rest := x.total - x.buf.length
      if rest = 0 || m.data.length ≠ min (odpLimit who) rest then abortSeg who m 0x05 s
      else
        let x := { x with buf := x.buf ++ m.data, next := x.next + 1, gap := false }
        let s := putSeg x s
        if x.next % 16 = 0 || x.buf.length = x.total then sendTo who (replyMsg m 0x07 0 x.next []) s else s

/-- SEG_ACK received: the device goes on from the segment named (R527). DESIGN CHOICE: log entry 45. -/
def takeSegAck (who : Session) (m : OdpMsg) (s : State) : State :=
  match findSeg s who m.tid with
  | none => abortSeg who m 0x09 s
  | some x =>
    if !x.sending || m.arg < x.next || x.sent < m.arg then abortSeg who m 0x09 s
    else pumpSeg who m.tid (putSeg { x with next := m.arg, sent := m.arg } s)

/-- SEG_END received: the value is checked and written (R527, step 4). DESIGN CHOICE: log entry 46. -/
def endSegment (who : Session) (m : OdpMsg) (s : State) : Answer × State :=
  match findSeg s who m.tid with
  | none => ({ status := 0x09 }, s)
  | some x =>
    if x.sending then ({ status := 0x09 }, s)
    else
      let s := dropSeg who m.tid s
      if x.buf.length ≠ x.total then ({ status := 0x05 }, s)
      else if crc32c x.buf ≠ m.arg then ({ status := 0x0A }, s)
      else statusOnly (writeBy who x.req x.buf s)

/-- The object that a write concerns, as the base index and subindex of its row: of a WRITE itself, or of the transfer
that a SEG_END ends. -/
def writeKey (s : State) (who : Session) (m : OdpMsg) : Option Nat :=
  let key := fun (x : OdpMsg) => (odRow x.index x.sub).map fun r => r.index * 256 + r.sub
  if m.op = 2 then key m
  else if m.op = 8 then
    match findSeg s who m.tid with
    | some x => if x.sending then none else key x.req
    | none => none
  else none

/-- The objects whose writes are commands of their own. -/
def namedKeys : List Nat :=
  [0x300012, 0x34000C, 0x340003, 0x380005, 0x380008, 0x402001, 0x402008, 0x400012, 0x740003, 0x742002, 0x742003,
   0x78000A, 0x78000B, 0x180003, 0x080001, 0x080004, 0x080010, 0x3C0004, 0x081001, 0x081004, 0x100010, 0x10000A,
   0x10000C, 0x10000D, 0x900005, 0x900006, 0x900004, 0x900009]

/-- A WRITE, or the SEG_END of a segmented write. -/
def odWrite (who : Session) (m : OdpMsg) (s : State) : State :=
  answerMsg who m (fun s => if m.op = 8 then endSegment who m s else statusOnly (writeBy who m m.data s)) id s

/-- The write of the object that a command names; another message is no such command. -/
def rowWrite (key : Nat) (who : Session) (m : OdpMsg) (s : State) : Res3 :=
  .next (if writeKey s who m = some key then odWrite who m s else s)

/-- ODP_WRITE: a WRITE of any other object (R514). -/
def execOdpWrite (who : Session) (m : OdpMsg) (s : State) : Res3 :=
  .next (if m.op = 2 && !(writeKey s who m).any namedKeys.contains then odWrite who m s else s)

/-- SEG_END: a segmented write of any other object ends, or a SEG_END that ends none arrives (R527). -/
def execSegEnd (who : Session) (m : OdpMsg) (s : State) : Res3 :=
  .next (if m.op = 8 && !(writeKey s who m).any namedKeys.contains then odWrite who m s else s)

/-- The value that a READ or a segmented read takes (R513). -/
def readValue (s : State) (m : OdpMsg) : Except Nat (OdRow × List Byte) :=
  match odLook s m.index m.sub m.ten with
  | .error st => .error st
  | .ok r => if r.access = 3 then .error 0x03 else .ok (r, odValue s r m.index m.tenant)

/-- ODP_READ: the value of an object (R520, R530). A message of an undefined OP is MALFORMED (R521).
DESIGN CHOICE: log entry 44. -/
def execOdpRead (who : Session) (m : OdpMsg) (s : State) : Res3 :=
  .next (
    if m.op ≠ 1 && 1 ≤ m.op && m.op ≤ 0x0B then s
    else answerMsg who m (fun s =>
      if m.op ≠ 1 then ({ status := 0x0E }, s)
      else match readValue s m with
        | .error st => ({ status := st }, s)
        | .ok (_, b) =>
          if odpLimit who < b.length then ({ status := 0x05, arg := b.length }, s) else ({ status := 0, data := b }, s)) id s)

/-- DESCRIBE: the description of an object (R522). -/
def execDescribe (who : Session) (m : OdpMsg) (s : State) : Res3 :=
  .next (
    if m.op ≠ 3 then s
    else answerMsg who m (fun s => match odLook s m.index m.sub m.ten with
      | .error st => ({ status := st }, s)
      | .ok r => ({ status := 0, data := describeBytes r }, s)) id s)

/-- SEG_READ_INIT: a segmented read takes its value, and the device begins to send it (R527). -/
def execSegReadInit (who : Session) (m : OdpMsg) (s : State) : Res3 :=
  .next (
    if m.op ≠ 4 then s
    else answerMsg who m (fun s => match readValue s m with
      | .error st => ({ status := st }, s)
      | .ok (r, b) =>
        if r.typ ≠ 10 then ({ status := 0x05 }, s)
        else if segsFull s who then ({ status := odBusy }, s)
        else
          let x : SegXfer := { who := who, req := m, sending := true, total := b.length, buf := b, next := 0, sent := 0,
                               gap := false, lastAt := s.now }
          ({ status := 0, arg := b.length }, putSeg x s)) (pumpSeg who m.tid) s)

/-- Why a segmented write of an object does not start (R513, R527, R528, R550).
DESIGN CHOICE: log entry 46. -/
def segWriteBad (s : State) (who : Session) (m : OdpMsg) : Option Nat :=
  match odLook s m.index m.sub m.ten with
  | .error st => some st
  | .ok r =>
    if r.access = 0 then some 0x03
    else if r.typ ≠ 10 then some 0x05
    else if r.index * 256 + r.sub = 0x10000A && s.bt.stage = 6 then some odState
    else if r.index * 256 + r.sub = 0x10000A && s.bt.stage = 5 && s.bt.recoveryStack.isNone then some odBusy
    else if lockedFrom s who m.index then some 0x07
    else if segsFull s who then some odBusy
    else none

/-- SEG_WRITE_INIT: a segmented write starts (R527). DESIGN CHOICE: log entry 46. -/
def execSegWriteInit (who : Session) (m : OdpMsg) (s : State) : Res3 :=
  .next (
    if m.op ≠ 5 then s
    else answerMsg who m (fun s => match segWriteBad s who m with
      | some st => ({ status := st }, s)
      | none =>
        let x : SegXfer := { who := who, req := m, sending := false, total := m.arg, buf := [], next := 0, sent := 0,
                             gap := false, lastAt := s.now }
        ({ status := 0 }, putSeg x s)) id s)

/-- SEG_DATA: one segment is received (R527). -/
def execSegData (who : Session) (m : OdpMsg) (s : State) : Res3 :=
  .next (if m.op = 6 then takeQuiet who m (takeSegment who m) s else s)

/-- SEG_ACK: the requester acknowledges segments of a read (R527). -/
def execSegAck (who : Session) (m : OdpMsg) (s : State) : Res3 :=
  .next (if m.op = 7 then takeQuiet who m (takeSegAck who m) s else s)

/-- ABORT: the requester ends a transaction (R520). DESIGN CHOICE: log entry 45. -/
def execAbort (who : Session) (m : OdpMsg) (s : State) : Res3 :=
  .next (
    if m.op ≠ 0x0B then s
    else match takeMsg who m s with
      | none => s
      | some s => let s := touchLocks who s; if (headerBad who m).isSome then s else dropSeg who m.tid s)

/-- SEG_TIMEOUT: a transfer has been silent for SEG_TIMEOUT_MS (R527). -/
def execSegTimeout (who : Session) (tid : Nat) (s : State) : Res3 :=
  .next (match findSeg s who tid with
  | none => s
  | some x =>
    if !carillonUp s then s
    else abortSeg who x.req 0x0B (s.reach (x.lastAt + 1000000 * Par.segTimeoutMs s)))

/-! Locks (R528). -/

/-- The lock that an index names: an area by its first index, or 22 for every area.
DESIGN CHOICE: log entry 52. -/
def lockPlace (index : Nat) : Option Nat :=
  if index = 0 then some 22
  else if areaFirsts.contains index then some (areaOf index) else none

/-- Another session holds a lock that shuts this one out. -/
def lockTaken (s : State) (who : Session) (place : Nat) : Bool :=
  s.od.locks.any fun kv => kv.2.who ≠ who && (place = 22 || kv.1 = 22 || kv.1 = place)

/-- LOCK: exclusive write of an area, or of every area (R528). DESIGN CHOICE: log entry 52. -/
def execLock (who : Session) (m : OdpMsg) (s : State) : Res3 :=
  .next (
    if m.op ≠ 9 then s
    else answerMsg who m (fun s => match lockPlace m.index with
      | none => ({ status := 0x01 }, s)
      | some a =>
        if lockTaken s who a then ({ status := 0x07 }, s)
        else ({ status := 0 }, s.setOd { s.od with locks := s.od.locks.set a { who := who, lastAt := s.now } })) id s)

/-- UNLOCK: the named lock is released by its holder (R528). DESIGN CHOICE: log entry 52. -/
def execUnlock (who : Session) (m : OdpMsg) (s : State) : Res3 :=
  .next (
    if m.op ≠ 0x0A then s
    else answerMsg who m (fun s => match lockPlace m.index with
      | none => ({ status := 0x01 }, s)
      | some a =>
        match s.od.locks.get? a with
        | none => ({ status := 0 }, s)
        | some l =>
          if l.who = who then ({ status := 0 }, s.setOd { s.od with locks := s.od.locks.erase a })
          else ({ status := 0x07 }, s)) id s)

/-- LOCK_MAX_EXPIRY: a lock's holder has been silent for LOCK_MAX_MS (R528). -/
def execLockMaxExpiry (area : Nat) (s : State) : Res3 :=
  .next (match s.od.locks.get? area with
  | none => s
  | some l =>
    if !s.powered then s
    else
      let s := s.reach (l.lastAt + 1000000 * Par.lockMaxMs s)
      s.setOd { s.od with locks := s.od.locks.erase area })

/-- TID_RETENTION_EXPIRY: a kept response is 100 ms old (R526). -/
def execTidRetentionExpiry (who : Session) (tid : Nat) (s : State) : Res3 :=
  .next (match s.od.kept.find? fun k => k.who = who && k.req.tid = tid with
  | none => s
  | some k =>
    if !s.powered then s
    else
      let s := s.reach (k.at_ + 100000000)
      s.setOd { s.od with kept := s.od.kept.filter fun x => !(x.who = who && x.req.tid = tid) })

/-- CONFIG_STORE_DONE: the accepted P values are in configuration flash, within 200 ms of the oldest (R515, R547). -/
def execConfigStoreDone (s : State) : Res3 :=
  .next (if !s.powered || s.bt.stage = 0 || s.bt.cfgPendingSince.isNone then s else saveCfg s)

/-! The mailbox's registers (R531). -/

/-- MB_DOORBELL: the request buffer is handed to the device, or OVERRUN is set while STATE is BUSY (R531). -/
def execMbDoorbell (port length : Nat) (s : State) : Res3 :=
  .next (
    if !mailboxUp s port then s
    else
      let b := getMb s port
      if b.state = 1 then setMb s port { b with overrun := true }
      else setMb s port { b with state := 1, handed := some (length % 32768) })

/-- MB_RELEASE: in DONE the response buffer is released, and the next message goes out (R531). -/
def execMbRelease (port : Nat) (s : State) : Res3 :=
  .next (
    let b := getMb s port
    if !mailboxUp s port || b.state ≠ 2 then s else pumpMb port (setMb s port { b with state := 0 }))

/-- MB_OVERRUN_CLEAR: a write of 1 clears OVERRUN (R531). -/
def execMbOverrunClear (port : Nat) (s : State) : Res3 :=
  .next (if !mailboxUp s port then s else setMb s port { getMb s port with overrun := false })

/-- MB_NOTIFY_LOST_CLEAR: a write of 1 clears NOTIFY_LOST (R531). -/
def execMbNotifyLostClear (port : Nat) (s : State) : Res3 :=
  .next (if !mailboxUp s port then s else setMb s port { getMb s port with notifyLost := false })

/-- MB_NOTIFY_HEAD: the host has consumed notification slots (R531). -/
def execMbNotifyHead (port head : Nat) (s : State) : Res3 :=
  .next (if !mailboxUp s port then s else setMb s port { getMb s port with notifyHead := head % 64 })

end Sys2Proof.Machine
end

