-- ==== Sys2Proof/Machine/Manage.lean ====
section
/-!
DEFINITION. The commands that write an object with a behaviour of its own: each is a WRITE of that object, or the
SEG_END of a segmented write of it, that a session sends (R514, R527). With them, the end of firmware programming.
-/

namespace Sys2Proof.Machine

/-- DRAINED: a write of 0 restores placement, and a write of 1 is refused (R61). -/
def execDrained (who : Session) (m : OdpMsg) (s : State) : Res3 := rowWrite 0x300012 who m s

/-- CLOSE: an orderly close of Frost begins (R93). -/
def execClose (who : Session) (m : OdpMsg) (s : State) : Res3 := rowWrite 0x34000C who m s

/-- RESERVE_PCT: a new reserve takes effect at the next mount (R69). -/
def execReservePct (who : Session) (m : OdpMsg) (s : State) : Res3 := rowWrite 0x340003 who m s

/-- FENCE_TABOR: the named tabor is fenced (R124). -/
def execFenceTabor (who : Session) (m : OdpMsg) (s : State) : Res3 := rowWrite 0x380005 who m s

/-- FENCE_CLEAR: FENCED_MAP is emptied at the next cold reset (R129). -/
def execFenceClear (who : Session) (m : OdpMsg) (s : State) : Res3 := rowWrite 0x380008 who m s

/-- PORT_ENABLE: a port starts to train, or is taken DOWN (R213, R234). -/
def execPortEnable (who : Session) (m : OdpMsg) (s : State) : Res3 := rowWrite 0x402001 who m s

/-- RETRAIN: every sub-port of a port retrains (R214). -/
def execRetrain (who : Session) (m : OdpMsg) (s : State) : Res3 := rowWrite 0x402008 who m s

/-- COMMIT: the staged tables take effect under a generation, or are refused (R231). -/
def execCommit (who : Session) (m : OdpMsg) (s : State) : Res3 := rowWrite 0x400012 who m s

/-- TENANT_SHAPER_SET: a tenant's shaper entry changes on every sub-port (R452). -/
def execTenantShaperSet (who : Session) (m : OdpMsg) (s : State) : Res3 := rowWrite 0x740003 who m s

/-- CLASS_SHAPER_SET: a class shaper entry changes on a port (R452). -/
def execClassShaperSet (who : Session) (m : OdpMsg) (s : State) : Res3 := rowWrite 0x742002 who m s

/-- DWRR_WEIGHTS: the class weights of a port change (R448). -/
def execDwrrWeights (who : Session) (m : OdpMsg) (s : State) : Res3 := rowWrite 0x742003 who m s

/-- RESET_REQUEST: software orders the reset of a domain (R494). -/
def execResetRequest (who : Session) (m : OdpMsg) (s : State) : Res3 := rowWrite 0x78000A who m s

/-- TAKE_OUT_OF_SERVICE: an operator orders the out-of-service transition (R488). -/
def execTakeOutOfService (who : Session) (m : OdpMsg) (s : State) : Res3 := rowWrite 0x78000B who m s

/-- EVENT_OVERRUN: a write of 0 clears it, and a write of 1 is refused (R493). -/
def execEventOverrun (who : Session) (m : OdpMsg) (s : State) : Res3 := rowWrite 0x180003 who m s

/-- MGMT_MODE: STANDBY or OPERATIONAL (R517). -/
def execMgmtMode (who : Session) (m : OdpMsg) (s : State) : Res3 := rowWrite 0x080001 who m s

/-- RESTORE_DEFAULTS: defaults are stored for the next cold reset (R538). -/
def execRestoreDefaults (who : Session) (m : OdpMsg) (s : State) : Res3 := rowWrite 0x080004 who m s

/-- TRIGGER_LOST: a write of 0 clears it, and a write of 1 is refused (R538). -/
def execTriggerLost (who : Session) (m : OdpMsg) (s : State) : Res3 := rowWrite 0x080010 who m s

/-- LAST_VERIFY: a write of 0 clears a tenant's value (R160). -/
def execLastVerify (who : Session) (m : OdpMsg) (s : State) : Res3 := rowWrite 0x3C0004 who m s

/-- SCRIPT_IMAGE: a slot's IMAGE is verified and stored, or refused (R535). -/
def execScriptImage (who : Session) (m : OdpMsg) (s : State) : Res3 := rowWrite 0x081001 who m s

/-- SCRIPT_ENABLE: a slot is enabled or disabled (R534, R535). -/
def execScriptEnable (who : Session) (m : OdpMsg) (s : State) : Res3 := rowWrite 0x081004 who m s

/-- REG_ACK: a write of BOOT_ID stops registration (R559). -/
def execRegAck (who : Session) (m : OdpMsg) (s : State) : Res3 := rowWrite 0x100010 who m s

/-- FW_STAGE: a staged image is checked (R548). -/
def execFwStage (who : Session) (m : OdpMsg) (s : State) : Res3 := rowWrite 0x10000A who m s

/-- FW_COMMIT: programming of the NOR image starts (R549). -/
def execFwCommit (who : Session) (m : OdpMsg) (s : State) : Res3 := rowWrite 0x10000C who m s

/-- SVN_COMMIT: SVN_FUSED rises to the running image's SVN (R551). -/
def execSvnCommit (who : Session) (m : OdpMsg) (s : State) : Res3 := rowWrite 0x10000D who m s

/-- FABRIC_KEY_SET: a fabric key is installed in a slot (R555). -/
def execFabricKeySet (who : Session) (m : OdpMsg) (s : State) : Res3 := rowWrite 0x900005 who m s

/-- FABRIC_KEY_ACTIVE: the key in use changes (R555). -/
def execFabricKeyActive (who : Session) (m : OdpMsg) (s : State) : Res3 := rowWrite 0x900006 who m s

/-- ROOT_KEY_REVOKE: a root key slot is revoked (R562). -/
def execRootKeyRevoke (who : Session) (m : OdpMsg) (s : State) : Res3 := rowWrite 0x900004 who m s

/-- DEBUG_UNLOCK: a signed token enables debug (R558). -/
def execDebugUnlock (who : Session) (m : OdpMsg) (s : State) : Res3 := rowWrite 0x900009 who m s

/-- FW_PROGRAM_DONE: the NOR image has been programmed and read back. An image that reads back equal is FIRMWARE_UPDATED,
and boots at the next cold reset, or at once in recovery mode; another is FIRMWARE_REJECTED with 0x08 (R549, R550).
DESIGN CHOICE: log entry 53. -/
def execFwProgramDone (readsBackEqual : Bool) (s : State) : Res3 :=
  .next (
    if !s.powered || s.bt.fwState ≠ 2 then s
    else if readsBackEqual then
      let recovering := s.bt.stage = 5
      let s := s.setBt { s.bt with
        nor := s.bt.staged, fwState := 3
        stage := if recovering then 1 else s.bt.stage
        recoveryStack := if recovering then none else s.bt.recoveryStack }
      raise 0x1A0 0 0 0 s
    else
      let (n, s) := drawFree 549 s
      raise 0x1A1 0 8 0 (s.setBt { s.bt with nor := leBytes 8 n, fwState := 1 }))

end Sys2Proof.Machine
end

