-- ==== Sys2Proof/Machine/Scripts.lean ====
section
/-!
DEFINITION. Carillon's trigger scripts: the PERIOD trigger, the run of a firing, and the OD instruction (R534–R537).
-/

namespace Sys2Proof.Machine

/-- Carillon runs scripts: it is up, and not in boot step 1. DESIGN CHOICE: log entry 55. -/
def scriptsRun (s : State) : Bool := carillonUp s

/-- TRIGGER_PERIOD: a period has elapsed since ENABLE became 1, or since the last firing (R534, R536).
DESIGN CHOICE: log entry 55. -/
def execTriggerPeriod (slot : Nat) (s : State) : Res3 :=
  .next (match s.od.periodDue.get? slot with
  | none => s
  | some due =>
    if !scriptsRun s || !slotRuns s slot || Par.scriptTrigger s slot ≠ 3 then s
    else
      let s := s.reach due
      let s := s.setOd { s.od with periodDue := s.od.periodDue.set slot (due + 1000000 * Par.scriptTriggerArg s slot) }
      enqueueFiring { slot := slot, kind := 3, code := 0, arg0 := 0, arg1 := 0 } s)

/-- The context of a firing at the entry of its script (R536). -/
def firingCtx (f : Firing) (im : Image) (now : Nat) : Ctx :=
  let c := newCtx 0 0 0 0 im im.fuelPerCall 0 [f.kind, f.code, f.arg0, f.arg1] [] now
  { c with profile := 2, state := .running }

/-- SCRIPT_RUN: Carillon takes the next firing and starts its script. A firing whose slot runs no more is dropped
(R535, R536). DESIGN CHOICE: log entry 55. -/
def execScriptRun (s : State) : Res3 :=
  .next (match s.od.firings with
  | [] => s
  | f :: rest =>
    if !scriptsRun s || s.od.script.isSome then s
    else
      let s := s.setOd { s.od with firings := rest }
      if !slotRuns s f.slot then s
      else match verifyImage 0 (2 ^ 32) (s.od.oct.getD ((0x0810 + f.slot) * 256 + 1) []) with
        | .error _ => s
        | .ok im => s.setOd { s.od with script := some (f.slot, firingCtx f im s.now) })

/-- The object that x[RS1] of an OD instruction names: index, subindex, TEN, tenant; none when other bits are set (R537).
DESIGN CHOICE: log entry 54. -/
def odName (x : Nat) : Option (Nat × Nat × Bool × Nat) :=
  if bitsOf x 31 24 ≠ 0 || 2 ^ 43 ≤ x then none
  else some (bitsOf x 23 8, bitsOf x 7 0, bitOf x 42, bitsOf x 41 32)

/-- What OD RD reads: the value, or the first 8 bytes of a longer one (R537).
DESIGN CHOICE: log entry 54. -/
def scriptRead (s : State) (x : Nat) : Option Nat :=
  match odName x with
  | none => none
  | some (index, sub, ten, tenant) =>
    match odLook s index sub ten with
    | .error _ => none
    | .ok r => if r.access = 3 then none else some (leNat ((odValue s r index tenant).take 8))

/-- What OD WR writes: none when the write is refused or its object is longer than 8 bytes (R537).
DESIGN CHOICE: log entry 54. -/
def scriptWrite (s : State) (x v : Nat) : Option State :=
  match odName x with
  | none => none
  | some (index, sub, ten, tenant) =>
    match odLook s index sub ten with
    | .error _ => none
    | .ok r =>
      if 8 < r.lenMax || 2 ^ (8 * r.lenMax) ≤ v then none
      else match writeOd .script r index tenant (leBytes r.lenMax v) s with
        | (0, t) => some t
        | _ => none

/-- OD_RD: x[RD] takes the value of the object that x[RS1] names (R138, R537). -/
def execOdRd (p : Proc) (w : BitVec 32) (s : State) : Res3 :=
  issue .odRd p w (fun c s =>
    match scriptRead s (c.readX (fRs1 w.toNat)).toNat with
    | some v => finishOp p (c.writeX (fRd w.toNat) (BitVec.ofNat 64 v)) s
    | none => failProc p c Config.invalidDescriptor s) s

/-- OD_WR: the object that x[RS1] names takes x[RS2] (R138, R537). -/
def execOdWr (p : Proc) (w : BitVec 32) (s : State) : Res3 :=
  issue .odWr p w (fun c s =>
    match scriptWrite s (c.readX (fRs1 w.toNat)).toNat (c.readX (fRs2 w.toNat)).toNat with
    | some t => finishOp p c t
    | none => failProc p c Config.invalidDescriptor s) s

/-- OD_EVENT: the script raises SCRIPT_EVENT with x[RS1][15:0] (R138). -/
def execOdEvent (p : Proc) (w : BitVec 32) (s : State) : Res3 :=
  issue .odEvent p w (fun c s =>
    finishOp p c (raise 0x181 0 ((c.readX (fRs1 w.toNat)).toNat % 65536) 0 s)) s

end Sys2Proof.Machine
end

