-- ==== Sys2Proof/Machine/Flr.lean ====
section
/-!
DEFINITION. Function Level Resets and hot resets of a host port (R330).
-/

namespace Sys2Proof.Machine

/-- The items of a function's queues. -/
def fnItems (s : State) (p f : Nat) : List (Nat × Item) :=
  s.ho.items.filter fun kv => kv.2.src.queue.any fun x => x.1 = p && x.2.1 = f

/-- A request to host memory of a function. -/
def HostReq.ofFn (f : Nat) : HostReq → Bool
  | .write g _ _ => g = f
  | .read g _ _ _ => g = f

/-- A VF is reset (R330): its queues are gone without draining, its items end as in a tenant-context reset, and their
completions and the VF's spilled entries are discarded and counted. PRESUMED: log entry 19.
DESIGN CHOICE: log entry 56. -/
def resetVf (p f : Nat) (s : State) : State :=
  let mine := fnItems s p f
  let live := (mine.filter fun kv => kv.2.ended.isNone).map Prod.fst
  let hp := getPort s p
  let count := mine.length + (hp.spill.filter fun c => c.fn = f).length
  let s := if live.isEmpty then s else fault 0x11 0 (resetTabor s live) 0 (live.map Task.item) s
  let s := mine.foldl (fun s kv => modItem kv.1 (fun i => { i with discard := true }) s) s
  let other := fun (r : HostReq) => !r.ofFn f
  let s := setPort s p { hp with
    fns := hp.fns.erase f, spill := hp.spill.filter fun c => c.fn ≠ f
    sent := hp.sent.filter other, replay := hp.replay.filter other, held := hp.held.filter other }
  let s := s.setTr { s.tr with
    ats := s.tr.ats.keep fun _ r => !(r.port = p && r.fn = f)
    atc := s.tr.atc.set p ((getAtc s p).filter fun e => e.fn ≠ f) }
  raise 0x163 (fnTenant p f) count 0 s

/-- VF_FLR: a Function Level Reset of a VF (R330). DESIGN CHOICE: log entry 56. -/
def execVfFlr (port fn : Nat) (s : State) : Res3 :=
  .next (if !mmioUp s port || fn = 0 || 512 < fn then s else resetVf port fn s)

/-- The VFs of a port that have anything to reset: registers that were written, items, or spilled entries. -/
def usedVfs (s : State) (p : Nat) : List Nat :=
  let hp := getPort s p
  let items := s.ho.items.filterMap fun kv => kv.2.src.queue.bind fun x => if x.1 = p then some x.2.1 else none
  ((hp.fns.map Prod.fst ++ items ++ hp.spill.map Cpl.fn).filter (· ≠ 0)).eraseDups

/-- The ODP session of a port's mailbox is gone (R528, R531). -/
def dropMailbox (p : Nat) (s : State) : State :=
  s.setOd { s.od with
    mailbox := s.od.mailbox.erase p
    segs := s.od.segs.filter fun x => x.who ≠ .mailbox p
    kept := s.od.kept.filter fun x => x.who ≠ .mailbox p
    locks := s.od.locks.keep fun _ l => l.who ≠ .mailbox p }

/-- PF_FLR: a Function Level Reset of the physical function, or a hot reset of the port: every VF is reset, the
translation channel and the administrative queues are disabled, MISSes of the port's tenants fail, and the mailbox is
at its reset values (R330, R531). DESIGN CHOICE: log entry 56. -/
def execPfFlr (port : Nat) (s : State) : Res3 :=
  .next (
    if !mailboxUp s port then s
    else
      let s := (usedVfs s port).foldl (fun s f => resetVf port f s) s
      let s := setPort s port { getPort s port with fns := (getPort s port).fns.erase 0, reqRing := {}, cmdRing := {} }
      let misses := s.tr.misses.filter fun kv => tenantPort kv.2.tenant = port
      let s := misses.foldl (fun s kv => denyMiss kv.1 s) s
      dropMailbox port (s.setBt { s.bt with spdm := s.bt.spdm.erase port }))

end Sys2Proof.Machine
end

