-- ==== Sys2Proof/Machine/Phicor.lean ====
section
/-!
DEFINITION. One meaning for each Phicor instruction but those of the dictionary (R138).
-/

namespace Sys2Proof.Machine

/-- ADD: scalar add (R138). -/
def execAdd (p : Proc) (w : BitVec 32) (s : State) : Res3 := issuePure .add opAdd p w s

/-- SUB: scalar subtract (R138). -/
def execSub (p : Proc) (w : BitVec 32) (s : State) : Res3 := issuePure .sub opSub p w s

/-- AND: scalar bitwise and (R138). -/
def execAnd (p : Proc) (w : BitVec 32) (s : State) : Res3 := issuePure .and opAnd p w s

/-- OR: scalar bitwise or (R138). -/
def execOr (p : Proc) (w : BitVec 32) (s : State) : Res3 := issuePure .or opOr p w s

/-- XOR: scalar bitwise xor (R138). -/
def execXor (p : Proc) (w : BitVec 32) (s : State) : Res3 := issuePure .xor opXor p w s

/-- SLL: scalar shift left by x[RS2] mod 64 (R138). -/
def execSll (p : Proc) (w : BitVec 32) (s : State) : Res3 := issuePure .sll opSll p w s

/-- SRL: scalar logical shift right (R138). -/
def execSrl (p : Proc) (w : BitVec 32) (s : State) : Res3 := issuePure .srl opSrl p w s

/-- SRA: scalar arithmetic shift right (R138). -/
def execSra (p : Proc) (w : BitVec 32) (s : State) : Res3 := issuePure .sra opSra p w s

/-- SLT: scalar signed set-if-less-than (R138). -/
def execSlt (p : Proc) (w : BitVec 32) (s : State) : Res3 := issuePure .slt opSlt p w s

/-- SLTU: scalar unsigned set-if-less-than (R138). -/
def execSltu (p : Proc) (w : BitVec 32) (s : State) : Res3 := issuePure .sltu opSltu p w s

/-- MIN: scalar signed minimum (R138). -/
def execMin (p : Proc) (w : BitVec 32) (s : State) : Res3 := issuePure .min opMin p w s

/-- MAX: scalar signed maximum (R138). -/
def execMax (p : Proc) (w : BitVec 32) (s : State) : Res3 := issuePure .max opMax p w s

/-- MINU: scalar unsigned minimum (R138). -/
def execMinu (p : Proc) (w : BitVec 32) (s : State) : Res3 := issuePure .minu opMinu p w s

/-- MAXU: scalar unsigned maximum (R138). -/
def execMaxu (p : Proc) (w : BitVec 32) (s : State) : Res3 := issuePure .maxu opMaxu p w s

/-- SEQ: scalar set-if-equal (R138). -/
def execSeq (p : Proc) (w : BitVec 32) (s : State) : Res3 := issuePure .seq opSeq p w s

/-- SNE: scalar set-if-not-equal (R138). -/
def execSne (p : Proc) (w : BitVec 32) (s : State) : Res3 := issuePure .sne opSne p w s

/-- ADDI: add a sign-extended immediate (R138). -/
def execAddi (p : Proc) (w : BitVec 32) (s : State) : Res3 := issuePure .addi opAddi p w s

/-- ANDI: and with a sign-extended immediate (R138). -/
def execAndi (p : Proc) (w : BitVec 32) (s : State) : Res3 := issuePure .andi opAndi p w s

/-- ORI: or with a sign-extended immediate (R138). -/
def execOri (p : Proc) (w : BitVec 32) (s : State) : Res3 := issuePure .ori opOri p w s

/-- XORI: xor with a sign-extended immediate (R138). -/
def execXori (p : Proc) (w : BitVec 32) (s : State) : Res3 := issuePure .xori opXori p w s

/-- SLLI: shift left by an immediate count (R138). -/
def execSlli (p : Proc) (w : BitVec 32) (s : State) : Res3 := issuePure .slli opSlli p w s

/-- SRLI: logical shift right by an immediate count (R138). -/
def execSrli (p : Proc) (w : BitVec 32) (s : State) : Res3 := issuePure .srli opSrli p w s

/-- SRAI: arithmetic shift right by an immediate count (R138). -/
def execSrai (p : Proc) (w : BitVec 32) (s : State) : Res3 := issuePure .srai opSrai p w s

/-- SLTI: signed set-if-less-than an immediate (R138). -/
def execSlti (p : Proc) (w : BitVec 32) (s : State) : Res3 := issuePure .slti opSlti p w s

/-- LUI: load IMM20 << 12, sign-extended (R138). -/
def execLui (p : Proc) (w : BitVec 32) (s : State) : Res3 := issuePure .lui opLui p w s

/-- MUL: low 64 bits of a 64 × 64 product (R138). -/
def execMul (p : Proc) (w : BitVec 32) (s : State) : Res3 := issuePure .mul opMul p w s

/-- MULH: high 64 bits of a signed product (R138). -/
def execMulh (p : Proc) (w : BitVec 32) (s : State) : Res3 := issuePure .mulh opMulh p w s

/-- MULHU: high 64 bits of an unsigned product (R138). -/
def execMulhu (p : Proc) (w : BitVec 32) (s : State) : Res3 := issuePure .mulhu opMulhu p w s

/-- DIV: signed divide rounding toward zero, with defined zero-divisor and overflow results (R138). -/
def execDiv (p : Proc) (w : BitVec 32) (s : State) : Res3 := issuePure .div opDiv p w s

/-- DIVU: unsigned divide (R138). -/
def execDivu (p : Proc) (w : BitVec 32) (s : State) : Res3 := issuePure .divu opDivu p w s

/-- REM: signed remainder taking the dividend's sign (R138). -/
def execRem (p : Proc) (w : BitVec 32) (s : State) : Res3 := issuePure .rem opRem p w s

/-- REMU: unsigned remainder (R138). -/
def execRemu (p : Proc) (w : BitVec 32) (s : State) : Res3 := issuePure .remu opRemu p w s

/-- PSET: predicate register set from a scalar (R138). -/
def execPset (p : Proc) (w : BitVec 32) (s : State) : Res3 := issuePure .pset opPset p w s

/-- PGET: scalar register set from a predicate (R138). -/
def execPget (p : Proc) (w : BitVec 32) (s : State) : Res3 := issuePure .pget opPget p w s

/-- PAND: predicate and (R138). -/
def execPand (p : Proc) (w : BitVec 32) (s : State) : Res3 := issuePure .pand opPand p w s

/-- POR: predicate or (R138). -/
def execPor (p : Proc) (w : BitVec 32) (s : State) : Res3 := issuePure .por opPor p w s

/-- PNOT: predicate not (R138). -/
def execPnot (p : Proc) (w : BitVec 32) (s : State) : Res3 := issuePure .pnot opPnot p w s

/-- BEQ: branch if equal (R137). -/
def execBeq (p : Proc) (w : BitVec 32) (s : State) : Res3 := issuePure .beq opBeq p w s

/-- BNE: branch if not equal (R137). -/
def execBne (p : Proc) (w : BitVec 32) (s : State) : Res3 := issuePure .bne opBne p w s

/-- BLT: branch if signed less than (R137). -/
def execBlt (p : Proc) (w : BitVec 32) (s : State) : Res3 := issuePure .blt opBlt p w s

/-- BGE: branch if signed greater or equal (R137). -/
def execBge (p : Proc) (w : BitVec 32) (s : State) : Res3 := issuePure .bge opBge p w s

/-- BLTU: branch if unsigned less than (R137). -/
def execBltu (p : Proc) (w : BitVec 32) (s : State) : Res3 := issuePure .bltu opBltu p w s

/-- BGEU: branch if unsigned greater or equal (R137). -/
def execBgeu (p : Proc) (w : BitVec 32) (s : State) : Res3 := issuePure .bgeu opBgeu p w s

/-- J: jump by IMM20 instructions (R138). -/
def execJ (p : Proc) (w : BitVec 32) (s : State) : Res3 := issuePure .j opJ p w s

/-- CALL: push PC + 1 on the return stack and jump (R138). -/
def execCall (p : Proc) (w : BitVec 32) (s : State) : Res3 := issuePure .call opCall p w s

/-- RET: pop the return stack into PC (R138). -/
def execRet (p : Proc) (w : BitVec 32) (s : State) : Res3 := issuePure .ret opRet p w s

/-- LDS: scalar load from program scratch, bounds-checked (R132). -/
def execLds (p : Proc) (w : BitVec 32) (s : State) : Res3 := issuePure .lds opLds p w s

/-- STS: scalar store to program scratch (R132). -/
def execSts (p : Proc) (w : BitVec 32) (s : State) : Res3 := issuePure .sts opSts p w s

/-- VLDS: vector load from scratch (R138). -/
def execVlds (p : Proc) (w : BitVec 32) (s : State) : Res3 := issuePure .vlds opVlds p w s

/-- VSTS: predicated vector store to scratch (R138). -/
def execVsts (p : Proc) (w : BitVec 32) (s : State) : Res3 := issuePure .vsts opVsts p w s

/-- VGATH: gather elements from scratch by lane indices (R138). -/
def execVgath (p : Proc) (w : BitVec 32) (s : State) : Res3 := issuePure .vgath opVgath p w s

/-- VSCAT: scatter elements to scratch by lane indices (R138). -/
def execVscat (p : Proc) (w : BitVec 32) (s : State) : Res3 := issuePure .vscat opVscat p w s

/-- VLUT: per-lane fp32 table look-up in scratch (R138). -/
def execVlut (p : Proc) (w : BitVec 32) (s : State) : Res3 := issuePure .vlut opVlut p w s

/-- VADD: vector integer add or subtract, wrapping or saturating (R138). -/
def execVadd (p : Proc) (w : BitVec 32) (s : State) : Res3 := issuePure .vadd opVadd p w s

/-- VLOG: vector and, or, xor or and-not (R138). -/
def execVlog (p : Proc) (w : BitVec 32) (s : State) : Res3 := issuePure .vlog opVlog p w s

/-- VMM: vector signed or unsigned minimum or maximum (R138). -/
def execVmm (p : Proc) (w : BitVec 32) (s : State) : Res3 := issuePure .vmm opVmm p w s

/-- VSH: vector shifts by per-element counts (R138). -/
def execVsh (p : Proc) (w : BitVec 32) (s : State) : Res3 := issuePure .vsh opVsh p w s

/-- VCMP: vector compare into a predicate register (R138). -/
def execVcmp (p : Proc) (w : BitVec 32) (s : State) : Res3 := issuePure .vcmp opVcmp p w s

/-- VBCAST: broadcast a scalar into every element (R138). -/
def execVbcast (p : Proc) (w : BitVec 32) (s : State) : Res3 := issuePure .vbcast opVbcast p w s

/-- VMOV: vector register move (R138). -/
def execVmov (p : Proc) (w : BitVec 32) (s : State) : Res3 := issuePure .vmov opVmov p w s

/-- VSEL: select between two vectors by predicate (R138). -/
def execVsel (p : Proc) (w : BitVec 32) (s : State) : Res3 := issuePure .vsel opVsel p w s

/-- VEXT: extract element 0 into a scalar register (R138). -/
def execVext (p : Proc) (w : BitVec 32) (s : State) : Res3 := issuePure .vext opVext p w s

/-- VFADD: vector floating-point add, subtract, minimum or maximum (R138). -/
def execVfadd (p : Proc) (w : BitVec 32) (s : State) : Res3 := issuePure .vfadd opVfadd p w s

/-- VFMUL: vector floating-point multiply (R138). -/
def execVfmul (p : Proc) (w : BitVec 32) (s : State) : Res3 := issuePure .vfmul opVfmul p w s

/-- VFMA: vector fused multiply-add variants (R138). -/
def execVfma (p : Proc) (w : BitVec 32) (s : State) : Res3 := issuePure .vfma opVfma p w s

/-- VDOT: dot-product accumulation, optionally with MX scales (R108). DEDUCED: log entry 106. -/
def execVdot (p : Proc) (w : BitVec 32) (s : State) : Res3 := issuePure .vdot opVdot p w s

/-- VCVTN: narrowing conversion from fp32 or int32 lanes, with RNE or SR (R138). -/
def execVcvtn (p : Proc) (w : BitVec 32) (s : State) : Res3 := issuePure .vcvtn opVcvtn p w s

/-- VCVTW: widening conversion to fp32 or int32 lanes (R138). -/
def execVcvtw (p : Proc) (w : BitVec 32) (s : State) : Res3 := issuePure .vcvtw opVcvtw p w s

/-- VMXQ: MX block quantise of 32 fp32 values (R114). -/
def execVmxq (p : Proc) (w : BitVec 32) (s : State) : Res3 := issuePure .vmxq opVmxq p w s

/-- VRED: cross-lane sum, max or min reduction (R138). -/
def execVred (p : Proc) (w : BitVec 32) (s : State) : Res3 := issuePure .vred opVred p w s

/-- VREDC: compensated cross-lane reduction (R119). -/
def execVredc (p : Proc) (w : BitVec 32) (s : State) : Res3 := issuePure .vredc opVredc p w s

/-- VCADD: element-wise compensated add (R119). -/
def execVcadd (p : Proc) (w : BitVec 32) (s : State) : Res3 := issuePure .vcadd opVcadd p w s

/-- VPERM: lane or byte permute, interleave or de-interleave (R138). -/
def execVperm (p : Proc) (w : BitVec 32) (s : State) : Res3 := issuePure .vperm opVperm p w s

/-- CHM_INIT: load a Chime configuration block and initialise the register, feeding any prefix (R432). -/
def execChmInit (p : Proc) (w : BitVec 32) (s : State) : Res3 := issuePure .chmInit opChmInit p w s

/-- CHM_UPD: feed scratch bytes to the Chime register (R433). -/
def execChmUpd (p : Proc) (w : BitVec 32) (s : State) : Res3 := issuePure .chmUpd opChmUpd p w s

/-- CHM_VUPD: feed the 64 bytes of a vector register (R433). -/
def execChmVupd (p : Proc) (w : BitVec 32) (s : State) : Res3 := issuePure .chmVupd opChmVupd p w s

/-- CHM_FIN: write the check value to a scalar register (R433). -/
def execChmFin (p : Proc) (w : BitVec 32) (s : State) : Res3 := issuePure .chmFin opChmFin p w s

/-- SRSEED: seed the program's generator streams (R134). -/
def execSrseed (p : Proc) (w : BitVec 32) (s : State) : Res3 := issuePure .srseed opSrseed p w s

/-- PKT_LD: gale program reads 8 bytes of its packet (R150). -/
def execPktLd (p : Proc) (w : BitVec 32) (s : State) : Res3 := issuePure .pktLd opPktLd p w s

/-- PKT_ST: gale program writes 8 bytes of the payload (R150). -/
def execPktSt (p : Proc) (w : BitVec 32) (s : State) : Res3 := issuePure .pktSt opPktSt p w s

/-- PKT_LEN: gale program reads the payload length (R150). -/
def execPktLen (p : Proc) (w : BitVec 32) (s : State) : Res3 := issuePure .pktLen opPktLen p w s

/-- FUEL: read remaining fuel (R138). -/
def execFuel (p : Proc) (w : BitVec 32) (s : State) : Res3 := issuePure .fuel opFuel p w s

/-- TIME: x[RD] takes local time (R138). -/
def execTime (p : Proc) (w : BitVec 32) (s : State) : Res3 := issuePure .time (opTime s.now) p w s

/-- TABOR: x[RD] takes the physical tabor number (R138). -/
def execTabor (p : Proc) (w : BitVec 32) (s : State) : Res3 := issuePure .taborOp opTabor p w s

/-- CTL NOP: one unit of fuel and nothing else (R138). -/
def execCtlNop (p : Proc) (w : BitVec 32) (s : State) : Res3 := issuePure .nop opNop p w s

/-- END: the program ends with OK (R138). -/
def execEnd (p : Proc) (w : BitVec 32) (s : State) : Res3 := issueEnd p w s

/-- YIELD: the program leaves the pipeline for the next ready one (R157). -/
def execYield (p : Proc) (w : BitVec 32) (s : State) : Res3 := issueYield p w s

/-- PKT PASS: the request proceeds (R150). -/
def execPktPass (p : Proc) (w : BitVec 32) (s : State) : Res3 := issuePkt .pktPass none p w s

/-- PKT REJECT: the request completes with ACCESS_DENIED (R150). -/
def execPktReject (p : Proc) (w : BitVec 32) (s : State) : Res3 := issuePkt .pktReject (some Config.accessDenied) p w s

/-- LDG: scalar load from the range (R138). -/
def execLdg (p : Proc) (w : BitVec 32) (s : State) : Res3 := issueRange .ldg (accLdg false) p w s

/-- LDACQ: acquire load (R138, R166). -/
def execLdacq (p : Proc) (w : BitVec 32) (s : State) : Res3 := issueRange .ldacq (accLdg true) p w s

/-- STG: scalar store to the range (R138). -/
def execStg (p : Proc) (w : BitVec 32) (s : State) : Res3 := issueRange .stg accStg p w s

/-- VLDG: 64 B load from the range (R138). -/
def execVldg (p : Proc) (w : BitVec 32) (s : State) : Res3 := issueRange .vldg accVldg p w s

/-- VSTG: 64 B predicated store to the range (R138). -/
def execVstg (p : Proc) (w : BitVec 32) (s : State) : Res3 := issueRange .vstg accVstg p w s

/-- ATOM: atomic on the range (R138, R192–R194). -/
def execAtom (p : Proc) (w : BitVec 32) (s : State) : Res3 := issueRange .atom accAtom p w s

/-- RATOM: atomic through a window pair (R138). -/
def execRatom (p : Proc) (w : BitVec 32) (s : State) : Res3 := issueWin .ratom winRatom p w s

/-- RLD: scalar load through a window pair (R138). -/
def execRld (p : Proc) (w : BitVec 32) (s : State) : Res3 := issueWin .rld winRld p w s

/-- RST: scalar store through a window pair (R138). -/
def execRst (p : Proc) (w : BitVec 32) (s : State) : Res3 := issueWin .rst winRst p w s

/-- RSTF: flag-store through a window pair (R138, R242). -/
def execRstf (p : Proc) (w : BitVec 32) (s : State) : Res3 := issueWin .rstf winRstf p w s

/-- VRLD: 64 B load through a window pair (R138). -/
def execVrld (p : Proc) (w : BitVec 32) (s : State) : Res3 := issueWin .vrld winVrld p w s

/-- VRST: 64 B store through a window pair (R138). -/
def execVrst (p : Proc) (w : BitVec 32) (s : State) : Res3 := issueWin .vrst winVrst p w s

/-- COPY: posts the copy descriptor at scratch x[RS1] (R138, R248). -/
def execPhicorCopy (p : Proc) (w : BitVec 32) (s : State) : Res3 := issueCopy p w s

/-- WAITC: waits for an arrival counter (R138, R142). -/
def execWaitc (p : Proc) (w : BitVec 32) (s : State) : Res3 := issueWaitc p w s

/-- WAITF: waits for a word of the range (R138, R142). -/
def execWaitf (p : Proc) (w : BitVec 32) (s : State) : Res3 := issueWaitf p w s

/-- FENCE PUB (R166). -/
def execFencePub (p : Proc) (w : BitVec 32) (s : State) : Res3 := issueFence .fencePub fencePub false p w s

/-- FENCE ACQ (R166). -/
def execFenceAcq (p : Proc) (w : BitVec 32) (s : State) : Res3 := issueFence .fenceAcq fenceAcq false p w s

/-- FENCE FAB: also sends the open messages that carry records of its program (R166, R244). -/
def execFenceFab (p : Proc) (w : BitVec 32) (s : State) : Res3 := issueFence .fenceFab fenceFab true p w s

end Sys2Proof.Machine
end

