-- ==== Sys2Proof/Machine/Recovery.lean ====
section
/-!
DEFINITION. Watchdogs, faults, the reset domains, Tocsin A and B, the hardwired path, escalation, and salvage
(chapter 18 of the spec).
-/

namespace Sys2Proof.Machine

/-! Watchdogs and faults (R466, R467, R477). -/

/-- The parts that are watched work: past step 1 of boot. -/
def watched (s : State) : Bool := s.powered && 1 ≤ s.bt.stage

/-- CTX_STALL: the running context of a tabor issues nothing for CTX_STALL_US, with nothing of it outstanding (R466).
DESIGN CHOICE: log entry 57. -/
def execCtxStall (tabor : Nat) (s : State) : Res3 :=
  .next (match (getTab s tabor).ctxs.find? fun c => c.state = .running with
  | none => s
  | some c =>
    if !watched s || c.hold ≠ .none || c.pend.any (fun p => p.done.isNone) then s
    else fault 0x02 0 tabor c.tenant [.ctx tabor c.id] s)

/-- WAIT_LIMIT_EXPIRY: a WAITC or WAITF has held its program for WAIT_LIMIT_MS: the program ends with TIMEOUT (R466). -/
def execWaitLimitExpiry (tabor ctx : Nat) (s : State) : Res3 :=
  .next (match findCtx s tabor ctx with
  | none => s
  | some c =>
    let waits : Bool := match c.hold with
      | .counter _ _ _ => true
      | .word _ _ _ => true
      | _ => false
    if !watched s || !waits || c.ending.isSome then s
    else settleAll (endCtx tabor ctx Config.timeout (s.reach (c.holdSince + 1000000 * Par.waitLimitMs s))))

/-- An item's engine is to make progress now: the item waits for nothing that R467 leaves out, and is no program and
no open round. DESIGN CHOICE: log entry 57. -/
def engineDue (s : State) (n : Nat) (i : Item) : Bool :=
  let waits : Bool := match i.wait, i.src.queue with
    | .none, _ => true
    | .remote, _ => true
    | .engine, _ => true
    | .host _, some (p, _, _) => (getPort s p).up
    | _, _ => false
  i.started && i.ended.isNone && waits && (ctxsOf s n).isEmpty && !s.co.tabors.any (fun kv => kv.2.queue.any fun q => q.item = n) &&
    !s.sv.rounds.any fun kv => kv.2.item = n && !kv.2.finished

/-- ITEM_ENGINE: the engine of an item completes no step for ENGINE_WATCHDOG_MS (R466).
DESIGN CHOICE: log entries 57, 58. -/
def execItemEngine (item : Nat) (s : State) : Res3 :=
  .next (match getItem? s item with
  | none => s
  | some i => if !watched s || !engineDue s item i then s else fault 0x03 0 (resetTabor s [item]) i.tenant [.item item] s)

/-- The home context of a tabor has admitted work. -/
def homeBusy (s : State) (t : Nat) : Bool :=
  (sliversOf s t).any fun sl =>
    s.ch.txns.any (fun kv => sliverOf kv.1 = sl) || s.ch.comb.any (fun kv => kv.1 = sl && !kv.2.isEmpty) ||
      s.ch.queues.any fun kv => kv.1 = sl && !kv.2.isEmpty

/-- HOME_WATCHDOG: a home context with admitted work retires nothing for HOME_WATCHDOG_US (R466). -/
def execHomeWatchdog (tabor : Nat) (s : State) : Res3 :=
  .next (if !watched s || 4352 ≤ tabor || !taborGood s tabor || !homeBusy s tabor then s else fault 0x05 1 tabor 0 [] s)

/-- GALE_STALL: a Gale processor or a copy engine with work queued completes no step for ENGINE_WATCHDOG_MS (R466). -/
def execGaleStall (port : Nat) (s : State) : Res3 :=
  .next (
    let work := s.co.gale.has port || !(s.fa.galeWait.getD port []).isEmpty || s.fa.copies.any fun kv => kv.2.port = port
    if !watched s || 32 ≤ port || !work then s else fault 0x08 3 port 0 [] s)

/-- TIER_FAULT: a memory, Drift or Frost controller with work queued completes no step for ENGINE_WATCHDOG_MS (R466). -/
def execTierFault (s : State) : Res3 := .next (if watched s then fault 0x0F 6 0 0 [] s else s)

/-- KIT_FAULT: a fault of a kit's clock, voltage domain or shared logic (R477). -/
def execKitFault (kit : Nat) (s : State) : Res3 :=
  .next (if !watched s || 64 ≤ kit || s.co.deadKits.mem kit then s else fault 0x07 2 kit 0 [] s)

/-- PORT_LOGIC: an uncorrectable error in a port's MAC, Gale or Drumline state (R477). -/
def execPortLogic (port : Nat) (s : State) : Res3 := .next (if !watched s || 32 ≤ port then s else fault 0x09 3 port 0 [] s)

/-- PORT_SERDES: a fault of a port's SerDes or PCS that training must clear (R477). -/
def execPortSerdes (port : Nat) (s : State) : Res3 := .next (if !watched s || 32 ≤ port then s else fault 0x0A 4 port 0 [] s)

/-- MESH_FAULT: an uncorrectable error in the mesh domain's stores (R477). -/
def execMeshFault (s : State) : Res3 := .next (if watched s then fault 0x0E 6 0 0 [] s else s)

/-! Tocsin A and Tocsin B (R468, R482, R484). -/

/-- TOCSIN_WATCH_US, in ns (R468, R494). -/
def tocsinWatch : Nat := 500000

/-- TOCSIN_HEARTBEAT: a Tocsin writes its heartbeat, every 100 µs (R468). -/
def execTocsinHeartbeat (tocsin : Nat) (s : State) : Res3 :=
  .next (
    if !watched s then s
    else if tocsin = 0 && s.rc.tocsinA = 0 then
      let s := s.reach (s.rc.beatA + 100000)
      s.setRc { s.rc with beatA := s.now }
    else if tocsin = 1 && s.rc.tocsinB = 0 then
      let s := s.reach (s.rc.beatB + 100000)
      s.setRc { s.rc with beatB := s.now }
    else s)

/-- CARILLON_WATCHDOG: Tocsin A misses Tocsin B's heartbeat and resets the Carillon domain (R482). -/
def execCarillonWatchdog (s : State) : Res3 :=
  .next (
    if !watched s || s.rc.tocsinA ≠ 0 || s.rc.tocsinB ≠ 0 then s
    else fault 0x0B 5 0 0 [] (s.reach (s.rc.beatB + tocsinWatch)))

/-- TOCSIN_A_HEARTBEAT: Tocsin B misses Tocsin A's heartbeat and restarts it; within 1 s of a restart, the island has
failed (R482, R484). DESIGN CHOICE: log entry 60. -/
def execTocsinAHeartbeat (s : State) : Res3 :=
  .next (
    if !watched s || s.rc.tocsinA ≠ 0 || s.rc.tocsinB ≠ 0 then s
    else
      let s := s.reach (s.rc.beatA + tocsinWatch)
      if s.rc.restartedA.any (fun t => s.now ≤ t + 1000000000) then failIsland s
      else
        let s := fault 0x0C 7 0 0 [] s
        markRun 7 0 (s.setRc { s.rc with tocsinA := 1 }))

/-- Resets that a Tocsin handles and that are RUNNING begin again (R482).
DESIGN CHOICE: log entry 59. -/
def resumeResets (mine : Reset → Bool) (s : State) : State :=
  let warm := s.rc.resets.any fun x => x.domain = 6 && mine x
  s.setRc { s.rc with
    resets := s.rc.resets.map fun x => if mine x then { x with run := false } else x
    warmStep := if warm then 0 else s.rc.warmStep }

/-- TOCSIN_RESTARTED: a restarted Tocsin reads its queue and resumes its RUNNING resets (R482).
DESIGN CHOICE: log entry 59. -/
def execTocsinRestarted (tocsin : Nat) (s : State) : Res3 :=
  .next (
    if !s.powered then s
    else if tocsin = 0 && s.rc.tocsinA = 1 then
      let s := s.setRc { s.rc with tocsinA := 0, restartedA := some s.now, beatA := s.now }
      raise 0x1F1 0 0 0 (resumeResets (fun x => x.domain ≠ 7) s)
    else if tocsin = 1 && s.rc.tocsinB = 1 then
      let s := s.setRc { s.rc with tocsinB := 0, beatB := s.now }
      raise 0x1F1 1 0 0 (resumeResets (fun x => s.rc.islandFailed && x.domain ≠ 5) s)
    else s)

/-- ISLAND_FAILED: the island's wake logic has failed to start a clock in ten times its bound, or Tocsin A has missed
its heartbeat again (R484). -/
def execIslandFailed (s : State) : Res3 := .next (if watched s then failIsland s else s)

/-! The hardwired path (R485, R486). -/

/-- HARDWIRED_PATH_FIRE: both timers of 2 ms have expired, that of a failed Tocsin A at once; or a quiesce has been
ordered. FAULT_N is asserted, the ports stop, and DRAM is in self-refresh (R485, R486).
DESIGN CHOICE: log entry 65. -/
def execHardwiredPathFire (s : State) : Res3 :=
  .next (
    if !s.powered then s
    else
      let expiry := max (if s.rc.tocsinA = 2 then 0 else s.rc.beatA + 2000000) (s.rc.beatB + 2000000)
      let s := if s.rc.quiesceOrdered then s else s.reach expiry
      let s := s.setPw { s.pw with faultLow := true, dramSelfRefresh := true }
      s.setRc { s.rc with quiesced := true, quiesceOrdered := false, deviceState := 2 })

/-! The reset domains (R469–R471, R475). -/

/-- The reset of a domain that has been decided. -/
def resetOf (s : State) (domain index : Nat) : Option Reset :=
  s.rc.resets.find? fun x => x.domain = domain && x.index = index

/-- TENANT_CONTEXT_RESET: the contexts and items of a reset end (R469, R472–R474). -/
def execTenantContextReset (tabor : Nat) (s : State) : Res3 :=
  .next (match resetOf s 0 tabor with
  | none => s
  | some x => if !s.powered then s else settleAll (x.tasks.foldl (fun s k => abortTask k s) (markRun 0 tabor s)))

/-- The tabors of a kit. -/
def taborsIn (kit : Nat) : List Nat := (List.range 68).map fun p => kit * 68 + p

/-- KIT_RESET: a kit's program contexts end, what its slivers had admitted is not applied, and its slices are written
back (R128, R470, R475). -/
def execKitReset (kit : Nat) (s : State) : Res3 :=
  .next (match resetOf s 2 kit with
  | none => s
  | some x =>
    if !s.powered then s
    else
      let s := markRun 2 kit s
      let sls := (taborsIn kit).flatMap (sliversOf s)
      let s := dropLedgerOf sls (dropAdmitted sls s)
      let s := (taborsIn kit).foldl (fun s t => readOut t [] (endContexts t s)) s
      settleAll (x.tasks.foldl (fun s k => abortTask k s) s))

/-- What is inside a fabric port is lost: requests that wait for or run on its Gale processor are refused, running copy
descriptors end, and frames queued at it are gone (R470, R473). DESIGN CHOICE: log entry 64. -/
def losePort (port : Nat) (s : State) : State :=
  let waiting := s.fa.galeWait.getD port []
  let s := s.setFa { s.fa with galeWait := s.fa.galeWait.erase port }
  let s := waiting.foldl (fun s q =>
    endPkt q.1 q.2.1 q.2.2.1 (modOpen q.1 q.2.1 q.2.2.1 (fun o => { o with failed := some Config.abortedReset }) s)) s
  let s := galeDone port (some Config.abortedReset) s
  let stop := fun (c : Copy) =>
    if c.port = port && c.running then
      { c with failed := c.failed <|> some (if c.sentBytes = 0 then Config.abortedReset else Config.outcomeUnknown) }
    else c
  let here := fun (k : Nat) => k / 2 = port
  s.setFa { s.fa with
    copies := s.fa.copies.mapVal fun _ c => stop c
    ctl := s.fa.ctl.keep fun k _ => !here k
    mgmt := s.fa.mgmt.keep fun k _ => !here k
    subs := s.fa.subs.mapVal fun k p => if here k then { p with sending := none } else p }

/-- PORT_RESET: a port is reset, with its lanes kept or retrained (R469, R470).
DESIGN CHOICE: log entry 64. -/
def execPortReset (port : Nat) (retrain : Bool) (s : State) : Res3 :=
  .next (
    let d := if retrain then 4 else 3
    match resetOf s d port with
    | none => s
    | some x =>
      if !s.powered then s
      else
        let s := losePort port (markRun d port s)
        let s := x.tasks.foldl (fun s k => abortTask k s) s
        if retrain then [2 * port, 2 * port + 1].foldl (fun s n => retrainSub n s) s else s)

/-- CARILLON_RESET: Carillon, Tocsin B, and the ODP transports are reset (R469, R470, R528, R537). -/
def execCarillonReset (s : State) : Res3 :=
  .next (match resetOf s 5 0 with
  | none => s
  | some _ =>
    if !s.powered then s
    else
      let s := wipeCarillon (markRun 5 0 s)
      s.setRc { s.rc with tocsinB := 1 })

/-- CHIP_WARM_RESET: fabric ports drop frames and host fetching stops (R471 step 1).
DEDUCED: log entry 68. -/
def execChipWarmReset (s : State) : Res3 :=
  .next (match resetOf s 6 0 with
  | none => s
  | some x =>
    if !s.alive || x.run || s.rc.warmStep ≠ 0 then s
    else
      let s := returnForeign (markRun 6 0 s)
      let s := s.setFa { s.fa with quietUntil := some (x.start + 250000000) }
      s.setRc { s.rc with warmStep := 1 })

/-- WARM_RESET_DRAIN_DONE: Cloudbank and Frost's buffer have been written back, and every domain but the island is
reset (R471 steps 2 and 3). -/
def execWarmResetDrainDone (s : State) : Res3 :=
  .next (
    if !s.powered || s.rc.warmStep ≠ 1 then s
    else
      let s := flushLines s
      let s := if s.bt.mounted then frostCommit s else s
      let s := wipeChip (stopPorts (detach s))
      s.setRc { s.rc with warmStep := 3 })

/-- WARM_RESET_DOMAINS_DONE: the domains are reset and the home firmware is loaded (R471 step 3). -/
def execWarmResetDomainsDone (s : State) : Res3 :=
  .next (if !s.powered || s.rc.warmStep ≠ 3 then s else s.setRc { s.rc with warmStep := 4 })

/-- Tabors whose fence the chip warm reset has taken over are fenced (R481).
DESIGN CHOICE: log entries 66, 76. -/
def fenceListed (s : State) : State :=
  let ts := (s.rc.resets.filter fun x => x.domain = 6).flatMap Reset.fences
  ts.foldl (fun s t => if t < 4352 && !s.co.fused.mem t && !s.co.fenced.mem t then markFenced t s else s) s

/-- WARM_RESET_RESTORE_DONE: the Sliver Map is built from FENCED_MAP, and the tables are restored (R471 step 4).
DESIGN CHOICE: log entry 66. -/
def execWarmResetRestoreDone (s : State) : Res3 :=
  .next (
    if !s.powered || s.rc.warmStep ≠ 4 then s
    else
      let s := buildMap (fenceListed s)
      let s := s.setTi { s.ti with homeB := s.ti.homeA }
      let s := s.setFr { s.fr with commitRecord := false }
      let s := s.setRc { s.rc with warmStep := 5, tocsinB := 0 }
      checkHomes s)

/-- WARM_RESET_DONE: completions are posted, host fetching resumes, and the fabric ports train (R257, R471 step 5,
R473, R559). DESIGN CHOICE: log entry 67. -/
def execWarmResetDone (s : State) : Res3 :=
  .next (
    if !s.powered || s.rc.warmStep ≠ 5 then s
    else
      let s := startPorts (postAll (s.setRc { s.rc with warmStep := 0 }))
      let s := s.setFa { s.fa with ledgerHold := some (s.now + 8000000) }
      resumeDrums (s.setBt { s.bt with regOwed := true, regWarm := true, regState := 0, regWaits := false }))

/-! The ends of resets (R481, R483, R487). -/

/-- The bound of a domain in ns (R469). -/
def resetBound : Nat → Nat
  | 0 => 20000
  | 1 => 150000
  | 2 => 400000
  | 3 => 2000000
  | 4 => 300000000
  | 5 => 40000000
  | 6 => 60000000
  | _ => 1000000

/-- The last step of a reset has been performed. -/
def resetOver (s : State) (x : Reset) : Bool :=
  x.run && match x.domain with
  | 1 => !s.co.fences.has x.index && (s.co.fenced.mem x.index || s.co.fused.mem x.index)
  | 2 => x.fences.all fun t => !s.co.fences.has t && (s.co.fenced.mem t || s.co.fused.mem t)
  | 5 => s.rc.tocsinB = 0
  | 6 => s.rc.warmStep = 0
  | 7 => s.rc.tocsinA = 0
  | _ => true

/-- A reset is no longer in progress. -/
def removeReset (x : Reset) (s : State) : State :=
  s.setRc { s.rc with resets := s.rc.resets.filter fun y => !(y.domain = x.domain && y.index = x.index) }

/-- Resets of an instance that ended DONE in the last ESCALATE_WINDOW_S (R487).
DESIGN CHOICE: log entry 61. -/
def recentResets (s : State) (domain index : Nat) : Nat :=
  (s.rc.counted.filter fun c => c.1 = domain && c.2.1 = index && s.now ≤ c.2.2 + 1000000000 * Par.escalateWindowS s).length

/-- RESET_DONE: a reset ends DONE: its record goes to the history, RESET_DONE is raised, and escalation is counted
(R479, R487, R491). DESIGN CHOICE: log entry 61. -/
def execResetDone (domain index : Nat) (s : State) : Res3 :=
  .next (match resetOf s domain index with
  | none => s
  | some x =>
    if !s.powered || !resetOver s x then s
    else
      let s := match recordOf s x.seq with
        | some r => let r := { r with action := 2, ended := s.now }
                    raise 0x1F0 0 (faultWord0 r) 0 (retire r s)
        | none => s
      let s := removeReset x s
      if x.cause = 0x11 || x.cause = 0x12 then s
      else
        let s := s.setRc { s.rc with counted := s.rc.counted ++ [(domain, index, s.now)] }
        if Par.escalateCount s ≤ recentResets s domain index then leaveService 1 (domain + 2 ^ 16 * index) s else s)

/-- The reset of an enclosing domain follows a failed one, with the same cause; it takes over its tasks and fences
(R481). DESIGN CHOICE: log entry 63. -/
def escalate (x : Reset) (detail domain index : Nat) (s : State) : State :=
  let s := fault x.cause domain index detail x.tasks s
  let own := if x.domain = 1 then [x.index] else []
  s.setRc { s.rc with resets := s.rc.resets.map fun y =>
    if (y.domain = domain && y.index = index) || encloses y.domain y.index domain index then
      { y with fences := y.fences ++ own ++ x.fences }
    else y }

/-- A kit is fenced whole: its tabors are fenced, its slivers are adopted, and it stays unclocked (R128).
DESIGN CHOICE: log entry 63. -/
def fenceKit (kit : Nat) (s : State) : State :=
  let ts := (taborsIn kit).filter fun t => !s.co.fused.mem t && !s.co.fenced.mem t
  let sls := (taborsIn kit).flatMap (sliversOf s)
  let s := dropLedgerOf sls (dropAdmitted sls s)
  let s := ts.foldl (fun s t => readOut t [] (endQueued t (endContexts t s))) s
  let s := s.setCo { s.co with
    deadKits := s.co.deadKits.add kit
    fences := s.co.fences.keep fun t _ => t / 68 ≠ kit
    tabors := s.co.tabors.keep fun t _ => t / 68 ≠ kit }
  let s := loseChime kit (ts.foldl (fun s t => markFenced t s) s)
  settleAll (sls.foldl (fun s sl => rehome sl kit (newHome s kit) s) s)

/-- A kit's reset has failed: the third time within 60 s the kit is fenced whole, else the chip is reset (R128, R481).
DESIGN CHOICE: log entry 63. -/
def kitFailed (x : Reset) (detail : Nat) (s : State) : State :=
  let fails := (s.rc.kitFails.filter fun f => s.now < f.2 + 60000000000) ++ [(x.index, s.now)]
  let s := s.setRc { s.rc with kitFails := fails }
  if 3 ≤ (fails.filter fun f => f.1 = x.index).length then fenceKit x.index s else escalate x detail 6 0 s

/-- A chip warm reset has failed: the device goes out of service, or, in that transition, it is quiesced (R481, R483). -/
def chipFailed (s : State) : State :=
  let s := s.setRc { s.rc with warmStep := 0 }
  if s.rc.oosRunning then
    raise 0x1F3 0 s.rc.oosReason s.rc.oosArg (s.setRc { s.rc with oosRunning := false, deviceState := 2, quiesceOrdered := true })
  else leaveService 3 0 s

/-- RESET_BOUND_EXPIRY: a reset has not ended within its bound: it is FAILED and escalates (R481). -/
def execResetBoundExpiry (domain index : Nat) (s : State) : Res3 :=
  .next (match resetOf s domain index with
  | none => s
  | some x =>
    if !s.powered then s
    else
      let s := s.reach (x.start + resetBound domain)
      let detail := ((recordOf s x.seq).map FaultRec.detail).getD 0
      let s := removeReset x (endRecord x.seq 4 0 s)
      match domain with
      | 0 => escalate x detail 1 index s
      | 1 => escalate x detail 2 (index / 68) s
      | 2 => kitFailed x detail s
      | 3 => escalate x detail 4 index s
      | 4 => escalate x detail 6 0 s
      | 5 => escalate x detail 6 0 s
      | 6 => chipFailed s
      | _ => failIsland s)

/-- OUT_OF_SERVICE: the warm reset of the out-of-service transition has ended: the device enters salvage mode, or is
quiesced (R483, R489, R559). DESIGN CHOICE: log entry 62. -/
def execOutOfService (s : State) : Res3 :=
  .next (
    if !s.powered || !s.rc.oosRunning || s.rc.warmStep ≠ 0 || (resetOf s 6 0).isSome then s
    else if Par.salvageEnable s = 0 then
      raise 0x1F3 0 s.rc.oosReason s.rc.oosArg (s.setRc { s.rc with oosRunning := false, deviceState := 2, quiesceOrdered := true })
    else
      let s := (s.setRc { s.rc with oosRunning := false, deviceState := 1 }).setSv { s.sv with suspended := true }
      let s := raise 0x1F4 0 0 0 (raise 0x1F3 0 s.rc.oosReason s.rc.oosArg s)
      beginRegistration (s.setBt { s.bt with regOwed := true }))

end Sys2Proof.Machine
end

