-- ==== Sys2Proof/Machine/Dispatch.lean ====
section
/-!
DEFINITION. Which meaning each command has.
-/

namespace Sys2Proof.Machine

def exec (i : Instr) (s : State) : Host.Outcome State Fault Refusal :=
  match i with
  | .powerGood => Sys2Proof.Machine.execPowerGood s
  | .resetNAssert => Sys2Proof.Machine.execResetNAssert s
  | .resetNDeassert heldNs canId => Sys2Proof.Machine.execResetNDeassert heldNs canId s
  | .supplyLoss => Sys2Proof.Machine.execSupplyLoss s
  | .pwrWarnNAssert => Sys2Proof.Machine.execPwrWarnNAssert s
  | .vddCoreSag kit mv => Sys2Proof.Machine.execVddCoreSag kit mv s
  | .sagPersistExpiry => Sys2Proof.Machine.execSagPersistExpiry s
  | .shedS1Enter => Sys2Proof.Machine.execShedS1Enter s
  | .shedS2Enter => Sys2Proof.Machine.execShedS2Enter s
  | .shedS3Enter => Sys2Proof.Machine.execShedS3Enter s
  | .shedS4Enter => Sys2Proof.Machine.execShedS4Enter s
  | .s4FlushDone => Sys2Proof.Machine.execS4FlushDone s
  | .pwrSafeAssert => Sys2Proof.Machine.execPwrSafeAssert s
  | .shedLift => Sys2Proof.Machine.execShedLift s
  | .domainSleep d => Sys2Proof.Machine.execDomainSleep d s
  | .domainWake d => Sys2Proof.Machine.execDomainWake d s
  | .avsLoopPeriod lowest => Sys2Proof.Machine.execAvsLoopPeriod lowest s
  | .droopDetected kit => Sys2Proof.Machine.execDroopDetected kit s
  | .freqLoopPeriod => Sys2Proof.Machine.execFreqLoopPeriod s
  | .pkgPowerLoopPeriod meanMw => Sys2Proof.Machine.execPkgPowerLoopPeriod meanMw s
  | .tempLoopPeriod kits hbm others overRated => Sys2Proof.Machine.execTempLoopPeriod kits hbm others overRated s
  | .bootIslandUp => Sys2Proof.Machine.execBootIslandUp s
  | .imageLoaded => Sys2Proof.Machine.execImageLoaded s
  | .dramTrained failedStacks failedDimms => Sys2Proof.Machine.execDramTrained failedStacks failedDimms s
  | .mountDone missingDies missingChannels => Sys2Proof.Machine.execMountDone missingDies missingChannels s
  | .bootReady => Sys2Proof.Machine.execBootReady s
  | .recoveryStackTrained stack0Ok stack4Ok => Sys2Proof.Machine.execRecoveryStackTrained stack0Ok stack4Ok s
  | .registrationAttempt => Sys2Proof.Machine.execRegistrationAttempt s
  | .regAck who m => Sys2Proof.Machine.execRegAck who m s
  | .fwStage who m => Sys2Proof.Machine.execFwStage who m s
  | .fwCommit who m => Sys2Proof.Machine.execFwCommit who m s
  | .fwProgramDone readsBackEqual => Sys2Proof.Machine.execFwProgramDone readsBackEqual s
  | .svnCommit who m => Sys2Proof.Machine.execSvnCommit who m s
  | .fabricKeySet who m => Sys2Proof.Machine.execFabricKeySet who m s
  | .fabricKeyActive who m => Sys2Proof.Machine.execFabricKeyActive who m s
  | .rootKeyRevoke who m => Sys2Proof.Machine.execRootKeyRevoke who m s
  | .debugUnlock who m => Sys2Proof.Machine.execDebugUnlock who m s
  | .getVersion port => Sys2Proof.Machine.execGetVersion port s
  | .getCapabilities port ver => Sys2Proof.Machine.execGetCapabilities port ver s
  | .negotiateAlgorithms port ver asym hash => Sys2Proof.Machine.execNegotiateAlgorithms port ver asym hash s
  | .getDigests port ver => Sys2Proof.Machine.execGetDigests port ver s
  | .getCertificate port ver slot offset len => Sys2Proof.Machine.execGetCertificate port ver slot offset len s
  | .challenge port ver slot nonce => Sys2Proof.Machine.execChallenge port ver slot nonce s
  | .getMeasurements port ver index nonce => Sys2Proof.Machine.execGetMeasurements port ver index nonce s
  | .driftRound => Sys2Proof.Machine.execDriftRound s
  | .drumbeatRunEnd task => Sys2Proof.Machine.execDrumbeatRunEnd task s
  | .frostGcRun moved => Sys2Proof.Machine.execFrostGcRun moved s
  | .scrubRun badLines marginal => Sys2Proof.Machine.execScrubRun badLines marginal s
  | .cumulusEvictionRound => Sys2Proof.Machine.execCumulusEvictionRound s
  | .journalFlush => Sys2Proof.Machine.execJournalFlush s
  | .driftChunkCopyDone move => Sys2Proof.Machine.execDriftChunkCopyDone move s
  | .switchComplete move => Sys2Proof.Machine.execSwitchComplete move s
  | .switchStallExpiry move => Sys2Proof.Machine.execSwitchStallExpiry move s
  | .moveTimeout move => Sys2Proof.Machine.execMoveTimeout move s
  | .sourceRefcountZero tier slot => Sys2Proof.Machine.execSourceRefcountZero tier slot s
  | .uncorrectableLine pha copy => Sys2Proof.Machine.execUncorrectableLine pha copy s
  | .moduleLost module => Sys2Proof.Machine.execModuleLost module s
  | .pageRebuildDone page => Sys2Proof.Machine.execPageRebuildDone page s
  | .waitingPageHomed page => Sys2Proof.Machine.execWaitingPageHomed page s
  | .tierDrainDone => Sys2Proof.Machine.execTierDrainDone s
  | .drained who m => Sys2Proof.Machine.execDrained who m s
  | .frostUnitReadDone unit corrected decoded => Sys2Proof.Machine.execFrostUnitReadDone unit corrected decoded s
  | .frostReadRetryDone unit decoded => Sys2Proof.Machine.execFrostReadRetryDone unit decoded s
  | .frostParityRebuildDone unit => Sys2Proof.Machine.execFrostParityRebuildDone unit s
  | .readDisturbRelocate block moved => Sys2Proof.Machine.execReadDisturbRelocate block moved s
  | .bufferUnitFillDone unit => Sys2Proof.Machine.execBufferUnitFillDone unit s
  | .flushAgeExpiry unit => Sys2Proof.Machine.execFlushAgeExpiry unit s
  | .frostProgramDone unit loc ok => Sys2Proof.Machine.execFrostProgramDone unit loc ok s
  | .journalGroupCommit => Sys2Proof.Machine.execJournalGroupCommit s
  | .dieBusyTimeout channel die => Sys2Proof.Machine.execDieBusyTimeout channel die s
  | .flashDieLost channel die => Sys2Proof.Machine.execFlashDieLost channel die s
  | .dieRebuildDone channel die moved => Sys2Proof.Machine.execDieRebuildDone channel die moved s
  | .flashChannelLost channel => Sys2Proof.Machine.execFlashChannelLost channel s
  | .degradedPageMoved page => Sys2Proof.Machine.execDegradedPageMoved page s
  | .reencryptDone tenant => Sys2Proof.Machine.execReencryptDone tenant s
  | .close who m => Sys2Proof.Machine.execClose who m s
  | .closeRecordProgrammed => Sys2Proof.Machine.execCloseRecordProgrammed s
  | .reservePct who m => Sys2Proof.Machine.execReservePct who m s
  | .fenceTabor who m => Sys2Proof.Machine.execFenceTabor who m s
  | .fenceClear who m => Sys2Proof.Machine.execFenceClear who m s
  | .taborFence tabor => Sys2Proof.Machine.execTaborFence tabor s
  | .fenceReadoutDone tabor unreadable => Sys2Proof.Machine.execFenceReadoutDone tabor unreadable s
  | .fenceRehomeDone tabor => Sys2Proof.Machine.execFenceRehomeDone tabor s
  | .scratchEccError tabor home => Sys2Proof.Machine.execScratchEccError tabor home s
  | .sliceTagError tabor => Sys2Proof.Machine.execSliceTagError tabor s
  | .invocationAdmit tabor => Sys2Proof.Machine.execInvocationAdmit tabor s
  | .programResident tabor handle => Sys2Proof.Machine.execProgramResident tabor handle s
  | .sliceExpiry tabor => Sys2Proof.Machine.execSliceExpiry tabor s
  | .waitSwitchOut tabor => Sys2Proof.Machine.execWaitSwitchOut tabor s
  | .waitConditionMet tabor ctx => Sys2Proof.Machine.execWaitConditionMet tabor ctx s
  | .rangeLoadDone tabor ctx tag => Sys2Proof.Machine.execRangeLoadDone tabor ctx tag s
  | .add p w => Sys2Proof.Machine.execAdd p w s
  | .sub p w => Sys2Proof.Machine.execSub p w s
  | .andOp p w => Sys2Proof.Machine.execAnd p w s
  | .orOp p w => Sys2Proof.Machine.execOr p w s
  | .xorOp p w => Sys2Proof.Machine.execXor p w s
  | .sll p w => Sys2Proof.Machine.execSll p w s
  | .srl p w => Sys2Proof.Machine.execSrl p w s
  | .sra p w => Sys2Proof.Machine.execSra p w s
  | .slt p w => Sys2Proof.Machine.execSlt p w s
  | .sltu p w => Sys2Proof.Machine.execSltu p w s
  | .minOp p w => Sys2Proof.Machine.execMin p w s
  | .maxOp p w => Sys2Proof.Machine.execMax p w s
  | .minu p w => Sys2Proof.Machine.execMinu p w s
  | .maxu p w => Sys2Proof.Machine.execMaxu p w s
  | .seq p w => Sys2Proof.Machine.execSeq p w s
  | .sne p w => Sys2Proof.Machine.execSne p w s
  | .addi p w => Sys2Proof.Machine.execAddi p w s
  | .andi p w => Sys2Proof.Machine.execAndi p w s
  | .ori p w => Sys2Proof.Machine.execOri p w s
  | .xori p w => Sys2Proof.Machine.execXori p w s
  | .slli p w => Sys2Proof.Machine.execSlli p w s
  | .srli p w => Sys2Proof.Machine.execSrli p w s
  | .srai p w => Sys2Proof.Machine.execSrai p w s
  | .slti p w => Sys2Proof.Machine.execSlti p w s
  | .lui p w => Sys2Proof.Machine.execLui p w s
  | .mul p w => Sys2Proof.Machine.execMul p w s
  | .mulh p w => Sys2Proof.Machine.execMulh p w s
  | .mulhu p w => Sys2Proof.Machine.execMulhu p w s
  | .div p w => Sys2Proof.Machine.execDiv p w s
  | .divu p w => Sys2Proof.Machine.execDivu p w s
  | .rem p w => Sys2Proof.Machine.execRem p w s
  | .remu p w => Sys2Proof.Machine.execRemu p w s
  | .pset p w => Sys2Proof.Machine.execPset p w s
  | .pget p w => Sys2Proof.Machine.execPget p w s
  | .pand p w => Sys2Proof.Machine.execPand p w s
  | .por p w => Sys2Proof.Machine.execPor p w s
  | .pnot p w => Sys2Proof.Machine.execPnot p w s
  | .beq p w => Sys2Proof.Machine.execBeq p w s
  | .bne p w => Sys2Proof.Machine.execBne p w s
  | .blt p w => Sys2Proof.Machine.execBlt p w s
  | .bge p w => Sys2Proof.Machine.execBge p w s
  | .bltu p w => Sys2Proof.Machine.execBltu p w s
  | .bgeu p w => Sys2Proof.Machine.execBgeu p w s
  | .j p w => Sys2Proof.Machine.execJ p w s
  | .call p w => Sys2Proof.Machine.execCall p w s
  | .ret p w => Sys2Proof.Machine.execRet p w s
  | .lds p w => Sys2Proof.Machine.execLds p w s
  | .sts p w => Sys2Proof.Machine.execSts p w s
  | .vlds p w => Sys2Proof.Machine.execVlds p w s
  | .vsts p w => Sys2Proof.Machine.execVsts p w s
  | .vgath p w => Sys2Proof.Machine.execVgath p w s
  | .vscat p w => Sys2Proof.Machine.execVscat p w s
  | .vlut p w => Sys2Proof.Machine.execVlut p w s
  | .ldg p w => Sys2Proof.Machine.execLdg p w s
  | .stg p w => Sys2Proof.Machine.execStg p w s
  | .vldg p w => Sys2Proof.Machine.execVldg p w s
  | .vstg p w => Sys2Proof.Machine.execVstg p w s
  | .ldacq p w => Sys2Proof.Machine.execLdacq p w s
  | .vadd p w => Sys2Proof.Machine.execVadd p w s
  | .vlog p w => Sys2Proof.Machine.execVlog p w s
  | .vmm p w => Sys2Proof.Machine.execVmm p w s
  | .vsh p w => Sys2Proof.Machine.execVsh p w s
  | .vcmp p w => Sys2Proof.Machine.execVcmp p w s
  | .vbcast p w => Sys2Proof.Machine.execVbcast p w s
  | .vmov p w => Sys2Proof.Machine.execVmov p w s
  | .vsel p w => Sys2Proof.Machine.execVsel p w s
  | .vext p w => Sys2Proof.Machine.execVext p w s
  | .vfadd p w => Sys2Proof.Machine.execVfadd p w s
  | .vfmul p w => Sys2Proof.Machine.execVfmul p w s
  | .vfma p w => Sys2Proof.Machine.execVfma p w s
  | .vdot p w => Sys2Proof.Machine.execVdot p w s
  | .vcvtn p w => Sys2Proof.Machine.execVcvtn p w s
  | .vcvtw p w => Sys2Proof.Machine.execVcvtw p w s
  | .vmxq p w => Sys2Proof.Machine.execVmxq p w s
  | .vred p w => Sys2Proof.Machine.execVred p w s
  | .vredc p w => Sys2Proof.Machine.execVredc p w s
  | .vcadd p w => Sys2Proof.Machine.execVcadd p w s
  | .vperm p w => Sys2Proof.Machine.execVperm p w s
  | .atom p w => Sys2Proof.Machine.execAtom p w s
  | .ratom p w => Sys2Proof.Machine.execRatom p w s
  | .rld p w => Sys2Proof.Machine.execRld p w s
  | .rst p w => Sys2Proof.Machine.execRst p w s
  | .rstf p w => Sys2Proof.Machine.execRstf p w s
  | .vrld p w => Sys2Proof.Machine.execVrld p w s
  | .vrst p w => Sys2Proof.Machine.execVrst p w s
  | .phicorCopy p w => Sys2Proof.Machine.execPhicorCopy p w s
  | .waitc p w => Sys2Proof.Machine.execWaitc p w s
  | .fencePub p w => Sys2Proof.Machine.execFencePub p w s
  | .fenceAcq p w => Sys2Proof.Machine.execFenceAcq p w s
  | .fenceFab p w => Sys2Proof.Machine.execFenceFab p w s
  | .chmInit p w => Sys2Proof.Machine.execChmInit p w s
  | .chmUpd p w => Sys2Proof.Machine.execChmUpd p w s
  | .chmVupd p w => Sys2Proof.Machine.execChmVupd p w s
  | .chmFin p w => Sys2Proof.Machine.execChmFin p w s
  | .endOp p w => Sys2Proof.Machine.execEnd p w s
  | .yield p w => Sys2Proof.Machine.execYield p w s
  | .ctlNop p w => Sys2Proof.Machine.execCtlNop p w s
  | .timeOp p w => Sys2Proof.Machine.execTime p w s
  | .fuelOp p w => Sys2Proof.Machine.execFuel p w s
  | .srseed p w => Sys2Proof.Machine.execSrseed p w s
  | .taborOp p w => Sys2Proof.Machine.execTabor p w s
  | .waitf p w => Sys2Proof.Machine.execWaitf p w s
  | .pktLd p w => Sys2Proof.Machine.execPktLd p w s
  | .pktSt p w => Sys2Proof.Machine.execPktSt p w s
  | .pktLen p w => Sys2Proof.Machine.execPktLen p w s
  | .pktPass p w => Sys2Proof.Machine.execPktPass p w s
  | .pktReject p w => Sys2Proof.Machine.execPktReject p w s
  | .odRd p w => Sys2Proof.Machine.execOdRd p w s
  | .odWr p w => Sys2Proof.Machine.execOdWr p w s
  | .odEvent p w => Sys2Proof.Machine.execOdEvent p w s
  | .wrbEntryExpiry tabor ctx => Sys2Proof.Machine.execWrbEntryExpiry tabor ctx s
  | .completionPost item => Sys2Proof.Machine.execCompletionPost item s
  | .rdS m => Sys2Proof.Machine.execRdS m s
  | .rdX m => Sys2Proof.Machine.execRdX m s
  | .upg m => Sys2Proof.Machine.execUpg m s
  | .atomX m => Sys2Proof.Machine.execAtomX m s
  | .wb m => Sys2Proof.Machine.execWb m s
  | .evictClean m => Sys2Proof.Machine.execEvictClean m s
  | .rdUc m => Sys2Proof.Machine.execRdUc m s
  | .wrUc m => Sys2Proof.Machine.execWrUc m s
  | .atomHome m => Sys2Proof.Machine.execAtomHome m s
  | .snpInv m => Sys2Proof.Machine.execSnpInv m s
  | .snpFwdS m => Sys2Proof.Machine.execSnpFwdS m s
  | .snpFwdX m => Sys2Proof.Machine.execSnpFwdX m s
  | .snpRecall m => Sys2Proof.Machine.execSnpRecall m s
  | .snpData m => Sys2Proof.Machine.execSnpData m s
  | .ackInv m => Sys2Proof.Machine.execAckInv m s
  | .ackFwd m => Sys2Proof.Machine.execAckFwd m s
  | .dataHome m => Sys2Proof.Machine.execDataHome m s
  | .gntS m => Sys2Proof.Machine.execGntS m s
  | .gntE m => Sys2Proof.Machine.execGntE m s
  | .gntM m => Sys2Proof.Machine.execGntM m s
  | .gntUpg m => Sys2Proof.Machine.execGntUpg m s
  | .atomRsp m => Sys2Proof.Machine.execAtomRsp m s
  | .wbAck m => Sys2Proof.Machine.execWbAck m s
  | .ucRsp m => Sys2Proof.Machine.execUcRsp m s
  | .refuse m => Sys2Proof.Machine.execRefuse m s
  | .combineEntryApply sliver entry => Sys2Proof.Machine.execCombineEntryApply sliver entry s
  | .backoffResend tag => Sys2Proof.Machine.execBackoffResend tag s
  | .homeTimeoutExpiry line => Sys2Proof.Machine.execHomeTimeoutExpiry line s
  | .snoopResend line => Sys2Proof.Machine.execSnoopResend line s
  | .domainHello m => Sys2Proof.Machine.execDomainHello m s
  | .domainHelloTimer => Sys2Proof.Machine.execDomainHelloTimer s
  | .domainPropose m => Sys2Proof.Machine.execDomainPropose m s
  | .domainConfirm m => Sys2Proof.Machine.execDomainConfirm m s
  | .domainCommit m => Sys2Proof.Machine.execDomainCommit m s
  | .domainRefuse m => Sys2Proof.Machine.execDomainRefuse m s
  | .formWaitExpiry => Sys2Proof.Machine.execFormWaitExpiry s
  | .peerLost node => Sys2Proof.Machine.execPeerLost node s
  | .portEnable who m => Sys2Proof.Machine.execPortEnable who m s
  | .laneSignalDetect sub => Sys2Proof.Machine.execLaneSignalDetect sub s
  | .anegComplete sub => Sys2Proof.Machine.execAnegComplete sub s
  | .eqAdaptComplete sub => Sys2Proof.Machine.execEqAdaptComplete sub s
  | .pcsLock sub partnerMac => Sys2Proof.Machine.execPcsLock sub partnerMac s
  | .trainingTimeout port pair0 pair1 => Sys2Proof.Machine.execTrainingTimeout port pair0 pair1 s
  | .mkpduRx sub ckn => Sys2Proof.Machine.execMkpduRx sub ckn s
  | .sakInstalled sub => Sys2Proof.Machine.execSakInstalled sub s
  | .linkDown sub => Sys2Proof.Machine.execLinkDown sub s
  | .laneLockLoss sub lane => Sys2Proof.Machine.execLaneLockLoss sub lane s
  | .serWindowExceeded sub errors symbols => Sys2Proof.Machine.execSerWindowExceeded sub errors symbols s
  | .retrain who m => Sys2Proof.Machine.execRetrain who m s
  | .lldpRx sub n => Sys2Proof.Machine.execLldpRx sub n s
  | .lldpTxTimer sub => Sys2Proof.Machine.execLldpTxTimer sub s
  | .neighbourAgeOut sub => Sys2Proof.Machine.execNeighbourAgeOut sub s
  | .subportTxSelect sub => Sys2Proof.Machine.execSubportTxSelect sub s
  | .xltRead f => Sys2Proof.Machine.execXltRead f s
  | .xltWrite f => Sys2Proof.Machine.execXltWrite f s
  | .flagStore f => Sys2Proof.Machine.execFlagStore f s
  | .flagStoreRelease node tc psn => Sys2Proof.Machine.execFlagStoreRelease node tc psn s
  | .atomic f => Sys2Proof.Machine.execAtomic f s
  | .bulk f => Sys2Proof.Machine.execBulk f s
  | .copyData f => Sys2Proof.Machine.execCopyData f s
  | .response f => Sys2Proof.Machine.execResponse f s
  | .applied f => Sys2Proof.Machine.execApplied f s
  | .ack f => Sys2Proof.Machine.execAck f s
  | .nak f => Sys2Proof.Machine.execNak f s
  | .ackTimer node tc => Sys2Proof.Machine.execAckTimer node tc s
  | .appliedTimer node tc => Sys2Proof.Machine.execAppliedTimer node tc s
  | .rtoExpiry node tc => Sys2Proof.Machine.execRtoExpiry node tc s
  | .responseTimeout req => Sys2Proof.Machine.execResponseTimeout req s
  | .rxPathExpiry node tc => Sys2Proof.Machine.execRxPathExpiry node tc s
  | .xltQuietExpiry => Sys2Proof.Machine.execXltQuietExpiry s
  | .rateIncreaseTick node tc => Sys2Proof.Machine.execRateIncreaseTick node tc s
  | .commit who m => Sys2Proof.Machine.execCommit who m s
  | .generationGraceExpiry => Sys2Proof.Machine.execGenerationGraceExpiry s
  | .staleResendTimer req => Sys2Proof.Machine.execStaleResendTimer req s
  | .staleHoldExpiry req => Sys2Proof.Machine.execStaleHoldExpiry req s
  | .windowOpen item => Sys2Proof.Machine.execWindowOpen item s
  | .windowClose item => Sys2Proof.Machine.execWindowClose item s
  | .flagStoreSend req => Sys2Proof.Machine.execFlagStoreSend req s
  | .gatherTimer node tc job => Sys2Proof.Machine.execGatherTimer node tc job s
  | .copyDescriptorStart copy => Sys2Proof.Machine.execCopyDescriptorStart copy s
  | .copyDone copy => Sys2Proof.Machine.execCopyDone copy s
  | .atomicReplyTimer req => Sys2Proof.Machine.execAtomicReplyTimer req s
  | .atomicRetryExpiry req => Sys2Proof.Machine.execAtomicRetryExpiry req s
  | .ledgerEntryExpiry node job seq => Sys2Proof.Machine.execLedgerEntryExpiry node job seq s
  | .ledgerSourceExpiry node job => Sys2Proof.Machine.execLedgerSourceExpiry node job s
  | .ledgerHoldExpiry => Sys2Proof.Machine.execLedgerHoldExpiry s
  | .ownHandoff item => Sys2Proof.Machine.execOwnHandoff item s
  | .handoffCommit handoff => Sys2Proof.Machine.execHandoffCommit handoff s
  | .handoffReclaim handoff => Sys2Proof.Machine.execHandoffReclaim handoff s
  | .preparedResolvePoll pha => Sys2Proof.Machine.execPreparedResolvePoll pha s
  | .counterAlloc item => Sys2Proof.Machine.execCounterAlloc item s
  | .counterFree item => Sys2Proof.Machine.execCounterFree item s
  | .counterSet item => Sys2Proof.Machine.execCounterSet item s
  | .fill port e => Sys2Proof.Machine.execFill port e s
  | .deny port e => Sys2Proof.Machine.execDeny port e s
  | .invalidate port e => Sys2Proof.Machine.execInvalidate port e s
  | .invalidateTenant port e => Sys2Proof.Machine.execInvalidateTenant port e s
  | .extentGrant port e => Sys2Proof.Machine.execExtentGrant port e s
  | .extentRevoke port e => Sys2Proof.Machine.execExtentRevoke port e s
  | .tenantCreate port e => Sys2Proof.Machine.execTenantCreate port e s
  | .tenantModify port e => Sys2Proof.Machine.execTenantModify port e s
  | .tenantDestroy port e => Sys2Proof.Machine.execTenantDestroy port e s
  | .translationTimeout tag => Sys2Proof.Machine.execTranslationTimeout tag s
  | .ptcDrainComplete ent => Sys2Proof.Machine.execPtcDrainComplete ent s
  | .drainTimeout withdrawal => Sys2Proof.Machine.execDrainTimeout withdrawal s
  | .atsTranslationCompletion tag r w addr => Sys2Proof.Machine.execAtsTranslationCompletion tag r w addr s
  | .prgResponse tag code => Sys2Proof.Machine.execPrgResponse tag code s
  | .atsInvalidateRequest port fn pasid page pages => Sys2Proof.Machine.execAtsInvalidateRequest port fn pasid page pages s
  | .quotaChargeTick => Sys2Proof.Machine.execQuotaChargeTick s
  | .quotaWindowExpiry => Sys2Proof.Machine.execQuotaWindowExpiry s
  | .hostLinkDown port unacked => Sys2Proof.Machine.execHostLinkDown port unacked s
  | .hostLinkUp port => Sys2Proof.Machine.execHostLinkUp port s
  | .vfFlr port fn => Sys2Proof.Machine.execVfFlr port fn s
  | .pfFlr port => Sys2Proof.Machine.execPfFlr port s
  | .sqEnable port fn q value => Sys2Proof.Machine.execSqEnable port fn q value s
  | .sqDisable port fn q value => Sys2Proof.Machine.execSqDisable port fn q value s
  | .sqDrainDone port fn q => Sys2Proof.Machine.execSqDrainDone port fn q s
  | .cqEnable port fn q value => Sys2Proof.Machine.execCqEnable port fn q value s
  | .cqDisable port fn q value => Sys2Proof.Machine.execCqDisable port fn q value s
  | .sqTailDoorbell port fn q value => Sys2Proof.Machine.execSqTailDoorbell port fn q value s
  | .cqHeadDoorbell port fn q value => Sys2Proof.Machine.execCqHeadDoorbell port fn q value s
  | .reqRingHeadDoorbell port value => Sys2Proof.Machine.execReqRingHeadDoorbell port value s
  | .cmdRingTailDoorbell port value => Sys2Proof.Machine.execCmdRingTailDoorbell port value s
  | .sqEntryFetch port fn q words => Sys2Proof.Machine.execSqEntryFetch port fn q words s
  | .irqTimeExpiry port fn q => Sys2Proof.Machine.execIrqTimeExpiry port fn q s
  | .mmioRegWrite port fn offset width value => Sys2Proof.Machine.execMmioRegWrite port fn offset width value s
  | .nop item => Sys2Proof.Machine.execNop item s
  | .hostToPool item => Sys2Proof.Machine.execHostToPool item s
  | .poolToHost item => Sys2Proof.Machine.execPoolToHost item s
  | .poolAtomic item => Sys2Proof.Machine.execPoolAtomic item s
  | .regionPublish item => Sys2Proof.Machine.execRegionPublish item s
  | .pageRelease item => Sys2Proof.Machine.execPageRelease item s
  | .pageHint item => Sys2Proof.Machine.execPageHint item s
  | .setProtection item => Sys2Proof.Machine.execSetProtection item s
  | .tierDrain item => Sys2Proof.Machine.execTierDrain item s
  | .loadProgram item => Sys2Proof.Machine.execLoadProgram item s
  | .unloadProgram item => Sys2Proof.Machine.execUnloadProgram item s
  | .runProgram item => Sys2Proof.Machine.execRunProgram item s
  | .progAttach item => Sys2Proof.Machine.execProgAttach item s
  | .progDetach item => Sys2Proof.Machine.execProgDetach item s
  | .copyOp item => Sys2Proof.Machine.execCopy item s
  | .roundDeclare item => Sys2Proof.Machine.execRoundDeclare item s
  | .roundCancel item => Sys2Proof.Machine.execRoundCancel item s
  | .roundContribute item => Sys2Proof.Machine.execRoundContribute item s
  | .inboxLineWrite write => Sys2Proof.Machine.execInboxLineWrite write s
  | .pieceAccumulate round piece => Sys2Proof.Machine.execPieceAccumulate round piece s
  | .unitDone round unit => Sys2Proof.Machine.execUnitDone round unit s
  | .mxBlockQuantise round array block => Sys2Proof.Machine.execMxBlockQuantise round array block s
  | .roundComplete round => Sys2Proof.Machine.execRoundComplete round s
  | .inboxHoldExpiry round => Sys2Proof.Machine.execInboxHoldExpiry round s
  | .roundStalled round => Sys2Proof.Machine.execRoundStalled round s
  | .tableCreate item => Sys2Proof.Machine.execTableCreate item s
  | .tableReplace item => Sys2Proof.Machine.execTableReplace item s
  | .tableUnpinned table => Sys2Proof.Machine.execTableUnpinned table s
  | .tableDestroy item => Sys2Proof.Machine.execTableDestroy item s
  | .embLookup item => Sys2Proof.Machine.execEmbLookup item s
  | .rowRead item k => Sys2Proof.Machine.execRowRead item k s
  | .rowUpdateEndWait item k => Sys2Proof.Machine.execRowUpdateEndWait item k s
  | .embUpdate item => Sys2Proof.Machine.execEmbUpdate item s
  | .indexCreate item => Sys2Proof.Machine.execIndexCreate item s
  | .insert item => Sys2Proof.Machine.execInsert item s
  | .delete item => Sys2Proof.Machine.execDelete item s
  | .epochPublish item => Sys2Proof.Machine.execEpochPublish item s
  | .epochPublishDone index => Sys2Proof.Machine.execEpochPublishDone index s
  | .autoPublishTimer => Sys2Proof.Machine.execAutoPublishTimer s
  | .search item => Sys2Proof.Machine.execSearch item s
  | .compact item => Sys2Proof.Machine.execCompact item s
  | .indexDestroy item => Sys2Proof.Machine.execIndexDestroy item s
  | .storeCreate item => Sys2Proof.Machine.execStoreCreate item s
  | .putOp item => Sys2Proof.Machine.execPut item s
  | .getOp item => Sys2Proof.Machine.execGet item s
  | .pin item => Sys2Proof.Machine.execPin item s
  | .unpin item => Sys2Proof.Machine.execUnpin item s
  | .drop item => Sys2Proof.Machine.execDrop item s
  | .prefetch item => Sys2Proof.Machine.execPrefetch item s
  | .storeDestroy item => Sys2Proof.Machine.execStoreDestroy item s
  | .remotePut write => Sys2Proof.Machine.execRemotePut write s
  | .remoteGet write => Sys2Proof.Machine.execRemoteGet write s
  | .remotePin write => Sys2Proof.Machine.execRemotePin write s
  | .remoteUnpin write => Sys2Proof.Machine.execRemoteUnpin write s
  | .remoteDrop write => Sys2Proof.Machine.execRemoteDrop write s
  | .remotePrefetch write => Sys2Proof.Machine.execRemotePrefetch write s
  | .remotePutDataReady item => Sys2Proof.Machine.execRemotePutDataReady item s
  | .putWaitExpiry item => Sys2Proof.Machine.execPutWaitExpiry item s
  | .getWaitExpiry item => Sys2Proof.Machine.execGetWaitExpiry item s
  | .ownWaitExpiry item => Sys2Proof.Machine.execOwnWaitExpiry item s
  | .cumulusSlotRelease store slot => Sys2Proof.Machine.execCumulusSlotRelease store slot s
  | .dropLruWaitExpiry item => Sys2Proof.Machine.execDropLruWaitExpiry item s
  | .check item => Sys2Proof.Machine.execCheck item s
  | .chimeUnitLost kit => Sys2Proof.Machine.execChimeUnitLost kit s
  | .tenantShaperSet who m => Sys2Proof.Machine.execTenantShaperSet who m s
  | .classShaperSet who m => Sys2Proof.Machine.execClassShaperSet who m s
  | .dwrrWeights who m => Sys2Proof.Machine.execDwrrWeights who m s
  | .arbiterGrant arb => Sys2Proof.Machine.execArbiterGrant arb s
  | .hpWindowExpiry arb => Sys2Proof.Machine.execHpWindowExpiry arb s
  | .ctxStall tabor => Sys2Proof.Machine.execCtxStall tabor s
  | .waitLimitExpiry tabor ctx => Sys2Proof.Machine.execWaitLimitExpiry tabor ctx s
  | .itemEngine item => Sys2Proof.Machine.execItemEngine item s
  | .homeWatchdog tabor => Sys2Proof.Machine.execHomeWatchdog tabor s
  | .galeStall port => Sys2Proof.Machine.execGaleStall port s
  | .tierFault => Sys2Proof.Machine.execTierFault s
  | .kitFault kit => Sys2Proof.Machine.execKitFault kit s
  | .portLogic port => Sys2Proof.Machine.execPortLogic port s
  | .portSerdes port => Sys2Proof.Machine.execPortSerdes port s
  | .meshFault => Sys2Proof.Machine.execMeshFault s
  | .tocsinHeartbeat tocsin => Sys2Proof.Machine.execTocsinHeartbeat tocsin s
  | .carillonWatchdog => Sys2Proof.Machine.execCarillonWatchdog s
  | .tocsinAHeartbeat => Sys2Proof.Machine.execTocsinAHeartbeat s
  | .tocsinRestarted tocsin => Sys2Proof.Machine.execTocsinRestarted tocsin s
  | .islandFailed => Sys2Proof.Machine.execIslandFailed s
  | .hardwiredPathFire => Sys2Proof.Machine.execHardwiredPathFire s
  | .tenantContextReset tabor => Sys2Proof.Machine.execTenantContextReset tabor s
  | .kitReset kit => Sys2Proof.Machine.execKitReset kit s
  | .portReset port retrain => Sys2Proof.Machine.execPortReset port retrain s
  | .carillonReset => Sys2Proof.Machine.execCarillonReset s
  | .chipWarmReset => Sys2Proof.Machine.execChipWarmReset s
  | .warmResetDrainDone => Sys2Proof.Machine.execWarmResetDrainDone s
  | .warmResetDomainsDone => Sys2Proof.Machine.execWarmResetDomainsDone s
  | .warmResetRestoreDone => Sys2Proof.Machine.execWarmResetRestoreDone s
  | .warmResetDone => Sys2Proof.Machine.execWarmResetDone s
  | .resetDone domain index => Sys2Proof.Machine.execResetDone domain index s
  | .resetBoundExpiry domain index => Sys2Proof.Machine.execResetBoundExpiry domain index s
  | .outOfService => Sys2Proof.Machine.execOutOfService s
  | .resetRequest who m => Sys2Proof.Machine.execResetRequest who m s
  | .takeOutOfService who m => Sys2Proof.Machine.execTakeOutOfService who m s
  | .eventOverrun who m => Sys2Proof.Machine.execEventOverrun who m s
  | .odpRead who m => Sys2Proof.Machine.execOdpRead who m s
  | .odpWrite who m => Sys2Proof.Machine.execOdpWrite who m s
  | .describe who m => Sys2Proof.Machine.execDescribe who m s
  | .segReadInit who m => Sys2Proof.Machine.execSegReadInit who m s
  | .segWriteInit who m => Sys2Proof.Machine.execSegWriteInit who m s
  | .segData who m => Sys2Proof.Machine.execSegData who m s
  | .segAck who m => Sys2Proof.Machine.execSegAck who m s
  | .segEnd who m => Sys2Proof.Machine.execSegEnd who m s
  | .lockOp who m => Sys2Proof.Machine.execLock who m s
  | .unlockOp who m => Sys2Proof.Machine.execUnlock who m s
  | .abortOp who m => Sys2Proof.Machine.execAbort who m s
  | .segTimeout who tid => Sys2Proof.Machine.execSegTimeout who tid s
  | .lockMaxExpiry area => Sys2Proof.Machine.execLockMaxExpiry area s
  | .tidRetentionExpiry who tid => Sys2Proof.Machine.execTidRetentionExpiry who tid s
  | .configStoreDone => Sys2Proof.Machine.execConfigStoreDone s
  | .mgmtMode who m => Sys2Proof.Machine.execMgmtMode who m s
  | .restoreDefaults who m => Sys2Proof.Machine.execRestoreDefaults who m s
  | .triggerLost who m => Sys2Proof.Machine.execTriggerLost who m s
  | .lastVerify who m => Sys2Proof.Machine.execLastVerify who m s
  | .mbDoorbell port length => Sys2Proof.Machine.execMbDoorbell port length s
  | .mbRelease port => Sys2Proof.Machine.execMbRelease port s
  | .mbOverrunClear port => Sys2Proof.Machine.execMbOverrunClear port s
  | .mbNotifyLostClear port => Sys2Proof.Machine.execMbNotifyLostClear port s
  | .mbNotifyHead port head => Sys2Proof.Machine.execMbNotifyHead port head s
  | .scriptImage who m => Sys2Proof.Machine.execScriptImage who m s
  | .scriptEnable who m => Sys2Proof.Machine.execScriptEnable who m s
  | .triggerPeriod slot => Sys2Proof.Machine.execTriggerPeriod slot s
  | .scriptRun => Sys2Proof.Machine.execScriptRun s
  | .pageHomeAccessDone line => Sys2Proof.Machine.execPageHomeAccessDone line s
  | .frostEraseDone block ok => Sys2Proof.Machine.execFrostEraseDone block ok s
  | .pwrWarnNDeassert => Sys2Proof.Machine.execPwrWarnNDeassert s
  | .vddCoreSagClear => Sys2Proof.Machine.execVddCoreSagClear s
  | .refclk25mInterruption => Sys2Proof.Machine.execRefclk25mInterruption s
  | .busMasterEnable port fn on => Sys2Proof.Machine.execBusMasterEnable port fn on s
  | .hostReadCompletion tag data => Sys2Proof.Machine.execHostReadCompletion tag data s
  | .packetBecomesEligible sub => Sys2Proof.Machine.execPacketBecomesEligible sub s

end Sys2Proof.Machine
end

