-- ==== Sys2Proof/Machine/Step.lean ====
section
/-!
DEFINITION. One step of the device: the command at the front of the queue, or a nanosecond of idling.
-/

namespace Sys2Proof.Machine

/-- One step. The command at the front of the queue is performed; with an empty queue the device
idles, and its local time runs on while the reference clock does.
DESIGN CHOICE: log entries 15, 114. -/
def step (s : State) : Host.Outcome State Fault Refusal :=
  match s.pending with
  | [] => .next (idle s)
  | c :: rest => exec c (s.setPending rest)

/-- The state with the command of a table word at the front of its queue.
DESIGN CHOICE: log entries 13, 14. -/
def State.withFetchWord (s : State) (nbits w : Nat) : State :=
  match Sys2Proof.decodeTableWord nbits w with
  | some c => s.setPending (c :: s.pending)
  | none => s

end Sys2Proof.Machine
end

