-- ==== Sys2Proof/WellFormed.lean ====
section
/-!
DEFINITION. Which commands are well formed: every operand that the spec gives a range or a width is
within it. A number that the device hands out itself (an item, a copy, a round, a tag) has none.
-/

namespace Sys2Proof

/-- Kits 0 to 63 (R15). -/
def wfKit (n : Nat) : Bool := n < 64
/-- Physical tabors 0 to 4,351, 68 in each kit (R15, R98). -/
def wfTabor (n : Nat) : Bool := n < 4352
/-- Slivers 0 to 4,095 (R15). -/
def wfSliver (n : Nat) : Bool := n < 4096
/-- Host ports 0 and 1 (R302). -/
def wfHostPort (n : Nat) : Bool := n < 2
/-- Functions of a host port: the physical function and 512 VFs (R302). -/
def wfFn (n : Nat) : Bool := n < 513
/-- Queues 0 to 7 of a function (R304). -/
def wfQueue (n : Nat) : Bool := n < 8
/-- Fabric ports 0 to 31 (R207). -/
def wfFabricPort (n : Nat) : Bool := n < 32
/-- Sub-ports, numbered port × 2 + sub-port (R210). -/
def wfSub (n : Nat) : Bool := n < 64
/-- Traffic classes 0 to 7 (R220). -/
def wfTc (n : Nat) : Bool := n < 8
/-- Node ids (R220). -/
def wfNode (n : Nat) : Bool := n < 0x10000
/-- Jobs (R217). -/
def wfJob (n : Nat) : Bool := n < 0x100000
/-- NAND channels 0 to 47 (R64). -/
def wfChannel (n : Nat) : Bool := n < 48
/-- Dies 0 to 15 of a channel (R64). -/
def wfDie (n : Nat) : Bool := n < 16
/-- DRAM modules: stacks 0 to 7, and RDIMMs from 0x10 by channel × 2 + DIMM (R54). -/
def wfModule (n : Nat) : Bool := n < 8 || (0x10 ≤ n && n < 0x20)
/-- Tenants 0 to 1,023 (R267). -/
def wfTenant (n : Nat) : Bool := n < 1024
/-- The reset domains of R469. -/
def wfDomain (n : Nat) : Bool := n < 8
/-- A byte of a message. -/
def wfByte (n : Nat) : Bool := n < 0x100
/-- A word of 16, 32 or 64 bits. -/
def wf16 (n : Nat) : Bool := n < 0x10000
def wf32 (n : Nat) : Bool := n < 0x100000000
def wf64 (n : Nat) : Bool := n < 0x10000000000000000
/-- An address of the pool: 50 bits (R26). -/
def wfPha (n : Nat) : Bool := n < 0x4000000000000
/-- The number of a line: PHA[49:6] (R188). -/
def wfLine (n : Nat) : Bool := n < 0x100000000000
/-- The payload sizes that R189 allows a coherence message. -/
def wfCohPayload (mtype len : Nat) : Bool :=
  match mtype with
  | 0x04 | 0x0A => len = 16
  | 0x05 | 0x1A | 0x20 | 0x21 | 0x22 => len = 64
  | 0x09 => len = 72
  | 0x24 => len = 8
  | 0x26 => len = 64 || len = 0
  | 0x30 | 0x31 | 0x32 | 0x33 | 0x34 => true
  | _ => len = 0

/-- The domains that sleep (R497). -/
def ClkDomain.wf : ClkDomain → Bool
  | .kit n => wfKit n
  | .port n => wfFabricPort n
  | .mesh => true
  | .dram => true
  | .nand => true
  | .carillon => true

/-- The sessions of R511; an address of the management VLAN has 128 bits. -/
def Session.wf : Session → Bool
  | .can => true
  | .mailbox p => wfHostPort p
  | .vlan a => a < 2 ^ 128
  | .script => true

/-- The header fields of R519 have their widths. -/
def OdpMsg.wf (m : OdpMsg) : Bool :=
  wfByte m.op && wfByte m.tid && wf16 m.index && wfByte m.sub && wfTenant m.tenant && wfByte m.status &&
    wf32 m.arg && wf16 m.data.length && wfSub m.via

/-- A place in the NAND array (R64, R66). -/
def FrostLoc.wf (l : FrostLoc) : Bool := wfChannel l.chan && wfDie l.die

/-- The processors of R148. -/
def Proc.wf : Proc → Bool
  | .tabor n => wfTabor n
  | .gale p => wfFabricPort p
  | .carillon => true

/-- The header fields of R220 have their widths, and LEN is the number of payload bytes. -/
def Pkt.wf (p : Pkt) : Bool :=
  p.version < 16 && p.kind < 64 && wfTc p.tc && wfNode p.src && wfNode p.dst && wf16 p.gen && wf16 p.comp &&
    wfJob p.job && wf16 p.window && wfByte p.status && wfPha p.offset && wf32 p.psn && wf32 p.ackPsn &&
    wf32 p.seq && p.counter < 0x40000 && p.len < 0x4000 && p.aop < 32 && p.payload.length = p.len

/-- A received frame: a sub-port, IPv6 addresses and a UDP port of their widths, and its packet. -/
def RxFrame.wf (f : RxFrame) : Bool :=
  wfSub f.sub && f.srcAddr < 2 ^ 128 && f.dstAddr < 2 ^ 128 && wf16 f.udpPort && f.pkt.wf

/-- The header fields of R188 have their widths, and the payload has the size of R189. -/
def CohMsg.wf (m : CohMsg) : Bool :=
  m.mtype < 64 && wf16 m.src && wf16 m.dst && wf16 m.tag && wfByte m.status && wfLine m.line &&
    m.backoffExp < 16 && m.aop < 32 && m.word < 8 && m.srcChip < 8 && m.dstChip < 8 &&
    wfCohPayload m.mtype m.payload.length && m.frame.all RxFrame.wf

/-- A coherence message of the type of its command. -/
def CohMsg.wfAs (t : Nat) (m : CohMsg) : Bool := m.mtype = t && m.wf

/-- What a neighbour's frame says, in the widths of R228. -/
def Neighbour.wf (n : Neighbour) : Bool :=
  n.mac < 0x1000000000000 && n.ttl < 0x10000 &&
    n.maeleth.all fun t => wfNode t.1 && wf16 t.2.1 && wf16 t.2.2.1

/-- The arbiters of R454: one for each sliver and one for each of the 512 pseudo-channels. -/
def Arbiter.wf : Arbiter → Bool
  | .sliver n => wfSliver n
  | .pch n => n < 512

/-- Whether a command's operands are within what the spec gives them. -/
def wellFormed (i : Instr) : Bool :=
  match i with
  | .powerGood => true
  | .resetNAssert => true
  | .resetNDeassert _ canId => canId < 128
  | .supplyLoss => true
  | .pwrWarnNAssert => true
  | .vddCoreSag kit _ => wfKit kit
  | .sagPersistExpiry => true
  | .shedS1Enter => true
  | .shedS2Enter => true
  | .shedS3Enter => true
  | .shedS4Enter => true
  | .s4FlushDone => true
  | .pwrSafeAssert => true
  | .shedLift => true
  | .domainSleep d => d.wf
  | .domainWake d => d.wf
  | .avsLoopPeriod lowest => lowest.all fun x => wfKit x.1
  | .droopDetected kit => wfKit kit
  | .freqLoopPeriod => true
  | .pkgPowerLoopPeriod _ => true
  | .tempLoopPeriod kits hbm _ _ => (kits.all fun x => wfKit x.1) && hbm.all fun x => x.1 < 8
  | .bootIslandUp => true
  | .imageLoaded => true
  | .dramTrained failedStacks failedDimms => (failedStacks.all fun n => n < 8) && failedDimms.all fun n => n < 16
  | .mountDone missingDies missingChannels =>
    (missingDies.all fun x => wfChannel x.1 && wfDie x.2) && missingChannels.all wfChannel
  | .bootReady => true
  | .recoveryStackTrained _ _ => true
  | .registrationAttempt => true
  | .regAck who m => who.wf && m.wf
  | .fwStage who m => who.wf && m.wf
  | .fwCommit who m => who.wf && m.wf
  | .fwProgramDone _ => true
  | .svnCommit who m => who.wf && m.wf
  | .fabricKeySet who m => who.wf && m.wf
  | .fabricKeyActive who m => who.wf && m.wf
  | .rootKeyRevoke who m => who.wf && m.wf
  | .debugUnlock who m => who.wf && m.wf
  | .getVersion port => wfHostPort port
  | .getCapabilities port ver => wfHostPort port && wfByte ver
  | .negotiateAlgorithms port ver asym hash => wfHostPort port && wfByte ver && wf32 asym && wf32 hash
  | .getDigests port ver => wfHostPort port && wfByte ver
  | .getCertificate port ver slot offset len =>
    wfHostPort port && wfByte ver && wfByte slot && wf32 offset && wf16 len
  | .challenge port ver slot nonce => wfHostPort port && wfByte ver && wfByte slot && nonce < 2 ^ 256
  | .getMeasurements port ver index nonce => wfHostPort port && wfByte ver && wfByte index && nonce < 2 ^ 256
  | .driftRound => true
  | .drumbeatRunEnd task => task < 5
  | .frostGcRun moved => moved.all fun x => x.2.wf
  | .scrubRun badLines marginal => badLines.all wfPha && marginal.all fun x => x.2.wf
  | .cumulusEvictionRound => true
  | .journalFlush => true
  | .driftChunkCopyDone _ => true
  | .switchComplete _ => true
  | .switchStallExpiry _ => true
  | .moveTimeout _ => true
  | .sourceRefcountZero tier _ => (tier = 1 || tier = 2 || tier = 3)
  | .uncorrectableLine pha copy => wfPha pha && copy < 2
  | .moduleLost module => wfModule module
  | .pageRebuildDone _ => true
  | .waitingPageHomed _ => true
  | .tierDrainDone => true
  | .drained who m => who.wf && m.wf
  | .frostUnitReadDone _ _ _ => true
  | .frostReadRetryDone _ _ => true
  | .frostParityRebuildDone _ => true
  | .readDisturbRelocate _ moved => moved.all fun x => x.2.wf
  | .bufferUnitFillDone _ => true
  | .flushAgeExpiry _ => true
  | .frostProgramDone _ loc _ => loc.wf
  | .journalGroupCommit => true
  | .dieBusyTimeout channel die => wfChannel channel && wfDie die
  | .flashDieLost channel die => wfChannel channel && wfDie die
  | .dieRebuildDone channel die moved => wfChannel channel && wfDie die && moved.all fun x => x.2.wf
  | .flashChannelLost channel => wfChannel channel
  | .degradedPageMoved _ => true
  | .reencryptDone tenant => wfTenant tenant
  | .close who m => who.wf && m.wf
  | .closeRecordProgrammed => true
  | .reservePct who m => who.wf && m.wf
  | .fenceTabor who m => who.wf && m.wf
  | .fenceClear who m => who.wf && m.wf
  | .taborFence tabor => wfTabor tabor
  | .fenceReadoutDone tabor unreadable => wfTabor tabor && unreadable.all wfLine
  | .fenceRehomeDone tabor => wfTabor tabor
  | .scratchEccError tabor _ => wfTabor tabor
  | .sliceTagError tabor => wfTabor tabor
  | .invocationAdmit tabor => wfTabor tabor
  | .programResident tabor handle => wfTabor tabor && handle < 4096
  | .sliceExpiry tabor => wfTabor tabor
  | .waitSwitchOut tabor => wfTabor tabor
  | .waitConditionMet tabor _ => wfTabor tabor
  | .rangeLoadDone tabor _ _ => wfTabor tabor
  | .add p _ => p.wf
  | .sub p _ => p.wf
  | .andOp p _ => p.wf
  | .orOp p _ => p.wf
  | .xorOp p _ => p.wf
  | .sll p _ => p.wf
  | .srl p _ => p.wf
  | .sra p _ => p.wf
  | .slt p _ => p.wf
  | .sltu p _ => p.wf
  | .minOp p _ => p.wf
  | .maxOp p _ => p.wf
  | .minu p _ => p.wf
  | .maxu p _ => p.wf
  | .seq p _ => p.wf
  | .sne p _ => p.wf
  | .addi p _ => p.wf
  | .andi p _ => p.wf
  | .ori p _ => p.wf
  | .xori p _ => p.wf
  | .slli p _ => p.wf
  | .srli p _ => p.wf
  | .srai p _ => p.wf
  | .slti p _ => p.wf
  | .lui p _ => p.wf
  | .mul p _ => p.wf
  | .mulh p _ => p.wf
  | .mulhu p _ => p.wf
  | .div p _ => p.wf
  | .divu p _ => p.wf
  | .rem p _ => p.wf
  | .remu p _ => p.wf
  | .pset p _ => p.wf
  | .pget p _ => p.wf
  | .pand p _ => p.wf
  | .por p _ => p.wf
  | .pnot p _ => p.wf
  | .beq p _ => p.wf
  | .bne p _ => p.wf
  | .blt p _ => p.wf
  | .bge p _ => p.wf
  | .bltu p _ => p.wf
  | .bgeu p _ => p.wf
  | .j p _ => p.wf
  | .call p _ => p.wf
  | .ret p _ => p.wf
  | .lds p _ => p.wf
  | .sts p _ => p.wf
  | .vlds p _ => p.wf
  | .vsts p _ => p.wf
  | .vgath p _ => p.wf
  | .vscat p _ => p.wf
  | .vlut p _ => p.wf
  | .ldg p _ => p.wf
  | .stg p _ => p.wf
  | .vldg p _ => p.wf
  | .vstg p _ => p.wf
  | .ldacq p _ => p.wf
  | .vadd p _ => p.wf
  | .vlog p _ => p.wf
  | .vmm p _ => p.wf
  | .vsh p _ => p.wf
  | .vcmp p _ => p.wf
  | .vbcast p _ => p.wf
  | .vmov p _ => p.wf
  | .vsel p _ => p.wf
  | .vext p _ => p.wf
  | .vfadd p _ => p.wf
  | .vfmul p _ => p.wf
  | .vfma p _ => p.wf
  | .vdot p _ => p.wf
  | .vcvtn p _ => p.wf
  | .vcvtw p _ => p.wf
  | .vmxq p _ => p.wf
  | .vred p _ => p.wf
  | .vredc p _ => p.wf
  | .vcadd p _ => p.wf
  | .vperm p _ => p.wf
  | .atom p _ => p.wf
  | .ratom p _ => p.wf
  | .rld p _ => p.wf
  | .rst p _ => p.wf
  | .rstf p _ => p.wf
  | .vrld p _ => p.wf
  | .vrst p _ => p.wf
  | .phicorCopy p _ => p.wf
  | .waitc p _ => p.wf
  | .fencePub p _ => p.wf
  | .fenceAcq p _ => p.wf
  | .fenceFab p _ => p.wf
  | .chmInit p _ => p.wf
  | .chmUpd p _ => p.wf
  | .chmVupd p _ => p.wf
  | .chmFin p _ => p.wf
  | .endOp p _ => p.wf
  | .yield p _ => p.wf
  | .ctlNop p _ => p.wf
  | .timeOp p _ => p.wf
  | .fuelOp p _ => p.wf
  | .srseed p _ => p.wf
  | .taborOp p _ => p.wf
  | .waitf p _ => p.wf
  | .pktLd p _ => p.wf
  | .pktSt p _ => p.wf
  | .pktLen p _ => p.wf
  | .pktPass p _ => p.wf
  | .pktReject p _ => p.wf
  | .odRd p _ => p.wf
  | .odWr p _ => p.wf
  | .odEvent p _ => p.wf
  | .wrbEntryExpiry tabor _ => wfTabor tabor
  | .completionPost _ => true
  | .rdS m => m.wfAs 0x01
  | .rdX m => m.wfAs 0x02
  | .upg m => m.wfAs 0x03
  | .atomX m => m.wfAs 0x04
  | .wb m => m.wfAs 0x05
  | .evictClean m => m.wfAs 0x06
  | .rdUc m => m.wfAs 0x08
  | .wrUc m => m.wfAs 0x09
  | .atomHome m => m.wfAs 0x0A
  | .snpInv m => m.wfAs 0x10
  | .snpFwdS m => m.wfAs 0x11
  | .snpFwdX m => m.wfAs 0x12
  | .snpRecall m => m.wfAs 0x13
  | .snpData m => m.wfAs 0x14
  | .ackInv m => m.wfAs 0x18
  | .ackFwd m => m.wfAs 0x19
  | .dataHome m => m.wfAs 0x1A
  | .gntS m => m.wfAs 0x20
  | .gntE m => m.wfAs 0x21
  | .gntM m => m.wfAs 0x22
  | .gntUpg m => m.wfAs 0x23
  | .atomRsp m => m.wfAs 0x24
  | .wbAck m => m.wfAs 0x25
  | .ucRsp m => m.wfAs 0x26
  | .refuse m => m.wfAs 0x27
  | .combineEntryApply sliver _ => wfSliver sliver
  | .backoffResend _ => true
  | .homeTimeoutExpiry line => wfLine line
  | .snoopResend line => wfLine line
  | .domainHello m => m.wfAs 0x30
  | .domainHelloTimer => true
  | .domainPropose m => m.wfAs 0x31
  | .domainConfirm m => m.wfAs 0x32
  | .domainCommit m => m.wfAs 0x33
  | .domainRefuse m => m.wfAs 0x34
  | .formWaitExpiry => true
  | .peerLost node => wfNode node
  | .portEnable who m => who.wf && m.wf
  | .laneSignalDetect sub => wfSub sub
  | .anegComplete sub => wfSub sub
  | .eqAdaptComplete sub => wfSub sub
  | .pcsLock sub partnerMac => wfSub sub && partnerMac < 0x1000000000000
  | .trainingTimeout port _ _ => wfFabricPort port
  | .mkpduRx sub ckn => wfSub sub && wf16 ckn
  | .sakInstalled sub => wfSub sub
  | .linkDown sub => wfSub sub
  | .laneLockLoss sub lane => wfSub sub && lane < 4
  | .serWindowExceeded sub _ _ => wfSub sub
  | .retrain who m => who.wf && m.wf
  | .lldpRx sub n => wfSub sub && n.wf
  | .lldpTxTimer sub => wfSub sub
  | .neighbourAgeOut sub => wfSub sub
  | .subportTxSelect sub => wfSub sub
  | .xltRead f => f.wf
  | .xltWrite f => f.wf
  | .flagStore f => f.wf
  | .flagStoreRelease node tc psn => wfNode node && wfTc tc && wf32 psn
  | .atomic f => f.wf
  | .bulk f => f.wf
  | .copyData f => f.wf
  | .response f => f.wf
  | .applied f => f.wf
  | .ack f => f.wf
  | .nak f => f.wf
  | .ackTimer node tc => wfNode node && wfTc tc
  | .appliedTimer node tc => wfNode node && wfTc tc
  | .rtoExpiry node tc => wfNode node && wfTc tc
  | .responseTimeout _ => true
  | .rxPathExpiry node tc => wfNode node && wfTc tc
  | .xltQuietExpiry => true
  | .rateIncreaseTick node tc => wfNode node && wfTc tc
  | .commit who m => who.wf && m.wf
  | .generationGraceExpiry => true
  | .staleResendTimer _ => true
  | .staleHoldExpiry _ => true
  | .windowOpen _ => true
  | .windowClose _ => true
  | .flagStoreSend _ => true
  | .gatherTimer node tc job => wfNode node && wfTc tc && wfJob job
  | .copyDescriptorStart _ => true
  | .copyDone _ => true
  | .atomicReplyTimer _ => true
  | .atomicRetryExpiry _ => true
  | .ledgerEntryExpiry node job seq => wfNode node && wfJob job && wf32 seq
  | .ledgerSourceExpiry node job => wfNode node && wfJob job
  | .ledgerHoldExpiry => true
  | .ownHandoff _ => true
  | .handoffCommit _ => true
  | .handoffReclaim _ => true
  | .preparedResolvePoll pha => wfPha pha
  | .counterAlloc _ => true
  | .counterFree _ => true
  | .counterSet _ => true
  | .fill port _ => wfHostPort port
  | .deny port _ => wfHostPort port
  | .invalidate port _ => wfHostPort port
  | .invalidateTenant port _ => wfHostPort port
  | .extentGrant port _ => wfHostPort port
  | .extentRevoke port _ => wfHostPort port
  | .tenantCreate port _ => wfHostPort port
  | .tenantModify port _ => wfHostPort port
  | .tenantDestroy port _ => wfHostPort port
  | .translationTimeout _ => true
  | .ptcDrainComplete _ => true
  | .drainTimeout _ => true
  | .atsTranslationCompletion _ _ _ _ => true
  | .prgResponse _ code => code < 16
  | .atsInvalidateRequest port fn pasid _ _ => wfHostPort port && wfFn fn && pasid < 0x100001
  | .quotaChargeTick => true
  | .quotaWindowExpiry => true
  | .hostLinkDown port _ => wfHostPort port
  | .hostLinkUp port => wfHostPort port
  | .vfFlr port fn => wfHostPort port && wfFn fn
  | .pfFlr port => wfHostPort port
  | .sqEnable port fn q value => wfHostPort port && wfFn fn && wfQueue q && wf64 value
  | .sqDisable port fn q value => wfHostPort port && wfFn fn && wfQueue q && wf64 value
  | .sqDrainDone port fn q => wfHostPort port && wfFn fn && wfQueue q
  | .cqEnable port fn q value => wfHostPort port && wfFn fn && wfQueue q && wf64 value
  | .cqDisable port fn q value => wfHostPort port && wfFn fn && wfQueue q && wf64 value
  | .sqTailDoorbell port fn q value => wfHostPort port && wfFn fn && wfQueue q && wf64 value
  | .cqHeadDoorbell port fn q value => wfHostPort port && wfFn fn && wfQueue q && wf64 value
  | .reqRingHeadDoorbell port value => wfHostPort port && wf64 value
  | .cmdRingTailDoorbell port value => wfHostPort port && wf64 value
  | .sqEntryFetch port fn q words => wfHostPort port && wfFn fn && wfQueue q && words.all wf64
  | .irqTimeExpiry port fn q => wfHostPort port && wfFn fn && wfQueue q
  | .mmioRegWrite port fn offset _ value => wfHostPort port && wfFn fn && offset < 0x20000 && wf64 value
  | .nop _ => true
  | .hostToPool _ => true
  | .poolToHost _ => true
  | .poolAtomic _ => true
  | .regionPublish _ => true
  | .pageRelease _ => true
  | .pageHint _ => true
  | .setProtection _ => true
  | .tierDrain _ => true
  | .loadProgram _ => true
  | .unloadProgram _ => true
  | .runProgram _ => true
  | .progAttach _ => true
  | .progDetach _ => true
  | .copyOp _ => true
  | .roundDeclare _ => true
  | .roundCancel _ => true
  | .roundContribute _ => true
  | .inboxLineWrite _ => true
  | .pieceAccumulate _ _ => true
  | .unitDone _ _ => true
  | .mxBlockQuantise _ _ _ => true
  | .roundComplete _ => true
  | .inboxHoldExpiry _ => true
  | .roundStalled _ => true
  | .tableCreate _ => true
  | .tableReplace _ => true
  | .tableUnpinned _ => true
  | .tableDestroy _ => true
  | .embLookup _ => true
  | .rowRead _ _ => true
  | .rowUpdateEndWait _ _ => true
  | .embUpdate _ => true
  | .indexCreate _ => true
  | .insert _ => true
  | .delete _ => true
  | .epochPublish _ => true
  | .epochPublishDone _ => true
  | .autoPublishTimer => true
  | .search _ => true
  | .compact _ => true
  | .indexDestroy _ => true
  | .storeCreate _ => true
  | .putOp _ => true
  | .getOp _ => true
  | .pin _ => true
  | .unpin _ => true
  | .drop _ => true
  | .prefetch _ => true
  | .storeDestroy _ => true
  | .remotePut _ => true
  | .remoteGet _ => true
  | .remotePin _ => true
  | .remoteUnpin _ => true
  | .remoteDrop _ => true
  | .remotePrefetch _ => true
  | .remotePutDataReady _ => true
  | .putWaitExpiry _ => true
  | .getWaitExpiry _ => true
  | .ownWaitExpiry _ => true
  | .cumulusSlotRelease _ _ => true
  | .dropLruWaitExpiry _ => true
  | .check _ => true
  | .chimeUnitLost kit => wfKit kit
  | .tenantShaperSet who m => who.wf && m.wf
  | .classShaperSet who m => who.wf && m.wf
  | .dwrrWeights who m => who.wf && m.wf
  | .arbiterGrant arb => arb.wf
  | .hpWindowExpiry arb => arb.wf
  | .ctxStall tabor => wfTabor tabor
  | .waitLimitExpiry tabor _ => wfTabor tabor
  | .itemEngine _ => true
  | .homeWatchdog tabor => wfTabor tabor
  | .galeStall port => wfFabricPort port
  | .tierFault => true
  | .kitFault kit => wfKit kit
  | .portLogic port => wfFabricPort port
  | .portSerdes port => wfFabricPort port
  | .meshFault => true
  | .tocsinHeartbeat tocsin => tocsin < 2
  | .carillonWatchdog => true
  | .tocsinAHeartbeat => true
  | .tocsinRestarted tocsin => tocsin < 2
  | .islandFailed => true
  | .hardwiredPathFire => true
  | .tenantContextReset tabor => wfTabor tabor
  | .kitReset kit => wfKit kit
  | .portReset port _ => wfFabricPort port
  | .carillonReset => true
  | .chipWarmReset => true
  | .warmResetDrainDone => true
  | .warmResetDomainsDone => true
  | .warmResetRestoreDone => true
  | .warmResetDone => true
  | .resetDone domain _ => wfDomain domain
  | .resetBoundExpiry domain _ => wfDomain domain
  | .outOfService => true
  | .resetRequest who m => who.wf && m.wf
  | .takeOutOfService who m => who.wf && m.wf
  | .eventOverrun who m => who.wf && m.wf
  | .odpRead who m => who.wf && m.wf
  | .odpWrite who m => who.wf && m.wf
  | .describe who m => who.wf && m.wf
  | .segReadInit who m => who.wf && m.wf
  | .segWriteInit who m => who.wf && m.wf
  | .segData who m => who.wf && m.wf
  | .segAck who m => who.wf && m.wf
  | .segEnd who m => who.wf && m.wf
  | .lockOp who m => who.wf && m.wf
  | .unlockOp who m => who.wf && m.wf
  | .abortOp who m => who.wf && m.wf
  | .segTimeout who tid => who.wf && wfByte tid
  | .lockMaxExpiry area => area < 22
  | .tidRetentionExpiry who tid => who.wf && wfByte tid
  | .configStoreDone => true
  | .mgmtMode who m => who.wf && m.wf
  | .restoreDefaults who m => who.wf && m.wf
  | .triggerLost who m => who.wf && m.wf
  | .lastVerify who m => who.wf && m.wf
  | .mbDoorbell port _ => wfHostPort port
  | .mbRelease port => wfHostPort port
  | .mbOverrunClear port => wfHostPort port
  | .mbNotifyLostClear port => wfHostPort port
  | .mbNotifyHead port head => wfHostPort port && head < 64
  | .scriptImage who m => who.wf && m.wf
  | .scriptEnable who m => who.wf && m.wf
  | .triggerPeriod slot => slot < 16
  | .scriptRun => true
  | .pageHomeAccessDone line => wfLine line
  | .frostEraseDone _ _ => true
  | .pwrWarnNDeassert => true
  | .vddCoreSagClear => true
  | .refclk25mInterruption => true
  | .busMasterEnable port fn _ => wfHostPort port && wfFn fn
  | .hostReadCompletion _ _ => true
  | .packetBecomesEligible sub => wfSub sub

end Sys2Proof
end

