-- ==== Sys2Proof/Safety.lean ====
section
/-!
DEFINITION. What the statements about the device are phrased with: the commands that come from the
board, a device that the hardwired path has quiesced, and the canonical form of the range's bytes.
-/

namespace Sys2Proof.Machine

/-- The commands by which the board brings the device out of a quiesce: supplies and RESET_N (R486, R571). -/
def boardCommand (c : Instr) : Bool :=
  match c with
  | .powerGood | .resetNAssert | .resetNDeassert _ _ | .supplyLoss => true
  | _ => false

/-- The device stands quiesced by the hardwired path (R486): the path has fired, FAULT_N is low, DRAM is
in self-refresh, and no command of the board waits. -/
def State.standsQuiesced (s : State) : Prop :=
  s.rc.quiesced = true ∧ s.pw.faultLow = true ∧ s.pw.dramSelfRefresh = true ∧
    ∀ c ∈ s.pending, boardCommand c = false

/-- The range's bytes are in canonical form, which makes equal memories equal data. -/
def State.memOk (s : State) : Prop := Memory.wf s.mem = true

/-! ODP requests (R523–R528). -/

/-- A request of a session arrives that repeats none, finds the session with room, and has a good header: the
state in which it is performed. -/
def arrives (who : Session) (m : OdpMsg) (s : State) : Option State :=
  match takeMsg who m s with
  | none => none
  | some s1 =>
    let s2 := touchLocks who s1
    if (keptFor s2 who m).isNone && !sessionFull s2 who && (headerBad who m).isNone then some s2 else none

/-- The answer to a request is kept and sent (R523, R526). DESIGN CHOICE: log entry 50. -/
def respond (who : Session) (m : OdpMsg) (a : Answer) (s : State) : State :=
  let resp := replyMsg m 0x10 a.status a.arg a.data
  sendTo who resp (keepResp who m resp s)

/-- A WRITE of the object with a key arrives, and its value passes what R513, R514, R528 and R542 ask: the object
can be written now, by this session, with a value of this length and within its range. -/
def writeReady (key : Nat) (who : Session) (m : OdpMsg) (s : State) : Bool :=
  match arrives who m s with
  | none => false
  | some s2 =>
    m.op = 2 && writeKey s who m = some key &&
      match odLook s2 m.index m.sub m.ten with
      | .error _ => false
      | .ok r =>
        r.access ≠ 0 && lengthOk r m.data.length &&
          (r.typ = 9 || r.typ = 10 || (r.lo ≤ leNat m.data && leNat m.data ≤ r.hi)) &&
          (r.access ≠ 2 || mgmtStandby s2) && writableNow s2 m.index && !lockedFrom s2 who m.index

/-! Phicor programs (R133–R144). -/

/-- The program whose next instruction is the word, which can issue it and has fuel left (R143): with its unit
of fuel taken and its counter at the next instruction. -/
def issues (op : Op) (p : Proc) (w : BitVec 32) (s : State) : Option Ctx :=
  (canIssue p op w.toNat s).bind fun c =>
    if c.fuel = 0 then none else some { c with pc := c.pc + 1, fuel := c.fuel - 1 }

/-- The two scalar sources of a REG instruction. -/
def srcA (w : BitVec 32) (c : Ctx) : Word := c.readX (fRs1 w.toNat)
def srcB (w : BitVec 32) (c : Ctx) : Word := c.readX (fRs2 w.toNat)

/-- The device once an instruction has written its scalar destination. -/
def putsX (p : Proc) (w : BitVec 32) (c : Ctx) (v : Word) (s : State) : Host.Outcome State Fault Refusal :=
  .next (finishOp p (c.writeX (fRd w.toNat) v) s)

/-- The device once an instruction has written its vector destination. -/
def putsV (p : Proc) (w : BitVec 32) (c : Ctx) (v : BitVec 512) (s : State) : Host.Outcome State Fault Refusal :=
  .next (finishOp p (c.writeV (fRd w.toNat) v) s)

/-- The vector destination of an element-wise instruction: `f` of the old element and of the sources' where the
predicate enables the element, the old element elsewhere (R98). -/
def eltwise (w : BitVec 32) (c : Ctx) (t : Elt) (f : Nat → Nat → Nat → Nat) : BitVec 512 :=
  let d := elts t (c.readV (fRd w.toNat))
  let a := elts t (c.readV (fRs1 w.toNat))
  let b := elts t (c.readV (fRs2 w.toNat))
  packElts t (c.readV (fRd w.toNat)) ((List.range t.count).map fun i =>
    if elemEn c (fPred w.toNat) t i then f (d.getD i 0) (a.getD i 0) (b.getD i 0) else d.getD i 0)

/-- The sixteen 32-bit lanes of a destination: `f` of the lane number where the predicate enables the lane. -/
def lanewise (w : BitVec 32) (c : Ctx) (f : Nat → Nat) : BitVec 512 :=
  packV 32 ((List.range 16).map fun i =>
    if predBit c (fPred w.toNat) i then f i else (lanes 32 (c.readV (fRd w.toNat))).getD i 0)

/-! Accesses of programs (R133, R140, R161, R278). -/

/-- An access to the range that can start now, with the lines it touches and the PTC entries it uses: nothing
holds it back, the tenant's pages are there and allow it, and no line of it is in the way. -/
def rangeReady (n : Nat) (c : Ctx) (a : RangeAcc) (s : State) : Option (List Part × List Nat) :=
  if heldBack c a.write || (match a.kind with | .atom _ _ _ _ _ => storesOpen c | _ => false) then none
  else if 2 ^ 56 < a.pva + a.len then none
  else
    match lookRange s c.tenant a.pva a.len a.write with
    | .error _ => none
    | .ok (ps, ents) =>
      let parts := touched a.kind (lineSplit s ps)
      if parts.any (fun q => lineBlocked s n q.key a.kind) || interceptRefuses s a.kind parts then none
      else some (parts, ents)

/-- An access has joined the outstanding ones of the program on tabor `n`, under the tag `s.co.nextPend`. -/
def joins (n : Nat) (c : Ctx) (kind : PendKind) (parts : List Part) (remote : Bool) (win : Option (Nat × Nat × Nat))
    (nf acq effect : Bool) (ents : List Nat) (s : State) : State :=
  let r := addPend (openAccess s c) kind parts remote win nf acq ents s
  putProc (.tabor n) r.1 (ptcAdmitAll ents (if effect then markEffect r.1.item r.2 else r.2))

/-- The device once an access to the range has started. -/
def startsRange (n : Nat) (c : Ctx) (a : RangeAcc) (parts : List Part) (ents : List Nat) (s : State) : State :=
  startParts n c.id s.co.nextPend c.tenant a.kind true (fun _ => none) parts
    (joins n c a.kind parts false none a.nf a.acq a.write ents s)

/-- The node, window and offset that the window pair of RS1 names (R133). -/
def winNode (w : BitVec 32) (c : Ctx) : Nat := (srcA w c).toNat / 65536
def winIndex (w : BitVec 32) (c : Ctx) : Nat := (srcA w c).toNat % 65536
def winOffset (w : BitVec 32) (c : Ctx) : Nat := (c.readX (fRs1 w.toNat + 1)).toNat

/-- A window access that can go out now to a node outside the domain and that the read buffer does not serve. -/
def winGoes (w : BitVec 32) (c : Ctx) (a : WinAcc) (job : Nat) (s : State) : Bool :=
  (srcA w c).toNat < 2 ^ 32 && !heldBack c (a.right ≠ 0) && !winHeld c (winNode w c) a &&
    jobOf s c.tenant = some job && winOffset w c < 2 ^ 50 &&
    (a.right ≠ 2 || winOffset w c % a.len = 0) && (a.right ≠ 3 || winOffset w c % 8 = 0) &&
    winNode w c ≠ s.fa.nodeId && (a.right = 3 || (peerIndex s (winNode w c)).isNone) &&
    (a.right ≠ 0 || (wrbRead (openAccess s c) (winNode w c) (winIndex w c) (winOffset w c) a.len).isNone)

/-- The device once a window access has gone out as a request. -/
def startsWin (n : Nat) (w : BitVec 32) (c : Ctx) (a : WinAcc) (job : Nat) (s : State) : State :=
  let s1 := joins n c a.kind [] true (some (winNode w c, winIndex w c, winOffset w c)) (bitOf w.toNat 31)
    (a.right = 2) true [] s
  sendReq (winNode w c) (.ctx n c.id s.co.nextPend) c.tenant c.id
    { noPkt with kind := a.pktKind, tc := tenantClass s1 c.tenant, job := job, window := winIndex w c,
                 offset := winOffset w c, payload := a.payload, aop := a.aop, a64 := a.a64 } s1

/-- The instructions that touch only their own program. -/
def pureInstrs : List (Proc → BitVec 32 → Instr) :=
  [.add, .sub, .andOp, .orOp, .xorOp, .sll, .srl, .sra, .slt, .sltu, .minOp, .maxOp, .minu, .maxu, .seq, .sne] ++
  [.addi, .andi, .ori, .xori, .slli, .srli, .srai, .slti, .lui, .mul, .mulh, .mulhu, .div, .divu, .rem, .remu] ++
  [.pset, .pget, .pand, .por, .pnot, .beq, .bne, .blt, .bge, .bltu, .bgeu, .j, .call, .ret] ++
  [.lds, .sts, .vlds, .vsts, .vgath, .vscat, .vlut, .vadd, .vlog, .vmm, .vsh, .vcmp, .vbcast, .vmov, .vsel, .vext] ++
  [.vfadd, .vfmul, .vfma, .vdot, .vcvtn, .vcvtw, .vmxq, .vred, .vredc, .vcadd, .vperm] ++
  [.chmInit, .chmUpd, .chmVupd, .chmFin, .srseed, .fuelOp, .timeOp, .taborOp, .ctlNop, .fencePub, .fenceAcq]

/-- The other instructions of a program on a tabor. -/
def reachingInstrs : List (Proc → BitVec 32 → Instr) :=
  [.endOp, .yield, .ldg, .ldacq, .stg, .vldg, .vstg, .atom, .ratom, .rld, .rst, .rstf, .vrld, .vrst] ++
  [.phicorCopy, .waitc, .waitf, .fenceFab, .pktLd, .pktSt, .pktLen, .pktPass, .pktReject]

/-- The instructions of chapter 5 with their operations: the rows that issue a word of a program. -/
def phicorRows (p : Proc) (w : BitVec 32) : List (Op × Instr) :=
  [(.add, .add p w), (.sub, .sub p w), (.and, .andOp p w), (.or, .orOp p w), (.xor, .xorOp p w)] ++
  [(.sll, .sll p w), (.srl, .srl p w), (.sra, .sra p w), (.slt, .slt p w), (.sltu, .sltu p w)] ++
  [(.min, .minOp p w), (.max, .maxOp p w), (.minu, .minu p w), (.maxu, .maxu p w), (.seq, .seq p w)] ++
  [(.sne, .sne p w), (.addi, .addi p w), (.andi, .andi p w), (.ori, .ori p w), (.xori, .xori p w)] ++
  [(.slli, .slli p w), (.srli, .srli p w), (.srai, .srai p w), (.slti, .slti p w), (.lui, .lui p w)] ++
  [(.mul, .mul p w), (.mulh, .mulh p w), (.mulhu, .mulhu p w), (.div, .div p w), (.divu, .divu p w)] ++
  [(.rem, .rem p w), (.remu, .remu p w), (.pset, .pset p w), (.pget, .pget p w), (.pand, .pand p w)] ++
  [(.por, .por p w), (.pnot, .pnot p w), (.beq, .beq p w), (.bne, .bne p w), (.blt, .blt p w)] ++
  [(.bge, .bge p w), (.bltu, .bltu p w), (.bgeu, .bgeu p w), (.j, .j p w), (.call, .call p w)] ++
  [(.ret, .ret p w), (.lds, .lds p w), (.sts, .sts p w), (.vlds, .vlds p w), (.vsts, .vsts p w)] ++
  [(.vgath, .vgath p w), (.vscat, .vscat p w), (.vlut, .vlut p w), (.ldg, .ldg p w), (.stg, .stg p w)] ++
  [(.vldg, .vldg p w), (.vstg, .vstg p w), (.ldacq, .ldacq p w), (.vadd, .vadd p w), (.vlog, .vlog p w)] ++
  [(.vmm, .vmm p w), (.vsh, .vsh p w), (.vcmp, .vcmp p w), (.vbcast, .vbcast p w), (.vmov, .vmov p w)] ++
  [(.vsel, .vsel p w), (.vext, .vext p w), (.vfadd, .vfadd p w), (.vfmul, .vfmul p w)] ++
  [(.vfma, .vfma p w), (.vdot, .vdot p w), (.vcvtn, .vcvtn p w), (.vcvtw, .vcvtw p w)] ++
  [(.vmxq, .vmxq p w), (.vred, .vred p w), (.vredc, .vredc p w), (.vcadd, .vcadd p w)] ++
  [(.vperm, .vperm p w), (.atom, .atom p w), (.ratom, .ratom p w), (.rld, .rld p w), (.rst, .rst p w)] ++
  [(.rstf, .rstf p w), (.vrld, .vrld p w), (.vrst, .vrst p w), (.copy, .phicorCopy p w)] ++
  [(.waitc, .waitc p w), (.fencePub, .fencePub p w), (.fenceAcq, .fenceAcq p w)] ++
  [(.fenceFab, .fenceFab p w), (.chmInit, .chmInit p w), (.chmUpd, .chmUpd p w)] ++
  [(.chmVupd, .chmVupd p w), (.chmFin, .chmFin p w), (.endOp, .endOp p w), (.yield, .yield p w)] ++
  [(.nop, .ctlNop p w), (.time, .timeOp p w), (.fuel, .fuelOp p w), (.srseed, .srseed p w)] ++
  [(.taborOp, .taborOp p w), (.waitf, .waitf p w), (.pktLd, .pktLd p w), (.pktSt, .pktSt p w)] ++
  [(.pktLen, .pktLen p w), (.pktPass, .pktPass p w), (.pktReject, .pktReject p w), (.odRd, .odRd p w)] ++
  [(.odWr, .odWr p w), (.odEvent, .odEvent p w)]

/-! Items of the host's queues (R316–R320). -/

/-- The item that a row of chapter 11 performs now, marked as started: the device works, the item is of that
opcode, has not ended and waits for nothing, and its turn has come. -/
def itemReady (n op : Nat) (s : State) : Option Item :=
  (getItem? s n).bind fun i =>
    if !s.alive || i.opcode ≠ op || i.src.queue.isNone || i.ended.isSome || i.wait ≠ .none || s.rc.warmStep ≠ 0 then none
    else if !i.started && !mayStart s n i then none
    else some { i with started := true }

/-- The pages of an item's range are all translated: their pool pages, and the state after the look-ups. -/
def itemPages (n : Nat) (i : Item) (s : State) : Option (List Nat × State) :=
  match walkPages n i s with
  | .ok _ t => some (((getItem? t n).map fun i => i.regs.map Prod.snd).getD [], t)
  | _ => none

/-! Packets (R218–R225). -/

/-- A request packet of a kind that a receiving path takes: the state after the checks of R218 and the
sequence number. -/
def takesPkt (kind : Nat) (f : RxFrame) (s : State) : Option State :=
  if f.pkt.kind ≠ kind then none
  else
    match rxHeader f s with
    | (_, false) => none
    | (s, true) =>
      match rxPsn f s with
      | (_, false) => none
      | (s, true) => some s

/-- A packet that a check of R225 refuses at once joins the path's open packets as failed. -/
def refusedPkt (p : Pkt) (st : Nat) (s : State) : State :=
  endPkt p.src p.tc p.psn (modRx (pathKey p.src p.tc) (fun r =>
    { r with open_ := r.open_ ++ [{ openPkt p p.payload s.now with failed := some st }] }) s)

/-! Coherence messages (R182–R202). -/

/-- A message of a row's type waits on this chip's mesh and is taken: the state without it. -/
def takesMesh (mtype : Nat) (m : CohMsg) (s : State) : Option State :=
  if s.powered && m.mtype = mtype && m.frame.isNone && s.ch.net.contains m then
    some (s.setCh { s.ch with net := s.ch.net.erase m })
  else none

/-- The state in which an admitted request is served: its refusals are forgotten, and its access is counted (R45). -/
def servedState (m : CohMsg) (s : State) : State :=
  sampleAccess (lineAddr m.line) (s.setCh { s.ch with refused := s.ch.refused.erase (refKey m) })

/-- A request on the mesh is served on arrival: its sliver has a home, holds nothing back and has nothing queued,
the line has no transaction, is not poisoned, and its set of the directory has room (R125, R186, R187, R202). -/
def homeServes (mtype : Nat) (m : CohMsg) (s : State) : Option State :=
  (takesMesh mtype m s).bind fun s1 =>
    let s2 := servedState m s1
    if !sliverHomeless s1 (sliverOf m.line) && !sliverHeld s1 (sliverOf m.line) && canServe s1 m &&
        (s1.ch.queues.getD (sliverOf m.line) []).isEmpty && !isPoisoned s2 (lineAddr m.line) && (dirVictim s2 m.line).isNone
    then some s2 else none

/-- An answer on the mesh meets its agent's request: the request, and the state without the message. -/
def meetsReq (mtype : Nat) (m : CohMsg) (s : State) : Option (AgentReq × State) :=
  (takesMesh mtype m s).bind fun s1 => (reqOf s1 m).map fun r => (r, s1)

/-- A line granted to a request of this chip enters the slice in a state, the accesses that wait for it are
performed, and the snoops held for the grant are answered after it (R183, R190). -/
def lineGranted (m : CohMsg) (r : AgentReq) (st : LState) (data : List Byte) (s : State) : State :=
  releaseHeld r (wakeLine r.tabor (lineKey r.chip m.line)
    (installLine r.tabor (lineKey r.chip m.line) st data (some r.tenant) (dropReq r s)))

/-- A snoop on the mesh reaches an agent that has no grant of the line under way: the state without the message. -/
def snoopReaches (mtype : Nat) (m : CohMsg) (s : State) : Option State :=
  (takesMesh mtype m s).bind fun s1 =>
    if s1.ch.reqs.any fun r => r.tabor = agentTabor m.dst && lineKey r.chip r.line = lineKey m.srcChip m.line &&
        r.mtype ≠ 0x08 && r.mtype ≠ 0x09 && r.mtype ≠ 0x0A && !stillWaiting s1 r then none else some s1

/-- A snoop's answer on the mesh belongs to the line's transaction, which awaits its sender: the transaction with
the sender answered, and the state without the message. -/
def answersTxn (mtype : Nat) (m : CohMsg) (s : State) : Option (Txn × State) :=
  (takesMesh mtype m s).bind fun s1 =>
    if s1.ch.late.contains (m.line, m.src) then none
    else (s1.ch.txns.get? m.line).bind fun t =>
      if t.waiting.any fun w => w.1 = m.src then
        some ({ t with waiting := t.waiting.filter (fun w => w.1 ≠ m.src), dirty := t.dirty || m.dirty }, s1)
      else none

/-- A line's transaction takes another form. -/
def setTxn (line : Nat) (t : Txn) (s : State) : State := s.setCh { s.ch with txns := s.ch.txns.set line t }

/-- A message of formation that a domain peer sent passes its checks: the state after them (R188, R218). -/
def formArrives (mtype : Nat) (m : CohMsg) (s : State) : Option State :=
  match formTake mtype m s with
  | (t, true) => if s.powered then some t else none
  | (_, false) => none

/-! The command ring (R268, R269, R282–R285). -/

/-- The entry at HEAD of a port's command ring is of an operation: the state with HEAD past it and with the fills
that waited tried again. -/
def cmdArrives (port op : Nat) (e : Quad) (s : State) : Option State :=
  let r := getSq s port 0 8
  if mmioUp s port && (getFn s port 0).bme && r.qstate = 1 && r.head ≠ r.tail && s.rc.warmStep = 0 &&
      e.w0.toNat % 256 = op then
    some (retryFills (setSq port 0 8 { r with head := (r.head + 1) % r.slots } s))
  else none

/-- The command that the entry at HEAD of a port's command ring is, by its operation; an undefined operation is taken
with FILL. -/
def cmdRow (port op : Nat) (e : Quad) (c : Instr) : Prop :=
  ((op = 0x01 ∨ opMasks op = none) ∧ c = .fill port e) ∨ (op = 0x02 ∧ c = .deny port e) ∨ (op = 0x03 ∧ c = .invalidate port e) ∨
    (op = 0x04 ∧ c = .invalidateTenant port e) ∨ (op = 0x10 ∧ c = .extentGrant port e) ∨
    (op = 0x11 ∧ c = .extentRevoke port e) ∨ (op = 0x20 ∧ c = .tenantCreate port e) ∨
    (op = 0x21 ∧ c = .tenantModify port e) ∨ (op = 0x22 ∧ c = .tenantDestroy port e)

/-- The entry at HEAD of a port's command ring is of an operation, well formed and for a tenant of the port: the state
with HEAD past it and with the fills that waited tried again. -/
def takesCmd (port op : Nat) (e : Quad) (s : State) : Option State :=
  let r := getSq s port 0 8
  if mmioUp s port && (getFn s port 0).bme && r.qstate = 1 && r.head ≠ r.tail && s.rc.warmStep = 0 &&
      e.w0.toNat % 256 = op && tenantPort (bitsOf e.w0.toNat 17 8) = port && entryOk e then
    some (retryFills (setSq port 0 8 { r with head := (r.head + 1) % r.slots } s))
  else none

/-- The tenant and the tag of an entry of the command ring (R282). -/
def cmdTenant (e : Quad) : Nat := bitsOf e.w0.toNat 17 8
def cmdTag (e : Quad) : Nat := bitsOf e.w0.toNat 63 32

/-! Squall and Cumulus (R389–R427). -/

/-- An item is ready, and the index that it names accepts it: the index and its number. -/
def indexTakes (n op : Nat) (s : State) : Option (Item × Nat × Index) :=
  (itemReady n op s).bind fun i => (openIndex s i.tenant (wBits i.words 1 15 0)).bind fun (k, x) =>
    if x.failed then none else some (i, k, x)

/-- A command of the host on a key of an open store is admitted and takes its turn at once: no PUT holds the key, no
ownership record is bound to it or named by it. The store's number, the item as admitted, the store, and the state. -/
def storeTakes (n op : Nat) (s : State) : Option (Nat × Item × Store × State) :=
  (getItem? s n).bind fun i =>
    if !s.alive || i.opcode ≠ op || i.src.queue.isNone || i.ended.isSome || i.wait ≠ .none || s.rc.warmStep ≠ 0 ||
        (!i.started && !mayStart s n i) || i.regs.getD 7 0 ≠ 0 || i.regs.getD 11 0 = 1 || !cmdOk i then none
    else
      (openStore s i.tenant (wBits i.words 1 15 0)).bind fun (k, x) =>
        let j := { i with started := true, regs := i.regs.set 7 (k + 1) }
        let t := setItem n j s
        if s.sv.stores.get? k = some x && !x.failed && !keyBusy t n k (creq j).key &&
            !(x.keys.get? (creq j).key).any (fun c => c.own ≠ 0) && (op ≠ 0x39 || (creq j).own = 0) then some (k, j, x, t)
        else none

/-- A whole request line of an operation arrives at a store that accepts it (R419, R420): its item's number, the
store's number, and the state with the item. -/
def remoteTakes (write op : Nat) (s : State) : Option (Nat × Nat × State) :=
  if !s.alive || s.rc.warmStep ≠ 0 || s.bt.stage ≠ 4 then none
  else
    (s.sv.writes.get? write).bind fun lw => (storeOf s lw.pha).bind fun k => (s.sv.stores.get? k).bind fun x =>
      let w := wordsFrom 8 lw.bytes
      let n := s.ho.nextItem
      let i : Item := { src := .line k (wBits w 0 31 16) (wBits w 0 47 32) (wordAt w 2), tenant := x.tenant,
                        opcode := 0x38 + op, ordered := false, words := w, started := true,
                        regs := FMap.set (FMap.set [] 7 (k + 1)) 8 write }
      let t := writerDone lw.writer Config.ok (s.setSv { s.sv with writes := s.sv.writes.erase write })
      if lw.whole && !lw.zero && lineOk w && x.destroying.isNone && wBits w 0 3 0 = op && lineRestOk i &&
          s.ho.items.count (fun _ i => match i.src with | .line st _ _ _ => st = k | .host _ _ _ _ => false)
            < Par.remoteInflight s then
        some (n, k, t.setHo { t.ho with items := t.ho.items.set n i, nextItem := n + 1 })
      else none

end Sys2Proof.Machine
end

