-- ==== Sys2Proof/Certificates/Slice0/Obligations.lean ====
section
/-!
DEFINITION. The statements about the device.

A statement with several clauses speaks of several commands: each clause says under which conditions on
the state and the operands a command answers a next state, and which state that is.
-/

open Sys2Proof Sys2Proof.Machine

/-! Drift and the tiers (chapter 2). -/

/-- A move advances (R38–R41): a chunk of the first pass is followed by the next one, whose dirty bit is
cleared; the last chunk with nothing left dirty brings SWITCHING; the switch writes the destination to
both copies of the home map and brings FREEING; a stall that runs out returns the page to MOVING. The
page's bytes and everything else stay.

A move that takes too long, or whose source nothing refers to any more, ends (R37, R40, R41): an
abandoned move leaves the page HOME where it was and frees the destination; a page in FREEING becomes
HOME. No byte of the range changes.

Rounds, uncorrectable lines, lost modules and drains (R45, R46, R53–R55, R60, R61, R461). A Drift round
halves HEAT by HEAT_DECAY_SHIFT; a NONE page's uncorrectable line is poisoned, a MIRROR page's with both
copies sound is not; a lost module is marked; a page of a lost module takes the place chosen for it; a
drain that finds no DRAM home sets DRAINED. An address outside the range has no line. -/
def Obligations.DriftMovesPages : Prop :=
  (∀ (s : State) (r : Nat) (m : Move), s.powered = true → s.ti.moves.get? r = some m →
    (entryOf s m.page).state = 1 → m.passed = false → m.chunk < 31 →
    exec (.driftChunkCopyDone r) s = .next (s.setTi { s.ti with
      moves := s.ti.moves.set r { m with chunk := m.chunk + 1, dirty := m.dirty.del (m.chunk + 1) } })) ∧
  (∀ (s : State) (r : Nat) (m : Move), s.powered = true → s.ti.moves.get? r = some m →
    (entryOf s m.page).state = 1 → m.passed = false → m.chunk = 31 → m.dirty = [] →
    ∃ t, exec (.driftChunkCopyDone r) s = .next t ∧ (entryOf t m.page).state = 2 ∧
      (entryOf t m.page).slot = (entryOf s m.page).slot ∧
      t.ti.moves.get? r = some { m with passed := true, chunk := 32 } ∧
      (∀ p, p ≠ m.page → entryOf t p = entryOf s p) ∧ t = s.setTi t.ti ∧ t.ti.used = s.ti.used) ∧
  (∀ (s : State) (r : Nat) (m : Move), s.powered = true → s.ti.moves.get? r = some m →
    (entryOf s m.page).state = 2 →
    ∃ t, exec (.switchComplete r) s = .next t ∧
      (entryOf t m.page).place = m.dst ∧ (entryOf t m.page).state = 3 ∧
      t.ti.homeB.get? m.page = t.ti.homeA.get? m.page ∧
      (∀ p, p ≠ m.page → entryOf t p = entryOf s p) ∧ t = (s.setTi t.ti).setFr t.fr ∧
      t.ti.used = s.ti.used) ∧
  (∀ (s : State) (r : Nat) (m : Move) (since : Nat), s.powered = true → s.pw.refclk = true →
    s.ti.moves.get? r = some m → m.stallSince = some since → (entryOf s m.page).state = 2 → m.backs < 15 →
    ∃ t, exec (.switchStallExpiry r) s = .next t ∧ (entryOf t m.page).state = 1 ∧
      (entryOf t m.page).place = (entryOf s m.page).place ∧
      t.now = max s.now (since + if touchesFlash m then 250000 else 2000) ∧
      t.ti.moves.get? r = some { m with backs := m.backs + 1, stallSince := none } ∧
      (∀ p, p ≠ m.page → entryOf t p = entryOf s p) ∧ t = (s.setNow t.now).setTi t.ti) ∧
  (∀ (s : State) (r : Nat) (m : Move) (since : Nat), s.powered = true → s.ti.moves.get? r = some m →
    m.stallSince = some since → (entryOf s m.page).state = 2 → (entryOf s m.page).tier ≠ 0 → 15 ≤ m.backs →
    s.ti.plan = [] → s.ti.drainItems = [] →
    ∃ t, exec (.switchStallExpiry r) s = .next t ∧ (entryOf t m.page).state = 0 ∧
      (entryOf t m.page).place = (entryOf s m.page).place ∧ t.ti.moves = s.ti.moves.erase r ∧ t.mem = s.mem) ∧
  (∀ (s : State) (r : Nat) (m : Move), s.powered = true → s.pw.refclk = true → s.ti.moves.get? r = some m →
    (entryOf s m.page).state ≠ 3 → (entryOf s m.page).tier ≠ 0 → s.ti.plan = [] → s.ti.drainItems = [] →
    ∃ t, exec (.moveTimeout r) s = .next t ∧ (entryOf t m.page).state = 0 ∧
      (entryOf t m.page).place = (entryOf s m.page).place ∧ t.ti.moves = s.ti.moves.erase r ∧
      m.started + 1000 * (if touchesFlash m then Par.moveTimeoutFlash s else Par.moveTimeoutDram s) ≤ t.now ∧
      t.mem = s.mem) ∧
  (∀ (s : State) (tier slot r : Nat) (m : Move), s.powered = true → refsOf s tier slot = 0 →
    s.ti.moves.first? (fun _ m => m.srcTier = tier && m.srcSlot = slot && (entryOf s m.page).state = 3) = some (r, m) →
    s.ti.plan = [] → s.ti.drainItems = [] →
    ∃ t, exec (.sourceRefcountZero tier slot) s = .next t ∧ (entryOf t m.page).state = 0 ∧
      (entryOf t m.page).place = (entryOf s m.page).place ∧ t.ti.moves = s.ti.moves.erase r ∧ t.mem = s.mem) ∧
  (∀ (s : State) (page : Nat) (e : HomeEntry), drumAllowed s 0 = true → s.ti.homeA.get? page = some e → e.hint ≠ 3 →
    ∃ t, exec .driftRound s = .next t ∧ (entryOf t page).heat = e.heat - e.heat / 2 ^ Par.heatDecayShift s ∧
      (getDrum t 0).running = true ∧ t.mem = s.mem) ∧
  (∀ (s : State) (task : Nat), s.powered = true → (getDrum s task).running = true →
    exec (.drumbeatRunEnd task) s =
      .next (setDrum task { getDrum s task with running := false, lastEnd := s.now } s)) ∧
  (∀ (s : State) (pha copy m : Nat), s.powered = true → pha / 0x200000 < s.ti.rangePages →
    ((entryOf s (pha / 0x200000)).tier = 1 ∨ (entryOf s (pha / 0x200000)).tier = 2) →
    (entryOf s (pha / 0x200000)).arranged = 0 →
    moduleOf s (entryOf s (pha / 0x200000)).tier (entryOf s (pha / 0x200000)).slot = some m →
    s.ti.ueLog = [] → 1 < Par.ueLossCount s →
    exec (.uncorrectableLine pha copy) s =
      .next (setPoison (s.setTi { s.ti with ueLog := [(m, pha / 64, s.now)] }) pha)) ∧
  (∀ (s : State) (pha copy m : Nat), s.powered = true → pha / 0x200000 < s.ti.rangePages →
    ((entryOf s (pha / 0x200000)).tier = 1 ∨ (entryOf s (pha / 0x200000)).tier = 2) →
    (entryOf s (pha / 0x200000)).arranged = 1 →
    slotGood s (entryOf s (pha / 0x200000)).tier (entryOf s (pha / 0x200000)).slot = true →
    slotGood s (entryOf s (pha / 0x200000)).tier (entryOf s (pha / 0x200000)).mirror = true →
    moduleOf s (entryOf s (pha / 0x200000)).tier (if copy = 1 then (entryOf s (pha / 0x200000)).mirror
      else (entryOf s (pha / 0x200000)).slot) = some m →
    s.ti.ueLog = [] → 1 < Par.ueLossCount s →
    exec (.uncorrectableLine pha copy) s = .next (s.setTi { s.ti with ueLog := [(m, pha / 64, s.now)] })) ∧
  (∀ (s : State) (pha copy : Nat), s.ti.rangePages ≤ pha / 0x200000 →
    exec (.uncorrectableLine pha copy) s = .fault (.absentAddress pha)) ∧
  (∀ (s : State) (m : Nat), s.powered = true → moduleSlots s m ≠ 0 → s.ti.lostModules.mem m = false →
    ∃ t, exec (.moduleLost m) s = .next t ∧ t.ti.lostModules = s.ti.lostModules.add m ∧ t.mem = s.mem ∧
      s.rc.newest < t.rc.newest) ∧
  (∀ (s : State) (page : Nat) (p : Place), s.powered = true → s.ti.rebuild.has page = true →
    s.ti.waiting.mem page = false → (entryOf s page).state = 0 →
    ((entryOf s page).tier = 1 ∨ (entryOf s page).tier = 2) → (entryOf s page).arranged = 0 →
    choosePlace s (entryOf s page) = some p →
    ∃ t, exec (.pageRebuildDone page) s = .next t ∧ (entryOf t page).place = p ∧
      t.ti.rebuild = s.ti.rebuild.erase page ∧ t.mem = s.mem) ∧
  (∀ (s : State) (page : Nat) (p : Place), s.powered = true → s.ti.waiting.mem page = true →
    ((entryOf s page).tier = 1 ∨ (entryOf s page).tier = 2) → (entryOf s page).arranged = 0 →
    choosePlace s (entryOf s page) = some p →
    ∃ t, exec (.waitingPageHomed page) s = .next t ∧ (entryOf t page).place = p ∧
      t.ti.waiting = s.ti.waiting.del page ∧ t.mem = s.mem) ∧
  (∀ (s : State), s.powered = true → s.ti.drainItems ≠ [] → s.pw.stage = 0 →
    s.ti.homeA.any (fun kv => kv.2.tier = 1 || kv.2.tier = 2) = false → s.ti.moves = [] →
    ∃ t, exec .tierDrainDone s = .next t ∧ t.ti.drained = true ∧ t.ti.drainItems = [] ∧ t.mem = s.mem ∧
      (∀ n it, n ∈ s.ti.drainItems → s.ho.items.get? n = some it → it.ended = none →
        ∃ it', t.ho.items.get? n = some it' ∧ it'.ended = some Config.ok))

/-! Frost (chapter 3). -/

/-- Unit reads (R70–R72, R86): a decoded read ends, and teaches the read offsets of its blocks; a codeword
that does not decode is read again up to READ_RETRY_MAX times, and then rebuilt from its row; a rebuild
with every other member present ends the read, and one without loses the unit. Only Frost's tables change,
unless a unit is lost.

The write buffer and the journal (R75, R76, R84, R90, R93, R94): a filled unit is ready; an aged unit is
programmed, once its time has come; a program that ends maps the unit and frees its place in the buffer,
unless it was written meanwhile; a commit brings the gathered intents into effect; a flush writes a
checkpoint; the close record closes Frost; an erase that ends counts the erase.

Background work and failed parts (R73, R78, R83–R86): a unit that garbage collection or scrub copies
within its group is mapped to its new place; a disturbed block is erased; a die is lost at the third busy
timeout within 1 s and then rebuilt; a lost channel makes its group DEGRADED; a page of a DEGRADED group
moves to the group with the most room. -/
def Obligations.FrostServesPages : Prop :=
  (∀ (s : State) (u corrected : Nat) (l : FrostLoc), s.powered = true →
    s.fr.reads.get? u = some { retries := 0, rebuilding := false } → s.fr.loc.get? u = some l →
    ∃ t, exec (.frostUnitReadDone u corrected true) s = .next t ∧ t = s.setFr t.fr ∧
      t.fr.reads = s.fr.reads.erase u ∧
      t.fr.offsets.get? (dieKey l.chan l.die * 0x100000 + l.block / 64) = some (Config.trackOffset
        (s.fr.offsets.getD (dieKey l.chan l.die * 0x100000 + l.block / 64) 0) corrected)) ∧
  (∀ (s : State) (u corrected : Nat), s.powered = true →
    s.fr.reads.get? u = some { retries := 0, rebuilding := false } →
    exec (.frostUnitReadDone u corrected false) s = .next (s.setFr { s.fr with
      reads := s.fr.reads.set u { retries := 1, rebuilding := false } })) ∧
  (∀ (s : State) (u : Nat) (r : UnitRead), s.powered = true → s.fr.reads.get? u = some r →
    r.rebuilding = false → r.retries ≠ 0 →
    exec (.frostReadRetryDone u true) s = .next (s.setFr { s.fr with reads := s.fr.reads.erase u })) ∧
  (∀ (s : State) (u : Nat) (r : UnitRead), s.powered = true → s.fr.reads.get? u = some r →
    r.rebuilding = false → r.retries ≠ 0 →
    exec (.frostReadRetryDone u false) s = .next (s.setFr { s.fr with
      reads := s.fr.reads.set u
        (if r.retries < Par.readRetryMax s then { r with retries := r.retries + 1 }
         else { r with rebuilding := true }) })) ∧
  (∀ (s : State) (u : Nat) (r : UnitRead) (l : FrostLoc), s.powered = true → s.fr.reads.get? u = some r →
    r.rebuilding = true → s.fr.loc.get? u = some l →
    (∀ i, i < 16 → 16 * (l.chan / 16) + i ≠ l.chan → locLost s (16 * (l.chan / 16) + i) l.die = false) →
    exec (.frostParityRebuildDone u) s = .next (s.setFr { s.fr with reads := s.fr.reads.erase u })) ∧
  (∀ (s : State) (u i : Nat) (r : UnitRead) (l : FrostLoc), s.powered = true → s.fr.reads.get? u = some r →
    r.rebuilding = true → s.fr.loc.get? u = some l →
    i < 16 → 16 * (l.chan / 16) + i ≠ l.chan → locLost s (16 * (l.chan / 16) + i) l.die = true →
    exec (.frostParityRebuildDone u) s =
      .next (loseUnit u (s.setFr { s.fr with reads := s.fr.reads.erase u }))) ∧
  (∀ (s : State) (u : Nat), s.powered = true →
    exec (.bufferUnitFillDone u) s =
      .next (s.setFr { s.fr with buf := s.fr.buf.modify u fun b => { b with filling := false } })) ∧
  (∀ (s : State) (u : Nat) (b : BufUnit), s.powered = true → s.pw.refclk = true → s.fr.buf.get? u = some b →
    b.programming = false → b.filling = false → groupState s (unitGroup s u) ≠ 3 →
    ∃ t, exec (.flushAgeExpiry u) s = .next t ∧ t = (s.setNow t.now).setFr t.fr ∧
      b.last + 1000 * Par.flushAge s ≤ t.now ∧ t.fr.buf.get? u = some { b with programming := true } ∧
      t.fr.pend = s.fr.pend ∧ t.fr.intents = s.fr.intents) ∧
  (∀ (s : State) (u : Nat) (b : BufUnit) (loc : FrostLoc), s.powered = true → s.fr.buf.get? u = some b →
    b.programming = true → b.rewritten = false → loc.chan / 16 = unitGroup s u →
    exec (.frostProgramDone u loc true) s =
      .next (s.setFr { s.fr with loc := s.fr.loc.set u loc, buf := s.fr.buf.erase u })) ∧
  (∀ (s : State) (u : Nat) (b : BufUnit) (loc : FrostLoc), s.powered = true → s.fr.buf.get? u = some b →
    b.programming = true → b.rewritten = true → loc.chan / 16 = unitGroup s u →
    exec (.frostProgramDone u loc true) s =
      .next (s.setFr { s.fr with
        loc := s.fr.loc.set u loc
        buf := s.fr.buf.set u { b with programming := false, rewritten := false } })) ∧
  (∀ (s : State), s.powered = true → frostPrograms s = true → s.fr.pend ≠ [] →
    ∃ t, exec .journalGroupCommit s = .next t ∧ t = s.setFr t.fr ∧ t.fr.pend = [] ∧
      t.fr.journal = s.fr.journal ++ s.fr.pend ∧
      (∀ p, t.fr.intents.mem p = (s.fr.intents.mem p || s.fr.pend.contains (.intent p)))) ∧
  (∀ (s : State), drumAllowed s 4 = true → frostPrograms s = true →
    ∃ t, exec .journalFlush s = .next t ∧ t.fr.pend = [] ∧
      (∃ c, t.fr.checkpoint = some c ∧ c.homes = s.ti.homeA.keep (fun _ e => e.tier = 3) ∧ c.owners = s.fr.owner) ∧
      t.fr.buf = s.fr.buf ∧ t.mem = s.mem ∧ t.ti = s.ti) ∧
  (∀ (s : State), s.powered = true → s.fr.closing = true → s.fr.buf = [] →
    ∃ t, exec .closeRecordProgrammed s = .next t ∧ t = s.setFr t.fr ∧ t.fr.closed = true ∧
      t.fr.closing = false ∧ t.fr.closeRecord = true ∧ t.fr.pend = [] ∧ t.fr.intents = [] ∧
      t.fr.loc = s.fr.loc) ∧
  (∀ (s : State) (block : Nat), s.powered = true → s.fr.erasing.mem block = true →
    exec (.frostEraseDone block true) s = .next (s.setFr { s.fr with
      erasing := s.fr.erasing.del block
      readCount := s.fr.readCount.erase block
      eraseCount := s.fr.eraseCount.set block (s.fr.eraseCount.getD block 0 + 1) })) ∧
  (∀ (s : State) (u : Nat) (old new : FrostLoc), drumAllowed s 1 = true → frostPrograms s = true →
    s.fr.loc.get? u = some old → s.fr.buf.has u = false → new.chan / 16 = old.chan / 16 →
    ∃ t, exec (.frostGcRun [(u, new)]) s = .next t ∧ t.fr.loc.get? u = some new ∧ t.mem = s.mem ∧ t.ti = s.ti ∧
      (getDrum t 1).running = true ∧ (∀ v, v ≠ u → t.fr.loc.get? v = s.fr.loc.get? v)) ∧
  (∀ (s : State) (u : Nat) (old new : FrostLoc), drumAllowed s 2 = true → frostPrograms s = true →
    s.rc.deviceState = 0 → s.fr.loc.get? u = some old → s.fr.buf.has u = false → new.chan / 16 = old.chan / 16 →
    ∃ t, exec (.scrubRun [] [(u, new)]) s = .next t ∧ t.fr.loc.get? u = some new ∧ t.mem = s.mem ∧ t.ti = s.ti ∧
      (getDrum t 2).running = true ∧ (∀ v, v ≠ u → t.fr.loc.get? v = s.fr.loc.get? v)) ∧
  (∀ (s : State) (block : Nat), s.powered = true → frostPrograms s = true →
    Par.readDisturbLimit s ≤ s.fr.readCount.getD block 0 →
    exec (.readDisturbRelocate block []) s =
      .next (s.setFr { s.fr with erasing := s.fr.erasing.add block })) ∧
  (∀ (s : State) (channel die : Nat), s.powered = true → die < s.board.dies.getD channel 0 →
    (getDie s (dieKey channel die)).busyAt = [] →
    exec (.dieBusyTimeout channel die) s =
      .next (setDie (dieKey channel die) { getDie s (dieKey channel die) with busyAt := [s.now] } s)) ∧
  (∀ (s : State) (channel die : Nat), s.powered = true → die < s.board.dies.getD channel 0 →
    (getDie s (dieKey channel die)).busyAt = [s.now, s.now] →
    exec (.dieBusyTimeout channel die) s = .next (loseDie channel die
      (setDie (dieKey channel die) { getDie s (dieKey channel die) with busyAt := [s.now, s.now, s.now] } s))) ∧
  (∀ (s : State) (channel die : Nat), s.powered = true → die < s.board.dies.getD channel 0 →
    (getDie s (dieKey channel die)).lost = false →
    ∃ t, exec (.flashDieLost channel die) s = .next t ∧ (getDie t (dieKey channel die)).lost = true ∧
      s.rc.newest < t.rc.newest ∧ t.mem = s.mem) ∧
  (∀ (s : State) (channel die : Nat), s.powered = true → (getDie s (dieKey channel die)).lost = true →
    (getDie s (dieKey channel die)).rebuilt = false → unitsOn s channel die = [] →
    ∃ t, exec (.dieRebuildDone channel die []) s = .next t ∧ (getDie t (dieKey channel die)).rebuilt = true ∧
      t.fr.loc = s.fr.loc ∧ t.mem = s.mem) ∧
  (∀ (s : State) (channel : Nat), s.powered = true → channel < 48 → s.board.dies.getD channel 0 ≠ 0 →
    s.fr.lostChannels.mem channel = false →
    ∃ t, exec (.flashChannelLost channel) s = .next t ∧ groupState t (channel / 16) = 3 ∧
      t.fr.lostChannels = s.fr.lostChannels.add channel ∧ s.rc.newest < t.rc.newest ∧ t.mem = s.mem) ∧
  (∀ (s : State) (page g : Nat), s.powered = true → degradedNext s = some page → pickGroup s = some g →
    exec (.degradedPageMoved page) s = .next (s.setFr { s.fr with
      pageGroup := s.fr.pageGroup.set page g
      moveNext := s.fr.moveNext.filter (· ≠ page)
      loc := s.fr.loc.keep fun u _ => unitPage u ≠ page }))

/-! Phicor instructions (chapters 4 and 5). Each clause: the program whose next word is the instruction, which has
fuel and every register ready, goes on one instruction later, with one unit of fuel less, and with this
result; nothing else of the device changes (`ProgramsTouchOnlyTheirContext`). -/

/-- Scalar arithmetic (R138): shifts count modulo 64; SLT, MIN, MAX and SLTI compare as signed integers, SLTU, MINU
and MAXU as unsigned ones; immediates are sign-extended; MULH and MULHU give the high half of the exact
product.

Scalar division (R138): DIV rounds toward zero and REM takes the dividend's sign; a zero divisor gives all ones
and the dividend; −2^63 by −1 gives −2^63 and 0. -/
def Obligations.ScalarInstructionsComplete : Prop :=
  (∀ (p : Proc) (w : BitVec 32) (s : State) (c : Ctx), issues .add p w s = some c → exec (.add p w) s = putsX p w c (srcA w c + srcB w c) s) ∧
  (∀ (p : Proc) (w : BitVec 32) (s : State) (c : Ctx), issues .sub p w s = some c → exec (.sub p w) s = putsX p w c (srcA w c - srcB w c) s) ∧
  (∀ (p : Proc) (w : BitVec 32) (s : State) (c : Ctx), issues .and p w s = some c → exec (.andOp p w) s = putsX p w c (srcA w c &&& srcB w c) s) ∧
  (∀ (p : Proc) (w : BitVec 32) (s : State) (c : Ctx), issues .or p w s = some c → exec (.orOp p w) s = putsX p w c (srcA w c ||| srcB w c) s) ∧
  (∀ (p : Proc) (w : BitVec 32) (s : State) (c : Ctx), issues .xor p w s = some c → exec (.xorOp p w) s = putsX p w c (srcA w c ^^^ srcB w c) s) ∧
  (∀ (p : Proc) (w : BitVec 32) (s : State) (c : Ctx), issues .sll p w s = some c → exec (.sll p w) s = putsX p w c (srcA w c <<< ((srcB w c).toNat % 64)) s) ∧
  (∀ (p : Proc) (w : BitVec 32) (s : State) (c : Ctx), issues .srl p w s = some c → exec (.srl p w) s = putsX p w c (srcA w c >>> ((srcB w c).toNat % 64)) s) ∧
  (∀ (p : Proc) (w : BitVec 32) (s : State) (c : Ctx), issues .sra p w s = some c → exec (.sra p w) s = putsX p w c ((srcA w c).sshiftRight ((srcB w c).toNat % 64)) s) ∧
  (∀ (p : Proc) (w : BitVec 32) (s : State) (c : Ctx), issues .slt p w s = some c → exec (.slt p w) s = putsX p w c (if (srcA w c).toInt < (srcB w c).toInt then 1 else 0) s) ∧
  (∀ (p : Proc) (w : BitVec 32) (s : State) (c : Ctx), issues .sltu p w s = some c → exec (.sltu p w) s = putsX p w c (if (srcA w c).toNat < (srcB w c).toNat then 1 else 0) s) ∧
  (∀ (p : Proc) (w : BitVec 32) (s : State) (c : Ctx), issues .min p w s = some c → exec (.minOp p w) s = putsX p w c (if (srcA w c).toInt < (srcB w c).toInt then srcA w c else srcB w c) s) ∧
  (∀ (p : Proc) (w : BitVec 32) (s : State) (c : Ctx), issues .max p w s = some c → exec (.maxOp p w) s = putsX p w c (if (srcA w c).toInt < (srcB w c).toInt then srcB w c else srcA w c) s) ∧
  (∀ (p : Proc) (w : BitVec 32) (s : State) (c : Ctx), issues .minu p w s = some c → exec (.minu p w) s = putsX p w c (if (srcA w c).toNat < (srcB w c).toNat then srcA w c else srcB w c) s) ∧
  (∀ (p : Proc) (w : BitVec 32) (s : State) (c : Ctx), issues .maxu p w s = some c → exec (.maxu p w) s = putsX p w c (if (srcA w c).toNat < (srcB w c).toNat then srcB w c else srcA w c) s) ∧
  (∀ (p : Proc) (w : BitVec 32) (s : State) (c : Ctx), issues .seq p w s = some c → exec (.seq p w) s = putsX p w c (if srcA w c = srcB w c then 1 else 0) s) ∧
  (∀ (p : Proc) (w : BitVec 32) (s : State) (c : Ctx), issues .sne p w s = some c → exec (.sne p w) s = putsX p w c (if srcA w c = srcB w c then 0 else 1) s) ∧
  (∀ (p : Proc) (w : BitVec 32) (s : State) (c : Ctx), issues .addi p w s = some c → exec (.addi p w) s = putsX p w c (srcA w c + BitVec.ofInt 64 (fImm12 w.toNat)) s) ∧
  (∀ (p : Proc) (w : BitVec 32) (s : State) (c : Ctx), issues .andi p w s = some c → exec (.andi p w) s = putsX p w c (srcA w c &&& BitVec.ofInt 64 (fImm12 w.toNat)) s) ∧
  (∀ (p : Proc) (w : BitVec 32) (s : State) (c : Ctx), issues .ori p w s = some c → exec (.ori p w) s = putsX p w c (srcA w c ||| BitVec.ofInt 64 (fImm12 w.toNat)) s) ∧
  (∀ (p : Proc) (w : BitVec 32) (s : State) (c : Ctx), issues .xori p w s = some c → exec (.xori p w) s = putsX p w c (srcA w c ^^^ BitVec.ofInt 64 (fImm12 w.toNat)) s) ∧
  (∀ (p : Proc) (w : BitVec 32) (s : State) (c : Ctx), issues .slti p w s = some c → exec (.slti p w) s = putsX p w c (if (srcA w c).toInt < fImm12 w.toNat then 1 else 0) s) ∧
  (∀ (p : Proc) (w : BitVec 32) (s : State) (c : Ctx), issues .slli p w s = some c → exec (.slli p w) s = putsX p w c (srcA w c <<< bitsOf w.toNat 25 20) s) ∧
  (∀ (p : Proc) (w : BitVec 32) (s : State) (c : Ctx), issues .srli p w s = some c → exec (.srli p w) s = putsX p w c (srcA w c >>> bitsOf w.toNat 25 20) s) ∧
  (∀ (p : Proc) (w : BitVec 32) (s : State) (c : Ctx), issues .srai p w s = some c → exec (.srai p w) s = putsX p w c ((srcA w c).sshiftRight (bitsOf w.toNat 25 20)) s) ∧
  (∀ (p : Proc) (w : BitVec 32) (s : State) (c : Ctx), issues .lui p w s = some c → exec (.lui p w) s = putsX p w c (BitVec.ofInt 64 (fImm20 w.toNat * 4096)) s) ∧
  (∀ (p : Proc) (w : BitVec 32) (s : State) (c : Ctx), issues .mul p w s = some c → exec (.mul p w) s = putsX p w c (BitVec.ofNat 64 ((srcA w c).toNat * (srcB w c).toNat)) s) ∧
  (∀ (p : Proc) (w : BitVec 32) (s : State) (c : Ctx), issues .mulh p w s = some c → exec (.mulh p w) s = putsX p w c (BitVec.ofInt 64 ((srcA w c).toInt * (srcB w c).toInt / 18446744073709551616)) s) ∧
  (∀ (p : Proc) (w : BitVec 32) (s : State) (c : Ctx), issues .mulhu p w s = some c → exec (.mulhu p w) s = putsX p w c (BitVec.ofNat 64 ((srcA w c).toNat * (srcB w c).toNat / 18446744073709551616)) s) ∧
  (∀ (p : Proc) (w : BitVec 32) (s : State) (c : Ctx), issues .div p w s = some c → srcB w c = 0 → exec (.div p w) s = putsX p w c (BitVec.allOnes 64) s) ∧
  (∀ (p : Proc) (w : BitVec 32) (s : State) (c : Ctx), issues .divu p w s = some c → srcB w c = 0 → exec (.divu p w) s = putsX p w c (BitVec.allOnes 64) s) ∧
  (∀ (p : Proc) (w : BitVec 32) (s : State) (c : Ctx), issues .rem p w s = some c → srcB w c = 0 → exec (.rem p w) s = putsX p w c (srcA w c) s) ∧
  (∀ (p : Proc) (w : BitVec 32) (s : State) (c : Ctx), issues .remu p w s = some c → srcB w c = 0 → exec (.remu p w) s = putsX p w c (srcA w c) s) ∧
  (∀ (p : Proc) (w : BitVec 32) (s : State) (c : Ctx), issues .div p w s = some c → (srcA w c).toInt = -9223372036854775808 → (srcB w c).toInt = -1 → exec (.div p w) s = putsX p w c (BitVec.ofInt 64 (-9223372036854775808)) s) ∧
  (∀ (p : Proc) (w : BitVec 32) (s : State) (c : Ctx), issues .rem p w s = some c → (srcA w c).toInt = -9223372036854775808 → (srcB w c).toInt = -1 → exec (.rem p w) s = putsX p w c (0) s) ∧
  (∀ (p : Proc) (w : BitVec 32) (s : State) (c : Ctx), issues .div p w s = some c → srcB w c ≠ 0 → exec (.div p w) s = putsX p w c (BitVec.ofInt 64 ((srcA w c).toInt.tdiv (srcB w c).toInt)) s) ∧
  (∀ (p : Proc) (w : BitVec 32) (s : State) (c : Ctx), issues .rem p w s = some c → srcB w c ≠ 0 → exec (.rem p w) s = putsX p w c (BitVec.ofInt 64 ((srcA w c).toInt.tmod (srcB w c).toInt)) s) ∧
  (∀ (p : Proc) (w : BitVec 32) (s : State) (c : Ctx), issues .divu p w s = some c → srcB w c ≠ 0 → exec (.divu p w) s = putsX p w c (BitVec.ofNat 64 ((srcA w c).toNat / (srcB w c).toNat)) s) ∧
  (∀ (p : Proc) (w : BitVec 32) (s : State) (c : Ctx), issues .remu p w s = some c → srcB w c ≠ 0 → exec (.remu p w) s = putsX p w c (BitVec.ofNat 64 ((srcA w c).toNat % (srcB w c).toNat)) s)

/-- Predicates, branches, calls and control (R137, R138): targets are relative to the instruction; a call pushes
the next instruction on a stack of eight; a program that ends does so with OK, and one that yields goes
behind the others. -/
def Obligations.PredicatesBranchesControl : Prop :=
  (∀ (p : Proc) (w : BitVec 32) (s : State) (c : Ctx), issues .pset p w s = some c → exec (.pset p w) s = .next (finishOp p (c.writeP (fRd w.toNat) (srcA w c)) s)) ∧
  (∀ (p : Proc) (w : BitVec 32) (s : State) (c : Ctx), issues .pget p w s = some c → exec (.pget p w) s = putsX p w c (c.readP (fRs1 w.toNat)) s) ∧
  (∀ (p : Proc) (w : BitVec 32) (s : State) (c : Ctx), issues .pand p w s = some c → exec (.pand p w) s = .next (finishOp p (c.writeP (fRd w.toNat) (c.readP (fRs1 w.toNat) &&& c.readP (fRs2 w.toNat))) s)) ∧
  (∀ (p : Proc) (w : BitVec 32) (s : State) (c : Ctx), issues .por p w s = some c → exec (.por p w) s = .next (finishOp p (c.writeP (fRd w.toNat) (c.readP (fRs1 w.toNat) ||| c.readP (fRs2 w.toNat))) s)) ∧
  (∀ (p : Proc) (w : BitVec 32) (s : State) (c : Ctx), issues .pnot p w s = some c → exec (.pnot p w) s = .next (finishOp p (c.writeP (fRd w.toNat) (~~~c.readP (fRs1 w.toNat))) s)) ∧
  (∀ (p : Proc) (w : BitVec 32) (s : State) (c : Ctx), issues .beq p w s = some c → exec (.beq p w) s = .next (finishOp p (if (c.readX (fBRs1 w.toNat)) = (c.readX (fBRs2 w.toNat)) then { c with pc := ((c.pc : Int) - 1 + fOff12 w.toNat).toNat } else c) s)) ∧
  (∀ (p : Proc) (w : BitVec 32) (s : State) (c : Ctx), issues .bne p w s = some c → exec (.bne p w) s = .next (finishOp p (if (c.readX (fBRs1 w.toNat)) ≠ (c.readX (fBRs2 w.toNat)) then { c with pc := ((c.pc : Int) - 1 + fOff12 w.toNat).toNat } else c) s)) ∧
  (∀ (p : Proc) (w : BitVec 32) (s : State) (c : Ctx), issues .blt p w s = some c → exec (.blt p w) s = .next (finishOp p (if (c.readX (fBRs1 w.toNat)).toInt < (c.readX (fBRs2 w.toNat)).toInt then { c with pc := ((c.pc : Int) - 1 + fOff12 w.toNat).toNat } else c) s)) ∧
  (∀ (p : Proc) (w : BitVec 32) (s : State) (c : Ctx), issues .bge p w s = some c → exec (.bge p w) s = .next (finishOp p (if (c.readX (fBRs2 w.toNat)).toInt ≤ (c.readX (fBRs1 w.toNat)).toInt then { c with pc := ((c.pc : Int) - 1 + fOff12 w.toNat).toNat } else c) s)) ∧
  (∀ (p : Proc) (w : BitVec 32) (s : State) (c : Ctx), issues .bltu p w s = some c → exec (.bltu p w) s = .next (finishOp p (if (c.readX (fBRs1 w.toNat)).toNat < (c.readX (fBRs2 w.toNat)).toNat then { c with pc := ((c.pc : Int) - 1 + fOff12 w.toNat).toNat } else c) s)) ∧
  (∀ (p : Proc) (w : BitVec 32) (s : State) (c : Ctx), issues .bgeu p w s = some c → exec (.bgeu p w) s = .next (finishOp p (if (c.readX (fBRs2 w.toNat)).toNat ≤ (c.readX (fBRs1 w.toNat)).toNat then { c with pc := ((c.pc : Int) - 1 + fOff12 w.toNat).toNat } else c) s)) ∧
  (∀ (p : Proc) (w : BitVec 32) (s : State) (c : Ctx), issues .j p w s = some c → exec (.j p w) s = .next (finishOp p ({ c with pc := ((c.pc : Int) - 1 + fImm20 w.toNat).toNat }) s)) ∧
  (∀ (p : Proc) (w : BitVec 32) (s : State) (c : Ctx), issues .call p w s = some c → c.ret.length < 8 → exec (.call p w) s = .next (finishOp p ({ c with pc := ((c.pc : Int) - 1 + fImm20 w.toNat).toNat, ret := c.pc :: c.ret }) s)) ∧
  (∀ (p : Proc) (w : BitVec 32) (s : State) (c : Ctx) (a : Nat) (l : List Nat), issues .ret p w s = some c → c.ret = a :: l →
    exec (.ret p w) s = .next (finishOp p { c with pc := a, ret := l } s)) ∧
  (∀ (p : Proc) (w : BitVec 32) (s : State) (c : Ctx), issues .nop p w s = some c → exec (.ctlNop p w) s = .next (finishOp p (c) s)) ∧
  (∀ (p : Proc) (w : BitVec 32) (s : State) (c : Ctx), issues .time p w s = some c → exec (.timeOp p w) s = putsX p w c (BitVec.ofNat 64 s.now) s) ∧
  (∀ (p : Proc) (w : BitVec 32) (s : State) (c : Ctx), issues .fuel p w s = some c → exec (.fuelOp p w) s = putsX p w c (BitVec.ofNat 64 c.fuel) s) ∧
  (∀ (p : Proc) (w : BitVec 32) (s : State) (c : Ctx), issues .taborOp p w s = some c → exec (.taborOp p w) s = putsX p w c (BitVec.ofNat 64 c.tabor) s) ∧
  (∀ (p : Proc) (w : BitVec 32) (s : State) (c : Ctx), issues .srseed p w s = some c → exec (.srseed p w) s = .next (finishOp p ({ c with sr := (List.range 16).map fun i => ((srcA w c).toNat + i * (srcB w c).toNat) % 2 ^ 64 }) s)) ∧
  (∀ (n : Nat) (w : BitVec 32) (s : State) (c : Ctx), issues .yield (.tabor n) w s = some c →
    exec (.yield (.tabor n) w) s = .next (leave n c.id .ready (putProc (.tabor n) c s))) ∧
  (∀ (n : Nat) (w : BitVec 32) (s : State) (c : Ctx), issues .endOp (.tabor n) w s = some c →
    exec (.endOp (.tabor n) w) s = .next (endCtx n c.id Config.ok (putProc (.tabor n) c s))) ∧
  (∀ (w : BitVec 32) (s : State) (c : Ctx), issues .endOp .carillon w s = some c →
    exec (.endOp .carillon w) s = .next (scriptDone Config.ok s))

/-- Program scratch (R132, R137, R138): scalar and vector loads and stores; gathers, scatters and look-ups by lane;
an access that reaches outside the program's scratch ends it with ACCESS_DENIED. Stores of one instruction
are laid down in rising element order, so that the highest-numbered of two that overlap leaves its value.

Check values and packets (R150, R432, R433, R138): INIT starts a register from the block at scratch and feeds its
prefix, UPD and VUPD feed bytes, FIN gives the value; without an INIT they end the program. A Gale program
reads its packet, writes its payload only, and passes or rejects the request. -/
def Obligations.ScratchChecksAndPackets : Prop :=
  (∀ (p : Proc) (w : BitVec 32) (s : State) (c : Ctx) (bs : List Byte), issues .lds p w s = some c → c.readS (memAddr c w.toNat (scalarBytes (fSize w.toNat))) (scalarBytes (fSize w.toNat)) = some bs →
    exec (.lds p w) s = putsX p w c (scalarLoad (fSize w.toNat) bs) s) ∧
  (∀ (p : Proc) (w : BitVec 32) (s : State) (c : Ctx), issues .lds p w s = some c → c.scratchBytes < memAddr c w.toNat (scalarBytes (fSize w.toNat)) + scalarBytes (fSize w.toNat) →
    exec (.lds p w) s = .next (failProc p c Config.accessDenied s)) ∧
  (∀ (p : Proc) (w : BitVec 32) (s : State) (c : Ctx), issues .sts p w s = some c → memAddr c w.toNat (scalarBytes (fSize w.toNat)) + scalarBytes (fSize w.toNat) ≤ c.scratchBytes →
    exec (.sts p w) s = .next (finishOp p ({ c with scratch := Ctx.putBytes c.scratch (memAddr c w.toNat (scalarBytes (fSize w.toNat))) (leBytes (scalarBytes (fSize w.toNat)) (c.readX (fRd w.toNat)).toNat) }) s)) ∧
  (∀ (p : Proc) (w : BitVec 32) (s : State) (c : Ctx), issues .sts p w s = some c → c.scratchBytes < memAddr c w.toNat (scalarBytes (fSize w.toNat)) + scalarBytes (fSize w.toNat) →
    exec (.sts p w) s = .next (failProc p c Config.accessDenied s)) ∧
  (∀ (p : Proc) (w : BitVec 32) (s : State) (c : Ctx) (bs : List Byte), issues .vlds p w s = some c → fSize w.toNat < 2 → c.readS (memAddr c w.toNat (vectorBytes (fSize w.toNat))) (vectorBytes (fSize w.toNat)) = some bs →
    exec (.vlds p w) s = putsV p w c (bytesVec bs) s) ∧
  (∀ (p : Proc) (w : BitVec 32) (s : State) (c : Ctx) (bs : List Byte), issues .vlds p w s = some c → fSize w.toNat = 2 → c.readS (memAddr c w.toNat 4) 4 = some bs →
    exec (.vlds p w) s = putsV p w c (packV 32 (List.replicate 16 (leNat bs))) s) ∧
  (∀ (p : Proc) (w : BitVec 32) (s : State) (c : Ctx), issues .vlds p w s = some c → c.scratchBytes < memAddr c w.toNat (vectorBytes (fSize w.toNat)) + vectorBytes (fSize w.toNat) →
    exec (.vlds p w) s = .next (failProc p c Config.accessDenied s)) ∧
  (∀ (p : Proc) (w : BitVec 32) (s : State) (c : Ctx), issues .vsts p w s = some c →
    itemsIn c (predBit c (fMPred w.toNat)) (fun i => memAddr c w.toNat (vectorBytes (fSize w.toNat)) + 4 * i) 4 (vectorBytes (fSize w.toNat) / 4) = true →
    exec (.vsts p w) s = .next (finishOp p { c with scratch := (((List.range (vectorBytes (fSize w.toNat) / 4)).filter (predBit c (fMPred w.toNat))).foldl
      (fun m i => Ctx.putBytes m (memAddr c w.toNat (vectorBytes (fSize w.toNat)) + 4 * i) (leBytes 4 ((lanes 32 (c.readV (fRd w.toNat))).getD i 0)))
      c.scratch) } s)) ∧
  (∀ (p : Proc) (w : BitVec 32) (s : State) (c : Ctx), issues .vsts p w s = some c → itemsIn c (predBit c (fMPred w.toNat)) (fun i => memAddr c w.toNat (vectorBytes (fSize w.toNat)) + 4 * i) 4 (vectorBytes (fSize w.toNat) / 4) = false →
    exec (.vsts p w) s = .next (failProc p c Config.accessDenied s)) ∧
  (∀ (p : Proc) (w : BitVec 32) (s : State) (c : Ctx), issues .vgath p w s = some c → itemsIn c (predBit c (fPred w.toNat)) (gatherAddr w.toNat c) (gatherBytes w.toNat) 16 = true →
    exec (.vgath p w) s = putsV p w c (packV (8 * gatherBytes w.toNat) ((List.range 16).map fun i =>
      if predBit c (fPred w.toNat) i then leNat ((c.readS (gatherAddr w.toNat c i) (gatherBytes w.toNat)).getD []) else (lanes (8 * gatherBytes w.toNat) (c.readV (fRd w.toNat))).getD i 0)) s) ∧
  (∀ (p : Proc) (w : BitVec 32) (s : State) (c : Ctx), issues .vgath p w s = some c → itemsIn c (predBit c (fPred w.toNat)) (gatherAddr w.toNat c) (gatherBytes w.toNat) 16 = false →
    exec (.vgath p w) s = .next (failProc p c Config.accessDenied s)) ∧
  (∀ (p : Proc) (w : BitVec 32) (s : State) (c : Ctx), issues .vscat p w s = some c → itemsIn c (predBit c (fPred w.toNat)) (gatherAddr w.toNat c) (gatherBytes w.toNat) 16 = true →
    exec (.vscat p w) s = .next (finishOp p { c with scratch := (((List.range 16).filter (predBit c (fPred w.toNat))).foldl
      (fun m i => Ctx.putBytes m (gatherAddr w.toNat c i) (leBytes (gatherBytes w.toNat) ((lanes (8 * gatherBytes w.toNat) (c.readV (fRd w.toNat))).getD i 0)))
      c.scratch) } s)) ∧
  (∀ (p : Proc) (w : BitVec 32) (s : State) (c : Ctx), issues .vscat p w s = some c → itemsIn c (predBit c (fPred w.toNat)) (gatherAddr w.toNat c) (gatherBytes w.toNat) 16 = false →
    exec (.vscat p w) s = .next (failProc p c Config.accessDenied s)) ∧
  (∀ (p : Proc) (w : BitVec 32) (s : State) (c : Ctx), issues .vlut p w s = some c → itemsIn c (predBit c (fPred w.toNat)) (lutAddr w.toNat c) 4 16 = true →
    exec (.vlut p w) s = putsV p w c (lanewise w c fun i => leNat ((c.readS (lutAddr w.toNat c i) 4).getD [])) s) ∧
  (∀ (p : Proc) (w : BitVec 32) (s : State) (c : Ctx), issues .vlut p w s = some c → itemsIn c (predBit c (fPred w.toNat)) (lutAddr w.toNat c) 4 16 = false →
    exec (.vlut p w) s = .next (failProc p c Config.accessDenied s)) ∧
  (∀ (p : Proc) (w : BitVec 32) (s : State) (c : Ctx) (bs : List Byte) (b : CrcPar × List Byte), issues .chmInit p w s = some c → c.readS (c.readX (fRs1 w.toNat)).toNat 48 = some bs → chimeBlock bs = some b →
    exec (.chmInit p w) s = .next (finishOp p ({ c with chime := some ⟨b.1, crcFeed b.1 b.1.init b.2⟩ }) s)) ∧
  (∀ (p : Proc) (w : BitVec 32) (s : State) (c : Ctx) (bs : List Byte), issues .chmInit p w s = some c → c.readS (c.readX (fRs1 w.toNat)).toNat 48 = some bs → chimeBlock bs = none →
    exec (.chmInit p w) s = .next (failProc p c Config.invalidDescriptor s)) ∧
  (∀ (p : Proc) (w : BitVec 32) (s : State) (c : Ctx) (h : Chime) (bs : List Byte), issues .chmUpd p w s = some c → c.chime = some h → 0 < (c.readX (fRs2 w.toNat)).toNat → (c.readX (fRs2 w.toNat)).toNat ≤ c.scratchBytes → c.readS (c.readX (fRs1 w.toNat)).toNat (c.readX (fRs2 w.toNat)).toNat = some bs →
    exec (.chmUpd p w) s = .next (finishOp p ({ c with chime := some { h with reg := crcFeed h.par h.reg bs } }) s)) ∧
  (∀ (p : Proc) (w : BitVec 32) (s : State) (c : Ctx), issues .chmUpd p w s = some c → c.chime ≠ none → (c.readX (fRs2 w.toNat)).toNat = 0 →
    exec (.chmUpd p w) s = .next (finishOp p (c) s)) ∧
  (∀ (p : Proc) (w : BitVec 32) (s : State) (c : Ctx) (h : Chime), issues .chmVupd p w s = some c → c.chime = some h →
    exec (.chmVupd p w) s = .next (finishOp p ({ c with chime := some { h with reg := crcFeed h.par h.reg (leBytes 64 (c.readV (fRs2 w.toNat)).toNat) } }) s)) ∧
  (∀ (p : Proc) (w : BitVec 32) (s : State) (c : Ctx) (h : Chime), issues .chmFin p w s = some c → c.chime = some h →
    exec (.chmFin p w) s = putsX p w c (BitVec.ofNat 64 (crcValue h.par h.reg)) s) ∧
  (∀ (p : Proc) (w : BitVec 32) (s : State) (c : Ctx), issues .chmFin p w s = some c → c.chime = none →
    exec (.chmFin p w) s = .next (failProc p c Config.invalidDescriptor s)) ∧
  (∀ (p : Proc) (w : BitVec 32) (s : State) (c : Ctx), issues .pktLd p w s = some c → (c.readX (fRs1 w.toNat)).toNat + 8 ≤ (c.head ++ c.body).length →
    exec (.pktLd p w) s = putsX p w c (BitVec.ofNat 64 (leField (c.head ++ c.body) (c.readX (fRs1 w.toNat)).toNat 8)) s) ∧
  (∀ (p : Proc) (w : BitVec 32) (s : State) (c : Ctx), issues .pktSt p w s = some c → (c.readX (fRs1 w.toNat)).toNat + 8 ≤ c.body.length →
    exec (.pktSt p w) s = .next (finishOp p ({ c with body := c.body.take (c.readX (fRs1 w.toNat)).toNat ++ leBytes 8 (c.readX (fRs2 w.toNat)).toNat ++ c.body.drop ((c.readX (fRs1 w.toNat)).toNat + 8) }) s)) ∧
  (∀ (p : Proc) (w : BitVec 32) (s : State) (c : Ctx), issues .pktLen p w s = some c →
    exec (.pktLen p w) s = putsX p w c (BitVec.ofNat 64 c.body.length) s) ∧
  (∀ (n : Nat) (w : BitVec 32) (s : State) (c : Ctx), issues .pktPass (.gale n) w s = some c →
    exec (.pktPass (.gale n) w) s = .next (galeDone n none (putProc (.gale n) c s))) ∧
  (∀ (n : Nat) (w : BitVec 32) (s : State) (c : Ctx), issues .pktReject (.gale n) w s = some c →
    exec (.pktReject (.gale n) w) s = .next (galeDone n (some Config.accessDenied) (putProc (.gale n) c s)))

/-- Vector integer and logic instructions (R98, R138). An element-wise instruction gives each enabled element the
operation's value and leaves the others and the bits beyond the last whole element; VSEL writes every
element; VCMP writes one bit of a predicate for each element, both of a pair for 4-bit elements; VEXT
extends element 0 by its type. -/
def Obligations.VectorInteger : Prop :=
  (∀ (p : Proc) (w : BitVec 32) (s : State) (c : Ctx) (t : Elt), issues .vadd p w s = some c → Elt.ofCode (fType w.toNat) = some t →
    exec (.vadd p w) s = putsV p w c (eltwise w c t fun _ a b => vaddElt (fFunc2 w.toNat) t a b) s) ∧
  (∀ (p : Proc) (w : BitVec 32) (s : State) (c : Ctx) (t : Elt), issues .vlog p w s = some c → Elt.ofCode (fType w.toNat) = some t →
    exec (.vlog p w) s = putsV p w c (eltwise w c t fun _ a b => vlogElt (fFunc2 w.toNat) t a b) s) ∧
  (∀ (p : Proc) (w : BitVec 32) (s : State) (c : Ctx) (t : Elt), issues .vmm p w s = some c → Elt.ofCode (fType w.toNat) = some t →
    exec (.vmm p w) s = putsV p w c (eltwise w c t fun _ a b => vmmElt (fFunc2 w.toNat) t a b) s) ∧
  (∀ (p : Proc) (w : BitVec 32) (s : State) (c : Ctx) (t : Elt), issues .vsh p w s = some c → Elt.ofCode (fType w.toNat) = some t →
    exec (.vsh p w) s = putsV p w c (eltwise w c t fun _ a b => vshElt (fFunc2 w.toNat) t a b) s) ∧
  (∀ (p : Proc) (w : BitVec 32) (s : State) (c : Ctx) (t : Elt), issues .vbcast p w s = some c → Elt.ofCode (fType w.toNat) = some t →
    exec (.vbcast p w) s = putsV p w c (eltwise w c t fun _ _ _ => (srcA w c).toNat % 2 ^ t.width) s) ∧
  (∀ (p : Proc) (w : BitVec 32) (s : State) (c : Ctx) (t : Elt), issues .vmov p w s = some c → Elt.ofCode (fType w.toNat) = some t →
    exec (.vmov p w) s = putsV p w c (eltwise w c t fun _ a _ => a) s) ∧
  (∀ (p : Proc) (w : BitVec 32) (s : State) (c : Ctx) (t : Elt), issues .vsel p w s = some c → Elt.ofCode (fType w.toNat) = some t →
    exec (.vsel p w) s = putsV p w c (packElts t (c.readV (fRd w.toNat)) ((List.range t.count).map fun i =>
      (elts t (c.readV (if elemEn c (fPred w.toNat) t i then fRs1 w.toNat else fRs2 w.toNat))).getD i 0)) s) ∧
  (∀ (p : Proc) (w : BitVec 32) (s : State) (c : Ctx) (t : Elt), issues .vext p w s = some c → Elt.ofCode (fType w.toNat) = some t → elemEn c (fPred w.toNat) t 0 = true →
    exec (.vext p w) s = putsX p w c (if t.isFloat then BitVec.ofNat 64 ((c.readV (fRs1 w.toNat)).toNat % 2 ^ t.width)
      else BitVec.ofInt 64 (toSigned t.width (c.readV (fRs1 w.toNat)).toNat)) s) ∧
  (∀ (p : Proc) (w : BitVec 32) (s : State) (c : Ctx) (t : Elt), issues .vext p w s = some c → Elt.ofCode (fType w.toNat) = some t → elemEn c (fPred w.toNat) t 0 = false →
    exec (.vext p w) s = .next (finishOp p (c) s)) ∧
  (∀ (p : Proc) (w : BitVec 32) (s : State) (c : Ctx) (t : Elt), issues .vcmp p w s = some c → Elt.ofCode (fType w.toNat) = some t →
    ∃ c', exec (.vcmp p w) s = .next (finishOp p c' s) ∧ c' = c.writeP (fRd w.toNat) (c'.readP (fRd w.toNat)) ∧
      (fRd w.toNat ≠ 0 → ∀ i, i < 64 → (c'.readP (fRd w.toNat)).getLsbD i =
        (let hit := fun j => vcmpElt (fFunc2 w.toNat) t ((elts t (c.readV (fRs1 w.toNat))).getD j 0)
            ((elts t (c.readV (fRs2 w.toNat))).getD j 0)
         if (t.width = 4 ∨ i < t.count) ∧ predBit c (fPred w.toNat) i = true then
           (if t.width = 4 then hit (2 * i) && hit (2 * i + 1) else hit i)
         else (c.readP (fRd w.toNat)).getLsbD i))) ∧
  (∀ (p : Proc) (w : BitVec 32) (s : State) (c : Ctx), issues .vperm p w s = some c → fFunc2 w.toNat = 0 →
    exec (.vperm p w) s = putsV p w c (lanewise w c fun i => (lanes 32 (c.readV (fRs1 w.toNat))).getD ((lanes 32 (c.readV (fRs2 w.toNat))).getD i 0 % 16) 0) s) ∧
  (∀ (p : Proc) (w : BitVec 32) (s : State) (c : Ctx), issues .vperm p w s = some c → fFunc2 w.toNat = 1 →
    exec (.vperm p w) s = putsV p w c (packV 8 ((List.range 64).map fun i => if predBit c (fPred w.toNat) i then
        (lanes 8 (c.readV (fRs1 w.toNat))).getD ((lanes 8 (c.readV (fRs2 w.toNat))).getD i 0 % 64) 0
      else (lanes 8 (c.readV (fRd w.toNat))).getD i 0)) s) ∧
  (∀ (p : Proc) (w : BitVec 32) (s : State) (c : Ctx), issues .vperm p w s = some c → fFunc2 w.toNat = 2 →
    exec (.vperm p w) s = putsV p w c (lanewise w c fun i => (if i % 2 = 0 then lanes 32 (c.readV (fRs1 w.toNat)) else lanes 32 (c.readV (fRs2 w.toNat))).getD (i / 2) 0) s) ∧
  (∀ (p : Proc) (w : BitVec 32) (s : State) (c : Ctx), issues .vperm p w s = some c → fFunc2 w.toNat = 3 →
    exec (.vperm p w) s = putsV p w c (lanewise w c fun i => (lanes 32 (c.readV (fRs1 w.toNat))).getD (if i < 8 then 2 * i else 2 * (i - 8) + 1) 0) s)

/-- Vector floating point, dot products, conversions and reductions (R108–R119, R138). Products and sums are exact
values rounded once; a conversion writes its sixteen elements and, under stochastic rounding, advances every
stream once; a block quantise writes one scale byte; a disabled lane enters a reduction as its identity. -/
def Obligations.VectorFloat : Prop :=
  (∀ (p : Proc) (w : BitVec 32) (s : State) (c : Ctx) (t : Elt), issues .vfadd p w s = some c → Elt.ofCode (fType w.toNat) = some t → fFunc2 w.toNat = 0 →
    exec (.vfadd p w) s = putsV p w c (eltwise w c t fun _ a b => fadd (t.fmt?.getD Fmt.fp32) a b) s) ∧
  (∀ (p : Proc) (w : BitVec 32) (s : State) (c : Ctx) (t : Elt), issues .vfadd p w s = some c → Elt.ofCode (fType w.toNat) = some t → fFunc2 w.toNat = 1 →
    exec (.vfadd p w) s = putsV p w c (eltwise w c t fun _ a b => fsub (t.fmt?.getD Fmt.fp32) a b) s) ∧
  (∀ (p : Proc) (w : BitVec 32) (s : State) (c : Ctx) (t : Elt), issues .vfadd p w s = some c → Elt.ofCode (fType w.toNat) = some t → fFunc2 w.toNat = 2 →
    exec (.vfadd p w) s = putsV p w c (eltwise w c t fun _ a b => fminF (t.fmt?.getD Fmt.fp32) a b) s) ∧
  (∀ (p : Proc) (w : BitVec 32) (s : State) (c : Ctx) (t : Elt), issues .vfadd p w s = some c → Elt.ofCode (fType w.toNat) = some t → fFunc2 w.toNat = 3 →
    exec (.vfadd p w) s = putsV p w c (eltwise w c t fun _ a b => fmaxF (t.fmt?.getD Fmt.fp32) a b) s) ∧
  (∀ (p : Proc) (w : BitVec 32) (s : State) (c : Ctx) (t : Elt), issues .vfmul p w s = some c → Elt.ofCode (fType w.toNat) = some t →
    exec (.vfmul p w) s = putsV p w c (eltwise w c t fun _ a b => fmul (t.fmt?.getD Fmt.fp32) a b) s) ∧
  (∀ (p : Proc) (w : BitVec 32) (s : State) (c : Ctx) (t : Elt), issues .vfma p w s = some c → Elt.ofCode (fType w.toNat) = some t → fFunc2 w.toNat = 0 →
    exec (.vfma p w) s = putsV p w c (eltwise w c t fun d a b => encodeF (t.fmt?.getD Fmt.fp32) (((decodeF (t.fmt?.getD Fmt.fp32) a).mul (decodeF (t.fmt?.getD Fmt.fp32) b)).add (decodeF (t.fmt?.getD Fmt.fp32) d))) s) ∧
  (∀ (p : Proc) (w : BitVec 32) (s : State) (c : Ctx) (t : Elt), issues .vfma p w s = some c → Elt.ofCode (fType w.toNat) = some t → fFunc2 w.toNat = 1 →
    exec (.vfma p w) s = putsV p w c (eltwise w c t fun d a b => encodeF (t.fmt?.getD Fmt.fp32) (((decodeF (t.fmt?.getD Fmt.fp32) a).mul (decodeF (t.fmt?.getD Fmt.fp32) b)).neg.add (decodeF (t.fmt?.getD Fmt.fp32) d))) s) ∧
  (∀ (p : Proc) (w : BitVec 32) (s : State) (c : Ctx) (t : Elt), issues .vfma p w s = some c → Elt.ofCode (fType w.toNat) = some t → fFunc2 w.toNat = 2 →
    exec (.vfma p w) s = putsV p w c (eltwise w c t fun d a b => encodeF (t.fmt?.getD Fmt.fp32) (((decodeF (t.fmt?.getD Fmt.fp32) a).mul (decodeF (t.fmt?.getD Fmt.fp32) b)).add (decodeF (t.fmt?.getD Fmt.fp32) d).neg)) s) ∧
  (∀ (p : Proc) (w : BitVec 32) (s : State) (c : Ctx) (t : Elt), issues .vdot p w s = some c → Elt.ofCode (fType w.toNat) = some t →
    exec (.vdot p w) s = putsV p w c (lanewise w c fun i =>
      dotLane (fFunc2 w.toNat) t ((srcA w c).toNat / 256 ^ (i / (if t.width = 4 then 4 else 8)) % 256)
        ((srcB w c).toNat / 256 ^ (i / (if t.width = 4 then 4 else 8)) % 256)
        (elts t (c.readV (fRs1 w.toNat))) (elts t (c.readV (fRs2 w.toNat)))
        ((lanes 32 (c.readV (fRd w.toNat))).getD i 0) i) s) ∧
  (∀ (p : Proc) (w : BitVec 32) (s : State) (c : Ctx) (t : Elt), issues .vcvtn p w s = some c → Elt.ofCode (fType w.toNat) = some t → fFunc2 w.toNat = 0 →
    ∃ c', exec (.vcvtn p w) s = .next (finishOp p c' s) ∧
      c'.sr = (if fRnd w.toNat then srAdvance c.tabor c.sr else c.sr) ∧
      c'.v = c.v.set (fRd w.toNat) (packElts t (c.readV (fRd w.toNat)) ((List.range t.count).map fun i =>
        if i / 16 = fRs2 w.toNat % 8 ∧ elemEn c (fPred w.toNat) t i = true then
          t.convert (if fRnd w.toNat then .sr else .rne) (srValue c.sr i)
            (decodeF Fmt.fp32 ((lanes 32 (c.readV (fRs1 w.toNat))).getD (i % 16) 0))
        else (elts t (c.readV (fRd w.toNat))).getD i 0)) ∧
      c'.x = c.x ∧ c'.p = c.p ∧ c'.pc = c.pc ∧ c'.scratch = c.scratch) ∧
  (∀ (p : Proc) (w : BitVec 32) (s : State) (c : Ctx) (t : Elt), issues .vcvtn p w s = some c → Elt.ofCode (fType w.toNat) = some t → fFunc2 w.toNat = 1 →
    ∃ c', exec (.vcvtn p w) s = .next (finishOp p c' s) ∧
      c'.sr = (if fRnd w.toNat then srAdvance c.tabor c.sr else c.sr) ∧
      c'.v = c.v.set (fRd w.toNat) (packElts t (c.readV (fRd w.toNat)) ((List.range t.count).map fun i =>
        if i / 16 = fRs2 w.toNat % 8 ∧ elemEn c (fPred w.toNat) t i = true then
          t.convert (if fRnd w.toNat then .sr else .rne) (srValue c.sr i)
            (FVal.ofInt (toSigned 32 ((lanes 32 (c.readV (fRs1 w.toNat))).getD (i % 16) 0)))
        else (elts t (c.readV (fRd w.toNat))).getD i 0)) ∧
      c'.x = c.x ∧ c'.p = c.p ∧ c'.pc = c.pc ∧ c'.scratch = c.scratch) ∧
  (∀ (p : Proc) (w : BitVec 32) (s : State) (c : Ctx) (t : Elt), issues .vcvtw p w s = some c → Elt.ofCode (fType w.toNat) = some t → fFunc2 w.toNat = 0 →
    exec (.vcvtw p w) s = putsV p w c (lanewise w c fun i =>
      if t.count ≤ 16 * (fRs2 w.toNat % 8) + i then 0 else encodeF Fmt.fp32 (t.value ((elts t (c.readV (fRs1 w.toNat))).getD (16 * (fRs2 w.toNat % 8) + i) 0))) s) ∧
  (∀ (p : Proc) (w : BitVec 32) (s : State) (c : Ctx) (t : Elt), issues .vcvtw p w s = some c → Elt.ofCode (fType w.toNat) = some t → fFunc2 w.toNat = 1 →
    exec (.vcvtw p w) s = putsV p w c (lanewise w c fun i =>
      if t.count ≤ 16 * (fRs2 w.toNat % 8) + i then 0 else Elt.int32.convert .rne 0 (t.value ((elts t (c.readV (fRs1 w.toNat))).getD (16 * (fRs2 w.toNat % 8) + i) 0))) s) ∧
  (∀ (p : Proc) (w : BitVec 32) (s : State) (c : Ctx) (t : Elt), issues .vmxq p w s = some c → Elt.ofCode (fType w.toNat) = some t → fRd w.toNat ≠ 0 →
    fRs2 w.toNat % 4 < (if t = .e2m1 then 4 else 2) →
    ∃ c', exec (.vmxq p w) s = .next (finishOp p c' s) ∧
      c'.sr = (if fRnd w.toNat then srAdvance c.tabor c.sr else c.sr) ∧
      (c'.readX (fRd w.toNat)).toNat / 256 ^ (fRs2 w.toNat % 4) % 256 =
        (mxQuantise t (if fRnd w.toNat then .sr else .rne) (fun i => srValue c.sr (32 * (fRs2 w.toNat % 4) + i))
        ((lanes 32 (c.readV (fRs1 w.toNat)) ++ lanes 32 (c.readV (fRs1 w.toNat + 1))).map (decodeF Fmt.fp32))).1 % 256 ∧
      (∀ k, k < 8 → k ≠ fRs2 w.toNat % 4 →
        (c'.readX (fRd w.toNat)).toNat / 256 ^ k % 256 = (c.readX (fRd w.toNat)).toNat / 256 ^ k % 256) ∧
      (∀ r, r ≠ fRd w.toNat → c'.readX r = c.readX r ∧ c'.readV r = c.readV r) ∧ c'.p = c.p ∧ c'.pc = c.pc) ∧
  (∀ (p : Proc) (w : BitVec 32) (s : State) (c : Ctx) (t : Elt), issues .vred p w s = some c → Elt.ofCode (fType w.toNat) = some t →
    exec (.vred p w) s = putsV p w c (packV 32 ((tree16 (vredOp (fFunc2 w.toNat) t) ((List.range 16).map fun i =>
      if predBit c (fPred w.toNat) i then (lanes 32 (c.readV (fRs1 w.toNat))).getD i 0 else vredId (fFunc2 w.toNat) t)).take 1)) s) ∧
  (∀ (p : Proc) (w : BitVec 32) (s : State) (c : Ctx) (sum comp : Nat), issues .vredc p w s = some c →
    tree16 compJoin ((List.range 16).map fun i =>
      if predBit c (fPred w.toNat) i then ((lanes 32 (c.readV (fRs1 w.toNat))).getD i 0, (lanes 32 (c.readV (fRs2 w.toNat))).getD i 0) else (0x80000000, 0x80000000)) = [(sum, comp)] →
    exec (.vredc p w) s = putsV p w c (packV 32 [sum, comp]) s) ∧
  (∀ (p : Proc) (w : BitVec 32) (s : State) (c : Ctx), issues .vcadd p w s = some c →
    ∃ r : Nat → Nat × Nat, exec (.vcadd p w) s = .next (finishOp p
        ((c.writeV (fRd w.toNat) (packV 32 ((List.range 16).map fun i => (r i).1))).writeV (fRd w.toNat + 1)
          (packV 32 ((List.range 16).map fun i => (r i).2))) s) ∧
      ∀ i, i < 16 → r i = (if predBit c (fPred w.toNat) i then
        compAdd ((lanes 32 (c.readV (fRd w.toNat))).getD i 0) ((lanes 32 (c.readV (fRd w.toNat + 1))).getD i 0)
          ((lanes 32 (c.readV (fRs1 w.toNat))).getD i 0)
        else ((lanes 32 (c.readV (fRd w.toNat))).getD i 0, (lanes 32 (c.readV (fRd w.toNat + 1))).getD i 0)))

/-- What an element-wise result holds (R98, R136): each element of the register is the operation's value, modulo the
element's width, where the predicate enables it, and its old value elsewhere; bits beyond the last whole
element are kept. -/
def Obligations.VectorElementsAreIndependent : Prop :=
  ∀ (w : BitVec 32) (c : Ctx) (t : Elt) (f : Nat → Nat → Nat → Nat),
    (∀ i, i < t.count → (elts t (eltwise w c t f)).getD i 0 =
      (if elemEn c (fPred w.toNat) t i then
        f ((elts t (c.readV (fRd w.toNat))).getD i 0) ((elts t (c.readV (fRs1 w.toNat))).getD i 0)
          ((elts t (c.readV (fRs2 w.toNat))).getD i 0) % 2 ^ t.width
       else (elts t (c.readV (fRd w.toNat))).getD i 0)) ∧
    (eltwise w c t f).toNat / 2 ^ (t.width * t.count) = (c.readV (fRd w.toNat)).toNat / 2 ^ (t.width * t.count)

/-- The operations on elements (R138): wrapping sums and differences, saturating ones that stay in the signed range,
signed and unsigned minimum and maximum, shifts by the count modulo the element width. -/
def Obligations.ElementArithmetic : Prop :=
  ∀ (t : Elt) (a b : Nat), a < 2 ^ t.width → b < 2 ^ t.width →
    vaddElt 0 t a b = (a + b) % 2 ^ t.width ∧
    vaddElt 1 t a b = (a + 2 ^ t.width - b) % 2 ^ t.width ∧
    (toSigned t.width (vaddElt 2 t a b) = max (-2 ^ (t.width - 1)) (min (2 ^ (t.width - 1) - 1)
      (toSigned t.width a + toSigned t.width b))) ∧
    (toSigned t.width (vaddElt 3 t a b) = max (-2 ^ (t.width - 1)) (min (2 ^ (t.width - 1) - 1)
      (toSigned t.width a - toSigned t.width b))) ∧
    (toSigned t.width (vmmElt 0 t a b) = min (toSigned t.width a) (toSigned t.width b)) ∧
    (toSigned t.width (vmmElt 1 t a b) = max (toSigned t.width a) (toSigned t.width b)) ∧
    vmmElt 2 t a b = min a b ∧ vmmElt 3 t a b = max a b ∧
    vshElt 0 t a b = a <<< (b % t.width) % 2 ^ t.width ∧ vshElt 1 t a b = a >>> (b % t.width) ∧
    (toSigned t.width (vshElt 2 t a b) = toSigned t.width a / 2 ^ (b % t.width)) ∧
    (∀ i, i < t.width → (vlogElt 0 t a b).testBit i = (a.testBit i && b.testBit i) ∧
      (vlogElt 1 t a b).testBit i = (a.testBit i || b.testBit i) ∧
      (vlogElt 2 t a b).testBit i = (a.testBit i ^^ b.testBit i) ∧
      (vlogElt 3 t a b).testBit i = (a.testBit i && !b.testBit i))

/-- Accesses to the range (R103, R138, R140, R166, R192). A load, a store or an atomic that nothing holds back joins
the program's outstanding accesses, with its address, its bytes and its destination, and asks for its lines;
a store with no lane enabled accesses nothing; a vector load off its alignment and a misaligned atomic end
the program. -/
def Obligations.RangeAccessesIssue : Prop :=
  (∀ (n : Nat) (w : BitVec 32) (s : State) (c : Ctx) (parts : List Part) (ents : List Nat), issues .ldg (.tabor n) w s = some c →
    rangeReady n c ({ pva := memAddr c w.toNat (scalarBytes (fSize w.toNat)), len := scalarBytes (fSize w.toNat), write := false, kind := .loadX (fRd w.toNat) (fSize w.toNat), nf := false, acq := false }) s = some (parts, ents) →
    exec (.ldg (.tabor n) w) s = .next (startsRange n c ({ pva := memAddr c w.toNat (scalarBytes (fSize w.toNat)), len := scalarBytes (fSize w.toNat), write := false, kind := .loadX (fRd w.toNat) (fSize w.toNat), nf := false, acq := false }) parts ents s)) ∧
  (∀ (n : Nat) (w : BitVec 32) (s : State) (c : Ctx) (parts : List Part) (ents : List Nat), issues .ldacq (.tabor n) w s = some c →
    rangeReady n c ({ pva := memAddr c w.toNat (scalarBytes (fSize w.toNat)), len := scalarBytes (fSize w.toNat), write := false, kind := .loadX (fRd w.toNat) (fSize w.toNat), nf := false, acq := true }) s = some (parts, ents) →
    exec (.ldacq (.tabor n) w) s = .next (startsRange n c ({ pva := memAddr c w.toNat (scalarBytes (fSize w.toNat)), len := scalarBytes (fSize w.toNat), write := false, kind := .loadX (fRd w.toNat) (fSize w.toNat), nf := false, acq := true }) parts ents s)) ∧
  (∀ (n : Nat) (w : BitVec 32) (s : State) (c : Ctx) (parts : List Part) (ents : List Nat), issues .stg (.tabor n) w s = some c →
    rangeReady n c ({ pva := memAddr c w.toNat (scalarBytes (fSize w.toNat)), len := scalarBytes (fSize w.toNat), write := true, kind := .store (byPlace (leBytes (scalarBytes (fSize w.toNat)) (c.readX (fRd w.toNat)).toNat)), nf := false, acq := false }) s = some (parts, ents) →
    exec (.stg (.tabor n) w) s = .next (startsRange n c ({ pva := memAddr c w.toNat (scalarBytes (fSize w.toNat)), len := scalarBytes (fSize w.toNat), write := true, kind := .store (byPlace (leBytes (scalarBytes (fSize w.toNat)) (c.readX (fRd w.toNat)).toNat)), nf := false, acq := false }) parts ents s)) ∧
  (∀ (n : Nat) (w : BitVec 32) (s : State) (c : Ctx) (parts : List Part) (ents : List Nat), issues .vldg (.tabor n) w s = some c → memAddr c w.toNat 64 % 64 = 0 →
    rangeReady n c ({ pva := memAddr c w.toNat 64, len := 64, write := false, kind := .loadV (fRd w.toNat), nf := false, acq := false }) s = some (parts, ents) →
    exec (.vldg (.tabor n) w) s = .next (startsRange n c ({ pva := memAddr c w.toNat 64, len := 64, write := false, kind := .loadV (fRd w.toNat), nf := false, acq := false }) parts ents s)) ∧
  (∀ (n : Nat) (w : BitVec 32) (s : State) (c : Ctx), issues .vldg (.tabor n) w s = some c → memAddr c w.toNat 64 % 64 ≠ 0 →
    exec (.vldg (.tabor n) w) s = .next (failProc (.tabor n) c Config.invalidDescriptor s)) ∧
  (∀ (n : Nat) (w : BitVec 32) (s : State) (c : Ctx) (parts : List Part) (ents : List Nat), issues .vstg (.tabor n) w s = some c → ((byPlace (leBytes 64 (c.readV (fRd w.toNat)).toNat)).filter fun kv => predBit c (fMPred w.toNat) (kv.1 / 4)) ≠ [] →
    rangeReady n c ({ pva := memAddr c w.toNat 64, len := 64, write := true, kind := .store ((byPlace (leBytes 64 (c.readV (fRd w.toNat)).toNat)).filter fun kv => predBit c (fMPred w.toNat) (kv.1 / 4)), nf := false, acq := false }) s = some (parts, ents) →
    exec (.vstg (.tabor n) w) s = .next (startsRange n c ({ pva := memAddr c w.toNat 64, len := 64, write := true, kind := .store ((byPlace (leBytes 64 (c.readV (fRd w.toNat)).toNat)).filter fun kv => predBit c (fMPred w.toNat) (kv.1 / 4)), nf := false, acq := false }) parts ents s)) ∧
  (∀ (n : Nat) (w : BitVec 32) (s : State) (c : Ctx), issues .vstg (.tabor n) w s = some c → ((byPlace (leBytes 64 (c.readV (fRd w.toNat)).toNat)).filter fun kv => predBit c (fMPred w.toNat) (kv.1 / 4)) = [] →
    exec (.vstg (.tabor n) w) s = .next (finishOp (.tabor n) c s)) ∧
  (∀ (n : Nat) (w : BitVec 32) (s : State) (c : Ctx) (parts : List Part) (ents : List Nat), issues .atom (.tabor n) w s = some c → (srcA w c).toNat % atomBytes w.toNat = 0 →
    rangeReady n c ({ pva := (srcA w c).toNat, len := atomBytes w.toNat, write := true, kind := .atom (fRd w.toNat) (fFunc w.toNat % 32) (bitOf (fFunc w.toNat) 5) (srcB w c).toNat (c.readX (fRd w.toNat)).toNat, nf := bitOf w.toNat 31, acq := true }) s = some (parts, ents) →
    exec (.atom (.tabor n) w) s = .next (startsRange n c ({ pva := (srcA w c).toNat, len := atomBytes w.toNat, write := true, kind := .atom (fRd w.toNat) (fFunc w.toNat % 32) (bitOf (fFunc w.toNat) 5) (srcB w c).toNat (c.readX (fRd w.toNat)).toNat, nf := bitOf w.toNat 31, acq := true }) parts ents s)) ∧
  (∀ (n : Nat) (w : BitVec 32) (s : State) (c : Ctx), issues .atom (.tabor n) w s = some c → (srcA w c).toNat % atomBytes w.toNat ≠ 0 →
    exec (.atom (.tabor n) w) s = .next (failProc (.tabor n) c Config.invalidDescriptor s))

/-- Accesses through windows (R133, R138, R140, R242, R248). To a node outside the domain each goes out as one
request of its kind, with the tenant's job, the window, the offset and its bytes, and joins the outstanding
accesses; a window reference with other bits set ends the program; COPY posts the descriptor that stands in
scratch. -/
def Obligations.WindowAccessesIssue : Prop :=
  (∀ (n : Nat) (w : BitVec 32) (s : State) (c : Ctx) (job : Nat), issues .rld (.tabor n) w s = some c → winGoes w c ({ len := remoteBytes w.toNat, right := 0, kind := .loadX (fRd w.toNat) (if remoteBytes w.toNat = 8 then 3 else 2), pktKind := 1, payload := leBytes 2 (remoteBytes w.toNat) }) job s = true →
    exec (.rld (.tabor n) w) s = .next (startsWin n w c ({ len := remoteBytes w.toNat, right := 0, kind := .loadX (fRd w.toNat) (if remoteBytes w.toNat = 8 then 3 else 2), pktKind := 1, payload := leBytes 2 (remoteBytes w.toNat) }) job s)) ∧
  (∀ (n : Nat) (w : BitVec 32) (s : State) (c : Ctx) (job : Nat), issues .vrld (.tabor n) w s = some c → winGoes w c ({ len := 64, right := 0, kind := .loadV (fRd w.toNat), pktKind := 1, payload := leBytes 2 64 }) job s = true →
    exec (.vrld (.tabor n) w) s = .next (startsWin n w c ({ len := 64, right := 0, kind := .loadV (fRd w.toNat), pktKind := 1, payload := leBytes 2 64 }) job s)) ∧
  (∀ (n : Nat) (w : BitVec 32) (s : State) (c : Ctx) (job : Nat), issues .rst (.tabor n) w s = some c → winGoes w c ({ len := remoteBytes w.toNat, right := 1, kind := .store (byPlace (leBytes (remoteBytes w.toNat) (srcB w c).toNat)), pktKind := 2, payload := leBytes (remoteBytes w.toNat) (srcB w c).toNat }) job s = true →
    exec (.rst (.tabor n) w) s = .next (startsWin n w c ({ len := remoteBytes w.toNat, right := 1, kind := .store (byPlace (leBytes (remoteBytes w.toNat) (srcB w c).toNat)), pktKind := 2, payload := leBytes (remoteBytes w.toNat) (srcB w c).toNat }) job s)) ∧
  (∀ (n : Nat) (w : BitVec 32) (s : State) (c : Ctx) (job : Nat), issues .vrst (.tabor n) w s = some c → winGoes w c ({ len := 64, right := 1, kind := .store (byPlace (leBytes 64 (c.readV (fRs2 w.toNat)).toNat)), pktKind := 2, payload := leBytes 64 (c.readV (fRs2 w.toNat)).toNat }) job s = true →
    exec (.vrst (.tabor n) w) s = .next (startsWin n w c ({ len := 64, right := 1, kind := .store (byPlace (leBytes 64 (c.readV (fRs2 w.toNat)).toNat)), pktKind := 2, payload := leBytes 64 (c.readV (fRs2 w.toNat)).toNat }) job s)) ∧
  (∀ (n : Nat) (w : BitVec 32) (s : State) (c : Ctx) (job : Nat), issues .rstf (.tabor n) w s = some c → winGoes w c ({ len := 8, right := 3, kind := .store (byPlace (leBytes 8 (srcB w c).toNat)), pktKind := 3, payload := leBytes 8 (srcB w c).toNat }) job s = true →
    exec (.rstf (.tabor n) w) s = .next (startsWin n w c ({ len := 8, right := 3, kind := .store (byPlace (leBytes 8 (srcB w c).toNat)), pktKind := 3, payload := leBytes 8 (srcB w c).toNat }) job s)) ∧
  (∀ (n : Nat) (w : BitVec 32) (s : State) (c : Ctx) (job : Nat), issues .ratom (.tabor n) w s = some c → winGoes w c ({ len := atomBytes w.toNat, right := 2, kind := .atom (fRd w.toNat) (fFunc w.toNat % 32) (bitOf (fFunc w.toNat) 5) (srcB w c).toNat (c.readX (fRd w.toNat)).toNat, pktKind := 4, payload := leBytes 8 (srcB w c).toNat ++ leBytes 8 (c.readX (fRd w.toNat)).toNat, aop := fFunc w.toNat % 32, a64 := bitOf (fFunc w.toNat) 5 }) job s = true →
    exec (.ratom (.tabor n) w) s = .next (startsWin n w c ({ len := atomBytes w.toNat, right := 2, kind := .atom (fRd w.toNat) (fFunc w.toNat % 32) (bitOf (fFunc w.toNat) 5) (srcB w c).toNat (c.readX (fRd w.toNat)).toNat, pktKind := 4, payload := leBytes 8 (srcB w c).toNat ++ leBytes 8 (c.readX (fRd w.toNat)).toNat, aop := fFunc w.toNat % 32, a64 := bitOf (fFunc w.toNat) 5 }) job s)) ∧
  (∀ (n : Nat) (w : BitVec 32) (s : State) (c : Ctx), issues .rld (.tabor n) w s = some c → 2 ^ 32 ≤ (srcA w c).toNat →
    exec (.rld (.tabor n) w) s = .next (failProc (.tabor n) c Config.invalidDescriptor s)) ∧
  (∀ (n : Nat) (w : BitVec 32) (s : State) (c : Ctx), issues .vrld (.tabor n) w s = some c → 2 ^ 32 ≤ (srcA w c).toNat →
    exec (.vrld (.tabor n) w) s = .next (failProc (.tabor n) c Config.invalidDescriptor s)) ∧
  (∀ (n : Nat) (w : BitVec 32) (s : State) (c : Ctx), issues .rst (.tabor n) w s = some c → 2 ^ 32 ≤ (srcA w c).toNat →
    exec (.rst (.tabor n) w) s = .next (failProc (.tabor n) c Config.invalidDescriptor s)) ∧
  (∀ (n : Nat) (w : BitVec 32) (s : State) (c : Ctx), issues .vrst (.tabor n) w s = some c → 2 ^ 32 ≤ (srcA w c).toNat →
    exec (.vrst (.tabor n) w) s = .next (failProc (.tabor n) c Config.invalidDescriptor s)) ∧
  (∀ (n : Nat) (w : BitVec 32) (s : State) (c : Ctx), issues .rstf (.tabor n) w s = some c → 2 ^ 32 ≤ (srcA w c).toNat →
    exec (.rstf (.tabor n) w) s = .next (failProc (.tabor n) c Config.invalidDescriptor s)) ∧
  (∀ (n : Nat) (w : BitVec 32) (s : State) (c : Ctx), issues .ratom (.tabor n) w s = some c → 2 ^ 32 ≤ (srcA w c).toNat →
    exec (.ratom (.tabor n) w) s = .next (failProc (.tabor n) c Config.invalidDescriptor s)) ∧
  (∀ (n : Nat) (w : BitVec 32) (s : State) (c : Ctx) (bs : List Byte) (m : Nat) (s1 : State), issues .copy (.tabor n) w s = some c → heldBack c true = false →
    c.readS (srcA w c).toNat 64 = some bs → postCopy (.ctx n c.id s.co.nextPend) c.tenant (wordsFrom 8 bs) s = .ok (m, s1) →
    exec (.phicorCopy (.tabor n) w) s =
      .next (let r := addPend (openAccess s1 c) .post [] true none (bitOf w.toNat 31) false [] s1
             putProc (.tabor n) r.1 (markEffect r.1.item r.2)))

/-- Waits and fences (R138, R142, R166, R244, R251). A satisfied WAITC gives the count and goes on; an unsatisfied wait
holds the program, which WAIT_SWITCH_OUT takes off the pipeline after WAIT_SWITCH_NS and WAIT_CONDITION_MET
wakes; a counter of another tenant ends it. PUB holds later stores behind earlier ones, ACQ every access behind
earlier loads, FAB every access behind every earlier one, and FAB sends the program's open messages. -/
def Obligations.WaitsAndFences : Prop :=
  (∀ (n : Nat) (w : BitVec 32) (s : State) (c : Ctx), issues .waitc (.tabor n) w s = some c → heldBack c false = false → (srcA w c).toNat < 2 ^ 18 → s.fa.ctrOwner.get? (srcA w c).toNat = some c.tenant →
    (srcB w c).toNat ≤ s.fa.counters.getD (srcA w c).toNat 0 →
    exec (.waitc (.tabor n) w) s =
      .next (finishOp (.tabor n) (waitcDone c (fRd w.toNat) (s.fa.counters.getD (srcA w c).toNat 0)) s)) ∧
  (∀ (n : Nat) (w : BitVec 32) (s : State) (c : Ctx), issues .waitc (.tabor n) w s = some c → heldBack c false = false → (srcA w c).toNat < 2 ^ 18 → s.fa.ctrOwner.get? (srcA w c).toNat = some c.tenant →
    s.fa.counters.getD (srcA w c).toNat 0 < (srcB w c).toNat →
    exec (.waitc (.tabor n) w) s = .next (putProc (.tabor n)
      { c with hold := .counter (srcA w c).toNat (srcB w c).toNat (fRd w.toNat), holdSince := s.now } s)) ∧
  (∀ (n : Nat) (w : BitVec 32) (s : State) (c : Ctx), issues .waitc (.tabor n) w s = some c → heldBack c false = false → (srcA w c).toNat < 2 ^ 18 →
    s.fa.ctrOwner.get? (srcA w c).toNat ≠ some c.tenant →
    exec (.waitc (.tabor n) w) s = .next (failProc (.tabor n) c Config.accessDenied s)) ∧
  (∀ (n : Nat) (w : BitVec 32) (s : State) (c : Ctx) (pha : Nat) (ps : List (Nat × Nat × Nat)) (ents : List Nat), issues .waitf (.tabor n) w s = some c →
    heldBack c false = false → (srcA w c).toNat + 8 ≤ 2 ^ 56 → lookRange s c.tenant (srcA w c).toNat 8 false = .ok ((pha, 8, 0) :: ps, ents) →
    (c.pend.any fun q => q.open_ && q.isStore && q.parts.any fun r => r.key = lineKey s.ch.domIndex (pha / 64)) = false →
    waitfTest s pha (fFunc w.toNat) (srcB w c).toNat = .ok true →
    exec (.waitf (.tabor n) w) s = .next (finishOp (.tabor n) { c with emptyWrb := true } s)) ∧
  (∀ (n : Nat) (w : BitVec 32) (s : State) (c : Ctx) (pha : Nat) (ps : List (Nat × Nat × Nat)) (ents : List Nat), issues .waitf (.tabor n) w s = some c →
    heldBack c false = false → (srcA w c).toNat + 8 ≤ 2 ^ 56 → lookRange s c.tenant (srcA w c).toNat 8 false = .ok ((pha, 8, 0) :: ps, ents) →
    (c.pend.any fun q => q.open_ && q.isStore && q.parts.any fun r => r.key = lineKey s.ch.domIndex (pha / 64)) = false →
    waitfTest s pha (fFunc w.toNat) (srcB w c).toNat = .ok false →
    exec (.waitf (.tabor n) w) s = .next (putProc (.tabor n)
      { c with hold := .word pha (fFunc w.toNat) (srcB w c).toNat, holdSince := s.now } s)) ∧
  (∀ (n : Nat) (w : BitVec 32) (s : State) (c : Ctx), issues .fencePub (.tabor n) w s = some c →
    exec (.fencePub (.tabor n) w) s = .next (finishOp (.tabor n) ({ c with pubTags := (c.pend.filter fun p => p.open_ && p.isStore && p.win.isNone).map fun p => p.tag }) s)) ∧
  (∀ (n : Nat) (w : BitVec 32) (s : State) (c : Ctx), issues .fenceFab (.tabor n) w s = some c →
    exec (.fenceFab (.tabor n) w) s = .next (finishOp (.tabor n) ({ c with acqTags := (c.pend.filter fun p => p.open_).map fun p => p.tag, emptyWrb := true }) (flushOf c s))) ∧
  (∀ (n : Nat) (w : BitVec 32) (s : State) (c : Ctx), issues .fenceAcq (.tabor n) w s = some c →
    ∃ tags, exec (.fenceAcq (.tabor n) w) s = .next (finishOp (.tabor n) ({ c with acqTags := tags, emptyWrb := true }) s) ∧
      (∀ p ∈ c.pend, p.open_ = true → p.kind.loads = true → p.tag ∈ tags) ∧
      ∀ x ∈ tags, ∃ p ∈ c.pend, p.tag = x) ∧
  (∀ (n : Nat) (s : State) (c : Ctx) (ref thr rd : Nat), s.powered = true →
    ((getTab s n).ctxs.find? fun c => c.state = .running) = some c → c.hold = .counter ref thr rd →
    exec (.waitSwitchOut n) s = .next (leave n c.id .switchedOut (s.reach (c.holdSince + Par.waitSwitchNs s)))) ∧
  (∀ (n ctx : Nat) (s : State) (c : Ctx) (ref thr rd : Nat), s.powered = true → findCtx s n ctx = some c →
    c.ending = none → c.hold = .counter ref thr rd → thr ≤ s.fa.counters.getD ref 0 →
    exec (.waitConditionMet n ctx) s = .next (wakeCtx n (waitcDone c rd (s.fa.counters.getD ref 0)) s)) ∧
  (∀ (n ctx : Nat) (s : State) (c : Ctx) (pha cmp x : Nat), s.powered = true → findCtx s n ctx = some c →
    c.ending = none → c.hold = .word pha cmp x → waitfTest s pha cmp x = .ok true →
    exec (.waitConditionMet n ctx) s = .next (wakeCtx n { c with emptyWrb := true } s))

/-- A load or atomic that has its data gives them to its register, and leaves the outstanding accesses (R103, R137,
R141); one that failed ends the program, or tells x31 under NF; a program that has ended gets no data. Entries
of the window read buffer end after 10 µs (R174).

Invocations on a tabor (R118, R131, R155–R157). The oldest waiting invocation gets a context when a context, its
scratch and a place in the instruction store are free: its entry point, its arguments, its fuel; one whose
program must first be copied into the store is held, and ready once PROGRAM_RESIDENT comes. A slice that ends
while another program is ready gives the pipeline up. -/
def Obligations.LoadsAndInvocationsComplete : Prop :=
  (∀ (n ctx tag : Nat) (s : State) (c : Ctx) (p : Pend) (st : Nat) (data : List Byte), s.powered = true →
    findCtx s n ctx = some c → (c.pend.find? fun p => p.tag = tag) = some p → p.done = some (st, data) →
    c.ending = none → statusOk st = true →
    exec (.rangeLoadDone n ctx tag) s = .next (modCtx n ctx (fun c => applyLoad c p st data s.now) s)) ∧
  (∀ (n ctx tag : Nat) (s : State) (c : Ctx) (p : Pend) (st : Nat) (data : List Byte), s.powered = true →
    findCtx s n ctx = some c → (c.pend.find? fun p => p.tag = tag) = some p → p.done = some (st, data) →
    c.ending = none → statusOk st = false → p.nf = true →
    ∃ c', exec (.rangeLoadDone n ctx tag) s = .next (modCtx n ctx (fun _ => c') s) ∧
      c'.x = c.x.set 31 (BitVec.ofNat 64 (st % 256)) ∧ c'.v = c.v ∧ c'.pend = c.pend.filter (fun q => q.tag ≠ tag)) ∧
  (∀ (c : Ctx) (p : Pend) (rd size st now : Nat) (data : List Byte), p.kind = .loadX rd size → p.nf = false →
    rd ≠ 0 → p.win = none →
    ∃ c', applyLoad c p st data now = c' ∧ c'.readX rd = scalarLoad size (data.take (scalarBytes size)) ∧
      (∀ r, r ≠ rd → c'.readX r = c.readX r) ∧ c'.v = c.v ∧ c'.p = c.p ∧ c'.scratch = c.scratch ∧ c'.pc = c.pc ∧
      c'.pend = c.pend.filter (fun q => q.tag ≠ p.tag)) ∧
  (∀ (c : Ctx) (p : Pend) (rd st now : Nat) (data : List Byte), p.kind = .loadV rd → p.nf = false → p.win = none →
    ∃ c', applyLoad c p st data now = c' ∧ c'.readV rd = bytesVec data ∧ (∀ r, r ≠ rd → c'.readV r = c.readV r) ∧
      c'.x = c.x ∧ c'.p = c.p ∧ c'.scratch = c.scratch ∧ c'.pc = c.pc) ∧
  (∀ (n ctx : Nat) (s : State) (c : Ctx) (e : WrbEntry), s.powered = true → findCtx s n ctx = some c → c.wrb = [e] →
    ∃ t, exec (.wrbEntryExpiry n ctx) s = .next t ∧ t = modCtx n ctx (fun c => { c with wrb := c.wrb.filter fun x =>
        t.now < x.at_ + 10000 }) (s.reach (e.at_ + 10000))) ∧
  (∀ (n : Nat) (s : State) (q : Invoke) (rest : List Invoke) (im : Image) (r : Resident), s.alive = true →
    taborRuns s n = true → (getTab s n).queue = q :: rest → s.co.images.get? q.handle = some im →
    (getTab s n).ctxs = [] → im.scratchKib + 3 ≤ 56 → 0 < Par.contextsPerTabor s →
    (getTab s n).resident.find? (fun r => r.handle = q.handle) = some r → r.ready = true →
    quotaHeld s q.tenant = false →
    ∃ t c, exec (.invocationAdmit n) s = .next t ∧ (getTab t n).queue = rest ∧ (getTab t n).ctxs = [c] ∧
      c.state = .running ∧ c.item = q.item ∧ c.tenant = q.tenant ∧ c.fuel = q.fuel ∧ c.code = im.code ∧ c.pc = im.entry ∧
      c.hold = .none ∧ c.ending = none ∧ c.sr.length = 16 ∧ t.mem = s.mem ∧ t.pw = s.pw ∧ t.tr = s.tr) ∧
  (∀ (n handle : Nat) (s : State), s.powered = true →
    ((getTab s n).resident.any fun r => r.handle = handle && !r.ready) = true →
    exec (.programResident n handle) s = .next (schedule n (setTab n { (getTab s n) with
      resident := (getTab s n).resident.map fun r => if r.handle = handle then { r with ready := true } else r
      ctxs := (getTab s n).ctxs.map fun c =>
        if c.handle = handle && c.state = .held && c.ending.isNone then { c with state := .ready } else c } s))) ∧
  (∀ (n : Nat) (s : State) (c : Ctx), s.powered = true →
    ((getTab s n).ctxs.find? fun c => c.state = .running) = some c →
    ((getTab s n).ctxs.any fun d => d.state = .ready && !quotaHeld s d.tenant) = true →
    exec (.sliceExpiry n) s =
      .next (leave n c.id (if c.hold = .none then .ready else .switchedOut) (s.reach (c.sliceStart + 1000 * Par.sliceUs s))))

/-- An instruction that touches only its own program changes nothing else of the device (R98, R138): either it
waits and nothing changes, or its program ends, or its context alone has a new value: one unit of fuel less,
with its identity, code, scratch size, wait and outstanding accesses as they were. -/
def Obligations.ProgramsTouchOnlyTheirContext : Prop :=
  ∀ mk ∈ pureInstrs, ∀ (n : Nat) (w : BitVec 32) (s : State),
    ∃ t, exec (mk (.tabor n) w) s = .next t ∧
      (t = s ∨
       ∃ c, getProc s (.tabor n) = some c ∧
        ((∃ st, t = endCtx n c.id st s) ∨
         ∃ c', t = modCtx n c.id (fun _ => c') s ∧ c'.id = c.id ∧ c'.tenant = c.tenant ∧ c'.item = c.item ∧
          c'.handle = c.handle ∧ c'.code = c.code ∧ c'.scratchBytes = c.scratchBytes ∧ c'.tabor = c.tabor ∧
          c'.state = c.state ∧ c'.hold = c.hold ∧ c'.pend = c.pend ∧ c'.ending = c.ending ∧ c'.granules = c.granules ∧
          c'.fuel + 1 = c.fuel ∧ (c'.readX 0 = 0 ∧ c'.readP 0 = BitVec.allOnes 64)))

/-- What no instruction of a program changes directly (R135, R138): the bytes of the range, their homes, local time,
power, boot state, recovery state, flash and the waiting commands. Its stores reach the range when its lines
are written back. -/
def Obligations.InstructionsLeaveTheRangeAlone : Prop :=
  ∀ mk ∈ pureInstrs ++ reachingInstrs, ∀ (p : Proc) (w : BitVec 32) (s : State),
    ∃ t, exec (mk p w) s = .next t ∧ t.mem = s.mem ∧ t.ti = s.ti ∧ t.now = s.now ∧ t.pw = s.pw ∧ t.bt = s.bt ∧
      t.rc = s.rc ∧ t.fr = s.fr ∧ t.board = s.board ∧ t.pending = s.pending

/-! Coherence (chapters 6, 7 and 17). -/

/-- A request that its home serves on arrival does what its type and the line's entry ask (R191, R193). RD_S of a line that no
one holds reads the page home, and of one that an agent owns has the owner forward it; RD_X and UPG invalidate
the sharers; a quiet ATOM_X asks for ownership and one of a hot line is performed at the home; WB of the owner
writes the page home, and EVICT_CLEAN of the owner frees the entry; RD_UC reads without holding; WR_UC and
ATOM_HOME recall every copy.

An agent answers a snoop by the state of its line (R183): it gives up a line on SNP_INV; SNP_FWD_S forwards it and
keeps a copy; SNP_FWD_X forwards it and keeps none; SNP_RECALL sends dirty data to the home; SNP_DATA sends a
copy and keeps the state. A line that it does not hold is acknowledged as not dirty. -/
def Obligations.HomesAndAgentsServe : Prop :=
  (∀ (m : CohMsg) (s t : State), homeServes 0x01 m s = some t → getDir t m.line = none →
    exec (.rdS m) s = .next (openTxn m [] true [] t)) ∧
  (∀ (m : CohMsg) (s t : State) (e : DirEntry) (o : Nat), homeServes 0x01 m s = some t → getDir t m.line = some e →
    e.state ≠ .sh → e.owner = some o → o ≠ m.src → exec (.rdS m) s = .next (openTxn m [(o, 0x11)] false [] t)) ∧
  (∀ (m : CohMsg) (s t : State), homeServes 0x02 m s = some t → getDir t m.line = none →
    exec (.rdX m) s = .next (openTxn m [] true [] t)) ∧
  (∀ (m : CohMsg) (s t : State) (e : DirEntry), homeServes 0x02 m s = some t → getDir t m.line = some e →
    e.state = .sh → e.owner = none → e.coarse = false → e.sharers.contains m.src = false →
    exec (.rdX m) s = .next (openTxn m (e.sharers.map fun a => (a, 0x10)) true [] t)) ∧
  (∀ (m : CohMsg) (s t : State) (e : DirEntry), homeServes 0x03 m s = some t → getDir t m.line = some e →
    e.state = .sh → e.owner = none → e.coarse = false → e.sharers = [m.src] →
    (entryOf t (linePage m.line)).tier = 1 → (entryOf t (linePage m.line)).state ≠ 2 →
    exec (.upg m) s = .next (openTxn m [] false [] t)) ∧
  (∀ (m : CohMsg) (s t : State), homeServes 0x03 m s = some t → getDir t m.line = none →
    exec (.upg m) s = .next (openTxn m [] true [] t)) ∧
  (∀ (m : CohMsg) (s t : State), homeServes 0x04 m s = some t → getDir t m.line = none → atomAtHome m t = false →
    exec (.atomX m) s = .next (openTxn m [] true [] (t.setCh { t.ch with hot := t.ch.hot.set m.line (m.src, t.now) }))) ∧
  (∀ (m : CohMsg) (s t : State), homeServes 0x04 m s = some t → getDir t m.line = none → atomAtHome m t = true →
    exec (.atomX m) s = .next (openTxn { m with mtype := 0x0A } [] true []
      (t.setCh { t.ch with hot := t.ch.hot.set m.line (m.src, t.now) }))) ∧
  (∀ (m : CohMsg) (s t : State) (e : DirEntry), homeServes 0x05 m s = some t → getDir t m.line = some e →
    e.owner = some m.src → exec (.wb m) s = .next (openTxn m [] true [] t)) ∧
  (∀ (m : CohMsg) (s t : State) (e : DirEntry), homeServes 0x06 m s = some t → getDir t m.line = some e →
    e.owner = some m.src → e.state = .ex →
    exec (.evictClean m) s = .next (answer m 0x25 0 [] (setDir m.line none t))) ∧
  (∀ (m : CohMsg) (s t : State), homeServes 0x08 m s = some t → getDir t m.line = none →
    exec (.rdUc m) s = .next (t.setCh { t.ch with ucReads := t.ch.ucReads ++ [m] })) ∧
  (∀ (m : CohMsg) (s t : State) (e : DirEntry) (o : Nat), homeServes 0x08 m s = some t → getDir t m.line = some e →
    e.state ≠ .sh → e.owner = some o → exec (.rdUc m) s = .next (openTxn m [(o, 0x14)] false [] t)) ∧
  (∀ (m : CohMsg) (s t : State) (e : DirEntry) (o : Nat), homeServes 0x09 m s = some t → getDir t m.line = some e →
    e.owner = some o → e.coarse = false → e.sharers = [] →
    exec (.wrUc m) s = .next (openTxn m [(o, 0x13)] true [] t)) ∧
  (∀ (m : CohMsg) (s t : State), homeServes 0x0A m s = some t → getDir t m.line = none → ledgerOf t m = none →
    exec (.atomHome m) s = .next (openTxn m [] true [] t)) ∧
  (∀ (m : CohMsg) (s : State), s.powered = true → m.mtype ≠ 0x01 → exec (.rdS m) s = .next s) ∧
  (∀ (m : CohMsg) (s t : State) (l : SliceLine), snoopReaches 0x10 m s = some t →
    (getSlice t (agentTabor m.dst)).get? (lineKey m.srcChip m.line) = some l →
    exec (.snpInv m) s = .next (snoopAnswer m (agentTabor m.dst) 0x18 false []
      (setSlice (agentTabor m.dst) ((getSlice t (agentTabor m.dst)).erase (lineKey m.srcChip m.line)) t))) ∧
  (∀ (m : CohMsg) (s t : State) (l : SliceLine), snoopReaches 0x11 m s = some t → l.data ≠ [] → l.state = .m →
    (getSlice t (agentTabor m.dst)).get? (lineKey m.srcChip m.line) = some l →
    exec (.snpFwdS m) s = .next (snoopAnswer m (agentTabor m.dst) 0x19 true []
      (forwardLine m (agentTabor m.dst) 0x20 true l.data (setSlice (agentTabor m.dst)
        ((getSlice t (agentTabor m.dst)).set (lineKey m.srcChip m.line) { l with state := .o }) t)))) ∧
  (∀ (m : CohMsg) (s t : State) (l : SliceLine), snoopReaches 0x11 m s = some t → l.data ≠ [] → l.state = .e →
    (getSlice t (agentTabor m.dst)).get? (lineKey m.srcChip m.line) = some l →
    exec (.snpFwdS m) s = .next (snoopAnswer m (agentTabor m.dst) 0x19 false []
      (forwardLine m (agentTabor m.dst) 0x20 false l.data (setSlice (agentTabor m.dst)
        ((getSlice t (agentTabor m.dst)).set (lineKey m.srcChip m.line) { l with state := .s }) t)))) ∧
  (∀ (m : CohMsg) (s t : State) (l : SliceLine), snoopReaches 0x12 m s = some t → l.data ≠ [] →
    l.state = .m ∨ l.state = .o →
    (getSlice t (agentTabor m.dst)).get? (lineKey m.srcChip m.line) = some l →
    exec (.snpFwdX m) s = .next (snoopAnswer m (agentTabor m.dst) 0x19 true []
      (forwardLine m (agentTabor m.dst) 0x22 true l.data (setSlice (agentTabor m.dst)
        ((getSlice t (agentTabor m.dst)).erase (lineKey m.srcChip m.line)) t)))) ∧
  (∀ (m : CohMsg) (s t : State) (l : SliceLine), snoopReaches 0x13 m s = some t → l.data ≠ [] →
    l.state = .m ∨ l.state = .o →
    (getSlice t (agentTabor m.dst)).get? (lineKey m.srcChip m.line) = some l →
    exec (.snpRecall m) s = .next (snoopAnswer m (agentTabor m.dst) 0x1A true l.data
      (setSlice (agentTabor m.dst) ((getSlice t (agentTabor m.dst)).erase (lineKey m.srcChip m.line)) t))) ∧
  (∀ (m : CohMsg) (s t : State) (l : SliceLine), snoopReaches 0x14 m s = some t → l.data ≠ [] →
    (getSlice t (agentTabor m.dst)).get? (lineKey m.srcChip m.line) = some l →
    exec (.snpData m) s = .next (snoopAnswer m (agentTabor m.dst) 0x1A (l.state = .m || l.state = .o) l.data t)) ∧
  (∀ (m : CohMsg) (s t : State), snoopReaches 0x11 m s = some t →
    agentLine t (agentTabor m.dst) (lineKey m.srcChip m.line) = none →
    exec (.snpFwdS m) s = .next (snoopAnswer m (agentTabor m.dst) 0x19 false [] t)) ∧
  (∀ (m : CohMsg) (s t : State), snoopReaches 0x10 m s = some t →
    agentLine t (agentTabor m.dst) (lineKey m.srcChip m.line) = none →
    exec (.snpInv m) s = .next (snoopAnswer m (agentTabor m.dst) 0x18 false [] t))

/-- Answers close transactions (R191, R200). An ACK_INV, an ACK_FWD or DATA_HOME counts its sender as answered; DATA_HOME gives
the line's data; and a transaction with nothing outstanding closes. A late answer is discarded, and its sender is
sent SNP_INV. A home access that ends gives a transaction its data; a snoop without an answer within HOME_TIMEOUT poisons the
line, and SNP_INV is sent again to sharers.

Grants and answers end requests (R183, R189, R190, R198). GNT_S, GNT_E and GNT_M bring the line with the data of
the message, in S, E or M; after RD_X or an upgrade GNT_E brings M; GNT_UPG makes the copy that is held M; ATOM_RSP and UC_RSP end
the access that was performed at the home; WB_ACK frees the write-back buffer; REFUSE ends a request, or has
it sent again after 64 × 2^n ns.

Arbiters grant in turn (R456–R458): the only request of a free pseudo-channel gets its slot and leaves the
queue; a queued request that its home can serve now is served; a slot without a request gives its owner's grant
up; the high-priority window's end clears its masks. A combining entry of a free line applies its operands (R197). After
an RTO without progress everything unacknowledged is sent again at half the rate (R224). -/
def Obligations.TransactionsAndGrantsComplete : Prop :=
  (∀ (m : CohMsg) (s t : State) (x : Txn), answersTxn 0x18 m s = some (x, t) →
    exec (.ackInv m) s = .next (closeTxn m.line (setTxn m.line x t))) ∧
  (∀ (m : CohMsg) (s t : State) (x : Txn), answersTxn 0x19 m s = some (x, t) → x.req.mtype ≠ 0x08 →
    dataForwarded t x.req = true →
    exec (.ackFwd m) s = .next (closeTxn m.line (setTxn m.line { x with forwarded := true } t))) ∧
  (∀ (m : CohMsg) (s t : State) (x : Txn), answersTxn 0x19 m s = some (x, t) → x.home = false →
    dataForwarded t x.req = false →
    exec (.ackFwd m) s = .next (setTxn m.line
      { x with home := true, ref := (beginHome m.line (agentTabor x.req.src / 68) false t).1 }
      (beginHome m.line (agentTabor x.req.src / 68) false t).2)) ∧
  (∀ (m : CohMsg) (s t : State) (x : Txn), answersTxn 0x1A m s = some (x, t) →
    exec (.dataHome m) s = .next (closeTxn m.line (setTxn m.line { x with data := some m.payload } t))) ∧
  (∀ (m : CohMsg) (s t : State), takesMesh 0x18 m s = some t → t.ch.late.contains (m.line, m.src) = true →
    exec (.ackInv m) s = .next (snoop { noMsg with line := m.line, tag := m.tag } 0x10 m.src
      (t.setCh { t.ch with late := t.ch.late.erase (m.line, m.src) }))) ∧
  (∀ (line : Nat) (s : State) (x : Txn), s.powered = true → homeServed s line = true → s.ch.ucReads = [] →
    s.ch.txns.get? line = some x → x.home = true → writes x.req.mtype = false → x.req.mtype ≠ 0x05 →
    readGate (linePage line) s = .ok →
    exec (.pageHomeAccessDone line) s =
      .next (closeTxn line (setTxn line { x with home := false, ref := none } (endHome x.ref s)))) ∧
  (∀ (line : Nat) (s : State) (m : CohMsg), s.powered = true → homeServed s line = true → s.ch.ucReads = [m] →
    m.line = line → s.ch.txns.get? line = none → readGate (linePage line) s = .ok →
    exec (.pageHomeAccessDone line) s =
      .next (answer m 0x26 0 (homeBytes s line) (s.setCh { s.ch with ucReads := [] }))) ∧
  (∀ (line : Nat) (s : State), s.powered = true → homeServed s line = false →
    exec (.pageHomeAccessDone line) s = .next s) ∧
  (∀ (line a : Nat) (s : State) (x : Txn), s.powered = true → s.pw.refclk = true → s.ch.txns.get? line = some x →
    x.waiting = [(a, 0x12)] →
    ∃ t, exec (.homeTimeoutExpiry line) s = .next t ∧ isPoisoned t (lineAddr line) = true ∧
      t.ch.txns.get? line = none ∧ getDir t line = none ∧ (line, a) ∈ t.ch.late ∧
      x.snoopAt + 1000 * Par.homeTimeout s ≤ t.now ∧ t.rc.newest = s.rc.newest + 1 ∧ t.mem = s.mem) ∧
  (∀ (line a : Nat) (s : State) (x : Txn), s.powered = true → s.ch.txns.get? line = some x → x.waiting = [(a, 0x10)] →
    exec (.snoopResend line) s =
      .next (snoop x.req 0x10 a (setTxn line { x with snoopAt := (s.reach (x.snoopAt + 1000 * Par.homeTimeout s)).now }
        (s.reach (x.snoopAt + 1000 * Par.homeTimeout s))))) ∧
  (∀ (line : Nat) (s : State), s.powered = true → s.ch.txns.get? line = none →
    exec (.homeTimeoutExpiry line) s = .next s ∧ exec (.snoopResend line) s = .next s) ∧
  (∀ (m : CohMsg) (s t : State) (r : AgentReq), meetsReq 0x20 m s = some (r, t) → r.via = none →
    t.co.fenced.mem r.tabor = false → t.co.fences = [] →
    exec (.gntS m) s = .next (lineGranted m r .s m.payload t)) ∧
  (∀ (m : CohMsg) (s t : State) (r : AgentReq), meetsReq 0x21 m s = some (r, t) → r.via = none →
    t.co.fenced.mem r.tabor = false → t.co.fences = [] →
    exec (.gntE m) s = .next (lineGranted m r (if r.mtype = 0x01 then .e else .m) m.payload t)) ∧
  (∀ (m : CohMsg) (s t : State) (r : AgentReq), meetsReq 0x22 m s = some (r, t) → r.via = none →
    t.co.fenced.mem r.tabor = false → t.co.fences = [] →
    exec (.gntM m) s = .next (lineGranted m r .m m.payload t)) ∧
  (∀ (m : CohMsg) (s t : State) (r : AgentReq) (l : SliceLine), meetsReq 0x23 m s = some (r, t) → r.via = none →
    t.co.fenced.mem r.tabor = false → t.co.fences = [] →
    (getSlice t r.tabor).get? (lineKey r.chip m.line) = some l →
    exec (.gntUpg m) s = .next (lineGranted m r .m l.data t)) ∧
  (∀ (m : CohMsg) (s t : State) (r : AgentReq) (id tag : Nat), meetsReq 0x24 m s = some (r, t) → r.who = .ctx id tag →
    exec (.atomRsp m) s = .next (pendDone r.tabor id tag m.status (m.payload.take (if r.msg.a64 then 8 else 4))
      (releaseHeld r (dropReq r t)))) ∧
  (∀ (m : CohMsg) (s t : State) (r : AgentReq) (id tag : Nat), meetsReq 0x26 m s = some (r, t) → r.who = .ctx id tag →
    exec (.ucRsp m) s = .next (pendDone r.tabor id tag Config.ok m.payload (dropReq r t))) ∧
  (∀ (m : CohMsg) (s t : State), takesMesh 0x25 m s = some t →
    exec (.wbAck m) s = .next (setWbuf (agentTabor m.dst)
      ((getWbuf t (agentTabor m.dst)).erase (lineKey m.srcChip m.line)) t)) ∧
  (∀ (m : CohMsg) (s t : State) (r : AgentReq), meetsReq 0x27 m s = some (r, t) → m.status = Config.backoff →
    exec (.refuse m) s = .next (t.setCh { t.ch with backoffs := t.ch.backoffs ++
      [{ msg := r.msg, due := t.now + 64 * 2 ^ m.backoffExp }] })) ∧
  (∀ (m : CohMsg) (s t : State) (r : AgentReq) (id tag : Nat), meetsReq 0x27 m s = some (r, t) →
    m.status ≠ Config.backoff → r.who = .ctx id tag →
    exec (.refuse m) s = .next (pendDone r.tabor id tag m.status [] (releaseHeld r (dropReq r t)))) ∧
  (∀ (tag : Nat) (s : State) (b : Backoff), s.powered = true → s.ch.backoffs = [b] → b.msg.tag = tag →
    b.msg.srcChip = s.ch.domIndex → b.msg.dstChip = s.ch.domIndex →
    exec (.backoffResend tag) s = .next (homeArrive b.msg ((s.reach b.due).setCh { s.ch with backoffs := [] }))) ∧
  (∀ (m : CohMsg) (s t : State), takesMesh 0x20 m s = some t → reqOf t m = none → exec (.gntS m) s = .next t) ∧
  (∀ (p : Nat) (s : State) (x : PcReq), s.powered = true → s.ch.pc.get? p = some [x] →
    s.ch.grant.get? (4096 + p) = none → 0 < Par.pchBurstMax s → x.high = false →
    exec (.arbiterGrant (.pch p)) s =
      .next (noteGrant (4096 + p) x.requester 1 false (s.setCh { s.ch with pc := s.ch.pc.erase p }))) ∧
  (∀ (n : Nat) (s : State) (x : Queued), s.powered = true → s.ch.queues.get? n = some [x] →
    s.ch.grant.get? n = none → x.msg.frame = none → x.msg.mtype ≠ 0x08 → sliverHeld s n = false →
    canServe s x.msg = true →
    exec (.arbiterGrant (.sliver n)) s =
      .next (serve x.msg (noteGrant n (requesterOf s x.msg) 1 false
        (s.setCh { s.ch with queues := s.ch.queues.erase n })))) ∧
  (∀ (n : Nat) (s : State), s.powered = true → s.ch.queues.get? n = none →
    exec (.arbiterGrant (.sliver n)) s = .next (s.setCh { s.ch with grant := s.ch.grant.erase n })) ∧
  (∀ (a : Arbiter) (s : State), s.powered = true →
    exec (.hpWindowExpiry a) s = .next (s.setCh { s.ch with hp := s.ch.hp.erase (arbKey a) })) ∧
  (∀ (n i : Nat) (s : State) (c : Comb) (m : CohMsg) (more : List CohMsg), s.powered = true →
    s.ch.comb.get? n = some [c] → i = 0 → s.ch.txns.has c.line = false → s.ch.queues = [] →
    isPoisoned s (lineAddr c.line) = false → c.ops = m :: more →
    exec (.combineEntryApply n i) s =
      .next (serveOpen m more (s.setCh { s.ch with comb := s.ch.comb.erase n }))) ∧
  (∀ (node tc : Nat) (s : State) (p : TxPath), s.powered = true → s.fa.tx.get? (pathKey node tc) = some p →
    p.pkts ≠ [] → p.pkts.any (fun q => q.sent) = true → p.timeouts + 1 < Par.retryMax s → tc ≠ 7 →
    exec (.rtoExpiry node tc) s =
      .next (resendAll (pathKey node tc) ((s.reach (p.advancedAt + p.rtoNs)).setFa { s.fa with
        tx := s.fa.tx.set (pathKey node tc) { p with
          timeouts := p.timeouts + 1, rtoNs := min (2 * p.rtoNs) 2000000,
          advancedAt := (s.reach (p.advancedAt + p.rtoNs)).now,
          rate := max (p.rate / 2) (1000 * Par.rateMinGbps s) } }))) ∧
  (∀ (node tc : Nat) (s : State), s.powered = true → s.fa.tx.get? (pathKey node tc) = none →
    exec (.rtoExpiry node tc) s = .next s)

/-- A snoop on the mesh changes no line but its own: every other line that a slice or write-back buffer holds stays, and so do the
directory, the transactions, memory and the programs. -/
def Obligations.SnoopsChangeOnlyTheirLine : Prop :=
  ∀ (m : CohMsg) (s t : State), m.frame = none →
    exec (.snpInv m) s = .next t ∨ exec (.snpFwdS m) s = .next t ∨ exec (.snpFwdX m) s = .next t ∨
      exec (.snpRecall m) s = .next t ∨ exec (.snpData m) s = .next t →
    (∀ n, n ≠ agentTabor m.dst → getSlice t n = getSlice s n ∧ getWbuf t n = getWbuf s n) ∧
    (∀ n key l, key ≠ lineKey m.srcChip m.line → (getSlice s n).get? key = some l → (getSlice t n).get? key = some l) ∧
    (∀ n key, key ≠ lineKey m.srcChip m.line → (getWbuf t n).get? key = (getWbuf s n).get? key) ∧
    t.ch.dir = s.ch.dir ∧ t.ch.txns = s.ch.txns ∧ t.mem = s.mem ∧ t.co = s.co ∧ t.rc = s.rc

/-- A domain forms by the messages of R203 among the listed peers with a direct link: a hello is heard; the member with
the lowest node id proposes once it has heard them all, or FORM_WAIT has passed; a proposed member confirms; with every
confirm in, or 100 ms after the proposal, the proposer commits the members that confirmed; a commit fixes the
list and the index. A hello after the commit is refused. A member all of whose direct links have been down for PEER_LOSS_MS
is lost (R205). -/
def Obligations.DomainsForm : Prop :=
  (∀ (m : CohMsg) (s t : State) (f : Forming), formArrives 0x30 m s = some t → t.ch.forming = some f →
    t.fa.domainList.contains (formNode m) = true → f.heard = [] → f.peers = [formNode m] →
    exec (.domainHello m) s = .next (propose { f with heard := [formNode m] }
      (t.setCh { t.ch with forming := some { f with heard := [formNode m] } }))) ∧
  (∀ (m : CohMsg) (s t : State) (f : Forming) (n : Nat), formArrives 0x30 m s = some t → t.ch.forming = some f →
    t.fa.domainList.contains (formNode m) = true → f.heard = [] → f.peers = [formNode m, n] → n ≠ formNode m →
    exec (.domainHello m) s = .next (t.setCh { t.ch with forming := some { f with heard := [formNode m] } })) ∧
  (∀ (m : CohMsg) (s t : State), formArrives 0x30 m s = some t → t.ch.forming = none → t.ch.domState = 2 →
    exec (.domainHello m) s = .next (raise 0x132 0 (formNode m) 0 (formMsg (formNode m) 0x34 [] t))) ∧
  (∀ (s : State) (f : Forming), s.powered = true → s.ch.forming = some f →
    exec .domainHelloTimer s =
      .next (hello { f with
          helloDue := (s.reach f.helloDue).now + 100000000
          peers := (f.peers ++ listedPeers (s.reach f.helloDue)).eraseDups }
        ((s.reach f.helloDue).setCh { s.ch with
          forming := some { f with
            helloDue := (s.reach f.helloDue).now + 100000000
            peers := (f.peers ++ listedPeers (s.reach f.helloDue)).eraseDups } }))) ∧
  (∀ (m : CohMsg) (s t : State) (f : Forming) (list : List Nat), formArrives 0x31 m s = some t →
    t.ch.forming = some f → formIds 16 m.payload = t.fa.composition :: t.fa.generation :: list →
    list.contains t.fa.nodeId = true →
    exec (.domainPropose m) s = .next (formMsg (formNode m) 0x32 [] t)) ∧
  (∀ (m : CohMsg) (s t : State) (f : Forming) (at_ : Nat), formArrives 0x32 m s = some t → t.ch.forming = some f →
    f.proposed = some ([t.fa.nodeId, formNode m], at_) → f.confirmed = [] →
    exec (.domainConfirm m) s = .next (commitList [t.fa.nodeId, formNode m]
      (t.setCh { t.ch with forming := some { f with confirmed := [formNode m] } }))) ∧
  (∀ (m : CohMsg) (s t : State) (f : Forming) (gen : Nat) (list : List Nat), formArrives 0x33 m s = some t →
    t.ch.forming = some f → formIds 16 m.payload = t.fa.composition :: gen :: list →
    list.contains t.fa.nodeId = true → exec (.domainCommit m) s = .next (formDomain list t)) ∧
  (∀ (m : CohMsg) (s t : State), formArrives 0x34 m s = some t → exec (.domainRefuse m) s = .next t) ∧
  (∀ (s : State) (f : Forming) (list : List Nat) (at_ : Nat), s.powered = true → s.ch.forming = some f →
    f.proposed = some (list, at_) →
    exec .formWaitExpiry s = .next (commitList (list.filter fun n => n = s.fa.nodeId || f.confirmed.contains n)
      (s.reach (at_ + 100000000)))) ∧
  (∀ (s : State) (f : Forming), s.powered = true → s.ch.forming = some f → f.proposed = none → f.heard = [] →
    exec .formWaitExpiry s = .next (formDomain [s.fa.nodeId] (s.reach (f.started + 1000000 * Par.formWait s)))) ∧
  (∀ (s : State) (node at_ : Nat), s.powered = true → s.pw.refclk = true → s.ch.peerDown.get? node = some at_ →
    s.ch.members.contains node = true → s.ch.lostPeers.contains node = false → node ≠ s.fa.nodeId →
    directUp s node = false → s.ch.reqs = [] → s.ch.txns = [] → s.ch.dir = [] →
    ∃ t, exec (.peerLost node) s = .next t ∧ t.ch.lostPeers = s.ch.lostPeers ++ [node] ∧
      at_ + 1000000 * Par.peerLossMs s ≤ t.now ∧ t.rc.newest = s.rc.newest + 1 ∧ t.mem = s.mem ∧
      t.ch.dir = [] ∧ t.ch.members = s.ch.members) ∧
  (∀ (s : State) (list : List Nat),
    (formDomain list s).ch.domState = 2 ∧ (formDomain list s).ch.members = list ∧
      (formDomain list s).ch.domIndex = list.idxOf s.fa.nodeId ∧ (formDomain list s).ch.forming = none)

/-! Fabric links and Drumline (chapters 8 and 17). -/

/-- A sub-port trains in the steps of R213: signal, auto-negotiation where it is used, equalisation, PCS lock;
then it is in LINK with four LLDP frames due, and a SAK of a connectivity association that it holds makes it
SECURE. An unsplit port that has not brought up four lanes in time comes up on a pair that did.

A link leaves SECURE or LINK (R212, R214), neighbours come and go (R228), and LLDP frames leave (R228): a
sub-port that loses its link, or a lane, or whose symbol errors pass SER_RETRAIN, waits for signal again; LINK_DOWN
is raised when it leaves SECURE; an LLDP frame carries the node's composition. -/
def Obligations.LinksTrainAndFall : Prop :=
  (∀ (s : State) (sub : Nat), s.powered = true → subExists s sub = true → (getSub s sub).state = 0 →
    (getSub s sub).step = 1 →
    ∃ t, exec (.laneSignalDetect sub) s = .next t ∧ t = s.setFa t.fa ∧
      getSub t sub = { getSub s sub with state := 1, trainFrom := s.now,
                                         step := if Par.portLaneMode s (sub / 2) = 1 && Par.portAneg s (sub / 2) ≠ 0 then 2 else 3 } ∧
      (∀ n, n ≠ sub → getSub t n = getSub s n)) ∧
  (∀ (s : State) (sub : Nat), s.powered = true → (getSub s sub).state = 1 → (getSub s sub).step = 2 →
    exec (.anegComplete sub) s = .next (setSub sub { getSub s sub with step := 3 } s)) ∧
  (∀ (s : State) (sub : Nat), s.powered = true → (getSub s sub).state = 1 → (getSub s sub).step = 3 →
    exec (.eqAdaptComplete sub) s = .next (setSub sub { getSub s sub with step := 4 } s)) ∧
  (∀ (s : State) (sub mac : Nat), s.powered = true → (getSub s sub).state = 1 → (getSub s sub).step = 4 →
    exec (.pcsLock sub mac) s = .next (setSub sub { getSub s sub with
      state := 2, step := 5, width := fullWidth s sub, partnerMac := mac, lldpFast := 4, lldpDue := s.now,
      creditAt := s.now } s)) ∧
  (∀ (s : State) (port : Nat) (pair1 : Bool), s.powered = true → s.pw.refclk = true → port < 32 →
    Par.portSplit s port = 0 → (getSub s (2 * port)).state = 1 →
    ∃ t, exec (.trainingTimeout port true pair1) s = .next t ∧ (getSub t (2 * port)).state = 2 ∧
      (getSub t (2 * port)).width = 2 ∧ (getSub s (2 * port)).trainFrom + 250000000 ≤ t.now ∧
      s.rc.newest < t.rc.newest ∧ t.mem = s.mem) ∧
  (∀ (s : State) (sub ckn : Nat), s.powered = true → 2 ≤ (getSub s sub).state → ckn ≠ 0 →
    s.bt.fabricKeys.any (fun kv => kv.2.1 = ckn) = true → ckn = Par.fabricKeyActive s →
    (getSub s sub).ca = 0 →
    exec (.mkpduRx sub ckn) s = .next (setSub sub { getSub s sub with ca := ckn, ca2 := 0 } s)) ∧
  (∀ (s : State) (sub : Nat), s.powered = true → (getSub s sub).state = 2 → (getSub s sub).ca ≠ 0 →
    ∃ t, exec (.sakInstalled sub) s = .next t ∧ (getSub t sub).state = 3 ∧ (getSub t sub).width = (getSub s sub).width ∧
      s.rc.newest < t.rc.newest ∧ t.mem = s.mem) ∧
  (∀ (s : State) (sub : Nat), s.powered = true → (getSub s sub).state = 3 →
    ∃ t, exec (.linkDown sub) s = .next t ∧ (getSub t sub).state = 0 ∧ (getSub t sub).step = 1 ∧
      (getSub t sub).classCredit = [] ∧ s.rc.newest < t.rc.newest ∧ t.mem = s.mem) ∧
  (∀ (s : State) (sub lane : Nat), s.powered = true → (getSub s sub).state = 2 → (getSub s sub).step ≠ 0 →
    Par.portSplit s (sub / 2) = 0 → lane < 4 →
    ∃ t, exec (.laneLockLoss sub lane) s = .next t ∧ (getSub t sub).state = 0 ∧ (getSub t sub).step = 1 ∧
      t.rc.newest = s.rc.newest + 1 ∧ t.mem = s.mem) ∧
  (∀ (s : State) (sub errors symbols : Nat), s.powered = true → (getSub s sub).state = 2 →
    (getSub s sub).step ≠ 0 → symbols < errors * 10 ^ Par.serRetrain s →
    ∃ t, exec (.serWindowExceeded sub errors symbols) s = .next t ∧ (getSub t sub).state = 0 ∧
      (getSub t sub).step = 1 ∧ t.rc.newest = s.rc.newest + 1 ∧ t.mem = s.mem) ∧
  (∀ (s : State) (sub errors symbols : Nat), s.powered = true → errors * 10 ^ Par.serRetrain s ≤ symbols →
    exec (.serWindowExceeded sub errors symbols) s = .next s) ∧
  (∀ (s : State) (sub : Nat) (n : Neighbour), s.powered = true → 2 ≤ (getSub s sub).state →
    ∃ t, exec (.lldpRx sub n) s = .next t ∧ (getSub t sub).neighbour = some n ∧
      (getSub t sub).neighbourAt = s.now + 1000000000 * n.ttl ∧
      ((getSub s sub).neighbour ≠ some n → t.rc.newest = s.rc.newest + 1) ∧ t.mem = s.mem) ∧
  (∀ (s : State) (sub : Nat), s.powered = true → s.pw.refclk = true → 2 ≤ (getSub s sub).state →
    ∃ t, exec (.lldpTxTimer sub) s = .next t ∧ (getSub s sub).lldpDue ≤ t.now ∧
      t.out = s.out ++ [.frame sub (.lldp s.fa.nodeId s.fa.composition s.fa.generation)] ∧
      (getSub t sub).lldpDue = (getSub s sub).lldpDue +
        1000000000 * (if 1 < (getSub s sub).lldpFast then 1 else Par.lldpTxS s) ∧
      t = ((s.setNow t.now).setFa t.fa).setOut t.out) ∧
  (∀ (s : State) (sub : Nat) (n : Neighbour), s.powered = true → s.pw.refclk = true →
    (getSub s sub).neighbour = some n →
    ∃ t, exec (.neighbourAgeOut sub) s = .next t ∧ (getSub t sub).neighbour = none ∧
      (getSub s sub).neighbourAt ≤ t.now ∧ t.rc.newest = s.rc.newest + 1 ∧ t.mem = s.mem)

/-- Drumline sends one frame at each selection (R446, R447, R449, R450): on a SECURE sub-port with only management
frames waiting, the first of them leaves and its charge is that of its bytes; with nothing waiting, the
sub-port is idle. A copy descriptor starts when its engine has a free place, and completes once every packet
of it is applied (R249). -/
def Obligations.FramesAndCopiesGo : Prop :=
  (∀ (s : State) (sub : Nat) (f : FrameOut) (rest : List FrameOut), s.powered = true → secure s sub = true →
    (getSub s sub).sending = none → (getSub s sub).creditAt = s.now → s.fa.ctl = [] → s.fa.tx = [] →
    s.fa.mgmt.get? sub = some (f :: rest) → classOk s sub 6 = true → classOk s sub 7 = true →
    ∃ t, exec (.subportTxSelect sub) s = .next t ∧ t.out = s.out ++ [.frame sub f] ∧
      t.fa.mgmt.get? sub = some rest ∧ (getSub t sub).sending.isSome = true ∧ t.mem = s.mem) ∧
  (∀ (s : State) (sub : Nat), s.powered = true → secure s sub = true → s.fa.ctl = [] → s.fa.tx = [] →
    s.fa.mgmt = [] →
    ∃ t, exec (.subportTxSelect sub) s = .next t ∧ t.out = s.out ∧ (getSub t sub).sending = none ∧
      t = (s.setNow t.now).setFa t.fa) ∧
  (∀ (s : State) (sub : Nat) (f : FrameOut) (rest : List FrameOut), s.powered = true → secure s sub = true →
    (getSub s sub).sending = none → (getSub s sub).creditAt = s.now → s.fa.ctl = [] → s.fa.tx = [] →
    s.fa.mgmt.get? sub = some (f :: rest) → (classShaper s sub 6).1 = 0 → (classShaper s sub 7).1 = 0 →
    ∃ t, exec (.packetBecomesEligible sub) s = .next t ∧ t.out = s.out ++ [.frame sub f] ∧
      t.fa.mgmt.get? sub = some rest ∧ t.mem = s.mem) ∧
  (∀ (s : State) (n : Nat) (c : Copy), s.alive = true → s.fa.copies = [(n, c)] → c.running = false →
    0 < Par.copyInflight s →
    exec (.copyDescriptorStart n) s =
      .next (copySend n 256 (modCopy n (fun c => { c with running := true }) s))) ∧
  (∀ (s : State) (n i : Nat) (c : Copy), s.powered = true → s.fa.copies.get? n = some c → c.running = true →
    c.out = [] → c.local_ = 0 → c.failed = none → wBits c.words 3 30 0 ≤ c.sentBytes →
    bitOf (wordAt c.words 0) 36 = false → c.origin = .item i →
    exec (.copyDone n) s =
      .next (endItem i Config.ok 0 0 (s.setFa { s.fa with copies := s.fa.copies.erase n }))) ∧
  (∀ (s : State) (n i st : Nat) (c : Copy), s.powered = true → s.fa.copies.get? n = some c →
    c.out = [] → c.local_ = 0 → c.failed = some st → c.origin = .item i →
    exec (.copyDone n) s =
      .next (endItem i st 0 0 (s.setFa { s.fa with copies := s.fa.copies.erase n })))

/-! Packets, requests and replies (chapters 8 and 9). -/

/-- Requests arrive (R218, R223, R225, R246). A packet of a row's kind that passes the checks and is the next of
its path is performed; one that a check of R225 refuses is answered with that status; one of another kind is
not that row's; packets of a BULK message wait for its last. -/
def Obligations.RequestsArriveAndStart : Prop :=
  (∀ (f : RxFrame) (s s1 : State), takesPkt 1 f s = some s1 → rxEarly s1 f.pkt = none →
    exec (.xltRead f) s = .next (startPkt f.sub (openPkt f.pkt f.pkt.payload s1.now) s1)) ∧
  (∀ (f : RxFrame) (s s1 : State) (st : Nat), takesPkt 1 f s = some s1 → rxEarly s1 f.pkt = some st →
    exec (.xltRead f) s = .next (refusedPkt f.pkt st s1)) ∧
  (∀ (f : RxFrame) (s s1 : State), takesPkt 2 f s = some s1 → rxEarly s1 f.pkt = none →
    exec (.xltWrite f) s = .next (startPkt f.sub (openPkt f.pkt f.pkt.payload s1.now) s1)) ∧
  (∀ (f : RxFrame) (s s1 : State), takesPkt 3 f s = some s1 → rxEarly s1 f.pkt = none →
    exec (.flagStore f) s = .next (startPkt f.sub (openPkt f.pkt f.pkt.payload s1.now) s1)) ∧
  (∀ (f : RxFrame) (s s1 : State), takesPkt 4 f s = some s1 → rxEarly s1 f.pkt = none →
    exec (.atomic f) s = .next (startPkt f.sub (openPkt f.pkt f.pkt.payload s1.now) s1)) ∧
  (∀ (f : RxFrame) (s s1 : State), takesPkt 6 f s = some s1 → rxEarly s1 f.pkt = none →
    exec (.copyData f) s = .next (startPkt f.sub (openPkt f.pkt f.pkt.payload s1.now) s1)) ∧
  (∀ (f : RxFrame) (s : State), f.pkt.kind ≠ 2 → exec (.xltWrite f) s = .next s) ∧
  (∀ (f : RxFrame) (s s1 : State), s.powered = true → takesPkt 5 f s = some s1 → f.pkt.last = false →
    f.pkt.first = true →
    exec (.bulk f) s = .next (modRx (pathKey f.pkt.src f.pkt.tc) (fun r => { r with bulk := [f.pkt] }) s1)) ∧
  (∀ (f : RxFrame) (s s1 s2 : State), s.powered = true → takesPkt 5 f s = some s1 → f.pkt.first = true →
    f.pkt.last = true → s2 = modRx (pathKey f.pkt.src f.pkt.tc) (fun r => { r with bulk := [] }) s1 →
    rxEarly s2 f.pkt = none → bitsOf (leField f.pkt.payload 0 16) 3 0 < 4 →
    exec (.bulk f) s = .next (startPkt f.sub (openPkt f.pkt f.pkt.payload s2.now) s2)) ∧
  (∀ (node tc psn : Nat) (o : OpenPkt) (r : RxPath) (s : State), s.powered = true → findOpen s node tc psn = some o →
    getRx s (pathKey node tc) = some r → o.stage = 2 → earlierOpen r o.pkt.job psn = false →
    exec (.flagStoreRelease node tc psn) s =
      .next (performPkt node tc psn (modOpen node tc psn (fun o => { o with stage := 1 }) s))) ∧
  (∀ (node tc psn : Nat) (o : OpenPkt) (r : RxPath) (s : State), s.powered = true → findOpen s node tc psn = some o →
    getRx s (pathKey node tc) = some r → earlierOpen r o.pkt.job psn = true →
    exec (.flagStoreRelease node tc psn) s = .next s)

/-- What a receiving path tests of an access to a window (R238), in this order: the window is in the table; it is not closing,
but for a revocation in progress; in DEVICE_OUT_OF_SERVICE only reads go on; the window gives the right and is as
long as the access; the offset is aligned; the counter is the window's; no revocation is in progress. The first
test that fails gives its status; an access that passes them all is to the window's run at the offset. -/
def Obligations.WindowChecks : Prop :=
  (∀ (s : State) (job window right offset len align : Nat) (counter : Option Nat), s.fa.rwt.get? (rwtKey job window) = none →
    rwtCheck s job window right offset len align counter = .error Config.accessDenied) ∧
  (∀ (s : State) (job window right offset len align : Nat) (counter : Option Nat) (w : Rwt), s.fa.rwt.get? (rwtKey job window) = some w →
    w.closing = true → revoking s w = false →
    rwtCheck s job window right offset len align counter = .error Config.accessDenied) ∧
  (∀ (s : State) (job window right offset len align : Nat) (counter : Option Nat) (w : Rwt), s.fa.rwt.get? (rwtKey job window) = some w →
    (w.closing = false ∨ revoking s w = true) → s.rc.deviceState = 1 → right ≠ 0 →
    rwtCheck s job window right offset len align counter = .error Config.deviceOutOfService) ∧
  (∀ (s : State) (job window right offset len align : Nat) (counter : Option Nat) (w : Rwt), s.fa.rwt.get? (rwtKey job window) = some w →
    (w.closing = false ∨ revoking s w = true) → (s.rc.deviceState ≠ 1 ∨ right = 0) →
    (bitOf w.rights right = false ∨ 64 * w.lines < offset + len) →
    rwtCheck s job window right offset len align counter = .error Config.accessDenied) ∧
  (∀ (s : State) (job window right offset len align : Nat) (counter : Option Nat) (w : Rwt), s.fa.rwt.get? (rwtKey job window) = some w →
    (w.closing = false ∨ revoking s w = true) → (s.rc.deviceState ≠ 1 ∨ right = 0) →
    bitOf w.rights right = true → offset + len ≤ 64 * w.lines → offset % align ≠ 0 →
    rwtCheck s job window right offset len align counter = .error Config.invalidDescriptor) ∧
  (∀ (s : State) (job window right offset len align : Nat) (counter : Option Nat) (w : Rwt), s.fa.rwt.get? (rwtKey job window) = some w →
    (w.closing = false ∨ revoking s w = true) → (s.rc.deviceState ≠ 1 ∨ right = 0) →
    bitOf w.rights right = true → offset + len ≤ 64 * w.lines → offset % align = 0 →
    (∃ c, counter = some c ∧ ¬(w.ctrBase ≤ c ∧ c < w.ctrBase + w.ctrCount)) →
    rwtCheck s job window right offset len align counter = .error Config.accessDenied) ∧
  (∀ (s : State) (job window right offset len align : Nat) (counter : Option Nat) (w : Rwt), s.fa.rwt.get? (rwtKey job window) = some w →
    (s.rc.deviceState ≠ 1 ∨ right = 0) → bitOf w.rights right = true → offset + len ≤ 64 * w.lines → offset % align = 0 →
    (∀ c, counter = some c → w.ctrBase ≤ c ∧ c < w.ctrBase + w.ctrCount) → revoking s w = true →
    rwtCheck s job window right offset len align counter = .error Config.extentRevoked) ∧
  (∀ (s : State) (job window right offset len align : Nat) (counter : Option Nat) (w : Rwt), s.fa.rwt.get? (rwtKey job window) = some w →
    (s.rc.deviceState ≠ 1 ∨ right = 0) → bitOf w.rights right = true → offset + len ≤ 64 * w.lines → offset % align = 0 →
    (∀ c, counter = some c → w.ctrBase ≤ c ∧ c < w.ctrBase + w.ctrCount) → revoking s w = false → w.closing = false →
    rwtCheck s job window right offset len align counter = .ok (64 * w.base + offset))

/-- Replies end requests (R221–R225, R254, R260): a RESPONSE completes the request that its PSN names with its status
and data; APPLIED completes the writes of the path up to its PSN; ACK takes packets off the path; NAK sends
them again; a reply of another kind, or one that no check lets through, does nothing of this.

Timers of requests and paths (R222–R227, R242, R244, R254, R260): each acts at its time and does what its rule
says when what it waits for has not come. -/
def Obligations.RepliesAndTransportTimers : Prop :=
  (∀ (f : RxFrame) (s s1 : State) (n : Nat) (r : RemoteReq), ctlTake 0x10 f s = (s1, true) → s1.fa.reqs = [(n, r)] →
    onWire r = true → r.pkt.dst = f.pkt.src → r.pkt.psn = f.pkt.ackPsn → f.pkt.status ≠ Config.staleRoute →
    (∀ a, r.origin ≠ .poll a) →
    exec (.response f) s = .next (finishReq n f.pkt.status f.pkt.payload s1)) ∧
  (∀ (f : RxFrame) (s s1 : State) (n : Nat) (r : RemoteReq), ctlTake 0x10 f s = (s1, true) → s1.fa.reqs = [(n, r)] →
    onWire r = true → r.pkt.dst = f.pkt.src → r.pkt.psn = f.pkt.ackPsn → f.pkt.status = Config.staleRoute →
    exec (.response f) s = .next (staleReq n r f.pkt s1)) ∧
  (∀ (f : RxFrame) (s s1 : State) (key n : Nat) (r : RemoteReq), ctlTake 0x11 f s = (s1, true) →
    pathOf s1 f.pkt.src f.pkt.ackPsn = some key → s1.fa.reqs = [(n, r)] → onWire r = true →
    pathKey r.pkt.dst r.pkt.tc = key → appliedKind r.pkt.kind = true → serialLe 32 r.pkt.psn f.pkt.ackPsn = true →
    exec (.applied f) s = .next (finishReq n Config.ok [] s1)) ∧
  (∀ (f : RxFrame) (s s1 : State) (key : Nat), ctlTake 0x20 f s = (s1, true) →
    pathOf s1 f.pkt.src f.pkt.ackPsn = some key →
    exec (.ack f) s = .next (ackUpTo key f.pkt.ackPsn (if f.pkt.ceEcho then cutRate key s1 else s1))) ∧
  (∀ (f : RxFrame) (s s1 : State) (key : Nat), ctlTake 0x21 f s = (s1, true) →
    pathOf s1 f.pkt.src f.pkt.ackPsn = some key → f.pkt.syn = false → f.pkt.ceEcho = false →
    exec (.nak f) s = .next (resendAll key (ackUpTo key (psnPrev f.pkt.ackPsn) s1))) ∧
  (∀ (f : RxFrame) (s s1 : State) (key : Nat), ctlTake 0x21 f s = (s1, true) →
    pathOf s1 f.pkt.src f.pkt.ackPsn = some key → f.pkt.syn = true → f.pkt.ceEcho = false →
    exec (.nak f) s = .next (restartPath key s1)) ∧
  (∀ (f : RxFrame) (s s1 : State), ctlTake 0x20 f s = (s1, false) → exec (.ack f) s = .next s1) ∧
  (∀ (n : Nat) (r : RemoteReq) (s : State), s.powered = true → s.fa.reqs.get? n = some r → r.acked = true →
    r.pkt.kind ≠ 4 → r.refused = false →
    exec (.responseTimeout n) s =
      .next (finishReq n Config.timeout [] (s.reach (r.lastSent + 1000000 * Par.responseTimeoutMs s)))) ∧
  (∀ (n : Nat) (r : RemoteReq) (s : State), s.powered = true → s.fa.reqs.get? n = some r → r.pkt.kind = 4 →
    r.acked = true → r.refused = false → s.pw.refclk = true →
    r.lastSent + 1000 * Par.atomicReplyUs s ≤ r.firstSent + 1000000 * Par.atomicRetryMs s → s.now ≤ r.lastSent →
    exec (.atomicReplyTimer n) s = .next (resendReq n (s.setNow (r.lastSent + 1000 * Par.atomicReplyUs s)))) ∧
  (∀ (n : Nat) (r : RemoteReq) (s : State), s.powered = true → s.fa.reqs.get? n = some r → r.pkt.kind = 4 →
    r.firstSent ≠ 0 →
    exec (.atomicRetryExpiry n) s = .next (finishReq n Config.outcomeUnknown []
      (s.reach (r.firstSent + 1000000 * Par.atomicRetryMs s + 1000 * Par.atomicReplyUs s)))) ∧
  (∀ (n : Nat) (r : RemoteReq) (s : State), s.powered = true → s.fa.reqs.get? n = some r → r.pkt.kind = 3 →
    r.after = [] → r.acked = false → r.bulk = false → r.failed = none → s.fa.noPath.contains n = false →
    (s.fa.tx.any fun kv => kv.2.pkts.any fun q => q.req = n) = false →
    exec (.flagStoreSend n) s = .next (dispatch n s)) ∧
  (∀ (n st : Nat) (r : RemoteReq) (s : State), s.powered = true → s.fa.reqs.get? n = some r → r.pkt.kind = 3 →
    r.after = [] → r.acked = false → r.bulk = false → r.failed = some st →
    exec (.flagStoreSend n) s = .next (finishReq n st [] s)) ∧
  (∀ (n : Nat) (r : RemoteReq) (s : State), s.powered = true → s.fa.reqs.get? n = some r → r.after ≠ [] →
    exec (.flagStoreSend n) s = .next s) ∧
  (∀ (node tc job : Nat) (o : OpenMsg) (s : State), s.powered = true →
    s.fa.openMsgs.find? (isOpen node tc job) = some o →
    exec (.gatherTimer node tc job) s = .next (flushOpen node tc job (s.reach (o.since + Par.gatherNs s)))) ∧
  (∀ (node tc : Nat) (p : TxPath) (s : State), s.powered = true → tc ≠ 7 → s.fa.tx.get? (pathKey node tc) = some p →
    ∃ t rate, exec (.rateIncreaseTick node tc) s = .next t ∧ t = (s.reach (max (p.cutAt.getD 0) p.incAt + 20000)).setFa
        { s.fa with tx := s.fa.tx.set (pathKey node tc) { p with rate := rate, incAt := t.now } } ∧
      (1000 * Par.rateMinGbps s ≤ rate) ∧ (rate ≤ max (pathCap s p.sub) (1000 * Par.rateMinGbps s))) ∧
  (∀ (node tc : Nat) (p : RxPath) (s : State), s.powered = true → getRx s (pathKey node tc) = some p → p.unacked ≠ 0 →
    exec (.ackTimer node tc) s = .next (sendAck (pathKey node tc) (s.reach (p.unackedAt + 2000)))) ∧
  (∀ (node tc at_ : Nat) (p : RxPath) (s : State), s.powered = true → getRx s (pathKey node tc) = some p →
    p.unreported = some at_ →
    exec (.appliedTimer node tc) s = .next (sendApplied (pathKey node tc) (s.reach (at_ + 4000)))) ∧
  (∀ (node tc : Nat) (p : RxPath) (s : State), s.powered = true → getRx s (pathKey node tc) = some p → p.open_ = [] →
    exec (.rxPathExpiry node tc) s = .next ((s.reach (p.lastAt + 250000000)).setFa
      { s.fa with rx := s.fa.rx.erase (pathKey node tc) })) ∧
  (∀ (at_ : Nat) (s : State), s.powered = true → s.fa.quietUntil = some at_ →
    exec .xltQuietExpiry s = .next ((s.reach at_).setFa { s.fa with quietUntil := none })) ∧
  (∀ (n at_ : Nat) (r : RemoteReq) (s : State), s.powered = true → s.fa.reqs.get? n = some r → r.staleFrom = some at_ →
    r.refused = true →
    exec (.staleHoldExpiry n) s =
      .next (finishReq n Config.staleRoute [] (s.reach (at_ + 1000000 * Par.staleHoldMs s)))) ∧
  (∀ (n at_ : Nat) (r : RemoteReq) (s : State), s.powered = true → s.fa.reqs.get? n = some r → r.staleFrom = some at_ →
    r.refused = true → r.staleGen = none → s.pw.refclk = true → s.now ≤ r.lastSent + 100000 →
    r.lastSent + 100000 < at_ + 1000000 * Par.staleHoldMs s →
    exec (.staleResendTimer n) s = .next (resendReq n (s.setNow (r.lastSent + 100000)))) ∧
  (∀ (a : Nat) (p : Prepared) (s : State), s.powered = true → s.fa.prepared.get? a = some p → p.word = none →
    ownState (getWord s a) = 3 →
    ∃ s1, s1 = (s.reach p.next).setFa
        { s.fa with prepared := s.fa.prepared.set a { p with next := (s.reach p.next).now + 1000000 } } ∧
      exec (.preparedResolvePoll a) s = .next (sendReq p.node (.poll a) p.tenant 0
        { noPkt with kind := 1, tc := tenantClass s1 p.tenant, job := p.job, window := p.window, offset := p.offset,
                     payload := leBytes 2 8 } s1))

/-- Windows (R236–R240): WINDOW_OPEN binds a window to a run of the tenant's pages with its rights and counters;
an open window is not opened again; WINDOW_CLOSE is the owner's alone, sets CLOSING and frees the entry once
nothing of it runs.

Arrival counters (R251–R253, R323): COUNTER_ALLOC gives the tenant the lowest free run and its first number;
COUNTER_FREE refuses counters that an open window names; COUNTER_SET writes one; another tenant's counter is
ACCESS_DENIED. -/
def Obligations.WindowsAndCounters : Prop :=
  (∀ (n : Nat) (s : State) (i : Item) (base : Nat) (s2 : State), itemReady n 0x18 s = some i →
    widthsOk i.words [56, 44, 40, 37] = true → wordAt i.words 1 % 64 = 0 → wordAt i.words 2 ≠ 0 →
    wBits i.words 4 36 18 ≤ 262144 → wordAt i.words 1 + 64 * wordAt i.words 2 ≤ 2 ^ 56 →
    ownsCounters (setItem n i s) i.tenant (wBits i.words 4 17 0) (wBits i.words 4 36 18) = true →
    windowWalk n i.tenant (wordAt i.words 1) (64 * wordAt i.words 2) (wordAt i.words 2 / 0x8000 + 3) i.prog
      (i.regs.getD 0 0) (setItem n i s) = .ok base s2 →
    s2.fa.rwt = [] → 0 < Par.windowsPerTenant s2 →
    exec (.windowOpen n) s = .next (endItem n Config.ok 0 0 (s2.setFa { s2.fa with
      rwt := [(rwtKey (wBits i.words 3 19 0) (wBits i.words 3 35 20),
        ⟨wBits i.words 3 19 0, wBits i.words 3 35 20, i.tenant, false, wBits i.words 3 39 36, base / 64,
          wordAt i.words 2, wBits i.words 4 17 0, wBits i.words 4 36 18, []⟩)] }))) ∧
  (∀ (n : Nat) (s : State) (i : Item) (base : Nat) (s2 : State), itemReady n 0x18 s = some i →
    widthsOk i.words [56, 44, 40, 37] = true → wordAt i.words 1 % 64 = 0 → wordAt i.words 2 ≠ 0 →
    wBits i.words 4 36 18 ≤ 262144 → wordAt i.words 1 + 64 * wordAt i.words 2 ≤ 2 ^ 56 →
    ownsCounters (setItem n i s) i.tenant (wBits i.words 4 17 0) (wBits i.words 4 36 18) = true →
    windowWalk n i.tenant (wordAt i.words 1) (64 * wordAt i.words 2) (wordAt i.words 2 / 0x8000 + 3) i.prog
      (i.regs.getD 0 0) (setItem n i s) = .ok base s2 →
    s2.fa.rwt.has (rwtKey (wBits i.words 3 19 0) (wBits i.words 3 35 20)) = true →
    exec (.windowOpen n) s = .next (endItem n Config.invalidDescriptor 0 0 s2)) ∧
  (∀ (n : Nat) (s : State) (i : Item) (w : Rwt), itemReady n 0x19 s = some i → wordAt i.words 1 = 0 →
    wordAt i.words 2 = 0 → widthsOk i.words [0, 0, 36] = true →
    s.fa.rwt.get? (rwtKey (wBits i.words 3 19 0) (wBits i.words 3 35 20)) = some w → w.tenant ≠ i.tenant →
    exec (.windowClose n) s = .next (endItem n Config.accessDenied 0 0 (setItem n i s))) ∧
  (∀ (n : Nat) (s : State) (i : Item) (w : Rwt), itemReady n 0x19 s = some i → wordAt i.words 1 = 0 →
    wordAt i.words 2 = 0 → widthsOk i.words [0, 0, 36] = true →
    s.fa.rwt.get? (rwtKey (wBits i.words 3 19 0) (wBits i.words 3 35 20)) = some w → w.tenant = i.tenant →
    s.tr.withdrawals = [] →
    exec (.windowClose n) s = .next (addWithdrawal
      ⟨tenantPort i.tenant, 0, i.tenant, n, s.now, [], [rwtKey (wBits i.words 3 19 0) (wBits i.words 3 35 20)], 0, 0, false⟩
      (startClose (rwtKey (wBits i.words 3 19 0) (wBits i.words 3 35 20)) (setItem n i s)))) ∧
  (∀ (key : Nat) (s : State) (w : Rwt), s.fa.rwt.get? key = some w → w.closing = true → windowBusy s key w = false →
    tryFree key s = s.setFa { s.fa with rwt := s.fa.rwt.erase key }) ∧
  (∀ (n : Nat) (s : State) (i : Item) (first : Nat), itemReady n 0x1B s = some i → widthsOk i.words [19] = true →
    wordAt i.words 1 ≠ 0 → wordAt i.words 1 ≤ 262144 → freeRun (wordAt i.words 1) s.fa.ctrOwner 0 = some first →
    s.fa.ctrOwner.count (fun _ t => t = i.tenant) + wordAt i.words 1 ≤ Par.countersPerTenant s →
    ∃ t, exec (.counterAlloc n) s = .next (endItem n Config.ok first 0 t) ∧ t.fa.counters = s.fa.counters ∧
      (∀ k, first ≤ k → k < first + wordAt i.words 1 → t.fa.ctrOwner.get? k = some i.tenant) ∧
      (∀ k, k < first ∨ first + wordAt i.words 1 ≤ k → t.fa.ctrOwner.get? k = s.fa.ctrOwner.get? k) ∧
      t = (setItem n i s).setFa { s.fa with ctrOwner := t.fa.ctrOwner }) ∧
  (∀ (n : Nat) (s : State) (i : Item), itemReady n 0x1B s = some i → widthsOk i.words [19] = true →
    wordAt i.words 1 ≠ 0 → wordAt i.words 1 ≤ 262144 → freeRun (wordAt i.words 1) s.fa.ctrOwner 0 = none →
    exec (.counterAlloc n) s = .next (endItem n Config.noSpace 0 0 (setItem n i s))) ∧
  (∀ (n : Nat) (s : State) (i : Item), itemReady n 0x1C s = some i → widthsOk i.words [18, 19] = true →
    ownsCounters s i.tenant (wordAt i.words 1) (wordAt i.words 2) = true →
    (s.fa.rwt.any fun kv => kv.2.ctrBase < wordAt i.words 1 + wordAt i.words 2 &&
      wordAt i.words 1 < kv.2.ctrBase + kv.2.ctrCount) = false →
    ∃ t, exec (.counterFree n) s = .next (endItem n Config.ok 0 0 t) ∧
      (∀ k v, (k, v) ∈ t.fa.ctrOwner ↔ (k, v) ∈ s.fa.ctrOwner ∧
        ¬(wordAt i.words 1 ≤ k ∧ k < wordAt i.words 1 + wordAt i.words 2)) ∧
      (∀ k v, (k, v) ∈ t.fa.counters ↔ (k, v) ∈ s.fa.counters ∧
        ¬(wordAt i.words 1 ≤ k ∧ k < wordAt i.words 1 + wordAt i.words 2)) ∧ t.mem = s.mem ∧ t.fa.rwt = s.fa.rwt) ∧
  (∀ (n : Nat) (s : State) (i : Item), itemReady n 0x1C s = some i → widthsOk i.words [18, 19] = true →
    ownsCounters s i.tenant (wordAt i.words 1) (wordAt i.words 2) = true →
    (s.fa.rwt.any fun kv => kv.2.ctrBase < wordAt i.words 1 + wordAt i.words 2 &&
      wordAt i.words 1 < kv.2.ctrBase + kv.2.ctrCount) = true →
    exec (.counterFree n) s = .next (endItem n Config.invalidDescriptor 0 0 (setItem n i s))) ∧
  (∀ (n : Nat) (s : State) (i : Item), itemReady n 0x1D s = some i → widthsOk i.words [18, 64] = true →
    ownsCounters s i.tenant (wordAt i.words 1) 1 = true →
    exec (.counterSet n) s = .next (endItem n Config.ok 0 0 ((setItem n i s).setFa
      { s.fa with counters := s.fa.counters.set (wordAt i.words 1) (wordAt i.words 2) }))) ∧
  (∀ (n : Nat) (s : State) (i : Item), itemReady n 0x1D s = some i → widthsOk i.words [18, 64] = true →
    ownsCounters s i.tenant (wordAt i.words 1) 1 = false →
    exec (.counterSet n) s = .next (endItem n Config.accessDenied 0 0 (setItem n i s)))

/-- Handoffs of ownership (R261–R264). OWN_HANDOFF on an OWNED record makes it OFFERING and sends the compare-and-swap
that prepares the receiver's; on any other it completes with STALE_VERSION and the word. The commit makes the
owner's word RELEASED at the next epoch and tells the receiver; when the prepare has failed, the owner takes the
record back at the next epoch with an event.

The timers of the Reply Ledger and of generations, and the end of a re-encryption (R89, R255, R257, R259). -/
def Obligations.HandoffsAndGraceTimers : Prop :=
  (∀ (n : Nat) (s : State) (i : Item) (job a k : Nat) (s2 s3 : State), itemReady n 0x1E s = some i →
    widthsOk i.words [56, 32, 50] = true → wordAt i.words 1 % 8 = 0 → wordAt i.words 3 % 8 = 0 →
    jobOf (setItem n i s) i.tenant = some job →
    tryLook n i.tenant (wordAt i.words 1) 32 true (setItem n i s) = .ok [(a, k, 0)] s2 →
    writeOk (a + 16) 8 i.tenant s2 = (s3, .ok) → ownState (getWord s3 (a + 16)) ≠ 1 →
    exec (.ownHandoff n) s = .next (endItem n Config.staleVersion (getWord s3 (a + 16)) 0 s3)) ∧
  (∀ (n : Nat) (s : State) (i : Item) (job a k : Nat) (s2 s3 : State), itemReady n 0x1E s = some i →
    widthsOk i.words [56, 32, 50] = true → wordAt i.words 1 % 8 = 0 → wordAt i.words 3 % 8 = 0 →
    jobOf (setItem n i s) i.tenant = some job →
    tryLook n i.tenant (wordAt i.words 1) 32 true (setItem n i s) = .ok [(a, k, 0)] s2 →
    writeOk (a + 16) 8 i.tenant s2 = (s3, .ok) → ownState (getWord s3 (a + 16)) = 1 →
    ∃ s4, exec (.ownHandoff n) s = .next (sendReq (wBits i.words 2 15 0) (.handoff s3.fa.nextReq 2) i.tenant 0
        { noPkt with kind := 4, tc := tenantClass s4 i.tenant, job := job, window := wBits i.words 2 31 16,
                     offset := wordAt i.words 3 + 16, aop := 0x11, a64 := true,
                     payload := leBytes 8 (ownWord ((ownEpoch (getWord s3 (a + 16)) + 1) % 2 ^ 32) 3 s4.fa.nodeId) ++
                       leBytes 8 0 } s4) ∧
      s4.mem = (putWord (a + 16) (ownWord (ownEpoch (getWord s3 (a + 16))) 2 (wBits i.words 2 15 0)) s3).mem ∧
      (∃ h, s4.fa.handoffs = s3.fa.handoffs.set s3.fa.nextReq h ∧ h.item = n ∧ h.record = a ∧ h.prepared = none ∧
        h.epoch = ownEpoch (getWord s3 (a + 16)) ∧ h.node = wBits i.words 2 15 0)) ∧
  (∀ (m : Nat) (s s2 : State) (h : Handoff) (w : Nat), s.powered = true → s.fa.handoffs.get? m = some h →
    h.prepared = some Config.ok → s.now < h.started + 10000000 →
    casWord (h.record + 16) h.tenant (ownWord h.epoch 2 h.node) (ownWord ((h.epoch + 1) % 2 ^ 32) 4 h.node) s =
      some (true, w, s2) →
    ∃ s3, exec (.handoffCommit m) s = .next (endItem h.item Config.ok w 0 (sendReq h.node (.item h.item) h.tenant 0
        { noPkt with kind := 3, tc := tenantClass s3 h.tenant, job := (jobOf s3 h.tenant).getD 0, window := h.window,
                     offset := h.offset + 16,
                     payload := leBytes 8 (ownWord ((h.epoch + 1) % 2 ^ 32) 1 s3.fa.nodeId) } s3)) ∧
      s3.fa.handoffs = s2.fa.handoffs.erase m ∧ s3.mem = s2.mem) ∧
  (∀ (m : Nat) (s s2 : State) (h : Handoff) (w : Nat), s.powered = true → s.fa.handoffs.get? m = some h →
    h.prepared = some Config.ok → s.now < h.started + 10000000 →
    casWord (h.record + 16) h.tenant (ownWord h.epoch 2 h.node) (ownWord ((h.epoch + 1) % 2 ^ 32) 4 h.node) s =
      some (false, w, s2) →
    exec (.handoffCommit m) s = .next (endItem h.item Config.staleVersion w 0
      (s2.setFa { s2.fa with handoffs := s2.fa.handoffs.erase m }))) ∧
  (∀ (m : Nat) (s s2 : State) (h : Handoff) (w st : Nat), s.powered = true → s.fa.handoffs.get? m = some h →
    h.prepared = some st → st ≠ Config.ok →
    casWord (h.record + 16) h.tenant (ownWord h.epoch 2 h.node) (ownWord ((h.epoch + 1) % 2 ^ 32) 1 s.fa.nodeId) s =
      some (true, w, s2) →
    exec (.handoffReclaim m) s = .next (endItem h.item st w 0 (raise 0x151 0 h.pva 0
      (s2.setFa { s2.fa with handoffs := s2.fa.handoffs.erase m })))) ∧
  (∀ (node job seq : Nat) (s : State) (e : LedEnt), s.powered = true →
    (s.fa.ledger.find? fun e => e.node = node && e.job = job && e.seq = seq) = some e →
    exec (.ledgerEntryExpiry node job seq) s = .next (dropLedger e (s.reach (e.at_ + 8000000)))) ∧
  (∀ (node job at_ : Nat) (s : State), s.powered = true →
    ((s.fa.sources.get? (srcKey node job)).bind fun x => x.emptySince) = some at_ →
    exec (.ledgerSourceExpiry node job) s = .next ((s.reach (at_ + 1000000000)).setFa
      { s.fa with sources := s.fa.sources.erase (srcKey node job) })) ∧
  (∀ (at_ : Nat) (s : State), s.powered = true → s.fa.ledgerHold = some at_ →
    exec .ledgerHoldExpiry s = .next ((s.reach at_).setFa { s.fa with ledgerHold := none })) ∧
  (∀ (g : Nat) (s : State), s.powered = true → s.fa.prevGen = some g →
    exec .generationGraceExpiry s = .next ((s.reach (s.fa.commitAt + 5000000)).setFa
      { s.fa with prevGen := none, prevJobs := [] })) ∧
  (∀ (tenant : Nat) (s : State), s.powered = true → s.fr.reencrypt.has tenant = true →
    exec (.reencryptDone tenant) s =
      .next (settleWithdrawals (s.setFr { s.fr with reencrypt := s.fr.reencrypt.erase tenant }))) ∧
  (∀ (tenant : Nat) (s : State), s.fr.reencrypt.has tenant = false → exec (.reencryptDone tenant) s = .next s)

/-! Translation and isolation (chapter 10). -/

/-- The entries of the command ring that concern translations (R276, R280, R284, R286, R287): a FILL of pages that lie within the tenant's grants
is installed, and one of a page outside them is refused and denies the misses it would have answered; DENY refuses
the miss of its TAG; INVALIDATE withdraws the translations of a range of PVAs and INVALIDATE_TENANT all of
the tenant's; undefined operations and reserved bits give INVALID_DESCRIPTOR, and a tenant of the other port ACCESS_DENIED. -/
def Obligations.TranslationsAreFilledAndWithdrawn : Prop :=
  (∀ (port : Nat) (e : Quad) (s t : State), takesCmd port 1 e s = some t → bitOf e.w0.toNat 20 = false →
    e.w1.toNat % 0x200000 = 0 → e.w2.toNat < t.ti.rangePages → grantedTo t (cmdTenant e) e.w2.toNat = true →
    exec (.fill port e) s = .next (install
      { tenant := cmdTenant e, vpn := e.w1.toNat / 0x200000, big := false, r := bitOf e.w0.toNat 21,
        w := bitOf e.w0.toNat 22, ppn := e.w2.toNat, draining := false, inflight := 0, last := t.now } t)) ∧
  (∀ (port : Nat) (e : Quad) (s t : State), takesCmd port 1 e s = some t → e.w1.toNat % 0x200000 ≠ 0 →
    exec (.fill port e) s = .next (giveResult port (cmdTenant e) (cmdTag e) Config.invalidDescriptor t)) ∧
  (∀ (port : Nat) (e : Quad) (s t : State), takesCmd port 1 e s = some t → bitOf e.w0.toNat 20 = false →
    e.w1.toNat % 0x200000 = 0 → e.w2.toNat < t.ti.rangePages → grantedTo t (cmdTenant e) e.w2.toNat = false →
    t.tr.misses = [] →
    exec (.fill port e) s = .next (giveResult port (cmdTenant e) (cmdTag e) Config.invalidDescriptor t)) ∧
  (∀ (port : Nat) (e : Quad) (s t : State) (m : Miss), takesCmd port 2 e s = some t →
    t.tr.misses.get? (cmdTag e) = some m → m.tenant = cmdTenant e →
    exec (.deny port e) s = .next (m.tasks.foldl (fun s k => failTask k s) (dropMiss (cmdTag e) m t))) ∧
  (∀ (port : Nat) (e : Quad) (s t : State), takesCmd port 2 e s = some t → t.tr.misses.get? (cmdTag e) = none →
    exec (.deny port e) s = .next t) ∧
  (∀ (port : Nat) (e : Quad) (s t : State), takesCmd port 3 e s = some t → e.w3.toNat ≠ 0 →
    e.w1.toNat % 0x200000 = 0 →
    exec (.invalidate port e) s = .next (startWithdrawal port 3 (cmdTenant e) (cmdTag e) 0 0 [] (fun x =>
      (if x.big then x.vpn / 512 * 512 else x.vpn) < e.w1.toNat / 0x200000 + e.w3.toNat &&
        e.w1.toNat / 0x200000 < (if x.big then x.vpn / 512 * 512 else x.vpn) + (if x.big then 512 else 1)) t)) ∧
  (∀ (port : Nat) (e : Quad) (s t : State), takesCmd port 4 e s = some t →
    exec (.invalidateTenant port e) s =
      .next (startWithdrawal port 4 (cmdTenant e) (cmdTag e) 0 0 [] (fun _ => true) t)) ∧
  (∀ (ent : Nat) (s : State) (e : PtcEnt), s.powered = true → s.tr.ptc.get? ent = some e → e.draining = true →
    e.inflight = 0 →
    exec (.ptcDrainComplete ent) s =
      .next (settleAll (retryFills (s.setTr { s.tr with ptc := s.tr.ptc.erase ent })))) ∧
  (∀ (n : Nat) (s : State) (w : Withdrawal), s.powered = true → s.tr.withdrawals.get? n = some w → w.op ≠ 0xA5 →
    w.windows = [] →
    exec (.drainTimeout n) s = .next (settleAll (retryFills (abortEnts w.ents (s.reach (w.start + 2000000)))))) ∧
  (∀ (tag : Nat) (s : State) (m : Miss) (at_ : Nat), s.powered = true → s.tr.misses.get? tag = some m →
    m.writtenAt = some at_ →
    exec (.translationTimeout tag) s = .next (m.tasks.foldl (fun s k => failTask k s)
      (dropMiss tag m (s.reach (at_ + 1000000 * Par.translationTimeoutMs s))))) ∧
  (∀ (port : Nat) (e : Quad) (s : State), mmioUp s port = false → exec (.fill port e) s = .next s)

/-- Grants and tenants (R275, R289, R294, R295, R298): EXTENT_GRANT adds a grant; EXTENT_REVOKE takes the tenant's grants over a
run and withdraws the translations and closes the windows that reach it; TENANT_CREATE brings a FREE tenant into service with its class,
its quota and a key of its own; TENANT_MODIFY changes the class and the quota of an ACTIVE tenant; TENANT_DESTROY stops it.

Address translation by the host (R291–R293), quotas (R298) and function resets (R330): a completion with the right needed enters the cache and its tasks go on;
one without it asks for the page; Success on a Page Request asks again, and any other response fails the access; an
invalidation removes what it names; the quota tick charges running contexts and a window's end clears charges; a VF's
reset drops its queues, and a function's reset of the port all of them. -/
def Obligations.TenantsAtsAndQuotas : Prop :=
  (∀ (port : Nat) (e : Quad) (s t : State), takesCmd port 0x10 e s = some t → 0 < e.w3.toNat →
    e.w2.toNat + e.w3.toNat ≤ t.ti.rangePages → t.tr.grants.length < 65536 →
    t.tr.grants.count (fun _ g => g.tenant = cmdTenant e) < Par.grantsPerTenant t →
    exec (.extentGrant port e) s = .next (giveResult port (cmdTenant e) (cmdTag e) Config.ok (t.setTr { t.tr with
      grants := grantTable (t.tr.grants.map Prod.snd ++
        [{ tenant := cmdTenant e, first := e.w2.toNat, pages := e.w3.toNat }]) }))) ∧
  (∀ (port : Nat) (e : Quad) (s t : State), takesCmd port 0x10 e s = some t → e.w3.toNat = 0 →
    exec (.extentGrant port e) s = .next (giveResult port (cmdTenant e) (cmdTag e) Config.invalidDescriptor t)) ∧
  (∀ (port : Nat) (e : Quad) (s t : State), takesCmd port 0x11 e s = some t → 0 < e.w3.toNat → t.ti.moves = [] →
    ∃ u, u = t.setTr { t.tr with
        grants := grantTable (cutGrants (cmdTenant e) e.w2.toNat e.w3.toNat (t.tr.grants.map Prod.snd)) } ∧
      exec (.extentRevoke port e) s = .next (startWithdrawal port 0x11 (cmdTenant e) (cmdTag e) e.w2.toNat e.w3.toNat
        (windowsOver u (cmdTenant e) e.w2.toNat e.w3.toNat) (fun x =>
          (if x.big then x.ppn / 512 * 512 else x.ppn) < e.w2.toNat + e.w3.toNat &&
            e.w2.toNat < (if x.big then x.ppn / 512 * 512 else x.ppn) + (if x.big then 512 else 1)) u)) ∧
  (∀ (port : Nat) (e : Quad) (s t : State), takesCmd port 0x20 e s = some t → standby t = false →
    t.bt.debugUnlocked = false → t.tr.tenants.has (cmdTenant e) = false → bitsOf e.w2.toNat 31 16 ≤ 1000 →
    exec (.tenantCreate port e) s =
      .next (giveResult port (cmdTenant e) (cmdTag e) Config.ok ((t.setFreeCtr (t.freeCtr + 1)).setTr { t.tr with
        tenants := t.tr.tenants.set (cmdTenant e)
          { state := 1, cls := bitsOf e.w2.toNat 1 0, quota := quotaOf t e.w2.toNat, key := t.tr.keys + 1,
            charge := 0, held := false }
        keys := t.tr.keys + 1 }))) ∧
  (∀ (port : Nat) (e : Quad) (s t : State), takesCmd port 0x20 e s = some t → standby t = false →
    t.bt.debugUnlocked = false → t.tr.tenants.has (cmdTenant e) = true →
    exec (.tenantCreate port e) s = .next (giveResult port (cmdTenant e) (cmdTag e) Config.invalidDescriptor t)) ∧
  (∀ (port : Nat) (e : Quad) (s t : State) (x : Tenant), takesCmd port 0x21 e s = some t →
    t.tr.tenants.get? (cmdTenant e) = some x → x.state = 1 → bitsOf e.w2.toNat 31 16 ≤ 1000 →
    exec (.tenantModify port e) s = .next (giveResult port (cmdTenant e) (cmdTag e) Config.ok (t.setTr { t.tr with
      tenants := t.tr.tenants.set (cmdTenant e) { x with cls := bitsOf e.w2.toNat 1 0, quota := quotaOf t e.w2.toNat } }))) ∧
  (∀ (port : Nat) (e : Quad) (s t : State), takesCmd port 0x21 e s = some t →
    t.tr.tenants.get? (cmdTenant e) = none →
    exec (.tenantModify port e) s = .next (giveResult port (cmdTenant e) (cmdTag e) Config.invalidDescriptor t)) ∧
  (∀ (port : Nat) (e : Quad) (s t : State) (x : Tenant), takesCmd port 0x22 e s = some t →
    t.tr.tenants.get? (cmdTenant e) = some x → x.state = 1 → itemsOf t (cmdTenant e) = [] → t.fa.rwt = [] →
    t.fa.ctrOwner = [] → t.fa.counters = [] → t.co.images = [] →
    exec (.tenantDestroy port e) s = .next (startWithdrawal port 0x22 (cmdTenant e) (cmdTag e) 0 0 [] (fun _ => true)
      (t.setTr { t.tr with tenants := t.tr.tenants.set (cmdTenant e) { x with state := 2 } }))) ∧
  (∀ (port : Nat) (e : Quad) (s t : State), takesCmd port 0x22 e s = some t →
    t.tr.tenants.get? (cmdTenant e) = none →
    exec (.tenantDestroy port e) s = .next (giveResult port (cmdTenant e) (cmdTag e) Config.invalidDescriptor t)) ∧
  (∀ (tag addr : Nat) (r w : Bool) (s : State) (q : AtsReq), s.tr.ats.get? tag = some q → mmioUp s q.port = true →
    q.refused = false → (if q.write then w else r) = true → (getAtc s q.port).length < 32768 →
    exec (.atsTranslationCompletion tag r w addr) s =
      .next (q.tasks.foldl (fun s n => modItem n (fun i => if i.wait = Wait.ats tag then { i with wait := .none } else i) s)
        (setAtc q.port ((getAtc s q.port).filter (fun x => !(x.fn = q.fn && x.pasid = q.pasid && x.page = q.page)) ++
          [{ fn := q.fn, pasid := q.pasid, page := q.page, r := r, w := w, addr := 4096 * (addr / 4096), last := s.now }])
          (s.setTr { s.tr with ats := s.tr.ats.erase tag })))) ∧
  (∀ (tag addr : Nat) (r w : Bool) (s : State) (q : AtsReq), s.tr.ats.get? tag = some q → mmioUp s q.port = true →
    q.refused = false → (if q.write then w else r) = false →
    exec (.atsTranslationCompletion tag r w addr) s =
      .next (pumpPri (s.setTr { s.tr with ats := s.tr.ats.set tag { q with refused := true } }))) ∧
  (∀ (tag at_ : Nat) (s : State) (q : AtsReq), s.tr.ats.get? tag = some q → mmioUp s q.port = true →
    q.pri = some at_ →
    exec (.prgResponse tag 0) s = .next (pumpPri (emit (.pcie q.port 1 tag q.fn q.page)
      (s.setTr { s.tr with ats := s.tr.ats.set tag { q with refused := false, pri := none } })))) ∧
  (∀ (tag at_ code : Nat) (s : State) (q : AtsReq), s.tr.ats.get? tag = some q → mmioUp s q.port = true →
    q.pri = some at_ → code ≠ 0 → exec (.prgResponse tag code) s = .next (failAts tag s)) ∧
  (∀ (port fn pasid page pages : Nat) (s : State), mmioUp s port = true → (getPort s port).sent = [] →
    (getPort s port).replay = [] → (getPort s port).held = [] →
    ∃ t, t = setAtc port ((getAtc s port).filter fun e =>
        !(e.fn = fn && e.pasid = pasid && page ≤ e.page && e.page < page + pages)) s ∧
      exec (.atsInvalidateRequest port fn pasid page pages) s =
        .next (settleInvs (t.setTr { t.tr with
          withdrawals := t.tr.withdrawals.set t.tr.nextWd
            { port := port, op := 0xA5, tenant := fn, tag := 0, start := s.now, ents := [], windows := [], first := page,
              pages := pages, later := false }
          nextWd := t.tr.nextWd + 1 }))) ∧
  (∀ (s : State), s.alive = true → s.co.tabors = [] →
    exec .quotaChargeTick s = .next (s.setTr { s.tr with
      chargedAt := s.now
      tenants := s.tr.tenants.mapVal fun _ t => { t with held := t.held || overQuota s t } })) ∧
  (∀ (s : State) (n : Nat) (c : Ctx), s.alive = true → s.co.tabors.map Prod.fst = [n] → (getTab s n).ctxs = [c] →
    c.state = .running →
    ∃ t, exec .quotaChargeTick s = .next t ∧ t.tr.chargedAt = s.now ∧ t.mem = s.mem) ∧
  (∀ (s : State), s.alive = true → s.pw.refclk = true →
    ∃ t, exec .quotaWindowExpiry s = .next t ∧ s.tr.quotaStart + 1000 * Par.quotaWindowUs s ≤ t.now ∧
      t.tr.quotaStart = t.now ∧ (∀ kv ∈ t.tr.tenants, kv.2.charge = 0 ∧ kv.2.held = false) ∧ t.mem = s.mem) ∧
  (∀ (port fn : Nat) (s : State), mmioUp s port = true → 0 < fn → fn ≤ 512 → fnItems s port fn = [] →
    exec (.vfFlr port fn) s =
      .next (raise 0x163 (fnTenant port fn) ((getPort s port).spill.filter fun c => c.fn = fn).length 0
        ((setPort s port { getPort s port with
          fns := (getPort s port).fns.erase fn
          spill := (getPort s port).spill.filter fun c => c.fn ≠ fn
          sent := (getPort s port).sent.filter fun r => !r.ofFn fn
          replay := (getPort s port).replay.filter fun r => !r.ofFn fn
          held := (getPort s port).held.filter fun r => !r.ofFn fn }).setTr { s.tr with
            ats := s.tr.ats.keep fun _ r => !(r.port = port && r.fn = fn)
            atc := s.tr.atc.set port ((getAtc s port).filter fun e => e.fn ≠ fn) }))) ∧
  (∀ (port : Nat) (s : State), mailboxUp s port = true → usedVfs s port = [] → s.tr.misses = [] →
    exec (.pfFlr port) s = .next (dropMailbox port ((setPort s port { getPort s port with
      fns := (getPort s port).fns.erase 0, reqRing := {}, cmdRing := {} }).setBt { s.bt with spdm := s.bt.spdm.erase port })))

/-! The host ports (chapter 11). -/

/-- Queues (R307–R312): a write that enables a submission queue whose completion queue is ACTIVE makes it ACTIVE
and empty; one that clears ENABLE starts its drain, which ends when every completion has been written; a
completion queue starts empty with phase 1, and stays enabled while a submission queue is bound to it.

Doorbells (R309, R312–R314): a value within the ring becomes the ring's tail or head; one outside it puts the
queue in ERROR with QUEUE_ERROR; slots that are free again take waiting entries. -/
def Obligations.QueuesAndDoorbells : Prop :=
  (∀ (s : State) (p f q v : Nat), mmioUp s p = true → queueExists s p f q = true → (getSq s p f q).enable = false →
    bitOf v 4 = true → f ≠ 0 → 4 ≤ v % 16 → v % 16 ≤ 12 → fnActive s p f = true →
    (getCq s p f (bitsOf v 7 5)).qstate = 1 →
    exec (.sqEnable p f q v) s = .next (setSq p f q
      { (getSq s p f q) with sizeLog2 := v % 16, cq := bitsOf v 7 5, pasid := bitsOf v 27 8,
                             pasidEn := bitOf v 28, enable := true, qstate := 1, head := 0, tail := 0 } s)) ∧
  (∀ (s : State) (p f q v : Nat), mmioUp s p = true → queueExists s p f q = true → (getSq s p f q).enable = false →
    bitOf v 4 = true → f ≠ 0 → (getCq s p f (bitsOf v 7 5)).qstate ≠ 1 →
    exec (.sqEnable p f q v) s = .next s) ∧
  (∀ (s : State) (p f q v : Nat), mmioUp s p = true → queueExists s p f q = true → (getSq s p f q).enable = true →
    bitOf v 4 = false →
    exec (.sqDisable p f q v) s = .next (setSq p f q { (getSq s p f q) with enable := false, qstate := 2 } s)) ∧
  (∀ (s : State) (p f q : Nat), s.powered = true → (getSq s p f q).qstate = 2 → f ≠ 0 → outstanding s p f q = 0 →
    ((getPort s p).spill.any fun d => d.fn = f && d.sq = q) = false →
    exec (.sqDrainDone p f q) s = .next (setSq p f q { (getSq s p f q) with qstate := 0 } s)) ∧
  (∀ (s : State) (p f q : Nat), s.powered = true → (getSq s p f q).qstate = 2 → f ≠ 0 → outstanding s p f q ≠ 0 →
    exec (.sqDrainDone p f q) s = .next s) ∧
  (∀ (s : State) (p f q v : Nat), mmioUp s p = true → queueExists s p f q = true → (getCq s p f q).enable = false →
    bitOf v 4 = true → f ≠ 0 → 4 ≤ v % 16 → v % 16 ≤ 14 → fnActive s p f = true →
    ∃ r, exec (.cqEnable p f q v) s = .next (drainSpill p (setCq p f q r s)) ∧ r.enable = true ∧ r.qstate = 1 ∧
      r.head = 0 ∧ r.tail = 0 ∧ r.phase = true ∧ r.sizeLog2 = v % 16 ∧ r.base = (getCq s p f q).base ∧
      r.irqEn = bitOf v 5 ∧ r.irqTime = bitsOf v 31 16) ∧
  (∀ (s : State) (p f q v : Nat), mmioUp s p = true → queueExists s p f q = true → (getCq s p f q).enable = true →
    bitOf v 4 = false → f ≠ 0 → ((getFn s p f).sq.any fun kv => kv.2.cq = q && kv.2.qstate ≠ 0) = false →
    ∃ r, exec (.cqDisable p f q v) s = .next (setCq p f q r s) ∧ r.enable = false ∧ r.qstate = 0 ∧
      r.base = (getCq s p f q).base ∧ r.head = (getCq s p f q).head ∧ r.tail = (getCq s p f q).tail) ∧
  (∀ (s : State) (p f q v : Nat), mmioUp s p = true → queueExists s p f q = true → (getCq s p f q).enable = true →
    bitOf v 4 = false → f ≠ 0 → ((getFn s p f).sq.any fun kv => kv.2.cq = q && kv.2.qstate ≠ 0) = true →
    (getCq s p f q).qstate ≠ 3 →
    exec (.cqDisable p f q v) s = .next s) ∧
  (∀ (s : State) (p f q v : Nat), mmioUp s p = true → queueExists s p f q = true → (f = 0 && q = 8) = false →
    (getSq s p f q).qstate = 1 → v % 4096 < (getSq s p f q).slots →
    exec (.sqTailDoorbell p f q v) s = .next (setSq p f q { (getSq s p f q) with tail := v % 4096 } s)) ∧
  (∀ (s : State) (p f q v : Nat), mmioUp s p = true → queueExists s p f q = true → (f = 0 && q = 8) = false →
    (getSq s p f q).qstate = 1 → (getSq s p f q).slots ≤ v % 4096 →
    exec (.sqTailDoorbell p f q v) s =
      .next (raise 0x160 (fnSubject p f) q 0 (setSq p f q { (getSq s p f q) with qstate := 3 } s))) ∧
  (∀ (s : State) (p f q v : Nat), mmioUp s p = true → queueExists s p f q = true → (f = 0 && q = 8) = false →
    (getCq s p f q).qstate = 1 → v % 16384 < (getCq s p f q).slots →
    exec (.cqHeadDoorbell p f q v) s =
      .next (drainSpill p (setCq p f q { (getCq s p f q) with head := v % 16384 } s))) ∧
  (∀ (s : State) (p f q v : Nat), mmioUp s p = true → queueExists s p f q = true → (f = 0 && q = 8) = false →
    (getCq s p f q).qstate = 1 → (getCq s p f q).slots ≤ v % 16384 →
    exec (.cqHeadDoorbell p f q v) s =
      .next (raise 0x160 (fnSubject p f) q 0 (setCq p f q { (getCq s p f q) with qstate := 3 } s))) ∧
  (∀ (s : State) (p v : Nat), mmioUp s p = true → (getCq s p 0 8).qstate = 1 →
    v % 16384 < (getCq s p 0 8).slots →
    exec (.reqRingHeadDoorbell p v) s =
      .next (let t := setCq p 0 8 { (getCq s p 0 8) with head := v % 16384 } s
             drainReqRing p ((getPort s p).waiting.length + 1) t)) ∧
  (∀ (s : State) (p v : Nat), mmioUp s p = true → (getSq s p 0 8).qstate = 1 →
    v % 16384 < (getSq s p 0 8).slots →
    exec (.cmdRingTailDoorbell p v) s = .next (setSq p 0 8 { (getSq s p 0 8) with tail := v % 16384 } s)) ∧
  (∀ (s : State) (p v : Nat), mmioUp s p = true → (getSq s p 0 8).qstate = 1 →
    (getSq s p 0 8).slots ≤ v % 16384 →
    exec (.cmdRingTailDoorbell p v) s =
      .next (raise 0x160 0 8 0 (setSq p 0 8 { (getSq s p 0 8) with qstate := 3 } s)))

/-- Fetching and completing (R316–R320, R324–R328). The entry whose turn it is becomes an item, which ends at once
if the first check of R320 that applies refuses it; HEAD goes on by its slots. An item that has ended and
has nothing outstanding leaves the device with one completion, in its queue or in the spill area; until then
it stays.

Registers, bus mastering and the link (R303, R304, R306, R327–R329): a plain write stores a base with its low
bits zero, or a byte of the mailbox's request buffer; a refused access changes nothing; a port that leaves
DL_Active keeps what has to be sent again, and sends it first when it is back; the data of a read reach the
item that waits for them. -/
def Obligations.EntriesRegistersAndReads : Prop :=
  (∀ (s : State) (p f q : Nat) (w : List Nat), mmioUp s p = true → s.rc.warmStep = 0 →
    fetchTurn s p = some (f, q) → w.length = 8 → bitOf (wordAt w 0) 9 = false →
    (getSq s p f q).avail ≠ 0 → fetchHeld s (if f = 0 then 0 else fnTenant p f) (wBits w 0 7 0) = false →
    ∃ t i, exec (.sqEntryFetch p f q w) s = .next t ∧ t.ho.items = s.ho.items.set s.ho.nextItem i ∧
      t.ho.nextItem = s.ho.nextItem + 1 ∧ i.src = .host p f q (wBits w 0 31 16) ∧ i.opcode = wBits w 0 7 0 ∧
      i.ordered = bitOf (wordAt w 0) 8 ∧ i.started = false ∧
      i.ended = fetchRefusal s f (if f = 0 then 0 else fnTenant p f) w ∧
      (getSq t p f q).head = ((getSq s p f q).head + 1) % (getSq s p f q).slots ∧
      t.mem = s.mem ∧ t.tr = s.tr ∧ t.co = s.co) ∧
  (∀ (s : State) (p f q : Nat) (w : List Nat), fetchTurn s p ≠ some (f, q) →
    exec (.sqEntryFetch p f q w) s = .next s) ∧
  (∀ (s : State) (n p f q cid st : Nat) (i : Item), s.powered = true → s.rc.warmStep = 0 → s.alive = true →
    getItem? s n = some i → i.ended = some st → i.src = .host p f q cid → i.out = [] → i.discard = false →
    exec (.completionPost n) s = .next (postCpl p
      { fn := f, cq := (getSq s p f q).cq, sq := q, cid := cid, status := st, r0 := i.r0, r1 := i.r1 }
      (s.setHo { s.ho with items := s.ho.items.erase n }))) ∧
  (∀ (s : State) (n p f q cid st : Nat) (i : Item), s.powered = true →
    getItem? s n = some i → i.ended = some st → i.src = .host p f q cid → i.out ≠ [] →
    exec (.completionPost n) s = .next s) ∧
  (∀ (s : State) (p : Nat) (c : Cpl), (getPort s p).up = false →
    postCpl p c s = setPort s p { getPort s p with spill := (getPort s p).spill ++ [c] }) ∧
  (∀ (s : State) (p : Nat) (c : Cpl), cqTakes s p c.fn c.cq = true → (getPort s p).spill = [] →
    ∃ t, postCpl p c s = t ∧ t.mem = s.mem ∧ (getPort t p).spill = [] ∧
      (getCq t p c.fn c.cq).tail = ((getCq s p c.fn c.cq).tail + 1) % (getCq s p c.fn c.cq).slots) ∧
  (∀ (s : State) (p f q : Nat), s.powered = true → (getCq s p f q).irqEn = true → (getCq s p f q).unsig ≠ 0 →
    exec (.irqTimeExpiry p f q) s =
      .next (cqSignal p f q (s.reach ((getCq s p f q).oldest + 1000 * (getCq s p f q).irqTime)))) ∧
  (∀ (s : State) (p v : Nat), mmioUp s p = true → (getSq s p 0 0).enable = false → 2 ≤ s.bt.stage → s.bt.stage < 5 →
    exec (.mmioRegWrite p 0 0x100 8 v) s =
      .next (setSq p 0 0 { (getSq s p 0 0) with base := 4096 * (v % 2 ^ 64 / 4096) } s)) ∧
  (∀ (s : State) (p v : Nat), mmioUp s p = true → s.bt.stage < 5 → (getSq s p 0 0).enable = true →
    exec (.mmioRegWrite p 0 0x100 8 v) s = .next (setSq p 0 0 (getSq s p 0 0) s)) ∧
  (∀ (s : State) (p offset v : Nat), mailboxUp s p = true → 0x11000 ≤ offset → offset < 0x15000 → offset % 4 = 0 →
    ∃ t, exec (.mmioRegWrite p 0 offset 4 v) s = .next t ∧
      (∀ k, k < 4 → (getMb t p).reqBuf.get? (offset - 0x11000 + k) = some (BitVec.ofNat 8 (v / 256 ^ k))) ∧
      (∀ a, a < offset - 0x11000 ∨ offset - 0x11000 + 4 ≤ a → (getMb t p).reqBuf.get? a = (getMb s p).reqBuf.get? a) ∧
      t.mem = s.mem) ∧
  (∀ (s : State) (p f offset w v : Nat), w ≠ 4 → w ≠ 8 →
    exec (.mmioRegWrite p f offset w v) s = .next s) ∧
  (∀ (s : State) (p f : Nat), mmioUp s p = true → f ≤ 512 →
    exec (.busMasterEnable p f false) s = .next (setFn s p f { getFn s p f with bme := false })) ∧
  (∀ (s : State) (p f : Nat), mmioUp s p = true → f ≤ 512 → f ≠ 0 → (getPort s p).spill = [] → (getFn s p f).pba = [] →
    ∃ t, exec (.busMasterEnable p f true) s = .next t ∧ (getFn t p f).bme = true ∧ t.mem = s.mem) ∧
  (∀ (s : State) (p : Nat), s.powered = true → p < 2 → (getPort s p).up = true → (getPort s p).sent = [] →
    exec (.hostLinkDown p 0) s =
      .next (raise 0x161 p 0 0 (setPort s p { (getPort s p) with up := false, sent := [], replay := [] }))) ∧
  (∀ (s : State) (p : Nat), p < 2 → (getPort s p).up = false → s.alive = true → s.bt.stage ≠ 0 →
    ∃ s1, s1 = raise 0x162 p 0 0 (setPort s p
        { (getPort s p) with
          up := true
          sent := (getPort s p).sent ++ (getPort s p).replay ++ (getPort s p).held
          replay := []
          held := [] }) ∧
      exec (.hostLinkUp p) s = .next (drainSpill p (drainReqRing p ((getPort s1 p).waiting.length + 1) s1))) ∧
  (∀ (s : State) (f tag addr : Nat) (data : List Byte) (n : Nat) (i : Item), mmioUp s 0 = true →
    (getPort s 0).sent = [.read f tag addr data.length] → s.ho.items = [(n, i)] → i.wait = .host tag →
    s.tr.withdrawals = [] →
    ∃ t, exec (.hostReadCompletion tag data) s = .next t ∧ (getPort t 0).sent = [] ∧
      t.ho.items = [(n, { i with wait := .none, data := i.data ++ data })] ∧ t.mem = s.mem)

/-! Items of the host's queues, and Carillon's scripts (chapters 11 and 20). -/

/-- Items that move bytes (R322, R323, R332). NOP completes with OK, and with INVALID_DESCRIPTOR where a reserved bit
is set; HOST_TO_POOL asks for a piece, writes what has come and ends after the last; POOL_TO_HOST reads the
range and writes host memory; POOL_ATOMIC gives the old value and writes the new; REGION_PUBLISH replaces a
record whose version is the expected one as one update, and gives the version it found where it is another.

Items on pages and tiers (R32, R47, R48, R50, R60, R517). Once every page of the range is translated,
PAGE_RELEASE makes each absent, PAGE_HINT gives each the hint, unless more would be pinned to HBM than
PIN_HBM_MAX_PCT allows, and SET_PROTECTION gives each the class; TIER_DRAIN joins the running drain, and is
refused in STANDBY. -/
def Obligations.TransferAndPageItemsComplete : Prop :=
  (∀ (n : Nat) (s : State) (i : Item), itemReady n 0x00 s = some i →
    widthsOk i.words [] = true →
    exec (.nop n) s = .next (endItem n Config.ok 0 0 (setItem n i s))) ∧
  (∀ (n : Nat) (s : State) (i : Item), itemReady n 0x00 s = some i →
    widthsOk i.words [] = false →
    exec (.nop n) s = .next (endItem n Config.invalidDescriptor 0 0 (setItem n i s))) ∧
  (∀ (n : Nat) (s : State) (i : Item) (s2 : State), itemReady n 0x01 s = some i →
    widthsOk i.words [56, 64, 31] = true →
    wordAt i.words 3 ≠ 0 →
    wordAt i.words 3 ≤ 0x40000000 →
    i.data = [] →
    i.prog < wordAt i.words 3 →
    hostRead n i ((wordAt i.words 2 + i.prog) % 2 ^ 64)
      (pieceRun (wordAt i.words 1 + i.prog) ((wordAt i.words 2 + i.prog) % 2 ^ 64) (wordAt i.words 3 - i.prog))
      (setItem n i s) = .ok () s2 →
    exec (.hostToPool n) s = .next s2) ∧
  (∀ (n : Nat) (s : State) (i : Item) (s2 : State), itemReady n 0x01 s = some i →
    widthsOk i.words [56, 64, 31] = true →
    wordAt i.words 3 ≠ 0 →
    wordAt i.words 3 ≤ 0x40000000 →
    i.data ≠ [] →
    wordAt i.words 3 ≤ i.prog + i.data.length →
    tryWrite n i.tenant (wordAt i.words 1 + i.prog) i.data (setItem n i s) = .ok () s2 →
    exec (.hostToPool n) s = .next (endItem n Config.ok 0 0
      (modItem n (fun j => { j with prog := j.prog + j.data.length, data := [] }) s2))) ∧
  (∀ (n : Nat) (s : State) (i : Item) (st : Nat) (s2 : State), itemReady n 0x01 s = some i →
    widthsOk i.words [56, 64, 31] = true →
    wordAt i.words 3 ≠ 0 →
    wordAt i.words 3 ≤ 0x40000000 →
    i.data ≠ [] →
    tryWrite n i.tenant (wordAt i.words 1 + i.prog) i.data (setItem n i s) = .bad st s2 →
    exec (.hostToPool n) s = .next (endItem n st 0 0 s2)) ∧
  (∀ (n : Nat) (s : State) (i : Item), itemReady n 0x02 s = some i →
    widthsOk i.words [56, 64, 31] = true →
    wordAt i.words 3 ≠ 0 →
    wordAt i.words 3 ≤ 0x40000000 →
    wordAt i.words 3 ≤ i.prog →
    exec (.poolToHost n) s = .next (endItem n Config.ok 0 0 (setItem n i s))) ∧
  (∀ (n : Nat) (s : State) (i : Item) (bytes : List Byte) (s2 s3 : State), itemReady n 0x02 s = some i →
    widthsOk i.words [56, 64, 31] = true →
    wordAt i.words 3 ≠ 0 →
    wordAt i.words 3 ≤ 0x40000000 →
    i.prog = 0 →
    pieceRun (wordAt i.words 1) (wordAt i.words 2 % 2 ^ 64) (wordAt i.words 3) = wordAt i.words 3 →
    tryRead n i.tenant (wordAt i.words 1) (wordAt i.words 3) (setItem n i s) = .ok bytes s2 →
    hostPut n i (wordAt i.words 2 % 2 ^ 64) bytes s2 = .ok () s3 →
    exec (.poolToHost n) s = .next (endItem n Config.ok 0 0 
      (modItem n (fun j => { j with prog := wordAt i.words 3 }) s3))) ∧
  (∀ (n : Nat) (s : State) (i : Item) (a k old : Nat) (line : List Byte) (s2 s3 : State), itemReady n 0x03 s = some i →
    widthsOk i.words [56, 64, 64, 6] = true →
    aopOk (wBits i.words 4 4 0) = true →
    wordAt i.words 1 % (if bitOf (wordAt i.words 4) 5 then 8 else 4) = 0 →
    tryLook n i.tenant (wordAt i.words 1) (if bitOf (wordAt i.words 4) 5 then 8 else 4) true (setItem n i s) = .ok [(a, k, 0)] s2 →
    intercepted s2 a = false →
    writeOk a (if bitOf (wordAt i.words 4) 5 then 8 else 4) i.tenant s2 = (s3, .ok) →
    atomOnLine (lineNow s3 (a / 64)) (wBits i.words 4 4 0) (bitOf (wordAt i.words 4) 5) (a % 64) (wordAt i.words 2)
      (wordAt i.words 3) = (old, line) →
    exec (.poolAtomic n) s = .next (endItem n Config.ok old 0 
      (writeRange (a / 64 * 64) line (markEffect n s3)))) ∧
  (∀ (n : Nat) (s : State) (i : Item), itemReady n 0x03 s = some i →
    widthsOk i.words [56, 64, 64, 6] = true →
    aopOk (wBits i.words 4 4 0) = true →
    wordAt i.words 1 % (if bitOf (wordAt i.words 4) 5 then 8 else 4) ≠ 0 →
    exec (.poolAtomic n) s = .next (endItem n Config.invalidDescriptor 0 0 (setItem n i s))) ∧
  (∀ (n : Nat) (s : State) (i : Item) (ps : List (Nat × Nat × Nat)) (old : List Byte) (s2 s3 : State), itemReady n 0x04 s = some i →
    widthsOk i.words [56, 64, 64, 64, 64, 64] = true →
    wordAt i.words 1 % 32 = 0 →
    wordAt i.words 3 ≠ wordAt i.words 2 →
    tryLook n i.tenant (wordAt i.words 1) 32 true (setItem n i s) = .ok ps s2 →
    readParts ps s2 = .ok old s3 →
    leField old 0 8 ≠ wordAt i.words 2 →
    exec (.regionPublish n) s = .next (endItem n Config.staleVersion (leField old 0 8) 0 s3)) ∧
  (∀ (n : Nat) (s : State) (i : Item) (ps : List (Nat × Nat × Nat)) (old : List Byte) (s2 s3 s4 : State), itemReady n 0x04 s = some i →
    widthsOk i.words [56, 64, 64, 64, 64, 64] = true →
    wordAt i.words 1 % 32 = 0 →
    wordAt i.words 3 ≠ wordAt i.words 2 →
    tryLook n i.tenant (wordAt i.words 1) 32 true (setItem n i s) = .ok ps s2 →
    readParts ps s2 = .ok old s3 →
    leField old 0 8 = wordAt i.words 2 →
    writeParts n i.tenant ps (leBytes 8 (wordAt i.words 3) ++ leBytes 8 (wordAt i.words 4) ++ leBytes 8 (wordAt i.words 5) ++
      leBytes 8 (wordAt i.words 6)) s3 = .ok () s4 →
    exec (.regionPublish n) s = .next (endItem n Config.ok (wordAt i.words 3) 0 s4)) ∧
  (∀ (n : Nat) (s : State) (i : Item) (pages : List Nat) (t : State), itemReady n 0x08 s = some i →
    widthsOk i.words [56, 35] = true →
    pageArgsOk i.words = true →
    itemPages n i (setItem n i s) = some (pages, t) →
    exec (.pageRelease n) s = .next (endItem n Config.ok 0 0 
      (pages.foldl (fun s p => releasePage p false s) (markEffect n t)))) ∧
  (∀ (n : Nat) (s : State) (i : Item) (pages : List Nat) (t : State), itemReady n 0x09 s = some i →
    widthsOk i.words [56, 35, 4] = true →
    pageArgsOk i.words = true →
    itemPages n i (setItem n i s) = some (pages, t) →
    wBits i.words 3 1 0 ≠ 1 →
    (if wBits i.words 3 1 0 = 2 then wBits i.words 3 3 2 ≠ 0 else wBits i.words 3 3 2 = 0) →
    exec (.pageHint n) s = .next (endItem n Config.ok 0 0 (pages.eraseDups.foldl (fun s p =>
      setEntry p { entryOf s p with hint := wBits i.words 3 1 0, hintTier := wBits i.words 3 3 2 } s) t))) ∧
  (∀ (n : Nat) (s : State) (i : Item) (pages : List Nat) (t : State), itemReady n 0x09 s = some i →
    widthsOk i.words [56, 35, 4] = true →
    pageArgsOk i.words = true →
    itemPages n i (setItem n i s) = some (pages, t) →
    wBits i.words 3 1 0 = 1 →
    wBits i.words 3 3 2 = 1 →
    pinnedHbm t < pinnedHbm (pages.eraseDups.foldl (fun s p =>
      setEntry p { entryOf s p with hint := wBits i.words 3 1 0, hintTier := wBits i.words 3 3 2 } s) t) →
    Par.pinHbmMaxPct t * t.ti.hbmSlots < 100 * pinnedHbm (pages.eraseDups.foldl (fun s p =>
      setEntry p { entryOf s p with hint := wBits i.words 3 1 0, hintTier := wBits i.words 3 3 2 } s) t) →
    exec (.pageHint n) s = .next (endItem n Config.noSpace 0 0 t)) ∧
  (∀ (n : Nat) (s : State) (i : Item), itemReady n 0x09 s = some i →
    widthsOk i.words [56, 35, 4] = true →
    pageArgsOk i.words = true →
    wBits i.words 3 1 0 = 0 →
    wBits i.words 3 3 2 ≠ 0 →
    exec (.pageHint n) s = .next (endItem n Config.invalidDescriptor 0 0 (setItem n i s))) ∧
  (∀ (n : Nat) (s : State) (i : Item) (pages : List Nat) (t : State), itemReady n 0x0A s = some i →
    widthsOk i.words [56, 35, 2] = true →
    pageArgsOk i.words = true →
    itemPages n i (setItem n i s) = some (pages, t) →
    wordAt i.words 3 < 3 →
    exec (.setProtection n) s = .next (endItem n Config.ok 0 0 
      (pages.foldl (fun s p => setEntry p { entryOf s p with prot := wordAt i.words 3 } s) t))) ∧
  (∀ (n : Nat) (s : State) (i : Item), itemReady n 0x0A s = some i →
    wordAt i.words 3 = 3 →
    exec (.setProtection n) s = .next (endItem n Config.invalidDescriptor 0 0 (setItem n i s))) ∧
  (∀ (n : Nat) (s : State) (i : Item), itemReady n 0x80 s = some i →
    widthsOk i.words [] = true →
    standby (setItem n i s) = false →
    draining (setItem n i s) = true →
    exec (.tierDrain n) s = .next (startPlanned 16 (modItem n (fun i => { i with wait := .engine })
      ((setItem n i s).setTi { s.ti with drainItems := s.ti.drainItems ++ [n], plan := [] })))) ∧
  (∀ (n : Nat) (s : State) (i : Item), itemReady n 0x80 s = some i →
    widthsOk i.words [] = true →
    standby (setItem n i s) = true →
    exec (.tierDrain n) s = .next (endItem n Config.accessDenied 0 0 (setItem n i s)))

/-- Items on programs (R146, R150–R154, R249). LOAD_PROGRAM keeps a verified image under the lowest free handle, and
records why it refuses another; UNLOAD_PROGRAM marks the handle, whose storage goes when nothing uses it;
RUN_PROGRAM puts the invocation in a tabor's queue; PROG_ATTACH and PROG_DETACH set a window's program; COPY
posts its descriptor.

Trigger scripts (R534–R537). A period that has elapsed queues a firing; the queue holds 64 firings, and one more is
lost and sets TRIGGER_LOST; the next firing runs its slot's script; OD RD and OD WR reach the dictionary as a
session does, and OD EVENT raises SCRIPT_EVENT. -/
def Obligations.ProgramItemsAndScripts : Prop :=
  (∀ (n : Nat) (s : State) (i : Item) (bytes : List Byte) (s2 : State) (reason index : Nat), itemReady n 0x10 s = some i →
    widthsOk i.words [56, 32] = true →
    wordAt i.words 1 % 64 = 0 →
    tryRead n i.tenant (wordAt i.words 1) (wordAt i.words 2) (setItem n i s) = .ok bytes s2 →
    verifyImage i.tenant (Par.fuelMax s2) bytes = .error (reason, index) →
    exec (.loadProgram n) s = .next (endItem n Config.invalidDescriptor 0 0 
      (s2.setOd { s2.od with lastVerify := s2.od.lastVerify.set i.tenant (reason + 256 * index) }))) ∧
  (∀ (n : Nat) (s : State) (i : Item) (bytes : List Byte) (s2 : State) (im : Image), itemReady n 0x10 s = some i →
    widthsOk i.words [56, 32] = true →
    wordAt i.words 1 % 64 = 0 →
    tryRead n i.tenant (wordAt i.words 1) (wordAt i.words 2) (setItem n i s) = .ok bytes s2 →
    verifyImage i.tenant (Par.fuelMax s2) bytes = .ok im →
    im.profile ≠ 2 →
    s2.co.images = [] →
    im.granules ≤ 16384 →
    im.granules ≤ Par.tenantStoreKib s2 →
    exec (.loadProgram n) s = .next (endItem n Config.ok 1 0 (s2.setCo { s2.co with images := [(1, im)] }))) ∧
  (∀ (n : Nat) (s : State) (i : Item) (im : Image), itemReady n 0x11 s = some i →
    widthsOk i.words [16] = true →
    imageOf s i.tenant (wordAt i.words 1) = some im →
    exec (.unloadProgram n) s = .next (purgeImages (endItem n Config.ok 0 0
      ((setItem n i s).setCo { s.co with images := s.co.images.modify (wordAt i.words 1) fun im => { im with unloading := true } })))) ∧
  (∀ (n : Nat) (s : State) (i : Item), itemReady n 0x11 s = some i →
    imageOf s i.tenant (wordAt i.words 1) = none →
    exec (.unloadProgram n) s = .next (endItem n Config.invalidDescriptor 0 0 (setItem n i s))) ∧
  (∀ (n : Nat) (s : State) (i : Item) (im : Image) (t : Nat), itemReady n 0x12 s = some i →
    widthsOk i.words [24, 56, 32] = true →
    wBits i.words 1 17 16 = 1 →
    wordAt i.words 3 ≠ 0 →
    wordAt i.words 3 ≤ Par.fuelMax s →
    imageOf s i.tenant (wBits i.words 1 15 0) = some im →
    im.profile = 0 →
    im.kind = 0 →
    leastLoaded (setItem n i s) (kitTabors (setItem n i s) (wBits i.words 1 23 18)) = some t →
    exec (.runProgram n) s = .next (let s1 := modItem n (fun i => { i with wait := .engine }) (setItem n i s)
             setTab t { (getTab (setItem n i s) t) with queue := (getTab (setItem n i s) t).queue ++
               [{ item := n, tenant := i.tenant, handle := wBits i.words 1 15 0, fuel := wordAt i.words 3,
                  args := slice i.words 8 8 }] } s1)) ∧
  (∀ (n : Nat) (s : State) (i : Item), itemReady n 0x12 s = some i →
    wordAt i.words 3 = 0 →
    exec (.runProgram n) s = .next (endItem n Config.invalidDescriptor 0 0 (setItem n i s))) ∧
  (∀ (n : Nat) (s : State) (i : Item) (im : Image) (job : Nat), itemReady n 0x13 s = some i →
    widthsOk i.words [16, 16] = true →
    Par.galePrograms s ≠ 0 →
    imageOf s i.tenant (wordAt i.words 1) = some im →
    im.profile = 1 →
    jobOf (setItem n i s) i.tenant = some job →
    s.co.attach.length < 256 →
    exec (.progAttach n) s = .next (endItem n Config.ok 0 0
      ((setItem n i s).setCo { s.co with attach := s.co.attach.set (rwtKey job (wordAt i.words 2)) (wordAt i.words 1) }))) ∧
  (∀ (n : Nat) (s : State) (i : Item) (job : Nat), itemReady n 0x14 s = some i →
    widthsOk i.words [0, 16] = true →
    jobOf (setItem n i s) i.tenant = some job →
    exec (.progDetach n) s = .next (endItem n Config.ok 0 0
      ((setItem n i s).setCo { s.co with attach := s.co.attach.erase (rwtKey job (wordAt i.words 2)) }))) ∧
  (∀ (n : Nat) (s : State) (i : Item) (m : Nat) (s2 : State), itemReady n 0x1A s = some i →
    widthsOk i.words [] = true →
    postCopy (.item n) i.tenant (slice i.words 8 8) (setItem n i s) = .ok (m, s2) →
    exec (.copyOp n) s = .next (modItem n (fun i => { i with wait := .engine }) (markEffect n s2))) ∧
  (∀ (n : Nat) (s : State) (i : Item) (st : Nat), itemReady n 0x1A s = some i →
    widthsOk i.words [] = true →
    postCopy (.item n) i.tenant (slice i.words 8 8) (setItem n i s) = .error st →
    exec (.copyOp n) s = .next (endItem n st 0 0 (setItem n i s))) ∧
  (∀ (s : State) (slot due : Nat), s.od.periodDue.get? slot = some due → carillonUp s = true → slotRuns s slot = true →
    Par.scriptTrigger s slot = 3 →
    ∃ t, exec (.triggerPeriod slot) s = .next (enqueueFiring ⟨slot, 3, 0, 0, 0⟩ t) ∧
      t.od.periodDue = s.od.periodDue.set slot (due + 1000000 * Par.scriptTriggerArg s slot) ∧
      (s.pw.refclk = true → due ≤ t.now) ∧ t.mem = s.mem ∧ t.od.firings = s.od.firings) ∧
  (∀ (s : State) (f : Firing), s.od.firings.length < 64 →
    enqueueFiring f s = s.setOd { s.od with firings := s.od.firings ++ [f] }) ∧
  (∀ (s : State) (f : Firing), 64 ≤ s.od.firings.length →
    enqueueFiring f s = s.setOd { s.od with triggerLost := true }) ∧
  (∀ (s : State) (f : Firing) (rest : List Firing) (im : Image), s.od.firings = f :: rest → carillonUp s = true →
    s.od.script = none → slotRuns s f.slot = true →
    verifyImage 0 (2 ^ 32) (s.od.oct.getD ((0x0810 + f.slot) * 256 + 1) []) = .ok im →
    exec .scriptRun s = .next (s.setOd { s.od with firings := rest, script := some (f.slot, firingCtx f im s.now) })) ∧
  (∀ (s : State) (f : Firing) (rest : List Firing), s.od.firings = f :: rest → carillonUp s = true →
    s.od.script = none → slotRuns s f.slot = false →
    exec .scriptRun s = .next (s.setOd { s.od with firings := rest })) ∧
  (∀ (p : Proc) (w : BitVec 32) (s : State) (c : Ctx) (v : Nat), issues .odRd p w s = some c → scriptRead s (srcA w c).toNat = some v →
    exec (.odRd p w) s = putsX p w c (BitVec.ofNat 64 v) s) ∧
  (∀ (p : Proc) (w : BitVec 32) (s : State) (c : Ctx), issues .odRd p w s = some c → scriptRead s (srcA w c).toNat = none →
    exec (.odRd p w) s = .next (failProc p c Config.invalidDescriptor s)) ∧
  (∀ (p : Proc) (w : BitVec 32) (s : State) (c : Ctx) (t : State), issues .odWr p w s = some c → scriptWrite s (srcA w c).toNat (srcB w c).toNat = some t →
    exec (.odWr p w) s = .next (finishOp p c t)) ∧
  (∀ (p : Proc) (w : BitVec 32) (s : State) (c : Ctx), issues .odEvent p w s = some c →
    exec (.odEvent p w) s = .next (finishOp p c (raise 0x181 0 ((srcA w c).toNat % 65536) 0 s)))

/-! Rounds (chapter 12). -/

/-- The declare, the cancel and the contributions of a round (R335, R341–R350). A declare that follows the rules and finds its pages, its inbox in one run, a free round
and working memory opens the round; one that breaks the rules is INVALID_DESCRIPTOR. A cancel ends the open round with
OUTCOME_UNKNOWN. A contributed line goes to its place in the inbox; the inbox accepts a whole line once and
sends its pieces, and refuses it a second time; a piece is added to its unit.

The apply and the end of a round (R350–R362): with the last piece a unit is applied; a block of two poisoned units is not written, and the values of both units
of any other are quantised and written with their scale; a unit whose writes have been performed is done; with every unit done the flags go; a
held inbox becomes ordinary memory; a stalled round is reported with what it lacks. -/
def Obligations.RoundsGatherAndApply : Prop :=
  (∀ (n : Nat) (s s2 s3 t : State) (i : Item) (ps : List (List (Nat × Nat × Nat))) (ents : List Nat) (tbl : List Byte)
      (inbox : Nat) (table : List (Nat × Nat × Nat × Nat)) (r : Round), itemReady n 0x20 s = some i →
    bitOf (wordAt i.words 1) 16 = false → wBits i.words 1 18 17 ≠ 3 → declareOk i.words = true →
    openRound s i.tenant (wBits i.words 1 15 0) = none →
    lookAll n i.tenant (roundRanges i.words) (setItem n i s) = .ok (ps, ents) s2 →
    readParts (ps.getD 1 []) s2 = .ok tbl s3 → oneRun (ps.getD 0 []) = some inbox →
    contribTable (wBits i.words 1 47 35) tbl = some table → s3.sv.rounds = [] → 0 < Par.roundsMax s3 →
    0 < Par.roundsPerTenant s3 → workNeed i.words ≤ freeSlots s3 1 →
    100 * (s3.ti.workSlots + workNeed i.words) ≤ Par.workMaxPct s3 * s3.ti.hbmSlots →
    r = { tenant := i.tenant, id := wBits i.words 1 15 0, item := n, words := i.words, table := table, inbox := inbox,
          inboxLines := wBits i.words 1 47 35 * slotLines i.words, work := workNeed i.words, ptcs := ents.eraseDups,
          stallFrom := s3.now } →
    t = ptcAdmitAll ents.eraseDups (s3.setTi { s3.ti with workSlots := s3.ti.workSlots + workNeed i.words }) →
    exec (.roundDeclare n) s = .next (modItem n (fun i => { i with wait := .engine }) (t.setSv { t.sv with
      rounds := [(t.sv.nextRound, r)]
      nextRound := t.sv.nextRound + 1 }))) ∧
  (∀ (n : Nat) (s : State) (i : Item), itemReady n 0x20 s = some i → bitOf (wordAt i.words 1) 16 = false →
    declareOk i.words = false →
    exec (.roundDeclare n) s = .next (endItem n Config.invalidDescriptor 0 0 (setItem n i s))) ∧
  (∀ (n k : Nat) (s : State) (i : Item) (r : Round), itemReady n 0x20 s = some i → bitOf (wordAt i.words 1) 16 = true →
    wordAt i.words 1 < 2 ^ 17 → (List.range 14).all (fun k => wordAt i.words (k + 2) = 0) = true →
    openRound s i.tenant (wBits i.words 1 15 0) = some (k, r) →
    exec (.roundCancel n) s = .next (endItem n Config.ok 0 0 (endRound k Config.outcomeUnknown (setItem n i s)))) ∧
  (∀ (n : Nat) (s : State) (i : Item), itemReady n 0x20 s = some i → bitOf (wordAt i.words 1) 16 = true →
    wordAt i.words 1 < 2 ^ 17 → (List.range 14).all (fun k => wordAt i.words (k + 2) = 0) = true →
    openRound s i.tenant (wBits i.words 1 15 0) = none →
    exec (.roundCancel n) s = .next (endItem n Config.invalidDescriptor 0 0 (setItem n i s))) ∧
  (∀ (n k : Nat) (s t : State) (i : Item) (r : Round) (b : List Byte), itemReady n 0x21 s = some i →
    openRound s i.tenant (wBits i.words 1 15 0) = some (k, r) → widthsOk i.words [29, 64, 32, 32] = true →
    (List.range 7).all (fun k => wordAt i.words (9 + k) = 0) = true → wordAt i.words 8 = 0 →
    wBits i.words 1 27 16 < r.n → wordAt i.words 2 % 64 = 0 → wordAt i.words 4 = 1 →
    wordAt i.words 3 + 1 ≤ slotLines r.words → bitOf (wordAt i.words 1) 28 = false → i.prog = 0 →
    tryRead n i.tenant (wordAt i.words 2) 64 (setItem n i s) = .ok b t →
    exec (.roundContribute n) s = .next (settleContribute n (handLine n
      (r.inbox + 64 * wBits i.words 1 27 16 * slotLines r.words + 64 * wordAt i.words 3) b false t))) ∧
  (∀ (w k : Nat) (s : State) (lw : LineWrite) (r : Round), s.powered = true → s.sv.writes.get? w = some lw →
    inboxOf s lw.pha = some k → s.sv.rounds.get? k = some r → r.ended = none → lw.whole = true →
    r.bitmap.mem ((lw.pha - r.inbox) / 64) = false →
    exec (.inboxLineWrite w) s = .next (modRound k (fun _ => { r with
        bitmap := r.bitmap.add ((lw.pha - r.inbox) / 64)
        pieces := (linePieces r lw w).zipIdx.foldl (fun (m : FMap Piece) (p, i) => m.set (r.nextPiece + i) p) r.pieces
        nextPiece := r.nextPiece + (linePieces r lw w).length
        writes := r.writes.set w ((linePieces r lw w).length, lw.writer)
        stallFrom := if r.stalled then s.now else r.stallFrom })
      (s.setSv { s.sv with writes := s.sv.writes.erase w }))) ∧
  (∀ (w k : Nat) (s : State) (lw : LineWrite) (r : Round), s.powered = true → s.sv.writes.get? w = some lw →
    inboxOf s lw.pha = some k → s.sv.rounds.get? k = some r → r.ended = none →
    lw.whole = false ∨ r.bitmap.mem ((lw.pha - r.inbox) / 64) = true →
    exec (.inboxLineWrite w) s = .next (writerDone lw.writer Config.invalidDescriptor
      (s.setSv { s.sv with writes := s.sv.writes.erase w }))) ∧
  (∀ (k x m : Nat) (s : State) (r : Round) (p : Piece) (wr : Writer), s.powered = true →
    s.sv.rounds.get? k = some r → r.pieces.get? x = some p → r.ended = none →
    r.writes.get? p.write = some (m + 2, wr) → (r.units.getD p.unit {}).got + 1 < r.n →
    exec (.pieceAccumulate k x) s = .next (modRound k (fun r => { r with
      units := r.units.set p.unit (accumulate (bitOf (wordAt r.words 1) 31) (r.units.getD p.unit {}) p)
      pieces := r.pieces.erase x
      writes := r.writes.set p.write (m + 1, wr) }) s)) ∧
  (∀ (k x m : Nat) (s t : State) (r : Round) (p : Piece) (wr : Writer) (ru : RUnit) (skipped poisoned : Bool),
    s.powered = true → s.sv.rounds.get? k = some r → r.pieces.get? x = some p → r.ended = none →
    bitOf (wordAt r.words 1) 31 = false → r.writes.get? p.write = some (m + 2, wr) →
    ru = accumulate false (r.units.getD p.unit {}) p → r.n ≤ ru.got →
    applyUnit k r p.unit ru.acc s = .ok (skipped, poisoned) t →
    exec (.pieceAccumulate k x) s = .next (modRound k (fun q => { q with
      units := q.units.set p.unit { ru with phase := 1, skipped := skipped, poisoned := poisoned }
      pieces := q.pieces.erase x
      writes := q.writes.set p.write (m + 1, wr) }) t)) ∧
  (∀ (k no b : Nat) (s : State) (r : Round) (a : RArr) (v0 v1 : List Nat), s.powered = true →
    s.sv.rounds.get? k = some r → r.ended = none →
    (stateArrs r.words ++ publishArr r.words).find? (fun a => a.no = no && a.mx) = some a →
    r.halves.get? (2 ^ 40 * no + b) = some [(0, v0), (1, v1)] →
    (r.units.get? (2 * b)).any (fun x => x.poisoned) = true → (r.units.get? (2 * b + 1)).any (fun x => x.poisoned) = true →
    exec (.mxBlockQuantise k no b) s =
      .next (modRound k (fun r => { r with halves := r.halves.erase (2 ^ 40 * no + b) }) s)) ∧
  (∀ (k no b : Nat) (s t : State) (r : Round) (a : RArr) (v0 v1 : List Nat) (eps sps : List (Nat × Nat × Nat)),
    s.powered = true → s.sv.rounds.get? k = some r → r.ended = none →
    (stateArrs r.words ++ publishArr r.words).find? (fun a => a.no = no && a.mx) = some a →
    r.halves.get? (2 ^ 40 * no + b) = some [(0, v0), (1, v1)] →
    (r.units.get? (2 * b)).any (fun x => x.poisoned) = false →
    eps = heldRange s r.ptcs r.tenant (a.pva + b * 4 * a.elt.width) (4 * a.elt.width) →
    sps = heldRange s r.ptcs r.tenant (a.scale + b) 1 →
    gateParts (eps ++ sps) r.tenant s = (t, .ok) → bitOf (wordAt r.words 1) (if no = 2 then 30 else 25) = false →
    ∃ q, q = mxQuantise a.elt .rne (fun i => srValue [] ((eps.headD (0, 0, 0)).1 % 64 * 8 / a.elt.width + i))
        ((v0 ++ v1).map (decodeF Fmt.fp32)) ∧
      exec (.mxBlockQuantise k no b) s =
        .next (modRound k (fun r => { r with halves := r.halves.erase (2 ^ 40 * no + b) })
          (putParts sps [BitVec.ofNat 8 q.1] (putParts eps (leBytes (4 * a.elt.width) (packNat a.elt.width q.2)) t)))) ∧
  (∀ (k u : Nat) (s : State) (r : Round) (ru : RUnit), s.powered = true → s.sv.rounds.get? k = some r →
    r.units.get? u = some ru → ru.phase = 1 → r.halves = [] →
    exec (.unitDone k u) s =
      .next (modRound k (fun r => { r with units := r.units.set u { ru with phase := 2 } }) s)) ∧
  (∀ (k u : Nat) (s : State) (r : Round) (ru : RUnit), s.powered = true → s.sv.rounds.get? k = some r →
    r.units.get? u = some ru → ru.phase ≠ 1 → exec (.unitDone k u) s = .next s) ∧
  (∀ (k : Nat) (s : State) (r : Round), s.powered = true → s.sv.rounds.get? k = some r → r.ended = none →
    (r.units.count fun _ u => u.phase = 2) = r.units_ → r.units.any (fun kv => kv.2.poisoned) = false →
    exec (.roundComplete k) s = .next (settleRound k (sendFlags k (r.table.length + 1)
      (modRound k (fun r => { r with ended := some Config.ok }) s)))) ∧
  (∀ (k : Nat) (s : State) (r : Round), s.powered = true → s.sv.rounds.get? k = some r → r.ended = none →
    (r.units.count fun _ u => u.phase = 2) ≠ r.units_ → exec (.roundComplete k) s = .next s) ∧
  (∀ (k : Nat) (s : State) (r : Round), s.powered = true → s.sv.rounds.get? k = some r → r.finished = true →
    exec (.inboxHoldExpiry k) s =
      .next ((s.reach r.holdUntil).setSv { s.sv with rounds := s.sv.rounds.erase k })) ∧
  (∀ (k : Nat) (s : State) (r : Round), s.powered = true → s.pw.refclk = true → s.sv.rounds.get? k = some r →
    r.ended = none →
    ∃ t, exec (.roundStalled k) s = .next t ∧ t.rc.newest = s.rc.newest + 1 ∧
      r.stallFrom + 1000000000 * Par.stallS s ≤ t.now ∧
      t.sv.rounds.get? k = some { r with stallFrom := t.now, stalled := true } ∧ t.mem = s.mem)

/-- Embedding tables (chapter 13). TABLE_CREATE makes a table with VERSION 1 (R370); TABLE_REPLACE with the table's
version installs the next one, and with another is STALE_VERSION (R371); TABLE_DESTROY refuses further items (R373). A look-up pins the
descriptor and reads its indices, then its rows, then writes its bags (R374–R380): a row that is not present gives the default, one
whose SEQ is even its values, one that is poisoned makes its bag poisoned. An update writes its rows one at a
time (R383–R386). -/
def Obligations.EmbeddingTablesServe : Prop :=
  (∀ (n : Nat) (s : State) (i : Item) (d : Desc), itemReady n 0x28 s = some i → descOf i.words 1 = some d →
    wordAt i.words 8 = 0 → tableOf s i.tenant (wBits i.words 1 15 0) = none → s.sv.tables.length < Par.tablesMax s →
    s.sv.tables.count (fun _ t => t.tenant = i.tenant) < Par.tablesPerTenant s →
    exec (.tableCreate n) s = .next (endItem n Config.ok 1 0 ((setItem n i s).setSv { s.sv with
      nextTable := s.sv.nextTable + 1
      tables := s.sv.tables.set s.sv.nextTable { tenant := i.tenant, id := wBits i.words 1 15 0, cur := d } }))) ∧
  (∀ (n : Nat) (s : State) (i : Item), itemReady n 0x28 s = some i → descOf i.words 1 = none →
    exec (.tableCreate n) s = .next (endItem n Config.invalidDescriptor 0 0 (setItem n i s))) ∧
  (∀ (n k : Nat) (s : State) (i : Item) (t : Table) (d : Desc), itemReady n 0x29 s = some i →
    openTable s i.tenant (wBits i.words 1 15 0) = some (k, t) → descOf i.words (t.cur.version + 1) = some d →
    wordAt i.words 8 = t.cur.version →
    exec (.tableReplace n) s = .next (settleTable k (modItem n (fun i => { i with wait := .engine })
      (setTable k { t with cur := d, replacing := t.replacing ++ [(n, d.version)] } (setItem n i s))))) ∧
  (∀ (n k : Nat) (s : State) (i : Item) (t : Table) (d : Desc), itemReady n 0x29 s = some i →
    openTable s i.tenant (wBits i.words 1 15 0) = some (k, t) → descOf i.words (t.cur.version + 1) = some d →
    wordAt i.words 8 ≠ t.cur.version →
    exec (.tableReplace n) s = .next (endItem n Config.staleVersion t.cur.version 0 (setItem n i s))) ∧
  (∀ (k m : Nat) (s : State) (t : Table), s.powered = true → s.sv.tables.get? k = some t → livePins s t = [] →
    t.replacing = [] → t.destroying = some m →
    exec (.tableUnpinned k) s =
      .next (endItem m Config.ok 0 0 (s.setSv { s.sv with tables := s.sv.tables.erase k }))) ∧
  (∀ (k m v : Nat) (s : State) (t : Table), s.powered = true → s.sv.tables.get? k = some t → livePins s t = [] →
    t.replacing = [(m, v)] → t.destroying = none →
    exec (.tableUnpinned k) s =
      .next (setTable k { t with pins := [], replacing := [] } (endItem m Config.ok v 0 s))) ∧
  (∀ (n k : Nat) (s : State) (i : Item) (t : Table), itemReady n 0x2C s = some i →
    openTable s i.tenant (wordAt i.words 1) = some (k, t) → widthsOk i.words [16] = true →
    exec (.tableDestroy n) s = .next (settleTable k (setTable k { t with destroying := some n }
      (modItem n (fun i => { i with wait := .engine }) (setItem n i s))))) ∧
  (∀ (n k : Nat) (s u v : State) (i : Item) (t : Table), itemReady n 0x2A s = some i → getLookup s n = none →
    pinned s n = none → openTable s i.tenant (wBits i.words 1 15 0) = some (k, t) →
    lookupOk i.words (destOf i.words (wBits i.words 1 21 20) (wordAt i.words 5) (bitOf (wordAt i.words 1) 22)) = true →
    s.sv.lookups = [] →
    u = modItem n (fun i => { i with r1 := 2 ^ 32 * (t.cur.version % 2 ^ 32) })
      (setTable k { t with pins := (livePins (setItem n i s) t).set n t.cur } (setItem n i s)) →
    startLookup n i t.cur u = .ok () v →
    exec (.embLookup n) s = .next v) ∧
  (∀ (n : Nat) (s u : State) (i : Item) (l : Lookup), itemReady n 0x2A s = some i → getLookup s n = some l →
    l.todo = [] →
    writeBags n i l (destOf i.words (wBits i.words 1 21 20) (wordAt i.words 5) (bitOf (wordAt i.words 1) 22))
      (l.sizes.length + 1) i.prog (setItem n i s) = .ok () u →
    exec (.embLookup n) s = .next (settleOut n (if l.bad.isEmpty then Config.ok else Config.poisoned)
      (l.defaulted + 2 ^ 32 * l.invalid) (l.bad.length + 2 ^ 32 * (l.desc.version % 2 ^ 32)) u)) ∧
  (∀ (n p bag row : Nat) (wt : Option Nat) (s t : State) (i : Item) (l : Lookup) (b : List Byte), s.alive = true →
    s.rc.warmStep = 0 → getItem? s n = some i → i.opcode = 0x2A → i.ended = none → i.wait = .none →
    getLookup s n = some l → l.todo.mem p = true → l.wait.mem p = false → l.idx.getD p (0, 0, none) = (bag, row, wt) →
    row < l.desc.rows →
    softRead n i.tenant (l.desc.rowsPva + row * l.desc.stride) l.desc.stride 1 s = .ok [some b] t →
    ((rowVal l.desc b).seq % 2 = 0 → (rowVal l.desc b).present = true →
      exec (.rowRead n p) s = .next (poolRow n p l (dequant (rowVal l.desc b)) t)) ∧
    ((rowVal l.desc b).seq % 2 = 0 → (rowVal l.desc b).present = false → l.desc.rowMode = false →
      exec (.rowRead n p) s = .next (poolRow n p { l with defaulted := l.defaulted + 1 }
        (List.replicate l.desc.d 0) t)) ∧
    ((rowVal l.desc b).seq % 2 = 1 →
      exec (.rowRead n p) s = .next (setLookup n { l with wait := l.wait.add p } t))) ∧
  (∀ (n p bag row : Nat) (wt : Option Nat) (s t : State) (i : Item) (l : Lookup) (b : List Byte), s.alive = true →
    s.rc.warmStep = 0 → getItem? s n = some i → i.opcode = 0x2A → i.ended = none → i.wait = .none →
    getLookup s n = some l → l.todo.mem p = true → l.wait.mem p = true → l.idx.getD p (0, 0, none) = (bag, row, wt) →
    row < l.desc.rows → (rowVal l.desc b).present = true →
    softRead n i.tenant (l.desc.rowsPva + row * l.desc.stride) l.desc.stride 1 s = .ok [some b] t →
    exec (.rowUpdateEndWait n p) s = .next (poolRow n p l (dequant (rowVal l.desc b)) t)) ∧
  (∀ (n k : Nat) (s t1 t2 t3 : State) (i j : Item) (t : Table) (b1 b2 : List Byte), itemReady n 0x2B s = some i →
    pinned s n = none → openTable s i.tenant (wBits i.words 1 15 0) = some (k, t) → updateOk i.words = true →
    wordAt i.words 8 = 0 → i.prog = 0 → wBits i.words 1 52 32 = 1 → wBits i.words 1 17 16 ≠ 3 →
    bitOf (wordAt i.words 1) 19 = false →
    tryRead n i.tenant (wordAt i.words 2) 4
      (setTable k { t with pins := (livePins (setItem n i s) t).set n t.cur } (setItem n i s)) = .ok b1 t1 →
    leNat b1 < t.cur.rows → tryRead n i.tenant (wordAt i.words 3) (t.cur.d * 4) t1 = .ok b2 t2 →
    updateRow n i t.cur (leNat b1) (eltCodes 32 t.cur.d b2) t2 = .ok 1 t3 → getItem? t3 n = some j → j.r1 = 0 →
    exec (.embUpdate n) s = .next (endItem n Config.ok 0 0
      (modItem n (fun i => { i with prog := 1, r0 := i.r0 + 1 }) t3)))

/-- Squall (chapter 14). INDEX_CREATE makes an index (R389, R390); an INSERT that takes its turn numbers and places its
vectors (R393); DELETE stamps the items that it names and that have no stamp (R397); EPOCH_PUBLISH waits for the items of the pending epoch, and
then the epoch rises (R395); the automatic publish comes every AUTO_PUBLISH_MS; a SEARCH pins the epoch, runs its queries and ends with OK, SHORT or
POISONED (R396, R398); COMPACT frees what no query can see (R406); INDEX_DESTROY gives up the references (R392). -/
def Obligations.SquallServes : Prop :=
  (∀ (n : Nat) (s u : State) (i : Item) (ps : List (List (Nat × Nat × Nat))) (ents : List Nat), itemReady n 0x30 s = some i →
    indexOk i.words = true → wBits i.words 1 18 17 ≠ 3 → indexOf s i.tenant (wBits i.words 1 15 0) = none →
    s.sv.indexes.length < Par.indexesMax s →
    s.sv.indexes.count (fun _ x => x.tenant = i.tenant) < Par.indexesPerTenant s → bitOf (wordAt i.words 1) 16 = true →
    lookAll n i.tenant [(wordAt i.words 5, 0x200000 * wordAt i.words 6, true)] (setItem n i s) = .ok (ps, ents) u →
    exec (.indexCreate n) s = .next (endItem n Config.ok 0 0 (setIndex u.sv.nextIndex
      { tenant := i.tenant, id := wBits i.words 1 15 0, words := i.words, ptcs := ents.eraseDups }
      (ptcAdmitAll ents.eraseDups (u.setSv { u.sv with nextIndex := u.sv.nextIndex + 1 }))))) ∧
  (∀ (n : Nat) (s : State) (i : Item), itemReady n 0x30 s = some i → indexOk i.words = false →
    exec (.indexCreate n) s = .next (endItem n Config.invalidDescriptor 0 0 (setItem n i s))) ∧
  (∀ (n k : Nat) (s t u : State) (i : Item) (x y : Index), indexTakes n 0x32 s = some (i, k, x) → i.regs = [] → i.prog = 0 →
    (∀ kv ∈ s.ho.items, kv.1 = n) → insertOk i.words x = true → wBits i.words 1 32 16 = 1 →
    t = modItem n (fun i => { i with r0 := x.next, regs := i.regs.set 6 1 }) (stamp_ k n (admitted n (setItem n i s))) →
    t.sv.indexes.get? k = some y → insertOne n i k 0 y t = .ok () u →
    exec (.insert n) s = .next (endItem n Config.ok 0 0 u)) ∧
  (∀ (n k : Nat) (s t : State) (i : Item) (x y : Index) (hit : Nat → VItem → Bool), indexTakes n 0x33 s = some (i, k, x) →
    widthsOk i.words [16, 32, 32] = true → wordAt i.words 3 ≠ 0 → t = stamp_ k n (admitted n (setItem n i s)) →
    t.sv.indexes.get? k = some y →
    hit = (fun m v => wordAt i.words 2 ≤ m && m < wordAt i.words 2 + wordAt i.words 3 && v.del.isNone) →
    exec (.delete n) s = .next (endItem n Config.ok
      (y.items.count hit + 2 ^ 32 * (wordAt i.words 3 - y.items.count hit)) 0
      (markEffect n (setIndex k { y with
        items := y.items.mapVal fun m v => if hit m v = true then { v with del := some (stampOf y n) } else v } t)))) ∧
  (∀ (n k : Nat) (s : State) (i : Item) (x : Index), indexTakes n 0x34 s = some (i, k, x) → widthsOk i.words [16] = true →
    exec (.epochPublish n) s = .next (modItem n (fun i => { i with wait := .engine, regs := i.regs.set 7 1 })
      (modIndex k (addPublish n) (setItem n i s)))) ∧
  (∀ (k n : Nat) (s : State) (x : Index), s.alive = true → s.sv.indexes.get? k = some x → x.publishes = [n] →
    x.stamped = [] →
    exec (.epochPublishDone k) s = .next (endItem n Config.ok (x.epoch + 1) 0
      (setIndex k { x with epoch := x.epoch + 1, publishes := [] } s))) ∧
  (∀ (k n m e : Nat) (s : State) (x : Index), s.sv.indexes.get? k = some x → x.publishes = [n] → x.stamped = [(m, e)] →
    liveItem s m = true → e ≤ x.epoch + 1 → exec (.epochPublishDone k) s = .next s) ∧
  (∀ (s : State), s.alive = true → Par.autoPublishMs s ≠ 0 →
    exec .autoPublishTimer s = .next ((s.reach (s.sv.autoDue + 1000000 * Par.autoPublishMs s)).setSv { s.sv with
      autoDue := (s.reach (s.sv.autoDue + 1000000 * Par.autoPublishMs s)).now
      indexes := s.sv.indexes.mapVal fun _ x => if x.dirty && !x.failed && x.destroying.isNone then addPublish 0 x else x })) ∧
  (∀ (n k : Nat) (s t u : State) (i j : Item) (x : Index), indexTakes n 0x31 s = some (i, k, x) → i.regs = [] →
    x.pins = [] →
    searchOk i.words x (destOf i.words (wBits i.words 1 42 41) (wordAt i.words 5) (bitOf (wordAt i.words 1) 43)) = true →
    t = modIndex k (fun y => { y with pins := (y.pins.keep fun m _ => liveItem (setItem n i s) m).set n x.epoch })
      (modItem n (fun i => { i with r1 := x.epoch }) (admitted n (setItem n i s))) →
    queriesFrom n i x x.epoch (destOf i.words (wBits i.words 1 42 41) (wordAt i.words 5) (bitOf (wordAt i.words 1) 43))
      (wBits i.words 1 28 16 + 1) i.prog t = .ok () u →
    getItem? u n = some j →
    exec (.search n) s = .next (settleOut n
      (if 2 ^ 32 ≤ j.r0 then Config.poisoned else if j.r0 ≠ 0 then Config.short else Config.ok) 0 0 u)) ∧
  (∀ (n k : Nat) (s : State) (i : Item) (x : Index) (gone : Nat → Bool), indexTakes n 0x35 s = some (i, k, x) → i.regs = [] →
    (∀ kv ∈ s.ho.items, kv.1 = n) → widthsOk i.words [16] = true → x.graph = false → x.pins = [] → x.entry = none →
    gone = (fun m => (x.items.get? m).any fun v => !v.refused && !v.freed && v.del.any fun d => d ≤ x.epoch) →
    exec (.compact n) s = .next (endItem n Config.ok (x.items.count fun m _ => gone m) 0
      (setIndex k { x with items := x.items.mapVal fun m v =>
          if (gone m) then { v with freed := true, vec := [], codes := [], edges := [] } else v }
        (modItem n (fun i => { i with regs := i.regs.set 5 x.epoch }) (admitted n (setItem n i s)))))) ∧
  (∀ (n k : Nat) (s : State) (i : Item) (x : Index), itemReady n 0x36 s = some i → widthsOk i.words [16] = true →
    indexOf s i.tenant (wordAt i.words 1) = some (k, x) → x.destroying = none →
    indexBusy (setItem n i s) { x with destroying := some n } = false →
    exec (.indexDestroy n) s = .next (endItem n Config.ok 0 0
      (removeIndex k { x with destroying := some n } (markEffect n (setItem n i s))))) ∧
  (∀ (n k : Nat) (s : State) (i : Item) (x : Index), itemReady n 0x36 s = some i → widthsOk i.words [16] = true →
    indexOf s i.tenant (wordAt i.words 1) = some (k, x) → x.destroying = none →
    indexBusy (setItem n i s) { x with destroying := some n } = true →
    exec (.indexDestroy n) s = .next (setIndex k { x with destroying := some n } (setItem n i s)))

/-- Stores and the operations of the host on a key that takes its turn (R412–R418). A store is made with its ranges translated and is destroyed once idle. PUT
writes a fresh slot and switches the key to it with a VERSION one higher; GET pins the slot and delivers the block; PIN and UNPIN count; DROP removes
the key; PREFETCH raises the heat of its pages. A key with no block ends an operation with FOUND 0; an EXPECTED that does not hold gives STALE_VERSION.

Request lines, waits and the task of Cumulus (R416, R419–R425). An accepted request line becomes an item that runs and is answered; a line that breaks
the layout is refused. A PUT goes on when its data are there; each wait ends at its bound with its status; an old slot that nothing reads is freed; the
eviction round leaves a store without a COLD time alone. -/
def Obligations.CumulusServes : Prop :=
  (∀ (n a : Nat) (s u : State) (i : Item) (ps : List (List (Nat × Nat × Nat))) (ents : List Nat), itemReady n 0x38 s = some i →
    storeOk i.words = true → tenantStore s i.tenant (wBits i.words 1 15 0) = none → s.sv.stores.length < Par.storesMax s →
    s.sv.stores.count (fun _ x => x.tenant = i.tenant) < Par.storesPerTenant s → wordAt i.words 6 ≠ 0 →
    wordAt i.words 8 = 0 →
    lookAll n i.tenant [(wordAt i.words 5, 64 * wordAt i.words 6, true), (wordAt i.words 2, 0x200000 * wordAt i.words 3, true)]
      (setItem n i s) = .ok (ps, ents) u →
    oneRun (ps.getD 0 []) = some a → runTaken u a (wordAt i.words 6) = false →
    exec (.storeCreate n) s = .next (endItem n Config.ok 0 0 (setStore u.sv.nextStore
      { tenant := i.tenant, id := wBits i.words 1 15 0, words := i.words, req := a, reqLines := wordAt i.words 6,
        ptcs := ents.eraseDups }
      (ptcAdmitAll ents.eraseDups (u.setSv { u.sv with nextStore := u.sv.nextStore + 1 }))))) ∧
  (∀ (n k : Nat) (s : State) (i : Item) (x : Store), itemReady n 0x3F s = some i → widthsOk i.words [16] = true →
    tenantStore s i.tenant (wordAt i.words 1) = some (k, x) → x.destroying = none → storeBusy (setItem n i s) k = false →
    exec (.storeDestroy n) s = .next (endItem n Config.ok 0 0 (removeStore k x (markEffect n (setItem n i s))))) ∧
  (∀ (n k off : Nat) (s t u v w : State) (j i2 : Item) (x x2 x3 : Store), storeTakes n 0x39 s = some (k, j, x, t) →
    (creq j).expected = 0 →
    takeSlot n k (creq j) 258 (modRegs n 10 (b2n (x.keys.get? (creq j).key).isSome) t) = (some off, u) →
    v = modRegs n 12 off (modRegs n 11 1 u) → getItem? v n = some i2 → v.sv.stores.get? k = some x2 →
    putData n { i2 with wait := .none } x2 (creq j) (i2.regs.getD 12 0) ((creq j).segs * 17 + 2) i2.prog
      (modItem n (fun i => { i with wait := .none }) v) = .ok () w →
    w.sv.stores.get? k = some x3 →
    exec (.putOp n) s = .next (switchKey n k x3 (creq j) (i2.regs.getD 12 0) w)) ∧
  (∀ (n k : Nat) (s t : State) (j : Item) (x : Store) (c : CKey), storeTakes n 0x39 s = some (k, j, x, t) →
    x.keys.get? (creq j).key = some c → (creq j).expected ≠ 0 → (creq j).expected ≠ c.version →
    exec (.putOp n) s = .next (endItem n Config.staleVersion c.version 0 (modRegs n 10 1 t))) ∧
  (∀ (n k : Nat) (s t : State) (j i2 : Item) (x y : Store) (c : CKey), storeTakes n 0x3A s = some (k, j, x, t) →
    x.keys.get? (creq j).key = some c →
    y = { x with slots := x.slots.modify c.slot fun d => { d with readers := d.readers ++ [n] },
                 keys := x.keys.set (creq j).key { c with last := s.now } } →
    i2 = { j with regs := ((((j.regs.set 10 1).set 11 1).set 12 c.slot).set 13 c.version).set 14 c.segs,
                  r0 := 65536 * c.segs + 2 ^ 32, r1 := c.version, wait := Wait.none } →
    exec (.getOp n) s = .next (deliver n i2 y (setItem n i2 (setStore k y (modRegs n 10 1 t))))) ∧
  (∀ (n k : Nat) (s t : State) (j : Item) (x : Store), storeTakes n 0x3A s = some (k, j, x, t) →
    x.keys.get? (creq j).key = none → (creq j).waitUs = 0 →
    exec (.getOp n) s = .next (endItem n Config.ok 0 0 (modRegs n 10 0 t))) ∧
  (∀ (n k : Nat) (s t : State) (j : Item) (x : Store) (c : CKey), storeTakes n 0x3B s = some (k, j, x, t) →
    x.keys.get? (creq j).key = some c → c.pins < 65535 →
    exec (.pin n) s = .next (endItem n Config.ok (c.pins + 1 + 2 ^ 32) 0 (markEffect n
      (putStore k x { x with keys := x.keys.set (creq j).key { c with pins := c.pins + 1 } } (modRegs n 10 1 t))))) ∧
  (∀ (n k : Nat) (s t : State) (j : Item) (x : Store) (c : CKey), storeTakes n 0x3C s = some (k, j, x, t) →
    x.keys.get? (creq j).key = some c → 0 < c.pins →
    exec (.unpin n) s = .next (endItem n Config.ok (c.pins - 1 + 2 ^ 32) 0 (markEffect n
      (putStore k x { x with keys := x.keys.set (creq j).key { c with pins := c.pins - 1 } } (modRegs n 10 1 t))))) ∧
  (∀ (n k : Nat) (s t : State) (j : Item) (x : Store) (c : CKey), storeTakes n 0x3C s = some (k, j, x, t) →
    x.keys.get? (creq j).key = some c → c.pins = 0 →
    exec (.unpin n) s = .next (endItem n Config.invalidDescriptor 0 0 (modRegs n 10 1 t))) ∧
  (∀ (n k : Nat) (s t : State) (j : Item) (x : Store) (c : CKey), storeTakes n 0x3D s = some (k, j, x, t) →
    x.keys.get? (creq j).key = some c → (creq j).expected = 0 ∨ (creq j).expected = c.version ∧ c.version < 2 ^ 64 - 1 →
    exec (.drop n) s = .next (endItem n Config.ok (2 ^ 32) c.version (markEffect n
      (putStore k x (retireSlot (modRegs n 10 1 t) { x with keys := x.keys.erase (creq j).key } c.slot) (modRegs n 10 1 t))))) ∧
  (∀ (n k : Nat) (s t : State) (j : Item) (x : Store) (c : CKey), storeTakes n 0x3E s = some (k, j, x, t) →
    x.keys.get? (creq j).key = some c →
    exec (.prefetch n) s = .next (endItem n Config.ok (2 ^ 32) 0
      ((slotPages c.slot ((x.slots.get? c.slot).elim 0 fun d => d.bytes)).foldl (fun s p =>
        match poolPage s x p with
        | none => s
        | some q => setEntry q { entryOf s q with heat := max (entryOf s q).heat (Par.promoteHbm s) } s) (modRegs n 10 1 t)))) ∧
  (∀ (n k : Nat) (s t : State) (j : Item) (x : Store), storeTakes n 0x3B s = some (k, j, x, t) →
    x.keys.get? (creq j).key = none →
    exec (.pin n) s = .next (endItem n Config.ok 0 0 (modRegs n 10 0 t))) ∧
  (∀ (w n k : Nat) (s t : State), remoteTakes w 1 s = some (n, k, t) →
    exec (.remotePut w) s = .next (replyLine n (runReq n k t))) ∧
  (∀ (w n k : Nat) (s t : State), remoteTakes w 2 s = some (n, k, t) →
    exec (.remoteGet w) s = .next (replyLine n (runReq n k t))) ∧
  (∀ (w n k : Nat) (s t : State), remoteTakes w 3 s = some (n, k, t) →
    exec (.remotePin w) s = .next (replyLine n (runReq n k t))) ∧
  (∀ (w n k : Nat) (s t : State), remoteTakes w 4 s = some (n, k, t) →
    exec (.remoteUnpin w) s = .next (replyLine n (runReq n k t))) ∧
  (∀ (w n k : Nat) (s t : State), remoteTakes w 5 s = some (n, k, t) →
    exec (.remoteDrop w) s = .next (replyLine n (runReq n k t))) ∧
  (∀ (w n k : Nat) (s t : State), remoteTakes w 6 s = some (n, k, t) →
    exec (.remotePrefetch w) s = .next (replyLine n (runReq n k t))) ∧
  (∀ (w k : Nat) (s : State) (lw : LineWrite) (x : Store), s.alive = true → s.rc.warmStep = 0 → s.bt.stage = 4 →
    s.sv.writes.get? w = some lw → storeOf s lw.pha = some k → s.sv.stores.get? k = some x →
    lw.whole = false ∨ lineOk (wordsFrom 8 lw.bytes) = false →
    exec (.remotePut w) s = .next (writerDone lw.writer Config.invalidDescriptor
      (s.setSv { s.sv with writes := s.sv.writes.erase w }))) ∧
  (∀ (n at_ : Nat) (s : State) (i : Item), s.alive = true → getItem? s n = some i → i.ended = none →
    i.wait = .landing at_ → wordAt i.words 4 ≤ counterOf s (wordAt i.words 3) →
    exec (.remotePutDataReady n) s =
      .next (replyLine n (runReq n (i.regs.getD 7 0 - 1) (modItem n (fun i => { i with wait := .none }) s)))) ∧
  (∀ (n at_ : Nat) (s : State) (i : Item), s.alive = true → getItem? s n = some i → i.ended = none →
    i.wait = .landing at_ →
    exec (.putWaitExpiry n) s =
      .next (replyLine n (endItem n Config.timeout 0 0 (s.reach (at_ + 1000000 * Par.putWaitMs s))))) ∧
  (∀ (n at_ : Nat) (s : State) (i : Item), s.alive = true → getItem? s n = some i → i.ended = none →
    i.wait = .key at_ →
    exec (.getWaitExpiry n) s =
      .next (replyLine n (endItem n Config.ok 0 0 (s.reach (at_ + 1000 * (creq i).waitUs))))) ∧
  (∀ (n at_ : Nat) (s : State) (i : Item), s.alive = true → getItem? s n = some i → i.ended = none →
    i.wait = .own at_ →
    exec (.ownWaitExpiry n) s =
      .next (replyLine n (endItem n Config.timeout 0 0 (s.reach (at_ + 1000000 * Par.ownWaitMs s))))) ∧
  (∀ (n at_ : Nat) (s : State) (i : Item), s.alive = true → getItem? s n = some i → i.ended = none →
    i.wait = .space at_ →
    exec (.dropLruWaitExpiry n) s =
      .next (replyLine n (endItem n Config.noSpace 0 0 (s.reach (at_ + 2000000))))) ∧
  (∀ (n : Nat) (s : State) (i : Item), getItem? s n = some i → i.wait = .none →
    exec (.putWaitExpiry n) s = .next s ∧ exec (.getWaitExpiry n) s = .next s ∧ exec (.ownWaitExpiry n) s = .next s ∧
      exec (.dropLruWaitExpiry n) s = .next s ∧ exec (.remotePutDataReady n) s = .next s) ∧
  (∀ (k slot : Nat) (s : State) (x : Store) (c : CSlot), s.powered = true → s.sv.stores.get? k = some x →
    x.slots.get? slot = some c → c.old = true → c.readers = [] →
    exec (.cumulusSlotRelease k slot) s = .next (setStore k { x with slots := x.slots.erase slot } s)) ∧
  (∀ (s : State), drumAllowed s 3 = true → (∀ kv ∈ s.sv.stores, kv.2.coldMs = 0) →
    exec .cumulusEvictionRound s = .next (drumBegin 3 s)) ∧
  (∀ (s : State) (k q : Nat) (x : Store), drumAllowed s 3 = true → s.sv.stores = [(k, x)] → 0 < x.coldMs →
    x.blockPages = 1 → keysOn x 0 ≠ [] → (∀ kv ∈ keysOn x 0, kv.2.pins = 0) →
    (∀ kv ∈ keysOn x 0, kv.2.last + 1000000 * x.coldMs ≤ (drumBegin 3 s).now) →
    poolPage (drumBegin 3 s) x 0 = some q →
    exec .cumulusEvictionRound s = .next
      (setEntry q { entryOf (drumBegin 3 s) q with hint := 3, hintTier := 0 } (drumBegin 3 s))) ∧
  (∀ (s : State), drumAllowed s 3 = false → exec .cumulusEvictionRound s = .next s) ∧
  (∀ (n : Nat) (s u : State) (i j : Item) (p : CrcPar), itemReady n 0x40 s = some i → checkOk i.words = true →
    crcSelect (wBits i.words 1 2 0) (checkPar i.words) = some p →
    segsFrom n i p (segCount i.words + 1) i.prog (setItem n i s) = .ok () u → getItem? u n = some j → j.r1 = 0 →
    exec (.check n) s = .next (endItem n Config.ok
      (if wBits i.words 1 12 8 = 0 then 0 else segCount i.words) 0 u)) ∧
  (∀ (n : Nat) (s : State) (i : Item), itemReady n 0x40 s = some i → checkOk i.words = false →
    exec (.check n) s = .next (endItem n Config.invalidDescriptor 0 0 (setItem n i s)))

/-! Faults, resets and fences (chapters 4 and 18). -/

/-- Watchdogs and faults (R107, R124, R466, R467, R477, R489). Each fault of R477 goes to the reset domain of its cause with what it
concerns; a program held by WAITC or WAITF for WAIT_LIMIT_MS ends with TIMEOUT; a unit that does not fit the condition
orders nothing. A lost Chime unit is noted with its event (R442). -/
def Obligations.WatchdogsAndFaultsOrderResets : Prop :=
  (∀ (n : Nat) (s : State) (c : Ctx), watched s = true → (getTab s n).ctxs = [c] → c.state = .running →
    c.hold = .none → c.pend = [] → exec (.ctxStall n) s = .next (fault 0x02 0 n c.tenant [.ctx n c.id] s)) ∧
  (∀ (n id a b d : Nat) (s : State) (c : Ctx), watched s = true → findCtx s n id = some c → c.hold = .counter a b d →
    c.ending = none →
    exec (.waitLimitExpiry n id) s =
      .next (settleAll (endCtx n id Config.timeout (s.reach (c.holdSince + 1000000 * Par.waitLimitMs s))))) ∧
  (∀ (n id a b d : Nat) (s : State) (c : Ctx), watched s = true → findCtx s n id = some c → c.hold = .word a b d →
    c.ending = none →
    exec (.waitLimitExpiry n id) s =
      .next (settleAll (endCtx n id Config.timeout (s.reach (c.holdSince + 1000000 * Par.waitLimitMs s))))) ∧
  (∀ (n : Nat) (s : State) (i : Item), watched s = true → getItem? s n = some i → engineDue s n i = true →
    exec (.itemEngine n) s = .next (fault 0x03 0 (resetTabor s [n]) i.tenant [.item n] s)) ∧
  (∀ (n : Nat) (s : State) (i : Item), watched s = true → getItem? s n = some i → engineDue s n i = false →
    exec (.itemEngine n) s = .next s) ∧
  (∀ (n : Nat) (s : State), watched s = true → n < 4352 → taborGood s n = true → homeBusy s n = true →
    exec (.homeWatchdog n) s = .next (fault 0x05 1 n 0 [] s)) ∧
  (∀ (port : Nat) (s : State), watched s = true → port < 32 → s.co.gale.has port = true →
    exec (.galeStall port) s = .next (fault 0x08 3 port 0 [] s)) ∧
  (∀ (s : State), watched s = true → exec .tierFault s = .next (fault 0x0F 6 0 0 [] s) ∧
    exec .meshFault s = .next (fault 0x0E 6 0 0 [] s)) ∧
  (∀ (kit : Nat) (s : State), watched s = true → kit < 64 → s.co.deadKits.mem kit = false →
    exec (.kitFault kit) s = .next (fault 0x07 2 kit 0 [] s)) ∧
  (∀ (port : Nat) (s : State), watched s = true → port < 32 →
    exec (.portLogic port) s = .next (fault 0x09 3 port 0 [] s) ∧
      exec (.portSerdes port) s = .next (fault 0x0A 4 port 0 [] s)) ∧
  (∀ (n : Nat) (s : State), s.alive = true → n < 4352 → taborGood s n = true →
    exec (.scratchEccError n true) s = .next (fault 0x04 1 n 0 [] s) ∧
      exec (.sliceTagError n) s = .next (fault 0x06 1 n 0 [] s)) ∧
  (∀ (n : Nat) (s : State) (c : Ctx), s.alive = true → n < 4352 → taborGood s n = true → (getTab s n).ctxs = [c] →
    exec (.scratchEccError n false) s = .next (fault 0x01 0 n 0 [.ctx n c.id] s)) ∧
  (∀ (kit : Nat) (s : State), s.alive = true → kit < 64 → s.co.chimeLost.mem kit = false →
    exec (.chimeUnitLost kit) s =
      .next (raise 0x123 kit 0 0 (s.setCo { s.co with chimeLost := s.co.chimeLost.add kit }))) ∧
  (∀ (kit : Nat) (s : State), s.alive = true → s.co.chimeLost.mem kit = true → exec (.chimeUnitLost kit) s = .next s)

/-- Tocsin A and B watch one another, and the hardwired path watches both (R468, R482, R484–R486). A heartbeat comes every 100 µs; one missed
for TOCSIN_WATCH_US resets the Carillon domain, or restarts Tocsin A, which is taken as failed within 1 s of a restart; a restarted Tocsin
resumes its work; the hardwired path quiesces the device. -/
def Obligations.TocsinWatchesAndQuiesces : Prop :=
  (∀ (s : State), watched s = true → s.rc.tocsinA = 0 →
    exec (.tocsinHeartbeat 0) s =
      .next ((s.reach (s.rc.beatA + 100000)).setRc { s.rc with beatA := (s.reach (s.rc.beatA + 100000)).now })) ∧
  (∀ (s : State), watched s = true → s.rc.tocsinB = 0 →
    exec (.tocsinHeartbeat 1) s =
      .next ((s.reach (s.rc.beatB + 100000)).setRc { s.rc with beatB := (s.reach (s.rc.beatB + 100000)).now })) ∧
  (∀ (s : State), watched s = true → s.rc.tocsinA = 0 → s.rc.tocsinB = 0 →
    exec .carillonWatchdog s = .next (fault 0x0B 5 0 0 [] (s.reach (s.rc.beatB + tocsinWatch)))) ∧
  (∀ (s : State), watched s = true → s.rc.tocsinA = 0 → s.rc.tocsinB = 0 → s.rc.restartedA = none →
    exec .tocsinAHeartbeat s = .next (markRun 7 0 ((fault 0x0C 7 0 0 [] (s.reach (s.rc.beatA + tocsinWatch))).setRc
      { (fault 0x0C 7 0 0 [] (s.reach (s.rc.beatA + tocsinWatch))).rc with tocsinA := 1 }))) ∧
  (∀ (s : State) (at_ : Nat), watched s = true → s.rc.tocsinA = 0 → s.rc.tocsinB = 0 → s.rc.restartedA = some at_ →
    (s.reach (s.rc.beatA + tocsinWatch)).now ≤ at_ + 1000000000 →
    exec .tocsinAHeartbeat s = .next (failIsland (s.reach (s.rc.beatA + tocsinWatch)))) ∧
  (∀ (s : State), s.powered = true → s.rc.tocsinA = 1 →
    exec (.tocsinRestarted 0) s = .next (raise 0x1F1 0 0 0 (resumeResets (fun x => x.domain ≠ 7)
      (s.setRc { s.rc with tocsinA := 0, restartedA := some s.now, beatA := s.now })))) ∧
  (∀ (s : State), s.powered = true → s.rc.tocsinB = 1 → s.rc.islandFailed = false →
    exec (.tocsinRestarted 1) s = .next (raise 0x1F1 1 0 0 (resumeResets (fun _ => false)
      (s.setRc { s.rc with tocsinB := 0, beatB := s.now })))) ∧
  (∀ (s : State), watched s = true → exec .islandFailed s = .next (failIsland s)) ∧
  (∀ (s : State), s.powered = true → s.rc.quiesceOrdered = true →
    exec .hardwiredPathFire s = .next ((s.setPw { s.pw with faultLow := true, dramSelfRefresh := true }).setRc
      { s.rc with quiesced := true, quiesceOrdered := false, deviceState := 2 })) ∧
  (∀ (s : State), s.powered = true → s.pw.refclk = true → s.rc.quiesceOrdered = false →
    ∃ t, exec .hardwiredPathFire s = .next t ∧ t.rc.quiesced = true ∧ t.rc.deviceState = 2 ∧ t.pw.faultLow = true ∧
      t.pw.dramSelfRefresh = true ∧ s.rc.beatB + 2000000 ≤ t.now ∧ (s.rc.tocsinA ≠ 2 → s.rc.beatA + 2000000 ≤ t.now) ∧
      t.mem = s.mem ∧ t.fr = s.fr ∧ t.ho = s.ho ∧ t.fa = s.fa ∧ t.out = s.out)

/-- The reset domains inside the chip (R107, R126–R128, R469–R475). A reset ends the tasks that it names; a kit reset ends the programs of its tabors,
drops what its slivers had admitted and writes its slices back; a port reset loses what is inside the port and, where it
retrains, its links; a Carillon reset wipes that domain. A tabor's fence takes its slivers out of use; its
slice is read out, its slivers get new homes, and FENCED_MAP lists the tabor. -/
def Obligations.ResetsOfPartsRun : Prop :=
  (∀ (n : Nat) (s : State) (x : Reset), s.powered = true → resetOf s 0 n = some x →
    exec (.tenantContextReset n) s =
      .next (settleAll (x.tasks.foldl (fun s k => abortTask k s) (markRun 0 n s)))) ∧
  (∀ (n : Nat) (s : State), resetOf s 0 n = none → exec (.tenantContextReset n) s = .next s) ∧
  (∀ (kit : Nat) (s t : State) (x : Reset) (l : List Nat), s.powered = true → resetOf s 2 kit = some x →
    l = (taborsIn kit).flatMap (sliversOf (markRun 2 kit s)) →
    t = dropLedgerOf l (dropAdmitted l (markRun 2 kit s)) →
    exec (.kitReset kit) s = .next (settleAll (x.tasks.foldl (fun s k => abortTask k s)
      ((taborsIn kit).foldl (fun s n => readOut n [] (endContexts n s)) t)))) ∧
  (∀ (port : Nat) (s : State) (x : Reset), s.powered = true → resetOf s 3 port = some x →
    exec (.portReset port false) s =
      .next (x.tasks.foldl (fun s k => abortTask k s) (losePort port (markRun 3 port s)))) ∧
  (∀ (port : Nat) (s : State) (x : Reset), s.powered = true → resetOf s 4 port = some x →
    exec (.portReset port true) s =
      .next (retrainSub (2 * port + 1) (retrainSub (2 * port)
        (x.tasks.foldl (fun s k => abortTask k s) (losePort port (markRun 4 port s)))))) ∧
  (∀ (s : State) (x : Reset), s.powered = true → resetOf s 5 0 = some x →
    ∃ t, exec .carillonReset s = .next t ∧ t.od.segs = [] ∧ t.od.kept = [] ∧ t.od.locks = [] ∧ t.od.mailbox = [] ∧
      t.od.script = none ∧ t.od.firings = [] ∧ t.rc.tocsinB = 1 ∧ t.mem = s.mem ∧ t.rc.tocsinA = s.rc.tocsinA) ∧
  (∀ (n : Nat) (s : State) (x : Reset), s.powered = true →
    s.rc.resets.find? (fun x => fencesTabor x n) = some x → x.domain = 2 →
    s.co.fused.mem n = false → s.co.fenced.mem n = false → s.co.fences.has n = false →
    exec (.taborFence n) s = .next (settleAll (endQueued n (endContexts n (dropAdmitted (sliversOf s n) (s.setCo { s.co with
      fences := s.co.fences.set n { slivers := sliversOf s n, readout := false, dest := [], started := s.now } })))))) ∧
  (∀ (n : Nat) (s t : State) (x : Reset), s.powered = true →
    s.rc.resets.find? (fun x => fencesTabor x n) = some x → x.domain = 1 →
    s.co.fused.mem n = false → s.co.fenced.mem n = false → s.co.fences.has n = false →
    t = markRun 1 n s →
    exec (.taborFence n) s = .next (settleAll (endQueued n (endContexts n (x.tasks.foldl (fun s k => abortTask k s)
      (dropAdmitted (sliversOf t n) (t.setCo { t.co with
        fences := t.co.fences.set n { slivers := sliversOf t n, readout := false, dest := [], started := t.now } }))))))) ∧
  (∀ (n : Nat) (bad : List Nat) (s t : State) (f : Fence), s.powered = true → s.co.fences.get? n = some f →
    f.readout = false → t = readOut n bad s →
    exec (.fenceReadoutDone n bad) s = .next (chooseHomes n f.slivers (t.setCo { t.co with
      fences := t.co.fences.modify n fun f => { f with readout := true } }))) ∧
  (∀ (n : Nat) (s t : State) (f : Fence), s.powered = true → s.co.fences.get? n = some f → f.readout = true →
    t = dropLedgerOf f.slivers s →
    exec (.fenceRehomeDone n) s = .next (f.slivers.foldl (fun s sl =>
        rehome sl (n / 68) ((f.dest.find? fun d => d.1 = sl).map Prod.snd) s)
      (markFenced n (t.setCo { t.co with
        fences := t.co.fences.erase n
        tabors := t.co.tabors.modify n fun v => { v with resident := [], homeSr := [] } })))) ∧
  (∀ (n : Nat) (s : State) (f : Fence), s.powered = true → s.co.fences.get? n = some f → f.readout = false →
    exec (.fenceRehomeDone n) s = .next s)

/-- The chip warm reset (R471, R473) and the out-of-service transition (R483, R489): frames are dropped and fetching stops; Cloudbank and Frost's
buffer are written back and every domain but the island is reset; the Sliver Map is built from FENCED_MAP and the tables are
restored; completions are posted and the ports train. After it the transition ends in salvage mode, or in a quiesce.

The ends of resets (R479, R481, R483, R487). A reset whose last step has been performed ends DONE: its record goes to the history with its
event. One that has not ended within its bound fails, and the next enclosing domain is reset with the same cause; a failed
chip reset takes the device out of service. -/
def Obligations.ChipWarmResetAndEscalation : Prop :=
  (∀ (s : State) (x : Reset), s.alive = true → resetOf s 6 0 = some x → x.run = false → s.rc.warmStep = 0 →
    ∃ t, exec .chipWarmReset s = .next t ∧ t.rc.warmStep = 1 ∧ t.fa.quietUntil = some (x.start + 250000000) ∧
      t.mem = s.mem ∧ t.ti = s.ti ∧ t.fr = s.fr ∧ t.tr = s.tr ∧ t.now = s.now) ∧
  (∀ (s : State), s.powered = true → s.rc.warmStep = 1 → s.bt.mounted = false →
    ∃ t, exec .warmResetDrainDone s = .next t ∧ t.rc.warmStep = 3 ∧ t.co.tabors = [] ∧ t.co.fences = [] ∧
      t.ch.txns = [] ∧ t.ch.slices = [] ∧ t.ch.dir = [] ∧ t.tr.misses = [] ∧ t.fa.composition = 0 ∧ t.fa.nodeId = 0xFFFF ∧
      t.fa.tx = [] ∧ t.fa.rx = [] ∧ t.sv.rounds = [] ∧ t.ti.moves = [] ∧ t.od.locks = []) ∧
  (∀ (s : State), s.powered = true → s.rc.warmStep = 3 →
    exec .warmResetDomainsDone s = .next (s.setRc { s.rc with warmStep := 4 })) ∧
  (∀ (s : State), s.powered = true → s.rc.warmStep = 4 → s.rc.resets = [] → s.rc.deviceState ≠ 0 →
    ∃ t, exec .warmResetRestoreDone s = .next t ∧ t.rc.warmStep = 5 ∧ t.rc.tocsinB = 0 ∧ t.co.map = (buildMap s).co.map ∧
      t.ti.homeB = s.ti.homeA ∧ t.fr.commitRecord = false ∧ t.mem = s.mem ∧ t.tr = s.tr) ∧
  (∀ (s : State), s.powered = true → s.rc.warmStep = 5 →
    ∃ t, exec .warmResetDone s = .next t ∧ t.rc.warmStep = 0 ∧ t.fa.ledgerHold = some (s.now + 8000000) ∧
      t.bt.regOwed = true ∧ t.bt.regWarm = true ∧ t.now = s.now) ∧
  (∀ (s : State), s.powered = true → s.rc.oosRunning = true → s.rc.warmStep = 0 → resetOf s 6 0 = none →
    Par.salvageEnable s = 0 →
    exec .outOfService s = .next (raise 0x1F3 0 s.rc.oosReason s.rc.oosArg
      (s.setRc { s.rc with oosRunning := false, deviceState := 2, quiesceOrdered := true }))) ∧
  (∀ (s : State), s.powered = true → s.rc.oosRunning = true → s.rc.warmStep = 0 → resetOf s 6 0 = none →
    Par.salvageEnable s ≠ 0 →
    ∃ t, exec .outOfService s = .next t ∧ t.rc.deviceState = 1 ∧ t.rc.oosRunning = false ∧ t.sv.suspended = true ∧
      s.rc.newest + 2 ≤ t.rc.newest ∧ t.mem = s.mem) ∧
  (∀ (s : State), s.rc.warmStep = 0 → exec .warmResetDrainDone s = .next s ∧ exec .warmResetDomainsDone s = .next s ∧
    exec .warmResetRestoreDone s = .next s ∧ exec .warmResetDone s = .next s) ∧
  (∀ (d i : Nat) (s : State) (x : Reset) (r : FaultRec), s.powered = true → resetOf s d i = some x →
    resetOver s x = true → recordOf s x.seq = some r → x.cause ≠ 0x11 → x.cause ≠ 0x12 → s.rc.counted = [] →
    1 < Par.escalateCount s →
    ∃ t, exec (.resetDone d i) s = .next t ∧ t.rc.history.get? (r.seq % 256) = some { r with action := 2, ended := s.now } ∧
      t.rc.newest = s.rc.newest + 1 ∧ resetOf t d i = none ∧ t.rc.counted = [(d, i, s.now)] ∧
      (∀ q ∈ t.rc.queueA, q.seq ≠ r.seq) ∧ (∀ q ∈ t.rc.queueB, q.seq ≠ r.seq) ∧ t.mem = s.mem) ∧
  (∀ (d i : Nat) (s : State) (x : Reset), s.powered = true → resetOf s d i = some x → resetOver s x = false →
    exec (.resetDone d i) s = .next s) ∧
  (∀ (d i : Nat) (s : State), resetOf s d i = none →
    exec (.resetDone d i) s = .next s ∧ exec (.resetBoundExpiry d i) s = .next s) ∧
  (∀ (i : Nat) (s t : State) (x : Reset), s.powered = true → resetOf s 0 i = some x →
    t = s.reach (x.start + 20000) →
    exec (.resetBoundExpiry 0 i) s = .next (escalate x (((recordOf t x.seq).map FaultRec.detail).getD 0) 1 i
      (removeReset x (endRecord x.seq 4 0 t)))) ∧
  (∀ (i : Nat) (s t : State) (x : Reset), s.powered = true → resetOf s 3 i = some x →
    t = s.reach (x.start + 2000000) →
    exec (.resetBoundExpiry 3 i) s = .next (escalate x (((recordOf t x.seq).map FaultRec.detail).getD 0) 4 i
      (removeReset x (endRecord x.seq 4 0 t)))) ∧
  (∀ (i : Nat) (s t : State) (x : Reset), s.powered = true → resetOf s 5 i = some x →
    t = s.reach (x.start + 40000000) →
    exec (.resetBoundExpiry 5 i) s = .next (escalate x (((recordOf t x.seq).map FaultRec.detail).getD 0) 6 0
      (removeReset x (endRecord x.seq 4 0 t)))) ∧
  (∀ (i : Nat) (s t : State) (x : Reset), s.powered = true → resetOf s 6 i = some x →
    t = s.reach (x.start + 60000000) →
    exec (.resetBoundExpiry 6 i) s = .next (chipFailed (removeReset x (endRecord x.seq 4 0 t)))) ∧
  (∀ (i : Nat) (s t : State) (x : Reset), s.powered = true → resetOf s 7 i = some x →
    t = s.reach (x.start + 1000000) →
    exec (.resetBoundExpiry 7 i) s = .next (failIsland (removeReset x (endRecord x.seq 4 0 t))))

/-! Power, clocks and shedding (chapter 19). -/

/-- Sleep and Barometer's loops (R497–R502, R566): an idle domain of a READY device sleeps, and wakes with the
mesh; the setpoints follow the monitors in steps of 5 mV and the request is 30 mV above the highest; a droop
stretches a kit clock for 100 ns; idle kits run at 0.6 GHz; the package loop takes 100 MHz from the fastest
working kits, or adds an idle slot when none is above 0.6 GHz. Each changes only the power state.

Shedding starts (R502–R505): PWR_WARN_N and a sensor at 120 °C start the timed sequence once, with their
trigger; a sag starts its own 2 µs, after which the stage of its depth is entered; each step of the timed
sequence enters its stage, and never a lower one than the device is in.

Stage S4 and the lifting of the stages (R504–R506, R508): S4 ends every item and begins the flush; after the
flush Frost commits; then DRAM is in self-refresh and PWR_SAFE is high. The stages lift together once the
conditions have held for SHED_HOLD_MS; the return from S4 deasserts PWR_SAFE and runs on at step 3 of a warm
reset. -/
def Obligations.PowerAndShedding : Prop :=
  (∀ (s : State) (d : ClkDomain), s.powered = true → s.bt.stage = 4 → s.rc.islandFailed = false →
    s.rc.warmStep = 0 → domainOk d = true → domainIdle s d = true →
    exec (.domainSleep d) s = .next (s.setPw { s.pw with asleep := s.pw.asleep.add d.key })) ∧
  (∀ (s : State) (d : ClkDomain), s.powered = true → s.pw.asleep.mem d.key = true →
    exec (.domainWake d) s =
      .next (s.setPw { s.pw with asleep := (s.pw.asleep.del d.key).del ClkDomain.mesh.key })) ∧
  (∀ (s : State) (kit mv : Nat), baroRuns s = true → kit < 64 → s.co.deadKits.mem kit = false →
    ∃ t, exec (.avsLoopPeriod [(kit, mv)]) s = .next t ∧ t = s.setPw t.pw ∧
      t.pw.setpoint.get? kit = some (setpointOf mv) ∧ t.pw.avsRequest = coreRequest t.pw.setpoint ∧
      520 ≤ setpointOf mv ∧ setpointOf mv ≤ 820 ∧ setpointOf mv % 5 = 0 ∧ 550 ≤ t.pw.avsRequest) ∧
  (∀ (s : State) (kit : Nat), baroRuns s = true → kit < 64 →
    exec (.droopDetected kit) s =
      .next (s.setPw { s.pw with droopUntil := s.pw.droopUntil.set kit (s.now + 100) })) ∧
  (∀ (s : State), baroRuns s = true →
    ∃ t, exec .freqLoopPeriod s = .next t ∧ t = s.setPw t.pw ∧
      (∀ k, k ∈ liveKits s → t.pw.freq.get? k = some (if kitBusy s k then kitCap s k else 600))) ∧
  (∀ (s : State) (meanMw : Nat), baroRuns s = true → 1000 * Par.pkgLimitW s < meanMw →
    (∀ k, k ∈ liveKits s → kitBusy s k = false) →
    exec (.pkgPowerLoopPeriod meanMw) s =
      .next (s.setPw { s.pw with idleSlots := min 12 (s.pw.idleSlots + 1) })) ∧
  (∀ (s : State) (meanMw : Nat), baroRuns s = true → meanMw ≤ 1000 * Par.pkgLimitW s →
    1000 * Par.pkgLimitW s * 98 ≤ meanMw * 100 →
    exec (.pkgPowerLoopPeriod meanMw) s = .next s) ∧
  (∀ (s : State), s.powered = true → s.pw.timedFrom = none → s.pw.stage < 4 →
    ∃ t, exec .pwrWarnNAssert s = .next t ∧ t = s.setPw t.pw ∧ t.pw.warnLow = true ∧
      t.pw.timedFrom = some s.now ∧ t.pw.trigger = 2 ∧ t.pw.holdSince = none) ∧
  (∀ (s : State), s.powered = true →
    ∃ t, exec .pwrWarnNDeassert s = .next t ∧ t = s.setPw t.pw ∧ t.pw.warnLow = false ∧
      t.pw.timedFrom = s.pw.timedFrom ∧ t.pw.stage = s.pw.stage) ∧
  (∀ (s : State) (kit mv : Nat), baroRuns s = true → kit < 64 → Par.sagMv s ≤ mv →
    ∃ t, exec (.vddCoreSag kit mv) s = .next t ∧ t = s.setPw t.pw ∧ t.pw.sag.get? kit = some mv ∧
      t.pw.holdSince = none ∧ (sagNow s < sagNow t → t.pw.sagSince = some s.now) ∧ t.pw.stage = s.pw.stage) ∧
  (∀ (s : State) (since : Nat), s.powered = true → s.pw.refclk = true → s.pw.sagSince = some since →
    s.pw.stage < sagNow s →
    ∃ t, exec .sagPersistExpiry s = .next t ∧ t.pw.stage = sagNow s ∧ since + 2000 ≤ t.now ∧
      t.pw.sagSince = none ∧ s.rc.newest < t.rc.newest ∧ t.mem = s.mem) ∧
  (∀ (s : State), s.powered = true →
    ∃ t, exec .vddCoreSagClear s = .next t ∧ t = s.setPw t.pw ∧ t.pw.sag = [] ∧ t.pw.sagSince = none) ∧
  (∀ (s : State), s.powered = true → s.pw.timedFrom.isSome = true → s.pw.stage = 0 →
    ∃ t, exec .shedS1Enter s = .next t ∧ t.pw.stage = 1 ∧ t.sv.suspended = true ∧
      s.rc.newest < t.rc.newest ∧ t.mem = s.mem ∧ t.pw.timedFrom = s.pw.timedFrom) ∧
  (∀ (s : State) (k f : Nat), s.powered = true → s.pw.timedFrom.isSome = true → s.pw.stage = 1 →
    s.pw.freq.get? k = some f →
    ∃ t, exec .shedS2Enter s = .next t ∧ t.pw.stage = 2 ∧ t.pw.freq.get? k = some (min f 2400) ∧
      s.rc.newest < t.rc.newest ∧ t.mem = s.mem ∧ t.pw.timedFrom = s.pw.timedFrom) ∧
  (∀ (s : State), s.powered = true → s.pw.timedFrom.isSome = true → s.pw.stage = 2 →
    ∃ t, exec .shedS3Enter s = .next t ∧ t.pw.stage = 3 ∧ t.pw.s3At = s.now ∧
      s.rc.newest < t.rc.newest ∧ t.mem = s.mem ∧ t.pw.timedFrom = s.pw.timedFrom) ∧
  (∀ (s : State) (k c : Nat), baroRuns s = true → s.pw.timedFrom = none → s.pw.stage < 4 → 120 ≤ c → k < 8 →
    ∃ t, exec (.tempLoopPeriod [] [(k, c)] [] []) s = .next t ∧ t.pw.timedFrom = some s.now ∧ t.pw.trigger = 3 ∧
      t.pw.hbmIdle.get? k = some (min 12 (s.pw.hbmIdle.getD k 0 + 1)) ∧ t.pw.cool = false ∧ t.mem = s.mem) ∧
  (∀ (s : State), s.powered = true → s.pw.timedFrom.isSome = true → 0 < s.pw.stage →
    exec .shedS1Enter s = .next s) ∧
  (∀ (s : State), s.powered = true → s.pw.stage = 3 →
    ∃ t, exec .shedS4Enter s = .next t ∧ t.pw.stage = 4 ∧ t.pw.s4Phase = 1 ∧ t.co.tabors = [] ∧ t.sv.rounds = []) ∧
  (∀ (s : State), s.powered = true → s.pw.s4Phase = 1 →
    ∃ t, exec .s4FlushDone s = .next t ∧ t.pw.s4Phase = 2 ∧ t.pw.stage = s.pw.stage) ∧
  (∀ (s : State), s.powered = true → s.pw.s4Phase = 2 →
    ∃ t, exec .pwrSafeAssert s = .next t ∧ t.pw.s4Phase = 3 ∧ t.pw.pwrSafe = true ∧
      t.pw.dramSelfRefresh = true ∧ t.pw.timedFrom = none) ∧
  (∀ (s : State) (since : Nat), s.powered = true → s.pw.refclk = true → 0 < s.pw.stage → s.pw.stage < 4 →
    s.pw.timedFrom = none → s.pw.s4Phase = 0 → s.pw.holdSince = some since →
    ∃ t, exec .shedLift s = .next t ∧ t.pw.stage = 0 ∧ t.pw.trigger = 0 ∧
      since + 1000000 * Par.shedHoldMs s ≤ t.now ∧ (s.rc.deviceState = 0 → t.sv.suspended = false) ∧
      s.rc.newest < t.rc.newest ∧ t.mem = s.mem) ∧
  (∀ (s : State) (since : Nat), s.powered = true → s.pw.stage = 4 → s.pw.s4Phase = 3 → s.bt.stage = 4 →
    s.pw.timedFrom = none → s.pw.holdSince = some since →
    ∃ t, exec .shedLift s = .next t ∧ t.pw.stage = 0 ∧ t.pw.pwrSafe = false ∧ t.pw.dramSelfRefresh = false ∧
      t.rc.warmStep = 3 ∧ t.rc.faultSeq = s.rc.faultSeq) ∧
  (∀ (s : State), s.powered = true → s.pw.refclk = true → s.rc.islandFailed = false →
    s.rc.deviceState = 0 →
    ∃ t, exec .refclk25mInterruption s = .next t ∧ t.pw.refclk = false ∧ t.rc.islandFailed = true ∧
      s.rc.newest < t.rc.newest ∧ t.now = s.now ∧ t.mem = s.mem)

/-! The object dictionary (chapter 20). -/

/-- Requests are performed once and answered (R520–R528): a read returns its value, or LENGTH and the value's
length where it does not fit; DESCRIBE its description; a segmented transfer its start; a lock or its release
is granted unless another session holds it; a repeated request within 100 ms draws the kept response again
and nothing else.

Segments, timers and the mailbox's registers (R515, R526–R528, R531): a segment in order is stored and the next
one expected; an acknowledgement moves a read on; ABORT and the end of the silence drop a transfer; a full
write ends with the write of its value; locks and kept responses end with their time; the doorbell hands the
request buffer over, or sets OVERRUN while STATE is BUSY. -/
def Obligations.OdpRequestsTransfersAndMailbox : Prop :=
  (∀ (s s2 : State) (who : Session) (m : OdpMsg) (r : OdRow) (b : List Byte), arrives who m s = some s2 → m.op = 1 →
    readValue s2 m = .ok (r, b) → b.length ≤ odpLimit who →
    exec (.odpRead who m) s = .next (respond who m { status := 0, data := b } s2)) ∧
  (∀ (s s2 : State) (who : Session) (m : OdpMsg) (r : OdRow) (b : List Byte), arrives who m s = some s2 → m.op = 1 →
    readValue s2 m = .ok (r, b) → odpLimit who < b.length →
    exec (.odpRead who m) s = .next (respond who m { status := 0x05, arg := b.length } s2)) ∧
  (∀ (s s2 : State) (who : Session) (m : OdpMsg) (r : OdRow), arrives who m s = some s2 → m.op = 3 →
    odLook s2 m.index m.sub m.ten = .ok r →
    exec (.describe who m) s = .next (respond who m { status := 0, data := describeBytes r } s2)) ∧
  (∀ (s s2 : State) (who : Session) (m : OdpMsg) (r : OdRow) (b : List Byte), arrives who m s = some s2 → m.op = 4 →
    readValue s2 m = .ok (r, b) → r.typ = 10 → segsFull s2 who = false →
    exec (.segReadInit who m) s = .next (pumpSeg who m.tid (respond who m { status := 0, arg := b.length }
      (putSeg { who := who, req := m, sending := true, total := b.length, buf := b, next := 0, sent := 0,
                gap := false, lastAt := s2.now } s2)))) ∧
  (∀ (s s2 : State) (who : Session) (m : OdpMsg), arrives who m s = some s2 → m.op = 5 →
    segWriteBad s2 who m = none →
    exec (.segWriteInit who m) s = .next (respond who m { status := 0 }
      (putSeg { who := who, req := m, sending := false, total := m.arg, buf := [], next := 0, sent := 0,
                gap := false, lastAt := s2.now } s2))) ∧
  (∀ (s s2 : State) (who : Session) (m : OdpMsg) (a : Nat), arrives who m s = some s2 → m.op = 9 →
    lockPlace m.index = some a → lockTaken s2 who a = false →
    exec (.lockOp who m) s = .next (respond who m { status := 0 }
      (s2.setOd { s2.od with locks := s2.od.locks.set a { who := who, lastAt := s2.now } }))) ∧
  (∀ (s s2 : State) (who : Session) (m : OdpMsg) (a : Nat), arrives who m s = some s2 → m.op = 9 →
    lockPlace m.index = some a → lockTaken s2 who a = true →
    exec (.lockOp who m) s = .next (respond who m { status := 0x07 } s2)) ∧
  (∀ (s s2 : State) (who : Session) (m : OdpMsg) (a : Nat) (l : LockRec), arrives who m s = some s2 → m.op = 0x0A →
    lockPlace m.index = some a → s2.od.locks.get? a = some l → l.who = who →
    exec (.unlockOp who m) s = .next (respond who m { status := 0 }
      (s2.setOd { s2.od with locks := s2.od.locks.erase a }))) ∧
  (∀ (s s1 : State) (who : Session) (m resp : OdpMsg), takeMsg who m s = some s1 → m.op = 1 →
    keptFor (touchLocks who s1) who m = some resp →
    exec (.odpRead who m) s = .next (sendTo who { resp with via := m.via } (touchLocks who s1))) ∧
  (∀ (s s1 : State) (who : Session) (m : OdpMsg) (x : SegXfer), takeMsg who m s = some s1 → m.op = 6 →
    headerBad who m = none → findSeg (touchLocks who s1) who m.tid = some x → x.sending = false →
    m.arg = x.next → x.buf.length < x.total → m.data.length = min (odpLimit who) (x.total - x.buf.length) →
    (x.next + 1) % 16 ≠ 0 → x.buf.length + m.data.length ≠ x.total →
    exec (.segData who m) s = .next (putSeg { x with buf := x.buf ++ m.data, next := x.next + 1, gap := false }
      (touchLocks who s1))) ∧
  (∀ (s s1 : State) (who : Session) (m : OdpMsg) (x : SegXfer), takeMsg who m s = some s1 → m.op = 7 →
    headerBad who m = none → findSeg (touchLocks who s1) who m.tid = some x → x.sending = true →
    x.next ≤ m.arg → m.arg ≤ x.sent →
    exec (.segAck who m) s =
      .next (pumpSeg who m.tid (putSeg { x with next := m.arg, sent := m.arg } (touchLocks who s1)))) ∧
  (∀ (s s2 : State) (who : Session) (m : OdpMsg) (x : SegXfer), arrives who m s = some s2 → m.op = 8 →
    (writeKey s who m).any namedKeys.contains = false → findSeg s2 who m.tid = some x → x.sending = false →
    x.buf.length = x.total → crc32c x.buf = m.arg →
    exec (.segEnd who m) s = .next (respond who m
      { status := (writeBy who x.req x.buf (dropSeg who m.tid s2)).1 }
      (writeBy who x.req x.buf (dropSeg who m.tid s2)).2)) ∧
  (∀ (s s1 : State) (who : Session) (m : OdpMsg), takeMsg who m s = some s1 → m.op = 0x0B → headerBad who m = none →
    exec (.abortOp who m) s = .next (dropSeg who m.tid (touchLocks who s1))) ∧
  (∀ (s : State) (who : Session) (tid : Nat) (x : SegXfer), carillonUp s = true → findSeg s who tid = some x →
    exec (.segTimeout who tid) s =
      .next (abortSeg who x.req 0x0B (s.reach (x.lastAt + 1000000 * Par.segTimeoutMs s)))) ∧
  (∀ (s : State) (area : Nat) (l : LockRec), s.powered = true → s.pw.refclk = true →
    s.od.locks.get? area = some l →
    ∃ t, exec (.lockMaxExpiry area) s = .next t ∧ t = (s.setNow t.now).setOd { s.od with locks := s.od.locks.erase area } ∧
      l.lastAt + 1000000 * Par.lockMaxMs s ≤ t.now) ∧
  (∀ (s : State) (who : Session) (tid : Nat) (k : Kept), s.powered = true → s.pw.refclk = true →
    s.od.kept.find? (fun k => k.who = who && k.req.tid = tid) = some k →
    ∃ t, exec (.tidRetentionExpiry who tid) s = .next t ∧ k.at_ + 100000000 ≤ t.now ∧
      (∀ x, x ∈ t.od.kept → ¬ (x.who = who ∧ x.req.tid = tid))) ∧
  (∀ (s : State), s.powered = true → s.bt.stage ≠ 0 → s.bt.cfgPendingSince.isSome = true →
    ∃ t place, exec .configStoreDone s = .next t ∧ t = s.setBt t.bt ∧ t.bt.cfgPendingSince = none ∧
      t.bt.cfg.get? place = some { s.bt.accepted with seq := ((newestCfg s).elim 0 CfgCopy.seq) + 1 }) ∧
  (∀ (s : State) (p len : Nat), mailboxUp s p = true → (getMb s p).state ≠ 1 →
    exec (.mbDoorbell p len) s =
      .next (setMb s p { getMb s p with state := 1, handed := some (len % 32768) })) ∧
  (∀ (s : State) (p len : Nat), mailboxUp s p = true → (getMb s p).state = 1 →
    exec (.mbDoorbell p len) s = .next (setMb s p { getMb s p with overrun := true })) ∧
  (∀ (s : State) (p : Nat), mailboxUp s p = true → (getMb s p).state = 2 →
    exec (.mbRelease p) s = .next (pumpMb p (setMb s p { getMb s p with state := 0 }))) ∧
  (∀ (s : State) (p : Nat), mailboxUp s p = true →
    exec (.mbOverrunClear p) s = .next (setMb s p { getMb s p with overrun := false })) ∧
  (∀ (s : State) (p : Nat), mailboxUp s p = true →
    exec (.mbNotifyLostClear p) s = .next (setMb s p { getMb s p with notifyLost := false })) ∧
  (∀ (s : State) (p head : Nat), mailboxUp s p = true →
    exec (.mbNotifyHead p head) s = .next (setMb s p { getMb s p with notifyHead := head % 64 }))

/-- Writes of the objects of the tiers, Frost, the tabors, the fabric and the arbiters have their chapters' effect
(R61, R69, R93, R124, R129, R160, R213, R214, R231, R448, R452), and an object without a rule of its own takes
the value written (R514).

Writes of the objects of recovery, the dictionary, scripts, identity, firmware and keys have their chapters'
effect (R488, R493, R494, R517, R534, R535, R538, R548, R549, R551, R555, R558, R559, R562). What a digest or a
signature decides is left to the standards' functions. -/
def Obligations.OdpWritesTakeEffect : Prop :=
  (∀ (s : State) (who : Session) (m : OdpMsg), writeReady 0x300012 who m s = true → leNat m.data = 0 →
    ∃ t, exec (.drained who m) s = .next t ∧ t.ti = { s.ti with drained := false } ∧ t.mem = s.mem) ∧
  (∀ (s : State) (who : Session) (m : OdpMsg), writeReady 0x34000C who m s = true → leNat m.data = 1 →
    mgmtStandby s = true → s.fr.closed = false → s.fr.closing = false → s.bt.mounted = true →
    ∃ t, exec (.close who m) s = .next t ∧ t.fr.closing = true ∧ t.fr.closed = false) ∧
  (∀ (s : State) (who : Session) (m : OdpMsg), writeReady 0x340003 who m s = true →
    s.fr.pageGroup.length ≤ slotsUnder s (leNat m.data) →
    ∃ t, exec (.reservePct who m) s = .next t ∧ t.od.num.get? 0x340003 = some (leNat m.data) ∧
      t.ti.flashSlots = s.ti.flashSlots ∧ t.bt.cfgPendingSince.isSome = true) ∧
  (∀ (s : State) (who : Session) (m : OdpMsg), writeReady 0x380005 who m s = true → leNat m.data < 4352 →
    s.co.fused.mem (leNat m.data) = false → s.co.fenced.mem (leNat m.data) = false →
    s.co.fences.has (leNat m.data) = false →
    ∃ t, exec (.fenceTabor who m) s = .next t ∧ t.rc = (fault 0x11 1 (leNat m.data) 0 [] s).rc ∧ t.co = s.co) ∧
  (∀ (s : State) (who : Session) (m : OdpMsg), writeReady 0x380008 who m s = true → leNat m.data = 1 →
    mgmtStandby s = true →
    ∃ t, exec (.fenceClear who m) s = .next t ∧ t.co = { s.co with fenceClear := true }) ∧
  (∀ (s : State) (who : Session) (m : OdpMsg), writeReady 0x3C0004 who m s = true → leNat m.data = 0 →
    ∃ t, exec (.lastVerify who m) s = .next t ∧ t.od.lastVerify = s.od.lastVerify.erase m.tenant) ∧
  (∀ (s : State) (who : Session) (m : OdpMsg), writeReady 0x402001 who m s = true →
    ∃ t, exec (.portEnable who m) s = .next t ∧ Par.portEnable t (m.index - 0x4020) = leNat m.data ∧ t.mem = s.mem) ∧
  (∀ (s : State) (who : Session) (m : OdpMsg), writeReady 0x402008 who m s = true → leNat m.data = 1 →
    ∃ t, exec (.retrain who m) s = .next t ∧
      (∀ n, n ∈ subsOf s (m.index - 0x4020) → (getSub s n).step ≠ 0 →
        (getSub t n).state = 0 ∧ (getSub t n).step = 1)) ∧
  (∀ (s : State) (who : Session) (m : OdpMsg), writeReady 0x400012 who m s = true →
    leField s.fa.compStage 2 2 = leNat m.data → stagedOk s.fa.compStage = true →
    routesOk 65536 0 s.fa.nrtStage = true → leField s.fa.compStage 0 2 ≠ s.fa.composition → standby s = false →
    inRecovery s = false →
    ∃ t, exec (.commit who m) s = .next t ∧ t.fa.composition = leField s.fa.compStage 0 2 ∧
      t.fa.generation = leNat m.data ∧ t.fa.nodeId = leField s.fa.compStage 4 2 ∧
      t.fa.nrt = routesFrom 65536 0 s.fa.nrtStage ∧ t.fa.prevJobs = []) ∧
  (∀ (s : State) (who : Session) (m : OdpMsg) (tenant : Nat) (full : Bool) (e : Nat × Nat × Nat),
    writeReady 0x740003 who m s = true → shaperArgs 10 m.data = some (tenant, full, e) →
    ∃ t, exec (.tenantShaperSet who m) s = .next t ∧ t.od.tenantShapers.get? tenant = some e) ∧
  (∀ (s : State) (who : Session) (m : OdpMsg) (c : Nat) (full : Bool) (e : Nat × Nat × Nat),
    writeReady 0x742002 who m s = true → shaperArgs 3 m.data = some (c, full, e) →
    ∃ t, exec (.classShaperSet who m) s = .next t ∧ t.od.classShapers.get? ((m.index - 0x7420) * 8 + c) = some e) ∧
  (∀ (s : State) (who : Session) (m : OdpMsg), writeReady 0x742003 who m s = true → m.data.any (· = 0) = false →
    ∃ t, exec (.dwrrWeights who m) s = .next t ∧ t.od.oct.get? (m.index * 256 + 3) = some m.data) ∧
  (∀ (s : State) (who : Session) (m : OdpMsg), writeReady 0x200004 who m s = true → leNat m.data % 100 = 0 →
    ∃ t, exec (.odpWrite who m) s = .next t ∧ t.od.num.get? 0x200004 = some (leNat m.data)) ∧
  (∀ (s : State) (who : Session) (m : OdpMsg), writeReady 0x180003 who m s = true → leNat m.data = 0 →
    ∃ t, exec (.eventOverrun who m) s = .next t ∧ t.rc = { s.rc with overrun := false }) ∧
  (∀ (s : State) (who : Session) (m : OdpMsg) (kit : Nat), writeReady 0x78000A who m s = true → kit < 64 →
    leNat m.data = 2 + 65536 * kit →
    ∃ t, exec (.resetRequest who m) s = .next t ∧ t.rc = (fault 0x11 2 kit 0 [] s).rc) ∧
  (∀ (s : State) (who : Session) (m : OdpMsg), writeReady 0x78000B who m s = true → leNat m.data = 1 →
    s.rc.deviceState = 0 → s.rc.oosRunning = false →
    ∃ t, exec (.takeOutOfService who m) s = .next t ∧ t.rc.oosRunning = true ∧ t.rc.oosReason = 4 ∧
      t.rc = (leaveService 4 0 s).rc) ∧
  (∀ (s : State) (who : Session) (m : OdpMsg), writeReady 0x080001 who m s = true → s.tr.tenants = [] →
    s.fa.composition = 0 → s.ti.drainItems = [] →
    ∃ t, exec (.mgmtMode who m) s = .next t ∧ t.od.num.get? 0x080001 = some (leNat m.data)) ∧
  (∀ (s : State) (who : Session) (m : OdpMsg), writeReady 0x080004 who m s = true → leNat m.data = 1 →
    mgmtStandby s = true →
    ∃ t, exec (.restoreDefaults who m) s = .next t ∧ t.bt.cfgPendingSince.isSome = true ∧
      t.bt.accepted.nums = s.bt.accepted.nums.keep (fun k _ => 0x900000 ≤ k) ∧ t.od.num = s.od.num) ∧
  (∀ (s : State) (who : Session) (m : OdpMsg), writeReady 0x080010 who m s = true → leNat m.data = 0 →
    s.od.firings = [] →
    ∃ t, exec (.triggerLost who m) s = .next t ∧ t.od.triggerLost = false) ∧
  (∀ (s : State) (who : Session) (m : OdpMsg), writeReady 0x081001 who m s = true → m.data = [] →
    Par.scriptEnable s (m.index - 0x0810) = 0 →
    ∃ t, exec (.scriptImage who m) s = .next t ∧ t.od.oct.get? (m.index * 256 + 1) = some []) ∧
  (∀ (s : State) (who : Session) (m : OdpMsg), writeReady 0x081004 who m s = true →
    ∃ t, exec (.scriptEnable who m) s = .next t ∧ Par.scriptEnable t (m.index - 0x0810) = leNat m.data) ∧
  (∀ (s : State) (who : Session) (m : OdpMsg), writeReady 0x100010 who m s = true → leNat m.data = s.bt.bootId →
    s.bt.regState = 2 →
    ∃ t, exec (.regAck who m) s = .next t ∧
      t.bt = { s.bt with regState := 3, regOwed := false, regWaits := false }) ∧
  (∀ (s : State) (who : Session) (m : OdpMsg), writeReady 0x10000A who m s = true → s.bt.stage ≠ 6 →
    s.bt.fwState ≠ 2 →
    ∃ t, exec (.fwStage who m) s = .next t ∧
      t.bt = (if (fwCheck s m.data).isNone then { s.bt with staged := m.data, fwState := 1 } else s.bt)) ∧
  (∀ (s : State) (who : Session) (m : OdpMsg), writeReady 0x10000C who m s = true → leNat m.data = 1 →
    mgmtStandby s = true → s.bt.fwState = 1 →
    ∃ t, exec (.fwCommit who m) s = .next t ∧ t.bt = { s.bt with fwState := 2 }) ∧
  (∀ (s : State), s.powered = true → s.bt.fwState = 2 → s.bt.stage ≠ 5 →
    ∃ t, exec (.fwProgramDone true) s = .next t ∧ t.bt = { s.bt with nor := s.bt.staged, fwState := 3 } ∧
      t = raise 0x1A0 0 0 0 (s.setBt t.bt)) ∧
  (∀ (s : State) (who : Session) (m : OdpMsg) (img : ImgInfo), writeReady 0x10000D who m s = true →
    leNat m.data = 1 → mgmtStandby s = true → s.bt.running = some img →
    ∃ t, exec (.svnCommit who m) s = .next t ∧ t.bt = { s.bt with svnFused := max s.bt.svnFused img.svn }) ∧
  (∀ (s : State) (who : Session) (m : OdpMsg), writeReady 0x900005 who m s = true → leField m.data 0 2 ≠ 0 →
    leField m.data 2 1 ≤ 1 → allZero (slice m.data 3 5) = true → s.bt.fabricKeys.get? (leField m.data 2 1) = none →
    ∃ t, exec (.fabricKeySet who m) s = .next t ∧
      t.bt.fabricKeys.get? (leField m.data 2 1) = some (leField m.data 0 2, m.data.drop 8)) ∧
  (∀ (s : State) (who : Session) (m : OdpMsg), writeReady 0x900006 who m s = true → leNat m.data ≠ 0 →
    s.bt.fabricKeys.any (fun kv => kv.2.1 = leNat m.data) = true →
    ∃ t, exec (.fabricKeyActive who m) s = .next t ∧ Par.fabricKeyActive t = leNat m.data) ∧
  (∀ (s : State) (who : Session) (m : OdpMsg), writeReady 0x900004 who m s = true → leNat m.data < 4 →
    mgmtStandby s = true → s.bt.running = none → s.bt.revoked = 0 →
    ∃ t, exec (.rootKeyRevoke who m) s = .next t ∧ t.bt = { s.bt with revoked := 2 ^ leNat m.data }) ∧
  (∀ (s : State) (who : Session) (m : OdpMsg), writeReady 0x900009 who m s = true → mgmtStandby s = true →
    s.tr.tenants = [] →
    ∃ t, exec (.debugUnlock who m) s = .next t ∧ t.bt = { s.bt with debugUnlocked := s.bt.debugUnlocked ||
      (decide (m.data.take 16 = fitTo s.bt.serial 16 0) &&
        ecdsaVerify Config.debugKey (m.data.take 16 ++ leBytes 8 s.bt.bootId) (m.data.drop 16)) })

/-! Supplies, boot and attestation (chapters 21 and 22). -/

/-- The board's commands (R58, R567, R569, R572): supplies in tolerance leave RESET_N asserted; RESET_N drops the
volatile state and keeps the home map, what flash holds, the fuses and the NOR; a pulse of at least 200 µs
keeps every byte; its rise is local time 0 and samples the straps; a loss of supply loses the home map, which
the next mount rebuilds.

Boot (R95, R540, R543, R546, R550, R559, R561): step 1 brings a BOOT_ID that is not 0 and BOOT_STAGE IMAGE; a
valid image runs and the ports train, and any other brings recovery mode and FIRMWARE_REJECTED with the
check that failed; training without stack 0 brings FAILED and out of service, and otherwise MOUNT; after a
clean mount the device becomes READY; in recovery mode stack 0 holds the staging buffer.

Attestation over DOE (R556, R557). While SPDM_ENABLE is 1 and the algorithms are agreed, each request is
answered by one response on the port it came by, whose code and contents DSP0274 gives (PRESUMED: the codes
are that standard's, not the spec's); certificates are of slot 0 only; challenges and measurements draw a
nonce and are signed by the alias key. -/
def Obligations.DeviceBootsAndAttests : Prop :=
  (∀ (s : State), s.pw.supply = false →
    exec .powerGood s = .next (s.setPw { s.pw with supply := true, refclk := true, resetLow := true, pwrSafe := false })) ∧
  (∀ (s : State), s.pw.supply = true → s.pw.resetLow = false → s.bt.cfgPendingSince = none →
    ∃ t, exec .resetNAssert s = .next t ∧ t.pw.resetLow = true ∧ t.pw.dramSelfRefresh = true ∧
      t.pw.faultLow = s.pw.faultLow ∧ t.bt.stage = 0 ∧ t.ho = {} ∧ t.rc = {} ∧ t.od = {} ∧ t.ch = {} ∧
      t.ti.homeB = t.ti.homeA ∧ t.ti.moves = [] ∧ t.fr.loc = s.fr.loc ∧ t.fr.journal = s.fr.journal ∧
      t.bt.svnFused = s.bt.svnFused ∧ t.bt.revoked = s.bt.revoked ∧ t.bt.cfg = s.bt.cfg ∧
      (s.bt.fwState ≠ 2 → t.bt.nor = s.bt.nor) ∧ t.mem = s.mem ∧ t.pending = s.pending) ∧
  (∀ (s : State) (heldNs canId : Nat), s.pw.supply = true → s.pw.resetLow = true → 200000 ≤ heldNs →
    exec (.resetNDeassert heldNs canId) s =
      .next ((s.setPw { s.pw with resetLow := false, faultLow := false, canNode := canId % 128 }).setNow 0)) ∧
  (∀ (s : State) (heldNs canId : Nat), s.pw.supply = true → s.pw.resetLow = true → heldNs < 200000 →
    s.fr.afterLoss = false →
    ∃ t, exec (.resetNDeassert heldNs canId) s = .next t ∧ t.now = 0 ∧ t.pw.resetLow = false ∧
      t.pw.dramEpoch = s.pw.dramEpoch + 1 ∧ t.pw.canNode = canId % 128 ∧
      (∀ page e, (page, e) ∈ s.ti.homeA → e.tier = 1 ∨ e.tier = 2 →
        t.ti.undef.get? page = some (s.pw.dramEpoch + 1))) ∧
  (∀ (s : State), s.pw.supply = true →
    ∃ t, exec .supplyLoss s = .next t ∧ t.pw.supply = false ∧ t.pw.dramSelfRefresh = false ∧ t.ti.homeA = [] ∧
      t.ti.homeB = [] ∧ t.ti.used = [] ∧ t.fr.afterLoss = true ∧ t.fr.journal = s.fr.journal ∧
      t.fr.loc = s.fr.loc ∧ t.bt.svnFused = s.bt.svnFused ∧ t.bt.cfg = s.bt.cfg ∧ t.pending = s.pending) ∧
  (∀ (s : State), s.powered = true → s.bt.stage = 0 → bootHolds s = false →
    ∃ t, exec .bootIslandUp s = .next t ∧ t.bt.stage = 1 ∧ 0 < t.bt.bootId ∧ t.bt.bootId < 2 ^ 64 ∧
      t.od.num.get? 0x080001 = some (Par.startMode t) ∧ t.freeCtr = s.freeCtr + 1 ∧ t.mem = s.mem ∧ t.ti = s.ti) ∧
  (∀ (s : State), s.powered = true → s.bt.stage = 1 → bootHolds s = false → fwCheck s s.bt.nor = none →
    ∃ t, exec .imageLoaded s = .next t ∧ t.bt.stage = 2 ∧ t.bt.running = some (imgInfo s.bt.nor) ∧
      t.bt.nor = s.bt.nor ∧ t.mem = s.mem) ∧
  (∀ (s : State) (reason : Nat), s.powered = true → s.bt.stage = 1 → bootHolds s = false →
    fwCheck s s.bt.nor = some reason →
    exec .imageLoaded s = .next (raise 0x1A1 0 reason 0 (s.setBt { s.bt with stage := 5 }))) ∧
  (∀ (s : State) (fs fd : List Nat), s.powered = true → s.bt.stage = 2 → bootHolds s = false → 0 ∈ fs →
    ∃ t, exec (.dramTrained fs fd) s = .next t ∧ t.bt.stage = 6 ∧ t.rc.deviceState = 2 ∧ t.rc.oosReason = 3 ∧
      t.rc.quiesceOrdered = true ∧ t.mem = s.mem) ∧
  (∀ (s : State), s.powered = true → s.bt.stage = 2 → bootHolds s = false →
    ∃ t, exec (.dramTrained [] []) s = .next t ∧ t.bt = { s.bt with stage := 3 } ∧ t.fr = { s.fr with mounting := true } ∧
      t.pw.dramSelfRefresh = false ∧ t.mem = s.mem ∧ t.ti = s.ti) ∧
  (∀ (s : State), s.powered = true → s.bt.stage = 3 → bootHolds s = false → s.fr.mounting = true →
    s.fr.afterLoss = false → s.fr.closeRecord = true →
    ∃ t, exec (.mountDone [] []) s = .next t ∧ t.bt.mounted = true ∧ t.fr.mounting = false ∧ t.fr.closed = false ∧
      t.fr.lastMount = 0 ∧ t.ti.homeA = s.ti.homeA ∧ t.mem = s.mem ∧
      t.ti.rangePages = (8 * s.board.stackBytes + (s.board.dimmBytes.map Prod.snd).sum +
        t.fr.diesMounted * s.board.dieBytes) / 0x200000 ∧
      (∀ task, task < 5 → (getDrum t task).t0 = s.now)) ∧
  (∀ (s : State), s.powered = true → s.bt.stage = 3 → bootHolds s = false → s.bt.mounted = true →
    ∃ t, exec .bootReady s = .next t ∧ t.bt.stage = 4 ∧ t.bt.regWarm = false ∧ t.mem = s.mem) ∧
  (∀ (s : State) (stack4Ok : Bool), s.powered = true → s.bt.stage = 5 → s.bt.recoveryStack = none →
    bootHolds s = false →
    exec (.recoveryStackTrained true stack4Ok) s = .next (s.setBt { s.bt with recoveryStack := some 0 })) ∧
  (∀ (s : State), s.powered = true → s.bt.stage = 5 → s.bt.recoveryStack = none → bootHolds s = false →
    exec (.recoveryStackTrained false false) s = .next (s.setBt { s.bt with stage := 6 })) ∧
  (∀ (s : State), s.alive = true → s.bt.stage = 4 → s.rc.warmStep = 0 → s.bt.regState = 1 → s.pw.refclk = true →
    mgmtPeers s ≠ [] →
    ∃ t, exec .registrationAttempt s = .next t ∧ t.bt.regState = 2 ∧ t.bt.regAttempt = s.bt.regAttempt + 1 ∧
      s.bt.regDue ≤ t.now ∧ t.now ≤ t.bt.regDue ∧ t.mem = s.mem) ∧
  (∀ (s : State) (p : Nat), spdmUp s p = true → Par.spdmEnable s ≠ 0 →
    exec (.getVersion p) s =
      .next (emit (.spdm p 0x04 [0x12, 0x13]) (s.setBt { s.bt with spdm := s.bt.spdm.erase p }))) ∧
  (∀ (s : State) (p : Nat), spdmUp s p = true → Par.spdmEnable s ≠ 0 →
    exec (.getCapabilities p 0x13) s = .next (emit (.spdm p 0x61 (leBytes 1 0x13 ++ leBytes 4 0x16)) s)) ∧
  (∀ (s : State) (p asym hash : Nat), spdmUp s p = true → Par.spdmEnable s ≠ 0 → bitOf asym 7 = true →
    bitOf hash 1 = true →
    exec (.negotiateAlgorithms p 0x13 asym hash) s =
      .next (emit (.spdm p 0x63 (leBytes 4 0x80 ++ leBytes 4 0x02))
        (s.setBt { s.bt with spdm := s.bt.spdm.set p 0x13 }))) ∧
  (∀ (s : State) (p ver : Nat), spdmUp s p = true → Par.spdmEnable s ≠ 0 → s.bt.spdm.get? p = some ver →
    exec (.getDigests p ver) s =
      .next (emit (.spdm p 0x01 (leBytes 1 1 ++ sha384 (slot0Chain s))) s)) ∧
  (∀ (s : State) (p ver offset len : Nat), spdmUp s p = true → Par.spdmEnable s ≠ 0 →
    s.bt.spdm.get? p = some ver → offset < (slot0Chain s).length →
    ∃ b, exec (.getCertificate p ver 0 offset len) s =
        .next (emit (.spdm p 0x02 (b ++ slice (slot0Chain s) offset len)) s) ∧ b.length = 5) ∧
  (∀ (s : State) (p ver nonce : Nat), spdmUp s p = true → Par.spdmEnable s ≠ 0 → s.bt.spdm.get? p = some ver →
    ∃ body, exec (.challenge p ver 0 nonce) s =
        .next (emit (.spdm p 0x03 (body ++ aliasSign s (leBytes 32 nonce ++ body))) (s.setFreeCtr (s.freeCtr + 1)))) ∧
  (∀ (s : State) (p ver index nonce : Nat) (block : List Byte), spdmUp s p = true → Par.spdmEnable s ≠ 0 →
    s.bt.spdm.get? p = some ver → index ≠ 0 → index ≠ 0xFF → (measurements s).get? index = some block →
    ∃ head rest, exec (.getMeasurements p ver index nonce) s =
        .next (emit (.spdm p 0x60 (head ++ block ++ rest)) (s.setFreeCtr (s.freeCtr + 1)))) ∧
  (∀ (s : State) (p : Nat), spdmUp s p = true → Par.spdmEnable s = 0 →
    exec (.getVersion p) s = .next (spdmError p 0x07 s)) ∧
  (∀ (s : State) (p ver slot offset len : Nat), spdmUp s p = true → Par.spdmEnable s ≠ 0 →
    s.bt.spdm.get? p = some ver → slot ≠ 0 →
    exec (.getCertificate p ver slot offset len) s = .next (spdmError p 0x01 s))

/-! The block's step, the quiesce and the range's bytes. -/

/-- A step performs the command at the front of the queue on the rest of the device, with the rest of the queue
waiting; on an empty queue the device idles, and only its local time moves. -/
def Obligations.StepRunsTheCommandInFront : Prop :=
  (∀ (s : State) (c : Instr) (rest : List Instr),
    step (s.setPending (c :: rest)) = exec c (s.setPending rest)) ∧
  (∀ (s : State), s.pending = [] → ∃ t, step s = .next t ∧ t = s.setNow t.now ∧ s.now ≤ t.now) ∧
  (∀ (s : State) (nbits w : Nat), s.withFetchWord nbits w = s)

/-- A device that is without supply, held in reset or quiesced does nothing (R486, R571): every command but those of
the board's supplies and of RESET_N leaves it exactly as it is. The one command with an operand outside the machine, the report
of a line beyond the installed range, faults. -/
def Obligations.UnpoweredDeviceIsInert : Prop :=
  ∀ (s : State) (c : Instr), s.powered = false → boardCommand c = false →
    exec c s = .next s ∨ ∃ a, exec c s = .fault (.absentAddress a)

/-- The quiesce of the hardwired path stands until the board acts (R486): once the path has fired, FAULT_N stays low, DRAM
stays in self-refresh and no other part of the device but the queue changes, through every step that takes no
command of the board. The path's firing brings a device to this. -/
def Obligations.QuiesceStands : Prop :=
  (∀ (s : State), s.standsQuiesced →
    (∃ t, step s = .next t ∧ t.standsQuiesced ∧ t = (s.setPending t.pending).setNow t.now) ∨
      ∃ a, step s = .fault (.absentAddress a)) ∧
  (∀ (s : State), s.powered = true → (∀ c ∈ s.pending, boardCommand c = false) →
    ∃ t, exec .hardwiredPathFire s = .next t ∧ t.standsQuiesced ∧ t.mem = s.mem ∧ t.pw.pwrSafe = s.pw.pwrSafe)

/-- The range's bytes keep their canonical form, whatever command is performed: two devices with the same contents
are the same data. -/
def Obligations.MemoryStaysCanonical : Prop :=
  ∀ (s t : State), s.memOk → step s = .next t → t.memOk

/-- The device after a cold reset: on a powered board that has just deasserted RESET_N, no step of boot is done, no command
waits, no reset, fault or event is recorded, no tenant, window or item exists, and the range lists no byte, each
of which reads as zero (the model's choice: the log entries on the reset state and on unwritten bytes). -/
def Obligations.ResetIsBareAndCanonical : Prop :=
  State.reset.memOk ∧ State.reset.pending = [] ∧ State.reset.powered = true ∧ State.reset.bt.stage = 0 ∧
    State.reset.rc.resets = [] ∧ State.reset.rc.faultSeq = 0 ∧ State.reset.rc.newest = 0 ∧ State.reset.rc.deviceState = 0 ∧
    State.reset.pw.stage = 0 ∧ State.reset.pw.faultLow = false ∧ State.reset.pw.pwrSafe = false ∧
    State.reset.tr.tenants = [] ∧ State.reset.fa.rwt = [] ∧ State.reset.ho.items = [] ∧ ∀ a, rdByte State.reset a = 0

/-! Rules of the chapters, stated whole. -/

/-- R120 and R121: a tabor's physical number, the mesh distance of two kits, and a line's home sliver and that sliver's
native kit, which homes it while the Sliver Map names no other. -/
def Obligations.HomeSliversAndMesh : Prop :=
  (∀ (kit pos : Nat), kit < 64 → pos < 68 → kit * 68 + pos ≤ 4351) ∧
  (∀ (s : State) (line : Nat),
    homeTabor s line = (sliverEnt s (sliverOf line)).kit * 68 + (sliverEnt s (sliverOf line)).pos) ∧
  (∀ (j k : Nat), j < 64 → k < 64 →
    meshDistance j k = ((j % 8 : Int) - (k % 8 : Int)).natAbs + ((j / 8 : Int) - (k / 8 : Int)).natAbs) ∧
  (∀ (pha : Nat), pha < 2 ^ 50 →
    sliverOf (pha / 64) = bitsOf (pha / 64 * 0x9E3779B97F4A7C15 % 2 ^ 64) 63 52 ∧ sliverOf (pha / 64) < 4096) ∧
  (∀ (s : State) (sl : Nat), s.co.map.get? sl = none → (sliverEnt s sl).kit = sl / 64)

/-- R271: an access hits only an entry in VALID of its tenant that maps its page and gives the right it needs. -/
def Obligations.TranslationHits : Prop :=
  (∀ (e : PtcEnt) (tenant pva : Nat) (write : Bool),
    e.hits tenant pva write = true ↔
      e.draining = false ∧ e.tenant = tenant ∧
        (if e.big then e.vpn / 512 = pva / 0x40000000 else e.vpn = pva / 0x200000) ∧
        (if write then e.w = true else e.r = true)) ∧
  (∀ (s : State) (tenant pva ent pha : Nat) (write : Bool), ptcLook s tenant pva write = .hit ent pha →
    ∃ e, s.tr.ptc.first? (fun _ e => e.hits tenant pva write) = some (ent, e) ∧
      e.hits tenant pva write = true ∧ pha = e.pha pva ∧ e.inflight < 65535) ∧
  (∀ (s : State) (tenant pva : Nat) (write : Bool),
    (∀ n e, s.tr.ptc.get? n = some e → e.hits tenant pva write = false) → FMap.wf s.tr.ptc = true →
    ptcLook s tenant pva write = .miss)

/-- R269: an entry of the command ring that names a tenant of the other port is not executed, and its result entry
carries ACCESS_DENIED. -/
def Obligations.CommandsOfTheOtherPort : Prop :=
  ∀ (port op : Nat) (e : Quad) (c : Instr) (s t : State), cmdRow port op e c → cmdArrives port op e s = some t →
    tenantPort (cmdTenant e) ≠ port →
    exec c s = .next (giveResult port (cmdTenant e) (cmdTag e) Config.accessDenied t)

/-- R276: a FILL that maps a pool page outside the grants of the entry's tenant is refused with INVALID_DESCRIPTOR, and
counts as a DENY for the tasks that wait on it; one within them is installed. -/
def Obligations.FillsStayWithinGrants : Prop :=
  ∀ (port span : Nat) (e : Quad) (s t : State), takesCmd port 1 e s = some t →
    span = (if bitOf e.w0.toNat 20 then 512 else 1) →
    e.w1.toNat % (0x200000 * span) = 0 → e.w2.toNat % span = 0 → e.w2.toNat + span ≤ t.ti.rangePages →
    ((∀ k, k < span → grantedTo t (cmdTenant e) (e.w2.toNat + k) = true) →
      exec (.fill port e) s = .next (install
        { tenant := cmdTenant e, vpn := e.w1.toNat / 0x200000, big := bitOf e.w0.toNat 20, r := bitOf e.w0.toNat 21,
          w := bitOf e.w0.toNat 22, ppn := e.w2.toNat, draining := false, inflight := 0, last := t.now } t)) ∧
    (∀ k, k < span → grantedTo t (cmdTenant e) (e.w2.toNat + k) = false →
      exec (.fill port e) s = .next
        ((t.tr.misses.filter fun kv => kv.2.tenant = cmdTenant e && e.w1.toNat / 0x200000 ≤ kv.2.vpn &&
            kv.2.vpn < e.w1.toNat / 0x200000 + span).foldl (fun s kv => denyMiss kv.1 s)
          (giveResult port (cmdTenant e) (cmdTag e) Config.invalidDescriptor t)))

/-- R237: WINDOW_OPEN completes with NO_SPACE when the Remote Window Table is full, and when the tenant already holds
WINDOWS_PER_TENANT entries. -/
def Obligations.WindowTableHasRoom : Prop :=
  ∀ (n : Nat) (s : State) (i : Item) (base : Nat) (s2 : State), itemReady n 0x18 s = some i →
    widthsOk i.words [56, 44, 40, 37] = true → wordAt i.words 1 % 64 = 0 → wordAt i.words 2 ≠ 0 →
    wBits i.words 4 36 18 ≤ 262144 → wordAt i.words 1 + 64 * wordAt i.words 2 ≤ 2 ^ 56 →
    ownsCounters (setItem n i s) i.tenant (wBits i.words 4 17 0) (wBits i.words 4 36 18) = true →
    windowWalk n i.tenant (wordAt i.words 1) (64 * wordAt i.words 2) (wordAt i.words 2 / 0x8000 + 3) i.prog
      (i.regs.getD 0 0) (setItem n i s) = .ok base s2 →
    s2.fa.rwt.has (rwtKey (wBits i.words 3 19 0) (wBits i.words 3 35 20)) = false →
    (65536 ≤ s2.fa.rwt.length ∨ Par.windowsPerTenant s2 ≤ s2.fa.rwt.count (fun _ w => w.tenant = i.tenant)) →
    exec (.windowOpen n) s = .next (endItem n Config.noSpace 0 0 s2)

/-- R367: element i of a row dequantises to one fp32 fused multiply-add of its code, converted exactly, and the row's SCALE
and OFFSET, widened exactly from bf16. -/
def Obligations.RowsDequantise : Prop :=
  ∀ (r : RowVal) (i code : Nat), r.codes[i]? = some code →
    (dequant r)[i]? = some (ffma Fmt.fp32 (encodeF Fmt.fp32 (FVal.ofInt (code : Int))) (bf16To32 r.scale) (bf16To32 r.offset)) ∧
    (dequant r).length = r.codes.length ∧ bf16To32 r.scale = r.scale * 2 ^ 16 ∧ bf16To32 r.offset = r.offset * 2 ^ 16

/-- R429 and R430: the parameters of each algorithm with its check value over "123456789"; the configurations that are
refused, by CHECK and by CHM INIT, with INVALID_DESCRIPTOR. -/
def Obligations.CheckAlgorithms : Prop :=
  (∀ (alg : Nat) (p : CrcPar) (check : Nat), (alg, p, check) ∈
      [(1, ⟨32, 0x1EDC6F41, 0xFFFFFFFF, 0xFFFFFFFF, true, true⟩, 0xE3069283),
       (2, ⟨32, 0x04C11DB7, 0xFFFFFFFF, 0xFFFFFFFF, true, true⟩, 0xCBF43926),
       (3, ⟨64, 0xAD93D23594C93659, 0xFFFFFFFFFFFFFFFF, 0xFFFFFFFFFFFFFFFF, true, true⟩, 0xAE8B14860A799888),
       (4, ⟨16, 0x1021, 0xFFFF, 0, false, false⟩, 0x29B1),
       (5, ⟨8, 0x07, 0, 0, false, false⟩, 0xF4)] →
    crcSelect alg ⟨0, 0, 0, 0, false, false⟩ = some p ∧
      crcValue p (crcFeed p p.init [0x31, 0x32, 0x33, 0x34, 0x35, 0x36, 0x37, 0x38, 0x39]) = check) ∧
  (∀ (par : CrcPar), crcSelect 0 par = some par ↔
    8 ≤ par.width ∧ par.width ≤ 64 ∧ par.poly ≠ 0 ∧ par.poly < 2 ^ par.width ∧ par.init < 2 ^ par.width ∧
      par.xorout < 2 ^ par.width) ∧
  (∀ (alg : Nat) (par : CrcPar), alg ≠ 0 → par ≠ ⟨0, 0, 0, 0, false, false⟩ → crcSelect alg par = none) ∧
  (∀ (n : Nat) (s : State) (i : Item), itemReady n 0x40 s = some i →
    crcSelect (wBits i.words 1 2 0) (checkPar i.words) = none →
    exec (.check n) s = .next (endItem n Config.invalidDescriptor 0 0 (setItem n i s))) ∧
  (∀ (p : Proc) (w : BitVec 32) (s : State) (c : Ctx) (bytes : List Byte), issues .chmInit p w s = some c →
    c.readS (srcA w c).toNat 48 = some bytes →
    crcSelect (leField bytes 0 1) ⟨leField bytes 1 1, leField bytes 8 8, leField bytes 16 8, leField bytes 24 8,
      bitOf (leField bytes 2 1) 0, bitOf (leField bytes 2 1) 1⟩ = none →
    exec (.chmInit p w) s = .next (failProc p c Config.invalidDescriptor s))

/-! Fuel, faults and sessions. -/

/-- Fuel (R143): with none left no instruction issues, and its program ends with FUEL_EXHAUSTED. An instruction that no program
can issue now changes nothing. -/
def Obligations.FuelRunsOut : Prop :=
  (∀ (p : Proc) (w : BitVec 32) (s : State) (op : Op) (c : Ctx) (i : Instr), (op, i) ∈ phicorRows p w →
    canIssue p op w.toNat s = some c → c.fuel = 0 →
    exec i s = .next (failProc p c Config.fuelExhausted s)) ∧
  (∀ (p : Proc) (w : BitVec 32) (s : State) (op : Op) (i : Instr), (op, i) ∈ phicorRows p w →
    canIssue p op w.toNat s = none → exec i s = .next s)

/-- Faults that order a reset (R476, R479, R480): a fault that no reset in progress covers has its record put at the end of its
handler's queue, as PENDING, with the next number, and its reset is decided; a 65th record of a queue is not
queued, and a chip warm reset with cause QUEUE_OVERFLOW is ordered whose record names the overflowing fault. -/
def Obligations.FaultsAreRecorded : Prop :=
  (∀ (cause domain index detail : Nat) (tasks : List Task) (s : State), s.rc.resets = [] → s.rc.deviceState = 0 →
    domain ≠ 7 → s.rc.islandFailed = false → s.rc.queueA.length < 64 →
    ∃ t, fault cause domain index detail tasks s = t ∧ t = s.setRc t.rc ∧
      t.rc.queueA = s.rc.queueA ++ [⟨cause, domain, 0, 0, index, s.rc.faultSeq + 1, s.now, 0, detail⟩] ∧
      t.rc.faultSeq = s.rc.faultSeq + 1 ∧ t.rc.queueB = s.rc.queueB ∧ t.rc.history = s.rc.history ∧
      t.rc.resets = [⟨domain, index, cause, s.rc.faultSeq + 1, s.now, false, if domain = 1 then [index] else [], tasks⟩]) ∧
  (∀ (cause domain index detail : Nat) (tasks : List Task) (s : State), s.rc.resets = [] → s.rc.deviceState = 0 →
    domain ≠ 7 → s.rc.islandFailed = false → s.rc.queueA.length = 64 →
    ∃ t, fault cause domain index detail tasks s = t ∧ t = s.setRc t.rc ∧ t.rc.queueA = s.rc.queueA ∧
      t.rc.queueB = s.rc.queueB ∧ t.rc.history = s.rc.history ∧
      t.rc.overflow = some ⟨0x10, 6, 0, 0, 0, s.rc.faultSeq + 1, s.now, 0, cause⟩ ∧
      t.rc.resets = [⟨6, 0, 0x10, s.rc.faultSeq + 1, s.now, false, [], []⟩]) ∧
  (∀ (cause domain index detail : Nat) (tasks : List Task) (s : State) (x : Reset), s.rc.deviceState ≠ 1 →
    s.rc.resets = [x] → encloses x.domain x.index domain index = true →
    ∃ t, fault cause domain index detail tasks s = t ∧ t = s.setRc t.rc ∧
      t.rc.history.get? ((s.rc.faultSeq + 1) % 256) =
        some ⟨cause, domain, 3, (if domain = 7 || s.rc.islandFailed then 1 else 0), index, s.rc.faultSeq + 1, s.now, s.now, x.seq⟩ ∧
      t.rc.resets.map (fun y => (y.domain, y.index, y.cause, y.seq)) = [(x.domain, x.index, x.cause, x.seq)])

/-- R524: a session that has 8 requests waiting for their responses has a further request refused with BUSY, and
nothing of it is performed. -/
def Obligations.SessionsHoldEightRequests : Prop :=
  ∀ (who : Session) (m : OdpMsg) (s s1 : State), takeMsg who m s = some s1 → m.op = 2 →
    (writeKey s who m).any namedKeys.contains = false → keptFor (touchLocks who s1) who m = none →
    sessionFull (touchLocks who s1) who = true →
    exec (.odpWrite who m) s = .next (respond who m { status := odBusy } (touchLocks who s1))
end

