-- ==== Sys2Proof/Laws/State.lean ====
section
/-!
SUPPORT. What each update of the state does to each of its fields.
-/

namespace Sys2Proof.Machine

@[simp] theorem State.setNow_now (s : State) (v : Nat) : (s.setNow v).now = v := rfl
@[simp] theorem State.setNow_freeCtr (s : State) (v : Nat) : (s.setNow v).freeCtr = s.freeCtr := rfl
@[simp] theorem State.setNow_pending (s : State) (v : Nat) : (s.setNow v).pending = s.pending := rfl
@[simp] theorem State.setNow_out (s : State) (v : Nat) : (s.setNow v).out = s.out := rfl
@[simp] theorem State.setNow_mem (s : State) (v : Nat) : (s.setNow v).mem = s.mem := rfl
@[simp] theorem State.setNow_board (s : State) (v : Nat) : (s.setNow v).board = s.board := rfl
@[simp] theorem State.setNow_pw (s : State) (v : Nat) : (s.setNow v).pw = s.pw := rfl
@[simp] theorem State.setNow_bt (s : State) (v : Nat) : (s.setNow v).bt = s.bt := rfl
@[simp] theorem State.setNow_od (s : State) (v : Nat) : (s.setNow v).od = s.od := rfl
@[simp] theorem State.setNow_rc (s : State) (v : Nat) : (s.setNow v).rc = s.rc := rfl
@[simp] theorem State.setNow_ti (s : State) (v : Nat) : (s.setNow v).ti = s.ti := rfl
@[simp] theorem State.setNow_fr (s : State) (v : Nat) : (s.setNow v).fr = s.fr := rfl
@[simp] theorem State.setNow_co (s : State) (v : Nat) : (s.setNow v).co = s.co := rfl
@[simp] theorem State.setNow_ch (s : State) (v : Nat) : (s.setNow v).ch = s.ch := rfl
@[simp] theorem State.setNow_fa (s : State) (v : Nat) : (s.setNow v).fa = s.fa := rfl
@[simp] theorem State.setNow_tr (s : State) (v : Nat) : (s.setNow v).tr = s.tr := rfl
@[simp] theorem State.setNow_ho (s : State) (v : Nat) : (s.setNow v).ho = s.ho := rfl
@[simp] theorem State.setNow_sv (s : State) (v : Nat) : (s.setNow v).sv = s.sv := rfl
@[simp] theorem State.setNow_setNow (s : State) (v w : Nat) : (s.setNow v).setNow w = s.setNow w := rfl

@[simp] theorem State.setFreeCtr_now (s : State) (v : Nat) : (s.setFreeCtr v).now = s.now := rfl
@[simp] theorem State.setFreeCtr_freeCtr (s : State) (v : Nat) : (s.setFreeCtr v).freeCtr = v := rfl
@[simp] theorem State.setFreeCtr_pending (s : State) (v : Nat) : (s.setFreeCtr v).pending = s.pending := rfl
@[simp] theorem State.setFreeCtr_out (s : State) (v : Nat) : (s.setFreeCtr v).out = s.out := rfl
@[simp] theorem State.setFreeCtr_mem (s : State) (v : Nat) : (s.setFreeCtr v).mem = s.mem := rfl
@[simp] theorem State.setFreeCtr_board (s : State) (v : Nat) : (s.setFreeCtr v).board = s.board := rfl
@[simp] theorem State.setFreeCtr_pw (s : State) (v : Nat) : (s.setFreeCtr v).pw = s.pw := rfl
@[simp] theorem State.setFreeCtr_bt (s : State) (v : Nat) : (s.setFreeCtr v).bt = s.bt := rfl
@[simp] theorem State.setFreeCtr_od (s : State) (v : Nat) : (s.setFreeCtr v).od = s.od := rfl
@[simp] theorem State.setFreeCtr_rc (s : State) (v : Nat) : (s.setFreeCtr v).rc = s.rc := rfl
@[simp] theorem State.setFreeCtr_ti (s : State) (v : Nat) : (s.setFreeCtr v).ti = s.ti := rfl
@[simp] theorem State.setFreeCtr_fr (s : State) (v : Nat) : (s.setFreeCtr v).fr = s.fr := rfl
@[simp] theorem State.setFreeCtr_co (s : State) (v : Nat) : (s.setFreeCtr v).co = s.co := rfl
@[simp] theorem State.setFreeCtr_ch (s : State) (v : Nat) : (s.setFreeCtr v).ch = s.ch := rfl
@[simp] theorem State.setFreeCtr_fa (s : State) (v : Nat) : (s.setFreeCtr v).fa = s.fa := rfl
@[simp] theorem State.setFreeCtr_tr (s : State) (v : Nat) : (s.setFreeCtr v).tr = s.tr := rfl
@[simp] theorem State.setFreeCtr_ho (s : State) (v : Nat) : (s.setFreeCtr v).ho = s.ho := rfl
@[simp] theorem State.setFreeCtr_sv (s : State) (v : Nat) : (s.setFreeCtr v).sv = s.sv := rfl
@[simp] theorem State.setFreeCtr_setFreeCtr (s : State) (v w : Nat) : (s.setFreeCtr v).setFreeCtr w = s.setFreeCtr w := rfl

@[simp] theorem State.setPending_now (s : State) (v : List Instr) : (s.setPending v).now = s.now := rfl
@[simp] theorem State.setPending_freeCtr (s : State) (v : List Instr) : (s.setPending v).freeCtr = s.freeCtr := rfl
@[simp] theorem State.setPending_pending (s : State) (v : List Instr) : (s.setPending v).pending = v := rfl
@[simp] theorem State.setPending_out (s : State) (v : List Instr) : (s.setPending v).out = s.out := rfl
@[simp] theorem State.setPending_mem (s : State) (v : List Instr) : (s.setPending v).mem = s.mem := rfl
@[simp] theorem State.setPending_board (s : State) (v : List Instr) : (s.setPending v).board = s.board := rfl
@[simp] theorem State.setPending_pw (s : State) (v : List Instr) : (s.setPending v).pw = s.pw := rfl
@[simp] theorem State.setPending_bt (s : State) (v : List Instr) : (s.setPending v).bt = s.bt := rfl
@[simp] theorem State.setPending_od (s : State) (v : List Instr) : (s.setPending v).od = s.od := rfl
@[simp] theorem State.setPending_rc (s : State) (v : List Instr) : (s.setPending v).rc = s.rc := rfl
@[simp] theorem State.setPending_ti (s : State) (v : List Instr) : (s.setPending v).ti = s.ti := rfl
@[simp] theorem State.setPending_fr (s : State) (v : List Instr) : (s.setPending v).fr = s.fr := rfl
@[simp] theorem State.setPending_co (s : State) (v : List Instr) : (s.setPending v).co = s.co := rfl
@[simp] theorem State.setPending_ch (s : State) (v : List Instr) : (s.setPending v).ch = s.ch := rfl
@[simp] theorem State.setPending_fa (s : State) (v : List Instr) : (s.setPending v).fa = s.fa := rfl
@[simp] theorem State.setPending_tr (s : State) (v : List Instr) : (s.setPending v).tr = s.tr := rfl
@[simp] theorem State.setPending_ho (s : State) (v : List Instr) : (s.setPending v).ho = s.ho := rfl
@[simp] theorem State.setPending_sv (s : State) (v : List Instr) : (s.setPending v).sv = s.sv := rfl
@[simp] theorem State.setPending_setPending (s : State) (v w : List Instr) : (s.setPending v).setPending w = s.setPending w := rfl

@[simp] theorem State.setOut_now (s : State) (v : List Output) : (s.setOut v).now = s.now := rfl
@[simp] theorem State.setOut_freeCtr (s : State) (v : List Output) : (s.setOut v).freeCtr = s.freeCtr := rfl
@[simp] theorem State.setOut_pending (s : State) (v : List Output) : (s.setOut v).pending = s.pending := rfl
@[simp] theorem State.setOut_out (s : State) (v : List Output) : (s.setOut v).out = v := rfl
@[simp] theorem State.setOut_mem (s : State) (v : List Output) : (s.setOut v).mem = s.mem := rfl
@[simp] theorem State.setOut_board (s : State) (v : List Output) : (s.setOut v).board = s.board := rfl
@[simp] theorem State.setOut_pw (s : State) (v : List Output) : (s.setOut v).pw = s.pw := rfl
@[simp] theorem State.setOut_bt (s : State) (v : List Output) : (s.setOut v).bt = s.bt := rfl
@[simp] theorem State.setOut_od (s : State) (v : List Output) : (s.setOut v).od = s.od := rfl
@[simp] theorem State.setOut_rc (s : State) (v : List Output) : (s.setOut v).rc = s.rc := rfl
@[simp] theorem State.setOut_ti (s : State) (v : List Output) : (s.setOut v).ti = s.ti := rfl
@[simp] theorem State.setOut_fr (s : State) (v : List Output) : (s.setOut v).fr = s.fr := rfl
@[simp] theorem State.setOut_co (s : State) (v : List Output) : (s.setOut v).co = s.co := rfl
@[simp] theorem State.setOut_ch (s : State) (v : List Output) : (s.setOut v).ch = s.ch := rfl
@[simp] theorem State.setOut_fa (s : State) (v : List Output) : (s.setOut v).fa = s.fa := rfl
@[simp] theorem State.setOut_tr (s : State) (v : List Output) : (s.setOut v).tr = s.tr := rfl
@[simp] theorem State.setOut_ho (s : State) (v : List Output) : (s.setOut v).ho = s.ho := rfl
@[simp] theorem State.setOut_sv (s : State) (v : List Output) : (s.setOut v).sv = s.sv := rfl
@[simp] theorem State.setOut_setOut (s : State) (v w : List Output) : (s.setOut v).setOut w = s.setOut w := rfl

@[simp] theorem State.setMem_now (s : State) (v : List Host.Cell) : (s.setMem v).now = s.now := rfl
@[simp] theorem State.setMem_freeCtr (s : State) (v : List Host.Cell) : (s.setMem v).freeCtr = s.freeCtr := rfl
@[simp] theorem State.setMem_pending (s : State) (v : List Host.Cell) : (s.setMem v).pending = s.pending := rfl
@[simp] theorem State.setMem_out (s : State) (v : List Host.Cell) : (s.setMem v).out = s.out := rfl
@[simp] theorem State.setMem_mem (s : State) (v : List Host.Cell) : (s.setMem v).mem = v := rfl
@[simp] theorem State.setMem_board (s : State) (v : List Host.Cell) : (s.setMem v).board = s.board := rfl
@[simp] theorem State.setMem_pw (s : State) (v : List Host.Cell) : (s.setMem v).pw = s.pw := rfl
@[simp] theorem State.setMem_bt (s : State) (v : List Host.Cell) : (s.setMem v).bt = s.bt := rfl
@[simp] theorem State.setMem_od (s : State) (v : List Host.Cell) : (s.setMem v).od = s.od := rfl
@[simp] theorem State.setMem_rc (s : State) (v : List Host.Cell) : (s.setMem v).rc = s.rc := rfl
@[simp] theorem State.setMem_ti (s : State) (v : List Host.Cell) : (s.setMem v).ti = s.ti := rfl
@[simp] theorem State.setMem_fr (s : State) (v : List Host.Cell) : (s.setMem v).fr = s.fr := rfl
@[simp] theorem State.setMem_co (s : State) (v : List Host.Cell) : (s.setMem v).co = s.co := rfl
@[simp] theorem State.setMem_ch (s : State) (v : List Host.Cell) : (s.setMem v).ch = s.ch := rfl
@[simp] theorem State.setMem_fa (s : State) (v : List Host.Cell) : (s.setMem v).fa = s.fa := rfl
@[simp] theorem State.setMem_tr (s : State) (v : List Host.Cell) : (s.setMem v).tr = s.tr := rfl
@[simp] theorem State.setMem_ho (s : State) (v : List Host.Cell) : (s.setMem v).ho = s.ho := rfl
@[simp] theorem State.setMem_sv (s : State) (v : List Host.Cell) : (s.setMem v).sv = s.sv := rfl
@[simp] theorem State.setMem_setMem (s : State) (v w : List Host.Cell) : (s.setMem v).setMem w = s.setMem w := rfl

@[simp] theorem State.setPw_now (s : State) (v : Power) : (s.setPw v).now = s.now := rfl
@[simp] theorem State.setPw_freeCtr (s : State) (v : Power) : (s.setPw v).freeCtr = s.freeCtr := rfl
@[simp] theorem State.setPw_pending (s : State) (v : Power) : (s.setPw v).pending = s.pending := rfl
@[simp] theorem State.setPw_out (s : State) (v : Power) : (s.setPw v).out = s.out := rfl
@[simp] theorem State.setPw_mem (s : State) (v : Power) : (s.setPw v).mem = s.mem := rfl
@[simp] theorem State.setPw_board (s : State) (v : Power) : (s.setPw v).board = s.board := rfl
@[simp] theorem State.setPw_pw (s : State) (v : Power) : (s.setPw v).pw = v := rfl
@[simp] theorem State.setPw_bt (s : State) (v : Power) : (s.setPw v).bt = s.bt := rfl
@[simp] theorem State.setPw_od (s : State) (v : Power) : (s.setPw v).od = s.od := rfl
@[simp] theorem State.setPw_rc (s : State) (v : Power) : (s.setPw v).rc = s.rc := rfl
@[simp] theorem State.setPw_ti (s : State) (v : Power) : (s.setPw v).ti = s.ti := rfl
@[simp] theorem State.setPw_fr (s : State) (v : Power) : (s.setPw v).fr = s.fr := rfl
@[simp] theorem State.setPw_co (s : State) (v : Power) : (s.setPw v).co = s.co := rfl
@[simp] theorem State.setPw_ch (s : State) (v : Power) : (s.setPw v).ch = s.ch := rfl
@[simp] theorem State.setPw_fa (s : State) (v : Power) : (s.setPw v).fa = s.fa := rfl
@[simp] theorem State.setPw_tr (s : State) (v : Power) : (s.setPw v).tr = s.tr := rfl
@[simp] theorem State.setPw_ho (s : State) (v : Power) : (s.setPw v).ho = s.ho := rfl
@[simp] theorem State.setPw_sv (s : State) (v : Power) : (s.setPw v).sv = s.sv := rfl
@[simp] theorem State.setPw_setPw (s : State) (v w : Power) : (s.setPw v).setPw w = s.setPw w := rfl

@[simp] theorem State.setBt_now (s : State) (v : Boot) : (s.setBt v).now = s.now := rfl
@[simp] theorem State.setBt_freeCtr (s : State) (v : Boot) : (s.setBt v).freeCtr = s.freeCtr := rfl
@[simp] theorem State.setBt_pending (s : State) (v : Boot) : (s.setBt v).pending = s.pending := rfl
@[simp] theorem State.setBt_out (s : State) (v : Boot) : (s.setBt v).out = s.out := rfl
@[simp] theorem State.setBt_mem (s : State) (v : Boot) : (s.setBt v).mem = s.mem := rfl
@[simp] theorem State.setBt_board (s : State) (v : Boot) : (s.setBt v).board = s.board := rfl
@[simp] theorem State.setBt_pw (s : State) (v : Boot) : (s.setBt v).pw = s.pw := rfl
@[simp] theorem State.setBt_bt (s : State) (v : Boot) : (s.setBt v).bt = v := rfl
@[simp] theorem State.setBt_od (s : State) (v : Boot) : (s.setBt v).od = s.od := rfl
@[simp] theorem State.setBt_rc (s : State) (v : Boot) : (s.setBt v).rc = s.rc := rfl
@[simp] theorem State.setBt_ti (s : State) (v : Boot) : (s.setBt v).ti = s.ti := rfl
@[simp] theorem State.setBt_fr (s : State) (v : Boot) : (s.setBt v).fr = s.fr := rfl
@[simp] theorem State.setBt_co (s : State) (v : Boot) : (s.setBt v).co = s.co := rfl
@[simp] theorem State.setBt_ch (s : State) (v : Boot) : (s.setBt v).ch = s.ch := rfl
@[simp] theorem State.setBt_fa (s : State) (v : Boot) : (s.setBt v).fa = s.fa := rfl
@[simp] theorem State.setBt_tr (s : State) (v : Boot) : (s.setBt v).tr = s.tr := rfl
@[simp] theorem State.setBt_ho (s : State) (v : Boot) : (s.setBt v).ho = s.ho := rfl
@[simp] theorem State.setBt_sv (s : State) (v : Boot) : (s.setBt v).sv = s.sv := rfl
@[simp] theorem State.setBt_setBt (s : State) (v w : Boot) : (s.setBt v).setBt w = s.setBt w := rfl

@[simp] theorem State.setOd_now (s : State) (v : Dict) : (s.setOd v).now = s.now := rfl
@[simp] theorem State.setOd_freeCtr (s : State) (v : Dict) : (s.setOd v).freeCtr = s.freeCtr := rfl
@[simp] theorem State.setOd_pending (s : State) (v : Dict) : (s.setOd v).pending = s.pending := rfl
@[simp] theorem State.setOd_out (s : State) (v : Dict) : (s.setOd v).out = s.out := rfl
@[simp] theorem State.setOd_mem (s : State) (v : Dict) : (s.setOd v).mem = s.mem := rfl
@[simp] theorem State.setOd_board (s : State) (v : Dict) : (s.setOd v).board = s.board := rfl
@[simp] theorem State.setOd_pw (s : State) (v : Dict) : (s.setOd v).pw = s.pw := rfl
@[simp] theorem State.setOd_bt (s : State) (v : Dict) : (s.setOd v).bt = s.bt := rfl
@[simp] theorem State.setOd_od (s : State) (v : Dict) : (s.setOd v).od = v := rfl
@[simp] theorem State.setOd_rc (s : State) (v : Dict) : (s.setOd v).rc = s.rc := rfl
@[simp] theorem State.setOd_ti (s : State) (v : Dict) : (s.setOd v).ti = s.ti := rfl
@[simp] theorem State.setOd_fr (s : State) (v : Dict) : (s.setOd v).fr = s.fr := rfl
@[simp] theorem State.setOd_co (s : State) (v : Dict) : (s.setOd v).co = s.co := rfl
@[simp] theorem State.setOd_ch (s : State) (v : Dict) : (s.setOd v).ch = s.ch := rfl
@[simp] theorem State.setOd_fa (s : State) (v : Dict) : (s.setOd v).fa = s.fa := rfl
@[simp] theorem State.setOd_tr (s : State) (v : Dict) : (s.setOd v).tr = s.tr := rfl
@[simp] theorem State.setOd_ho (s : State) (v : Dict) : (s.setOd v).ho = s.ho := rfl
@[simp] theorem State.setOd_sv (s : State) (v : Dict) : (s.setOd v).sv = s.sv := rfl
@[simp] theorem State.setOd_setOd (s : State) (v w : Dict) : (s.setOd v).setOd w = s.setOd w := rfl

@[simp] theorem State.setRc_now (s : State) (v : Recov) : (s.setRc v).now = s.now := rfl
@[simp] theorem State.setRc_freeCtr (s : State) (v : Recov) : (s.setRc v).freeCtr = s.freeCtr := rfl
@[simp] theorem State.setRc_pending (s : State) (v : Recov) : (s.setRc v).pending = s.pending := rfl
@[simp] theorem State.setRc_out (s : State) (v : Recov) : (s.setRc v).out = s.out := rfl
@[simp] theorem State.setRc_mem (s : State) (v : Recov) : (s.setRc v).mem = s.mem := rfl
@[simp] theorem State.setRc_board (s : State) (v : Recov) : (s.setRc v).board = s.board := rfl
@[simp] theorem State.setRc_pw (s : State) (v : Recov) : (s.setRc v).pw = s.pw := rfl
@[simp] theorem State.setRc_bt (s : State) (v : Recov) : (s.setRc v).bt = s.bt := rfl
@[simp] theorem State.setRc_od (s : State) (v : Recov) : (s.setRc v).od = s.od := rfl
@[simp] theorem State.setRc_rc (s : State) (v : Recov) : (s.setRc v).rc = v := rfl
@[simp] theorem State.setRc_ti (s : State) (v : Recov) : (s.setRc v).ti = s.ti := rfl
@[simp] theorem State.setRc_fr (s : State) (v : Recov) : (s.setRc v).fr = s.fr := rfl
@[simp] theorem State.setRc_co (s : State) (v : Recov) : (s.setRc v).co = s.co := rfl
@[simp] theorem State.setRc_ch (s : State) (v : Recov) : (s.setRc v).ch = s.ch := rfl
@[simp] theorem State.setRc_fa (s : State) (v : Recov) : (s.setRc v).fa = s.fa := rfl
@[simp] theorem State.setRc_tr (s : State) (v : Recov) : (s.setRc v).tr = s.tr := rfl
@[simp] theorem State.setRc_ho (s : State) (v : Recov) : (s.setRc v).ho = s.ho := rfl
@[simp] theorem State.setRc_sv (s : State) (v : Recov) : (s.setRc v).sv = s.sv := rfl
@[simp] theorem State.setRc_setRc (s : State) (v w : Recov) : (s.setRc v).setRc w = s.setRc w := rfl

@[simp] theorem State.setTi_now (s : State) (v : Tiers) : (s.setTi v).now = s.now := rfl
@[simp] theorem State.setTi_freeCtr (s : State) (v : Tiers) : (s.setTi v).freeCtr = s.freeCtr := rfl
@[simp] theorem State.setTi_pending (s : State) (v : Tiers) : (s.setTi v).pending = s.pending := rfl
@[simp] theorem State.setTi_out (s : State) (v : Tiers) : (s.setTi v).out = s.out := rfl
@[simp] theorem State.setTi_mem (s : State) (v : Tiers) : (s.setTi v).mem = s.mem := rfl
@[simp] theorem State.setTi_board (s : State) (v : Tiers) : (s.setTi v).board = s.board := rfl
@[simp] theorem State.setTi_pw (s : State) (v : Tiers) : (s.setTi v).pw = s.pw := rfl
@[simp] theorem State.setTi_bt (s : State) (v : Tiers) : (s.setTi v).bt = s.bt := rfl
@[simp] theorem State.setTi_od (s : State) (v : Tiers) : (s.setTi v).od = s.od := rfl
@[simp] theorem State.setTi_rc (s : State) (v : Tiers) : (s.setTi v).rc = s.rc := rfl
@[simp] theorem State.setTi_ti (s : State) (v : Tiers) : (s.setTi v).ti = v := rfl
@[simp] theorem State.setTi_fr (s : State) (v : Tiers) : (s.setTi v).fr = s.fr := rfl
@[simp] theorem State.setTi_co (s : State) (v : Tiers) : (s.setTi v).co = s.co := rfl
@[simp] theorem State.setTi_ch (s : State) (v : Tiers) : (s.setTi v).ch = s.ch := rfl
@[simp] theorem State.setTi_fa (s : State) (v : Tiers) : (s.setTi v).fa = s.fa := rfl
@[simp] theorem State.setTi_tr (s : State) (v : Tiers) : (s.setTi v).tr = s.tr := rfl
@[simp] theorem State.setTi_ho (s : State) (v : Tiers) : (s.setTi v).ho = s.ho := rfl
@[simp] theorem State.setTi_sv (s : State) (v : Tiers) : (s.setTi v).sv = s.sv := rfl
@[simp] theorem State.setTi_setTi (s : State) (v w : Tiers) : (s.setTi v).setTi w = s.setTi w := rfl

@[simp] theorem State.setFr_now (s : State) (v : Frost) : (s.setFr v).now = s.now := rfl
@[simp] theorem State.setFr_freeCtr (s : State) (v : Frost) : (s.setFr v).freeCtr = s.freeCtr := rfl
@[simp] theorem State.setFr_pending (s : State) (v : Frost) : (s.setFr v).pending = s.pending := rfl
@[simp] theorem State.setFr_out (s : State) (v : Frost) : (s.setFr v).out = s.out := rfl
@[simp] theorem State.setFr_mem (s : State) (v : Frost) : (s.setFr v).mem = s.mem := rfl
@[simp] theorem State.setFr_board (s : State) (v : Frost) : (s.setFr v).board = s.board := rfl
@[simp] theorem State.setFr_pw (s : State) (v : Frost) : (s.setFr v).pw = s.pw := rfl
@[simp] theorem State.setFr_bt (s : State) (v : Frost) : (s.setFr v).bt = s.bt := rfl
@[simp] theorem State.setFr_od (s : State) (v : Frost) : (s.setFr v).od = s.od := rfl
@[simp] theorem State.setFr_rc (s : State) (v : Frost) : (s.setFr v).rc = s.rc := rfl
@[simp] theorem State.setFr_ti (s : State) (v : Frost) : (s.setFr v).ti = s.ti := rfl
@[simp] theorem State.setFr_fr (s : State) (v : Frost) : (s.setFr v).fr = v := rfl
@[simp] theorem State.setFr_co (s : State) (v : Frost) : (s.setFr v).co = s.co := rfl
@[simp] theorem State.setFr_ch (s : State) (v : Frost) : (s.setFr v).ch = s.ch := rfl
@[simp] theorem State.setFr_fa (s : State) (v : Frost) : (s.setFr v).fa = s.fa := rfl
@[simp] theorem State.setFr_tr (s : State) (v : Frost) : (s.setFr v).tr = s.tr := rfl
@[simp] theorem State.setFr_ho (s : State) (v : Frost) : (s.setFr v).ho = s.ho := rfl
@[simp] theorem State.setFr_sv (s : State) (v : Frost) : (s.setFr v).sv = s.sv := rfl
@[simp] theorem State.setFr_setFr (s : State) (v w : Frost) : (s.setFr v).setFr w = s.setFr w := rfl

@[simp] theorem State.setCo_now (s : State) (v : Cores) : (s.setCo v).now = s.now := rfl
@[simp] theorem State.setCo_freeCtr (s : State) (v : Cores) : (s.setCo v).freeCtr = s.freeCtr := rfl
@[simp] theorem State.setCo_pending (s : State) (v : Cores) : (s.setCo v).pending = s.pending := rfl
@[simp] theorem State.setCo_out (s : State) (v : Cores) : (s.setCo v).out = s.out := rfl
@[simp] theorem State.setCo_mem (s : State) (v : Cores) : (s.setCo v).mem = s.mem := rfl
@[simp] theorem State.setCo_board (s : State) (v : Cores) : (s.setCo v).board = s.board := rfl
@[simp] theorem State.setCo_pw (s : State) (v : Cores) : (s.setCo v).pw = s.pw := rfl
@[simp] theorem State.setCo_bt (s : State) (v : Cores) : (s.setCo v).bt = s.bt := rfl
@[simp] theorem State.setCo_od (s : State) (v : Cores) : (s.setCo v).od = s.od := rfl
@[simp] theorem State.setCo_rc (s : State) (v : Cores) : (s.setCo v).rc = s.rc := rfl
@[simp] theorem State.setCo_ti (s : State) (v : Cores) : (s.setCo v).ti = s.ti := rfl
@[simp] theorem State.setCo_fr (s : State) (v : Cores) : (s.setCo v).fr = s.fr := rfl
@[simp] theorem State.setCo_co (s : State) (v : Cores) : (s.setCo v).co = v := rfl
@[simp] theorem State.setCo_ch (s : State) (v : Cores) : (s.setCo v).ch = s.ch := rfl
@[simp] theorem State.setCo_fa (s : State) (v : Cores) : (s.setCo v).fa = s.fa := rfl
@[simp] theorem State.setCo_tr (s : State) (v : Cores) : (s.setCo v).tr = s.tr := rfl
@[simp] theorem State.setCo_ho (s : State) (v : Cores) : (s.setCo v).ho = s.ho := rfl
@[simp] theorem State.setCo_sv (s : State) (v : Cores) : (s.setCo v).sv = s.sv := rfl
@[simp] theorem State.setCo_setCo (s : State) (v w : Cores) : (s.setCo v).setCo w = s.setCo w := rfl

@[simp] theorem State.setCh_now (s : State) (v : Coh) : (s.setCh v).now = s.now := rfl
@[simp] theorem State.setCh_freeCtr (s : State) (v : Coh) : (s.setCh v).freeCtr = s.freeCtr := rfl
@[simp] theorem State.setCh_pending (s : State) (v : Coh) : (s.setCh v).pending = s.pending := rfl
@[simp] theorem State.setCh_out (s : State) (v : Coh) : (s.setCh v).out = s.out := rfl
@[simp] theorem State.setCh_mem (s : State) (v : Coh) : (s.setCh v).mem = s.mem := rfl
@[simp] theorem State.setCh_board (s : State) (v : Coh) : (s.setCh v).board = s.board := rfl
@[simp] theorem State.setCh_pw (s : State) (v : Coh) : (s.setCh v).pw = s.pw := rfl
@[simp] theorem State.setCh_bt (s : State) (v : Coh) : (s.setCh v).bt = s.bt := rfl
@[simp] theorem State.setCh_od (s : State) (v : Coh) : (s.setCh v).od = s.od := rfl
@[simp] theorem State.setCh_rc (s : State) (v : Coh) : (s.setCh v).rc = s.rc := rfl
@[simp] theorem State.setCh_ti (s : State) (v : Coh) : (s.setCh v).ti = s.ti := rfl
@[simp] theorem State.setCh_fr (s : State) (v : Coh) : (s.setCh v).fr = s.fr := rfl
@[simp] theorem State.setCh_co (s : State) (v : Coh) : (s.setCh v).co = s.co := rfl
@[simp] theorem State.setCh_ch (s : State) (v : Coh) : (s.setCh v).ch = v := rfl
@[simp] theorem State.setCh_fa (s : State) (v : Coh) : (s.setCh v).fa = s.fa := rfl
@[simp] theorem State.setCh_tr (s : State) (v : Coh) : (s.setCh v).tr = s.tr := rfl
@[simp] theorem State.setCh_ho (s : State) (v : Coh) : (s.setCh v).ho = s.ho := rfl
@[simp] theorem State.setCh_sv (s : State) (v : Coh) : (s.setCh v).sv = s.sv := rfl
@[simp] theorem State.setCh_setCh (s : State) (v w : Coh) : (s.setCh v).setCh w = s.setCh w := rfl

@[simp] theorem State.setFa_now (s : State) (v : Fabric) : (s.setFa v).now = s.now := rfl
@[simp] theorem State.setFa_freeCtr (s : State) (v : Fabric) : (s.setFa v).freeCtr = s.freeCtr := rfl
@[simp] theorem State.setFa_pending (s : State) (v : Fabric) : (s.setFa v).pending = s.pending := rfl
@[simp] theorem State.setFa_out (s : State) (v : Fabric) : (s.setFa v).out = s.out := rfl
@[simp] theorem State.setFa_mem (s : State) (v : Fabric) : (s.setFa v).mem = s.mem := rfl
@[simp] theorem State.setFa_board (s : State) (v : Fabric) : (s.setFa v).board = s.board := rfl
@[simp] theorem State.setFa_pw (s : State) (v : Fabric) : (s.setFa v).pw = s.pw := rfl
@[simp] theorem State.setFa_bt (s : State) (v : Fabric) : (s.setFa v).bt = s.bt := rfl
@[simp] theorem State.setFa_od (s : State) (v : Fabric) : (s.setFa v).od = s.od := rfl
@[simp] theorem State.setFa_rc (s : State) (v : Fabric) : (s.setFa v).rc = s.rc := rfl
@[simp] theorem State.setFa_ti (s : State) (v : Fabric) : (s.setFa v).ti = s.ti := rfl
@[simp] theorem State.setFa_fr (s : State) (v : Fabric) : (s.setFa v).fr = s.fr := rfl
@[simp] theorem State.setFa_co (s : State) (v : Fabric) : (s.setFa v).co = s.co := rfl
@[simp] theorem State.setFa_ch (s : State) (v : Fabric) : (s.setFa v).ch = s.ch := rfl
@[simp] theorem State.setFa_fa (s : State) (v : Fabric) : (s.setFa v).fa = v := rfl
@[simp] theorem State.setFa_tr (s : State) (v : Fabric) : (s.setFa v).tr = s.tr := rfl
@[simp] theorem State.setFa_ho (s : State) (v : Fabric) : (s.setFa v).ho = s.ho := rfl
@[simp] theorem State.setFa_sv (s : State) (v : Fabric) : (s.setFa v).sv = s.sv := rfl
@[simp] theorem State.setFa_setFa (s : State) (v w : Fabric) : (s.setFa v).setFa w = s.setFa w := rfl

@[simp] theorem State.setTr_now (s : State) (v : Trans) : (s.setTr v).now = s.now := rfl
@[simp] theorem State.setTr_freeCtr (s : State) (v : Trans) : (s.setTr v).freeCtr = s.freeCtr := rfl
@[simp] theorem State.setTr_pending (s : State) (v : Trans) : (s.setTr v).pending = s.pending := rfl
@[simp] theorem State.setTr_out (s : State) (v : Trans) : (s.setTr v).out = s.out := rfl
@[simp] theorem State.setTr_mem (s : State) (v : Trans) : (s.setTr v).mem = s.mem := rfl
@[simp] theorem State.setTr_board (s : State) (v : Trans) : (s.setTr v).board = s.board := rfl
@[simp] theorem State.setTr_pw (s : State) (v : Trans) : (s.setTr v).pw = s.pw := rfl
@[simp] theorem State.setTr_bt (s : State) (v : Trans) : (s.setTr v).bt = s.bt := rfl
@[simp] theorem State.setTr_od (s : State) (v : Trans) : (s.setTr v).od = s.od := rfl
@[simp] theorem State.setTr_rc (s : State) (v : Trans) : (s.setTr v).rc = s.rc := rfl
@[simp] theorem State.setTr_ti (s : State) (v : Trans) : (s.setTr v).ti = s.ti := rfl
@[simp] theorem State.setTr_fr (s : State) (v : Trans) : (s.setTr v).fr = s.fr := rfl
@[simp] theorem State.setTr_co (s : State) (v : Trans) : (s.setTr v).co = s.co := rfl
@[simp] theorem State.setTr_ch (s : State) (v : Trans) : (s.setTr v).ch = s.ch := rfl
@[simp] theorem State.setTr_fa (s : State) (v : Trans) : (s.setTr v).fa = s.fa := rfl
@[simp] theorem State.setTr_tr (s : State) (v : Trans) : (s.setTr v).tr = v := rfl
@[simp] theorem State.setTr_ho (s : State) (v : Trans) : (s.setTr v).ho = s.ho := rfl
@[simp] theorem State.setTr_sv (s : State) (v : Trans) : (s.setTr v).sv = s.sv := rfl
@[simp] theorem State.setTr_setTr (s : State) (v w : Trans) : (s.setTr v).setTr w = s.setTr w := rfl

@[simp] theorem State.setHo_now (s : State) (v : HostSide) : (s.setHo v).now = s.now := rfl
@[simp] theorem State.setHo_freeCtr (s : State) (v : HostSide) : (s.setHo v).freeCtr = s.freeCtr := rfl
@[simp] theorem State.setHo_pending (s : State) (v : HostSide) : (s.setHo v).pending = s.pending := rfl
@[simp] theorem State.setHo_out (s : State) (v : HostSide) : (s.setHo v).out = s.out := rfl
@[simp] theorem State.setHo_mem (s : State) (v : HostSide) : (s.setHo v).mem = s.mem := rfl
@[simp] theorem State.setHo_board (s : State) (v : HostSide) : (s.setHo v).board = s.board := rfl
@[simp] theorem State.setHo_pw (s : State) (v : HostSide) : (s.setHo v).pw = s.pw := rfl
@[simp] theorem State.setHo_bt (s : State) (v : HostSide) : (s.setHo v).bt = s.bt := rfl
@[simp] theorem State.setHo_od (s : State) (v : HostSide) : (s.setHo v).od = s.od := rfl
@[simp] theorem State.setHo_rc (s : State) (v : HostSide) : (s.setHo v).rc = s.rc := rfl
@[simp] theorem State.setHo_ti (s : State) (v : HostSide) : (s.setHo v).ti = s.ti := rfl
@[simp] theorem State.setHo_fr (s : State) (v : HostSide) : (s.setHo v).fr = s.fr := rfl
@[simp] theorem State.setHo_co (s : State) (v : HostSide) : (s.setHo v).co = s.co := rfl
@[simp] theorem State.setHo_ch (s : State) (v : HostSide) : (s.setHo v).ch = s.ch := rfl
@[simp] theorem State.setHo_fa (s : State) (v : HostSide) : (s.setHo v).fa = s.fa := rfl
@[simp] theorem State.setHo_tr (s : State) (v : HostSide) : (s.setHo v).tr = s.tr := rfl
@[simp] theorem State.setHo_ho (s : State) (v : HostSide) : (s.setHo v).ho = v := rfl
@[simp] theorem State.setHo_sv (s : State) (v : HostSide) : (s.setHo v).sv = s.sv := rfl
@[simp] theorem State.setHo_setHo (s : State) (v w : HostSide) : (s.setHo v).setHo w = s.setHo w := rfl

@[simp] theorem State.setSv_now (s : State) (v : Svc) : (s.setSv v).now = s.now := rfl
@[simp] theorem State.setSv_freeCtr (s : State) (v : Svc) : (s.setSv v).freeCtr = s.freeCtr := rfl
@[simp] theorem State.setSv_pending (s : State) (v : Svc) : (s.setSv v).pending = s.pending := rfl
@[simp] theorem State.setSv_out (s : State) (v : Svc) : (s.setSv v).out = s.out := rfl
@[simp] theorem State.setSv_mem (s : State) (v : Svc) : (s.setSv v).mem = s.mem := rfl
@[simp] theorem State.setSv_board (s : State) (v : Svc) : (s.setSv v).board = s.board := rfl
@[simp] theorem State.setSv_pw (s : State) (v : Svc) : (s.setSv v).pw = s.pw := rfl
@[simp] theorem State.setSv_bt (s : State) (v : Svc) : (s.setSv v).bt = s.bt := rfl
@[simp] theorem State.setSv_od (s : State) (v : Svc) : (s.setSv v).od = s.od := rfl
@[simp] theorem State.setSv_rc (s : State) (v : Svc) : (s.setSv v).rc = s.rc := rfl
@[simp] theorem State.setSv_ti (s : State) (v : Svc) : (s.setSv v).ti = s.ti := rfl
@[simp] theorem State.setSv_fr (s : State) (v : Svc) : (s.setSv v).fr = s.fr := rfl
@[simp] theorem State.setSv_co (s : State) (v : Svc) : (s.setSv v).co = s.co := rfl
@[simp] theorem State.setSv_ch (s : State) (v : Svc) : (s.setSv v).ch = s.ch := rfl
@[simp] theorem State.setSv_fa (s : State) (v : Svc) : (s.setSv v).fa = s.fa := rfl
@[simp] theorem State.setSv_tr (s : State) (v : Svc) : (s.setSv v).tr = s.tr := rfl
@[simp] theorem State.setSv_ho (s : State) (v : Svc) : (s.setSv v).ho = s.ho := rfl
@[simp] theorem State.setSv_sv (s : State) (v : Svc) : (s.setSv v).sv = v := rfl
@[simp] theorem State.setSv_setSv (s : State) (v w : Svc) : (s.setSv v).setSv w = s.setSv w := rfl

end Sys2Proof.Machine
end

