-- ==== Sys2Proof/Laws/Ops.lean ====
section
/-!
SUPPORT. What the shared operations leave unchanged, field by field: each lemma says that an operation
keeps a part of the state that it does not write.
-/

namespace Sys2Proof.Machine

/-- A fold keeps what each of its steps keeps. -/
theorem foldl_keeps {α β : Type} (g : State → β) (f : State → α → State) (h : ∀ s a, g (f s a) = g s)
    (l : List α) (s : State) : g (l.foldl f s) = g s := by
  induction l generalizing s with
  | nil => rfl
  | cons a l ih => rw [List.foldl_cons, ih, h]

/-! `reach` writes only: now. -/

@[simp] theorem reach_freeCtr (t : Nat) (s : State) : (s.reach t).freeCtr = s.freeCtr := by
  simp only [State.reach]; split <;> rfl
@[simp] theorem reach_pending (t : Nat) (s : State) : (s.reach t).pending = s.pending := by
  simp only [State.reach]; split <;> rfl
@[simp] theorem reach_out (t : Nat) (s : State) : (s.reach t).out = s.out := by
  simp only [State.reach]; split <;> rfl
@[simp] theorem reach_mem (t : Nat) (s : State) : (s.reach t).mem = s.mem := by
  simp only [State.reach]; split <;> rfl
@[simp] theorem reach_board (t : Nat) (s : State) : (s.reach t).board = s.board := by
  simp only [State.reach]; split <;> rfl
@[simp] theorem reach_pw (t : Nat) (s : State) : (s.reach t).pw = s.pw := by
  simp only [State.reach]; split <;> rfl
@[simp] theorem reach_bt (t : Nat) (s : State) : (s.reach t).bt = s.bt := by
  simp only [State.reach]; split <;> rfl
@[simp] theorem reach_od (t : Nat) (s : State) : (s.reach t).od = s.od := by
  simp only [State.reach]; split <;> rfl
@[simp] theorem reach_rc (t : Nat) (s : State) : (s.reach t).rc = s.rc := by
  simp only [State.reach]; split <;> rfl
@[simp] theorem reach_ti (t : Nat) (s : State) : (s.reach t).ti = s.ti := by
  simp only [State.reach]; split <;> rfl
@[simp] theorem reach_fr (t : Nat) (s : State) : (s.reach t).fr = s.fr := by
  simp only [State.reach]; split <;> rfl
@[simp] theorem reach_co (t : Nat) (s : State) : (s.reach t).co = s.co := by
  simp only [State.reach]; split <;> rfl
@[simp] theorem reach_ch (t : Nat) (s : State) : (s.reach t).ch = s.ch := by
  simp only [State.reach]; split <;> rfl
@[simp] theorem reach_fa (t : Nat) (s : State) : (s.reach t).fa = s.fa := by
  simp only [State.reach]; split <;> rfl
@[simp] theorem reach_tr (t : Nat) (s : State) : (s.reach t).tr = s.tr := by
  simp only [State.reach]; split <;> rfl
@[simp] theorem reach_ho (t : Nat) (s : State) : (s.reach t).ho = s.ho := by
  simp only [State.reach]; split <;> rfl
@[simp] theorem reach_sv (t : Nat) (s : State) : (s.reach t).sv = s.sv := by
  simp only [State.reach]; split <;> rfl

/-! `emit` writes only: out. -/

@[simp] theorem emit_now (o : Output) (s : State) : (emit o s).now = s.now := rfl
@[simp] theorem emit_freeCtr (o : Output) (s : State) : (emit o s).freeCtr = s.freeCtr := rfl
@[simp] theorem emit_pending (o : Output) (s : State) : (emit o s).pending = s.pending := rfl
@[simp] theorem emit_mem (o : Output) (s : State) : (emit o s).mem = s.mem := rfl
@[simp] theorem emit_board (o : Output) (s : State) : (emit o s).board = s.board := rfl
@[simp] theorem emit_pw (o : Output) (s : State) : (emit o s).pw = s.pw := rfl
@[simp] theorem emit_bt (o : Output) (s : State) : (emit o s).bt = s.bt := rfl
@[simp] theorem emit_od (o : Output) (s : State) : (emit o s).od = s.od := rfl
@[simp] theorem emit_rc (o : Output) (s : State) : (emit o s).rc = s.rc := rfl
@[simp] theorem emit_ti (o : Output) (s : State) : (emit o s).ti = s.ti := rfl
@[simp] theorem emit_fr (o : Output) (s : State) : (emit o s).fr = s.fr := rfl
@[simp] theorem emit_co (o : Output) (s : State) : (emit o s).co = s.co := rfl
@[simp] theorem emit_ch (o : Output) (s : State) : (emit o s).ch = s.ch := rfl
@[simp] theorem emit_fa (o : Output) (s : State) : (emit o s).fa = s.fa := rfl
@[simp] theorem emit_tr (o : Output) (s : State) : (emit o s).tr = s.tr := rfl
@[simp] theorem emit_ho (o : Output) (s : State) : (emit o s).ho = s.ho := rfl
@[simp] theorem emit_sv (o : Output) (s : State) : (emit o s).sv = s.sv := rfl

/-! `setPort` writes only: ho. -/

@[simp] theorem setPort_now (s : State) (p : Nat) (v : HostPort) : (setPort s p v).now = s.now := rfl
@[simp] theorem setPort_freeCtr (s : State) (p : Nat) (v : HostPort) : (setPort s p v).freeCtr = s.freeCtr := rfl
@[simp] theorem setPort_pending (s : State) (p : Nat) (v : HostPort) : (setPort s p v).pending = s.pending := rfl
@[simp] theorem setPort_out (s : State) (p : Nat) (v : HostPort) : (setPort s p v).out = s.out := rfl
@[simp] theorem setPort_mem (s : State) (p : Nat) (v : HostPort) : (setPort s p v).mem = s.mem := rfl
@[simp] theorem setPort_board (s : State) (p : Nat) (v : HostPort) : (setPort s p v).board = s.board := rfl
@[simp] theorem setPort_pw (s : State) (p : Nat) (v : HostPort) : (setPort s p v).pw = s.pw := rfl
@[simp] theorem setPort_bt (s : State) (p : Nat) (v : HostPort) : (setPort s p v).bt = s.bt := rfl
@[simp] theorem setPort_od (s : State) (p : Nat) (v : HostPort) : (setPort s p v).od = s.od := rfl
@[simp] theorem setPort_rc (s : State) (p : Nat) (v : HostPort) : (setPort s p v).rc = s.rc := rfl
@[simp] theorem setPort_ti (s : State) (p : Nat) (v : HostPort) : (setPort s p v).ti = s.ti := rfl
@[simp] theorem setPort_fr (s : State) (p : Nat) (v : HostPort) : (setPort s p v).fr = s.fr := rfl
@[simp] theorem setPort_co (s : State) (p : Nat) (v : HostPort) : (setPort s p v).co = s.co := rfl
@[simp] theorem setPort_ch (s : State) (p : Nat) (v : HostPort) : (setPort s p v).ch = s.ch := rfl
@[simp] theorem setPort_fa (s : State) (p : Nat) (v : HostPort) : (setPort s p v).fa = s.fa := rfl
@[simp] theorem setPort_tr (s : State) (p : Nat) (v : HostPort) : (setPort s p v).tr = s.tr := rfl
@[simp] theorem setPort_sv (s : State) (p : Nat) (v : HostPort) : (setPort s p v).sv = s.sv := rfl

/-! `setFn` writes only: ho. -/

@[simp] theorem setFn_now (s : State) (p f : Nat) (v : HostFn) : (setFn s p f v).now = s.now := rfl
@[simp] theorem setFn_freeCtr (s : State) (p f : Nat) (v : HostFn) : (setFn s p f v).freeCtr = s.freeCtr := rfl
@[simp] theorem setFn_pending (s : State) (p f : Nat) (v : HostFn) : (setFn s p f v).pending = s.pending := rfl
@[simp] theorem setFn_out (s : State) (p f : Nat) (v : HostFn) : (setFn s p f v).out = s.out := rfl
@[simp] theorem setFn_mem (s : State) (p f : Nat) (v : HostFn) : (setFn s p f v).mem = s.mem := rfl
@[simp] theorem setFn_board (s : State) (p f : Nat) (v : HostFn) : (setFn s p f v).board = s.board := rfl
@[simp] theorem setFn_pw (s : State) (p f : Nat) (v : HostFn) : (setFn s p f v).pw = s.pw := rfl
@[simp] theorem setFn_bt (s : State) (p f : Nat) (v : HostFn) : (setFn s p f v).bt = s.bt := rfl
@[simp] theorem setFn_od (s : State) (p f : Nat) (v : HostFn) : (setFn s p f v).od = s.od := rfl
@[simp] theorem setFn_rc (s : State) (p f : Nat) (v : HostFn) : (setFn s p f v).rc = s.rc := rfl
@[simp] theorem setFn_ti (s : State) (p f : Nat) (v : HostFn) : (setFn s p f v).ti = s.ti := rfl
@[simp] theorem setFn_fr (s : State) (p f : Nat) (v : HostFn) : (setFn s p f v).fr = s.fr := rfl
@[simp] theorem setFn_co (s : State) (p f : Nat) (v : HostFn) : (setFn s p f v).co = s.co := rfl
@[simp] theorem setFn_ch (s : State) (p f : Nat) (v : HostFn) : (setFn s p f v).ch = s.ch := rfl
@[simp] theorem setFn_fa (s : State) (p f : Nat) (v : HostFn) : (setFn s p f v).fa = s.fa := rfl
@[simp] theorem setFn_tr (s : State) (p f : Nat) (v : HostFn) : (setFn s p f v).tr = s.tr := rfl
@[simp] theorem setFn_sv (s : State) (p f : Nat) (v : HostFn) : (setFn s p f v).sv = s.sv := rfl

/-! `hostWrite` writes only: ho. -/

@[simp] theorem hostWrite_now (p f a : Nat) (b : List Byte) (s : State) : (hostWrite p f a b s).now = s.now := by
  simp only [hostWrite]; split <;> rfl
@[simp] theorem hostWrite_freeCtr (p f a : Nat) (b : List Byte) (s : State) : (hostWrite p f a b s).freeCtr = s.freeCtr := by
  simp only [hostWrite]; split <;> rfl
@[simp] theorem hostWrite_pending (p f a : Nat) (b : List Byte) (s : State) : (hostWrite p f a b s).pending = s.pending := by
  simp only [hostWrite]; split <;> rfl
@[simp] theorem hostWrite_out (p f a : Nat) (b : List Byte) (s : State) : (hostWrite p f a b s).out = s.out := by
  simp only [hostWrite]; split <;> rfl
@[simp] theorem hostWrite_mem (p f a : Nat) (b : List Byte) (s : State) : (hostWrite p f a b s).mem = s.mem := by
  simp only [hostWrite]; split <;> rfl
@[simp] theorem hostWrite_board (p f a : Nat) (b : List Byte) (s : State) : (hostWrite p f a b s).board = s.board := by
  simp only [hostWrite]; split <;> rfl
@[simp] theorem hostWrite_pw (p f a : Nat) (b : List Byte) (s : State) : (hostWrite p f a b s).pw = s.pw := by
  simp only [hostWrite]; split <;> rfl
@[simp] theorem hostWrite_bt (p f a : Nat) (b : List Byte) (s : State) : (hostWrite p f a b s).bt = s.bt := by
  simp only [hostWrite]; split <;> rfl
@[simp] theorem hostWrite_od (p f a : Nat) (b : List Byte) (s : State) : (hostWrite p f a b s).od = s.od := by
  simp only [hostWrite]; split <;> rfl
@[simp] theorem hostWrite_rc (p f a : Nat) (b : List Byte) (s : State) : (hostWrite p f a b s).rc = s.rc := by
  simp only [hostWrite]; split <;> rfl
@[simp] theorem hostWrite_ti (p f a : Nat) (b : List Byte) (s : State) : (hostWrite p f a b s).ti = s.ti := by
  simp only [hostWrite]; split <;> rfl
@[simp] theorem hostWrite_fr (p f a : Nat) (b : List Byte) (s : State) : (hostWrite p f a b s).fr = s.fr := by
  simp only [hostWrite]; split <;> rfl
@[simp] theorem hostWrite_co (p f a : Nat) (b : List Byte) (s : State) : (hostWrite p f a b s).co = s.co := by
  simp only [hostWrite]; split <;> rfl
@[simp] theorem hostWrite_ch (p f a : Nat) (b : List Byte) (s : State) : (hostWrite p f a b s).ch = s.ch := by
  simp only [hostWrite]; split <;> rfl
@[simp] theorem hostWrite_fa (p f a : Nat) (b : List Byte) (s : State) : (hostWrite p f a b s).fa = s.fa := by
  simp only [hostWrite]; split <;> rfl
@[simp] theorem hostWrite_tr (p f a : Nat) (b : List Byte) (s : State) : (hostWrite p f a b s).tr = s.tr := by
  simp only [hostWrite]; split <;> rfl
@[simp] theorem hostWrite_sv (p f a : Nat) (b : List Byte) (s : State) : (hostWrite p f a b s).sv = s.sv := by
  simp only [hostWrite]; split <;> rfl

/-! `sendVector` writes only: ho, out. -/

@[simp] theorem sendVector_now (p f v : Nat) (s : State) : (sendVector p f v s).now = s.now := by
  simp only [sendVector]; split <;> rfl
@[simp] theorem sendVector_freeCtr (p f v : Nat) (s : State) : (sendVector p f v s).freeCtr = s.freeCtr := by
  simp only [sendVector]; split <;> rfl
@[simp] theorem sendVector_pending (p f v : Nat) (s : State) : (sendVector p f v s).pending = s.pending := by
  simp only [sendVector]; split <;> rfl
@[simp] theorem sendVector_mem (p f v : Nat) (s : State) : (sendVector p f v s).mem = s.mem := by
  simp only [sendVector]; split <;> rfl
@[simp] theorem sendVector_board (p f v : Nat) (s : State) : (sendVector p f v s).board = s.board := by
  simp only [sendVector]; split <;> rfl
@[simp] theorem sendVector_pw (p f v : Nat) (s : State) : (sendVector p f v s).pw = s.pw := by
  simp only [sendVector]; split <;> rfl
@[simp] theorem sendVector_bt (p f v : Nat) (s : State) : (sendVector p f v s).bt = s.bt := by
  simp only [sendVector]; split <;> rfl
@[simp] theorem sendVector_od (p f v : Nat) (s : State) : (sendVector p f v s).od = s.od := by
  simp only [sendVector]; split <;> rfl
@[simp] theorem sendVector_rc (p f v : Nat) (s : State) : (sendVector p f v s).rc = s.rc := by
  simp only [sendVector]; split <;> rfl
@[simp] theorem sendVector_ti (p f v : Nat) (s : State) : (sendVector p f v s).ti = s.ti := by
  simp only [sendVector]; split <;> rfl
@[simp] theorem sendVector_fr (p f v : Nat) (s : State) : (sendVector p f v s).fr = s.fr := by
  simp only [sendVector]; split <;> rfl
@[simp] theorem sendVector_co (p f v : Nat) (s : State) : (sendVector p f v s).co = s.co := by
  simp only [sendVector]; split <;> rfl
@[simp] theorem sendVector_ch (p f v : Nat) (s : State) : (sendVector p f v s).ch = s.ch := by
  simp only [sendVector]; split <;> rfl
@[simp] theorem sendVector_fa (p f v : Nat) (s : State) : (sendVector p f v s).fa = s.fa := by
  simp only [sendVector]; split <;> rfl
@[simp] theorem sendVector_tr (p f v : Nat) (s : State) : (sendVector p f v s).tr = s.tr := by
  simp only [sendVector]; split <;> rfl
@[simp] theorem sendVector_sv (p f v : Nat) (s : State) : (sendVector p f v s).sv = s.sv := by
  simp only [sendVector]; split <;> rfl

/-! `setMb` writes only: od. -/

@[simp] theorem setMb_now (s : State) (p : Nat) (m : Mailbox) : (setMb s p m).now = s.now := rfl
@[simp] theorem setMb_freeCtr (s : State) (p : Nat) (m : Mailbox) : (setMb s p m).freeCtr = s.freeCtr := rfl
@[simp] theorem setMb_pending (s : State) (p : Nat) (m : Mailbox) : (setMb s p m).pending = s.pending := rfl
@[simp] theorem setMb_out (s : State) (p : Nat) (m : Mailbox) : (setMb s p m).out = s.out := rfl
@[simp] theorem setMb_mem (s : State) (p : Nat) (m : Mailbox) : (setMb s p m).mem = s.mem := rfl
@[simp] theorem setMb_board (s : State) (p : Nat) (m : Mailbox) : (setMb s p m).board = s.board := rfl
@[simp] theorem setMb_pw (s : State) (p : Nat) (m : Mailbox) : (setMb s p m).pw = s.pw := rfl
@[simp] theorem setMb_bt (s : State) (p : Nat) (m : Mailbox) : (setMb s p m).bt = s.bt := rfl
@[simp] theorem setMb_rc (s : State) (p : Nat) (m : Mailbox) : (setMb s p m).rc = s.rc := rfl
@[simp] theorem setMb_ti (s : State) (p : Nat) (m : Mailbox) : (setMb s p m).ti = s.ti := rfl
@[simp] theorem setMb_fr (s : State) (p : Nat) (m : Mailbox) : (setMb s p m).fr = s.fr := rfl
@[simp] theorem setMb_co (s : State) (p : Nat) (m : Mailbox) : (setMb s p m).co = s.co := rfl
@[simp] theorem setMb_ch (s : State) (p : Nat) (m : Mailbox) : (setMb s p m).ch = s.ch := rfl
@[simp] theorem setMb_fa (s : State) (p : Nat) (m : Mailbox) : (setMb s p m).fa = s.fa := rfl
@[simp] theorem setMb_tr (s : State) (p : Nat) (m : Mailbox) : (setMb s p m).tr = s.tr := rfl
@[simp] theorem setMb_ho (s : State) (p : Nat) (m : Mailbox) : (setMb s p m).ho = s.ho := rfl
@[simp] theorem setMb_sv (s : State) (p : Nat) (m : Mailbox) : (setMb s p m).sv = s.sv := rfl

/-! `mailboxNotify` writes only: od, ho, out. -/

@[simp] theorem mailboxNotify_now (p : Nat) (m : OdpMsg) (s : State) : (mailboxNotify p m s).now = s.now := by
  simp only [mailboxNotify]; split <;> simp
@[simp] theorem mailboxNotify_freeCtr (p : Nat) (m : OdpMsg) (s : State) : (mailboxNotify p m s).freeCtr = s.freeCtr := by
  simp only [mailboxNotify]; split <;> simp
@[simp] theorem mailboxNotify_pending (p : Nat) (m : OdpMsg) (s : State) : (mailboxNotify p m s).pending = s.pending := by
  simp only [mailboxNotify]; split <;> simp
@[simp] theorem mailboxNotify_mem (p : Nat) (m : OdpMsg) (s : State) : (mailboxNotify p m s).mem = s.mem := by
  simp only [mailboxNotify]; split <;> simp
@[simp] theorem mailboxNotify_board (p : Nat) (m : OdpMsg) (s : State) : (mailboxNotify p m s).board = s.board := by
  simp only [mailboxNotify]; split <;> simp
@[simp] theorem mailboxNotify_pw (p : Nat) (m : OdpMsg) (s : State) : (mailboxNotify p m s).pw = s.pw := by
  simp only [mailboxNotify]; split <;> simp
@[simp] theorem mailboxNotify_bt (p : Nat) (m : OdpMsg) (s : State) : (mailboxNotify p m s).bt = s.bt := by
  simp only [mailboxNotify]; split <;> simp
@[simp] theorem mailboxNotify_rc (p : Nat) (m : OdpMsg) (s : State) : (mailboxNotify p m s).rc = s.rc := by
  simp only [mailboxNotify]; split <;> simp
@[simp] theorem mailboxNotify_ti (p : Nat) (m : OdpMsg) (s : State) : (mailboxNotify p m s).ti = s.ti := by
  simp only [mailboxNotify]; split <;> simp
@[simp] theorem mailboxNotify_fr (p : Nat) (m : OdpMsg) (s : State) : (mailboxNotify p m s).fr = s.fr := by
  simp only [mailboxNotify]; split <;> simp
@[simp] theorem mailboxNotify_co (p : Nat) (m : OdpMsg) (s : State) : (mailboxNotify p m s).co = s.co := by
  simp only [mailboxNotify]; split <;> simp
@[simp] theorem mailboxNotify_ch (p : Nat) (m : OdpMsg) (s : State) : (mailboxNotify p m s).ch = s.ch := by
  simp only [mailboxNotify]; split <;> simp
@[simp] theorem mailboxNotify_fa (p : Nat) (m : OdpMsg) (s : State) : (mailboxNotify p m s).fa = s.fa := by
  simp only [mailboxNotify]; split <;> simp
@[simp] theorem mailboxNotify_tr (p : Nat) (m : OdpMsg) (s : State) : (mailboxNotify p m s).tr = s.tr := by
  simp only [mailboxNotify]; split <;> simp
@[simp] theorem mailboxNotify_sv (p : Nat) (m : OdpMsg) (s : State) : (mailboxNotify p m s).sv = s.sv := by
  simp only [mailboxNotify]; split <;> simp

/-! `sendVlan` writes only: fa. -/

@[simp] theorem sendVlan_now (a : Nat) (sub : Option Nat) (m : OdpMsg) (s : State) : (sendVlan a sub m s).now = s.now := by
  simp only [sendVlan]; split <;> rfl
@[simp] theorem sendVlan_freeCtr (a : Nat) (sub : Option Nat) (m : OdpMsg) (s : State) : (sendVlan a sub m s).freeCtr = s.freeCtr := by
  simp only [sendVlan]; split <;> rfl
@[simp] theorem sendVlan_pending (a : Nat) (sub : Option Nat) (m : OdpMsg) (s : State) : (sendVlan a sub m s).pending = s.pending := by
  simp only [sendVlan]; split <;> rfl
@[simp] theorem sendVlan_out (a : Nat) (sub : Option Nat) (m : OdpMsg) (s : State) : (sendVlan a sub m s).out = s.out := by
  simp only [sendVlan]; split <;> rfl
@[simp] theorem sendVlan_mem (a : Nat) (sub : Option Nat) (m : OdpMsg) (s : State) : (sendVlan a sub m s).mem = s.mem := by
  simp only [sendVlan]; split <;> rfl
@[simp] theorem sendVlan_board (a : Nat) (sub : Option Nat) (m : OdpMsg) (s : State) : (sendVlan a sub m s).board = s.board := by
  simp only [sendVlan]; split <;> rfl
@[simp] theorem sendVlan_pw (a : Nat) (sub : Option Nat) (m : OdpMsg) (s : State) : (sendVlan a sub m s).pw = s.pw := by
  simp only [sendVlan]; split <;> rfl
@[simp] theorem sendVlan_bt (a : Nat) (sub : Option Nat) (m : OdpMsg) (s : State) : (sendVlan a sub m s).bt = s.bt := by
  simp only [sendVlan]; split <;> rfl
@[simp] theorem sendVlan_od (a : Nat) (sub : Option Nat) (m : OdpMsg) (s : State) : (sendVlan a sub m s).od = s.od := by
  simp only [sendVlan]; split <;> rfl
@[simp] theorem sendVlan_rc (a : Nat) (sub : Option Nat) (m : OdpMsg) (s : State) : (sendVlan a sub m s).rc = s.rc := by
  simp only [sendVlan]; split <;> rfl
@[simp] theorem sendVlan_ti (a : Nat) (sub : Option Nat) (m : OdpMsg) (s : State) : (sendVlan a sub m s).ti = s.ti := by
  simp only [sendVlan]; split <;> rfl
@[simp] theorem sendVlan_fr (a : Nat) (sub : Option Nat) (m : OdpMsg) (s : State) : (sendVlan a sub m s).fr = s.fr := by
  simp only [sendVlan]; split <;> rfl
@[simp] theorem sendVlan_co (a : Nat) (sub : Option Nat) (m : OdpMsg) (s : State) : (sendVlan a sub m s).co = s.co := by
  simp only [sendVlan]; split <;> rfl
@[simp] theorem sendVlan_ch (a : Nat) (sub : Option Nat) (m : OdpMsg) (s : State) : (sendVlan a sub m s).ch = s.ch := by
  simp only [sendVlan]; split <;> rfl
@[simp] theorem sendVlan_tr (a : Nat) (sub : Option Nat) (m : OdpMsg) (s : State) : (sendVlan a sub m s).tr = s.tr := by
  simp only [sendVlan]; split <;> rfl
@[simp] theorem sendVlan_ho (a : Nat) (sub : Option Nat) (m : OdpMsg) (s : State) : (sendVlan a sub m s).ho = s.ho := by
  simp only [sendVlan]; split <;> rfl
@[simp] theorem sendVlan_sv (a : Nat) (sub : Option Nat) (m : OdpMsg) (s : State) : (sendVlan a sub m s).sv = s.sv := by
  simp only [sendVlan]; split <;> rfl

/-! `notifyAll` writes only: out, od, ho, fa. -/

@[simp] theorem notifyAll_now (e : EvRec) (s : State) : (notifyAll e s).now = s.now := by
  simp only [notifyAll]; repeat' split
  all_goals simp [foldl_keeps (fun s : State => s.now) (fun s a => sendVlan a none (notifyMsg e) s) (fun _ _ => by simp)]
@[simp] theorem notifyAll_freeCtr (e : EvRec) (s : State) : (notifyAll e s).freeCtr = s.freeCtr := by
  simp only [notifyAll]; repeat' split
  all_goals simp [foldl_keeps (fun s : State => s.freeCtr) (fun s a => sendVlan a none (notifyMsg e) s) (fun _ _ => by simp)]
@[simp] theorem notifyAll_pending (e : EvRec) (s : State) : (notifyAll e s).pending = s.pending := by
  simp only [notifyAll]; repeat' split
  all_goals simp [foldl_keeps (fun s : State => s.pending) (fun s a => sendVlan a none (notifyMsg e) s) (fun _ _ => by simp)]
@[simp] theorem notifyAll_mem (e : EvRec) (s : State) : (notifyAll e s).mem = s.mem := by
  simp only [notifyAll]; repeat' split
  all_goals simp [foldl_keeps (fun s : State => s.mem) (fun s a => sendVlan a none (notifyMsg e) s) (fun _ _ => by simp)]
@[simp] theorem notifyAll_board (e : EvRec) (s : State) : (notifyAll e s).board = s.board := by
  simp only [notifyAll]; repeat' split
  all_goals simp [foldl_keeps (fun s : State => s.board) (fun s a => sendVlan a none (notifyMsg e) s) (fun _ _ => by simp)]
@[simp] theorem notifyAll_pw (e : EvRec) (s : State) : (notifyAll e s).pw = s.pw := by
  simp only [notifyAll]; repeat' split
  all_goals simp [foldl_keeps (fun s : State => s.pw) (fun s a => sendVlan a none (notifyMsg e) s) (fun _ _ => by simp)]
@[simp] theorem notifyAll_bt (e : EvRec) (s : State) : (notifyAll e s).bt = s.bt := by
  simp only [notifyAll]; repeat' split
  all_goals simp [foldl_keeps (fun s : State => s.bt) (fun s a => sendVlan a none (notifyMsg e) s) (fun _ _ => by simp)]
@[simp] theorem notifyAll_rc (e : EvRec) (s : State) : (notifyAll e s).rc = s.rc := by
  simp only [notifyAll]; repeat' split
  all_goals simp [foldl_keeps (fun s : State => s.rc) (fun s a => sendVlan a none (notifyMsg e) s) (fun _ _ => by simp)]
@[simp] theorem notifyAll_ti (e : EvRec) (s : State) : (notifyAll e s).ti = s.ti := by
  simp only [notifyAll]; repeat' split
  all_goals simp [foldl_keeps (fun s : State => s.ti) (fun s a => sendVlan a none (notifyMsg e) s) (fun _ _ => by simp)]
@[simp] theorem notifyAll_fr (e : EvRec) (s : State) : (notifyAll e s).fr = s.fr := by
  simp only [notifyAll]; repeat' split
  all_goals simp [foldl_keeps (fun s : State => s.fr) (fun s a => sendVlan a none (notifyMsg e) s) (fun _ _ => by simp)]
@[simp] theorem notifyAll_co (e : EvRec) (s : State) : (notifyAll e s).co = s.co := by
  simp only [notifyAll]; repeat' split
  all_goals simp [foldl_keeps (fun s : State => s.co) (fun s a => sendVlan a none (notifyMsg e) s) (fun _ _ => by simp)]
@[simp] theorem notifyAll_ch (e : EvRec) (s : State) : (notifyAll e s).ch = s.ch := by
  simp only [notifyAll]; repeat' split
  all_goals simp [foldl_keeps (fun s : State => s.ch) (fun s a => sendVlan a none (notifyMsg e) s) (fun _ _ => by simp)]
@[simp] theorem notifyAll_tr (e : EvRec) (s : State) : (notifyAll e s).tr = s.tr := by
  simp only [notifyAll]; repeat' split
  all_goals simp [foldl_keeps (fun s : State => s.tr) (fun s a => sendVlan a none (notifyMsg e) s) (fun _ _ => by simp)]
@[simp] theorem notifyAll_sv (e : EvRec) (s : State) : (notifyAll e s).sv = s.sv := by
  simp only [notifyAll]; repeat' split
  all_goals simp [foldl_keeps (fun s : State => s.sv) (fun s a => sendVlan a none (notifyMsg e) s) (fun _ _ => by simp)]

/-! `enqueueFiring` writes only: od. -/

@[simp] theorem enqueueFiring_now (f : Firing) (s : State) : (enqueueFiring f s).now = s.now := by
  simp only [enqueueFiring]; split <;> rfl
@[simp] theorem enqueueFiring_freeCtr (f : Firing) (s : State) : (enqueueFiring f s).freeCtr = s.freeCtr := by
  simp only [enqueueFiring]; split <;> rfl
@[simp] theorem enqueueFiring_pending (f : Firing) (s : State) : (enqueueFiring f s).pending = s.pending := by
  simp only [enqueueFiring]; split <;> rfl
@[simp] theorem enqueueFiring_out (f : Firing) (s : State) : (enqueueFiring f s).out = s.out := by
  simp only [enqueueFiring]; split <;> rfl
@[simp] theorem enqueueFiring_mem (f : Firing) (s : State) : (enqueueFiring f s).mem = s.mem := by
  simp only [enqueueFiring]; split <;> rfl
@[simp] theorem enqueueFiring_board (f : Firing) (s : State) : (enqueueFiring f s).board = s.board := by
  simp only [enqueueFiring]; split <;> rfl
@[simp] theorem enqueueFiring_pw (f : Firing) (s : State) : (enqueueFiring f s).pw = s.pw := by
  simp only [enqueueFiring]; split <;> rfl
@[simp] theorem enqueueFiring_bt (f : Firing) (s : State) : (enqueueFiring f s).bt = s.bt := by
  simp only [enqueueFiring]; split <;> rfl
@[simp] theorem enqueueFiring_rc (f : Firing) (s : State) : (enqueueFiring f s).rc = s.rc := by
  simp only [enqueueFiring]; split <;> rfl
@[simp] theorem enqueueFiring_ti (f : Firing) (s : State) : (enqueueFiring f s).ti = s.ti := by
  simp only [enqueueFiring]; split <;> rfl
@[simp] theorem enqueueFiring_fr (f : Firing) (s : State) : (enqueueFiring f s).fr = s.fr := by
  simp only [enqueueFiring]; split <;> rfl
@[simp] theorem enqueueFiring_co (f : Firing) (s : State) : (enqueueFiring f s).co = s.co := by
  simp only [enqueueFiring]; split <;> rfl
@[simp] theorem enqueueFiring_ch (f : Firing) (s : State) : (enqueueFiring f s).ch = s.ch := by
  simp only [enqueueFiring]; split <;> rfl
@[simp] theorem enqueueFiring_fa (f : Firing) (s : State) : (enqueueFiring f s).fa = s.fa := by
  simp only [enqueueFiring]; split <;> rfl
@[simp] theorem enqueueFiring_tr (f : Firing) (s : State) : (enqueueFiring f s).tr = s.tr := by
  simp only [enqueueFiring]; split <;> rfl
@[simp] theorem enqueueFiring_ho (f : Firing) (s : State) : (enqueueFiring f s).ho = s.ho := by
  simp only [enqueueFiring]; split <;> rfl
@[simp] theorem enqueueFiring_sv (f : Firing) (s : State) : (enqueueFiring f s).sv = s.sv := by
  simp only [enqueueFiring]; split <;> rfl

/-! `fireEvent` writes only: od. -/

@[simp] theorem fireEvent_now (c a b : Nat) (s : State) : (fireEvent c a b s).now = s.now := by
  simp only [fireEvent]; split
  · rfl
  · exact foldl_keeps (fun s : State => s.now) _ (fun _ _ => by split <;> simp) _ _
@[simp] theorem fireEvent_freeCtr (c a b : Nat) (s : State) : (fireEvent c a b s).freeCtr = s.freeCtr := by
  simp only [fireEvent]; split
  · rfl
  · exact foldl_keeps (fun s : State => s.freeCtr) _ (fun _ _ => by split <;> simp) _ _
@[simp] theorem fireEvent_pending (c a b : Nat) (s : State) : (fireEvent c a b s).pending = s.pending := by
  simp only [fireEvent]; split
  · rfl
  · exact foldl_keeps (fun s : State => s.pending) _ (fun _ _ => by split <;> simp) _ _
@[simp] theorem fireEvent_out (c a b : Nat) (s : State) : (fireEvent c a b s).out = s.out := by
  simp only [fireEvent]; split
  · rfl
  · exact foldl_keeps (fun s : State => s.out) _ (fun _ _ => by split <;> simp) _ _
@[simp] theorem fireEvent_mem (c a b : Nat) (s : State) : (fireEvent c a b s).mem = s.mem := by
  simp only [fireEvent]; split
  · rfl
  · exact foldl_keeps (fun s : State => s.mem) _ (fun _ _ => by split <;> simp) _ _
@[simp] theorem fireEvent_board (c a b : Nat) (s : State) : (fireEvent c a b s).board = s.board := by
  simp only [fireEvent]; split
  · rfl
  · exact foldl_keeps (fun s : State => s.board) _ (fun _ _ => by split <;> simp) _ _
@[simp] theorem fireEvent_pw (c a b : Nat) (s : State) : (fireEvent c a b s).pw = s.pw := by
  simp only [fireEvent]; split
  · rfl
  · exact foldl_keeps (fun s : State => s.pw) _ (fun _ _ => by split <;> simp) _ _
@[simp] theorem fireEvent_bt (c a b : Nat) (s : State) : (fireEvent c a b s).bt = s.bt := by
  simp only [fireEvent]; split
  · rfl
  · exact foldl_keeps (fun s : State => s.bt) _ (fun _ _ => by split <;> simp) _ _
@[simp] theorem fireEvent_rc (c a b : Nat) (s : State) : (fireEvent c a b s).rc = s.rc := by
  simp only [fireEvent]; split
  · rfl
  · exact foldl_keeps (fun s : State => s.rc) _ (fun _ _ => by split <;> simp) _ _
@[simp] theorem fireEvent_ti (c a b : Nat) (s : State) : (fireEvent c a b s).ti = s.ti := by
  simp only [fireEvent]; split
  · rfl
  · exact foldl_keeps (fun s : State => s.ti) _ (fun _ _ => by split <;> simp) _ _
@[simp] theorem fireEvent_fr (c a b : Nat) (s : State) : (fireEvent c a b s).fr = s.fr := by
  simp only [fireEvent]; split
  · rfl
  · exact foldl_keeps (fun s : State => s.fr) _ (fun _ _ => by split <;> simp) _ _
@[simp] theorem fireEvent_co (c a b : Nat) (s : State) : (fireEvent c a b s).co = s.co := by
  simp only [fireEvent]; split
  · rfl
  · exact foldl_keeps (fun s : State => s.co) _ (fun _ _ => by split <;> simp) _ _
@[simp] theorem fireEvent_ch (c a b : Nat) (s : State) : (fireEvent c a b s).ch = s.ch := by
  simp only [fireEvent]; split
  · rfl
  · exact foldl_keeps (fun s : State => s.ch) _ (fun _ _ => by split <;> simp) _ _
@[simp] theorem fireEvent_fa (c a b : Nat) (s : State) : (fireEvent c a b s).fa = s.fa := by
  simp only [fireEvent]; split
  · rfl
  · exact foldl_keeps (fun s : State => s.fa) _ (fun _ _ => by split <;> simp) _ _
@[simp] theorem fireEvent_tr (c a b : Nat) (s : State) : (fireEvent c a b s).tr = s.tr := by
  simp only [fireEvent]; split
  · rfl
  · exact foldl_keeps (fun s : State => s.tr) _ (fun _ _ => by split <;> simp) _ _
@[simp] theorem fireEvent_ho (c a b : Nat) (s : State) : (fireEvent c a b s).ho = s.ho := by
  simp only [fireEvent]; split
  · rfl
  · exact foldl_keeps (fun s : State => s.ho) _ (fun _ _ => by split <;> simp) _ _
@[simp] theorem fireEvent_sv (c a b : Nat) (s : State) : (fireEvent c a b s).sv = s.sv := by
  simp only [fireEvent]; split
  · rfl
  · exact foldl_keeps (fun s : State => s.sv) _ (fun _ _ => by split <;> simp) _ _

/-! `raise` writes only: out, od, ho, fa, rc. -/

@[simp] theorem raise_now (c j a b : Nat) (s : State) : (raise c j a b s).now = s.now := by
  simp [raise]
@[simp] theorem raise_freeCtr (c j a b : Nat) (s : State) : (raise c j a b s).freeCtr = s.freeCtr := by
  simp [raise]
@[simp] theorem raise_pending (c j a b : Nat) (s : State) : (raise c j a b s).pending = s.pending := by
  simp [raise]
@[simp] theorem raise_mem (c j a b : Nat) (s : State) : (raise c j a b s).mem = s.mem := by
  simp [raise]
@[simp] theorem raise_board (c j a b : Nat) (s : State) : (raise c j a b s).board = s.board := by
  simp [raise]
@[simp] theorem raise_pw (c j a b : Nat) (s : State) : (raise c j a b s).pw = s.pw := by
  simp [raise]
@[simp] theorem raise_bt (c j a b : Nat) (s : State) : (raise c j a b s).bt = s.bt := by
  simp [raise]
@[simp] theorem raise_ti (c j a b : Nat) (s : State) : (raise c j a b s).ti = s.ti := by
  simp [raise]
@[simp] theorem raise_fr (c j a b : Nat) (s : State) : (raise c j a b s).fr = s.fr := by
  simp [raise]
@[simp] theorem raise_co (c j a b : Nat) (s : State) : (raise c j a b s).co = s.co := by
  simp [raise]
@[simp] theorem raise_ch (c j a b : Nat) (s : State) : (raise c j a b s).ch = s.ch := by
  simp [raise]
@[simp] theorem raise_tr (c j a b : Nat) (s : State) : (raise c j a b s).tr = s.tr := by
  simp [raise]
@[simp] theorem raise_sv (c j a b : Nat) (s : State) : (raise c j a b s).sv = s.sv := by
  simp [raise]

/-! `retire` writes only: rc. -/

@[simp] theorem retire_now (r : FaultRec) (s : State) : (retire r s).now = s.now := rfl
@[simp] theorem retire_freeCtr (r : FaultRec) (s : State) : (retire r s).freeCtr = s.freeCtr := rfl
@[simp] theorem retire_pending (r : FaultRec) (s : State) : (retire r s).pending = s.pending := rfl
@[simp] theorem retire_out (r : FaultRec) (s : State) : (retire r s).out = s.out := rfl
@[simp] theorem retire_mem (r : FaultRec) (s : State) : (retire r s).mem = s.mem := rfl
@[simp] theorem retire_board (r : FaultRec) (s : State) : (retire r s).board = s.board := rfl
@[simp] theorem retire_pw (r : FaultRec) (s : State) : (retire r s).pw = s.pw := rfl
@[simp] theorem retire_bt (r : FaultRec) (s : State) : (retire r s).bt = s.bt := rfl
@[simp] theorem retire_od (r : FaultRec) (s : State) : (retire r s).od = s.od := rfl
@[simp] theorem retire_ti (r : FaultRec) (s : State) : (retire r s).ti = s.ti := rfl
@[simp] theorem retire_fr (r : FaultRec) (s : State) : (retire r s).fr = s.fr := rfl
@[simp] theorem retire_co (r : FaultRec) (s : State) : (retire r s).co = s.co := rfl
@[simp] theorem retire_ch (r : FaultRec) (s : State) : (retire r s).ch = s.ch := rfl
@[simp] theorem retire_fa (r : FaultRec) (s : State) : (retire r s).fa = s.fa := rfl
@[simp] theorem retire_tr (r : FaultRec) (s : State) : (retire r s).tr = s.tr := rfl
@[simp] theorem retire_ho (r : FaultRec) (s : State) : (retire r s).ho = s.ho := rfl
@[simp] theorem retire_sv (r : FaultRec) (s : State) : (retire r s).sv = s.sv := rfl

/-! `endRecord` writes only: rc. -/

@[simp] theorem endRecord_now (q a d : Nat) (s : State) : (endRecord q a d s).now = s.now := by
  simp only [endRecord]; split <;> simp
@[simp] theorem endRecord_freeCtr (q a d : Nat) (s : State) : (endRecord q a d s).freeCtr = s.freeCtr := by
  simp only [endRecord]; split <;> simp
@[simp] theorem endRecord_pending (q a d : Nat) (s : State) : (endRecord q a d s).pending = s.pending := by
  simp only [endRecord]; split <;> simp
@[simp] theorem endRecord_out (q a d : Nat) (s : State) : (endRecord q a d s).out = s.out := by
  simp only [endRecord]; split <;> simp
@[simp] theorem endRecord_mem (q a d : Nat) (s : State) : (endRecord q a d s).mem = s.mem := by
  simp only [endRecord]; split <;> simp
@[simp] theorem endRecord_board (q a d : Nat) (s : State) : (endRecord q a d s).board = s.board := by
  simp only [endRecord]; split <;> simp
@[simp] theorem endRecord_pw (q a d : Nat) (s : State) : (endRecord q a d s).pw = s.pw := by
  simp only [endRecord]; split <;> simp
@[simp] theorem endRecord_bt (q a d : Nat) (s : State) : (endRecord q a d s).bt = s.bt := by
  simp only [endRecord]; split <;> simp
@[simp] theorem endRecord_od (q a d : Nat) (s : State) : (endRecord q a d s).od = s.od := by
  simp only [endRecord]; split <;> simp
@[simp] theorem endRecord_ti (q a d : Nat) (s : State) : (endRecord q a d s).ti = s.ti := by
  simp only [endRecord]; split <;> simp
@[simp] theorem endRecord_fr (q a d : Nat) (s : State) : (endRecord q a d s).fr = s.fr := by
  simp only [endRecord]; split <;> simp
@[simp] theorem endRecord_co (q a d : Nat) (s : State) : (endRecord q a d s).co = s.co := by
  simp only [endRecord]; split <;> simp
@[simp] theorem endRecord_ch (q a d : Nat) (s : State) : (endRecord q a d s).ch = s.ch := by
  simp only [endRecord]; split <;> simp
@[simp] theorem endRecord_fa (q a d : Nat) (s : State) : (endRecord q a d s).fa = s.fa := by
  simp only [endRecord]; split <;> simp
@[simp] theorem endRecord_tr (q a d : Nat) (s : State) : (endRecord q a d s).tr = s.tr := by
  simp only [endRecord]; split <;> simp
@[simp] theorem endRecord_ho (q a d : Nat) (s : State) : (endRecord q a d s).ho = s.ho := by
  simp only [endRecord]; split <;> simp
@[simp] theorem endRecord_sv (q a d : Nat) (s : State) : (endRecord q a d s).sv = s.sv := by
  simp only [endRecord]; split <;> simp

/-! `subsume` writes only: rc. -/

@[simp] theorem subsume_now (q : Nat) (rs : List Reset) (s : State) : (subsume q rs s).now = s.now := by
  exact foldl_keeps (fun s : State => s.now) _ (fun _ _ => by simp) _ _
@[simp] theorem subsume_freeCtr (q : Nat) (rs : List Reset) (s : State) : (subsume q rs s).freeCtr = s.freeCtr := by
  exact foldl_keeps (fun s : State => s.freeCtr) _ (fun _ _ => by simp) _ _
@[simp] theorem subsume_pending (q : Nat) (rs : List Reset) (s : State) : (subsume q rs s).pending = s.pending := by
  exact foldl_keeps (fun s : State => s.pending) _ (fun _ _ => by simp) _ _
@[simp] theorem subsume_out (q : Nat) (rs : List Reset) (s : State) : (subsume q rs s).out = s.out := by
  exact foldl_keeps (fun s : State => s.out) _ (fun _ _ => by simp) _ _
@[simp] theorem subsume_mem (q : Nat) (rs : List Reset) (s : State) : (subsume q rs s).mem = s.mem := by
  exact foldl_keeps (fun s : State => s.mem) _ (fun _ _ => by simp) _ _
@[simp] theorem subsume_board (q : Nat) (rs : List Reset) (s : State) : (subsume q rs s).board = s.board := by
  exact foldl_keeps (fun s : State => s.board) _ (fun _ _ => by simp) _ _
@[simp] theorem subsume_pw (q : Nat) (rs : List Reset) (s : State) : (subsume q rs s).pw = s.pw := by
  exact foldl_keeps (fun s : State => s.pw) _ (fun _ _ => by simp) _ _
@[simp] theorem subsume_bt (q : Nat) (rs : List Reset) (s : State) : (subsume q rs s).bt = s.bt := by
  exact foldl_keeps (fun s : State => s.bt) _ (fun _ _ => by simp) _ _
@[simp] theorem subsume_od (q : Nat) (rs : List Reset) (s : State) : (subsume q rs s).od = s.od := by
  exact foldl_keeps (fun s : State => s.od) _ (fun _ _ => by simp) _ _
@[simp] theorem subsume_ti (q : Nat) (rs : List Reset) (s : State) : (subsume q rs s).ti = s.ti := by
  exact foldl_keeps (fun s : State => s.ti) _ (fun _ _ => by simp) _ _
@[simp] theorem subsume_fr (q : Nat) (rs : List Reset) (s : State) : (subsume q rs s).fr = s.fr := by
  exact foldl_keeps (fun s : State => s.fr) _ (fun _ _ => by simp) _ _
@[simp] theorem subsume_co (q : Nat) (rs : List Reset) (s : State) : (subsume q rs s).co = s.co := by
  exact foldl_keeps (fun s : State => s.co) _ (fun _ _ => by simp) _ _
@[simp] theorem subsume_ch (q : Nat) (rs : List Reset) (s : State) : (subsume q rs s).ch = s.ch := by
  exact foldl_keeps (fun s : State => s.ch) _ (fun _ _ => by simp) _ _
@[simp] theorem subsume_fa (q : Nat) (rs : List Reset) (s : State) : (subsume q rs s).fa = s.fa := by
  exact foldl_keeps (fun s : State => s.fa) _ (fun _ _ => by simp) _ _
@[simp] theorem subsume_tr (q : Nat) (rs : List Reset) (s : State) : (subsume q rs s).tr = s.tr := by
  exact foldl_keeps (fun s : State => s.tr) _ (fun _ _ => by simp) _ _
@[simp] theorem subsume_ho (q : Nat) (rs : List Reset) (s : State) : (subsume q rs s).ho = s.ho := by
  exact foldl_keeps (fun s : State => s.ho) _ (fun _ _ => by simp) _ _
@[simp] theorem subsume_sv (q : Nat) (rs : List Reset) (s : State) : (subsume q rs s).sv = s.sv := by
  exact foldl_keeps (fun s : State => s.sv) _ (fun _ _ => by simp) _ _

/-! `orderOverflow` writes only: rc. -/

@[simp] theorem orderOverflow_now (c h : Nat) (s : State) : (orderOverflow c h s).now = s.now := by
  simp only [orderOverflow]; split <;> simp
@[simp] theorem orderOverflow_freeCtr (c h : Nat) (s : State) : (orderOverflow c h s).freeCtr = s.freeCtr := by
  simp only [orderOverflow]; split <;> simp
@[simp] theorem orderOverflow_pending (c h : Nat) (s : State) : (orderOverflow c h s).pending = s.pending := by
  simp only [orderOverflow]; split <;> simp
@[simp] theorem orderOverflow_out (c h : Nat) (s : State) : (orderOverflow c h s).out = s.out := by
  simp only [orderOverflow]; split <;> simp
@[simp] theorem orderOverflow_mem (c h : Nat) (s : State) : (orderOverflow c h s).mem = s.mem := by
  simp only [orderOverflow]; split <;> simp
@[simp] theorem orderOverflow_board (c h : Nat) (s : State) : (orderOverflow c h s).board = s.board := by
  simp only [orderOverflow]; split <;> simp
@[simp] theorem orderOverflow_pw (c h : Nat) (s : State) : (orderOverflow c h s).pw = s.pw := by
  simp only [orderOverflow]; split <;> simp
@[simp] theorem orderOverflow_bt (c h : Nat) (s : State) : (orderOverflow c h s).bt = s.bt := by
  simp only [orderOverflow]; split <;> simp
@[simp] theorem orderOverflow_od (c h : Nat) (s : State) : (orderOverflow c h s).od = s.od := by
  simp only [orderOverflow]; split <;> simp
@[simp] theorem orderOverflow_ti (c h : Nat) (s : State) : (orderOverflow c h s).ti = s.ti := by
  simp only [orderOverflow]; split <;> simp
@[simp] theorem orderOverflow_fr (c h : Nat) (s : State) : (orderOverflow c h s).fr = s.fr := by
  simp only [orderOverflow]; split <;> simp
@[simp] theorem orderOverflow_co (c h : Nat) (s : State) : (orderOverflow c h s).co = s.co := by
  simp only [orderOverflow]; split <;> simp
@[simp] theorem orderOverflow_ch (c h : Nat) (s : State) : (orderOverflow c h s).ch = s.ch := by
  simp only [orderOverflow]; split <;> simp
@[simp] theorem orderOverflow_fa (c h : Nat) (s : State) : (orderOverflow c h s).fa = s.fa := by
  simp only [orderOverflow]; split <;> simp
@[simp] theorem orderOverflow_tr (c h : Nat) (s : State) : (orderOverflow c h s).tr = s.tr := by
  simp only [orderOverflow]; split <;> simp
@[simp] theorem orderOverflow_ho (c h : Nat) (s : State) : (orderOverflow c h s).ho = s.ho := by
  simp only [orderOverflow]; split <;> simp
@[simp] theorem orderOverflow_sv (c h : Nat) (s : State) : (orderOverflow c h s).sv = s.sv := by
  simp only [orderOverflow]; split <;> simp

/-! `startReset` writes only: rc. -/

@[simp] theorem startReset_now (d i c q : Nat) (f : List Nat) (t : List Task) (s : State) : (startReset d i c q f t s).now = s.now := by
  simp [startReset]
@[simp] theorem startReset_freeCtr (d i c q : Nat) (f : List Nat) (t : List Task) (s : State) : (startReset d i c q f t s).freeCtr = s.freeCtr := by
  simp [startReset]
@[simp] theorem startReset_pending (d i c q : Nat) (f : List Nat) (t : List Task) (s : State) : (startReset d i c q f t s).pending = s.pending := by
  simp [startReset]
@[simp] theorem startReset_out (d i c q : Nat) (f : List Nat) (t : List Task) (s : State) : (startReset d i c q f t s).out = s.out := by
  simp [startReset]
@[simp] theorem startReset_mem (d i c q : Nat) (f : List Nat) (t : List Task) (s : State) : (startReset d i c q f t s).mem = s.mem := by
  simp [startReset]
@[simp] theorem startReset_board (d i c q : Nat) (f : List Nat) (t : List Task) (s : State) : (startReset d i c q f t s).board = s.board := by
  simp [startReset]
@[simp] theorem startReset_pw (d i c q : Nat) (f : List Nat) (t : List Task) (s : State) : (startReset d i c q f t s).pw = s.pw := by
  simp [startReset]
@[simp] theorem startReset_bt (d i c q : Nat) (f : List Nat) (t : List Task) (s : State) : (startReset d i c q f t s).bt = s.bt := by
  simp [startReset]
@[simp] theorem startReset_od (d i c q : Nat) (f : List Nat) (t : List Task) (s : State) : (startReset d i c q f t s).od = s.od := by
  simp [startReset]
@[simp] theorem startReset_ti (d i c q : Nat) (f : List Nat) (t : List Task) (s : State) : (startReset d i c q f t s).ti = s.ti := by
  simp [startReset]
@[simp] theorem startReset_fr (d i c q : Nat) (f : List Nat) (t : List Task) (s : State) : (startReset d i c q f t s).fr = s.fr := by
  simp [startReset]
@[simp] theorem startReset_co (d i c q : Nat) (f : List Nat) (t : List Task) (s : State) : (startReset d i c q f t s).co = s.co := by
  simp [startReset]
@[simp] theorem startReset_ch (d i c q : Nat) (f : List Nat) (t : List Task) (s : State) : (startReset d i c q f t s).ch = s.ch := by
  simp [startReset]
@[simp] theorem startReset_fa (d i c q : Nat) (f : List Nat) (t : List Task) (s : State) : (startReset d i c q f t s).fa = s.fa := by
  simp [startReset]
@[simp] theorem startReset_tr (d i c q : Nat) (f : List Nat) (t : List Task) (s : State) : (startReset d i c q f t s).tr = s.tr := by
  simp [startReset]
@[simp] theorem startReset_ho (d i c q : Nat) (f : List Nat) (t : List Task) (s : State) : (startReset d i c q f t s).ho = s.ho := by
  simp [startReset]
@[simp] theorem startReset_sv (d i c q : Nat) (f : List Nat) (t : List Task) (s : State) : (startReset d i c q f t s).sv = s.sv := by
  simp [startReset]

/-! `fault` writes only: rc. -/

@[simp] theorem fault_now (c d i x : Nat) (t : List Task) (s : State) : (fault c d i x t s).now = s.now := by
  simp only [fault]; repeat' split
  all_goals simp
@[simp] theorem fault_freeCtr (c d i x : Nat) (t : List Task) (s : State) : (fault c d i x t s).freeCtr = s.freeCtr := by
  simp only [fault]; repeat' split
  all_goals simp
@[simp] theorem fault_pending (c d i x : Nat) (t : List Task) (s : State) : (fault c d i x t s).pending = s.pending := by
  simp only [fault]; repeat' split
  all_goals simp
@[simp] theorem fault_out (c d i x : Nat) (t : List Task) (s : State) : (fault c d i x t s).out = s.out := by
  simp only [fault]; repeat' split
  all_goals simp
@[simp] theorem fault_mem (c d i x : Nat) (t : List Task) (s : State) : (fault c d i x t s).mem = s.mem := by
  simp only [fault]; repeat' split
  all_goals simp
@[simp] theorem fault_board (c d i x : Nat) (t : List Task) (s : State) : (fault c d i x t s).board = s.board := by
  simp only [fault]; repeat' split
  all_goals simp
@[simp] theorem fault_pw (c d i x : Nat) (t : List Task) (s : State) : (fault c d i x t s).pw = s.pw := by
  simp only [fault]; repeat' split
  all_goals simp
@[simp] theorem fault_bt (c d i x : Nat) (t : List Task) (s : State) : (fault c d i x t s).bt = s.bt := by
  simp only [fault]; repeat' split
  all_goals simp
@[simp] theorem fault_od (c d i x : Nat) (t : List Task) (s : State) : (fault c d i x t s).od = s.od := by
  simp only [fault]; repeat' split
  all_goals simp
@[simp] theorem fault_ti (c d i x : Nat) (t : List Task) (s : State) : (fault c d i x t s).ti = s.ti := by
  simp only [fault]; repeat' split
  all_goals simp
@[simp] theorem fault_fr (c d i x : Nat) (t : List Task) (s : State) : (fault c d i x t s).fr = s.fr := by
  simp only [fault]; repeat' split
  all_goals simp
@[simp] theorem fault_co (c d i x : Nat) (t : List Task) (s : State) : (fault c d i x t s).co = s.co := by
  simp only [fault]; repeat' split
  all_goals simp
@[simp] theorem fault_ch (c d i x : Nat) (t : List Task) (s : State) : (fault c d i x t s).ch = s.ch := by
  simp only [fault]; repeat' split
  all_goals simp
@[simp] theorem fault_fa (c d i x : Nat) (t : List Task) (s : State) : (fault c d i x t s).fa = s.fa := by
  simp only [fault]; repeat' split
  all_goals simp
@[simp] theorem fault_tr (c d i x : Nat) (t : List Task) (s : State) : (fault c d i x t s).tr = s.tr := by
  simp only [fault]; repeat' split
  all_goals simp
@[simp] theorem fault_ho (c d i x : Nat) (t : List Task) (s : State) : (fault c d i x t s).ho = s.ho := by
  simp only [fault]; repeat' split
  all_goals simp
@[simp] theorem fault_sv (c d i x : Nat) (t : List Task) (s : State) : (fault c d i x t s).sv = s.sv := by
  simp only [fault]; repeat' split
  all_goals simp

/-! `setItem` writes only: ho. -/

@[simp] theorem setItem_now (n : Nat) (i : Item) (s : State) : (setItem n i s).now = s.now := rfl
@[simp] theorem setItem_freeCtr (n : Nat) (i : Item) (s : State) : (setItem n i s).freeCtr = s.freeCtr := rfl
@[simp] theorem setItem_pending (n : Nat) (i : Item) (s : State) : (setItem n i s).pending = s.pending := rfl
@[simp] theorem setItem_out (n : Nat) (i : Item) (s : State) : (setItem n i s).out = s.out := rfl
@[simp] theorem setItem_mem (n : Nat) (i : Item) (s : State) : (setItem n i s).mem = s.mem := rfl
@[simp] theorem setItem_board (n : Nat) (i : Item) (s : State) : (setItem n i s).board = s.board := rfl
@[simp] theorem setItem_pw (n : Nat) (i : Item) (s : State) : (setItem n i s).pw = s.pw := rfl
@[simp] theorem setItem_bt (n : Nat) (i : Item) (s : State) : (setItem n i s).bt = s.bt := rfl
@[simp] theorem setItem_od (n : Nat) (i : Item) (s : State) : (setItem n i s).od = s.od := rfl
@[simp] theorem setItem_rc (n : Nat) (i : Item) (s : State) : (setItem n i s).rc = s.rc := rfl
@[simp] theorem setItem_ti (n : Nat) (i : Item) (s : State) : (setItem n i s).ti = s.ti := rfl
@[simp] theorem setItem_fr (n : Nat) (i : Item) (s : State) : (setItem n i s).fr = s.fr := rfl
@[simp] theorem setItem_co (n : Nat) (i : Item) (s : State) : (setItem n i s).co = s.co := rfl
@[simp] theorem setItem_ch (n : Nat) (i : Item) (s : State) : (setItem n i s).ch = s.ch := rfl
@[simp] theorem setItem_fa (n : Nat) (i : Item) (s : State) : (setItem n i s).fa = s.fa := rfl
@[simp] theorem setItem_tr (n : Nat) (i : Item) (s : State) : (setItem n i s).tr = s.tr := rfl
@[simp] theorem setItem_sv (n : Nat) (i : Item) (s : State) : (setItem n i s).sv = s.sv := rfl

/-! `modItem` writes only: ho. -/

@[simp] theorem modItem_now (n : Nat) (f : Item → Item) (s : State) : (modItem n f s).now = s.now := rfl
@[simp] theorem modItem_freeCtr (n : Nat) (f : Item → Item) (s : State) : (modItem n f s).freeCtr = s.freeCtr := rfl
@[simp] theorem modItem_pending (n : Nat) (f : Item → Item) (s : State) : (modItem n f s).pending = s.pending := rfl
@[simp] theorem modItem_out (n : Nat) (f : Item → Item) (s : State) : (modItem n f s).out = s.out := rfl
@[simp] theorem modItem_mem (n : Nat) (f : Item → Item) (s : State) : (modItem n f s).mem = s.mem := rfl
@[simp] theorem modItem_board (n : Nat) (f : Item → Item) (s : State) : (modItem n f s).board = s.board := rfl
@[simp] theorem modItem_pw (n : Nat) (f : Item → Item) (s : State) : (modItem n f s).pw = s.pw := rfl
@[simp] theorem modItem_bt (n : Nat) (f : Item → Item) (s : State) : (modItem n f s).bt = s.bt := rfl
@[simp] theorem modItem_od (n : Nat) (f : Item → Item) (s : State) : (modItem n f s).od = s.od := rfl
@[simp] theorem modItem_rc (n : Nat) (f : Item → Item) (s : State) : (modItem n f s).rc = s.rc := rfl
@[simp] theorem modItem_ti (n : Nat) (f : Item → Item) (s : State) : (modItem n f s).ti = s.ti := rfl
@[simp] theorem modItem_fr (n : Nat) (f : Item → Item) (s : State) : (modItem n f s).fr = s.fr := rfl
@[simp] theorem modItem_co (n : Nat) (f : Item → Item) (s : State) : (modItem n f s).co = s.co := rfl
@[simp] theorem modItem_ch (n : Nat) (f : Item → Item) (s : State) : (modItem n f s).ch = s.ch := rfl
@[simp] theorem modItem_fa (n : Nat) (f : Item → Item) (s : State) : (modItem n f s).fa = s.fa := rfl
@[simp] theorem modItem_tr (n : Nat) (f : Item → Item) (s : State) : (modItem n f s).tr = s.tr := rfl
@[simp] theorem modItem_sv (n : Nat) (f : Item → Item) (s : State) : (modItem n f s).sv = s.sv := rfl

/-! `endItem` writes only: ho. -/

@[simp] theorem endItem_now (n st a b : Nat) (s : State) : (endItem n st a b s).now = s.now := rfl
@[simp] theorem endItem_freeCtr (n st a b : Nat) (s : State) : (endItem n st a b s).freeCtr = s.freeCtr := rfl
@[simp] theorem endItem_pending (n st a b : Nat) (s : State) : (endItem n st a b s).pending = s.pending := rfl
@[simp] theorem endItem_out (n st a b : Nat) (s : State) : (endItem n st a b s).out = s.out := rfl
@[simp] theorem endItem_mem (n st a b : Nat) (s : State) : (endItem n st a b s).mem = s.mem := rfl
@[simp] theorem endItem_board (n st a b : Nat) (s : State) : (endItem n st a b s).board = s.board := rfl
@[simp] theorem endItem_pw (n st a b : Nat) (s : State) : (endItem n st a b s).pw = s.pw := rfl
@[simp] theorem endItem_bt (n st a b : Nat) (s : State) : (endItem n st a b s).bt = s.bt := rfl
@[simp] theorem endItem_od (n st a b : Nat) (s : State) : (endItem n st a b s).od = s.od := rfl
@[simp] theorem endItem_rc (n st a b : Nat) (s : State) : (endItem n st a b s).rc = s.rc := rfl
@[simp] theorem endItem_ti (n st a b : Nat) (s : State) : (endItem n st a b s).ti = s.ti := rfl
@[simp] theorem endItem_fr (n st a b : Nat) (s : State) : (endItem n st a b s).fr = s.fr := rfl
@[simp] theorem endItem_co (n st a b : Nat) (s : State) : (endItem n st a b s).co = s.co := rfl
@[simp] theorem endItem_ch (n st a b : Nat) (s : State) : (endItem n st a b s).ch = s.ch := rfl
@[simp] theorem endItem_fa (n st a b : Nat) (s : State) : (endItem n st a b s).fa = s.fa := rfl
@[simp] theorem endItem_tr (n st a b : Nat) (s : State) : (endItem n st a b s).tr = s.tr := rfl
@[simp] theorem endItem_sv (n st a b : Nat) (s : State) : (endItem n st a b s).sv = s.sv := rfl

/-! `setPoison` writes only: ti. -/

@[simp] theorem setPoison_now (s : State) (a : Nat) : (setPoison s a).now = s.now := rfl
@[simp] theorem setPoison_freeCtr (s : State) (a : Nat) : (setPoison s a).freeCtr = s.freeCtr := rfl
@[simp] theorem setPoison_pending (s : State) (a : Nat) : (setPoison s a).pending = s.pending := rfl
@[simp] theorem setPoison_out (s : State) (a : Nat) : (setPoison s a).out = s.out := rfl
@[simp] theorem setPoison_mem (s : State) (a : Nat) : (setPoison s a).mem = s.mem := rfl
@[simp] theorem setPoison_board (s : State) (a : Nat) : (setPoison s a).board = s.board := rfl
@[simp] theorem setPoison_pw (s : State) (a : Nat) : (setPoison s a).pw = s.pw := rfl
@[simp] theorem setPoison_bt (s : State) (a : Nat) : (setPoison s a).bt = s.bt := rfl
@[simp] theorem setPoison_od (s : State) (a : Nat) : (setPoison s a).od = s.od := rfl
@[simp] theorem setPoison_rc (s : State) (a : Nat) : (setPoison s a).rc = s.rc := rfl
@[simp] theorem setPoison_fr (s : State) (a : Nat) : (setPoison s a).fr = s.fr := rfl
@[simp] theorem setPoison_co (s : State) (a : Nat) : (setPoison s a).co = s.co := rfl
@[simp] theorem setPoison_ch (s : State) (a : Nat) : (setPoison s a).ch = s.ch := rfl
@[simp] theorem setPoison_fa (s : State) (a : Nat) : (setPoison s a).fa = s.fa := rfl
@[simp] theorem setPoison_tr (s : State) (a : Nat) : (setPoison s a).tr = s.tr := rfl
@[simp] theorem setPoison_ho (s : State) (a : Nat) : (setPoison s a).ho = s.ho := rfl
@[simp] theorem setPoison_sv (s : State) (a : Nat) : (setPoison s a).sv = s.sv := rfl

/-! `clearPoison` writes only: ti. -/

@[simp] theorem clearPoison_now (s : State) (a : Nat) : (clearPoison s a).now = s.now := rfl
@[simp] theorem clearPoison_freeCtr (s : State) (a : Nat) : (clearPoison s a).freeCtr = s.freeCtr := rfl
@[simp] theorem clearPoison_pending (s : State) (a : Nat) : (clearPoison s a).pending = s.pending := rfl
@[simp] theorem clearPoison_out (s : State) (a : Nat) : (clearPoison s a).out = s.out := rfl
@[simp] theorem clearPoison_mem (s : State) (a : Nat) : (clearPoison s a).mem = s.mem := rfl
@[simp] theorem clearPoison_board (s : State) (a : Nat) : (clearPoison s a).board = s.board := rfl
@[simp] theorem clearPoison_pw (s : State) (a : Nat) : (clearPoison s a).pw = s.pw := rfl
@[simp] theorem clearPoison_bt (s : State) (a : Nat) : (clearPoison s a).bt = s.bt := rfl
@[simp] theorem clearPoison_od (s : State) (a : Nat) : (clearPoison s a).od = s.od := rfl
@[simp] theorem clearPoison_rc (s : State) (a : Nat) : (clearPoison s a).rc = s.rc := rfl
@[simp] theorem clearPoison_fr (s : State) (a : Nat) : (clearPoison s a).fr = s.fr := rfl
@[simp] theorem clearPoison_co (s : State) (a : Nat) : (clearPoison s a).co = s.co := rfl
@[simp] theorem clearPoison_ch (s : State) (a : Nat) : (clearPoison s a).ch = s.ch := rfl
@[simp] theorem clearPoison_fa (s : State) (a : Nat) : (clearPoison s a).fa = s.fa := rfl
@[simp] theorem clearPoison_tr (s : State) (a : Nat) : (clearPoison s a).tr = s.tr := rfl
@[simp] theorem clearPoison_ho (s : State) (a : Nat) : (clearPoison s a).ho = s.ho := rfl
@[simp] theorem clearPoison_sv (s : State) (a : Nat) : (clearPoison s a).sv = s.sv := rfl

/-! `wrByte` writes only: mem, ti. -/

@[simp] theorem wrByte_now (s : State) (a : Nat) (b : Byte) : (wrByte s a b).now = s.now := by
  simp only [wrByte]; split <;> rfl
@[simp] theorem wrByte_freeCtr (s : State) (a : Nat) (b : Byte) : (wrByte s a b).freeCtr = s.freeCtr := by
  simp only [wrByte]; split <;> rfl
@[simp] theorem wrByte_pending (s : State) (a : Nat) (b : Byte) : (wrByte s a b).pending = s.pending := by
  simp only [wrByte]; split <;> rfl
@[simp] theorem wrByte_out (s : State) (a : Nat) (b : Byte) : (wrByte s a b).out = s.out := by
  simp only [wrByte]; split <;> rfl
@[simp] theorem wrByte_board (s : State) (a : Nat) (b : Byte) : (wrByte s a b).board = s.board := by
  simp only [wrByte]; split <;> rfl
@[simp] theorem wrByte_pw (s : State) (a : Nat) (b : Byte) : (wrByte s a b).pw = s.pw := by
  simp only [wrByte]; split <;> rfl
@[simp] theorem wrByte_bt (s : State) (a : Nat) (b : Byte) : (wrByte s a b).bt = s.bt := by
  simp only [wrByte]; split <;> rfl
@[simp] theorem wrByte_od (s : State) (a : Nat) (b : Byte) : (wrByte s a b).od = s.od := by
  simp only [wrByte]; split <;> rfl
@[simp] theorem wrByte_rc (s : State) (a : Nat) (b : Byte) : (wrByte s a b).rc = s.rc := by
  simp only [wrByte]; split <;> rfl
@[simp] theorem wrByte_fr (s : State) (a : Nat) (b : Byte) : (wrByte s a b).fr = s.fr := by
  simp only [wrByte]; split <;> rfl
@[simp] theorem wrByte_co (s : State) (a : Nat) (b : Byte) : (wrByte s a b).co = s.co := by
  simp only [wrByte]; split <;> rfl
@[simp] theorem wrByte_ch (s : State) (a : Nat) (b : Byte) : (wrByte s a b).ch = s.ch := by
  simp only [wrByte]; split <;> rfl
@[simp] theorem wrByte_fa (s : State) (a : Nat) (b : Byte) : (wrByte s a b).fa = s.fa := by
  simp only [wrByte]; split <;> rfl
@[simp] theorem wrByte_tr (s : State) (a : Nat) (b : Byte) : (wrByte s a b).tr = s.tr := by
  simp only [wrByte]; split <;> rfl
@[simp] theorem wrByte_ho (s : State) (a : Nat) (b : Byte) : (wrByte s a b).ho = s.ho := by
  simp only [wrByte]; split <;> rfl
@[simp] theorem wrByte_sv (s : State) (a : Nat) (b : Byte) : (wrByte s a b).sv = s.sv := by
  simp only [wrByte]; split <;> rfl

/-! `idle` writes only: now. -/

@[simp] theorem idle_freeCtr (s : State) : (idle s).freeCtr = s.freeCtr := by
  simp only [idle]; split <;> rfl
@[simp] theorem idle_pending (s : State) : (idle s).pending = s.pending := by
  simp only [idle]; split <;> rfl
@[simp] theorem idle_out (s : State) : (idle s).out = s.out := by
  simp only [idle]; split <;> rfl
@[simp] theorem idle_mem (s : State) : (idle s).mem = s.mem := by
  simp only [idle]; split <;> rfl
@[simp] theorem idle_board (s : State) : (idle s).board = s.board := by
  simp only [idle]; split <;> rfl
@[simp] theorem idle_pw (s : State) : (idle s).pw = s.pw := by
  simp only [idle]; split <;> rfl
@[simp] theorem idle_bt (s : State) : (idle s).bt = s.bt := by
  simp only [idle]; split <;> rfl
@[simp] theorem idle_od (s : State) : (idle s).od = s.od := by
  simp only [idle]; split <;> rfl
@[simp] theorem idle_rc (s : State) : (idle s).rc = s.rc := by
  simp only [idle]; split <;> rfl
@[simp] theorem idle_ti (s : State) : (idle s).ti = s.ti := by
  simp only [idle]; split <;> rfl
@[simp] theorem idle_fr (s : State) : (idle s).fr = s.fr := by
  simp only [idle]; split <;> rfl
@[simp] theorem idle_co (s : State) : (idle s).co = s.co := by
  simp only [idle]; split <;> rfl
@[simp] theorem idle_ch (s : State) : (idle s).ch = s.ch := by
  simp only [idle]; split <;> rfl
@[simp] theorem idle_fa (s : State) : (idle s).fa = s.fa := by
  simp only [idle]; split <;> rfl
@[simp] theorem idle_tr (s : State) : (idle s).tr = s.tr := by
  simp only [idle]; split <;> rfl
@[simp] theorem idle_ho (s : State) : (idle s).ho = s.ho := by
  simp only [idle]; split <;> rfl
@[simp] theorem idle_sv (s : State) : (idle s).sv = s.sv := by
  simp only [idle]; split <;> rfl

end Sys2Proof.Machine
end

