-- ==== Sys2Proof/Laws/Coherence.lean ====
section
/-!
SUPPORT. Laws of coherence: how a message is taken from the mesh, and how its home or its agent meets it.
-/

namespace Sys2Proof.Machine

/-- What `takesMesh` says of its message, and that the message is taken. -/
theorem takesMesh_spec {ty : Nat} {m : CohMsg} {s t : State} (h : takesMesh ty m s = some t) :
    s.powered = true ∧ m.mtype = ty ∧ m.frame = none ∧ t = s.setCh { s.ch with net := s.ch.net.erase m } ∧
      cohTake ty m s = (t, true) := by
  simp only [takesMesh] at h
  split at h
  · rename_i hc
    simp only [Bool.and_eq_true, decide_eq_true_eq, Option.isNone_iff_eq_none] at hc
    obtain ⟨⟨⟨hp, ht⟩, hf⟩, hn⟩ := hc
    simp only [Option.some.injEq] at h
    refine ⟨hp, ht, hf, h.symm, ?_⟩
    simp [cohTake, ht, hf, ← h, List.contains_iff_mem.mp hn]
  · simp at h

theorem homeReq_of_takes {ty : Nat} {m : CohMsg} {s t : State} (r : Option Nat) (h : takesMesh ty m s = some t) :
    homeReq ty r m s = homeArrive m t := by
  obtain ⟨-, -, hf, -, hc⟩ := takesMesh_spec h
  simp [homeReq, hc, hf]

theorem joinComb_none {m : CohMsg} {s : State} (h : s.ch.txns.has m.line = false) : joinComb m s = none := by
  simp [joinComb, h]

/-- An admitted request is served in the state that `homeServes` gives. -/
theorem homeReq_of_serves {ty : Nat} {m : CohMsg} {s t : State} (r : Option Nat) (h : homeServes ty m s = some t) :
    s.powered = true ∧ m.mtype = ty ∧ isPoisoned t (lineAddr m.line) = false ∧ dirVictim t m.line = none ∧
      ∃ u, t = servedState m u ∧ homeReq ty r m s = serve m u := by
  simp only [homeServes, Option.bind_eq_some_iff] at h
  obtain ⟨u, hu, h⟩ := h
  split at h
  · rename_i hc
    simp only [Bool.and_eq_true, Bool.not_eq_true', Option.isNone_iff_eq_none] at hc
    obtain ⟨⟨⟨⟨⟨hl, hh⟩, hs⟩, hq⟩, hp⟩, hv⟩ := hc
    simp only [Option.some.injEq] at h
    subst h
    obtain ⟨hw, ht, -, -, -⟩ := takesMesh_spec hu
    refine ⟨hw, ht, hp, hv, u, rfl, ?_⟩
    have hx : u.ch.txns.has m.line = false := by
      simp only [canServe, Bool.and_eq_true, Bool.not_eq_true'] at hs; exact hs.1.1
    simp [homeReq_of_takes r hu, homeArrive, hl, joinComb_none hx, hq, hh, hs]
  · simp at h

/-- A request that is not an atomic opens its transaction, or is answered, at once. -/
theorem homeReq_serveOpen {ty : Nat} {m : CohMsg} {s t : State} (r : Option Nat) (h : homeServes ty m s = some t)
    (h4 : ty ≠ 0x04) (ha : ty ≠ 0x0A) : s.powered = true ∧ m.mtype = ty ∧ homeReq ty r m s = serveOpen m [] t := by
  obtain ⟨hw, ht, hp, hv, u, rfl, hr⟩ := homeReq_of_serves r h
  refine ⟨hw, ht, ?_⟩
  simp only [servedState] at hp hv ⊢
  simp [hr, serve, hp, hv, ht, h4, ha]

/-- A snoop meets the line of its agent. -/
theorem snoopReaches_spec {ty : Nat} {m : CohMsg} {s t : State} (h : snoopReaches ty m s = some t) :
    takesMesh ty m s = some t ∧ t.ch.reqs.find? (fun r => r.tabor = agentTabor m.dst &&
      lineKey r.chip r.line = lineKey m.srcChip m.line && r.mtype ≠ 0x08 && r.mtype ≠ 0x09 && r.mtype ≠ 0x0A &&
      !stillWaiting t r) = none := by
  simp only [snoopReaches, Option.bind_eq_some_iff] at h
  obtain ⟨u, hu, h⟩ := h
  split at h
  · simp at h
  · rename_i hn
    simp only [Option.some.injEq] at h
    subst h
    refine ⟨hu, ?_⟩
    simp only [List.find?_eq_none]
    intro x hx hc
    exact hn (List.any_eq_true.mpr ⟨x, hx, hc⟩)

end Sys2Proof.Machine
end

