-- ==== Sys2Proof/Laws/Inert.lean ====
section
/-!
SUPPORT. What the guards shared by the commands answer while the device is not powered: the supply is gone,
RESET_N is low, or the hardwired path has quiesced it.
-/

namespace Sys2Proof.Machine

variable {s : State}

theorem alive_unpowered (h : s.powered = false) : s.alive = false := by simp [State.alive, h]

theorem canIssue_unpowered (h : s.powered = false) (p : Proc) (op : Op) (w : Nat) : canIssue p op w s = none := by
  simp only [canIssue]; split <;> simp [alive_unpowered h]

theorem issue_unpowered (h : s.powered = false) (op : Op) (p : Proc) (w : BitVec 32) (k : Ctx → State → State) :
    issue op p w k s = .next s := by simp [issue, canIssue_unpowered h]

theorem carillonUp_unpowered (h : s.powered = false) : carillonUp s = false := by simp [carillonUp, h]

theorem takeMsg_unpowered (h : s.powered = false) (who : Session) (m : OdpMsg) : takeMsg who m s = none := by
  simp [takeMsg, carillonUp_unpowered h]

theorem answerMsg_unpowered (h : s.powered = false) (who : Session) (m : OdpMsg) (f : State → Answer × State)
    (g : State → State) : answerMsg who m f g s = s := by simp [answerMsg, takeMsg_unpowered h]

theorem rowWrite_unpowered (h : s.powered = false) (key : Nat) (who : Session) (m : OdpMsg) :
    rowWrite key who m s = .next s := by simp [rowWrite, odWrite, answerMsg_unpowered h]

theorem takeQuiet_unpowered (h : s.powered = false) (who : Session) (m : OdpMsg) (f : State → State) :
    takeQuiet who m f s = s := by simp [takeQuiet, takeMsg_unpowered h]

theorem drumAllowed_unpowered (h : s.powered = false) (n : Nat) : drumAllowed s n = false := by
  simp [drumAllowed, h]

theorem mmioUp_unpowered (h : s.powered = false) (p : Nat) : mmioUp s p = false := by
  simp [mmioUp, alive_unpowered h]

theorem mailboxUp_unpowered (h : s.powered = false) (p : Nat) : mailboxUp s p = false := by simp [mailboxUp, h]

theorem spdmServe_unpowered (h : s.powered = false) (port : Nat) (k : State → State) :
    spdmServe port s k = s := by simp [spdmServe, spdmUp, mmioUp_unpowered h]

theorem rxHeader_unpowered (h : s.powered = false) (f : RxFrame) : rxHeader f s = (s, false) := by
  simp [rxHeader, alive_unpowered h]

theorem rxRequest_unpowered (h : s.powered = false) (k : Nat) (f : RxFrame) : rxRequest k f s = s := by
  simp [rxRequest, rxHeader_unpowered h]

theorem ctlTake_unpowered (h : s.powered = false) (k : Nat) (f : RxFrame) : ctlTake k f s = (s, false) := by
  simp [ctlTake, rxHeader_unpowered h]

theorem withItem_unpowered (h : s.powered = false) (n op : Nat) (k : Item → State → State) :
    withItem n op s k = s := by simp only [withItem]; split <;> simp [alive_unpowered h]

theorem hostOp_unpowered (h : s.powered = false) (item op : Nat) : hostOp item op s = s := by
  simp only [hostOp]; split <;> simp [alive_unpowered h]

theorem remoteOp_unpowered (h : s.powered = false) (write op : Nat) : remoteOp write op s = s := by
  simp [remoteOp, alive_unpowered h]

theorem cmdEntry_unpowered (h : s.powered = false) (port op : Nat) (e : Quad) (k : Nat → Nat → State → State) :
    cmdEntry port op e s k = s := by simp [cmdEntry, mmioUp_unpowered h]

theorem watched_unpowered (h : s.powered = false) : watched s = false := by simp [watched, h]

theorem scriptsRun_unpowered (h : s.powered = false) : scriptsRun s = false := by
  simp [scriptsRun, carillonUp_unpowered h]

end Sys2Proof.Machine
end

