-- ==== Sys2Proof/Laws/Maps.lean ====
section
/-!
SUPPORT. Laws of the finite maps: a read after a write, and that every operation keeps the keys
strictly rising.
-/

namespace Sys2Proof

namespace FMap

variable {α : Type}

@[simp] theorem get?_nil (j : Nat) : get? ([] : FMap α) j = none := rfl

theorem get?_cons (k j : Nat) (v : α) (m : FMap α) :
    get? ((k, v) :: m) j = if j = k then some v else get? m j := rfl

/-- What a write leaves at every key. -/
theorem get?_set (m : FMap α) (j k : Nat) (v : α) :
    get? (set m j v) k = if k = j then some v else get? m k := by
  induction m with
  | nil => simp [set, get?_cons]
  | cons h t ih =>
    obtain ⟨a, b⟩ := h
    simp only [set]
    split
    · simp [get?_cons]
    · split
      · subst_vars; simp only [get?_cons]; split <;> simp_all
      · simp only [get?_cons, ih]; split
        · subst_vars; split <;> simp_all
        · rfl

@[simp] theorem get?_set_self (m : FMap α) (j : Nat) (v : α) : get? (set m j v) j = some v := by
  simp [get?_set]

theorem get?_set_ne (m : FMap α) {j k : Nat} (v : α) (h : k ≠ j) : get? (set m j v) k = get? m k := by
  simp [get?_set, h]

theorem getD_set (m : FMap α) (j k : Nat) (v d : α) :
    getD (set m j v) k d = if k = j then v else getD m k d := by
  simp only [getD, get?_set]; split <;> rfl

@[simp] theorem getD_set_self (m : FMap α) (j : Nat) (v d : α) : getD (set m j v) j d = v := by
  simp [getD_set]

@[simp] theorem getD_nil (j : Nat) (d : α) : getD ([] : FMap α) j d = d := rfl

theorem has_set (m : FMap α) (j k : Nat) (v : α) : has (set m j v) k = (decide (k = j) || has m k) := by
  simp only [has, get?_set]; split <;> simp_all

@[simp] theorem has_set_self (m : FMap α) (j : Nat) (v : α) : has (set m j v) j = true := by
  simp [has_set]

/-- Every key of a map is above `n`. -/
def above (n : Nat) (m : FMap α) : Prop := ∀ kv ∈ m, n < kv.1

theorem wf_cons {k : Nat} {v : α} {m : FMap α} :
    wf ((k, v) :: m) = true ↔ above k m ∧ wf m = true := by
  induction m generalizing k v with
  | nil => simp [wf, above]
  | cons h t ih =>
    obtain ⟨j, w⟩ := h
    have step : wf ((k, v) :: (j, w) :: t) = true ↔ k < j ∧ wf ((j, w) :: t) = true := by simp [wf]
    rw [step]
    constructor
    · rintro ⟨hk, hw⟩
      refine ⟨?_, hw⟩
      intro kv hm
      rcases List.mem_cons.mp hm with rfl | hm
      · exact hk
      · exact Nat.lt_trans hk ((ih.mp hw).1 kv hm)
    · rintro ⟨ha, hw⟩
      exact ⟨ha (j, w) (List.mem_cons_self ..), hw⟩

theorem wf_tail {kv : Nat × α} {m : FMap α} (h : wf (kv :: m) = true) : wf m = true :=
  (wf_cons.mp h).2

theorem mem_set {m : FMap α} {j : Nat} {v : α} {kv : Nat × α} (h : kv ∈ set m j v) :
    kv = (j, v) ∨ kv ∈ m := by
  induction m with
  | nil => simpa [set] using h
  | cons p t ih =>
    obtain ⟨a, b⟩ := p
    simp only [set] at h
    split at h
    · simpa using h
    · split at h
      · rcases List.mem_cons.mp h with h | h
        · exact .inl h
        · exact .inr (List.mem_cons_of_mem _ h)
      · rcases List.mem_cons.mp h with h | h
        · exact .inr (by simp [h])
        · rcases ih h with h | h
          · exact .inl h
          · exact .inr (List.mem_cons_of_mem _ h)

/-- A write keeps the keys strictly rising. -/
theorem wf_set {m : FMap α} (h : wf m = true) (j : Nat) (v : α) : wf (set m j v) = true := by
  induction m with
  | nil => rfl
  | cons p t ih =>
    obtain ⟨a, b⟩ := p
    have ⟨ha, ht⟩ := wf_cons.mp h
    simp only [set]
    split
    · rename_i hlt
      refine wf_cons.mpr ⟨?_, h⟩
      intro kv hm
      rcases List.mem_cons.mp hm with rfl | hm
      · exact hlt
      · exact Nat.lt_trans hlt (ha kv hm)
    · split
      · rename_i he; subst he; exact wf_cons.mpr ⟨ha, ht⟩
      · refine wf_cons.mpr ⟨?_, ih ht⟩
        intro kv hm
        rcases mem_set hm with rfl | hm
        · simp only []; omega
        · exact ha kv hm

theorem mem_erase {m : FMap α} {j : Nat} {kv : Nat × α} (h : kv ∈ erase m j) : kv ∈ m := by
  induction m with
  | nil => simp [erase] at h
  | cons p t ih =>
    obtain ⟨a, b⟩ := p
    simp only [erase] at h
    split at h
    · exact List.mem_cons_of_mem _ h
    · rcases List.mem_cons.mp h with h | h
      · simp [h]
      · exact List.mem_cons_of_mem _ (ih h)

/-- A removal keeps the keys strictly rising. -/
theorem wf_erase {m : FMap α} (h : wf m = true) (j : Nat) : wf (erase m j) = true := by
  induction m with
  | nil => rfl
  | cons p t ih =>
    obtain ⟨a, b⟩ := p
    have ⟨ha, ht⟩ := wf_cons.mp h
    simp only [erase]
    split
    · exact ht
    · exact wf_cons.mpr ⟨fun kv hm => ha kv (mem_erase hm), ih ht⟩

/-- Keeping some of the entries keeps the keys strictly rising. -/
theorem wf_filter {m : FMap α} (h : wf m = true) (p : Nat × α → Bool) : wf (m.filter p) = true := by
  induction m with
  | nil => rfl
  | cons q t ih =>
    obtain ⟨a, b⟩ := q
    have ⟨ha, ht⟩ := wf_cons.mp h
    simp only [List.filter]
    split
    · exact wf_cons.mpr ⟨fun kv hm => ha kv (List.mem_filter.mp hm).1, ih ht⟩
    · exact ih ht

/-- A key below every key of a map is not listed. -/
theorem get?_above {n : Nat} {m : FMap α} (h : above n m) : get? m n = none := by
  induction m with
  | nil => rfl
  | cons p t ih =>
    obtain ⟨a, b⟩ := p
    have hn : n < a := h (a, b) (List.mem_cons_self ..)
    rw [get?_cons, if_neg (by omega)]
    exact ih fun kv hm => h kv (List.mem_cons_of_mem _ hm)

/-- What a removal leaves at every key. -/
theorem get?_erase {m : FMap α} (h : wf m = true) (j k : Nat) :
    get? (erase m j) k = if k = j then none else get? m k := by
  induction m with
  | nil => simp [erase]
  | cons p t ih =>
    obtain ⟨a, b⟩ := p
    have ⟨ha, ht⟩ := wf_cons.mp h
    simp only [erase]
    split
    · rename_i he
      subst he
      by_cases hk : k = j
      · subst hk; simp [get?_above ha]
      · simp [hk, get?_cons]
    · rw [get?_cons, ih ht, get?_cons]
      by_cases hk : k = a
      · subst hk; rw [if_pos rfl, if_pos rfl, if_neg (by omega)]
      · simp [hk]

end FMap

end Sys2Proof
end

