-- ==== Sys2Proof/Laws/Items.lean ====
section
/-!
SUPPORT. Laws of items: what a row of chapter 11 does with an item that is ready, with arguments that follow its
layout, and with one whose accesses succeed.
-/

namespace Sys2Proof.Machine

/-- A ready item is performed, marked as started. -/
theorem withItem_of_ready {n op : Nat} {s : State} {i : Item} (k : Item → State → State)
    (h : itemReady n op s = some i) : withItem n op s k = k i (setItem n i s) := by
  simp only [itemReady, Option.bind_eq_some_iff] at h
  obtain ⟨j, hj, h⟩ := h
  split at h
  · cases h
  · rename_i h1
    split at h
    · cases h
    · rename_i h2
      cases h
      simp only [withItem, hj]
      rw [if_neg h1, if_neg h2]

/-- An item that is not ready is left alone. -/
theorem withItem_not_ready {n op : Nat} {s : State} (k : Item → State → State) (h : itemReady n op s = none) :
    withItem n op s k = s := by
  simp only [itemReady] at h
  simp only [withItem]
  cases hj : getItem? s n with
  | none => rfl
  | some i =>
    simp only [hj, Option.bind_some] at h ⊢
    split at h
    · rename_i h1; rw [if_pos h1]
    · rename_i h1
      split at h
      · rename_i h2; rw [if_neg h1, if_pos h2]
      · cases h

@[simp] theorem checked_ok (n : Nat) (s : State) (k : State → State) : checked n true s k = k s := rfl

@[simp] theorem checked_bad (n : Nat) (s : State) (k : State → State) :
    checked n false s k = endItem n Config.invalidDescriptor 0 0 s := rfl

@[simp] theorem Acc.bind_ok {α β : Type} (a : α) (s : State) (k : α → State → Acc β) : (Acc.ok a s).bind k = k a s := rfl

@[simp] theorem Acc.bind_bad {α β : Type} (st : Nat) (s : State) (k : α → State → Acc β) :
    (Acc.bad st s).bind k = .bad st s := rfl

@[simp] theorem Acc.bind_wait {α β : Type} (s : State) (k : α → State → Acc β) : (Acc.wait s).bind k = .wait s := rfl

@[simp] theorem Acc.run_ok (n : Nat) (s : State) : Acc.run n (.ok () s) = s := rfl

@[simp] theorem Acc.run_bad (n st : Nat) (s : State) : Acc.run n (.bad st s) = endItem n st 0 0 s := rfl

@[simp] theorem Acc.run_wait (n : Nat) (s : State) : Acc.run n (.wait s) = s := rfl

/-- A page command on pages that are all translated. -/
theorem withPages_of_pages {n : Nat} {i : Item} {s t : State} {l : List Nat} (k : List Nat → State → State)
    (h : itemPages n i s = some (l, t)) : withPages n i s k = k l t := by
  simp only [itemPages] at h
  simp only [withPages]
  split at h
  · rename_i hx; rw [hx]; cases h; rfl
  · cases h

/-! Marking an item as started changes nothing but the item. -/

section SetItem
variable (n : Nat) (i : Item) (s : State) (a b : Nat)

@[simp] theorem setItem_powered : (setItem n i s).powered = s.powered := rfl
@[simp] theorem setItem_alive : (setItem n i s).alive = s.alive := rfl
@[simp] theorem openRound_setItem : openRound (setItem n i s) a b = openRound s a b := rfl
@[simp] theorem openTable_setItem : openTable (setItem n i s) a b = openTable s a b := rfl
@[simp] theorem tableOf_setItem : tableOf (setItem n i s) a b = tableOf s a b := rfl
@[simp] theorem getLookup_setItem : getLookup (setItem n i s) a = getLookup s a := rfl
@[simp] theorem pinned_setItem : pinned (setItem n i s) a = pinned s a := rfl
@[simp] theorem indexOf_setItem : indexOf (setItem n i s) a b = indexOf s a b := rfl
@[simp] theorem openIndex_setItem : openIndex (setItem n i s) a b = openIndex s a b := rfl
@[simp] theorem tenantStore_setItem : tenantStore (setItem n i s) a b = tenantStore s a b := rfl
@[simp] theorem openStore_setItem : openStore (setItem n i s) a b = openStore s a b := rfl
@[simp] theorem imageOf_setItem : imageOf (setItem n i s) a b = imageOf s a b := rfl

/-- The item that was marked is the one that the device holds. -/
@[simp] theorem getItem?_setItem : getItem? (setItem n i s) n = some i := by
  simp only [getItem?, setItem]
  exact FMap.get?_set_self ..

end SetItem

/-- An index that an item names accepts it. -/
theorem indexTakes_spec {n op k : Nat} {s : State} {i : Item} {x : Index} (h : indexTakes n op s = some (i, k, x)) :
    itemReady n op s = some i ∧ openIndex s i.tenant (wBits i.words 1 15 0) = some (k, x) ∧ x.failed = false := by
  simp only [indexTakes, Option.bind_eq_some_iff] at h
  obtain ⟨j, hj, ⟨k', x'⟩, hx, h⟩ := h
  cases hf : x'.failed <;> simp [hf] at h
  obtain ⟨rfl, rfl, rfl⟩ := h
  exact ⟨hj, hx, hf⟩

end Sys2Proof.Machine
end

