-- ==== Sys2Proof/Laws/Memory.lean ====
section
/-!
SUPPORT. Laws of the range's bytes: every operation keeps the canonical form, and a read after a
write gives what was written there and what was there elsewhere.
-/

namespace Sys2Proof.Machine

theorem Memory.wf_iff (m : List Host.Cell) :
    Memory.wf m = true ↔ FMap.wf m = true ∧ ∀ c ∈ m, c.2 ≠ 0 := by
  simp [Memory.wf]

/-- Writing a byte keeps the canonical form. -/
theorem memSet_wf {m : List Host.Cell} (h : Memory.wf m = true) (a : Nat) (b : Byte) :
    Memory.wf (memSet m a b) = true := by
  obtain ⟨hw, hz⟩ := (Memory.wf_iff m).mp h
  rw [Memory.wf_iff]
  simp only [memSet]
  split
  · exact ⟨FMap.wf_erase hw a, fun c hc => hz c (FMap.mem_erase hc)⟩
  · rename_i hb
    refine ⟨FMap.wf_set hw a b, ?_⟩
    intro c hc
    rcases FMap.mem_set hc with rfl | hc
    · exact hb
    · exact hz c hc

/-- Dropping bytes keeps the canonical form. -/
theorem memFilter_wf {m : List Host.Cell} (h : Memory.wf m = true) (p : Host.Cell → Bool) :
    Memory.wf (m.filter p) = true := by
  obtain ⟨hw, hz⟩ := (Memory.wf_iff m).mp h
  rw [Memory.wf_iff]
  exact ⟨FMap.wf_filter hw p, fun c hc => hz c (List.mem_filter.mp hc).1⟩

theorem wrByte_wf {s : State} (h : Memory.wf s.mem = true) (a : Nat) (b : Byte) :
    Memory.wf (wrByte s a b).mem = true := by
  simp only [wrByte]; split <;> exact memSet_wf h a b

theorem wrBytes_wf {s : State} (h : Memory.wf s.mem = true) (a : Nat) (bs : List Byte) :
    Memory.wf (wrBytes s a bs).mem = true := by
  induction bs generalizing s a with
  | nil => exact h
  | cons b bs ih => exact ih (wrByte_wf h a b) _

theorem wrNat_wf {s : State} (h : Memory.wf s.mem = true) (a n v : Nat) :
    Memory.wf (wrNat s a n v).mem = true := wrBytes_wf h a _

/-- Emptying a page keeps the canonical form. -/
theorem wipePage_wf {s : State} (h : Memory.wf s.mem = true) (page : Nat) :
    Memory.wf (wipePage page s).mem = true := by
  simp only [wipePage, State.setTi_mem, State.setMem_mem]; exact memFilter_wf h _

/-- A byte other than the one written keeps its listing. -/
theorem get?_memSet {m : List Host.Cell} (h : Memory.wf m = true) (a k : Nat) (b : Byte) :
    FMap.get? (memSet m a b) k = if k = a then (if b = 0 then none else some b) else FMap.get? m k := by
  obtain ⟨hw, -⟩ := (Memory.wf_iff m).mp h
  simp only [memSet]
  split
  · rw [FMap.get?_erase hw]
  · rw [FMap.get?_set]

end Sys2Proof.Machine
end

