-- ==== Sys2Proof/Laws/Phicor.lean ====
section
/-!
SUPPORT. Laws of the issue of an instruction (R143): what a program does that can issue its next word.
-/

namespace Sys2Proof.Machine

/-- An instruction that issues does what its operation says, on its program with the fuel taken. -/
theorem issue_of_issues {op : Op} {p : Proc} {w : BitVec 32} {s : State} {c : Ctx} (k : Ctx → State → State)
    (h : issues op p w s = some c) : issue op p w k s = .next (k c s) := by
  simp only [issues, Option.bind_eq_some_iff] at h
  obtain ⟨d, hd, h⟩ := h
  split at h
  · cases h
  · rename_i hf
    cases h
    simp [issue, hd, hf]

/-- An instruction of its program's own state that has a result leaves that result in the program. -/
theorem issuePure_of_issues {op : Op} {p : Proc} {w : BitVec 32} {s : State} {c c' : Ctx} (f : Nat → Ctx → Res)
    (h : issues op p w s = some c) (hf : f w.toNat c = .ok c') :
    issuePure op f p w s = .next (finishOp p c' s) := by
  simp [issuePure, issue_of_issues _ h, hf]

/-- One that ends its program with a status does so. -/
theorem issuePure_fails {op : Op} {p : Proc} {w : BitVec 32} {s : State} {c : Ctx} (f : Nat → Ctx → Res) {st : Nat}
    (h : issues op p w s = some c) (hf : f w.toNat c = .error st) :
    issuePure op f p w s = .next (failProc p c st s) := by
  simp [issuePure, issue_of_issues _ h, hf]

/-- With no fuel left the program ends with FUEL_EXHAUSTED, whatever the instruction is (R143). -/
theorem issue_no_fuel {op : Op} {p : Proc} {w : BitVec 32} {s : State} {c : Ctx} (k : Ctx → State → State)
    (h : canIssue p op w.toNat s = some c) (hf : c.fuel = 0) :
    issue op p w k s = .next (failProc p c Config.fuelExhausted s) := by
  simp [issue, h, hf]

/-- A word that cannot issue now changes nothing. -/
theorem issue_waits {op : Op} {p : Proc} {w : BitVec 32} {s : State} (k : Ctx → State → State)
    (h : canIssue p op w.toNat s = none) : issue op p w k s = .next s := by
  simp [issue, h]

@[simp] theorem putProc_tabor (n : Nat) (c : Ctx) (s : State) :
    putProc (.tabor n) c s = modCtx n c.id (fun _ => c) s := rfl

@[simp] theorem finishOp_tabor (n : Nat) (c : Ctx) (s : State) :
    finishOp (.tabor n) c s = modCtx n c.id (fun _ => c) s := rfl

@[simp] theorem finishOp_carillon (c : Ctx) (s : State) : finishOp .carillon c s = putProc .carillon c s := rfl

end Sys2Proof.Machine
end

