-- ==== Sys2Proof/Laws/Tiers.lean ====
section
/-!
SUPPORT. Laws of the home map and of moves.
-/

namespace Sys2Proof.Machine

/-- A page's entry depends on the home map and on DEFAULT_PROTECTION alone. -/
theorem entryOf_congr {s t : State} (h : t.ti.homeA = s.ti.homeA) (h2 : t.od.num = s.od.num) (p : Nat) : entryOf t p = entryOf s p := by
  simp [entryOf, h, h2, Par.defaultProtection]

theorem entryOf_setEntry (s : State) (p q : Nat) (e : HomeEntry) :
    entryOf (setEntry p e s) q = if q = p then e else entryOf s q := by
  by_cases h : q = p
  · simp [entryOf, setEntry, h]
  · simp only [entryOf, setEntry, State.setTi_ti, FMap.get?_set, h, if_false]; rfl
@[simp] theorem entryOf_setEntry_self (s : State) (p : Nat) (e : HomeEntry) :
    entryOf (setEntry p e s) p = e := by simp [entryOf_setEntry]
@[simp] theorem entryOf_setFr (s : State) (p : Nat) (v : Frost) : entryOf (s.setFr v) p = entryOf s p := rfl
@[simp] theorem entryOf_setNow (s : State) (p : Nat) (v : Nat) : entryOf (s.setNow v) p = entryOf s p := rfl
@[simp] theorem entryOf_reach (s : State) (p : Nat) (v : Nat) : entryOf (s.reach v) p = entryOf s p := 
  entryOf_congr (by simp) (by simp) p
theorem entryOf_setTi (s : State) (p : Nat) (v : Tiers) (h : v.homeA = s.ti.homeA) : entryOf (s.setTi v) p = entryOf s p :=
  entryOf_congr (s := s) (by simpa using h) (by simp) p

/-- With nothing planned and no drain, no move starts. -/
theorem startPlanned_none (n : Nat) (s : State) (h1 : s.ti.plan = []) (h2 : s.ti.drainItems = []) : startPlanned n s = s := by
  cases n with
  | zero => rfl
  | succ n => simp [startPlanned, draining, h1, h2]

/-- A place freed changes only which slots are used and which groups keep a share. -/
theorem freePlace_ti (p : Place) (s : State) : ∃ u q, freePlace p s = s.setTi { s.ti with used := u, parity := q } := by
  simp only [freePlace]
  generalize (if p.arranged = 2 then parityShare? s p.tier (p.slot / 8) else none) = x
  generalize (if p.arranged = 1 then
    (s.ti.used.del (slotKey p.tier p.slot)).del (slotKey p.tier p.mirror)
      else s.ti.used.del (slotKey p.tier p.slot)) = u
  cases x with
  | none => exact ⟨_, _, rfl⟩
  | some share =>
    dsimp only
    split
    · exact ⟨_, _, rfl⟩
    · exact ⟨_, _, rfl⟩

/-- Giving up a move leaves its page where it was, in HOME. -/
theorem abandonMove_spec {s : State} {r : Nat} {m : Move} (h : s.ti.moves.get? r = some m)
    (ht : (entryOf s m.page).tier ≠ 0) :
    ∃ u q, abandonMove r s = setEntry m.page { entryOf s m.page with state := 0, moveSlot := 0 }
      (s.setTi { s.ti with moves := s.ti.moves.erase r, used := u, parity := q }) := by
  obtain ⟨u, q, hf⟩ := freePlace_ti m.dst (s.setTi { s.ti with moves := s.ti.moves.erase r })
  refine ⟨u, q, ?_⟩
  simp only [abandonMove, h, ht, if_false, hf]
  rfl

/-! An event changes no number of the dictionary. -/

theorem fireEvent_num (c a b : Nat) (s : State) : (fireEvent c a b s).od.num = s.od.num := by
  simp only [fireEvent]; split
  · rfl
  · refine foldl_keeps (fun s : State => s.od.num) _ (fun _ _ => ?_) _ _
    simp only [enqueueFiring]; repeat' split
    all_goals rfl
theorem mailboxNotify_num (p : Nat) (m : OdpMsg) (s : State) : (mailboxNotify p m s).od.num = s.od.num := by
  simp only [mailboxNotify]; split <;> simp [setMb]
theorem notifyAll_num (e : EvRec) (s : State) : (notifyAll e s).od.num = s.od.num := by
  simp only [notifyAll]; repeat' split
  all_goals simp [foldl_keeps (fun s : State => s.od.num) (fun s a => sendVlan a none (notifyMsg e) s) (fun _ _ => by simp), mailboxNotify_num]
theorem raise_num (c j a b : Nat) (s : State) : (raise c j a b s).od.num = s.od.num := by
  simp [raise, fireEvent_num, notifyAll_num]

/-- The check of free space touches, of the range, only whether LOW_SPACE is armed. -/
theorem checkLowSpace_spec (s : State) : ∃ b, (checkLowSpace s).ti = { s.ti with lowArmed := b } ∧ (checkLowSpace s).od.num = s.od.num ∧ (checkLowSpace s).mem = s.mem := by
  simp only [checkLowSpace]
  repeat' split
  · exact ⟨false, by simp, by simp [raise_num], by simp⟩
  · exact ⟨_, rfl, rfl, rfl⟩
  · exact ⟨_, rfl, rfl, rfl⟩
  · exact ⟨_, rfl, rfl, rfl⟩

end Sys2Proof.Machine
end

