-- ==== Sys2Proof/Tests/Slice0.lean ====
section
/-!
SUPPORT. Tests: ill-formed commands are refused by `wellFormed`; worked examples of the spec; and, for every clause of
every statement, a state and operands that meet its hypotheses.
-/

namespace Sys2Proof.Tests

set_option linter.unusedVariables false
set_option linter.unusedSimpArgs false
set_option Elab.async false

open Sys2Proof Sys2Proof.Machine

/-- A device in READY with small tiers and both host ports up. -/
def up : State :=
  { bt := { stage := 4, mounted := true }
    ti := { rangePages := 64, hbmSlots := 16, ddrSlots := 16, flashSlots := 16 }
    ho := { ports := [(0, { up := true, fns := [(0, { bme := true }), (1, { bme := true }), (2, { bme := true })] }), (1, { up := true })] } }

def mv0 : Move := ⟨0, 1, 0, 0, 0, 2, 1, 0, 0, 0, false, [], 0, 0, none⟩

/-- A set of numbers. -/
def ns (l : List Nat) : NSet := l.map fun n => (n, ())

def reg (opc func : Nat) : BitVec 32 := BitVec.ofNat 32 (opc + 2 ^ 7 * 1 + 2 ^ 12 * 2 + 2 ^ 17 * 3 + 2 ^ 25 * func)
def imm (opc f3 : Nat) : BitVec 32 := BitVec.ofNat 32 (opc + 2 ^ 7 * 1 + 2 ^ 12 * 2 + 2 ^ 17 * f3 + 2 ^ 20 * 5)
def acc (opc size : Nat) : BitVec 32 := BitVec.ofNat 32 (opc + 2 ^ 7 * 1 + 2 ^ 12 * 2 + 2 ^ 20 * size)
def vec (opc ty f2 : Nat) : BitVec 32 := BitVec.ofNat 32 (opc + 2 ^ 7 * 1 + 2 ^ 12 * 2 + 2 ^ 25 * ty + 2 ^ 30 * f2)

/-- A running program with its operands in x2 and x3. -/
def c0 : Ctx :=
  { id := 1, tenant := 1, item := 1, handle := 0, profile := 0, code := [], pc := 0, fuel := 10, x := [(2, 64), (3, 8)],
    v := [], p := [], ret := [], scratch := [], scratchBytes := 4096, sr := [], tabor := 0, chime := none,
    state := .running, hold := .none, holdSince := 0, sliceStart := 0, pend := [], pubTags := [], acqTags := [],
    emptyWrb := false, wrbFrom := 0, wrb := [], ending := none, granules := 4, head := [], body := [], pkt := none }

/-- The PTC entry of tenant 1's first page. -/
def pt0 : PtcEnt := ⟨1, 0, false, true, true, 0, false, 0, 0⟩

/-- Tenant 1 with a page and a job, and the device's other state as in `up`. -/
def upT : State :=
  ((up.setTr { up.tr with atc := [(0, [⟨2, 0, 1, true, true, 8192, 0⟩])], ptc := [(1, pt0)], nextEnt := 2, tenants := [(1, ⟨1, 0, 1000, 1, 0, false⟩)], grants := [(1, ⟨1, 0, 8⟩)] }).setTi
    { up.ti with homeA := [(0, { tier := 1 })], homeB := [(0, { tier := 1 })] }).setFa
    { up.fa with jobs := [(5, 1)], nodeId := 1, generation := 1, composition := 1 }

/-- The program on tabor 0, at a word. -/
def run (w : BitVec 32) (c : Ctx) : State :=
  upT.setCo { upT.co with tabors := [(0, { ctxs := [{ c with code := [w.toNat] }] })] }
def runC (w : BitVec 32) (c : Ctx) : State := upT.setOd { upT.od with script := some (0, { c with code := [w.toNat] }) }
def runG (w : BitVec 32) (c : Ctx) : State := upT.setCo { upT.co with gale := [(0, { c with code := [w.toNat] })] }

/-- The value and the state with which an access of an engine ends. -/
def accVal {α : Type} : Acc α → Option (α × State)
  | .ok a s => some (a, s)
  | _ => none

theorem ok_get {ε α : Type} {x : Except ε α} (h : x.toOption.isSome = true) : x = .ok (x.toOption.get h) := by
  cases x <;> first | rfl | simp [Except.toOption] at h

theorem ok_pair {ε α β : Type} {x : Except ε (α × β)} (h : x.toOption.isSome = true) :
    x = .ok ((x.toOption.get h).1, (x.toOption.get h).2) := by
  cases x <;> first | rfl | simp [Except.toOption] at h

theorem acc_get {α : Type} {x : Acc α} (h : (accVal x).isSome = true) :
    x = .ok ((accVal x).get h).1 ((accVal x).get h).2 := by
  cases x <;> first | rfl | simp [accVal] at h

theorem acc_val {α : Type} {x : Acc α} {a : α} (h : (accVal x).isSome = true) (e : ((accVal x).get h).1 = a) :
    x = .ok a ((accVal x).get h).2 := by
  rw [← e]
  exact acc_get h

/-- The error with which a computation ends. -/
def errVal {ε α : Type} : Except ε α → Option ε
  | .error e => some e
  | .ok _ => none

theorem err_of {ε α : Type} {x : Except ε α} {e : ε} (h : errVal x = some e) : x = .error e := by
  cases x <;> simp_all [errVal]

/-- The status and the state with which a failed access of an engine ends. -/
def badVal {α : Type} : Acc α → Option (Nat × State)
  | .bad st s => some (st, s)
  | _ => none

theorem bad_of {α : Type} {x : Acc α} {st : Nat} {s : State} (h : badVal x = some (st, s)) : x = .bad st s := by
  cases x <;> simp_all [badVal]

/-- A device whose counter 64 belongs to tenant 1 and stands at 8. -/
def counted (s : State) : State := s.setFa { s.fa with ctrOwner := [(64, 1)], counters := [(64, 8)] }

/-- A coherence message of a type from the agent of tabor 0, on line 1. -/
def ms (t : Nat) : CohMsg :=
  { mtype := t, src := 0, dst := 0, tag := 1, status := 0, line := 1, backoffExp := 0, aop := 0, a64 := false, word := 0,
    half := false, dirty := false, payload := [], srcChip := 0, dstChip := 0, frame := none }
def rq0 : AgentReq := ⟨0, 0, 1, 1, 1, 1, .slice, none, ms 1, none, []⟩
def tx0 : Txn := ⟨ms 2, [(0, 0x10)], false, none, none, false, false, [], 0⟩
def sl0 : SliceLine := ⟨.m, [1], 0, 0⟩
def txp0 : TxPath := ⟨0, 1, [⟨{ noPkt with dst := 2 }, 1, none, true, 0⟩], 10000, 0, 0, 100000, none, 0, 0, 0, false⟩
def rp0 : RemoteReq := ⟨.ctx 0 1 7, 1, { noPkt with dst := 2 }, 1, 0, 0, false, false, none, none, [], none, false, false, none⟩

def nb0 : Neighbour := { mac := 5, portName := 0, maeleth := some (2, 1, 1, 0, 0), ttl := 120 }

/-- Tenant 1's device with a secure link on sub-port 0 to node 2. -/
def upF : State :=
  upT.setFa { upT.fa with subs := [(0, { state := 3, neighbour := some nb0 })], nrt := [(1, ⟨0xA, 0, true⟩), (2, ⟨0xB, 1, true⟩)] }

/-- A packet of a kind from node 2, and its frame. -/
def pk (kind : Nat) (payload : List Byte) : Pkt :=
  { noPkt with kind := kind, syn := true, src := 2, dst := 1, gen := 1, comp := 1, job := 5, len := payload.length, payload := payload }
def fr0 (p : Pkt) : RxFrame := ⟨0, true, 0xB, 0xA, 47044, true, false, p⟩
/-- A message of domain formation from node 2. -/
def fm (t : Nat) (payload : List Byte) : CohMsg :=
  { ms t with payload := payload, frame := some (fr0 (pk 7 (List.replicate 16 0))) }
def fg0 : Forming := ⟨[2], [], 0, 0, none, []⟩
def cp0 : Copy := ⟨0, 1, .item 1, [0, 0, 0, 64], false, 0, [], 0, none, false⟩
def op0 : OpenPkt := ⟨{ noPkt with kind := 3 }, [], 2, 0, none, 0, [], 0, [], 0, 0⟩

/-- The state that an outcome gives, if it is a next state. -/
def nextOf (r : Res3) : State :=
  match r with
  | .next t => t
  | _ => up

/-- An item of tenant 1 from queue 0 of its function, in the device of `upF`. -/
def it0 (op : Nat) (words : List Nat) : Item := { src := .host 0 2 0 5, tenant := 1, opcode := op, ordered := false, words := words }
def item (op : Nat) (words : List Nat) : State := upF.setHo { upF.ho with items := [(1, it0 op words)], nextItem := 2 }

def rwt0 : Rwt := ⟨5, 7, 1, false, 15, 0, 1, 64, 1, []⟩
def ho0 : Handoff := ⟨1, 1, 0, 0, 0, 2, 7, 0, 0, some 0⟩

/-- Port 0 with an entry in its command ring. -/
def upC : State :=
  upT.setHo { upT.ho with ports := [(0, { up := true, fns := [(0, { bme := true })], cmdRing := { qstate := 1, tail := 1, sizeLog2 := 4 } })] }
/-- An entry of the command ring. -/
def quad (a b c d : Nat) : Quad := ⟨BitVec.ofNat 64 a, BitVec.ofNat 64 b, BitVec.ofNat 64 c, BitVec.ofNat 64 d⟩

/-- The function of tenant 1 with a submission and a completion queue. -/
def upQ (sq cq : Ring) : State :=
  upT.setHo { upT.ho with ports := [(0, { up := true, fns := [(2, { bme := true, sq := [(0, sq)], cq := [(0, cq)] })] })] }

/-- `item`, changed. -/
def itemX (op : Nat) (words : List Nat) (f : Item → Item) : State :=
  upF.setHo { upF.ho with items := [(1, f (it0 op words))], nextItem := 2 }

/-- A program image: profile, kind, fuel, code. -/
def img (profile kind fuel : Nat) (code : List Nat) : List Byte :=
  let body := code.flatMap (leBytes 4)
  leBytes 4 0x31434850 ++ leBytes 2 1 ++ leBytes 1 profile ++ leBytes 1 kind ++ leBytes 2 code.length ++ leBytes 2 0 ++
    leBytes 1 4 ++ leBytes 3 0 ++ leBytes 4 fuel ++ leBytes 4 0 ++ leBytes 8 0 ++ sha384 body ++ leBytes 48 0 ++ body

/-- Bytes in memory from an address on. -/
def cells (a : Nat) (bs : List Byte) : List Host.Cell := (bs.zipIdx.filter fun x => x.1 ≠ 0).map fun x => (a + x.2, x.1)

/-- A compute program of one END, in tenant 1's store under handle 0. -/
def im0 : Image := ⟨1, 0, 0, 0, 4, 0, [0x60], [], 1, false⟩
def upI : State := upF.setCo { upF.co with images := [(0, im0), (1, { im0 with profile := 1, kind := 3 })] }
def itemI (op : Nat) (words : List Nat) : State := upI.setHo { upI.ho with items := [(1, it0 op words)], nextItem := 2 }

/-- A round of one contributor and one unit, its declare's words, and a write to its inbox. -/
def wR : List Nat := [0, 3 + 2 ^ 35, 0, 1, 128, 0, 256, 512, 0, 0, 0, 0, 0, 0, 0, 0]
def rd0 : Round := { tenant := 1, id := 3, item := 9, words := wR, inbox := 256, inboxLines := 1, stallFrom := 0, ptcs := [1] }
def lw0 : LineWrite := ⟨256, true, leBytes 64 0, .item 7, false⟩
/-- The same with MX states. -/
def rdX : Round :=
  { rd0 with words := [0, 3 + 2 ^ 24 + 2 ^ 35, 0, 2, 128, 0, 256, 512, 0, 0, 1024, 0, 0, 0, 0, 0],
             halves := [(0, [(0, List.replicate 16 0), (1, List.replicate 16 0)])] }

/-- A table of 4 rows of 16 elements at PVA 0, and a look-up of one bag. -/
def ds0 : Desc := ⟨1, false, 16, 4, 0, false, 0⟩
def tb0 : Table := { tenant := 1, id := 3, cur := ds0 }
def wL : List Nat := [0, 3 + 2 ^ 32, 1024, 2048, 0, 4096]
def lk0 : Lookup := { desc := ds0, idx := [], todo := [], sizes := [0] }
def lk1 : Lookup := { lk0 with idx := [(0, 1, none)], todo := ns [0], sizes := [1] }
/-- A graph index of 16 dimensions in the page at PVA 0. -/
def wX : List Nat := [0, 3 + 2 ^ 16 + 2 ^ 32 * 16 + 2 ^ 44 * 8, 0, 0, 0, 0, 1, 2 ^ 16 * 8, 100]
def ix0 : Index := { tenant := 1, id := 3, words := wX, ptcs := [1] }

/-- `upF` with the first four pages mapped. -/
def upS : State :=
  (upF.setTr { upF.tr with ptc := (List.range 4).map fun k => (k + 1, { pt0 with vpn := k, ppn := k }), nextEnt := 5 }).setTi
    { upF.ti with homeA := (List.range 4).map fun k => (k, { tier := 1, slot := k }),
                  homeB := (List.range 4).map fun k => (k, { tier := 1, slot := k }) }
/-- A store in pages 1 to 3: its index, and two pages of blocks; the request area is a line at PVA 4,096. -/
def wC : List Nat := [0, 3, 0x200000, 3, 1, 4096, 1, 0, 0, 0]
def st0 : Store := { tenant := 1, id := 3, words := wC, req := 4096, reqLines := 1, ptcs := [1, 2, 3, 4] }
/-- The same with a block under key 7. -/
def ck0 : CKey := { version := 1, slot := 0, segs := 1, last := 0 }
def st1 : Store := { st0 with keys := [(7, ck0)], slots := [(0, { bytes := 65536 })] }
def itemC (op : Nat) (words : List Nat) (x : Store) (f : Item → Item) : State :=
  (upS.setHo { upS.ho with items := [(1, f (it0 op words))], nextItem := 2 }).setSv { upS.sv with stores := [(1, x)] }
/-- A request line of an operation on key 7. -/
def line (op : Nat) (x : Store) : State :=
  upS.setSv { upS.sv with
    stores := [(1, x)]
    writes := [(1, ⟨4096, true, leBytes 8 (op + 2 ^ 5) ++ leBytes 40 0 ++ leBytes 8 7 ++ leBytes 8 0, .item 9, false⟩)] }

/-- A device with a reset of a domain pending, and its record. -/
def rs0 (domain index : Nat) : Reset := ⟨domain, index, 0x13, 1, 0, false, [], []⟩
def upR (x : Reset) : State :=
  upT.setRc { upT.rc with resets := [x], queueA := [⟨x.cause, x.domain, 0, 0, x.index, 1, 0, 0, 0⟩] }
def ctx0 (h : Hold) : State := upT.setCo { upT.co with tabors := [(0, { ctxs := [{ c0 with hold := h }] })] }

/-- An ODP message of operation `op` from the CAN session, and a device that may take it. -/
def om (op index sub : Nat) (data : List Byte) : OdpMsg := ⟨op, 1, index, sub, false, 0, 0, 0, false, data, 0⟩
def wr (key len v : Nat) : OdpMsg := om 2 (key / 256) (key % 256) (leBytes len v)
def upO : State := up.setPw { up.pw with canNode := 5 }
def sx0 : SegXfer := ⟨.can, om 5 0x1000 0x0A [], false, 100, [], 0, 0, false, 0⟩

/-- A boot image of one page of zeros, signed by a test key. -/
def fwKey : List Byte :=
  4 :: (beBytes 48 0xE11A13C176223AF905D2DD9A433A4DF6606738AD6E20EC1B5D8E2169DEDEB319FC247E9E317CFEB959088ECEA8B38861 ++
    beBytes 48 0xB59C61FF3854831FB19D48927A72F167B58C97A2EED93AD266F4F7887CE6BD56240A9E2AC0A764B1845EA9628F7E39AD)
def fwImg : List Byte :=
  leBytes 4 0x31464858 ++ leBytes 2 1 ++ leBytes 1 0xA2 ++ leBytes 1 0 ++ leBytes 4 1 ++ leBytes 4 0 ++ leBytes 4 4096 ++ leBytes 12 0 ++
    sha384 (leBytes 4096 0) ++ fwKey ++ leBytes 15 0 ++
    beBytes 48 0x4E47A237CC608F03D38BF953C2C25C8CB99DE4BBADA9288A6B43656520B2559143F1FD344DDE210802BBC630315996BE ++
    beBytes 48 0xA25912955C64A45F915C0CF1A06ABCF32D5ADB08A39B2691444BAA1E0935C97F128820E68841C70EEACC10302C6FDC72 ++
    leBytes 224 0 ++ leBytes 4096 0

/-- The same in STANDBY, and with an ODP peer on the management VLAN. -/
def upOS : State := upO.setOd { upO.od with num := [(0x080001, 0)] }
def upV : State := (upOS.setOd { upOS.od with oct := [(0x080008, leBytes 16 5)] }).setFa { upO.fa with subs := [(0, { state := 3 })] }
/-- A shaper entry. -/
def shp : List Byte := leBytes 12 0 ++ leBytes 4 66864 ++ leBytes 8 66864

/-! Ill-formed commands, one for each check of `wellFormed`. -/

theorem test_ill_formed_kit :
    wellFormed (.vddCoreSag 64 0) = false ∧
    wellFormed (.kitFault 64) = false ∧
    wellFormed (.avsLoopPeriod [(64, 0)]) = false ∧
    wellFormed (.tempLoopPeriod [(64, 0)] [] [] []) = false := by
  decide +kernel

theorem test_ill_formed_stack_and_module :
    wellFormed (.tempLoopPeriod [] [(8, 0)] [] []) = false ∧
    wellFormed (.dramTrained [8] []) = false ∧
    wellFormed (.dramTrained [] [16]) = false ∧
    wellFormed (.moduleLost 8) = false ∧
    wellFormed (.moduleLost 0x20) = false := by
  decide +kernel

theorem test_ill_formed_tabor :
    wellFormed (.taborFence 4352) = false ∧
    wellFormed (.add (.tabor 4352) 0) = false ∧
    wellFormed (.sliceExpiry 4352) = false ∧
    wellFormed (.programResident 0 4096) = false := by
  decide +kernel

theorem test_ill_formed_sliver_and_arbiter :
    wellFormed (.combineEntryApply 4096 0) = false ∧
    wellFormed (.arbiterGrant (.sliver 4096)) = false ∧
    wellFormed (.hpWindowExpiry (.pch 512)) = false := by
  decide +kernel

theorem test_ill_formed_host_port :
    wellFormed (.getVersion 2) = false ∧
    wellFormed (.cmdRingTailDoorbell 2 0) = false ∧
    wellFormed (.mbDoorbell 2 0) = false ∧
    wellFormed (.mbNotifyHead 0 64) = false ∧
    wellFormed (.tenantCreate 2 (quad 0 0 0 0)) = false := by
  decide +kernel

theorem test_ill_formed_function_and_queue :
    wellFormed (.vfFlr 0 513) = false ∧
    wellFormed (.sqDrainDone 0 0 8) = false ∧
    wellFormed (.sqTailDoorbell 0 0 0 (2 ^ 64)) = false ∧
    wellFormed (.sqEntryFetch 0 0 0 [2 ^ 64]) = false ∧
    wellFormed (.mmioRegWrite 0 0 0x20000 4 0) = false := by
  decide +kernel

theorem test_ill_formed_ats :
    wellFormed (.prgResponse 0 16) = false ∧
    wellFormed (.atsInvalidateRequest 0 0 0x100001 0 1) = false := by
  decide +kernel

theorem test_ill_formed_fabric_port_and_sub_port :
    wellFormed (.portLogic 32) = false ∧
    wellFormed (.trainingTimeout 32 false false) = false ∧
    wellFormed (.linkDown 64) = false ∧
    wellFormed (.laneLockLoss 0 4) = false ∧
    wellFormed (.pcsLock 0 (2 ^ 48)) = false ∧
    wellFormed (.mkpduRx 0 0x10000) = false := by
  decide +kernel

theorem test_ill_formed_node_class_job :
    wellFormed (.peerLost 0x10000) = false ∧
    wellFormed (.rtoExpiry 0x10000 0) = false ∧
    wellFormed (.rtoExpiry 0 8) = false ∧
    wellFormed (.ledgerSourceExpiry 0 0x100000) = false ∧
    wellFormed (.ledgerEntryExpiry 0 0 (2 ^ 32)) = false ∧
    wellFormed (.flagStoreRelease 0 0 (2 ^ 32)) = false := by
  decide +kernel

theorem test_ill_formed_flash_place :
    wellFormed (.dieBusyTimeout 48 0) = false ∧
    wellFormed (.dieBusyTimeout 0 16) = false ∧
    wellFormed (.flashChannelLost 48) = false ∧
    wellFormed (.frostProgramDone 0 ⟨48, 0, 0, 0, false⟩ true) = false ∧
    wellFormed (.mountDone [(0, 16)] []) = false ∧
    wellFormed (.mountDone [] [48]) = false := by
  decide +kernel

theorem test_ill_formed_address :
    wellFormed (.uncorrectableLine (2 ^ 50) 0) = false ∧
    wellFormed (.uncorrectableLine 0 2) = false ∧
    wellFormed (.homeTimeoutExpiry (2 ^ 44)) = false ∧
    wellFormed (.fenceReadoutDone 0 [2 ^ 44]) = false ∧
    wellFormed (.sourceRefcountZero 0 0) = false ∧
    wellFormed (.scrubRun [2 ^ 50] []) = false := by
  decide +kernel

theorem test_ill_formed_tenant_and_task :
    wellFormed (.reencryptDone 1024) = false ∧
    wellFormed (.drumbeatRunEnd 5) = false ∧
    wellFormed (.resetDone 8 0) = false ∧
    wellFormed (.tocsinHeartbeat 2) = false ∧
    wellFormed (.lockMaxExpiry 22) = false ∧
    wellFormed (.triggerPeriod 16) = false := by
  decide +kernel

theorem test_ill_formed_session_and_message :
    wellFormed (.odpRead (.mailbox 2) (om 1 0 0 [])) = false ∧
    wellFormed (.odpRead (.vlan (2 ^ 128)) (om 1 0 0 [])) = false ∧
    wellFormed (.odpRead .can (om 0x100 0 0 [])) = false ∧
    wellFormed (.odpRead .can (om 1 0x10000 0 [])) = false ∧
    wellFormed (.odpRead .can (om 1 0 0x100 [])) = false ∧
    wellFormed ((.odpRead .can { om 1 0 0 [] with tenant := 1024 })) = false ∧
    wellFormed ((.odpRead .can { om 1 0 0 [] with via := 64 })) = false ∧
    wellFormed (.segTimeout .can 0x100) = false ∧
    wellFormed (.resetNDeassert 0 128) = false := by
  decide +kernel

theorem test_ill_formed_attestation :
    wellFormed (.negotiateAlgorithms 0 0 (2 ^ 32) 0) = false ∧
    wellFormed (.getCertificate 0 0 0 0 0x10000) = false ∧
    wellFormed (.challenge 0 0 0 (2 ^ 256)) = false ∧
    wellFormed (.getDigests 0 0x100) = false := by
  decide +kernel

theorem test_ill_formed_domain :
    wellFormed (.domainSleep (.kit 64)) = false ∧
    wellFormed (.domainWake (.port 32)) = false := by
  decide +kernel

theorem test_ill_formed_coherence_message :
    wellFormed (.rdS (ms 2)) = false ∧
    wellFormed (.rdS { ms 1 with line := 2 ^ 44 }) = false ∧
    wellFormed (.wb (ms 5)) = false ∧
    wellFormed (.rdS { ms 1 with payload := [0] }) = false ∧
    wellFormed (.rdS { ms 1 with src := 0x10000 }) = false ∧
    wellFormed (.rdS { ms 1 with word := 8 }) = false ∧
    wellFormed (.rdS { ms 1 with frame := some { fr0 noPkt with sub := 64 } }) = false := by
  decide +kernel

theorem test_ill_formed_frame_and_packet :
    wellFormed (.ack { fr0 noPkt with srcAddr := 2 ^ 128 }) = false ∧
    wellFormed (.ack { fr0 noPkt with udpPort := 0x10000 }) = false ∧
    wellFormed (.ack (fr0 { noPkt with kind := 64 })) = false ∧
    wellFormed (.ack (fr0 { noPkt with offset := 2 ^ 50 })) = false ∧
    wellFormed (.ack (fr0 { noPkt with len := 1 })) = false ∧
    wellFormed (.ack (fr0 { noPkt with counter := 0x40000 })) = false := by
  decide +kernel

theorem test_ill_formed_neighbour :
    wellFormed (.lldpRx 0 { nb0 with mac := 2 ^ 48 }) = false ∧
    wellFormed (.lldpRx 0 { nb0 with ttl := 0x10000 }) = false := by
  decide +kernel

theorem test_well_formed_at_the_bounds :
    wellFormed (.vddCoreSag 63 0) = true ∧ wellFormed (.taborFence 4351) = true ∧ wellFormed (.linkDown 63) = true ∧
    wellFormed (.add (.gale 31) 0) = true ∧ wellFormed (.moduleLost 0x1F) = true ∧ wellFormed (.vfFlr 1 512) = true ∧
    wellFormed (.rdS (ms 1)) = true ∧ wellFormed (.wb { ms 5 with payload := leBytes 64 0 }) = true ∧
    wellFormed (.ack (fr0 (pk 0x12 [1]))) = true ∧ wellFormed (.odpRead (.mailbox 1) (om 1 0xFFFF 0xFF [])) = true := by
  decide +kernel

/-! Functions of standards: the results are the standards' own (FIPS 180-4, "abc"; RFC 6979, A.2.6, "sample"). -/

theorem test_sha384_abc :
    beNat (sha384 [0x61, 0x62, 0x63]) =
      0xCB00753F45A35E8BB5A03D699AC65007272C32AB0EDED1631A8B605A43FF5BED8086072BA1E7CC2358BAECA134C825A7 := by
  decide +kernel

/-- The key of RFC 6979, A.2.6, and its signature of "sample". -/
def rfcKey : List Byte :=
  4 :: (beBytes 48 0xEC3A4E415B4E19A4568618029F427FA5DA9A8BC4AE92E02E06AAE5286B300C64DEF8F0EA9055866064A254515480BC13 ++
    beBytes 48 0x8015D9B72D7D57244EA8EF9AC0C621896708A59367F9DFB9F54CA84B3F1C9DB1288B231C3AE0D4FE7344FD2533264720)
def rfcSig : List Byte :=
  beBytes 48 0x94EDBB92A5ECB8AAD4736E56C691916B3F88140666CE9FA73D64C4EA95AD133C81A648152E44ACF96E36DD1E80FABE46 ++
    beBytes 48 0x99EF4AEB15F178CEA1FE40DB2603138F130E740A19624526203B6351D0A3A94FA329C145786E679E7B82C71A38628AC8

theorem test_ecdsa_sample :
    ecdsaVerify rfcKey [0x73, 0x61, 0x6D, 0x70, 0x6C, 0x65] rfcSig = true ∧
      ecdsaVerify rfcKey [0x73, 0x61, 0x6D, 0x70, 0x6C, 0x66] rfcSig = false := by
  decide +kernel

/-! Witnesses: for each clause of a statement that has hypotheses, values that meet them together. -/

theorem test_witness_programs_touch_only_their_context : ∃ mk, mk ∈ pureInstrs :=
  ⟨_, List.mem_of_getElem? (i := 0) rfl⟩

theorem test_witness_instructions_leave_the_range_alone : ∃ mk, mk ∈ pureInstrs ++ reachingInstrs :=
  ⟨_, List.mem_of_getElem? (i := 0) rfl⟩

theorem test_witness_vector_elements_are_independent : ∃ (t : Elt) (i : Nat), i < t.count :=
  ⟨.fp32, 0, by decide⟩

theorem test_witness_drift_moves_pages_1 :
    (∃ (s : State) (r : Nat) (m : Move), s.powered = true ∧ s.ti.moves.get? r = some m ∧ (entryOf s m.page).state = 1 ∧ m.passed = false ∧ m.chunk < 31) ∧
    (∃ (s : State) (r : Nat) (m : Move), s.powered = true ∧ s.ti.moves.get? r = some m ∧ (entryOf s m.page).state = 1 ∧ m.passed = false ∧ m.chunk = 31 ∧ m.dirty = []) ∧
    (∃ (s : State) (r : Nat) (m : Move), s.powered = true ∧ s.ti.moves.get? r = some m ∧ (entryOf s m.page).state = 2) ∧
    (∃ (s : State) (r : Nat) (m : Move) (since : Nat), s.powered = true ∧ s.pw.refclk = true ∧ s.ti.moves.get? r = some m ∧ m.stallSince = some since ∧ (entryOf s m.page).state = 2 ∧ m.backs < 15) ∧
    (∃ (s : State) (r : Nat) (m : Move) (since : Nat), s.powered = true ∧ s.ti.moves.get? r = some m ∧ m.stallSince = some since ∧ (entryOf s m.page).state = 2 ∧ (entryOf s m.page).tier ≠ 0 ∧ 15 ≤ m.backs ∧ s.ti.plan = [] ∧ s.ti.drainItems = []) ∧
    (∃ (s : State) (r : Nat) (m : Move), s.powered = true ∧ s.pw.refclk = true ∧ s.ti.moves.get? r = some m ∧ (entryOf s m.page).state ≠ 3 ∧ (entryOf s m.page).tier ≠ 0 ∧ s.ti.plan = [] ∧ s.ti.drainItems = []) := by
  refine ⟨⟨((up).setTi { up.ti with moves := [(0, mv0)], homeA := [(0, { tier := 1, state := 1 })] }) , 0, mv0, by decide +kernel⟩,
    ⟨((up).setTi { up.ti with moves := [(0, { mv0 with chunk := 31 })], homeA := [(0, { tier := 1, state := 1 })] }) , 0, { mv0 with chunk := 31 }, by decide +kernel⟩,
    ⟨((up).setTi { up.ti with moves := [(0, mv0)], homeA := [(0, { tier := 1, state := 2 })] }) , 0, mv0, by decide +kernel⟩,
    ⟨((up).setTi { up.ti with moves := [(0, { mv0 with stallSince := some 5, backs := 14 })], homeA := [(0, { tier := 1, state := 2 })] }) , 0, { mv0 with stallSince := some 5, backs := 14 }, 5, by decide +kernel⟩,
    ⟨((up).setTi { up.ti with moves := [(0, { mv0 with stallSince := some 5, backs := 15 })], homeA := [(0, { tier := 1, state := 2 })] }) , 0, { mv0 with stallSince := some 5, backs := 15 }, 5, by decide +kernel⟩,
    ⟨((up).setTi { up.ti with moves := [(0, mv0)], homeA := [(0, { tier := 1, state := 2 })] }) , 0, mv0, by decide +kernel⟩⟩

theorem test_witness_drift_moves_pages_2 :
    (∃ (s : State) (tier slot r : Nat) (m : Move), s.powered = true ∧ refsOf s tier slot = 0 ∧ s.ti.moves.first? (fun _ m => m.srcTier = tier && m.srcSlot = slot && (entryOf s m.page).state = 3) = some (r, m) ∧ s.ti.plan = [] ∧ s.ti.drainItems = []) ∧
    (∃ (s : State) (page : Nat) (e : HomeEntry), drumAllowed s 0 = true ∧ s.ti.homeA.get? page = some e ∧ e.hint ≠ 3) ∧
    (∃ (s : State) (task : Nat), s.powered = true ∧ (getDrum s task).running = true) ∧
    (∃ (s : State) (pha copy m : Nat), s.powered = true ∧ pha / 0x200000 < s.ti.rangePages ∧ ((entryOf s (pha / 0x200000)).tier = 1 ∨ (entryOf s (pha / 0x200000)).tier = 2) ∧ (entryOf s (pha / 0x200000)).arranged = 0 ∧ moduleOf s (entryOf s (pha / 0x200000)).tier (entryOf s (pha / 0x200000)).slot = some m ∧ s.ti.ueLog = [] ∧ 1 < Par.ueLossCount s) ∧
    (∃ (s : State) (pha copy m : Nat), s.powered = true ∧ pha / 0x200000 < s.ti.rangePages ∧ ((entryOf s (pha / 0x200000)).tier = 1 ∨ (entryOf s (pha / 0x200000)).tier = 2) ∧ (entryOf s (pha / 0x200000)).arranged = 1 ∧ slotGood s (entryOf s (pha / 0x200000)).tier (entryOf s (pha / 0x200000)).slot = true ∧ slotGood s (entryOf s (pha / 0x200000)).tier (entryOf s (pha / 0x200000)).mirror = true ∧ moduleOf s (entryOf s (pha / 0x200000)).tier (if copy = 1 then (entryOf s (pha / 0x200000)).mirror else (entryOf s (pha / 0x200000)).slot) = some m ∧ s.ti.ueLog = [] ∧ 1 < Par.ueLossCount s) ∧
    (∃ (s : State) (pha copy : Nat), s.ti.rangePages ≤ pha / 0x200000) := by
  refine ⟨⟨((up).setTi { up.ti with moves := [(0, mv0)], homeA := [(0, { tier := 1, state := 3 })] }) , 1, 0, 0, mv0, by decide +kernel⟩,
    ⟨((up).setTi { up.ti with homeA := [(0, { tier := 1 })] }) , 0, { tier := 1 }, by decide +kernel⟩,
    ⟨((up).setSv { up.sv with drums := [(0, { running := true })] }) , 0, by decide +kernel⟩,
    ⟨((up).setTi { up.ti with homeA := [(0, { tier := 1 })] }) , 0, 0, 0, by decide +kernel⟩,
    ⟨((up).setTi { up.ti with homeA := [(0, { tier := 1, arranged := 1, mirror := 9 })] }) , 0, 1, 1, by decide +kernel⟩,
    ⟨up, 0x8000000, 0, by decide +kernel⟩⟩

theorem test_witness_drift_moves_pages_3 :
    (∃ (s : State) (m : Nat), s.powered = true ∧ moduleSlots s m ≠ 0 ∧ s.ti.lostModules.mem m = false) ∧
    (∃ (s : State) (page : Nat) (p : Place), s.powered = true ∧ s.ti.rebuild.has page = true ∧ s.ti.waiting.mem page = false ∧ (entryOf s page).state = 0 ∧ ((entryOf s page).tier = 1 ∨ (entryOf s page).tier = 2) ∧ (entryOf s page).arranged = 0 ∧ choosePlace s (entryOf s page) = some p) ∧
    (∃ (s : State) (page : Nat) (p : Place), s.powered = true ∧ s.ti.waiting.mem page = true ∧ ((entryOf s page).tier = 1 ∨ (entryOf s page).tier = 2) ∧ (entryOf s page).arranged = 0 ∧ choosePlace s (entryOf s page) = some p) ∧
    (∃ (s : State), s.powered = true ∧ s.ti.drainItems ≠ [] ∧ s.pw.stage = 0 ∧ s.ti.homeA.any (fun kv => kv.2.tier = 1 || kv.2.tier = 2) = false ∧ s.ti.moves = []) := by
  refine ⟨⟨up, 0x1F, by decide +kernel⟩,
    ⟨((up).setTi { up.ti with rebuild := [(0, 1)], homeA := [(0, { tier := 1 })] }) , 0, ((choosePlace ((up).setTi { up.ti with rebuild := [(0, 1)], homeA := [(0, { tier := 1 })] }) { tier := 1 }).get (by decide +kernel)), by decide +kernel⟩,
    ⟨((up).setTi { up.ti with waiting := ns [0], homeA := [(0, { tier := 1 })] }) , 0, ((choosePlace ((up).setTi { up.ti with waiting := ns [0], homeA := [(0, { tier := 1 })] }) { tier := 1 }).get (by decide +kernel)), by decide +kernel⟩,
    ⟨((up).setTi { up.ti with drainItems := [1] }) , by decide +kernel⟩⟩

theorem test_witness_frost_serves_pages_1 :
    (∃ (s : State) (u corrected : Nat) (l : FrostLoc), s.powered = true ∧ s.fr.reads.get? u = some { retries := 0, rebuilding := false } ∧ s.fr.loc.get? u = some l) ∧
    (∃ (s : State) (u corrected : Nat), s.powered = true ∧ s.fr.reads.get? u = some { retries := 0, rebuilding := false }) ∧
    (∃ (s : State) (u : Nat) (r : UnitRead), s.powered = true ∧ s.fr.reads.get? u = some r ∧ r.rebuilding = false ∧ r.retries ≠ 0) ∧
    (∃ (s : State) (u : Nat) (r : UnitRead), s.powered = true ∧ s.fr.reads.get? u = some r ∧ r.rebuilding = false ∧ r.retries ≠ 0) ∧
    (∃ (s : State) (u : Nat) (r : UnitRead) (l : FrostLoc), s.powered = true ∧ s.fr.reads.get? u = some r ∧ r.rebuilding = true ∧ s.fr.loc.get? u = some l ∧ (∀ i, i < 16 → 16 * (l.chan / 16) + i ≠ l.chan → locLost s (16 * (l.chan / 16) + i) l.die = false)) ∧
    (∃ (s : State) (u i : Nat) (r : UnitRead) (l : FrostLoc), s.powered = true ∧ s.fr.reads.get? u = some r ∧ r.rebuilding = true ∧ s.fr.loc.get? u = some l ∧ i < 16 ∧ 16 * (l.chan / 16) + i ≠ l.chan ∧ locLost s (16 * (l.chan / 16) + i) l.die = true) := by
  refine ⟨⟨((up).setFr { up.fr with reads := [(0, ⟨0, false⟩)], loc := [(0, ⟨0, 0, 0, 0, false⟩)] }) , 0, 3, ⟨0, 0, 0, 0, false⟩, by decide +kernel⟩,
    ⟨((up).setFr { up.fr with reads := [(0, ⟨0, false⟩)] }) , 0, 0, by decide +kernel⟩,
    ⟨((up).setFr { up.fr with reads := [(0, ⟨2, false⟩)] }) , 0, ⟨2, false⟩, by decide +kernel⟩,
    ⟨((up).setFr { up.fr with reads := [(0, ⟨2, false⟩)] }) , 0, ⟨2, false⟩, by decide +kernel⟩,
    ⟨((up).setFr { up.fr with reads := [(0, ⟨2, true⟩)], loc := [(0, ⟨0, 0, 0, 0, false⟩)] }) , 0, ⟨2, true⟩, ⟨0, 0, 0, 0, false⟩, by decide +kernel⟩,
    ⟨((up).setFr { up.fr with reads := [(0, ⟨2, true⟩)], loc := [(0, ⟨0, 0, 0, 0, false⟩)], lostChannels := ns [15] }) , 0, 15, ⟨2, true⟩, ⟨0, 0, 0, 0, false⟩, by decide +kernel⟩⟩

theorem test_witness_frost_serves_pages_2 :
    (∃ (s : State) (u : Nat), s.powered = true) ∧
    (∃ (s : State) (u : Nat) (b : BufUnit), s.powered = true ∧ s.pw.refclk = true ∧ s.fr.buf.get? u = some b ∧ b.programming = false ∧ b.filling = false ∧ groupState s (unitGroup s u) ≠ 3) ∧
    (∃ (s : State) (u : Nat) (b : BufUnit) (loc : FrostLoc), s.powered = true ∧ s.fr.buf.get? u = some b ∧ b.programming = true ∧ b.rewritten = false ∧ loc.chan / 16 = unitGroup s u) ∧
    (∃ (s : State) (u : Nat) (b : BufUnit) (loc : FrostLoc), s.powered = true ∧ s.fr.buf.get? u = some b ∧ b.programming = true ∧ b.rewritten = true ∧ loc.chan / 16 = unitGroup s u) ∧
    (∃ (s : State), s.powered = true ∧ frostPrograms s = true ∧ s.fr.pend ≠ []) ∧
    (∃ (s : State), drumAllowed s 4 = true ∧ frostPrograms s = true) := by
  refine ⟨⟨up, 0, by decide +kernel⟩,
    ⟨((up).setFr { up.fr with buf := [(0, ⟨0, true, false, false, false⟩)] }) , 0, ⟨0, true, false, false, false⟩, by decide +kernel⟩,
    ⟨((up).setFr { up.fr with buf := [(0, ⟨0, true, true, false, false⟩)] }) , 0, ⟨0, true, true, false, false⟩, ⟨15, 0, 0, 0, false⟩, by decide +kernel⟩,
    ⟨((up).setFr { up.fr with buf := [(0, ⟨0, true, true, true, false⟩)] }) , 0, ⟨0, true, true, true, false⟩, ⟨15, 0, 0, 0, false⟩, by decide +kernel⟩,
    ⟨((up).setFr { up.fr with pend := [.intent 0] }) , by decide +kernel⟩,
    ⟨up, by decide +kernel⟩⟩

theorem test_witness_frost_serves_pages_3 :
    (∃ (s : State), s.powered = true ∧ s.fr.closing = true ∧ s.fr.buf = []) ∧
    (∃ (s : State) (block : Nat), s.powered = true ∧ s.fr.erasing.mem block = true) ∧
    (∃ (s : State) (u : Nat) (old new : FrostLoc), drumAllowed s 1 = true ∧ frostPrograms s = true ∧ s.fr.loc.get? u = some old ∧ s.fr.buf.has u = false ∧ new.chan / 16 = old.chan / 16) ∧
    (∃ (s : State) (u : Nat) (old new : FrostLoc), drumAllowed s 2 = true ∧ frostPrograms s = true ∧ s.rc.deviceState = 0 ∧ s.fr.loc.get? u = some old ∧ s.fr.buf.has u = false ∧ new.chan / 16 = old.chan / 16) ∧
    (∃ (s : State) (block : Nat), s.powered = true ∧ frostPrograms s = true ∧ Par.readDisturbLimit s ≤ s.fr.readCount.getD block 0) ∧
    (∃ (s : State) (channel die : Nat), s.powered = true ∧ die < s.board.dies.getD channel 0 ∧ (getDie s (dieKey channel die)).busyAt = []) := by
  refine ⟨⟨((up).setFr { up.fr with closing := true }) , by decide +kernel⟩,
    ⟨((up).setFr { up.fr with erasing := ns [7] }) , 7, by decide +kernel⟩,
    ⟨((up).setFr { up.fr with loc := [(0, ⟨0, 0, 0, 0, false⟩)] }) , 0, ⟨0, 0, 0, 0, false⟩, ⟨15, 1, 0, 0, false⟩, by decide +kernel⟩,
    ⟨((up).setFr { up.fr with loc := [(0, ⟨0, 0, 0, 0, false⟩)] }) , 0, ⟨0, 0, 0, 0, false⟩, ⟨15, 1, 0, 0, false⟩, by decide +kernel⟩,
    ⟨((up).setFr { up.fr with readCount := [(7, 2000000)] }) , 7, by decide +kernel⟩,
    ⟨up, 47, 15, by decide +kernel⟩⟩

theorem test_witness_frost_serves_pages_4 :
    (∃ (s : State) (channel die : Nat), s.powered = true ∧ die < s.board.dies.getD channel 0 ∧ (getDie s (dieKey channel die)).busyAt = [s.now, s.now]) ∧
    (∃ (s : State) (channel die : Nat), s.powered = true ∧ die < s.board.dies.getD channel 0 ∧ (getDie s (dieKey channel die)).lost = false) ∧
    (∃ (s : State) (channel die : Nat), s.powered = true ∧ (getDie s (dieKey channel die)).lost = true ∧ (getDie s (dieKey channel die)).rebuilt = false ∧ unitsOn s channel die = []) ∧
    (∃ (s : State) (channel : Nat), s.powered = true ∧ channel < 48 ∧ s.board.dies.getD channel 0 ≠ 0 ∧ s.fr.lostChannels.mem channel = false) ∧
    (∃ (s : State) (page g : Nat), s.powered = true ∧ degradedNext s = some page ∧ pickGroup s = some g) := by
  refine ⟨⟨((up).setFr { up.fr with dies := [(767, { busyAt := [0, 0] })] }) , 47, 15, by decide +kernel⟩,
    ⟨up, 47, 15, by decide +kernel⟩,
    ⟨((up).setFr { up.fr with dies := [(767, { lost := true })] }) , 47, 15, by decide +kernel⟩,
    ⟨up, 47, by decide +kernel⟩,
    ⟨((up).setFr { up.fr with pageGroup := [(5, 0)], lostChannels := ns [0] }) , 5, ((pickGroup ((up).setFr { up.fr with pageGroup := [(5, 0)], lostChannels := ns [0] }) ).get (by decide +kernel)), by decide +kernel⟩⟩

theorem test_witness_scalar_instructions_complete_1 :
    (∃ (p : Proc) (w : BitVec 32) (s : State) (c : Ctx), issues .add p w s = some c) ∧
    (∃ (p : Proc) (w : BitVec 32) (s : State) (c : Ctx), issues .sub p w s = some c) ∧
    (∃ (p : Proc) (w : BitVec 32) (s : State) (c : Ctx), issues .and p w s = some c) ∧
    (∃ (p : Proc) (w : BitVec 32) (s : State) (c : Ctx), issues .or p w s = some c) ∧
    (∃ (p : Proc) (w : BitVec 32) (s : State) (c : Ctx), issues .xor p w s = some c) ∧
    (∃ (p : Proc) (w : BitVec 32) (s : State) (c : Ctx), issues .sll p w s = some c) := by
  refine ⟨⟨.tabor 0, (reg 1 0), (run (reg 1 0) (c0)), ((issues .add (.tabor 0) (reg 1 0) (run (reg 1 0) (c0))).get (by decide +kernel)), by decide +kernel⟩,
    ⟨.tabor 0, (reg 1 1), (run (reg 1 1) (c0)), ((issues .sub (.tabor 0) (reg 1 1) (run (reg 1 1) (c0))).get (by decide +kernel)), by decide +kernel⟩,
    ⟨.tabor 0, (reg 1 2), (run (reg 1 2) (c0)), ((issues .and (.tabor 0) (reg 1 2) (run (reg 1 2) (c0))).get (by decide +kernel)), by decide +kernel⟩,
    ⟨.tabor 0, (reg 1 3), (run (reg 1 3) (c0)), ((issues .or (.tabor 0) (reg 1 3) (run (reg 1 3) (c0))).get (by decide +kernel)), by decide +kernel⟩,
    ⟨.tabor 0, (reg 1 4), (run (reg 1 4) (c0)), ((issues .xor (.tabor 0) (reg 1 4) (run (reg 1 4) (c0))).get (by decide +kernel)), by decide +kernel⟩,
    ⟨.tabor 0, (reg 1 5), (run (reg 1 5) (c0)), ((issues .sll (.tabor 0) (reg 1 5) (run (reg 1 5) (c0))).get (by decide +kernel)), by decide +kernel⟩⟩

theorem test_witness_scalar_instructions_complete_2 :
    (∃ (p : Proc) (w : BitVec 32) (s : State) (c : Ctx), issues .srl p w s = some c) ∧
    (∃ (p : Proc) (w : BitVec 32) (s : State) (c : Ctx), issues .sra p w s = some c) ∧
    (∃ (p : Proc) (w : BitVec 32) (s : State) (c : Ctx), issues .slt p w s = some c) ∧
    (∃ (p : Proc) (w : BitVec 32) (s : State) (c : Ctx), issues .sltu p w s = some c) ∧
    (∃ (p : Proc) (w : BitVec 32) (s : State) (c : Ctx), issues .min p w s = some c) ∧
    (∃ (p : Proc) (w : BitVec 32) (s : State) (c : Ctx), issues .max p w s = some c) := by
  refine ⟨⟨.tabor 0, (reg 1 6), (run (reg 1 6) (c0)), ((issues .srl (.tabor 0) (reg 1 6) (run (reg 1 6) (c0))).get (by decide +kernel)), by decide +kernel⟩,
    ⟨.tabor 0, (reg 1 7), (run (reg 1 7) (c0)), ((issues .sra (.tabor 0) (reg 1 7) (run (reg 1 7) (c0))).get (by decide +kernel)), by decide +kernel⟩,
    ⟨.tabor 0, (reg 1 8), (run (reg 1 8) (c0)), ((issues .slt (.tabor 0) (reg 1 8) (run (reg 1 8) (c0))).get (by decide +kernel)), by decide +kernel⟩,
    ⟨.tabor 0, (reg 1 9), (run (reg 1 9) (c0)), ((issues .sltu (.tabor 0) (reg 1 9) (run (reg 1 9) (c0))).get (by decide +kernel)), by decide +kernel⟩,
    ⟨.tabor 0, (reg 1 10), (run (reg 1 10) (c0)), ((issues .min (.tabor 0) (reg 1 10) (run (reg 1 10) (c0))).get (by decide +kernel)), by decide +kernel⟩,
    ⟨.tabor 0, (reg 1 11), (run (reg 1 11) (c0)), ((issues .max (.tabor 0) (reg 1 11) (run (reg 1 11) (c0))).get (by decide +kernel)), by decide +kernel⟩⟩

theorem test_witness_scalar_instructions_complete_3 :
    (∃ (p : Proc) (w : BitVec 32) (s : State) (c : Ctx), issues .minu p w s = some c) ∧
    (∃ (p : Proc) (w : BitVec 32) (s : State) (c : Ctx), issues .maxu p w s = some c) ∧
    (∃ (p : Proc) (w : BitVec 32) (s : State) (c : Ctx), issues .seq p w s = some c) ∧
    (∃ (p : Proc) (w : BitVec 32) (s : State) (c : Ctx), issues .sne p w s = some c) ∧
    (∃ (p : Proc) (w : BitVec 32) (s : State) (c : Ctx), issues .addi p w s = some c) ∧
    (∃ (p : Proc) (w : BitVec 32) (s : State) (c : Ctx), issues .andi p w s = some c) := by
  refine ⟨⟨.tabor 0, (reg 1 12), (run (reg 1 12) (c0)), ((issues .minu (.tabor 0) (reg 1 12) (run (reg 1 12) (c0))).get (by decide +kernel)), by decide +kernel⟩,
    ⟨.tabor 0, (reg 1 13), (run (reg 1 13) (c0)), ((issues .maxu (.tabor 0) (reg 1 13) (run (reg 1 13) (c0))).get (by decide +kernel)), by decide +kernel⟩,
    ⟨.tabor 0, (reg 1 14), (run (reg 1 14) (c0)), ((issues .seq (.tabor 0) (reg 1 14) (run (reg 1 14) (c0))).get (by decide +kernel)), by decide +kernel⟩,
    ⟨.tabor 0, (reg 1 15), (run (reg 1 15) (c0)), ((issues .sne (.tabor 0) (reg 1 15) (run (reg 1 15) (c0))).get (by decide +kernel)), by decide +kernel⟩,
    ⟨.tabor 0, (imm 2 0), (run (imm 2 0) (c0)), ((issues .addi (.tabor 0) (imm 2 0) (run (imm 2 0) (c0))).get (by decide +kernel)), by decide +kernel⟩,
    ⟨.tabor 0, (imm 2 1), (run (imm 2 1) (c0)), ((issues .andi (.tabor 0) (imm 2 1) (run (imm 2 1) (c0))).get (by decide +kernel)), by decide +kernel⟩⟩

theorem test_witness_scalar_instructions_complete_4 :
    (∃ (p : Proc) (w : BitVec 32) (s : State) (c : Ctx), issues .ori p w s = some c) ∧
    (∃ (p : Proc) (w : BitVec 32) (s : State) (c : Ctx), issues .xori p w s = some c) ∧
    (∃ (p : Proc) (w : BitVec 32) (s : State) (c : Ctx), issues .slti p w s = some c) ∧
    (∃ (p : Proc) (w : BitVec 32) (s : State) (c : Ctx), issues .slli p w s = some c) ∧
    (∃ (p : Proc) (w : BitVec 32) (s : State) (c : Ctx), issues .srli p w s = some c) ∧
    (∃ (p : Proc) (w : BitVec 32) (s : State) (c : Ctx), issues .srai p w s = some c) := by
  refine ⟨⟨.tabor 0, (imm 2 2), (run (imm 2 2) (c0)), ((issues .ori (.tabor 0) (imm 2 2) (run (imm 2 2) (c0))).get (by decide +kernel)), by decide +kernel⟩,
    ⟨.tabor 0, (imm 2 3), (run (imm 2 3) (c0)), ((issues .xori (.tabor 0) (imm 2 3) (run (imm 2 3) (c0))).get (by decide +kernel)), by decide +kernel⟩,
    ⟨.tabor 0, (imm 2 7), (run (imm 2 7) (c0)), ((issues .slti (.tabor 0) (imm 2 7) (run (imm 2 7) (c0))).get (by decide +kernel)), by decide +kernel⟩,
    ⟨.tabor 0, (imm 2 4), (run (imm 2 4) (c0)), ((issues .slli (.tabor 0) (imm 2 4) (run (imm 2 4) (c0))).get (by decide +kernel)), by decide +kernel⟩,
    ⟨.tabor 0, (imm 2 5), (run (imm 2 5) (c0)), ((issues .srli (.tabor 0) (imm 2 5) (run (imm 2 5) (c0))).get (by decide +kernel)), by decide +kernel⟩,
    ⟨.tabor 0, (imm 2 6), (run (imm 2 6) (c0)), ((issues .srai (.tabor 0) (imm 2 6) (run (imm 2 6) (c0))).get (by decide +kernel)), by decide +kernel⟩⟩

theorem test_witness_scalar_instructions_complete_5 :
    (∃ (p : Proc) (w : BitVec 32) (s : State) (c : Ctx), issues .lui p w s = some c) ∧
    (∃ (p : Proc) (w : BitVec 32) (s : State) (c : Ctx), issues .mul p w s = some c) ∧
    (∃ (p : Proc) (w : BitVec 32) (s : State) (c : Ctx), issues .mulh p w s = some c) ∧
    (∃ (p : Proc) (w : BitVec 32) (s : State) (c : Ctx), issues .mulhu p w s = some c) ∧
    (∃ (p : Proc) (w : BitVec 32) (s : State) (c : Ctx), issues .div p w s = some c ∧ srcB w c = 0) ∧
    (∃ (p : Proc) (w : BitVec 32) (s : State) (c : Ctx), issues .divu p w s = some c ∧ srcB w c = 0) := by
  refine ⟨⟨.tabor 0, (imm 3 0), (run (imm 3 0) (c0)), ((issues .lui (.tabor 0) (imm 3 0) (run (imm 3 0) (c0))).get (by decide +kernel)), by decide +kernel⟩,
    ⟨.tabor 0, (reg 4 0), (run (reg 4 0) (c0)), ((issues .mul (.tabor 0) (reg 4 0) (run (reg 4 0) (c0))).get (by decide +kernel)), by decide +kernel⟩,
    ⟨.tabor 0, (reg 4 1), (run (reg 4 1) (c0)), ((issues .mulh (.tabor 0) (reg 4 1) (run (reg 4 1) (c0))).get (by decide +kernel)), by decide +kernel⟩,
    ⟨.tabor 0, (reg 4 2), (run (reg 4 2) (c0)), ((issues .mulhu (.tabor 0) (reg 4 2) (run (reg 4 2) (c0))).get (by decide +kernel)), by decide +kernel⟩,
    ⟨.tabor 0, (reg 5 0), (run (reg 5 0) ({ c0 with x := [(2, 64)] })), ((issues .div (.tabor 0) (reg 5 0) (run (reg 5 0) ({ c0 with x := [(2, 64)] }))).get (by decide +kernel)), by decide +kernel⟩,
    ⟨.tabor 0, (reg 5 1), (run (reg 5 1) ({ c0 with x := [(2, 64)] })), ((issues .divu (.tabor 0) (reg 5 1) (run (reg 5 1) ({ c0 with x := [(2, 64)] }))).get (by decide +kernel)), by decide +kernel⟩⟩

theorem test_witness_scalar_instructions_complete_6 :
    (∃ (p : Proc) (w : BitVec 32) (s : State) (c : Ctx), issues .rem p w s = some c ∧ srcB w c = 0) ∧
    (∃ (p : Proc) (w : BitVec 32) (s : State) (c : Ctx), issues .remu p w s = some c ∧ srcB w c = 0) ∧
    (∃ (p : Proc) (w : BitVec 32) (s : State) (c : Ctx), issues .div p w s = some c ∧ (srcA w c).toInt = -9223372036854775808 ∧ (srcB w c).toInt = -1) ∧
    (∃ (p : Proc) (w : BitVec 32) (s : State) (c : Ctx), issues .rem p w s = some c ∧ (srcA w c).toInt = -9223372036854775808 ∧ (srcB w c).toInt = -1) ∧
    (∃ (p : Proc) (w : BitVec 32) (s : State) (c : Ctx), issues .div p w s = some c ∧ srcB w c ≠ 0) ∧
    (∃ (p : Proc) (w : BitVec 32) (s : State) (c : Ctx), issues .rem p w s = some c ∧ srcB w c ≠ 0) := by
  refine ⟨⟨.tabor 0, (reg 5 2), (run (reg 5 2) ({ c0 with x := [(2, 64)] })), ((issues .rem (.tabor 0) (reg 5 2) (run (reg 5 2) ({ c0 with x := [(2, 64)] }))).get (by decide +kernel)), by decide +kernel⟩,
    ⟨.tabor 0, (reg 5 3), (run (reg 5 3) ({ c0 with x := [(2, 64)] })), ((issues .remu (.tabor 0) (reg 5 3) (run (reg 5 3) ({ c0 with x := [(2, 64)] }))).get (by decide +kernel)), by decide +kernel⟩,
    ⟨.tabor 0, (reg 5 0), (run (reg 5 0) ({ c0 with x := [(2, 0x8000000000000000), (3, 0xFFFFFFFFFFFFFFFF)] })), ((issues .div (.tabor 0) (reg 5 0) (run (reg 5 0) ({ c0 with x := [(2, 0x8000000000000000), (3, 0xFFFFFFFFFFFFFFFF)] }))).get (by decide +kernel)), by decide +kernel⟩,
    ⟨.tabor 0, (reg 5 2), (run (reg 5 2) ({ c0 with x := [(2, 0x8000000000000000), (3, 0xFFFFFFFFFFFFFFFF)] })), ((issues .rem (.tabor 0) (reg 5 2) (run (reg 5 2) ({ c0 with x := [(2, 0x8000000000000000), (3, 0xFFFFFFFFFFFFFFFF)] }))).get (by decide +kernel)), by decide +kernel⟩,
    ⟨.tabor 0, (reg 5 0), (run (reg 5 0) (c0)), ((issues .div (.tabor 0) (reg 5 0) (run (reg 5 0) (c0))).get (by decide +kernel)), by decide +kernel⟩,
    ⟨.tabor 0, (reg 5 2), (run (reg 5 2) (c0)), ((issues .rem (.tabor 0) (reg 5 2) (run (reg 5 2) (c0))).get (by decide +kernel)), by decide +kernel⟩⟩

theorem test_witness_scalar_instructions_complete_7 :
    (∃ (p : Proc) (w : BitVec 32) (s : State) (c : Ctx), issues .divu p w s = some c ∧ srcB w c ≠ 0) ∧
    (∃ (p : Proc) (w : BitVec 32) (s : State) (c : Ctx), issues .remu p w s = some c ∧ srcB w c ≠ 0) := by
  refine ⟨⟨.tabor 0, (reg 5 1), (run (reg 5 1) (c0)), ((issues .divu (.tabor 0) (reg 5 1) (run (reg 5 1) (c0))).get (by decide +kernel)), by decide +kernel⟩,
    ⟨.tabor 0, (reg 5 3), (run (reg 5 3) (c0)), ((issues .remu (.tabor 0) (reg 5 3) (run (reg 5 3) (c0))).get (by decide +kernel)), by decide +kernel⟩⟩

theorem test_witness_predicates_branches_control_1 :
    (∃ (p : Proc) (w : BitVec 32) (s : State) (c : Ctx), issues .pset p w s = some c) ∧
    (∃ (p : Proc) (w : BitVec 32) (s : State) (c : Ctx), issues .pget p w s = some c) ∧
    (∃ (p : Proc) (w : BitVec 32) (s : State) (c : Ctx), issues .pand p w s = some c) ∧
    (∃ (p : Proc) (w : BitVec 32) (s : State) (c : Ctx), issues .por p w s = some c) ∧
    (∃ (p : Proc) (w : BitVec 32) (s : State) (c : Ctx), issues .pnot p w s = some c) ∧
    (∃ (p : Proc) (w : BitVec 32) (s : State) (c : Ctx), issues .beq p w s = some c) := by
  refine ⟨⟨.tabor 0, (reg 6 0), (run (reg 6 0) (c0)), ((issues .pset (.tabor 0) (reg 6 0) (run (reg 6 0) (c0))).get (by decide +kernel)), by decide +kernel⟩,
    ⟨.tabor 0, (reg 6 1), (run (reg 6 1) (c0)), ((issues .pget (.tabor 0) (reg 6 1) (run (reg 6 1) (c0))).get (by decide +kernel)), by decide +kernel⟩,
    ⟨.tabor 0, (reg 6 2), (run (reg 6 2) (c0)), ((issues .pand (.tabor 0) (reg 6 2) (run (reg 6 2) (c0))).get (by decide +kernel)), by decide +kernel⟩,
    ⟨.tabor 0, (reg 6 3), (run (reg 6 3) (c0)), ((issues .por (.tabor 0) (reg 6 3) (run (reg 6 3) (c0))).get (by decide +kernel)), by decide +kernel⟩,
    ⟨.tabor 0, (reg 6 4), (run (reg 6 4) (c0)), ((issues .pnot (.tabor 0) (reg 6 4) (run (reg 6 4) (c0))).get (by decide +kernel)), by decide +kernel⟩,
    ⟨.tabor 0, (BitVec.ofNat 32 (8 + 2 ^ 7 * 0 + 2 ^ 10 * 2 + 2 ^ 15 * 3 + 2 ^ 20)), (run (BitVec.ofNat 32 (8 + 2 ^ 7 * 0 + 2 ^ 10 * 2 + 2 ^ 15 * 3 + 2 ^ 20)) (c0)), ((issues .beq (.tabor 0) (BitVec.ofNat 32 (8 + 2 ^ 7 * 0 + 2 ^ 10 * 2 + 2 ^ 15 * 3 + 2 ^ 20)) (run (BitVec.ofNat 32 (8 + 2 ^ 7 * 0 + 2 ^ 10 * 2 + 2 ^ 15 * 3 + 2 ^ 20)) (c0))).get (by decide +kernel)), by decide +kernel⟩⟩

theorem test_witness_predicates_branches_control_2 :
    (∃ (p : Proc) (w : BitVec 32) (s : State) (c : Ctx), issues .bne p w s = some c) ∧
    (∃ (p : Proc) (w : BitVec 32) (s : State) (c : Ctx), issues .blt p w s = some c) ∧
    (∃ (p : Proc) (w : BitVec 32) (s : State) (c : Ctx), issues .bge p w s = some c) ∧
    (∃ (p : Proc) (w : BitVec 32) (s : State) (c : Ctx), issues .bltu p w s = some c) ∧
    (∃ (p : Proc) (w : BitVec 32) (s : State) (c : Ctx), issues .bgeu p w s = some c) ∧
    (∃ (p : Proc) (w : BitVec 32) (s : State) (c : Ctx), issues .j p w s = some c) := by
  refine ⟨⟨.tabor 0, (BitVec.ofNat 32 (8 + 2 ^ 7 * 1 + 2 ^ 10 * 2 + 2 ^ 15 * 3 + 2 ^ 20)), (run (BitVec.ofNat 32 (8 + 2 ^ 7 * 1 + 2 ^ 10 * 2 + 2 ^ 15 * 3 + 2 ^ 20)) (c0)), ((issues .bne (.tabor 0) (BitVec.ofNat 32 (8 + 2 ^ 7 * 1 + 2 ^ 10 * 2 + 2 ^ 15 * 3 + 2 ^ 20)) (run (BitVec.ofNat 32 (8 + 2 ^ 7 * 1 + 2 ^ 10 * 2 + 2 ^ 15 * 3 + 2 ^ 20)) (c0))).get (by decide +kernel)), by decide +kernel⟩,
    ⟨.tabor 0, (BitVec.ofNat 32 (8 + 2 ^ 7 * 2 + 2 ^ 10 * 2 + 2 ^ 15 * 3 + 2 ^ 20)), (run (BitVec.ofNat 32 (8 + 2 ^ 7 * 2 + 2 ^ 10 * 2 + 2 ^ 15 * 3 + 2 ^ 20)) (c0)), ((issues .blt (.tabor 0) (BitVec.ofNat 32 (8 + 2 ^ 7 * 2 + 2 ^ 10 * 2 + 2 ^ 15 * 3 + 2 ^ 20)) (run (BitVec.ofNat 32 (8 + 2 ^ 7 * 2 + 2 ^ 10 * 2 + 2 ^ 15 * 3 + 2 ^ 20)) (c0))).get (by decide +kernel)), by decide +kernel⟩,
    ⟨.tabor 0, (BitVec.ofNat 32 (8 + 2 ^ 7 * 3 + 2 ^ 10 * 2 + 2 ^ 15 * 3 + 2 ^ 20)), (run (BitVec.ofNat 32 (8 + 2 ^ 7 * 3 + 2 ^ 10 * 2 + 2 ^ 15 * 3 + 2 ^ 20)) (c0)), ((issues .bge (.tabor 0) (BitVec.ofNat 32 (8 + 2 ^ 7 * 3 + 2 ^ 10 * 2 + 2 ^ 15 * 3 + 2 ^ 20)) (run (BitVec.ofNat 32 (8 + 2 ^ 7 * 3 + 2 ^ 10 * 2 + 2 ^ 15 * 3 + 2 ^ 20)) (c0))).get (by decide +kernel)), by decide +kernel⟩,
    ⟨.tabor 0, (BitVec.ofNat 32 (8 + 2 ^ 7 * 4 + 2 ^ 10 * 2 + 2 ^ 15 * 3 + 2 ^ 20)), (run (BitVec.ofNat 32 (8 + 2 ^ 7 * 4 + 2 ^ 10 * 2 + 2 ^ 15 * 3 + 2 ^ 20)) (c0)), ((issues .bltu (.tabor 0) (BitVec.ofNat 32 (8 + 2 ^ 7 * 4 + 2 ^ 10 * 2 + 2 ^ 15 * 3 + 2 ^ 20)) (run (BitVec.ofNat 32 (8 + 2 ^ 7 * 4 + 2 ^ 10 * 2 + 2 ^ 15 * 3 + 2 ^ 20)) (c0))).get (by decide +kernel)), by decide +kernel⟩,
    ⟨.tabor 0, (BitVec.ofNat 32 (8 + 2 ^ 7 * 5 + 2 ^ 10 * 2 + 2 ^ 15 * 3 + 2 ^ 20)), (run (BitVec.ofNat 32 (8 + 2 ^ 7 * 5 + 2 ^ 10 * 2 + 2 ^ 15 * 3 + 2 ^ 20)) (c0)), ((issues .bgeu (.tabor 0) (BitVec.ofNat 32 (8 + 2 ^ 7 * 5 + 2 ^ 10 * 2 + 2 ^ 15 * 3 + 2 ^ 20)) (run (BitVec.ofNat 32 (8 + 2 ^ 7 * 5 + 2 ^ 10 * 2 + 2 ^ 15 * 3 + 2 ^ 20)) (c0))).get (by decide +kernel)), by decide +kernel⟩,
    ⟨.tabor 0, (imm 9 0), (run (imm 9 0) (c0)), ((issues .j (.tabor 0) (imm 9 0) (run (imm 9 0) (c0))).get (by decide +kernel)), by decide +kernel⟩⟩

theorem test_witness_predicates_branches_control_3 :
    (∃ (p : Proc) (w : BitVec 32) (s : State) (c : Ctx), issues .call p w s = some c ∧ c.ret.length < 8) ∧
    (∃ (p : Proc) (w : BitVec 32) (s : State) (c : Ctx) (a : Nat) (l : List Nat), issues .ret p w s = some c ∧ c.ret = a :: l) ∧
    (∃ (p : Proc) (w : BitVec 32) (s : State) (c : Ctx), issues .nop p w s = some c) ∧
    (∃ (p : Proc) (w : BitVec 32) (s : State) (c : Ctx), issues .time p w s = some c) ∧
    (∃ (p : Proc) (w : BitVec 32) (s : State) (c : Ctx), issues .fuel p w s = some c) ∧
    (∃ (p : Proc) (w : BitVec 32) (s : State) (c : Ctx), issues .taborOp p w s = some c) := by
  refine ⟨⟨.tabor 0, (imm 10 0), (run (imm 10 0) ({ c0 with ret := [1, 2, 3, 4, 5, 6, 7] })), ((issues .call (.tabor 0) (imm 10 0) (run (imm 10 0) ({ c0 with ret := [1, 2, 3, 4, 5, 6, 7] }))).get (by decide +kernel)), by decide +kernel⟩,
    ⟨.tabor 0, (reg 0x0B 0), (run (reg 0x0B 0) ({ c0 with ret := [3] })), ((issues .ret (.tabor 0) (reg 0x0B 0) (run (reg 0x0B 0) ({ c0 with ret := [3] }))).get (by decide +kernel)), 3, [], by decide +kernel⟩,
    ⟨.tabor 0, (reg 0x60 2), (run (reg 0x60 2) (c0)), ((issues .nop (.tabor 0) (reg 0x60 2) (run (reg 0x60 2) (c0))).get (by decide +kernel)), by decide +kernel⟩,
    ⟨.tabor 0, (reg 0x60 3), (run (reg 0x60 3) (c0)), ((issues .time (.tabor 0) (reg 0x60 3) (run (reg 0x60 3) (c0))).get (by decide +kernel)), by decide +kernel⟩,
    ⟨.tabor 0, (reg 0x60 4), (run (reg 0x60 4) (c0)), ((issues .fuel (.tabor 0) (reg 0x60 4) (run (reg 0x60 4) (c0))).get (by decide +kernel)), by decide +kernel⟩,
    ⟨.tabor 0, (reg 0x60 6), (run (reg 0x60 6) (c0)), ((issues .taborOp (.tabor 0) (reg 0x60 6) (run (reg 0x60 6) (c0))).get (by decide +kernel)), by decide +kernel⟩⟩

theorem test_witness_predicates_branches_control_4 :
    (∃ (p : Proc) (w : BitVec 32) (s : State) (c : Ctx), issues .srseed p w s = some c) ∧
    (∃ (n : Nat) (w : BitVec 32) (s : State) (c : Ctx), issues .yield (.tabor n) w s = some c) ∧
    (∃ (n : Nat) (w : BitVec 32) (s : State) (c : Ctx), issues .endOp (.tabor n) w s = some c) ∧
    (∃ (w : BitVec 32) (s : State) (c : Ctx), issues .endOp .carillon w s = some c) := by
  refine ⟨⟨.tabor 0, (reg 0x60 5), (run (reg 0x60 5) (c0)), ((issues .srseed (.tabor 0) (reg 0x60 5) (run (reg 0x60 5) (c0))).get (by decide +kernel)), by decide +kernel⟩,
    ⟨0, (reg 0x60 1), (run (reg 0x60 1) (c0)), ((issues .yield (.tabor 0) (reg 0x60 1) (run (reg 0x60 1) (c0))).get (by decide +kernel)), by decide +kernel⟩,
    ⟨0, (reg 0x60 0), (run (reg 0x60 0) (c0)), ((issues .endOp (.tabor 0) (reg 0x60 0) (run (reg 0x60 0) (c0))).get (by decide +kernel)), by decide +kernel⟩,
    ⟨(reg 0x60 0), (runC (reg 0x60 0) (c0)), ((issues .endOp .carillon (reg 0x60 0) (runC (reg 0x60 0) (c0))).get (by decide +kernel)), by decide +kernel⟩⟩

theorem test_witness_scratch_checks_and_packets_1 :
    (∃ (p : Proc) (w : BitVec 32) (s : State) (c : Ctx) (bs : List Byte), issues .lds p w s = some c ∧ c.readS (memAddr c w.toNat (scalarBytes (fSize w.toNat))) (scalarBytes (fSize w.toNat)) = some bs) ∧
    (∃ (p : Proc) (w : BitVec 32) (s : State) (c : Ctx), issues .lds p w s = some c ∧ c.scratchBytes < memAddr c w.toNat (scalarBytes (fSize w.toNat)) + scalarBytes (fSize w.toNat)) ∧
    (∃ (p : Proc) (w : BitVec 32) (s : State) (c : Ctx), issues .sts p w s = some c ∧ memAddr c w.toNat (scalarBytes (fSize w.toNat)) + scalarBytes (fSize w.toNat) ≤ c.scratchBytes) ∧
    (∃ (p : Proc) (w : BitVec 32) (s : State) (c : Ctx), issues .sts p w s = some c ∧ c.scratchBytes < memAddr c w.toNat (scalarBytes (fSize w.toNat)) + scalarBytes (fSize w.toNat)) ∧
    (∃ (p : Proc) (w : BitVec 32) (s : State) (c : Ctx) (bs : List Byte), issues .vlds p w s = some c ∧ fSize w.toNat < 2 ∧ c.readS (memAddr c w.toNat (vectorBytes (fSize w.toNat))) (vectorBytes (fSize w.toNat)) = some bs) ∧
    (∃ (p : Proc) (w : BitVec 32) (s : State) (c : Ctx) (bs : List Byte), issues .vlds p w s = some c ∧ fSize w.toNat = 2 ∧ c.readS (memAddr c w.toNat 4) 4 = some bs) := by
  refine ⟨⟨.tabor 0, (acc 0x10 3), (run (acc 0x10 3) ({ c0 with x := [(2, 4088)] })), ((issues .lds (.tabor 0) (acc 0x10 3) (run (acc 0x10 3) ({ c0 with x := [(2, 4088)] }))).get (by decide +kernel)), List.replicate 8 0, by decide +kernel⟩,
    ⟨.tabor 0, (acc 0x10 3), (run (acc 0x10 3) ({ c0 with x := [(2, 4089)] })), ((issues .lds (.tabor 0) (acc 0x10 3) (run (acc 0x10 3) ({ c0 with x := [(2, 4089)] }))).get (by decide +kernel)), by decide +kernel⟩,
    ⟨.tabor 0, (acc 0x11 3), (run (acc 0x11 3) ({ c0 with x := [(2, 4088)] })), ((issues .sts (.tabor 0) (acc 0x11 3) (run (acc 0x11 3) ({ c0 with x := [(2, 4088)] }))).get (by decide +kernel)), by decide +kernel⟩,
    ⟨.tabor 0, (acc 0x11 3), (run (acc 0x11 3) ({ c0 with x := [(2, 4089)] })), ((issues .sts (.tabor 0) (acc 0x11 3) (run (acc 0x11 3) ({ c0 with x := [(2, 4089)] }))).get (by decide +kernel)), by decide +kernel⟩,
    ⟨.tabor 0, (acc 0x12 0), (run (acc 0x12 0) ({ c0 with x := [(2, 4032)] })), ((issues .vlds (.tabor 0) (acc 0x12 0) (run (acc 0x12 0) ({ c0 with x := [(2, 4032)] }))).get (by decide +kernel)), List.replicate 64 0, by decide +kernel⟩,
    ⟨.tabor 0, (acc 0x12 2), (run (acc 0x12 2) (c0)), ((issues .vlds (.tabor 0) (acc 0x12 2) (run (acc 0x12 2) (c0))).get (by decide +kernel)), List.replicate 4 0, by decide +kernel⟩⟩

theorem test_witness_scratch_checks_and_packets_2 :
    (∃ (p : Proc) (w : BitVec 32) (s : State) (c : Ctx), issues .vlds p w s = some c ∧ c.scratchBytes < memAddr c w.toNat (vectorBytes (fSize w.toNat)) + vectorBytes (fSize w.toNat)) ∧
    (∃ (p : Proc) (w : BitVec 32) (s : State) (c : Ctx), issues .vsts p w s = some c ∧ itemsIn c (predBit c (fMPred w.toNat)) (fun i => memAddr c w.toNat (vectorBytes (fSize w.toNat)) + 4 * i) 4 (vectorBytes (fSize w.toNat) / 4) = true) ∧
    (∃ (p : Proc) (w : BitVec 32) (s : State) (c : Ctx), issues .vsts p w s = some c ∧ itemsIn c (predBit c (fMPred w.toNat)) (fun i => memAddr c w.toNat (vectorBytes (fSize w.toNat)) + 4 * i) 4 (vectorBytes (fSize w.toNat) / 4) = false) ∧
    (∃ (p : Proc) (w : BitVec 32) (s : State) (c : Ctx), issues .vgath p w s = some c ∧ itemsIn c (predBit c (fPred w.toNat)) (gatherAddr w.toNat c) (gatherBytes w.toNat) 16 = true) ∧
    (∃ (p : Proc) (w : BitVec 32) (s : State) (c : Ctx), issues .vgath p w s = some c ∧ itemsIn c (predBit c (fPred w.toNat)) (gatherAddr w.toNat c) (gatherBytes w.toNat) 16 = false) ∧
    (∃ (p : Proc) (w : BitVec 32) (s : State) (c : Ctx), issues .vscat p w s = some c ∧ itemsIn c (predBit c (fPred w.toNat)) (gatherAddr w.toNat c) (gatherBytes w.toNat) 16 = true) := by
  refine ⟨⟨.tabor 0, (acc 0x12 0), (run (acc 0x12 0) ({ c0 with x := [(2, 4033)] })), ((issues .vlds (.tabor 0) (acc 0x12 0) (run (acc 0x12 0) ({ c0 with x := [(2, 4033)] }))).get (by decide +kernel)), by decide +kernel⟩,
    ⟨.tabor 0, (acc 0x13 0), (run (acc 0x13 0) ({ c0 with x := [(2, 4032)] })), ((issues .vsts (.tabor 0) (acc 0x13 0) (run (acc 0x13 0) ({ c0 with x := [(2, 4032)] }))).get (by decide +kernel)), by decide +kernel⟩,
    ⟨.tabor 0, (acc 0x13 0), (run (acc 0x13 0) ({ c0 with x := [(2, 4033)] })), ((issues .vsts (.tabor 0) (acc 0x13 0) (run (acc 0x13 0) ({ c0 with x := [(2, 4033)] }))).get (by decide +kernel)), by decide +kernel⟩,
    ⟨.tabor 0, (reg 0x14 0), (run (reg 0x14 0) (c0)), ((issues .vgath (.tabor 0) (reg 0x14 0) (run (reg 0x14 0) (c0))).get (by decide +kernel)), by decide +kernel⟩,
    ⟨.tabor 0, (reg 0x14 0), (run (reg 0x14 0) ({ c0 with x := [(2, 5000), (3, 8)] })), ((issues .vgath (.tabor 0) (reg 0x14 0) (run (reg 0x14 0) ({ c0 with x := [(2, 5000), (3, 8)] }))).get (by decide +kernel)), by decide +kernel⟩,
    ⟨.tabor 0, (reg 0x15 0), (run (reg 0x15 0) (c0)), ((issues .vscat (.tabor 0) (reg 0x15 0) (run (reg 0x15 0) (c0))).get (by decide +kernel)), by decide +kernel⟩⟩

theorem test_witness_scratch_checks_and_packets_3 :
    (∃ (p : Proc) (w : BitVec 32) (s : State) (c : Ctx), issues .vscat p w s = some c ∧ itemsIn c (predBit c (fPred w.toNat)) (gatherAddr w.toNat c) (gatherBytes w.toNat) 16 = false) ∧
    (∃ (p : Proc) (w : BitVec 32) (s : State) (c : Ctx), issues .vlut p w s = some c ∧ itemsIn c (predBit c (fPred w.toNat)) (lutAddr w.toNat c) 4 16 = true) ∧
    (∃ (p : Proc) (w : BitVec 32) (s : State) (c : Ctx), issues .vlut p w s = some c ∧ itemsIn c (predBit c (fPred w.toNat)) (lutAddr w.toNat c) 4 16 = false) ∧
    (∃ (p : Proc) (w : BitVec 32) (s : State) (c : Ctx) (bs : List Byte) (b : CrcPar × List Byte), issues .chmInit p w s = some c ∧ c.readS (c.readX (fRs1 w.toNat)).toNat 48 = some bs ∧ chimeBlock bs = some b) ∧
    (∃ (p : Proc) (w : BitVec 32) (s : State) (c : Ctx) (bs : List Byte), issues .chmInit p w s = some c ∧ c.readS (c.readX (fRs1 w.toNat)).toNat 48 = some bs ∧ chimeBlock bs = none) ∧
    (∃ (p : Proc) (w : BitVec 32) (s : State) (c : Ctx) (h : Chime) (bs : List Byte), issues .chmUpd p w s = some c ∧ c.chime = some h ∧ 0 < (c.readX (fRs2 w.toNat)).toNat ∧ (c.readX (fRs2 w.toNat)).toNat ≤ c.scratchBytes ∧ c.readS (c.readX (fRs1 w.toNat)).toNat (c.readX (fRs2 w.toNat)).toNat = some bs) := by
  refine ⟨⟨.tabor 0, (reg 0x15 0), (run (reg 0x15 0) ({ c0 with x := [(2, 5000), (3, 8)] })), ((issues .vscat (.tabor 0) (reg 0x15 0) (run (reg 0x15 0) ({ c0 with x := [(2, 5000), (3, 8)] }))).get (by decide +kernel)), by decide +kernel⟩,
    ⟨.tabor 0, (reg 0x16 0), (run (reg 0x16 0) ({ c0 with scratchBytes := 16384 })), ((issues .vlut (.tabor 0) (reg 0x16 0) (run (reg 0x16 0) ({ c0 with scratchBytes := 16384 }))).get (by decide +kernel)), by decide +kernel⟩,
    ⟨.tabor 0, (reg 0x16 0), (run (reg 0x16 0) (c0)), ((issues .vlut (.tabor 0) (reg 0x16 0) (run (reg 0x16 0) (c0))).get (by decide +kernel)), by decide +kernel⟩,
    ⟨.tabor 0, (reg 0x54 0), (run (reg 0x54 0) ({ c0 with x := [], scratch := [(0, 1)] })), ((issues .chmInit (.tabor 0) (reg 0x54 0) (run (reg 0x54 0) ({ c0 with x := [], scratch := [(0, 1)] }))).get (by decide +kernel)), (1 : Byte) :: List.replicate 47 0, (⟨32, 0x1EDC6F41, 0xFFFFFFFF, 0xFFFFFFFF, true, true⟩, []), by decide +kernel⟩,
    ⟨.tabor 0, (reg 0x54 0), (run (reg 0x54 0) ({ c0 with x := [], scratch := [(0, 6)] })), ((issues .chmInit (.tabor 0) (reg 0x54 0) (run (reg 0x54 0) ({ c0 with x := [], scratch := [(0, 6)] }))).get (by decide +kernel)), (6 : Byte) :: List.replicate 47 0, by decide +kernel⟩,
    ⟨.tabor 0, (reg 0x54 1), (run (reg 0x54 1) ({ c0 with chime := some ⟨⟨8, 7, 0, 0, false, false⟩, 0⟩ })), ((issues .chmUpd (.tabor 0) (reg 0x54 1) (run (reg 0x54 1) ({ c0 with chime := some ⟨⟨8, 7, 0, 0, false, false⟩, 0⟩ }))).get (by decide +kernel)), ⟨⟨8, 7, 0, 0, false, false⟩, 0⟩, List.replicate 8 0, by decide +kernel⟩⟩

theorem test_witness_scratch_checks_and_packets_4 :
    (∃ (p : Proc) (w : BitVec 32) (s : State) (c : Ctx), issues .chmUpd p w s = some c ∧ c.chime ≠ none ∧ (c.readX (fRs2 w.toNat)).toNat = 0) ∧
    (∃ (p : Proc) (w : BitVec 32) (s : State) (c : Ctx) (h : Chime), issues .chmVupd p w s = some c ∧ c.chime = some h) ∧
    (∃ (p : Proc) (w : BitVec 32) (s : State) (c : Ctx) (h : Chime), issues .chmFin p w s = some c ∧ c.chime = some h) ∧
    (∃ (p : Proc) (w : BitVec 32) (s : State) (c : Ctx), issues .chmFin p w s = some c ∧ c.chime = none) ∧
    (∃ (p : Proc) (w : BitVec 32) (s : State) (c : Ctx), issues .pktLd p w s = some c ∧ (c.readX (fRs1 w.toNat)).toNat + 8 ≤ (c.head ++ c.body).length) ∧
    (∃ (p : Proc) (w : BitVec 32) (s : State) (c : Ctx), issues .pktSt p w s = some c ∧ (c.readX (fRs1 w.toNat)).toNat + 8 ≤ c.body.length) := by
  refine ⟨⟨.tabor 0, (reg 0x54 1), (run (reg 0x54 1) ({ c0 with x := [], chime := some ⟨⟨8, 7, 0, 0, false, false⟩, 0⟩ })), ((issues .chmUpd (.tabor 0) (reg 0x54 1) (run (reg 0x54 1) ({ c0 with x := [], chime := some ⟨⟨8, 7, 0, 0, false, false⟩, 0⟩ }))).get (by decide +kernel)), by decide +kernel⟩,
    ⟨.tabor 0, (reg 0x54 2), (run (reg 0x54 2) ({ c0 with chime := some ⟨⟨8, 7, 0, 0, false, false⟩, 0⟩ })), ((issues .chmVupd (.tabor 0) (reg 0x54 2) (run (reg 0x54 2) ({ c0 with chime := some ⟨⟨8, 7, 0, 0, false, false⟩, 0⟩ }))).get (by decide +kernel)), ⟨⟨8, 7, 0, 0, false, false⟩, 0⟩, by decide +kernel⟩,
    ⟨.tabor 0, (reg 0x54 3), (run (reg 0x54 3) ({ c0 with chime := some ⟨⟨8, 7, 0, 0, false, false⟩, 0⟩ })), ((issues .chmFin (.tabor 0) (reg 0x54 3) (run (reg 0x54 3) ({ c0 with chime := some ⟨⟨8, 7, 0, 0, false, false⟩, 0⟩ }))).get (by decide +kernel)), ⟨⟨8, 7, 0, 0, false, false⟩, 0⟩, by decide +kernel⟩,
    ⟨.tabor 0, (reg 0x54 3), (run (reg 0x54 3) (c0)), ((issues .chmFin (.tabor 0) (reg 0x54 3) (run (reg 0x54 3) (c0))).get (by decide +kernel)), by decide +kernel⟩,
    ⟨.gale 0, (reg 0x70 0), (runG (reg 0x70 0) ({ c0 with x := [], head := List.replicate 8 0 })), ((issues .pktLd (.gale 0) (reg 0x70 0) (runG (reg 0x70 0) ({ c0 with x := [], head := List.replicate 8 0 }))).get (by decide +kernel)), by decide +kernel⟩,
    ⟨.gale 0, (reg 0x70 1), (runG (reg 0x70 1) ({ c0 with x := [], body := List.replicate 8 0 })), ((issues .pktSt (.gale 0) (reg 0x70 1) (runG (reg 0x70 1) ({ c0 with x := [], body := List.replicate 8 0 }))).get (by decide +kernel)), by decide +kernel⟩⟩

theorem test_witness_scratch_checks_and_packets_5 :
    (∃ (p : Proc) (w : BitVec 32) (s : State) (c : Ctx), issues .pktLen p w s = some c) ∧
    (∃ (n : Nat) (w : BitVec 32) (s : State) (c : Ctx), issues .pktPass (.gale n) w s = some c) ∧
    (∃ (n : Nat) (w : BitVec 32) (s : State) (c : Ctx), issues .pktReject (.gale n) w s = some c) := by
  refine ⟨⟨.gale 0, (reg 0x70 2), (runG (reg 0x70 2) (c0)), ((issues .pktLen (.gale 0) (reg 0x70 2) (runG (reg 0x70 2) (c0))).get (by decide +kernel)), by decide +kernel⟩,
    ⟨0, (reg 0x70 3), (runG (reg 0x70 3) (c0)), ((issues .pktPass (.gale 0) (reg 0x70 3) (runG (reg 0x70 3) (c0))).get (by decide +kernel)), by decide +kernel⟩,
    ⟨0, (reg 0x70 4), (runG (reg 0x70 4) (c0)), ((issues .pktReject (.gale 0) (reg 0x70 4) (runG (reg 0x70 4) (c0))).get (by decide +kernel)), by decide +kernel⟩⟩

theorem test_witness_vector_integer_1 :
    (∃ (p : Proc) (w : BitVec 32) (s : State) (c : Ctx) (t : Elt), issues .vadd p w s = some c ∧ Elt.ofCode (fType w.toNat) = some t) ∧
    (∃ (p : Proc) (w : BitVec 32) (s : State) (c : Ctx) (t : Elt), issues .vlog p w s = some c ∧ Elt.ofCode (fType w.toNat) = some t) ∧
    (∃ (p : Proc) (w : BitVec 32) (s : State) (c : Ctx) (t : Elt), issues .vmm p w s = some c ∧ Elt.ofCode (fType w.toNat) = some t) ∧
    (∃ (p : Proc) (w : BitVec 32) (s : State) (c : Ctx) (t : Elt), issues .vsh p w s = some c ∧ Elt.ofCode (fType w.toNat) = some t) ∧
    (∃ (p : Proc) (w : BitVec 32) (s : State) (c : Ctx) (t : Elt), issues .vbcast p w s = some c ∧ Elt.ofCode (fType w.toNat) = some t) ∧
    (∃ (p : Proc) (w : BitVec 32) (s : State) (c : Ctx) (t : Elt), issues .vmov p w s = some c ∧ Elt.ofCode (fType w.toNat) = some t) := by
  refine ⟨⟨.tabor 0, (vec 0x20 12 0), (run (vec 0x20 12 0) (c0)), ((issues .vadd (.tabor 0) (vec 0x20 12 0) (run (vec 0x20 12 0) (c0))).get (by decide +kernel)), .int64, by decide +kernel⟩,
    ⟨.tabor 0, (vec 0x21 8 0), (run (vec 0x21 8 0) (c0)), ((issues .vlog (.tabor 0) (vec 0x21 8 0) (run (vec 0x21 8 0) (c0))).get (by decide +kernel)), .int8, by decide +kernel⟩,
    ⟨.tabor 0, (vec 0x22 8 0), (run (vec 0x22 8 0) (c0)), ((issues .vmm (.tabor 0) (vec 0x22 8 0) (run (vec 0x22 8 0) (c0))).get (by decide +kernel)), .int8, by decide +kernel⟩,
    ⟨.tabor 0, (vec 0x23 8 2), (run (vec 0x23 8 2) (c0)), ((issues .vsh (.tabor 0) (vec 0x23 8 2) (run (vec 0x23 8 2) (c0))).get (by decide +kernel)), .int8, by decide +kernel⟩,
    ⟨.tabor 0, (vec 0x25 0 0), (run (vec 0x25 0 0) (c0)), ((issues .vbcast (.tabor 0) (vec 0x25 0 0) (run (vec 0x25 0 0) (c0))).get (by decide +kernel)), .fp32, by decide +kernel⟩,
    ⟨.tabor 0, (vec 0x25 0 1), (run (vec 0x25 0 1) (c0)), ((issues .vmov (.tabor 0) (vec 0x25 0 1) (run (vec 0x25 0 1) (c0))).get (by decide +kernel)), .fp32, by decide +kernel⟩⟩

theorem test_witness_vector_integer_2 :
    (∃ (p : Proc) (w : BitVec 32) (s : State) (c : Ctx) (t : Elt), issues .vsel p w s = some c ∧ Elt.ofCode (fType w.toNat) = some t) ∧
    (∃ (p : Proc) (w : BitVec 32) (s : State) (c : Ctx) (t : Elt), issues .vext p w s = some c ∧ Elt.ofCode (fType w.toNat) = some t ∧ elemEn c (fPred w.toNat) t 0 = true) ∧
    (∃ (p : Proc) (w : BitVec 32) (s : State) (c : Ctx) (t : Elt), issues .vext p w s = some c ∧ Elt.ofCode (fType w.toNat) = some t ∧ elemEn c (fPred w.toNat) t 0 = false) ∧
    (∃ (p : Proc) (w : BitVec 32) (s : State) (c : Ctx) (t : Elt), issues .vcmp p w s = some c ∧ Elt.ofCode (fType w.toNat) = some t) ∧
    (∃ (p : Proc) (w : BitVec 32) (s : State) (c : Ctx), issues .vperm p w s = some c ∧ fFunc2 w.toNat = 0) ∧
    (∃ (p : Proc) (w : BitVec 32) (s : State) (c : Ctx), issues .vperm p w s = some c ∧ fFunc2 w.toNat = 1) := by
  refine ⟨⟨.tabor 0, (vec 0x25 0 2), (run (vec 0x25 0 2) (c0)), ((issues .vsel (.tabor 0) (vec 0x25 0 2) (run (vec 0x25 0 2) (c0))).get (by decide +kernel)), .fp32, by decide +kernel⟩,
    ⟨.tabor 0, (vec 0x25 0 3), (run (vec 0x25 0 3) (c0)), ((issues .vext (.tabor 0) (vec 0x25 0 3) (run (vec 0x25 0 3) (c0))).get (by decide +kernel)), .fp32, by decide +kernel⟩,
    ⟨.tabor 0, (vec 0x25 0 3 + 2 ^ 22), (run (vec 0x25 0 3 + 2 ^ 22) (c0)), ((issues .vext (.tabor 0) (vec 0x25 0 3 + 2 ^ 22) (run (vec 0x25 0 3 + 2 ^ 22) (c0))).get (by decide +kernel)), .fp32, by decide +kernel⟩,
    ⟨.tabor 0, (vec 0x24 8 0), (run (vec 0x24 8 0) (c0)), ((issues .vcmp (.tabor 0) (vec 0x24 8 0) (run (vec 0x24 8 0) (c0))).get (by decide +kernel)), .int8, by decide +kernel⟩,
    ⟨.tabor 0, (vec 0x38 0 0), (run (vec 0x38 0 0) (c0)), ((issues .vperm (.tabor 0) (vec 0x38 0 0) (run (vec 0x38 0 0) (c0))).get (by decide +kernel)), by decide +kernel⟩,
    ⟨.tabor 0, (vec 0x38 0 1), (run (vec 0x38 0 1) (c0)), ((issues .vperm (.tabor 0) (vec 0x38 0 1) (run (vec 0x38 0 1) (c0))).get (by decide +kernel)), by decide +kernel⟩⟩

theorem test_witness_vector_integer_3 :
    (∃ (p : Proc) (w : BitVec 32) (s : State) (c : Ctx), issues .vperm p w s = some c ∧ fFunc2 w.toNat = 2) ∧
    (∃ (p : Proc) (w : BitVec 32) (s : State) (c : Ctx), issues .vperm p w s = some c ∧ fFunc2 w.toNat = 3) := by
  refine ⟨⟨.tabor 0, (vec 0x38 0 2), (run (vec 0x38 0 2) (c0)), ((issues .vperm (.tabor 0) (vec 0x38 0 2) (run (vec 0x38 0 2) (c0))).get (by decide +kernel)), by decide +kernel⟩,
    ⟨.tabor 0, (vec 0x38 0 3), (run (vec 0x38 0 3) (c0)), ((issues .vperm (.tabor 0) (vec 0x38 0 3) (run (vec 0x38 0 3) (c0))).get (by decide +kernel)), by decide +kernel⟩⟩

theorem test_witness_vector_float_1 :
    (∃ (p : Proc) (w : BitVec 32) (s : State) (c : Ctx) (t : Elt), issues .vfadd p w s = some c ∧ Elt.ofCode (fType w.toNat) = some t ∧ fFunc2 w.toNat = 0) ∧
    (∃ (p : Proc) (w : BitVec 32) (s : State) (c : Ctx) (t : Elt), issues .vfadd p w s = some c ∧ Elt.ofCode (fType w.toNat) = some t ∧ fFunc2 w.toNat = 1) ∧
    (∃ (p : Proc) (w : BitVec 32) (s : State) (c : Ctx) (t : Elt), issues .vfadd p w s = some c ∧ Elt.ofCode (fType w.toNat) = some t ∧ fFunc2 w.toNat = 2) ∧
    (∃ (p : Proc) (w : BitVec 32) (s : State) (c : Ctx) (t : Elt), issues .vfadd p w s = some c ∧ Elt.ofCode (fType w.toNat) = some t ∧ fFunc2 w.toNat = 3) ∧
    (∃ (p : Proc) (w : BitVec 32) (s : State) (c : Ctx) (t : Elt), issues .vfmul p w s = some c ∧ Elt.ofCode (fType w.toNat) = some t) ∧
    (∃ (p : Proc) (w : BitVec 32) (s : State) (c : Ctx) (t : Elt), issues .vfma p w s = some c ∧ Elt.ofCode (fType w.toNat) = some t ∧ fFunc2 w.toNat = 0) := by
  refine ⟨⟨.tabor 0, (vec 0x28 0 0), (run (vec 0x28 0 0) (c0)), ((issues .vfadd (.tabor 0) (vec 0x28 0 0) (run (vec 0x28 0 0) (c0))).get (by decide +kernel)), .fp32, by decide +kernel⟩,
    ⟨.tabor 0, (vec 0x28 0 1), (run (vec 0x28 0 1) (c0)), ((issues .vfadd (.tabor 0) (vec 0x28 0 1) (run (vec 0x28 0 1) (c0))).get (by decide +kernel)), .fp32, by decide +kernel⟩,
    ⟨.tabor 0, (vec 0x28 0 2), (run (vec 0x28 0 2) (c0)), ((issues .vfadd (.tabor 0) (vec 0x28 0 2) (run (vec 0x28 0 2) (c0))).get (by decide +kernel)), .fp32, by decide +kernel⟩,
    ⟨.tabor 0, (vec 0x28 0 3), (run (vec 0x28 0 3) (c0)), ((issues .vfadd (.tabor 0) (vec 0x28 0 3) (run (vec 0x28 0 3) (c0))).get (by decide +kernel)), .fp32, by decide +kernel⟩,
    ⟨.tabor 0, (vec 0x29 1 0), (run (vec 0x29 1 0) (c0)), ((issues .vfmul (.tabor 0) (vec 0x29 1 0) (run (vec 0x29 1 0) (c0))).get (by decide +kernel)), .bf16, by decide +kernel⟩,
    ⟨.tabor 0, (vec 0x2A 2 0), (run (vec 0x2A 2 0) (c0)), ((issues .vfma (.tabor 0) (vec 0x2A 2 0) (run (vec 0x2A 2 0) (c0))).get (by decide +kernel)), .fp16, by decide +kernel⟩⟩

theorem test_witness_vector_float_2 :
    (∃ (p : Proc) (w : BitVec 32) (s : State) (c : Ctx) (t : Elt), issues .vfma p w s = some c ∧ Elt.ofCode (fType w.toNat) = some t ∧ fFunc2 w.toNat = 1) ∧
    (∃ (p : Proc) (w : BitVec 32) (s : State) (c : Ctx) (t : Elt), issues .vfma p w s = some c ∧ Elt.ofCode (fType w.toNat) = some t ∧ fFunc2 w.toNat = 2) ∧
    (∃ (p : Proc) (w : BitVec 32) (s : State) (c : Ctx) (t : Elt), issues .vdot p w s = some c ∧ Elt.ofCode (fType w.toNat) = some t) ∧
    (∃ (p : Proc) (w : BitVec 32) (s : State) (c : Ctx) (t : Elt), issues .vcvtn p w s = some c ∧ Elt.ofCode (fType w.toNat) = some t ∧ fFunc2 w.toNat = 0) ∧
    (∃ (p : Proc) (w : BitVec 32) (s : State) (c : Ctx) (t : Elt), issues .vcvtn p w s = some c ∧ Elt.ofCode (fType w.toNat) = some t ∧ fFunc2 w.toNat = 1) ∧
    (∃ (p : Proc) (w : BitVec 32) (s : State) (c : Ctx) (t : Elt), issues .vcvtw p w s = some c ∧ Elt.ofCode (fType w.toNat) = some t ∧ fFunc2 w.toNat = 0) := by
  refine ⟨⟨.tabor 0, (vec 0x2A 2 1), (run (vec 0x2A 2 1) (c0)), ((issues .vfma (.tabor 0) (vec 0x2A 2 1) (run (vec 0x2A 2 1) (c0))).get (by decide +kernel)), .fp16, by decide +kernel⟩,
    ⟨.tabor 0, (vec 0x2A 2 2), (run (vec 0x2A 2 2) (c0)), ((issues .vfma (.tabor 0) (vec 0x2A 2 2) (run (vec 0x2A 2 2) (c0))).get (by decide +kernel)), .fp16, by decide +kernel⟩,
    ⟨.tabor 0, (vec 0x2C 1 0), (run (vec 0x2C 1 0) (c0)), ((issues .vdot (.tabor 0) (vec 0x2C 1 0) (run (vec 0x2C 1 0) (c0))).get (by decide +kernel)), .bf16, by decide +kernel⟩,
    ⟨.tabor 0, (vec 0x30 1 0), (run (vec 0x30 1 0) (c0)), ((issues .vcvtn (.tabor 0) (vec 0x30 1 0) (run (vec 0x30 1 0) (c0))).get (by decide +kernel)), .bf16, by decide +kernel⟩,
    ⟨.tabor 0, (vec 0x30 1 1), (run (vec 0x30 1 1) (c0)), ((issues .vcvtn (.tabor 0) (vec 0x30 1 1) (run (vec 0x30 1 1) (c0))).get (by decide +kernel)), .bf16, by decide +kernel⟩,
    ⟨.tabor 0, (vec 0x31 1 0), (run (vec 0x31 1 0) (c0)), ((issues .vcvtw (.tabor 0) (vec 0x31 1 0) (run (vec 0x31 1 0) (c0))).get (by decide +kernel)), .bf16, by decide +kernel⟩⟩

theorem test_witness_vector_float_3 :
    (∃ (p : Proc) (w : BitVec 32) (s : State) (c : Ctx) (t : Elt), issues .vcvtw p w s = some c ∧ Elt.ofCode (fType w.toNat) = some t ∧ fFunc2 w.toNat = 1) ∧
    (∃ (p : Proc) (w : BitVec 32) (s : State) (c : Ctx) (t : Elt), issues .vmxq p w s = some c ∧ Elt.ofCode (fType w.toNat) = some t ∧ fRd w.toNat ≠ 0 ∧ fRs2 w.toNat % 4 < (if t = .e2m1 then 4 else 2)) ∧
    (∃ (p : Proc) (w : BitVec 32) (s : State) (c : Ctx) (t : Elt), issues .vred p w s = some c ∧ Elt.ofCode (fType w.toNat) = some t) ∧
    (∃ (p : Proc) (w : BitVec 32) (s : State) (c : Ctx) (sum comp : Nat), issues .vredc p w s = some c ∧ tree16 compJoin ((List.range 16).map fun i => if predBit c (fPred w.toNat) i then ((lanes 32 (c.readV (fRs1 w.toNat))).getD i 0, (lanes 32 (c.readV (fRs2 w.toNat))).getD i 0) else (0x80000000, 0x80000000)) = [(sum, comp)]) ∧
    (∃ (p : Proc) (w : BitVec 32) (s : State) (c : Ctx), issues .vcadd p w s = some c) := by
  refine ⟨⟨.tabor 0, (vec 0x31 1 1), (run (vec 0x31 1 1) (c0)), ((issues .vcvtw (.tabor 0) (vec 0x31 1 1) (run (vec 0x31 1 1) (c0))).get (by decide +kernel)), .bf16, by decide +kernel⟩,
    ⟨.tabor 0, (vec 0x32 7 0), (run (vec 0x32 7 0) (c0)), ((issues .vmxq (.tabor 0) (vec 0x32 7 0) (run (vec 0x32 7 0) (c0))).get (by decide +kernel)), .e2m1, by decide +kernel⟩,
    ⟨.tabor 0, (vec 0x34 11 0), (run (vec 0x34 11 0) (c0)), ((issues .vred (.tabor 0) (vec 0x34 11 0) (run (vec 0x34 11 0) (c0))).get (by decide +kernel)), .int32, by decide +kernel⟩,
    ⟨.tabor 0, (vec 0x35 0 0), (run (vec 0x35 0 0) (c0)), ((issues .vredc (.tabor 0) (vec 0x35 0 0) (run (vec 0x35 0 0) (c0))).get (by decide +kernel)), (tree16 compJoin ((List.range 16).map fun _ => (0, 0))).headD (0, 0) |> Prod.fst, ((tree16 compJoin ((List.range 16).map fun _ => (0, 0))).headD (0, 0)).2, by decide +kernel⟩,
    ⟨.tabor 0, (vec 0x36 0 0), (run (vec 0x36 0 0) (c0)), ((issues .vcadd (.tabor 0) (vec 0x36 0 0) (run (vec 0x36 0 0) (c0))).get (by decide +kernel)), by decide +kernel⟩⟩

theorem test_witness_element_arithmetic :
(∃ (t : Elt) (a b : Nat), a < 2 ^ t.width ∧ b < 2 ^ t.width) :=
  ⟨.int64, 0xFFFFFFFFFFFFFFFF, 0, by decide +kernel⟩

theorem test_witness_range_accesses_issue_1 :
    (∃ (n : Nat) (w : BitVec 32) (s : State) (c : Ctx) (parts : List Part) (ents : List Nat), issues .ldg (.tabor n) w s = some c ∧ rangeReady n c ({ pva := memAddr c w.toNat (scalarBytes (fSize w.toNat)), len := scalarBytes (fSize w.toNat), write := false, kind := .loadX (fRd w.toNat) (fSize w.toNat), nf := false, acq := false }) s = some (parts, ents)) ∧
    (∃ (n : Nat) (w : BitVec 32) (s : State) (c : Ctx) (parts : List Part) (ents : List Nat), issues .ldacq (.tabor n) w s = some c ∧ rangeReady n c ({ pva := memAddr c w.toNat (scalarBytes (fSize w.toNat)), len := scalarBytes (fSize w.toNat), write := false, kind := .loadX (fRd w.toNat) (fSize w.toNat), nf := false, acq := true }) s = some (parts, ents)) ∧
    (∃ (n : Nat) (w : BitVec 32) (s : State) (c : Ctx) (parts : List Part) (ents : List Nat), issues .stg (.tabor n) w s = some c ∧ rangeReady n c ({ pva := memAddr c w.toNat (scalarBytes (fSize w.toNat)), len := scalarBytes (fSize w.toNat), write := true, kind := .store (byPlace (leBytes (scalarBytes (fSize w.toNat)) (c.readX (fRd w.toNat)).toNat)), nf := false, acq := false }) s = some (parts, ents)) ∧
    (∃ (n : Nat) (w : BitVec 32) (s : State) (c : Ctx) (parts : List Part) (ents : List Nat), issues .vldg (.tabor n) w s = some c ∧ memAddr c w.toNat 64 % 64 = 0 ∧ rangeReady n c ({ pva := memAddr c w.toNat 64, len := 64, write := false, kind := .loadV (fRd w.toNat), nf := false, acq := false }) s = some (parts, ents)) ∧
    (∃ (n : Nat) (w : BitVec 32) (s : State) (c : Ctx), issues .vldg (.tabor n) w s = some c ∧ memAddr c w.toNat 64 % 64 ≠ 0) ∧
    (∃ (n : Nat) (w : BitVec 32) (s : State) (c : Ctx) (parts : List Part) (ents : List Nat), issues .vstg (.tabor n) w s = some c ∧ ((byPlace (leBytes 64 (c.readV (fRd w.toNat)).toNat)).filter fun kv => predBit c (fMPred w.toNat) (kv.1 / 4)) ≠ [] ∧ rangeReady n c ({ pva := memAddr c w.toNat 64, len := 64, write := true, kind := .store ((byPlace (leBytes 64 (c.readV (fRd w.toNat)).toNat)).filter fun kv => predBit c (fMPred w.toNat) (kv.1 / 4)), nf := false, acq := false }) s = some (parts, ents)) := by
  refine ⟨⟨0, (acc 0x18 3), (run (acc 0x18 3) (c0)), ((issues .ldg (.tabor 0) (acc 0x18 3) (run (acc 0x18 3) (c0))).get (by decide +kernel)), ((rangeReady (0) (((issues .ldg (.tabor 0) (acc 0x18 3) (run (acc 0x18 3) (c0))).get (by decide +kernel))) ({ pva := memAddr (((issues .ldg (.tabor 0) (acc 0x18 3) (run (acc 0x18 3) (c0))).get (by decide +kernel))) ((acc 0x18 3)).toNat (scalarBytes (fSize ((acc 0x18 3)).toNat)), len := scalarBytes (fSize ((acc 0x18 3)).toNat), write := false, kind := .loadX (fRd ((acc 0x18 3)).toNat) (fSize ((acc 0x18 3)).toNat), nf := false, acq := false }) ((run (acc 0x18 3) (c0)))).get (by decide +kernel)).1, ((rangeReady (0) (((issues .ldg (.tabor 0) (acc 0x18 3) (run (acc 0x18 3) (c0))).get (by decide +kernel))) ({ pva := memAddr (((issues .ldg (.tabor 0) (acc 0x18 3) (run (acc 0x18 3) (c0))).get (by decide +kernel))) ((acc 0x18 3)).toNat (scalarBytes (fSize ((acc 0x18 3)).toNat)), len := scalarBytes (fSize ((acc 0x18 3)).toNat), write := false, kind := .loadX (fRd ((acc 0x18 3)).toNat) (fSize ((acc 0x18 3)).toNat), nf := false, acq := false }) ((run (acc 0x18 3) (c0)))).get (by decide +kernel)).2, by decide +kernel⟩,
    ⟨0, (acc 0x1C 3), (run (acc 0x1C 3) (c0)), ((issues .ldacq (.tabor 0) (acc 0x1C 3) (run (acc 0x1C 3) (c0))).get (by decide +kernel)), ((rangeReady (0) (((issues .ldacq (.tabor 0) (acc 0x1C 3) (run (acc 0x1C 3) (c0))).get (by decide +kernel))) ({ pva := memAddr (((issues .ldacq (.tabor 0) (acc 0x1C 3) (run (acc 0x1C 3) (c0))).get (by decide +kernel))) ((acc 0x1C 3)).toNat (scalarBytes (fSize ((acc 0x1C 3)).toNat)), len := scalarBytes (fSize ((acc 0x1C 3)).toNat), write := false, kind := .loadX (fRd ((acc 0x1C 3)).toNat) (fSize ((acc 0x1C 3)).toNat), nf := false, acq := true }) ((run (acc 0x1C 3) (c0)))).get (by decide +kernel)).1, ((rangeReady (0) (((issues .ldacq (.tabor 0) (acc 0x1C 3) (run (acc 0x1C 3) (c0))).get (by decide +kernel))) ({ pva := memAddr (((issues .ldacq (.tabor 0) (acc 0x1C 3) (run (acc 0x1C 3) (c0))).get (by decide +kernel))) ((acc 0x1C 3)).toNat (scalarBytes (fSize ((acc 0x1C 3)).toNat)), len := scalarBytes (fSize ((acc 0x1C 3)).toNat), write := false, kind := .loadX (fRd ((acc 0x1C 3)).toNat) (fSize ((acc 0x1C 3)).toNat), nf := false, acq := true }) ((run (acc 0x1C 3) (c0)))).get (by decide +kernel)).2, by decide +kernel⟩,
    ⟨0, (acc 0x19 3), (run (acc 0x19 3) (c0)), ((issues .stg (.tabor 0) (acc 0x19 3) (run (acc 0x19 3) (c0))).get (by decide +kernel)), ((rangeReady (0) (((issues .stg (.tabor 0) (acc 0x19 3) (run (acc 0x19 3) (c0))).get (by decide +kernel))) ({ pva := memAddr (((issues .stg (.tabor 0) (acc 0x19 3) (run (acc 0x19 3) (c0))).get (by decide +kernel))) ((acc 0x19 3)).toNat (scalarBytes (fSize ((acc 0x19 3)).toNat)), len := scalarBytes (fSize ((acc 0x19 3)).toNat), write := true, kind := .store (byPlace (leBytes (scalarBytes (fSize ((acc 0x19 3)).toNat)) ((((issues .stg (.tabor 0) (acc 0x19 3) (run (acc 0x19 3) (c0))).get (by decide +kernel))).readX (fRd ((acc 0x19 3)).toNat)).toNat)), nf := false, acq := false }) ((run (acc 0x19 3) (c0)))).get (by decide +kernel)).1, ((rangeReady (0) (((issues .stg (.tabor 0) (acc 0x19 3) (run (acc 0x19 3) (c0))).get (by decide +kernel))) ({ pva := memAddr (((issues .stg (.tabor 0) (acc 0x19 3) (run (acc 0x19 3) (c0))).get (by decide +kernel))) ((acc 0x19 3)).toNat (scalarBytes (fSize ((acc 0x19 3)).toNat)), len := scalarBytes (fSize ((acc 0x19 3)).toNat), write := true, kind := .store (byPlace (leBytes (scalarBytes (fSize ((acc 0x19 3)).toNat)) ((((issues .stg (.tabor 0) (acc 0x19 3) (run (acc 0x19 3) (c0))).get (by decide +kernel))).readX (fRd ((acc 0x19 3)).toNat)).toNat)), nf := false, acq := false }) ((run (acc 0x19 3) (c0)))).get (by decide +kernel)).2, by decide +kernel⟩,
    ⟨0, (acc 0x1A 0), (run (acc 0x1A 0) (c0)), ((issues .vldg (.tabor 0) (acc 0x1A 0) (run (acc 0x1A 0) (c0))).get (by decide +kernel)), ((rangeReady (0) (((issues .vldg (.tabor 0) (acc 0x1A 0) (run (acc 0x1A 0) (c0))).get (by decide +kernel))) ({ pva := memAddr (((issues .vldg (.tabor 0) (acc 0x1A 0) (run (acc 0x1A 0) (c0))).get (by decide +kernel))) ((acc 0x1A 0)).toNat 64, len := 64, write := false, kind := .loadV (fRd ((acc 0x1A 0)).toNat), nf := false, acq := false }) ((run (acc 0x1A 0) (c0)))).get (by decide +kernel)).1, ((rangeReady (0) (((issues .vldg (.tabor 0) (acc 0x1A 0) (run (acc 0x1A 0) (c0))).get (by decide +kernel))) ({ pva := memAddr (((issues .vldg (.tabor 0) (acc 0x1A 0) (run (acc 0x1A 0) (c0))).get (by decide +kernel))) ((acc 0x1A 0)).toNat 64, len := 64, write := false, kind := .loadV (fRd ((acc 0x1A 0)).toNat), nf := false, acq := false }) ((run (acc 0x1A 0) (c0)))).get (by decide +kernel)).2, by decide +kernel⟩,
    ⟨0, (acc 0x1A 0), (run (acc 0x1A 0) ({ c0 with x := [(2, 32)] })), ((issues .vldg (.tabor 0) (acc 0x1A 0) (run (acc 0x1A 0) ({ c0 with x := [(2, 32)] }))).get (by decide +kernel)), by decide +kernel⟩,
    ⟨0, (acc 0x1B 0), (run (acc 0x1B 0) (c0)), ((issues .vstg (.tabor 0) (acc 0x1B 0) (run (acc 0x1B 0) (c0))).get (by decide +kernel)), ((rangeReady (0) (((issues .vstg (.tabor 0) (acc 0x1B 0) (run (acc 0x1B 0) (c0))).get (by decide +kernel))) ({ pva := memAddr (((issues .vstg (.tabor 0) (acc 0x1B 0) (run (acc 0x1B 0) (c0))).get (by decide +kernel))) ((acc 0x1B 0)).toNat 64, len := 64, write := true, kind := .store ((byPlace (leBytes 64 ((((issues .vstg (.tabor 0) (acc 0x1B 0) (run (acc 0x1B 0) (c0))).get (by decide +kernel))).readV (fRd ((acc 0x1B 0)).toNat)).toNat)).filter fun kv => predBit (((issues .vstg (.tabor 0) (acc 0x1B 0) (run (acc 0x1B 0) (c0))).get (by decide +kernel))) (fMPred ((acc 0x1B 0)).toNat) (kv.1 / 4)), nf := false, acq := false }) ((run (acc 0x1B 0) (c0)))).get (by decide +kernel)).1, ((rangeReady (0) (((issues .vstg (.tabor 0) (acc 0x1B 0) (run (acc 0x1B 0) (c0))).get (by decide +kernel))) ({ pva := memAddr (((issues .vstg (.tabor 0) (acc 0x1B 0) (run (acc 0x1B 0) (c0))).get (by decide +kernel))) ((acc 0x1B 0)).toNat 64, len := 64, write := true, kind := .store ((byPlace (leBytes 64 ((((issues .vstg (.tabor 0) (acc 0x1B 0) (run (acc 0x1B 0) (c0))).get (by decide +kernel))).readV (fRd ((acc 0x1B 0)).toNat)).toNat)).filter fun kv => predBit (((issues .vstg (.tabor 0) (acc 0x1B 0) (run (acc 0x1B 0) (c0))).get (by decide +kernel))) (fMPred ((acc 0x1B 0)).toNat) (kv.1 / 4)), nf := false, acq := false }) ((run (acc 0x1B 0) (c0)))).get (by decide +kernel)).2, by decide +kernel⟩⟩

theorem test_witness_range_accesses_issue_2 :
    (∃ (n : Nat) (w : BitVec 32) (s : State) (c : Ctx), issues .vstg (.tabor n) w s = some c ∧ ((byPlace (leBytes 64 (c.readV (fRd w.toNat)).toNat)).filter fun kv => predBit c (fMPred w.toNat) (kv.1 / 4)) = []) ∧
    (∃ (n : Nat) (w : BitVec 32) (s : State) (c : Ctx) (parts : List Part) (ents : List Nat), issues .atom (.tabor n) w s = some c ∧ (srcA w c).toNat % atomBytes w.toNat = 0 ∧ rangeReady n c ({ pva := (srcA w c).toNat, len := atomBytes w.toNat, write := true, kind := .atom (fRd w.toNat) (fFunc w.toNat % 32) (bitOf (fFunc w.toNat) 5) (srcB w c).toNat (c.readX (fRd w.toNat)).toNat, nf := bitOf w.toNat 31, acq := true }) s = some (parts, ents)) ∧
    (∃ (n : Nat) (w : BitVec 32) (s : State) (c : Ctx), issues .atom (.tabor n) w s = some c ∧ (srcA w c).toNat % atomBytes w.toNat ≠ 0) := by
  refine ⟨⟨0, (acc 0x1B 0 + 2 ^ 17), (run (acc 0x1B 0 + 2 ^ 17) (c0)), ((issues .vstg (.tabor 0) (acc 0x1B 0 + 2 ^ 17) (run (acc 0x1B 0 + 2 ^ 17) (c0))).get (by decide +kernel)), by decide +kernel⟩,
    ⟨0, (reg 0x40 32), (run (reg 0x40 32) (c0)), ((issues .atom (.tabor 0) (reg 0x40 32) (run (reg 0x40 32) (c0))).get (by decide +kernel)), ((rangeReady (0) (((issues .atom (.tabor 0) (reg 0x40 32) (run (reg 0x40 32) (c0))).get (by decide +kernel))) ({ pva := (srcA ((reg 0x40 32)) (((issues .atom (.tabor 0) (reg 0x40 32) (run (reg 0x40 32) (c0))).get (by decide +kernel)))).toNat, len := atomBytes ((reg 0x40 32)).toNat, write := true, kind := .atom (fRd ((reg 0x40 32)).toNat) (fFunc ((reg 0x40 32)).toNat % 32) (bitOf (fFunc ((reg 0x40 32)).toNat) 5) (srcB ((reg 0x40 32)) (((issues .atom (.tabor 0) (reg 0x40 32) (run (reg 0x40 32) (c0))).get (by decide +kernel)))).toNat ((((issues .atom (.tabor 0) (reg 0x40 32) (run (reg 0x40 32) (c0))).get (by decide +kernel))).readX (fRd ((reg 0x40 32)).toNat)).toNat, nf := bitOf ((reg 0x40 32)).toNat 31, acq := true }) ((run (reg 0x40 32) (c0)))).get (by decide +kernel)).1, ((rangeReady (0) (((issues .atom (.tabor 0) (reg 0x40 32) (run (reg 0x40 32) (c0))).get (by decide +kernel))) ({ pva := (srcA ((reg 0x40 32)) (((issues .atom (.tabor 0) (reg 0x40 32) (run (reg 0x40 32) (c0))).get (by decide +kernel)))).toNat, len := atomBytes ((reg 0x40 32)).toNat, write := true, kind := .atom (fRd ((reg 0x40 32)).toNat) (fFunc ((reg 0x40 32)).toNat % 32) (bitOf (fFunc ((reg 0x40 32)).toNat) 5) (srcB ((reg 0x40 32)) (((issues .atom (.tabor 0) (reg 0x40 32) (run (reg 0x40 32) (c0))).get (by decide +kernel)))).toNat ((((issues .atom (.tabor 0) (reg 0x40 32) (run (reg 0x40 32) (c0))).get (by decide +kernel))).readX (fRd ((reg 0x40 32)).toNat)).toNat, nf := bitOf ((reg 0x40 32)).toNat 31, acq := true }) ((run (reg 0x40 32) (c0)))).get (by decide +kernel)).2, by decide +kernel⟩,
    ⟨0, (reg 0x40 32), (run (reg 0x40 32) ({ c0 with x := [(2, 4)] })), ((issues .atom (.tabor 0) (reg 0x40 32) (run (reg 0x40 32) ({ c0 with x := [(2, 4)] }))).get (by decide +kernel)), by decide +kernel⟩⟩

theorem test_witness_window_accesses_issue_1 :
    (∃ (n : Nat) (w : BitVec 32) (s : State) (c : Ctx) (job : Nat), issues .rld (.tabor n) w s = some c ∧ winGoes w c ({ len := remoteBytes w.toNat, right := 0, kind := .loadX (fRd w.toNat) (if remoteBytes w.toNat = 8 then 3 else 2), pktKind := 1, payload := leBytes 2 (remoteBytes w.toNat) }) job s = true) ∧
    (∃ (n : Nat) (w : BitVec 32) (s : State) (c : Ctx) (job : Nat), issues .vrld (.tabor n) w s = some c ∧ winGoes w c ({ len := 64, right := 0, kind := .loadV (fRd w.toNat), pktKind := 1, payload := leBytes 2 64 }) job s = true) ∧
    (∃ (n : Nat) (w : BitVec 32) (s : State) (c : Ctx) (job : Nat), issues .rst (.tabor n) w s = some c ∧ winGoes w c ({ len := remoteBytes w.toNat, right := 1, kind := .store (byPlace (leBytes (remoteBytes w.toNat) (srcB w c).toNat)), pktKind := 2, payload := leBytes (remoteBytes w.toNat) (srcB w c).toNat }) job s = true) ∧
    (∃ (n : Nat) (w : BitVec 32) (s : State) (c : Ctx) (job : Nat), issues .vrst (.tabor n) w s = some c ∧ winGoes w c ({ len := 64, right := 1, kind := .store (byPlace (leBytes 64 (c.readV (fRs2 w.toNat)).toNat)), pktKind := 2, payload := leBytes 64 (c.readV (fRs2 w.toNat)).toNat }) job s = true) ∧
    (∃ (n : Nat) (w : BitVec 32) (s : State) (c : Ctx) (job : Nat), issues .rstf (.tabor n) w s = some c ∧ winGoes w c ({ len := 8, right := 3, kind := .store (byPlace (leBytes 8 (srcB w c).toNat)), pktKind := 3, payload := leBytes 8 (srcB w c).toNat }) job s = true) ∧
    (∃ (n : Nat) (w : BitVec 32) (s : State) (c : Ctx) (job : Nat), issues .ratom (.tabor n) w s = some c ∧ winGoes w c ({ len := atomBytes w.toNat, right := 2, kind := .atom (fRd w.toNat) (fFunc w.toNat % 32) (bitOf (fFunc w.toNat) 5) (srcB w c).toNat (c.readX (fRd w.toNat)).toNat, pktKind := 4, payload := leBytes 8 (srcB w c).toNat ++ leBytes 8 (c.readX (fRd w.toNat)).toNat, aop := fFunc w.toNat % 32, a64 := bitOf (fFunc w.toNat) 5 }) job s = true) := by
  refine ⟨⟨0, (reg 0x44 1), (run (reg 0x44 1) ({ c0 with x := [(2, 0x20007), (3, 8)] })), ((issues .rld (.tabor 0) (reg 0x44 1) (run (reg 0x44 1) ({ c0 with x := [(2, 0x20007), (3, 8)] }))).get (by decide +kernel)), 5, by decide +kernel⟩,
    ⟨0, (reg 0x47 0), (run (reg 0x47 0) ({ c0 with x := [(2, 0x20007), (3, 8)] })), ((issues .vrld (.tabor 0) (reg 0x47 0) (run (reg 0x47 0) ({ c0 with x := [(2, 0x20007), (3, 8)] }))).get (by decide +kernel)), 5, by decide +kernel⟩,
    ⟨0, (reg 0x45 1), (run (reg 0x45 1) ({ c0 with x := [(2, 0x20007), (3, 8)] })), ((issues .rst (.tabor 0) (reg 0x45 1) (run (reg 0x45 1) ({ c0 with x := [(2, 0x20007), (3, 8)] }))).get (by decide +kernel)), 5, by decide +kernel⟩,
    ⟨0, (reg 0x48 0), (run (reg 0x48 0) ({ c0 with x := [(2, 0x20007), (3, 8)] })), ((issues .vrst (.tabor 0) (reg 0x48 0) (run (reg 0x48 0) ({ c0 with x := [(2, 0x20007), (3, 8)] }))).get (by decide +kernel)), 5, by decide +kernel⟩,
    ⟨0, (reg 0x46 0), (run (reg 0x46 0) ({ c0 with x := [(2, 0x20007), (3, 8)] })), ((issues .rstf (.tabor 0) (reg 0x46 0) (run (reg 0x46 0) ({ c0 with x := [(2, 0x20007), (3, 8)] }))).get (by decide +kernel)), 5, by decide +kernel⟩,
    ⟨0, (reg 0x41 32), (run (reg 0x41 32) ({ c0 with x := [(2, 0x20007), (3, 8)] })), ((issues .ratom (.tabor 0) (reg 0x41 32) (run (reg 0x41 32) ({ c0 with x := [(2, 0x20007), (3, 8)] }))).get (by decide +kernel)), 5, by decide +kernel⟩⟩

theorem test_witness_window_accesses_issue_2 :
    (∃ (n : Nat) (w : BitVec 32) (s : State) (c : Ctx), issues .rld (.tabor n) w s = some c ∧ 2 ^ 32 ≤ (srcA w c).toNat) ∧
    (∃ (n : Nat) (w : BitVec 32) (s : State) (c : Ctx), issues .vrld (.tabor n) w s = some c ∧ 2 ^ 32 ≤ (srcA w c).toNat) ∧
    (∃ (n : Nat) (w : BitVec 32) (s : State) (c : Ctx), issues .rst (.tabor n) w s = some c ∧ 2 ^ 32 ≤ (srcA w c).toNat) ∧
    (∃ (n : Nat) (w : BitVec 32) (s : State) (c : Ctx), issues .vrst (.tabor n) w s = some c ∧ 2 ^ 32 ≤ (srcA w c).toNat) ∧
    (∃ (n : Nat) (w : BitVec 32) (s : State) (c : Ctx), issues .rstf (.tabor n) w s = some c ∧ 2 ^ 32 ≤ (srcA w c).toNat) ∧
    (∃ (n : Nat) (w : BitVec 32) (s : State) (c : Ctx), issues .ratom (.tabor n) w s = some c ∧ 2 ^ 32 ≤ (srcA w c).toNat) := by
  refine ⟨⟨0, (reg 0x44 1), (run (reg 0x44 1) ({ c0 with x := [(2, 0x100000000)] })), ((issues .rld (.tabor 0) (reg 0x44 1) (run (reg 0x44 1) ({ c0 with x := [(2, 0x100000000)] }))).get (by decide +kernel)), by decide +kernel⟩,
    ⟨0, (reg 0x47 0), (run (reg 0x47 0) ({ c0 with x := [(2, 0x100000000)] })), ((issues .vrld (.tabor 0) (reg 0x47 0) (run (reg 0x47 0) ({ c0 with x := [(2, 0x100000000)] }))).get (by decide +kernel)), by decide +kernel⟩,
    ⟨0, (reg 0x45 1), (run (reg 0x45 1) ({ c0 with x := [(2, 0x100000000)] })), ((issues .rst (.tabor 0) (reg 0x45 1) (run (reg 0x45 1) ({ c0 with x := [(2, 0x100000000)] }))).get (by decide +kernel)), by decide +kernel⟩,
    ⟨0, (reg 0x48 0), (run (reg 0x48 0) ({ c0 with x := [(2, 0x100000000)] })), ((issues .vrst (.tabor 0) (reg 0x48 0) (run (reg 0x48 0) ({ c0 with x := [(2, 0x100000000)] }))).get (by decide +kernel)), by decide +kernel⟩,
    ⟨0, (reg 0x46 0), (run (reg 0x46 0) ({ c0 with x := [(2, 0x100000000)] })), ((issues .rstf (.tabor 0) (reg 0x46 0) (run (reg 0x46 0) ({ c0 with x := [(2, 0x100000000)] }))).get (by decide +kernel)), by decide +kernel⟩,
    ⟨0, (reg 0x41 32), (run (reg 0x41 32) ({ c0 with x := [(2, 0x100000000)] })), ((issues .ratom (.tabor 0) (reg 0x41 32) (run (reg 0x41 32) ({ c0 with x := [(2, 0x100000000)] }))).get (by decide +kernel)), by decide +kernel⟩⟩

theorem test_witness_window_accesses_issue_3 :
(∃ (n : Nat) (w : BitVec 32) (s : State) (c : Ctx) (bs : List Byte) (m : Nat) (s1 : State), issues .copy (.tabor n) w s = some c ∧ heldBack c true = false ∧ c.readS (srcA w c).toNat 64 = some bs ∧ postCopy (.ctx n c.id s.co.nextPend) c.tenant (wordsFrom 8 bs) s = .ok (m, s1)) :=
  ⟨0, (reg 0x49 0), (run (reg 0x49 0) ({ c0 with x := [], scratch := [(24, 64)] })), ((issues .copy (.tabor 0) (reg 0x49 0) (run (reg 0x49 0) ({ c0 with x := [], scratch := [(24, 64)] }))).get (by decide +kernel)), (((((issues .copy (.tabor 0) (reg 0x49 0) (run (reg 0x49 0) ({ c0 with x := [], scratch := [(24, 64)] }))).get (by decide +kernel))).readS (srcA ((reg 0x49 0)) (((issues .copy (.tabor 0) (reg 0x49 0) (run (reg 0x49 0) ({ c0 with x := [], scratch := [(24, 64)] }))).get (by decide +kernel)))).toNat 64).get (by decide +kernel)), ((Except.toOption (postCopy (.ctx (0) (((issues .copy (.tabor 0) (reg 0x49 0) (run (reg 0x49 0) ({ c0 with x := [], scratch := [(24, 64)] }))).get (by decide +kernel))).id ((run (reg 0x49 0) ({ c0 with x := [], scratch := [(24, 64)] }))).co.nextPend) (((issues .copy (.tabor 0) (reg 0x49 0) (run (reg 0x49 0) ({ c0 with x := [], scratch := [(24, 64)] }))).get (by decide +kernel))).tenant (wordsFrom 8 ((((((issues .copy (.tabor 0) (reg 0x49 0) (run (reg 0x49 0) ({ c0 with x := [], scratch := [(24, 64)] }))).get (by decide +kernel))).readS (srcA ((reg 0x49 0)) (((issues .copy (.tabor 0) (reg 0x49 0) (run (reg 0x49 0) ({ c0 with x := [], scratch := [(24, 64)] }))).get (by decide +kernel)))).toNat 64).get (by decide +kernel)))) ((run (reg 0x49 0) ({ c0 with x := [], scratch := [(24, 64)] }))))).get (by decide +kernel)).1, ((Except.toOption (postCopy (.ctx (0) (((issues .copy (.tabor 0) (reg 0x49 0) (run (reg 0x49 0) ({ c0 with x := [], scratch := [(24, 64)] }))).get (by decide +kernel))).id ((run (reg 0x49 0) ({ c0 with x := [], scratch := [(24, 64)] }))).co.nextPend) (((issues .copy (.tabor 0) (reg 0x49 0) (run (reg 0x49 0) ({ c0 with x := [], scratch := [(24, 64)] }))).get (by decide +kernel))).tenant (wordsFrom 8 ((((((issues .copy (.tabor 0) (reg 0x49 0) (run (reg 0x49 0) ({ c0 with x := [], scratch := [(24, 64)] }))).get (by decide +kernel))).readS (srcA ((reg 0x49 0)) (((issues .copy (.tabor 0) (reg 0x49 0) (run (reg 0x49 0) ({ c0 with x := [], scratch := [(24, 64)] }))).get (by decide +kernel)))).toNat 64).get (by decide +kernel)))) ((run (reg 0x49 0) ({ c0 with x := [], scratch := [(24, 64)] }))))).get (by decide +kernel)).2, by decide +kernel, by decide +kernel, by decide +kernel, by first | exact ok_pair _ | exact ok_get _ | exact acc_val (by decide +kernel) (by decide +kernel) | exact acc_get _ | exact err_of (by decide +kernel) | exact bad_of (by decide +kernel) | rfl⟩

theorem test_witness_waits_and_fences_1 :
    (∃ (n : Nat) (w : BitVec 32) (s : State) (c : Ctx), issues .waitc (.tabor n) w s = some c ∧ heldBack c false = false ∧ (srcA w c).toNat < 2 ^ 18 ∧ s.fa.ctrOwner.get? (srcA w c).toNat = some c.tenant ∧ (srcB w c).toNat ≤ s.fa.counters.getD (srcA w c).toNat 0) ∧
    (∃ (n : Nat) (w : BitVec 32) (s : State) (c : Ctx), issues .waitc (.tabor n) w s = some c ∧ heldBack c false = false ∧ (srcA w c).toNat < 2 ^ 18 ∧ s.fa.ctrOwner.get? (srcA w c).toNat = some c.tenant ∧ s.fa.counters.getD (srcA w c).toNat 0 < (srcB w c).toNat) ∧
    (∃ (n : Nat) (w : BitVec 32) (s : State) (c : Ctx), issues .waitc (.tabor n) w s = some c ∧ heldBack c false = false ∧ (srcA w c).toNat < 2 ^ 18 ∧ s.fa.ctrOwner.get? (srcA w c).toNat ≠ some c.tenant) ∧
    (∃ (n : Nat) (w : BitVec 32) (s : State) (c : Ctx) (pha : Nat) (ps : List (Nat × Nat × Nat)) (ents : List Nat), issues .waitf (.tabor n) w s = some c ∧ heldBack c false = false ∧ (srcA w c).toNat + 8 ≤ 2 ^ 56 ∧ lookRange s c.tenant (srcA w c).toNat 8 false = .ok ((pha, 8, 0) :: ps, ents) ∧ (c.pend.any fun q => q.open_ && q.isStore && q.parts.any fun r => r.key = lineKey s.ch.domIndex (pha / 64)) = false ∧ waitfTest s pha (fFunc w.toNat) (srcB w c).toNat = .ok true) ∧
    (∃ (n : Nat) (w : BitVec 32) (s : State) (c : Ctx) (pha : Nat) (ps : List (Nat × Nat × Nat)) (ents : List Nat), issues .waitf (.tabor n) w s = some c ∧ heldBack c false = false ∧ (srcA w c).toNat + 8 ≤ 2 ^ 56 ∧ lookRange s c.tenant (srcA w c).toNat 8 false = .ok ((pha, 8, 0) :: ps, ents) ∧ (c.pend.any fun q => q.open_ && q.isStore && q.parts.any fun r => r.key = lineKey s.ch.domIndex (pha / 64)) = false ∧ waitfTest s pha (fFunc w.toNat) (srcB w c).toNat = .ok false) ∧
    (∃ (n : Nat) (w : BitVec 32) (s : State) (c : Ctx), issues .fencePub (.tabor n) w s = some c) := by
  refine ⟨⟨0, (reg 0x4A 0), (counted ((run (reg 0x4A 0) (c0)))), ((issues .waitc (.tabor 0) (reg 0x4A 0) (counted ((run (reg 0x4A 0) (c0))))).get (by decide +kernel)), by decide +kernel⟩,
    ⟨0, (reg 0x4A 0), (counted ((run (reg 0x4A 0) ({ c0 with x := [(2, 64), (3, 9)] })))), ((issues .waitc (.tabor 0) (reg 0x4A 0) (counted ((run (reg 0x4A 0) ({ c0 with x := [(2, 64), (3, 9)] }))))).get (by decide +kernel)), by decide +kernel⟩,
    ⟨0, (reg 0x4A 0), (run (reg 0x4A 0) (c0)), ((issues .waitc (.tabor 0) (reg 0x4A 0) (run (reg 0x4A 0) (c0))).get (by decide +kernel)), by decide +kernel⟩,
    ⟨0, (reg 0x61 1), (run (reg 0x61 1) (c0)), ((issues .waitf (.tabor 0) (reg 0x61 1) (run (reg 0x61 1) (c0))).get (by decide +kernel)), 64, [], [1], by decide +kernel, by decide +kernel, by decide +kernel, by first | exact ok_pair _ | exact ok_get _ | exact acc_val (by decide +kernel) (by decide +kernel) | exact acc_get _ | exact err_of (by decide +kernel) | exact bad_of (by decide +kernel) | rfl, by decide +kernel, by first | exact ok_get _ | exact acc_val (by decide +kernel) (by decide +kernel) | exact acc_get _ | exact err_of (by decide +kernel) | exact bad_of (by decide +kernel) | rfl⟩,
    ⟨0, (reg 0x61 1), (run (reg 0x61 1) ({ c0 with x := [(2, 64)] })), ((issues .waitf (.tabor 0) (reg 0x61 1) (run (reg 0x61 1) ({ c0 with x := [(2, 64)] }))).get (by decide +kernel)), 64, [], [1], by decide +kernel, by decide +kernel, by decide +kernel, by first | exact ok_pair _ | exact ok_get _ | exact acc_val (by decide +kernel) (by decide +kernel) | exact acc_get _ | exact err_of (by decide +kernel) | exact bad_of (by decide +kernel) | rfl, by decide +kernel, by first | exact ok_get _ | exact acc_val (by decide +kernel) (by decide +kernel) | exact acc_get _ | exact err_of (by decide +kernel) | exact bad_of (by decide +kernel) | rfl⟩,
    ⟨0, (reg 0x50 0), (run (reg 0x50 0) (c0)), ((issues .fencePub (.tabor 0) (reg 0x50 0) (run (reg 0x50 0) (c0))).get (by decide +kernel)), by decide +kernel⟩⟩

theorem test_witness_waits_and_fences_2 :
    (∃ (n : Nat) (w : BitVec 32) (s : State) (c : Ctx), issues .fenceFab (.tabor n) w s = some c) ∧
    (∃ (n : Nat) (w : BitVec 32) (s : State) (c : Ctx), issues .fenceAcq (.tabor n) w s = some c) ∧
    (∃ (n : Nat) (s : State) (c : Ctx) (ref thr rd : Nat), s.powered = true ∧ ((getTab s n).ctxs.find? fun c => c.state = .running) = some c ∧ c.hold = .counter ref thr rd) ∧
    (∃ (n ctx : Nat) (s : State) (c : Ctx) (ref thr rd : Nat), s.powered = true ∧ findCtx s n ctx = some c ∧ c.ending = none ∧ c.hold = .counter ref thr rd ∧ thr ≤ s.fa.counters.getD ref 0) ∧
    (∃ (n ctx : Nat) (s : State) (c : Ctx) (pha cmp x : Nat), s.powered = true ∧ findCtx s n ctx = some c ∧ c.ending = none ∧ c.hold = .word pha cmp x ∧ waitfTest s pha cmp x = .ok true) := by
  refine ⟨⟨0, (reg 0x50 2), (run (reg 0x50 2) (c0)), ((issues .fenceFab (.tabor 0) (reg 0x50 2) (run (reg 0x50 2) (c0))).get (by decide +kernel)), by decide +kernel⟩,
    ⟨0, (reg 0x50 1), (run (reg 0x50 1) (c0)), ((issues .fenceAcq (.tabor 0) (reg 0x50 1) (run (reg 0x50 1) (c0))).get (by decide +kernel)), by decide +kernel⟩,
    ⟨0, run 0 { c0 with hold := .counter 64 9 1 }, (((getTab (run 0 { c0 with hold := .counter 64 9 1 }) 0).ctxs.head?).get (by decide +kernel)), 64, 9, 1, by decide +kernel⟩,
    ⟨0, 1, run 0 { c0 with hold := .counter 64 0 1 }, ((findCtx (run 0 { c0 with hold := .counter 64 0 1 }) (0) (1)).get (by decide +kernel)), 64, 0, 1, by decide +kernel⟩,
    ⟨0, 1, run 0 { c0 with hold := .word 64 1 1 }, ((findCtx (run 0 { c0 with hold := .word 64 1 1 }) (0) (1)).get (by decide +kernel)), 64, 1, 1, by decide +kernel, by decide +kernel, by decide +kernel, by decide +kernel, by first | exact ok_get _ | exact acc_val (by decide +kernel) (by decide +kernel) | exact acc_get _ | exact err_of (by decide +kernel) | exact bad_of (by decide +kernel) | rfl⟩⟩

theorem test_witness_loads_and_invocations_complete_1 :
    (∃ (n ctx tag : Nat) (s : State) (c : Ctx) (p : Pend) (st : Nat) (data : List Byte), s.powered = true ∧ findCtx s n ctx = some c ∧ (c.pend.find? fun p => p.tag = tag) = some p ∧ p.done = some (st, data) ∧ c.ending = none ∧ statusOk st = true) ∧
    (∃ (n ctx tag : Nat) (s : State) (c : Ctx) (p : Pend) (st : Nat) (data : List Byte), s.powered = true ∧ findCtx s n ctx = some c ∧ (c.pend.find? fun p => p.tag = tag) = some p ∧ p.done = some (st, data) ∧ c.ending = none ∧ statusOk st = false ∧ p.nf = true) ∧
    (∃ (c : Ctx) (p : Pend) (rd size st now : Nat) (data : List Byte), p.kind = .loadX rd size ∧ p.nf = false ∧ rd ≠ 0 ∧ p.win = none) ∧
    (∃ (c : Ctx) (p : Pend) (rd st now : Nat) (data : List Byte), p.kind = .loadV rd ∧ p.nf = false ∧ p.win = none) ∧
    (∃ (n ctx : Nat) (s : State) (c : Ctx) (e : WrbEntry), s.powered = true ∧ findCtx s n ctx = some c ∧ c.wrb = [e]) ∧
    (∃ (n : Nat) (s : State) (q : Invoke) (rest : List Invoke) (im : Image) (r : Resident), s.alive = true ∧ taborRuns s n = true ∧ (getTab s n).queue = q :: rest ∧ s.co.images.get? q.handle = some im ∧ (getTab s n).ctxs = [] ∧ im.scratchKib + 3 ≤ 56 ∧ 0 < Par.contextsPerTabor s ∧ (getTab s n).resident.find? (fun r => r.handle = q.handle) = some r ∧ r.ready = true ∧ quotaHeld s q.tenant = false) := by
  refine ⟨⟨0, 1, 7, run 0 { c0 with pend := [⟨7, .loadX 1 3, [], [], false, none, false, [], some (0, List.replicate 8 1)⟩] }, ((findCtx (run 0 { c0 with pend := [⟨7, .loadX 1 3, [], [], false, none, false, [], some (0, List.replicate 8 1)⟩] }) (0) (1)).get (by decide +kernel)), ((((((findCtx (run 0 { c0 with pend := [⟨7, .loadX 1 3, [], [], false, none, false, [], some (0, List.replicate 8 1)⟩] }) (0) (1)).get (by decide +kernel))).pend.find? fun p => p.tag = (7))).get (by decide +kernel)), 0, List.replicate 8 1, by decide +kernel⟩,
    ⟨0, 1, 7, run 0 { c0 with pend := [⟨7, .loadX 1 3, [], [], false, none, true, [], some (0x20, List.replicate 8 1)⟩] }, ((findCtx (run 0 { c0 with pend := [⟨7, .loadX 1 3, [], [], false, none, true, [], some (0x20, List.replicate 8 1)⟩] }) (0) (1)).get (by decide +kernel)), ((((((findCtx (run 0 { c0 with pend := [⟨7, .loadX 1 3, [], [], false, none, true, [], some (0x20, List.replicate 8 1)⟩] }) (0) (1)).get (by decide +kernel))).pend.find? fun p => p.tag = (7))).get (by decide +kernel)), 0x20, List.replicate 8 1, by decide +kernel⟩,
    ⟨c0, ⟨7, .loadX 1 3, [], [], false, none, false, [], none⟩, 1, 3, 0, 0, [], by decide +kernel⟩,
    ⟨c0, ⟨7, .loadV 1, [], [], false, none, false, [], none⟩, 1, 0, 0, [], by decide +kernel⟩,
    ⟨0, 1, run 0 { c0 with wrb := [⟨2, 7, 0, [], 0⟩] }, ((findCtx (run 0 { c0 with wrb := [⟨2, 7, 0, [], 0⟩] }) (0) (1)).get (by decide +kernel)), ⟨2, 7, 0, [], 0⟩, by decide +kernel⟩,
    ⟨0, upT.setCo { upT.co with images := [(0, ⟨1, 0, 0, 0, 53, 10, [], [], 1, false⟩)], tabors := [(0, { queue := [⟨1, 1, 0, 10, []⟩], resident := [⟨0, 1, 0, true⟩] })] }, ⟨1, 1, 0, 10, []⟩, [], ⟨1, 0, 0, 0, 53, 10, [], [], 1, false⟩, ⟨0, 1, 0, true⟩, by decide +kernel⟩⟩

theorem test_witness_loads_and_invocations_complete_2 :
    (∃ (n handle : Nat) (s : State), s.powered = true ∧ ((getTab s n).resident.any fun r => r.handle = handle && !r.ready) = true) ∧
    (∃ (n : Nat) (s : State) (c : Ctx), s.powered = true ∧ ((getTab s n).ctxs.find? fun c => c.state = .running) = some c ∧ ((getTab s n).ctxs.any fun d => d.state = .ready && !quotaHeld s d.tenant) = true) := by
  refine ⟨⟨0, 0, upT.setCo { upT.co with tabors := [(0, { resident := [⟨0, 1, 0, false⟩] })] }, by decide +kernel⟩,
    ⟨0, upT.setCo { upT.co with tabors := [(0, { ctxs := [c0, { c0 with id := 2, state := .ready }] })] }, c0, by decide +kernel⟩⟩

theorem test_witness_homes_and_agents_serve_1 :
    (∃ (m : CohMsg) (s t : State), homeServes 0x01 m s = some t ∧ getDir t m.line = none) ∧
    (∃ (m : CohMsg) (s t : State) (e : DirEntry) (o : Nat), homeServes 0x01 m s = some t ∧ getDir t m.line = some e ∧ e.state ≠ .sh ∧ e.owner = some o ∧ o ≠ m.src) ∧
    (∃ (m : CohMsg) (s t : State), homeServes 0x02 m s = some t ∧ getDir t m.line = none) ∧
    (∃ (m : CohMsg) (s t : State) (e : DirEntry), homeServes 0x02 m s = some t ∧ getDir t m.line = some e ∧ e.state = .sh ∧ e.owner = none ∧ e.coarse = false ∧ e.sharers.contains m.src = false) ∧
    (∃ (m : CohMsg) (s t : State) (e : DirEntry), homeServes 0x03 m s = some t ∧ getDir t m.line = some e ∧ e.state = .sh ∧ e.owner = none ∧ e.coarse = false ∧ e.sharers = [m.src] ∧ (entryOf t (linePage m.line)).tier = 1 ∧ (entryOf t (linePage m.line)).state ≠ 2) ∧
    (∃ (m : CohMsg) (s t : State), homeServes 0x03 m s = some t ∧ getDir t m.line = none) := by
  refine ⟨⟨ms 0x01, ((upT).setCh { upT.ch with net := [ms 0x01] }) , ((homeServes 0x01 (ms 0x01) (((upT).setCh { upT.ch with net := [ms 0x01] }) )).get (by decide +kernel)), by decide +kernel⟩,
    ⟨ms 0x01, ((upT).setCh { upT.ch with net := [ms 0x01], dir := [(1, ⟨.ex, some 5, [], false, [], 0⟩)] }) , ((homeServes 0x01 (ms 0x01) (((upT).setCh { upT.ch with net := [ms 0x01], dir := [(1, ⟨.ex, some 5, [], false, [], 0⟩)] }) )).get (by decide +kernel)), ⟨.ex, some 5, [], false, [], 0⟩, 5, by decide +kernel⟩,
    ⟨ms 0x02, ((upT).setCh { upT.ch with net := [ms 0x02] }) , ((homeServes 0x02 (ms 0x02) (((upT).setCh { upT.ch with net := [ms 0x02] }) )).get (by decide +kernel)), by decide +kernel⟩,
    ⟨ms 0x02, ((upT).setCh { upT.ch with net := [ms 0x02], dir := [(1, ⟨.sh, none, [5], false, [], 0⟩)] }) , ((homeServes 0x02 (ms 0x02) (((upT).setCh { upT.ch with net := [ms 0x02], dir := [(1, ⟨.sh, none, [5], false, [], 0⟩)] }) )).get (by decide +kernel)), ⟨.sh, none, [5], false, [], 0⟩, by decide +kernel⟩,
    ⟨ms 0x03, ((upT).setCh { upT.ch with net := [ms 0x03], dir := [(1, ⟨.sh, none, [0], false, [], 0⟩)] }) , ((homeServes 0x03 (ms 0x03) (((upT).setCh { upT.ch with net := [ms 0x03], dir := [(1, ⟨.sh, none, [0], false, [], 0⟩)] }) )).get (by decide +kernel)), ⟨.sh, none, [0], false, [], 0⟩, by decide +kernel⟩,
    ⟨ms 0x03, ((upT).setCh { upT.ch with net := [ms 0x03] }) , ((homeServes 0x03 (ms 0x03) (((upT).setCh { upT.ch with net := [ms 0x03] }) )).get (by decide +kernel)), by decide +kernel⟩⟩

theorem test_witness_homes_and_agents_serve_2 :
    (∃ (m : CohMsg) (s t : State), homeServes 0x04 m s = some t ∧ getDir t m.line = none ∧ atomAtHome m t = false) ∧
    (∃ (m : CohMsg) (s t : State), homeServes 0x04 m s = some t ∧ getDir t m.line = none ∧ atomAtHome m t = true) ∧
    (∃ (m : CohMsg) (s t : State) (e : DirEntry), homeServes 0x05 m s = some t ∧ getDir t m.line = some e ∧ e.owner = some m.src) ∧
    (∃ (m : CohMsg) (s t : State) (e : DirEntry), homeServes 0x06 m s = some t ∧ getDir t m.line = some e ∧ e.owner = some m.src ∧ e.state = .ex) ∧
    (∃ (m : CohMsg) (s t : State), homeServes 0x08 m s = some t ∧ getDir t m.line = none) ∧
    (∃ (m : CohMsg) (s t : State) (e : DirEntry) (o : Nat), homeServes 0x08 m s = some t ∧ getDir t m.line = some e ∧ e.state ≠ .sh ∧ e.owner = some o) := by
  refine ⟨⟨ms 0x04, ((upT).setCh { upT.ch with net := [ms 0x04] }) , ((homeServes 0x04 (ms 0x04) (((upT).setCh { upT.ch with net := [ms 0x04] }) )).get (by decide +kernel)), by decide +kernel⟩,
    ⟨ms 0x04, ((upT).setCh { upT.ch with net := [ms 0x04], hot := [(1, (5, 0))] }) , ((homeServes 0x04 (ms 0x04) (((upT).setCh { upT.ch with net := [ms 0x04], hot := [(1, (5, 0))] }) )).get (by decide +kernel)), by decide +kernel⟩,
    ⟨ms 0x05, ((upT).setCh { upT.ch with net := [ms 0x05], dir := [(1, ⟨.ex, some 0, [], false, [], 0⟩)] }) , ((homeServes 0x05 (ms 0x05) (((upT).setCh { upT.ch with net := [ms 0x05], dir := [(1, ⟨.ex, some 0, [], false, [], 0⟩)] }) )).get (by decide +kernel)), ⟨.ex, some 0, [], false, [], 0⟩, by decide +kernel⟩,
    ⟨ms 0x06, ((upT).setCh { upT.ch with net := [ms 0x06], dir := [(1, ⟨.ex, some 0, [], false, [], 0⟩)] }) , ((homeServes 0x06 (ms 0x06) (((upT).setCh { upT.ch with net := [ms 0x06], dir := [(1, ⟨.ex, some 0, [], false, [], 0⟩)] }) )).get (by decide +kernel)), ⟨.ex, some 0, [], false, [], 0⟩, by decide +kernel⟩,
    ⟨ms 0x08, ((upT).setCh { upT.ch with net := [ms 0x08] }) , ((homeServes 0x08 (ms 0x08) (((upT).setCh { upT.ch with net := [ms 0x08] }) )).get (by decide +kernel)), by decide +kernel⟩,
    ⟨ms 0x08, ((upT).setCh { upT.ch with net := [ms 0x08], dir := [(1, ⟨.ow, some 5, [], false, [], 0⟩)] }) , ((homeServes 0x08 (ms 0x08) (((upT).setCh { upT.ch with net := [ms 0x08], dir := [(1, ⟨.ow, some 5, [], false, [], 0⟩)] }) )).get (by decide +kernel)), ⟨.ow, some 5, [], false, [], 0⟩, 5, by decide +kernel⟩⟩

theorem test_witness_homes_and_agents_serve_3 :
    (∃ (m : CohMsg) (s t : State) (e : DirEntry) (o : Nat), homeServes 0x09 m s = some t ∧ getDir t m.line = some e ∧ e.owner = some o ∧ e.coarse = false ∧ e.sharers = []) ∧
    (∃ (m : CohMsg) (s t : State), homeServes 0x0A m s = some t ∧ getDir t m.line = none ∧ ledgerOf t m = none) ∧
    (∃ (m : CohMsg) (s : State), s.powered = true ∧ m.mtype ≠ 0x01) ∧
    (∃ (m : CohMsg) (s t : State) (l : SliceLine), snoopReaches 0x10 m s = some t ∧ (getSlice t (agentTabor m.dst)).get? (lineKey m.srcChip m.line) = some l) ∧
    (∃ (m : CohMsg) (s t : State) (l : SliceLine), snoopReaches 0x11 m s = some t ∧ l.data ≠ [] ∧ l.state = .m ∧ (getSlice t (agentTabor m.dst)).get? (lineKey m.srcChip m.line) = some l) ∧
    (∃ (m : CohMsg) (s t : State) (l : SliceLine), snoopReaches 0x11 m s = some t ∧ l.data ≠ [] ∧ l.state = .e ∧ (getSlice t (agentTabor m.dst)).get? (lineKey m.srcChip m.line) = some l) := by
  refine ⟨⟨ms 0x09, ((upT).setCh { upT.ch with net := [ms 0x09], dir := [(1, ⟨.ow, some 5, [], false, [], 0⟩)] }) , ((homeServes 0x09 (ms 0x09) (((upT).setCh { upT.ch with net := [ms 0x09], dir := [(1, ⟨.ow, some 5, [], false, [], 0⟩)] }) )).get (by decide +kernel)), ⟨.ow, some 5, [], false, [], 0⟩, 5, by decide +kernel⟩,
    ⟨ms 0x0A, ((upT).setCh { upT.ch with net := [ms 0x0A] }) , ((homeServes 0x0A (ms 0x0A) (((upT).setCh { upT.ch with net := [ms 0x0A] }) )).get (by decide +kernel)), by decide +kernel⟩,
    ⟨ms 2, upT, by decide +kernel⟩,
    ⟨ms 0x10, ((upT).setCh { upT.ch with net := [ms 0x10], slices := [(0, [(1, ⟨.m, [1], 0, 0⟩)])] }) , ((snoopReaches 0x10 (ms 0x10) (((upT).setCh { upT.ch with net := [ms 0x10], slices := [(0, [(1, ⟨.m, [1], 0, 0⟩)])] }) )).get (by decide +kernel)), ⟨.m, [1], 0, 0⟩, by decide +kernel⟩,
    ⟨ms 0x11, ((upT).setCh { upT.ch with net := [ms 0x11], slices := [(0, [(1, ⟨.m, [1], 0, 0⟩)])] }) , ((snoopReaches 0x11 (ms 0x11) (((upT).setCh { upT.ch with net := [ms 0x11], slices := [(0, [(1, ⟨.m, [1], 0, 0⟩)])] }) )).get (by decide +kernel)), ⟨.m, [1], 0, 0⟩, by decide +kernel⟩,
    ⟨ms 0x11, ((upT).setCh { upT.ch with net := [ms 0x11], slices := [(0, [(1, ⟨.e, [1], 0, 0⟩)])] }) , ((snoopReaches 0x11 (ms 0x11) (((upT).setCh { upT.ch with net := [ms 0x11], slices := [(0, [(1, ⟨.e, [1], 0, 0⟩)])] }) )).get (by decide +kernel)), ⟨.e, [1], 0, 0⟩, by decide +kernel⟩⟩

theorem test_witness_homes_and_agents_serve_4 :
    (∃ (m : CohMsg) (s t : State) (l : SliceLine), snoopReaches 0x12 m s = some t ∧ l.data ≠ [] ∧ (l.state = .m ∨ l.state = .o) ∧ (getSlice t (agentTabor m.dst)).get? (lineKey m.srcChip m.line) = some l) ∧
    (∃ (m : CohMsg) (s t : State) (l : SliceLine), snoopReaches 0x13 m s = some t ∧ l.data ≠ [] ∧ (l.state = .m ∨ l.state = .o) ∧ (getSlice t (agentTabor m.dst)).get? (lineKey m.srcChip m.line) = some l) ∧
    (∃ (m : CohMsg) (s t : State) (l : SliceLine), snoopReaches 0x14 m s = some t ∧ l.data ≠ [] ∧ (getSlice t (agentTabor m.dst)).get? (lineKey m.srcChip m.line) = some l) ∧
    (∃ (m : CohMsg) (s t : State), snoopReaches 0x11 m s = some t ∧ agentLine t (agentTabor m.dst) (lineKey m.srcChip m.line) = none) ∧
    (∃ (m : CohMsg) (s t : State), snoopReaches 0x10 m s = some t ∧ agentLine t (agentTabor m.dst) (lineKey m.srcChip m.line) = none) := by
  refine ⟨⟨ms 0x12, ((upT).setCh { upT.ch with net := [ms 0x12], slices := [(0, [(1, ⟨.o, [1], 0, 0⟩)])] }) , ((snoopReaches 0x12 (ms 0x12) (((upT).setCh { upT.ch with net := [ms 0x12], slices := [(0, [(1, ⟨.o, [1], 0, 0⟩)])] }) )).get (by decide +kernel)), ⟨.o, [1], 0, 0⟩, by decide +kernel⟩,
    ⟨ms 0x13, ((upT).setCh { upT.ch with net := [ms 0x13], slices := [(0, [(1, ⟨.o, [1], 0, 0⟩)])] }) , ((snoopReaches 0x13 (ms 0x13) (((upT).setCh { upT.ch with net := [ms 0x13], slices := [(0, [(1, ⟨.o, [1], 0, 0⟩)])] }) )).get (by decide +kernel)), ⟨.o, [1], 0, 0⟩, by decide +kernel⟩,
    ⟨ms 0x14, ((upT).setCh { upT.ch with net := [ms 0x14], slices := [(0, [(1, ⟨.s, [1], 0, 0⟩)])] }) , ((snoopReaches 0x14 (ms 0x14) (((upT).setCh { upT.ch with net := [ms 0x14], slices := [(0, [(1, ⟨.s, [1], 0, 0⟩)])] }) )).get (by decide +kernel)), ⟨.s, [1], 0, 0⟩, by decide +kernel⟩,
    ⟨ms 0x11, ((upT).setCh { upT.ch with net := [ms 0x11] }) , ((snoopReaches 0x11 (ms 0x11) (((upT).setCh { upT.ch with net := [ms 0x11] }) )).get (by decide +kernel)), by decide +kernel⟩,
    ⟨ms 0x10, ((upT).setCh { upT.ch with net := [ms 0x10] }) , ((snoopReaches 0x10 (ms 0x10) (((upT).setCh { upT.ch with net := [ms 0x10] }) )).get (by decide +kernel)), by decide +kernel⟩⟩

theorem test_witness_transactions_and_grants_complete_1 :
    (∃ (m : CohMsg) (s t : State) (x : Txn), answersTxn 0x18 m s = some (x, t)) ∧
    (∃ (m : CohMsg) (s t : State) (x : Txn), answersTxn 0x19 m s = some (x, t) ∧ x.req.mtype ≠ 0x08 ∧ dataForwarded t x.req = true) ∧
    (∃ (m : CohMsg) (s t : State) (x : Txn), answersTxn 0x19 m s = some (x, t) ∧ x.home = false ∧ dataForwarded t x.req = false) ∧
    (∃ (m : CohMsg) (s t : State) (x : Txn), answersTxn 0x1A m s = some (x, t)) ∧
    (∃ (m : CohMsg) (s t : State), takesMesh 0x18 m s = some t ∧ t.ch.late.contains (m.line, m.src) = true) ∧
    (∃ (line : Nat) (s : State) (x : Txn), s.powered = true ∧ homeServed s line = true ∧ s.ch.ucReads = [] ∧ s.ch.txns.get? line = some x ∧ x.home = true ∧ writes x.req.mtype = false ∧ x.req.mtype ≠ 0x05 ∧ readGate (linePage line) s = .ok) := by
  refine ⟨⟨ms 0x18, ((upT).setCh { upT.ch with net := [ms 0x18], txns := [(1, tx0)] }) , ((answersTxn 0x18 (ms 0x18) (((upT).setCh { upT.ch with net := [ms 0x18], txns := [(1, tx0)] }) )).get (by decide +kernel)).2, ((answersTxn 0x18 (ms 0x18) (((upT).setCh { upT.ch with net := [ms 0x18], txns := [(1, tx0)] }) )).get (by decide +kernel)).1, by decide +kernel⟩,
    ⟨ms 0x19, ((upT).setCh { upT.ch with net := [ms 0x19], txns := [(1, tx0)] }) , ((answersTxn 0x19 (ms 0x19) (((upT).setCh { upT.ch with net := [ms 0x19], txns := [(1, tx0)] }) )).get (by decide +kernel)).2, ((answersTxn 0x19 (ms 0x19) (((upT).setCh { upT.ch with net := [ms 0x19], txns := [(1, tx0)] }) )).get (by decide +kernel)).1, by decide +kernel⟩,
    ⟨ms 0x19, ((upT).setCh { upT.ch with net := [ms 0x19], txns := [(1, tx0)], reqs := [rq0] }) , ((answersTxn 0x19 (ms 0x19) (((upT).setCh { upT.ch with net := [ms 0x19], txns := [(1, tx0)], reqs := [rq0] }) )).get (by decide +kernel)).2, ((answersTxn 0x19 (ms 0x19) (((upT).setCh { upT.ch with net := [ms 0x19], txns := [(1, tx0)], reqs := [rq0] }) )).get (by decide +kernel)).1, by decide +kernel⟩,
    ⟨ms 0x1A, ((upT).setCh { upT.ch with net := [ms 0x1A], txns := [(1, tx0)] }) , ((answersTxn 0x1A (ms 0x1A) (((upT).setCh { upT.ch with net := [ms 0x1A], txns := [(1, tx0)] }) )).get (by decide +kernel)).2, ((answersTxn 0x1A (ms 0x1A) (((upT).setCh { upT.ch with net := [ms 0x1A], txns := [(1, tx0)] }) )).get (by decide +kernel)).1, by decide +kernel⟩,
    ⟨ms 0x18, ((upT).setCh { upT.ch with net := [ms 0x18], late := [(1, 0)] }) , ((takesMesh 0x18 (ms 0x18) (((upT).setCh { upT.ch with net := [ms 0x18], late := [(1, 0)] }) )).get (by decide +kernel)), by decide +kernel⟩,
    ⟨1, ((upT).setCh { upT.ch with txns := [(1, { tx0 with req := ms 1, home := true })] }) , { tx0 with req := ms 1, home := true }, by decide +kernel, by decide +kernel, by decide +kernel, by decide +kernel, by decide +kernel, by decide +kernel, by decide +kernel, by first | exact ok_get _ | exact acc_val (by decide +kernel) (by decide +kernel) | exact acc_get _ | exact err_of (by decide +kernel) | exact bad_of (by decide +kernel) | rfl⟩⟩

theorem test_witness_transactions_and_grants_complete_2 :
    (∃ (line : Nat) (s : State) (m : CohMsg), s.powered = true ∧ homeServed s line = true ∧ s.ch.ucReads = [m] ∧ m.line = line ∧ s.ch.txns.get? line = none ∧ readGate (linePage line) s = .ok) ∧
    (∃ (line : Nat) (s : State), s.powered = true ∧ homeServed s line = false) ∧
    (∃ (line a : Nat) (s : State) (x : Txn), s.powered = true ∧ s.pw.refclk = true ∧ s.ch.txns.get? line = some x ∧ x.waiting = [(a, 0x12)]) ∧
    (∃ (line a : Nat) (s : State) (x : Txn), s.powered = true ∧ s.ch.txns.get? line = some x ∧ x.waiting = [(a, 0x10)]) ∧
    (∃ (line : Nat) (s : State), s.powered = true ∧ s.ch.txns.get? line = none) ∧
    (∃ (m : CohMsg) (s t : State) (r : AgentReq), meetsReq 0x20 m s = some (r, t) ∧ r.via = none ∧ t.co.fenced.mem r.tabor = false ∧ t.co.fences = []) := by
  refine ⟨⟨1, ((upT).setCh { upT.ch with ucReads := [ms 8] }) , ms 8, by decide +kernel, by decide +kernel, by decide +kernel, by decide +kernel, by decide +kernel, by first | exact ok_get _ | exact acc_val (by decide +kernel) (by decide +kernel) | exact acc_get _ | exact err_of (by decide +kernel) | exact bad_of (by decide +kernel) | rfl⟩,
    ⟨1, ((upT).setCh { upT.ch with pc := [(0, [⟨0, false, 1⟩])] }) , by decide +kernel⟩,
    ⟨1, 5, ((upT).setCh { upT.ch with txns := [(1, { tx0 with waiting := [(5, 0x12)] })] }) , { tx0 with waiting := [(5, 0x12)] }, by decide +kernel⟩,
    ⟨1, 5, ((upT).setCh { upT.ch with txns := [(1, { tx0 with waiting := [(5, 0x10)] })] }) , { tx0 with waiting := [(5, 0x10)] }, by decide +kernel⟩,
    ⟨1, upT, by decide +kernel⟩,
    ⟨ms 0x20, ((upT).setCh { upT.ch with net := [ms 0x20], reqs := [rq0] }) , ((meetsReq 0x20 (ms 0x20) (((upT).setCh { upT.ch with net := [ms 0x20], reqs := [rq0] }) )).get (by decide +kernel)).2, ((meetsReq 0x20 (ms 0x20) (((upT).setCh { upT.ch with net := [ms 0x20], reqs := [rq0] }) )).get (by decide +kernel)).1, by decide +kernel⟩⟩

theorem test_witness_transactions_and_grants_complete_3 :
    (∃ (m : CohMsg) (s t : State) (r : AgentReq), meetsReq 0x21 m s = some (r, t) ∧ r.via = none ∧ t.co.fenced.mem r.tabor = false ∧ t.co.fences = []) ∧
    (∃ (m : CohMsg) (s t : State) (r : AgentReq), meetsReq 0x22 m s = some (r, t) ∧ r.via = none ∧ t.co.fenced.mem r.tabor = false ∧ t.co.fences = []) ∧
    (∃ (m : CohMsg) (s t : State) (r : AgentReq) (l : SliceLine), meetsReq 0x23 m s = some (r, t) ∧ r.via = none ∧ t.co.fenced.mem r.tabor = false ∧ t.co.fences = [] ∧ (getSlice t r.tabor).get? (lineKey r.chip m.line) = some l) ∧
    (∃ (m : CohMsg) (s t : State) (r : AgentReq) (id tag : Nat), meetsReq 0x24 m s = some (r, t) ∧ r.who = .ctx id tag) ∧
    (∃ (m : CohMsg) (s t : State) (r : AgentReq) (id tag : Nat), meetsReq 0x26 m s = some (r, t) ∧ r.who = .ctx id tag) ∧
    (∃ (m : CohMsg) (s t : State), takesMesh 0x25 m s = some t) := by
  refine ⟨⟨ms 0x21, ((upT).setCh { upT.ch with net := [ms 0x21], reqs := [rq0] }) , ((meetsReq 0x21 (ms 0x21) (((upT).setCh { upT.ch with net := [ms 0x21], reqs := [rq0] }) )).get (by decide +kernel)).2, ((meetsReq 0x21 (ms 0x21) (((upT).setCh { upT.ch with net := [ms 0x21], reqs := [rq0] }) )).get (by decide +kernel)).1, by decide +kernel⟩,
    ⟨ms 0x22, ((upT).setCh { upT.ch with net := [ms 0x22], reqs := [rq0] }) , ((meetsReq 0x22 (ms 0x22) (((upT).setCh { upT.ch with net := [ms 0x22], reqs := [rq0] }) )).get (by decide +kernel)).2, ((meetsReq 0x22 (ms 0x22) (((upT).setCh { upT.ch with net := [ms 0x22], reqs := [rq0] }) )).get (by decide +kernel)).1, by decide +kernel⟩,
    ⟨ms 0x23, ((upT).setCh { upT.ch with net := [ms 0x23], reqs := [rq0], slices := [(0, [(1, ⟨.s, [1], 0, 0⟩)])] }) , ((meetsReq 0x23 (ms 0x23) (((upT).setCh { upT.ch with net := [ms 0x23], reqs := [rq0], slices := [(0, [(1, ⟨.s, [1], 0, 0⟩)])] }) )).get (by decide +kernel)).2, ((meetsReq 0x23 (ms 0x23) (((upT).setCh { upT.ch with net := [ms 0x23], reqs := [rq0], slices := [(0, [(1, ⟨.s, [1], 0, 0⟩)])] }) )).get (by decide +kernel)).1, ⟨.s, [1], 0, 0⟩, by decide +kernel⟩,
    ⟨ms 0x24, ((upT).setCh { upT.ch with net := [ms 0x24], reqs := [{ rq0 with who := .ctx 1 7 }] }) , ((meetsReq 0x24 (ms 0x24) (((upT).setCh { upT.ch with net := [ms 0x24], reqs := [{ rq0 with who := .ctx 1 7 }] }) )).get (by decide +kernel)).2, ((meetsReq 0x24 (ms 0x24) (((upT).setCh { upT.ch with net := [ms 0x24], reqs := [{ rq0 with who := .ctx 1 7 }] }) )).get (by decide +kernel)).1, 1, 7, by decide +kernel⟩,
    ⟨ms 0x26, ((upT).setCh { upT.ch with net := [ms 0x26], reqs := [{ rq0 with who := .ctx 1 7 }] }) , ((meetsReq 0x26 (ms 0x26) (((upT).setCh { upT.ch with net := [ms 0x26], reqs := [{ rq0 with who := .ctx 1 7 }] }) )).get (by decide +kernel)).2, ((meetsReq 0x26 (ms 0x26) (((upT).setCh { upT.ch with net := [ms 0x26], reqs := [{ rq0 with who := .ctx 1 7 }] }) )).get (by decide +kernel)).1, 1, 7, by decide +kernel⟩,
    ⟨ms 0x25, ((upT).setCh { upT.ch with net := [ms 0x25] }) , ((takesMesh 0x25 (ms 0x25) (((upT).setCh { upT.ch with net := [ms 0x25] }) )).get (by decide +kernel)), by decide +kernel⟩⟩

theorem test_witness_transactions_and_grants_complete_4 :
    (∃ (m : CohMsg) (s t : State) (r : AgentReq), meetsReq 0x27 m s = some (r, t) ∧ m.status = Config.backoff) ∧
    (∃ (m : CohMsg) (s t : State) (r : AgentReq) (id tag : Nat), meetsReq 0x27 m s = some (r, t) ∧ m.status ≠ Config.backoff ∧ r.who = .ctx id tag) ∧
    (∃ (tag : Nat) (s : State) (b : Backoff), s.powered = true ∧ s.ch.backoffs = [b] ∧ b.msg.tag = tag ∧ b.msg.srcChip = s.ch.domIndex ∧ b.msg.dstChip = s.ch.domIndex) ∧
    (∃ (m : CohMsg) (s t : State), takesMesh 0x20 m s = some t ∧ reqOf t m = none) ∧
    (∃ (p : Nat) (s : State) (x : PcReq), s.powered = true ∧ s.ch.pc.get? p = some [x] ∧ s.ch.grant.get? (4096 + p) = none ∧ 0 < Par.pchBurstMax s ∧ x.high = false) ∧
    (∃ (n : Nat) (s : State) (x : Queued), s.powered = true ∧ s.ch.queues.get? n = some [x] ∧ s.ch.grant.get? n = none ∧ x.msg.frame = none ∧ x.msg.mtype ≠ 0x08 ∧ sliverHeld s n = false ∧ canServe s x.msg = true) := by
  refine ⟨⟨{ ms 0x27 with status := Config.backoff }, ((upT).setCh { upT.ch with net := [{ ms 0x27 with status := Config.backoff }], reqs := [rq0] }) , ((meetsReq 0x27 ({ ms 0x27 with status := Config.backoff } : CohMsg) (((upT).setCh { upT.ch with net := [{ ms 0x27 with status := Config.backoff }], reqs := [rq0] }) )).get (by decide +kernel)).2, ((meetsReq 0x27 ({ ms 0x27 with status := Config.backoff } : CohMsg) (((upT).setCh { upT.ch with net := [{ ms 0x27 with status := Config.backoff }], reqs := [rq0] }) )).get (by decide +kernel)).1, by decide +kernel⟩,
    ⟨ms 0x27, ((upT).setCh { upT.ch with net := [ms 0x27], reqs := [{ rq0 with who := .ctx 1 7 }] }) , ((meetsReq 0x27 (ms 0x27) (((upT).setCh { upT.ch with net := [ms 0x27], reqs := [{ rq0 with who := .ctx 1 7 }] }) )).get (by decide +kernel)).2, ((meetsReq 0x27 (ms 0x27) (((upT).setCh { upT.ch with net := [ms 0x27], reqs := [{ rq0 with who := .ctx 1 7 }] }) )).get (by decide +kernel)).1, 1, 7, by decide +kernel⟩,
    ⟨1, ((upT).setCh { upT.ch with backoffs := [⟨ms 1, 0⟩] }) , ⟨ms 1, 0⟩, by decide +kernel⟩,
    ⟨ms 0x20, ((upT).setCh { upT.ch with net := [ms 0x20] }) , ((takesMesh 0x20 (ms 0x20) (((upT).setCh { upT.ch with net := [ms 0x20] }) )).get (by decide +kernel)), by decide +kernel⟩,
    ⟨3, ((upT).setCh { upT.ch with pc := [(3, [⟨0, false, 1⟩])] }) , ⟨0, false, 1⟩, by decide +kernel⟩,
    ⟨2531, ((upT).setCh { upT.ch with queues := [(2531, [⟨ms 1, 0⟩])] }) , ⟨ms 1, 0⟩, by decide +kernel⟩⟩

theorem test_witness_transactions_and_grants_complete_5 :
    (∃ (n : Nat) (s : State), s.powered = true ∧ s.ch.queues.get? n = none) ∧
    (∃ (a : Arbiter) (s : State), s.powered = true) ∧
    (∃ (n i : Nat) (s : State) (c : Comb) (m : CohMsg) (more : List CohMsg), s.powered = true ∧ s.ch.comb.get? n = some [c] ∧ i = 0 ∧ s.ch.txns.has c.line = false ∧ s.ch.queues = [] ∧ isPoisoned s (lineAddr c.line) = false ∧ c.ops = m :: more) ∧
    (∃ (node tc : Nat) (s : State) (p : TxPath), s.powered = true ∧ s.fa.tx.get? (pathKey node tc) = some p ∧ p.pkts ≠ [] ∧ p.pkts.any (fun q => q.sent) = true ∧ p.timeouts + 1 < Par.retryMax s ∧ tc ≠ 7) ∧
    (∃ (node tc : Nat) (s : State), s.powered = true ∧ s.fa.tx.get? (pathKey node tc) = none) := by
  refine ⟨⟨0, upT, by decide +kernel⟩,
    ⟨.sliver 0, upT, by decide +kernel⟩,
    ⟨2531, 0, ((upT).setCh { upT.ch with comb := [(2531, [⟨1, 0, true, [ms 0xA], 0, true⟩])] }) , ⟨1, 0, true, [ms 0xA], 0, true⟩, ms 0xA, [], by decide +kernel⟩,
    ⟨2, 0, ((upT).setFa { upT.fa with tx := [(pathKey 2 0, txp0)] }) , txp0, by decide +kernel⟩,
    ⟨2, 0, upT, by decide +kernel⟩⟩

theorem test_witness_snoops_change_only_their_line :
(∃ (m : CohMsg) (s t : State), m.frame = none ∧ (exec (.snpInv m) s = .next t ∨ exec (.snpFwdS m) s = .next t ∨ exec (.snpFwdX m) s = .next t ∨ exec (.snpRecall m) s = .next t ∨ exec (.snpData m) s = .next t)) :=
  ⟨ms 0x10, ((upT).setCh { upT.ch with net := [ms 0x10] }) , nextOf (exec (.snpInv (ms 0x10)) (((upT).setCh { upT.ch with net := [ms 0x10] }) )), rfl, .inl rfl⟩

theorem test_witness_domains_form_1 :
    (∃ (m : CohMsg) (s t : State) (f : Forming), formArrives 0x30 m s = some t ∧ t.ch.forming = some f ∧ t.fa.domainList.contains (formNode m) = true ∧ f.heard = [] ∧ f.peers = [formNode m]) ∧
    (∃ (m : CohMsg) (s t : State) (f : Forming) (n : Nat), formArrives 0x30 m s = some t ∧ t.ch.forming = some f ∧ t.fa.domainList.contains (formNode m) = true ∧ f.heard = [] ∧ f.peers = [formNode m, n] ∧ n ≠ formNode m) ∧
    (∃ (m : CohMsg) (s t : State), formArrives 0x30 m s = some t ∧ t.ch.forming = none ∧ t.ch.domState = 2) ∧
    (∃ (s : State) (f : Forming), s.powered = true ∧ s.ch.forming = some f) ∧
    (∃ (m : CohMsg) (s t : State) (f : Forming) (list : List Nat), formArrives 0x31 m s = some t ∧ t.ch.forming = some f ∧ formIds 16 m.payload = t.fa.composition :: t.fa.generation :: list ∧ list.contains t.fa.nodeId = true) ∧
    (∃ (m : CohMsg) (s t : State) (f : Forming) (at_ : Nat), formArrives 0x32 m s = some t ∧ t.ch.forming = some f ∧ f.proposed = some ([t.fa.nodeId, formNode m], at_) ∧ f.confirmed = []) := by
  refine ⟨⟨fm 0x30 [], (upF.setCh { upF.ch with forming := some fg0 }).setFa { upF.fa with domainList := [2] }, ((formArrives 0x30 (fm 0x30 []) ((upF.setCh { upF.ch with forming := some fg0 }).setFa { upF.fa with domainList := [2] })).get (by decide +kernel)), fg0, by decide +kernel⟩,
    ⟨fm 0x30 [], (upF.setCh { upF.ch with forming := some { fg0 with peers := [2, 3] } }).setFa { upF.fa with domainList := [2] }, ((formArrives 0x30 (fm 0x30 []) ((upF.setCh { upF.ch with forming := some { fg0 with peers := [2, 3] } }).setFa { upF.fa with domainList := [2] })).get (by decide +kernel)), { fg0 with peers := [2, 3] }, 3, by decide +kernel⟩,
    ⟨fm 0x30 [], (upF.setCh { upF.ch with domState := 2 }).setFa { upF.fa with domainList := [2] }, ((formArrives 0x30 (fm 0x30 []) ((upF.setCh { upF.ch with domState := 2 }).setFa { upF.fa with domainList := [2] })).get (by decide +kernel)), by decide +kernel⟩,
    ⟨(upF.setCh { upF.ch with forming := some fg0 }).setFa { upF.fa with domainList := [2] }, fg0, by decide +kernel⟩,
    ⟨fm 0x31 [1, 0, 1, 0, 1, 0, 2, 0], (upF.setCh { upF.ch with forming := some fg0 }).setFa { upF.fa with domainList := [2] }, ((formArrives 0x31 (fm 0x31 [1, 0, 1, 0, 1, 0, 2, 0]) ((upF.setCh { upF.ch with forming := some fg0 }).setFa { upF.fa with domainList := [2] })).get (by decide +kernel)), fg0, [1, 2], by decide +kernel⟩,
    ⟨fm 0x32 [], (upF.setCh { upF.ch with forming := some { fg0 with proposed := some ([1, 2], 0) } }).setFa { upF.fa with domainList := [2] }, ((formArrives 0x32 (fm 0x32 []) ((upF.setCh { upF.ch with forming := some { fg0 with proposed := some ([1, 2], 0) } }).setFa { upF.fa with domainList := [2] })).get (by decide +kernel)), { fg0 with proposed := some ([1, 2], 0) }, 0, by decide +kernel⟩⟩

theorem test_witness_domains_form_2 :
    (∃ (m : CohMsg) (s t : State) (f : Forming) (gen : Nat) (list : List Nat), formArrives 0x33 m s = some t ∧ t.ch.forming = some f ∧ formIds 16 m.payload = t.fa.composition :: gen :: list ∧ list.contains t.fa.nodeId = true) ∧
    (∃ (m : CohMsg) (s t : State), formArrives 0x34 m s = some t) ∧
    (∃ (s : State) (f : Forming) (list : List Nat) (at_ : Nat), s.powered = true ∧ s.ch.forming = some f ∧ f.proposed = some (list, at_)) ∧
    (∃ (s : State) (f : Forming), s.powered = true ∧ s.ch.forming = some f ∧ f.proposed = none ∧ f.heard = []) ∧
    (∃ (s : State) (node at_ : Nat), s.powered = true ∧ s.pw.refclk = true ∧ s.ch.peerDown.get? node = some at_ ∧ s.ch.members.contains node = true ∧ s.ch.lostPeers.contains node = false ∧ node ≠ s.fa.nodeId ∧ directUp s node = false ∧ s.ch.reqs = [] ∧ s.ch.txns = [] ∧ s.ch.dir = []) := by
  refine ⟨⟨fm 0x33 [1, 0, 1, 0, 1, 0, 2, 0], (upF.setCh { upF.ch with forming := some fg0 }).setFa { upF.fa with domainList := [2] }, ((formArrives 0x33 (fm 0x33 [1, 0, 1, 0, 1, 0, 2, 0]) ((upF.setCh { upF.ch with forming := some fg0 }).setFa { upF.fa with domainList := [2] })).get (by decide +kernel)), fg0, 1, [1, 2], by decide +kernel⟩,
    ⟨fm 0x34 [], upF, ((formArrives 0x34 (fm 0x34 []) (upF)).get (by decide +kernel)), by decide +kernel⟩,
    ⟨(upF.setCh { upF.ch with forming := some { fg0 with proposed := some ([1, 2], 0) } }).setFa { upF.fa with domainList := [2] }, { fg0 with proposed := some ([1, 2], 0) }, [1, 2], 0, by decide +kernel⟩,
    ⟨(upF.setCh { upF.ch with forming := some fg0 }).setFa { upF.fa with domainList := [2] }, fg0, by decide +kernel⟩,
    ⟨((upT).setCh { upT.ch with peerDown := [(2, 0)], members := [1, 2] }) , 2, 0, by decide +kernel⟩⟩

theorem test_witness_links_train_and_fall_1 :
    (∃ (s : State) (sub : Nat), s.powered = true ∧ subExists s sub = true ∧ (getSub s sub).state = 0 ∧ (getSub s sub).step = 1) ∧
    (∃ (s : State) (sub : Nat), s.powered = true ∧ (getSub s sub).state = 1 ∧ (getSub s sub).step = 2) ∧
    (∃ (s : State) (sub : Nat), s.powered = true ∧ (getSub s sub).state = 1 ∧ (getSub s sub).step = 3) ∧
    (∃ (s : State) (sub mac : Nat), s.powered = true ∧ (getSub s sub).state = 1 ∧ (getSub s sub).step = 4) ∧
    (∃ (s : State) (port : Nat) (pair1 : Bool), s.powered = true ∧ s.pw.refclk = true ∧ port < 32 ∧ Par.portSplit s port = 0 ∧ (getSub s (2 * port)).state = 1) ∧
    (∃ (s : State) (sub ckn : Nat), s.powered = true ∧ 2 ≤ (getSub s sub).state ∧ ckn ≠ 0 ∧ s.bt.fabricKeys.any (fun kv => kv.2.1 = ckn) = true ∧ ckn = Par.fabricKeyActive s ∧ (getSub s sub).ca = 0) := by
  refine ⟨⟨((upT).setFa { upT.fa with subs := [(0, { state := 0, step := 1 })] }) , 0, by decide +kernel⟩,
    ⟨((upT).setFa { upT.fa with subs := [(0, { state := 1, step := 2 })] }) , 0, by decide +kernel⟩,
    ⟨((upT).setFa { upT.fa with subs := [(0, { state := 1, step := 3 })] }) , 0, by decide +kernel⟩,
    ⟨((upT).setFa { upT.fa with subs := [(0, { state := 1, step := 4 })] }) , 0, 5, by decide +kernel⟩,
    ⟨((upT).setFa { upT.fa with subs := [(0, { state := 1, step := 4 })] }) , 0, false, by decide +kernel⟩,
    ⟨((((upT).setFa { upT.fa with subs := [(0, { state := 2 })] }) ).setBt { upT.bt with fabricKeys := [(0, (7, []))] }).setOd { upT.od with num := [(0x900006, 7)] }, 0, 7, by decide +kernel⟩⟩

theorem test_witness_links_train_and_fall_2 :
    (∃ (s : State) (sub : Nat), s.powered = true ∧ (getSub s sub).state = 2 ∧ (getSub s sub).ca ≠ 0) ∧
    (∃ (s : State) (sub : Nat), s.powered = true ∧ (getSub s sub).state = 3) ∧
    (∃ (s : State) (sub lane : Nat), s.powered = true ∧ (getSub s sub).state = 2 ∧ (getSub s sub).step ≠ 0 ∧ Par.portSplit s (sub / 2) = 0 ∧ lane < 4) ∧
    (∃ (s : State) (sub errors symbols : Nat), s.powered = true ∧ (getSub s sub).state = 2 ∧ (getSub s sub).step ≠ 0 ∧ symbols < errors * 10 ^ Par.serRetrain s) ∧
    (∃ (s : State) (sub errors symbols : Nat), s.powered = true ∧ errors * 10 ^ Par.serRetrain s ≤ symbols) ∧
    (∃ (s : State) (sub : Nat) (n : Neighbour), s.powered = true ∧ 2 ≤ (getSub s sub).state) := by
  refine ⟨⟨((upT).setFa { upT.fa with subs := [(0, { state := 2, ca := 7 })] }) , 0, by decide +kernel⟩,
    ⟨((upT).setFa { upT.fa with subs := [(0, { state := 3 })] }) , 0, by decide +kernel⟩,
    ⟨((upT).setFa { upT.fa with subs := [(0, { state := 2, step := 1 })] }) , 0, 3, by decide +kernel⟩,
    ⟨((upT).setFa { upT.fa with subs := [(0, { state := 2, step := 1 })] }) , 0, 1, 0, by decide +kernel⟩,
    ⟨upT, 0, 0, 0, by decide +kernel⟩,
    ⟨((upT).setFa { upT.fa with subs := [(0, { state := 2 })] }) , 0, nb0, by decide +kernel⟩⟩

theorem test_witness_links_train_and_fall_3 :
    (∃ (s : State) (sub : Nat), s.powered = true ∧ s.pw.refclk = true ∧ 2 ≤ (getSub s sub).state) ∧
    (∃ (s : State) (sub : Nat) (n : Neighbour), s.powered = true ∧ s.pw.refclk = true ∧ (getSub s sub).neighbour = some n) := by
  refine ⟨⟨((upT).setFa { upT.fa with subs := [(0, { state := 2 })] }) , 0, by decide +kernel⟩,
    ⟨upF, 0, nb0, by decide +kernel⟩⟩

theorem test_witness_frames_and_copies_go :
    (∃ (s : State) (sub : Nat) (f : FrameOut) (rest : List FrameOut), s.powered = true ∧ secure s sub = true ∧ (getSub s sub).sending = none ∧ (getSub s sub).creditAt = s.now ∧ s.fa.ctl = [] ∧ s.fa.tx = [] ∧ s.fa.mgmt.get? sub = some (f :: rest) ∧ classOk s sub 6 = true ∧ classOk s sub 7 = true) ∧
    (∃ (s : State) (sub : Nat), s.powered = true ∧ secure s sub = true ∧ s.fa.ctl = [] ∧ s.fa.tx = [] ∧ s.fa.mgmt = []) ∧
    (∃ (s : State) (sub : Nat) (f : FrameOut) (rest : List FrameOut), s.powered = true ∧ secure s sub = true ∧ (getSub s sub).sending = none ∧ (getSub s sub).creditAt = s.now ∧ s.fa.ctl = [] ∧ s.fa.tx = [] ∧ s.fa.mgmt.get? sub = some (f :: rest) ∧ (classShaper s sub 6).1 = 0 ∧ (classShaper s sub 7).1 = 0) ∧
    (∃ (s : State) (n : Nat) (c : Copy), s.alive = true ∧ s.fa.copies = [(n, c)] ∧ c.running = false ∧ 0 < Par.copyInflight s) ∧
    (∃ (s : State) (n i : Nat) (c : Copy), s.powered = true ∧ s.fa.copies.get? n = some c ∧ c.running = true ∧ c.out = [] ∧ c.local_ = 0 ∧ c.failed = none ∧ wBits c.words 3 30 0 ≤ c.sentBytes ∧ bitOf (wordAt c.words 0) 36 = false ∧ c.origin = .item i) ∧
    (∃ (s : State) (n i st : Nat) (c : Copy), s.powered = true ∧ s.fa.copies.get? n = some c ∧ c.out = [] ∧ c.local_ = 0 ∧ c.failed = some st ∧ c.origin = .item i) := by
  refine ⟨⟨((upF).setFa { upF.fa with mgmt := [(0, [.lldp 1 1 1])] }) , 0, .lldp 1 1 1, [], by decide +kernel⟩,
    ⟨upF, 0, by decide +kernel⟩,
    ⟨(((upF).setFa { upF.fa with mgmt := [(0, [.lldp 1 1 1])] }) ).setOd { upF.od with classShapers := [(6, (0, 0, 0))] }, 0, .lldp 1 1 1, [], by decide +kernel⟩,
    ⟨((upT).setFa { upT.fa with copies := [(1, cp0)] }) , 1, cp0, by decide +kernel⟩,
    ⟨((upT).setFa { upT.fa with copies := [(1, { cp0 with running := true, sentBytes := 64 })] }) , 1, 1, { cp0 with running := true, sentBytes := 64 }, by decide +kernel⟩,
    ⟨((upT).setFa { upT.fa with copies := [(1, { cp0 with failed := some 3 })] }) , 1, 1, 3, { cp0 with failed := some 3 }, by decide +kernel⟩⟩

theorem test_witness_requests_arrive_and_start_1 :
    (∃ (f : RxFrame) (s s1 : State), takesPkt 1 f s = some s1 ∧ rxEarly s1 f.pkt = none) ∧
    (∃ (f : RxFrame) (s s1 : State) (st : Nat), takesPkt 1 f s = some s1 ∧ rxEarly s1 f.pkt = some st) ∧
    (∃ (f : RxFrame) (s s1 : State), takesPkt 2 f s = some s1 ∧ rxEarly s1 f.pkt = none) ∧
    (∃ (f : RxFrame) (s s1 : State), takesPkt 3 f s = some s1 ∧ rxEarly s1 f.pkt = none) ∧
    (∃ (f : RxFrame) (s s1 : State), takesPkt 4 f s = some s1 ∧ rxEarly s1 f.pkt = none) ∧
    (∃ (f : RxFrame) (s s1 : State), takesPkt 6 f s = some s1 ∧ rxEarly s1 f.pkt = none) := by
  refine ⟨⟨fr0 (pk 1 [8, 0]), upF, ((takesPkt 1 (fr0 (pk 1 [8, 0])) (upF)).get (by decide +kernel)), by decide +kernel⟩,
    ⟨fr0 { pk 1 [8, 0] with comp := 2 }, upF, ((takesPkt 1 (fr0 { pk 1 [8, 0] with comp := 2 }) (upF)).get (by decide +kernel)), ((rxEarly (((takesPkt 1 (fr0 { pk 1 [8, 0] with comp := 2 }) (upF)).get (by decide +kernel))) (fr0 { pk 1 [8, 0] with comp := 2 }).pkt).get (by decide +kernel)), by decide +kernel⟩,
    ⟨fr0 (pk 2 (List.replicate 8 0)), upF, ((takesPkt 2 (fr0 (pk 2 (List.replicate 8 0))) (upF)).get (by decide +kernel)), by decide +kernel⟩,
    ⟨fr0 (pk 3 (List.replicate 8 0)), upF, ((takesPkt 3 (fr0 (pk 3 (List.replicate 8 0))) (upF)).get (by decide +kernel)), by decide +kernel⟩,
    ⟨fr0 (pk 4 (List.replicate 16 0)), upF, ((takesPkt 4 (fr0 (pk 4 (List.replicate 16 0))) (upF)).get (by decide +kernel)), by decide +kernel⟩,
    ⟨fr0 (pk 6 (List.replicate 64 0)), upF, ((takesPkt 6 (fr0 (pk 6 (List.replicate 64 0))) (upF)).get (by decide +kernel)), by decide +kernel⟩⟩

theorem test_witness_requests_arrive_and_start_2 :
    (∃ (f : RxFrame) (s : State), f.pkt.kind ≠ 2) ∧
    (∃ (f : RxFrame) (s s1 : State), s.powered = true ∧ takesPkt 5 f s = some s1 ∧ f.pkt.last = false ∧ f.pkt.first = true) ∧
    (∃ (f : RxFrame) (s s1 s2 : State), s.powered = true ∧ takesPkt 5 f s = some s1 ∧ f.pkt.first = true ∧ f.pkt.last = true ∧ s2 = modRx (pathKey f.pkt.src f.pkt.tc) (fun r => { r with bulk := [] }) s1 ∧ rxEarly s2 f.pkt = none ∧ bitsOf (leField f.pkt.payload 0 16) 3 0 < 4) ∧
    (∃ (node tc psn : Nat) (o : OpenPkt) (r : RxPath) (s : State), s.powered = true ∧ findOpen s node tc psn = some o ∧ getRx s (pathKey node tc) = some r ∧ o.stage = 2 ∧ earlierOpen r o.pkt.job psn = false) ∧
    (∃ (node tc psn : Nat) (o : OpenPkt) (r : RxPath) (s : State), s.powered = true ∧ findOpen s node tc psn = some o ∧ getRx s (pathKey node tc) = some r ∧ earlierOpen r o.pkt.job psn = true) := by
  refine ⟨⟨fr0 (pk 1 [8, 0]), upF, by decide +kernel⟩,
    ⟨fr0 { pk 5 (List.replicate 16 0) with first := true }, upF, ((takesPkt 5 (fr0 { pk 5 (List.replicate 16 0) with first := true }) (upF)).get (by decide +kernel)), by decide +kernel⟩,
    ⟨fr0 { pk 5 (List.replicate 16 0) with first := true, last := true }, upF, ((takesPkt 5 (fr0 { pk 5 (List.replicate 16 0) with first := true, last := true }) (upF)).get (by decide +kernel)), modRx (pathKey 2 0) (fun r => { r with bulk := [] }) (((takesPkt 5 (fr0 { pk 5 (List.replicate 16 0) with first := true, last := true }) (upF)).get (by decide +kernel))), by decide +kernel⟩,
    ⟨2, 0, 0, op0, { newRx 0 0 none 0 with open_ := [op0] }, ((upF).setFa { upF.fa with rx := [(pathKey 2 0, { newRx 0 0 none 0 with open_ := [op0] })] }) , by decide +kernel⟩,
    ⟨2, 0, 1, { op0 with pkt := { noPkt with kind := 3, psn := 1 } }, { newRx 0 0 none 0 with open_ := [{ op0 with pkt := { noPkt with kind := 2 } }, { op0 with pkt := { noPkt with kind := 3, psn := 1 } }] }, ((upF).setFa { upF.fa with rx := [(pathKey 2 0, { newRx 0 0 none 0 with open_ := [{ op0 with pkt := { noPkt with kind := 2 } }, { op0 with pkt := { noPkt with kind := 3, psn := 1 } }] })] }) , by decide +kernel⟩⟩

theorem test_witness_window_checks_1 :
    (∃ (s : State) (job window right offset len align : Nat) (counter : Option Nat), s.fa.rwt.get? (rwtKey job window) = none) ∧
    (∃ (s : State) (job window right offset len align : Nat) (counter : Option Nat) (w : Rwt), s.fa.rwt.get? (rwtKey job window) = some w ∧ w.closing = true ∧ revoking s w = false) ∧
    (∃ (s : State) (job window right offset len align : Nat) (counter : Option Nat) (w : Rwt), s.fa.rwt.get? (rwtKey job window) = some w ∧ (w.closing = false ∨ revoking s w = true) ∧ s.rc.deviceState = 1 ∧ right ≠ 0) ∧
    (∃ (s : State) (job window right offset len align : Nat) (counter : Option Nat) (w : Rwt), s.fa.rwt.get? (rwtKey job window) = some w ∧ (w.closing = false ∨ revoking s w = true) ∧ (s.rc.deviceState ≠ 1 ∨ right = 0) ∧ (bitOf w.rights right = false ∨ 64 * w.lines < offset + len)) ∧
    (∃ (s : State) (job window right offset len align : Nat) (counter : Option Nat) (w : Rwt), s.fa.rwt.get? (rwtKey job window) = some w ∧ (w.closing = false ∨ revoking s w = true) ∧ (s.rc.deviceState ≠ 1 ∨ right = 0) ∧ bitOf w.rights right = true ∧ offset + len ≤ 64 * w.lines ∧ offset % align ≠ 0) ∧
    (∃ (s : State) (job window right offset len align : Nat) (counter : Option Nat) (w : Rwt), s.fa.rwt.get? (rwtKey job window) = some w ∧ (w.closing = false ∨ revoking s w = true) ∧ (s.rc.deviceState ≠ 1 ∨ right = 0) ∧ bitOf w.rights right = true ∧ offset + len ≤ 64 * w.lines ∧ offset % align = 0 ∧ (∃ c, counter = some c ∧ ¬(w.ctrBase ≤ c ∧ c < w.ctrBase + w.ctrCount))) := by
  refine ⟨⟨up, 5, 7, 0, 0, 8, 8, none, by decide +kernel⟩,
    ⟨((upF).setFa { upF.fa with rwt := [(rwtKey 5 7, { rwt0 with closing := true })] }) , 5, 7, 0, 0, 8, 8, none, { rwt0 with closing := true }, by decide +kernel⟩,
    ⟨(((((upF).setFa { upF.fa with rwt := [(rwtKey 5 7, rwt0)] }) )).setRc { (((upF).setFa { upF.fa with rwt := [(rwtKey 5 7, rwt0)] }) ).rc with deviceState := 1 }) , 5, 7, 1, 0, 8, 8, none, rwt0, by decide +kernel⟩,
    ⟨((upF).setFa { upF.fa with rwt := [(rwtKey 5 7, rwt0)] }) , 5, 7, 0, 57, 8, 8, none, rwt0, by decide +kernel⟩,
    ⟨((upF).setFa { upF.fa with rwt := [(rwtKey 5 7, rwt0)] }) , 5, 7, 0, 4, 8, 8, none, rwt0, by decide +kernel⟩,
    ⟨((upF).setFa { upF.fa with rwt := [(rwtKey 5 7, rwt0)] }) , 5, 7, 0, 56, 8, 8, some 65, rwt0, by decide +kernel, by decide +kernel, by decide +kernel, by decide +kernel, by decide +kernel, by decide +kernel, ⟨65, by decide +kernel⟩⟩⟩

theorem test_witness_window_checks_2 :
    (∃ (s : State) (job window right offset len align : Nat) (counter : Option Nat) (w : Rwt), s.fa.rwt.get? (rwtKey job window) = some w ∧ (s.rc.deviceState ≠ 1 ∨ right = 0) ∧ bitOf w.rights right = true ∧ offset + len ≤ 64 * w.lines ∧ offset % align = 0 ∧ (∀ c, counter = some c → w.ctrBase ≤ c ∧ c < w.ctrBase + w.ctrCount) ∧ revoking s w = true) ∧
    (∃ (s : State) (job window right offset len align : Nat) (counter : Option Nat) (w : Rwt), s.fa.rwt.get? (rwtKey job window) = some w ∧ (s.rc.deviceState ≠ 1 ∨ right = 0) ∧ bitOf w.rights right = true ∧ offset + len ≤ 64 * w.lines ∧ offset % align = 0 ∧ (∀ c, counter = some c → w.ctrBase ≤ c ∧ c < w.ctrBase + w.ctrCount) ∧ revoking s w = false ∧ w.closing = false) := by
  refine ⟨⟨(((((upF).setFa { upF.fa with rwt := [(rwtKey 5 7, rwt0)] }) )).setTr { (((upF).setFa { upF.fa with rwt := [(rwtKey 5 7, rwt0)] }) ).tr with withdrawals := [(1, ⟨0, 0x11, 1, 0, 0, [], [], 0, 1, false⟩)] }) , 5, 7, 0, 56, 8, 8, some 64, rwt0, by decide +kernel, by decide +kernel, by decide +kernel, by decide +kernel, by decide +kernel, (by intro c h; cases h; decide +kernel), by decide +kernel⟩,
    ⟨((upF).setFa { upF.fa with rwt := [(rwtKey 5 7, rwt0)] }) , 5, 7, 0, 56, 8, 8, some 64, rwt0, by decide +kernel, by decide +kernel, by decide +kernel, by decide +kernel, by decide +kernel, (by intro c h; cases h; decide +kernel), by decide +kernel, by decide +kernel⟩⟩

theorem test_witness_replies_and_transport_timers_1 :
    (∃ (f : RxFrame) (s s1 : State) (n : Nat) (r : RemoteReq), ctlTake 0x10 f s = (s1, true) ∧ s1.fa.reqs = [(n, r)] ∧ onWire r = true ∧ r.pkt.dst = f.pkt.src ∧ r.pkt.psn = f.pkt.ackPsn ∧ f.pkt.status ≠ Config.staleRoute ∧ (∀ a, r.origin ≠ .poll a)) ∧
    (∃ (f : RxFrame) (s s1 : State) (n : Nat) (r : RemoteReq), ctlTake 0x10 f s = (s1, true) ∧ s1.fa.reqs = [(n, r)] ∧ onWire r = true ∧ r.pkt.dst = f.pkt.src ∧ r.pkt.psn = f.pkt.ackPsn ∧ f.pkt.status = Config.staleRoute) ∧
    (∃ (f : RxFrame) (s s1 : State) (key n : Nat) (r : RemoteReq), ctlTake 0x11 f s = (s1, true) ∧ pathOf s1 f.pkt.src f.pkt.ackPsn = some key ∧ s1.fa.reqs = [(n, r)] ∧ onWire r = true ∧ pathKey r.pkt.dst r.pkt.tc = key ∧ appliedKind r.pkt.kind = true ∧ serialLe 32 r.pkt.psn f.pkt.ackPsn = true) ∧
    (∃ (f : RxFrame) (s s1 : State) (key : Nat), ctlTake 0x20 f s = (s1, true) ∧ pathOf s1 f.pkt.src f.pkt.ackPsn = some key) ∧
    (∃ (f : RxFrame) (s s1 : State) (key : Nat), ctlTake 0x21 f s = (s1, true) ∧ pathOf s1 f.pkt.src f.pkt.ackPsn = some key ∧ f.pkt.syn = false ∧ f.pkt.ceEcho = false) ∧
    (∃ (f : RxFrame) (s s1 : State) (key : Nat), ctlTake 0x21 f s = (s1, true) ∧ pathOf s1 f.pkt.src f.pkt.ackPsn = some key ∧ f.pkt.syn = true ∧ f.pkt.ceEcho = false) := by
  refine ⟨⟨fr0 (pk 0x10 []), ((upF).setFa { upF.fa with reqs := [(1, { rp0 with lastSent := 1 })] }) , (ctlTake 0x10 (fr0 (pk 0x10 [])) (((upF).setFa { upF.fa with reqs := [(1, { rp0 with lastSent := 1 })] }) )).1, 1, { rp0 with lastSent := 1 }, by decide +kernel, by decide +kernel, by decide +kernel, by decide +kernel, by decide +kernel, by decide +kernel, by intro a h; cases h⟩,
    ⟨fr0 { pk 0x10 [] with status := Config.staleRoute }, ((upF).setFa { upF.fa with reqs := [(1, { rp0 with lastSent := 1 })] }) , (ctlTake 0x10 (fr0 { pk 0x10 [] with status := Config.staleRoute }) (((upF).setFa { upF.fa with reqs := [(1, { rp0 with lastSent := 1 })] }) )).1, 1, { rp0 with lastSent := 1 }, by decide +kernel⟩,
    ⟨fr0 (pk 0x11 []), ((upF).setFa { upF.fa with reqs := [(1, { rp0 with lastSent := 1, pkt := { noPkt with dst := 2, kind := 2 } })], tx := [(pathKey 2 0, txp0)] }) , (ctlTake 0x11 (fr0 (pk 0x11 [])) (((upF).setFa { upF.fa with reqs := [(1, { rp0 with lastSent := 1, pkt := { noPkt with dst := 2, kind := 2 } })], tx := [(pathKey 2 0, txp0)] }) )).1, pathKey 2 0, 1, { rp0 with lastSent := 1, pkt := { noPkt with dst := 2, kind := 2 } }, by decide +kernel⟩,
    ⟨fr0 (pk 0x20 []), ((upF).setFa { upF.fa with tx := [(pathKey 2 0, txp0)] }) , (ctlTake 0x20 (fr0 (pk 0x20 [])) (((upF).setFa { upF.fa with tx := [(pathKey 2 0, txp0)] }) )).1, pathKey 2 0, by decide +kernel⟩,
    ⟨fr0 { pk 0x21 [] with syn := false }, ((upF).setFa { upF.fa with tx := [(pathKey 2 0, txp0)] }) , (ctlTake 0x21 (fr0 { pk 0x21 [] with syn := false }) (((upF).setFa { upF.fa with tx := [(pathKey 2 0, txp0)] }) )).1, pathKey 2 0, by decide +kernel⟩,
    ⟨fr0 (pk 0x21 []), ((upF).setFa { upF.fa with tx := [(pathKey 2 0, txp0)] }) , (ctlTake 0x21 (fr0 (pk 0x21 [])) (((upF).setFa { upF.fa with tx := [(pathKey 2 0, txp0)] }) )).1, pathKey 2 0, by decide +kernel⟩⟩

theorem test_witness_replies_and_transport_timers_2 :
    (∃ (f : RxFrame) (s s1 : State), ctlTake 0x20 f s = (s1, false)) ∧
    (∃ (n : Nat) (r : RemoteReq) (s : State), s.powered = true ∧ s.fa.reqs.get? n = some r ∧ r.acked = true ∧ r.pkt.kind ≠ 4 ∧ r.refused = false) ∧
    (∃ (n : Nat) (r : RemoteReq) (s : State), s.powered = true ∧ s.fa.reqs.get? n = some r ∧ r.pkt.kind = 4 ∧ r.acked = true ∧ r.refused = false ∧ s.pw.refclk = true ∧ r.lastSent + 1000 * Par.atomicReplyUs s ≤ r.firstSent + 1000000 * Par.atomicRetryMs s ∧ s.now ≤ r.lastSent) ∧
    (∃ (n : Nat) (r : RemoteReq) (s : State), s.powered = true ∧ s.fa.reqs.get? n = some r ∧ r.pkt.kind = 4 ∧ r.firstSent ≠ 0) ∧
    (∃ (n : Nat) (r : RemoteReq) (s : State), s.powered = true ∧ s.fa.reqs.get? n = some r ∧ r.pkt.kind = 3 ∧ r.after = [] ∧ r.acked = false ∧ r.bulk = false ∧ r.failed = none ∧ s.fa.noPath.contains n = false ∧ (s.fa.tx.any fun kv => kv.2.pkts.any fun q => q.req = n) = false) ∧
    (∃ (n st : Nat) (r : RemoteReq) (s : State), s.powered = true ∧ s.fa.reqs.get? n = some r ∧ r.pkt.kind = 3 ∧ r.after = [] ∧ r.acked = false ∧ r.bulk = false ∧ r.failed = some st) := by
  refine ⟨⟨fr0 (pk 1 []), upF, upF, by decide +kernel⟩,
    ⟨1, { rp0 with acked := true }, ((upF).setFa { upF.fa with reqs := [(1, { rp0 with acked := true })] }) , by decide +kernel⟩,
    ⟨1, { rp0 with acked := true, firstSent := 1, pkt := { noPkt with dst := 2, kind := 4 } }, ((upF).setFa { upF.fa with reqs := [(1, { rp0 with acked := true, firstSent := 1, pkt := { noPkt with dst := 2, kind := 4 } })] }) , by decide +kernel⟩,
    ⟨1, { rp0 with acked := true, firstSent := 1, pkt := { noPkt with dst := 2, kind := 4 } }, ((upF).setFa { upF.fa with reqs := [(1, { rp0 with acked := true, firstSent := 1, pkt := { noPkt with dst := 2, kind := 4 } })] }) , by decide +kernel⟩,
    ⟨1, { rp0 with pkt := { noPkt with dst := 2, kind := 3 } }, ((upF).setFa { upF.fa with reqs := [(1, { rp0 with pkt := { noPkt with dst := 2, kind := 3 } })] }) , by decide +kernel⟩,
    ⟨1, 3, { rp0 with failed := some 3, pkt := { noPkt with dst := 2, kind := 3 } }, ((upF).setFa { upF.fa with reqs := [(1, { rp0 with failed := some 3, pkt := { noPkt with dst := 2, kind := 3 } })] }) , by decide +kernel⟩⟩

theorem test_witness_replies_and_transport_timers_3 :
    (∃ (n : Nat) (r : RemoteReq) (s : State), s.powered = true ∧ s.fa.reqs.get? n = some r ∧ r.after ≠ []) ∧
    (∃ (node tc job : Nat) (o : OpenMsg) (s : State), s.powered = true ∧ s.fa.openMsgs.find? (isOpen node tc job) = some o) ∧
    (∃ (node tc : Nat) (p : TxPath) (s : State), s.powered = true ∧ tc ≠ 7 ∧ s.fa.tx.get? (pathKey node tc) = some p) ∧
    (∃ (node tc : Nat) (p : RxPath) (s : State), s.powered = true ∧ getRx s (pathKey node tc) = some p ∧ p.unacked ≠ 0) ∧
    (∃ (node tc at_ : Nat) (p : RxPath) (s : State), s.powered = true ∧ getRx s (pathKey node tc) = some p ∧ p.unreported = some at_) ∧
    (∃ (node tc : Nat) (p : RxPath) (s : State), s.powered = true ∧ getRx s (pathKey node tc) = some p ∧ p.open_ = []) := by
  refine ⟨⟨1, { rp0 with after := [2] }, ((upF).setFa { upF.fa with reqs := [(1, { rp0 with after := [2] })] }) , by decide +kernel⟩,
    ⟨2, 0, 5, ⟨2, 0, 5, [], 0, 0, [], 0, false⟩, ((upF).setFa { upF.fa with openMsgs := [⟨2, 0, 5, [], 0, 0, [], 0, false⟩] }) , by decide +kernel⟩,
    ⟨2, 0, txp0, ((upF).setFa { upF.fa with tx := [(pathKey 2 0, txp0)] }) , by decide +kernel⟩,
    ⟨2, 0, { newRx 0 0 none 0 with unacked := 1 }, ((upF).setFa { upF.fa with rx := [(pathKey 2 0, { newRx 0 0 none 0 with unacked := 1 })] }) , by decide +kernel⟩,
    ⟨2, 0, 5, { newRx 0 0 none 0 with unreported := some 5 }, ((upF).setFa { upF.fa with rx := [(pathKey 2 0, { newRx 0 0 none 0 with unreported := some 5 })] }) , by decide +kernel⟩,
    ⟨2, 0, newRx 0 0 none 0, ((upF).setFa { upF.fa with rx := [(pathKey 2 0, { newRx 0 0 none 0 with bulk := [] })] }) , by decide +kernel⟩⟩

theorem test_witness_replies_and_transport_timers_4 :
    (∃ (at_ : Nat) (s : State), s.powered = true ∧ s.fa.quietUntil = some at_) ∧
    (∃ (n at_ : Nat) (r : RemoteReq) (s : State), s.powered = true ∧ s.fa.reqs.get? n = some r ∧ r.staleFrom = some at_ ∧ r.refused = true) ∧
    (∃ (n at_ : Nat) (r : RemoteReq) (s : State), s.powered = true ∧ s.fa.reqs.get? n = some r ∧ r.staleFrom = some at_ ∧ r.refused = true ∧ r.staleGen = none ∧ s.pw.refclk = true ∧ s.now ≤ r.lastSent + 100000 ∧ r.lastSent + 100000 < at_ + 1000000 * Par.staleHoldMs s) ∧
    (∃ (a : Nat) (p : Prepared) (s : State), s.powered = true ∧ s.fa.prepared.get? a = some p ∧ p.word = none ∧ ownState (getWord s a) = 3) := by
  refine ⟨⟨5, ((upF).setFa { upF.fa with quietUntil := some 5 }) , by decide +kernel⟩,
    ⟨1, 5, { rp0 with staleFrom := some 5, refused := true }, ((upF).setFa { upF.fa with reqs := [(1, { rp0 with staleFrom := some 5, refused := true })] }) , by decide +kernel⟩,
    ⟨1, 5, { rp0 with staleFrom := some 5, refused := true }, ((upF).setFa { upF.fa with reqs := [(1, { rp0 with staleFrom := some 5, refused := true })] }) , by decide +kernel⟩,
    ⟨64, ⟨0, 0, 2, 1, 5, 7, 0, none⟩, (((upF).setFa { upF.fa with prepared := [(64, ⟨0, 0, 2, 1, 5, 7, 0, none⟩)] }) ).setMem [(68, 3)], by decide +kernel⟩⟩

def w_windows_and_counters_0_1 : State := counted (item 0x18 [0, 0, 1, 5 + 2 ^ 20 * 7 + 2 ^ 36 * 15, 64 + 2 ^ 18])

def w_windows_and_counters_0_2 : Item := ((itemReady (1) 0x18 (w_windows_and_counters_0_1)).get (by decide +kernel))

def w_windows_and_counters_0_4 : State := ((accVal (windowWalk (1) (w_windows_and_counters_0_2).tenant (wordAt (w_windows_and_counters_0_2).words 1) (64 * wordAt (w_windows_and_counters_0_2).words 2) (wordAt (w_windows_and_counters_0_2).words 2 / 0x8000 + 3) (w_windows_and_counters_0_2).prog ((w_windows_and_counters_0_2).regs.getD 0 0) (setItem (1) (w_windows_and_counters_0_2) (w_windows_and_counters_0_1)))).get (by decide +kernel)).2

def w_windows_and_counters_1_1 : State := (((counted (item 0x18 [0, 0, 1, 5 + 2 ^ 20 * 7 + 2 ^ 36 * 15, 64 + 2 ^ 18]))).setFa { (counted (item 0x18 [0, 0, 1, 5 + 2 ^ 20 * 7 + 2 ^ 36 * 15, 64 + 2 ^ 18])).fa with rwt := [(rwtKey 5 7, rwt0)] }) 

def w_windows_and_counters_1_2 : Item := ((itemReady (1) 0x18 (w_windows_and_counters_1_1)).get (by decide +kernel))

def w_windows_and_counters_1_4 : State := ((accVal (windowWalk (1) (w_windows_and_counters_1_2).tenant (wordAt (w_windows_and_counters_1_2).words 1) (64 * wordAt (w_windows_and_counters_1_2).words 2) (wordAt (w_windows_and_counters_1_2).words 2 / 0x8000 + 3) (w_windows_and_counters_1_2).prog ((w_windows_and_counters_1_2).regs.getD 0 0) (setItem (1) (w_windows_and_counters_1_2) (w_windows_and_counters_1_1)))).get (by decide +kernel)).2

theorem test_witness_windows_and_counters_1 :
    (∃ (n : Nat) (s : State) (i : Item) (base : Nat) (s2 : State), itemReady n 0x18 s = some i ∧ widthsOk i.words [56, 44, 40, 37] = true ∧ wordAt i.words 1 % 64 = 0 ∧ wordAt i.words 2 ≠ 0 ∧ wBits i.words 4 36 18 ≤ 262144 ∧ wordAt i.words 1 + 64 * wordAt i.words 2 ≤ 2 ^ 56 ∧ ownsCounters (setItem n i s) i.tenant (wBits i.words 4 17 0) (wBits i.words 4 36 18) = true ∧ windowWalk n i.tenant (wordAt i.words 1) (64 * wordAt i.words 2) (wordAt i.words 2 / 0x8000 + 3) i.prog (i.regs.getD 0 0) (setItem n i s) = .ok base s2 ∧ s2.fa.rwt = [] ∧ 0 < Par.windowsPerTenant s2) ∧
    (∃ (n : Nat) (s : State) (i : Item) (base : Nat) (s2 : State), itemReady n 0x18 s = some i ∧ widthsOk i.words [56, 44, 40, 37] = true ∧ wordAt i.words 1 % 64 = 0 ∧ wordAt i.words 2 ≠ 0 ∧ wBits i.words 4 36 18 ≤ 262144 ∧ wordAt i.words 1 + 64 * wordAt i.words 2 ≤ 2 ^ 56 ∧ ownsCounters (setItem n i s) i.tenant (wBits i.words 4 17 0) (wBits i.words 4 36 18) = true ∧ windowWalk n i.tenant (wordAt i.words 1) (64 * wordAt i.words 2) (wordAt i.words 2 / 0x8000 + 3) i.prog (i.regs.getD 0 0) (setItem n i s) = .ok base s2 ∧ s2.fa.rwt.has (rwtKey (wBits i.words 3 19 0) (wBits i.words 3 35 20)) = true) := by
  refine ⟨⟨1, w_windows_and_counters_0_1, w_windows_and_counters_0_2, ((accVal (windowWalk (1) (w_windows_and_counters_0_2).tenant (wordAt (w_windows_and_counters_0_2).words 1) (64 * wordAt (w_windows_and_counters_0_2).words 2) (wordAt (w_windows_and_counters_0_2).words 2 / 0x8000 + 3) (w_windows_and_counters_0_2).prog ((w_windows_and_counters_0_2).regs.getD 0 0) (setItem (1) (w_windows_and_counters_0_2) (w_windows_and_counters_0_1)))).get (by decide +kernel)).1, w_windows_and_counters_0_4, by decide +kernel, by decide +kernel, by decide +kernel, by decide +kernel, by decide +kernel, by decide +kernel, by decide +kernel, by delta w_windows_and_counters_0_4; first | exact acc_val (by decide +kernel) (by decide +kernel) | exact acc_get _ | exact bad_of (by decide +kernel), by decide +kernel, by decide +kernel⟩,
    ⟨1, w_windows_and_counters_1_1, w_windows_and_counters_1_2, ((accVal (windowWalk (1) (w_windows_and_counters_1_2).tenant (wordAt (w_windows_and_counters_1_2).words 1) (64 * wordAt (w_windows_and_counters_1_2).words 2) (wordAt (w_windows_and_counters_1_2).words 2 / 0x8000 + 3) (w_windows_and_counters_1_2).prog ((w_windows_and_counters_1_2).regs.getD 0 0) (setItem (1) (w_windows_and_counters_1_2) (w_windows_and_counters_1_1)))).get (by decide +kernel)).1, w_windows_and_counters_1_4, by decide +kernel, by decide +kernel, by decide +kernel, by decide +kernel, by decide +kernel, by decide +kernel, by decide +kernel, by delta w_windows_and_counters_1_4; first | exact acc_val (by decide +kernel) (by decide +kernel) | exact acc_get _ | exact bad_of (by decide +kernel), by decide +kernel⟩⟩

theorem test_witness_windows_and_counters_2 :
    (∃ (n : Nat) (s : State) (i : Item) (w : Rwt), itemReady n 0x19 s = some i ∧ wordAt i.words 1 = 0 ∧ wordAt i.words 2 = 0 ∧ widthsOk i.words [0, 0, 36] = true ∧ s.fa.rwt.get? (rwtKey (wBits i.words 3 19 0) (wBits i.words 3 35 20)) = some w ∧ w.tenant ≠ i.tenant) ∧
    (∃ (n : Nat) (s : State) (i : Item) (w : Rwt), itemReady n 0x19 s = some i ∧ wordAt i.words 1 = 0 ∧ wordAt i.words 2 = 0 ∧ widthsOk i.words [0, 0, 36] = true ∧ s.fa.rwt.get? (rwtKey (wBits i.words 3 19 0) (wBits i.words 3 35 20)) = some w ∧ w.tenant = i.tenant ∧ s.tr.withdrawals = []) := by
  refine ⟨⟨1, (((item 0x19 [0, 0, 0, 5 + 2 ^ 20 * 7])).setFa { (item 0x19 [0, 0, 0, 5 + 2 ^ 20 * 7]).fa with rwt := [(rwtKey 5 7, { rwt0 with tenant := 2 })] }) , ((itemReady (1) 0x19 ((((item 0x19 [0, 0, 0, 5 + 2 ^ 20 * 7])).setFa { (item 0x19 [0, 0, 0, 5 + 2 ^ 20 * 7]).fa with rwt := [(rwtKey 5 7, { rwt0 with tenant := 2 })] }) )).get (by decide +kernel)), { rwt0 with tenant := 2 }, by decide +kernel⟩,
    ⟨1, (((item 0x19 [0, 0, 0, 5 + 2 ^ 20 * 7])).setFa { (item 0x19 [0, 0, 0, 5 + 2 ^ 20 * 7]).fa with rwt := [(rwtKey 5 7, rwt0)] }) , ((itemReady (1) 0x19 ((((item 0x19 [0, 0, 0, 5 + 2 ^ 20 * 7])).setFa { (item 0x19 [0, 0, 0, 5 + 2 ^ 20 * 7]).fa with rwt := [(rwtKey 5 7, rwt0)] }) )).get (by decide +kernel)), rwt0, by decide +kernel⟩⟩

theorem test_witness_windows_and_counters_3 :
    (∃ (key : Nat) (s : State) (w : Rwt), s.fa.rwt.get? key = some w ∧ w.closing = true ∧ windowBusy s key w = false) ∧
    (∃ (n : Nat) (s : State) (i : Item) (first : Nat), itemReady n 0x1B s = some i ∧ widthsOk i.words [19] = true ∧ wordAt i.words 1 ≠ 0 ∧ wordAt i.words 1 ≤ 262144 ∧ freeRun (wordAt i.words 1) s.fa.ctrOwner 0 = some first ∧ s.fa.ctrOwner.count (fun _ t => t = i.tenant) + wordAt i.words 1 ≤ Par.countersPerTenant s) := by
  refine ⟨⟨rwtKey 5 7, ((upF).setFa { upF.fa with rwt := [(rwtKey 5 7, { rwt0 with closing := true })] }) , { rwt0 with closing := true }, by decide +kernel⟩,
    ⟨1, counted (item 0x1B [0, 1]), ((itemReady (1) 0x1B (counted (item 0x1B [0, 1]))).get (by decide +kernel)), 0, by decide +kernel⟩⟩

theorem test_witness_windows_and_counters_4 :
    (∃ (n : Nat) (s : State) (i : Item), itemReady n 0x1B s = some i ∧ widthsOk i.words [19] = true ∧ wordAt i.words 1 ≠ 0 ∧ wordAt i.words 1 ≤ 262144 ∧ freeRun (wordAt i.words 1) s.fa.ctrOwner 0 = none) ∧
    (∃ (n : Nat) (s : State) (i : Item), itemReady n 0x1C s = some i ∧ widthsOk i.words [18, 19] = true ∧ ownsCounters s i.tenant (wordAt i.words 1) (wordAt i.words 2) = true ∧ (s.fa.rwt.any fun kv => kv.2.ctrBase < wordAt i.words 1 + wordAt i.words 2 && wordAt i.words 1 < kv.2.ctrBase + kv.2.ctrCount) = false) := by
  refine ⟨⟨1, counted (item 0x1B [0, 262144]), ((itemReady (1) 0x1B (counted (item 0x1B [0, 262144]))).get (by decide +kernel)), by decide +kernel⟩,
    ⟨1, counted (item 0x1C [0, 64, 1]), ((itemReady (1) 0x1C (counted (item 0x1C [0, 64, 1]))).get (by decide +kernel)), by decide +kernel⟩⟩

theorem test_witness_windows_and_counters_5 :
    (∃ (n : Nat) (s : State) (i : Item), itemReady n 0x1C s = some i ∧ widthsOk i.words [18, 19] = true ∧ ownsCounters s i.tenant (wordAt i.words 1) (wordAt i.words 2) = true ∧ (s.fa.rwt.any fun kv => kv.2.ctrBase < wordAt i.words 1 + wordAt i.words 2 && wordAt i.words 1 < kv.2.ctrBase + kv.2.ctrCount) = true) ∧
    (∃ (n : Nat) (s : State) (i : Item), itemReady n 0x1D s = some i ∧ widthsOk i.words [18, 64] = true ∧ ownsCounters s i.tenant (wordAt i.words 1) 1 = true) := by
  refine ⟨⟨1, (((counted (item 0x1C [0, 64, 1]))).setFa { (counted (item 0x1C [0, 64, 1])).fa with rwt := [(rwtKey 5 7, rwt0)] }) , ((itemReady (1) 0x1C ((((counted (item 0x1C [0, 64, 1]))).setFa { (counted (item 0x1C [0, 64, 1])).fa with rwt := [(rwtKey 5 7, rwt0)] }) )).get (by decide +kernel)), by decide +kernel⟩,
    ⟨1, counted (item 0x1D [0, 64, 9]), ((itemReady (1) 0x1D (counted (item 0x1D [0, 64, 9]))).get (by decide +kernel)), by decide +kernel⟩⟩

theorem test_witness_windows_and_counters_6 :
(∃ (n : Nat) (s : State) (i : Item), itemReady n 0x1D s = some i ∧ widthsOk i.words [18, 64] = true ∧ ownsCounters s i.tenant (wordAt i.words 1) 1 = false) :=
  ⟨1, item 0x1D [0, 64, 9], ((itemReady (1) 0x1D (item 0x1D [0, 64, 9])).get (by decide +kernel)), by decide +kernel⟩

def w_handoffs_and_grace_timers_0_1 : State := item 0x1E [0, 0, 2 + 2 ^ 16 * 7, 0]

def w_handoffs_and_grace_timers_0_2 : Item := ((itemReady (1) 0x1E (w_handoffs_and_grace_timers_0_1)).get (by decide +kernel))

def w_handoffs_and_grace_timers_0_6 : State := ((accVal (tryLook (1) (w_handoffs_and_grace_timers_0_2).tenant (wordAt (w_handoffs_and_grace_timers_0_2).words 1) 32 true (setItem (1) (w_handoffs_and_grace_timers_0_2) (w_handoffs_and_grace_timers_0_1)))).get (by decide +kernel)).2

def w_handoffs_and_grace_timers_0_7 : State := (writeOk 16 8 1 w_handoffs_and_grace_timers_0_6).1

def w_handoffs_and_grace_timers_1_1 : State := (item 0x1E [0, 0, 2 + 2 ^ 16 * 7, 0]).setMem [(20, 1)]

def w_handoffs_and_grace_timers_1_2 : Item := ((itemReady (1) 0x1E (w_handoffs_and_grace_timers_1_1)).get (by decide +kernel))

def w_handoffs_and_grace_timers_1_6 : State := ((accVal (tryLook (1) (w_handoffs_and_grace_timers_1_2).tenant (wordAt (w_handoffs_and_grace_timers_1_2).words 1) 32 true (setItem (1) (w_handoffs_and_grace_timers_1_2) (w_handoffs_and_grace_timers_1_1)))).get (by decide +kernel)).2

def w_handoffs_and_grace_timers_1_7 : State := (writeOk 16 8 1 w_handoffs_and_grace_timers_1_6).1

theorem test_witness_handoffs_and_grace_timers_1 :
    (∃ (n : Nat) (s : State) (i : Item) (job a k : Nat) (s2 s3 : State), itemReady n 0x1E s = some i ∧ widthsOk i.words [56, 32, 50] = true ∧ wordAt i.words 1 % 8 = 0 ∧ wordAt i.words 3 % 8 = 0 ∧ jobOf (setItem n i s) i.tenant = some job ∧ tryLook n i.tenant (wordAt i.words 1) 32 true (setItem n i s) = .ok [(a, k, 0)] s2 ∧ writeOk (a + 16) 8 i.tenant s2 = (s3, .ok) ∧ ownState (getWord s3 (a + 16)) ≠ 1) ∧
    (∃ (n : Nat) (s : State) (i : Item) (job a k : Nat) (s2 s3 : State), itemReady n 0x1E s = some i ∧ widthsOk i.words [56, 32, 50] = true ∧ wordAt i.words 1 % 8 = 0 ∧ wordAt i.words 3 % 8 = 0 ∧ jobOf (setItem n i s) i.tenant = some job ∧ tryLook n i.tenant (wordAt i.words 1) 32 true (setItem n i s) = .ok [(a, k, 0)] s2 ∧ writeOk (a + 16) 8 i.tenant s2 = (s3, .ok) ∧ ownState (getWord s3 (a + 16)) = 1) ∧
    (∃ (m : Nat) (s s2 : State) (h : Handoff) (w : Nat), s.powered = true ∧ s.fa.handoffs.get? m = some h ∧ h.prepared = some Config.ok ∧ s.now < h.started + 10000000 ∧ casWord (h.record + 16) h.tenant (ownWord h.epoch 2 h.node) (ownWord ((h.epoch + 1) % 2 ^ 32) 4 h.node) s = some (true, w, s2)) ∧
    (∃ (m : Nat) (s s2 : State) (h : Handoff) (w : Nat), s.powered = true ∧ s.fa.handoffs.get? m = some h ∧ h.prepared = some Config.ok ∧ s.now < h.started + 10000000 ∧ casWord (h.record + 16) h.tenant (ownWord h.epoch 2 h.node) (ownWord ((h.epoch + 1) % 2 ^ 32) 4 h.node) s = some (false, w, s2)) ∧
    (∃ (m : Nat) (s s2 : State) (h : Handoff) (w st : Nat), s.powered = true ∧ s.fa.handoffs.get? m = some h ∧ h.prepared = some st ∧ st ≠ Config.ok ∧ casWord (h.record + 16) h.tenant (ownWord h.epoch 2 h.node) (ownWord ((h.epoch + 1) % 2 ^ 32) 1 s.fa.nodeId) s = some (true, w, s2)) ∧
    (∃ (node job seq : Nat) (s : State) (e : LedEnt), s.powered = true ∧ (s.fa.ledger.find? fun e => e.node = node && e.job = job && e.seq = seq) = some e) := by
  refine ⟨⟨1, w_handoffs_and_grace_timers_0_1, w_handoffs_and_grace_timers_0_2, 5, 0, 32, w_handoffs_and_grace_timers_0_6, w_handoffs_and_grace_timers_0_7, by decide +kernel, by decide +kernel, by decide +kernel, by decide +kernel, by decide +kernel, by delta w_handoffs_and_grace_timers_0_6; first | exact acc_val (by decide +kernel) (by decide +kernel) | exact acc_get _ | exact bad_of (by decide +kernel), by first | exact ok_get _ | exact acc_val (by decide +kernel) (by decide +kernel) | exact acc_get _ | exact err_of (by decide +kernel) | exact bad_of (by decide +kernel) | rfl, by decide +kernel⟩,
    ⟨1, w_handoffs_and_grace_timers_1_1, w_handoffs_and_grace_timers_1_2, 5, 0, 32, w_handoffs_and_grace_timers_1_6, w_handoffs_and_grace_timers_1_7, by decide +kernel, by decide +kernel, by decide +kernel, by decide +kernel, by decide +kernel, by delta w_handoffs_and_grace_timers_1_6; first | exact acc_val (by decide +kernel) (by decide +kernel) | exact acc_get _ | exact bad_of (by decide +kernel), by first | exact ok_get _ | exact acc_val (by decide +kernel) (by decide +kernel) | exact acc_get _ | exact err_of (by decide +kernel) | exact bad_of (by decide +kernel) | rfl, by decide +kernel⟩,
    ⟨1, (((upF).setFa { upF.fa with handoffs := [(1, ho0)] }) ).setMem [(20, 2), (22, 2)], ((casWord ((ho0).record + 16) (ho0).tenant (ownWord (ho0).epoch 2 (ho0).node) (ownWord (((ho0).epoch + 1) % 2 ^ 32) 4 (ho0).node) ((((upF).setFa { upF.fa with handoffs := [(1, ho0)] }) ).setMem [(20, 2), (22, 2)])).get (by decide +kernel)).2.2, ho0, ((casWord ((ho0).record + 16) (ho0).tenant (ownWord (ho0).epoch 2 (ho0).node) (ownWord (((ho0).epoch + 1) % 2 ^ 32) 4 (ho0).node) ((((upF).setFa { upF.fa with handoffs := [(1, ho0)] }) ).setMem [(20, 2), (22, 2)])).get (by decide +kernel)).2.1, by decide +kernel⟩,
    ⟨1, ((upF).setFa { upF.fa with handoffs := [(1, ho0)] }) , ((casWord ((ho0).record + 16) (ho0).tenant (ownWord (ho0).epoch 2 (ho0).node) (ownWord (((ho0).epoch + 1) % 2 ^ 32) 4 (ho0).node) (((upF).setFa { upF.fa with handoffs := [(1, ho0)] }) )).get (by decide +kernel)).2.2, ho0, ((casWord ((ho0).record + 16) (ho0).tenant (ownWord (ho0).epoch 2 (ho0).node) (ownWord (((ho0).epoch + 1) % 2 ^ 32) 4 (ho0).node) (((upF).setFa { upF.fa with handoffs := [(1, ho0)] }) )).get (by decide +kernel)).2.1, by decide +kernel⟩,
    ⟨1, (((upF).setFa { upF.fa with handoffs := [(1, { ho0 with prepared := some 3 })] }) ).setMem [(20, 2), (22, 2)], ((casWord (({ ho0 with prepared := some 3 } : Handoff).record + 16) ({ ho0 with prepared := some 3 } : Handoff).tenant (ownWord ({ ho0 with prepared := some 3 } : Handoff).epoch 2 ({ ho0 with prepared := some 3 } : Handoff).node) (ownWord ((({ ho0 with prepared := some 3 } : Handoff).epoch + 1) % 2 ^ 32) 1 ((((upF).setFa { upF.fa with handoffs := [(1, { ho0 with prepared := some 3 })] }) ).setMem [(20, 2), (22, 2)]).fa.nodeId) ((((upF).setFa { upF.fa with handoffs := [(1, { ho0 with prepared := some 3 })] }) ).setMem [(20, 2), (22, 2)])).get (by decide +kernel)).2.2, { ho0 with prepared := some 3 }, ((casWord (({ ho0 with prepared := some 3 } : Handoff).record + 16) ({ ho0 with prepared := some 3 } : Handoff).tenant (ownWord ({ ho0 with prepared := some 3 } : Handoff).epoch 2 ({ ho0 with prepared := some 3 } : Handoff).node) (ownWord ((({ ho0 with prepared := some 3 } : Handoff).epoch + 1) % 2 ^ 32) 1 ((((upF).setFa { upF.fa with handoffs := [(1, { ho0 with prepared := some 3 })] }) ).setMem [(20, 2), (22, 2)]).fa.nodeId) ((((upF).setFa { upF.fa with handoffs := [(1, { ho0 with prepared := some 3 })] }) ).setMem [(20, 2), (22, 2)])).get (by decide +kernel)).2.1, 3, by decide +kernel⟩,
    ⟨2, 5, 7, ((upF).setFa { upF.fa with ledger := [⟨2, 5, 7, 0, 0, 0, 0⟩] }) , ⟨2, 5, 7, 0, 0, 0, 0⟩, by decide +kernel⟩⟩

theorem test_witness_handoffs_and_grace_timers_2 :
    (∃ (node job at_ : Nat) (s : State), s.powered = true ∧ ((s.fa.sources.get? (srcKey node job)).bind fun x => x.emptySince) = some at_) ∧
    (∃ (at_ : Nat) (s : State), s.powered = true ∧ s.fa.ledgerHold = some at_) ∧
    (∃ (g : Nat) (s : State), s.powered = true ∧ s.fa.prevGen = some g) ∧
    (∃ (tenant : Nat) (s : State), s.powered = true ∧ s.fr.reencrypt.has tenant = true) ∧
    (∃ (tenant : Nat) (s : State), s.fr.reencrypt.has tenant = false) := by
  refine ⟨⟨2, 5, 5, ((upF).setFa { upF.fa with sources := [(srcKey 2 5, ⟨0, some 5⟩)] }) , by decide +kernel⟩,
    ⟨5, ((upF).setFa { upF.fa with ledgerHold := some 5 }) , by decide +kernel⟩,
    ⟨5, ((upF).setFa { upF.fa with prevGen := some 5 }) , by decide +kernel⟩,
    ⟨1, ((up).setFr { up.fr with reencrypt := [(1, [])] }) , by decide +kernel⟩,
    ⟨1, up, by decide +kernel⟩⟩

theorem test_witness_translations_are_filled_and_withdrawn_1 :
    (∃ (port : Nat) (e : Quad) (s t : State), takesCmd port 1 e s = some t ∧ bitOf e.w0.toNat 20 = false ∧ e.w1.toNat % 0x200000 = 0 ∧ e.w2.toNat < t.ti.rangePages ∧ grantedTo t (cmdTenant e) e.w2.toNat = true) ∧
    (∃ (port : Nat) (e : Quad) (s t : State), takesCmd port 1 e s = some t ∧ e.w1.toNat % 0x200000 ≠ 0) ∧
    (∃ (port : Nat) (e : Quad) (s t : State), takesCmd port 1 e s = some t ∧ bitOf e.w0.toNat 20 = false ∧ e.w1.toNat % 0x200000 = 0 ∧ e.w2.toNat < t.ti.rangePages ∧ grantedTo t (cmdTenant e) e.w2.toNat = false ∧ t.tr.misses = []) ∧
    (∃ (port : Nat) (e : Quad) (s t : State) (m : Miss), takesCmd port 2 e s = some t ∧ t.tr.misses.get? (cmdTag e) = some m ∧ m.tenant = cmdTenant e) ∧
    (∃ (port : Nat) (e : Quad) (s t : State), takesCmd port 2 e s = some t ∧ t.tr.misses.get? (cmdTag e) = none) ∧
    (∃ (port : Nat) (e : Quad) (s t : State), takesCmd port 3 e s = some t ∧ e.w3.toNat ≠ 0 ∧ e.w1.toNat % 0x200000 = 0) := by
  refine ⟨⟨0, quad (1 + 2 ^ 8 + 2 ^ 21) 0 7 0, upC, ((takesCmd (0) 1 (quad (1 + 2 ^ 8 + 2 ^ 21) 0 7 0) (upC)).get (by decide +kernel)), by decide +kernel⟩,
    ⟨0, quad (1 + 2 ^ 8 + 2 ^ 21) 1 7 0, upC, ((takesCmd (0) 1 (quad (1 + 2 ^ 8 + 2 ^ 21) 1 7 0) (upC)).get (by decide +kernel)), by decide +kernel⟩,
    ⟨0, quad (1 + 2 ^ 8 + 2 ^ 21) 0 8 0, upC, ((takesCmd (0) 1 (quad (1 + 2 ^ 8 + 2 ^ 21) 0 8 0) (upC)).get (by decide +kernel)), by decide +kernel⟩,
    ⟨0, quad (2 + 2 ^ 8 + 2 ^ 32 * 5) 0 0 0, ((upC).setTr { upC.tr with misses := [(5, ⟨1, 0, false, 0, none, []⟩)] }) , ((takesCmd (0) 2 (quad (2 + 2 ^ 8 + 2 ^ 32 * 5) 0 0 0) (((upC).setTr { upC.tr with misses := [(5, ⟨1, 0, false, 0, none, []⟩)] }) )).get (by decide +kernel)), ⟨1, 0, false, 0, none, []⟩, by decide +kernel⟩,
    ⟨0, quad (2 + 2 ^ 8 + 2 ^ 32 * 5) 0 0 0, upC, ((takesCmd (0) 2 (quad (2 + 2 ^ 8 + 2 ^ 32 * 5) 0 0 0) (upC)).get (by decide +kernel)), by decide +kernel⟩,
    ⟨0, quad (3 + 2 ^ 8) 0 0 1, upC, ((takesCmd (0) 3 (quad (3 + 2 ^ 8) 0 0 1) (upC)).get (by decide +kernel)), by decide +kernel⟩⟩

theorem test_witness_translations_are_filled_and_withdrawn_2 :
    (∃ (port : Nat) (e : Quad) (s t : State), takesCmd port 4 e s = some t) ∧
    (∃ (ent : Nat) (s : State) (e : PtcEnt), s.powered = true ∧ s.tr.ptc.get? ent = some e ∧ e.draining = true ∧ e.inflight = 0) ∧
    (∃ (n : Nat) (s : State) (w : Withdrawal), s.powered = true ∧ s.tr.withdrawals.get? n = some w ∧ w.op ≠ 0xA5 ∧ w.windows = []) ∧
    (∃ (tag : Nat) (s : State) (m : Miss) (at_ : Nat), s.powered = true ∧ s.tr.misses.get? tag = some m ∧ m.writtenAt = some at_) ∧
    (∃ (port : Nat) (e : Quad) (s : State), mmioUp s port = false) := by
  refine ⟨⟨0, quad (4 + 2 ^ 8) 0 0 0, upC, ((takesCmd (0) 4 (quad (4 + 2 ^ 8) 0 0 0) (upC)).get (by decide +kernel)), by decide +kernel⟩,
    ⟨1, ((upT).setTr { upT.tr with ptc := [(1, { pt0 with draining := true })] }) , { pt0 with draining := true }, by decide +kernel⟩,
    ⟨1, ((upT).setTr { upT.tr with withdrawals := [(1, ⟨0, 3, 1, 0, 0, [], [], 0, 0, false⟩)] }) , ⟨0, 3, 1, 0, 0, [], [], 0, 0, false⟩, by decide +kernel⟩,
    ⟨5, ((upT).setTr { upT.tr with misses := [(5, ⟨1, 0, false, 0, some 5, []⟩)] }) , ⟨1, 0, false, 0, some 5, []⟩, 5, by decide +kernel⟩,
    ⟨0, quad 1 0 0 0, State.reset, by decide +kernel⟩⟩

theorem test_witness_tenants_ats_and_quotas_1 :
    (∃ (port : Nat) (e : Quad) (s t : State), takesCmd port 0x10 e s = some t ∧ 0 < e.w3.toNat ∧ e.w2.toNat + e.w3.toNat ≤ t.ti.rangePages ∧ t.tr.grants.length < 65536 ∧ t.tr.grants.count (fun _ g => g.tenant = cmdTenant e) < Par.grantsPerTenant t) ∧
    (∃ (port : Nat) (e : Quad) (s t : State), takesCmd port 0x10 e s = some t ∧ e.w3.toNat = 0) ∧
    (∃ (port : Nat) (e : Quad) (s t : State), takesCmd port 0x11 e s = some t ∧ 0 < e.w3.toNat ∧ t.ti.moves = []) ∧
    (∃ (port : Nat) (e : Quad) (s t : State), takesCmd port 0x20 e s = some t ∧ standby t = false ∧ t.bt.debugUnlocked = false ∧ t.tr.tenants.has (cmdTenant e) = false ∧ bitsOf e.w2.toNat 31 16 ≤ 1000) ∧
    (∃ (port : Nat) (e : Quad) (s t : State), takesCmd port 0x20 e s = some t ∧ standby t = false ∧ t.bt.debugUnlocked = false ∧ t.tr.tenants.has (cmdTenant e) = true) ∧
    (∃ (port : Nat) (e : Quad) (s t : State) (x : Tenant), takesCmd port 0x21 e s = some t ∧ t.tr.tenants.get? (cmdTenant e) = some x ∧ x.state = 1 ∧ bitsOf e.w2.toNat 31 16 ≤ 1000) := by
  refine ⟨⟨0, quad (0x10 + 2 ^ 8) 0 63 1, upC, ((takesCmd (0) 0x10 (quad (0x10 + 2 ^ 8) 0 63 1) (upC)).get (by decide +kernel)), by decide +kernel⟩,
    ⟨0, quad (0x10 + 2 ^ 8) 0 63 0, upC, ((takesCmd (0) 0x10 (quad (0x10 + 2 ^ 8) 0 63 0) (upC)).get (by decide +kernel)), by decide +kernel⟩,
    ⟨0, quad (0x11 + 2 ^ 8) 0 63 1, upC, ((takesCmd (0) 0x11 (quad (0x11 + 2 ^ 8) 0 63 1) (upC)).get (by decide +kernel)), by decide +kernel⟩,
    ⟨0, quad (0x20 + 2 ^ 8 * 2) 0 (2 ^ 16 * 1000) 0, upC, ((takesCmd (0) 0x20 (quad (0x20 + 2 ^ 8 * 2) 0 (2 ^ 16 * 1000) 0) (upC)).get (by decide +kernel)), by decide +kernel⟩,
    ⟨0, quad (0x20 + 2 ^ 8) 0 0 0, upC, ((takesCmd (0) 0x20 (quad (0x20 + 2 ^ 8) 0 0 0) (upC)).get (by decide +kernel)), by decide +kernel⟩,
    ⟨0, quad (0x21 + 2 ^ 8) 0 (2 ^ 16 * 1000) 0, upC, ((takesCmd (0) 0x21 (quad (0x21 + 2 ^ 8) 0 (2 ^ 16 * 1000) 0) (upC)).get (by decide +kernel)), ⟨1, 0, 1000, 1, 0, false⟩, by decide +kernel⟩⟩

theorem test_witness_tenants_ats_and_quotas_2 :
    (∃ (port : Nat) (e : Quad) (s t : State), takesCmd port 0x21 e s = some t ∧ t.tr.tenants.get? (cmdTenant e) = none) ∧
    (∃ (port : Nat) (e : Quad) (s t : State) (x : Tenant), takesCmd port 0x22 e s = some t ∧ t.tr.tenants.get? (cmdTenant e) = some x ∧ x.state = 1 ∧ itemsOf t (cmdTenant e) = [] ∧ t.fa.rwt = [] ∧ t.fa.ctrOwner = [] ∧ t.fa.counters = [] ∧ t.co.images = []) ∧
    (∃ (port : Nat) (e : Quad) (s t : State), takesCmd port 0x22 e s = some t ∧ t.tr.tenants.get? (cmdTenant e) = none) ∧
    (∃ (tag addr : Nat) (r w : Bool) (s : State) (q : AtsReq), s.tr.ats.get? tag = some q ∧ mmioUp s q.port = true ∧ q.refused = false ∧ (if q.write then w else r) = true ∧ (getAtc s q.port).length < 32768) ∧
    (∃ (tag addr : Nat) (r w : Bool) (s : State) (q : AtsReq), s.tr.ats.get? tag = some q ∧ mmioUp s q.port = true ∧ q.refused = false ∧ (if q.write then w else r) = false) ∧
    (∃ (tag at_ : Nat) (s : State) (q : AtsReq), s.tr.ats.get? tag = some q ∧ mmioUp s q.port = true ∧ q.pri = some at_) := by
  refine ⟨⟨0, quad (0x21 + 2 ^ 8 * 2) 0 0 0, upC, ((takesCmd (0) 0x21 (quad (0x21 + 2 ^ 8 * 2) 0 0 0) (upC)).get (by decide +kernel)), by decide +kernel⟩,
    ⟨0, quad (0x22 + 2 ^ 8) 0 0 0, upC, ((takesCmd (0) 0x22 (quad (0x22 + 2 ^ 8) 0 0 0) (upC)).get (by decide +kernel)), ⟨1, 0, 1000, 1, 0, false⟩, by decide +kernel⟩,
    ⟨0, quad (0x22 + 2 ^ 8 * 2) 0 0 0, upC, ((takesCmd (0) 0x22 (quad (0x22 + 2 ^ 8 * 2) 0 0 0) (upC)).get (by decide +kernel)), by decide +kernel⟩,
    ⟨5, 0, true, false, ((upC).setTr { upC.tr with ats := [(5, ⟨0, 2, 0, 0, false, false, none, []⟩)] }) , ⟨0, 2, 0, 0, false, false, none, []⟩, by decide +kernel⟩,
    ⟨5, 0, false, false, ((upC).setTr { upC.tr with ats := [(5, ⟨0, 2, 0, 0, false, false, none, []⟩)] }) , ⟨0, 2, 0, 0, false, false, none, []⟩, by decide +kernel⟩,
    ⟨5, 7, ((upC).setTr { upC.tr with ats := [(5, ⟨0, 2, 0, 0, false, false, some 7, []⟩)] }) , ⟨0, 2, 0, 0, false, false, some 7, []⟩, by decide +kernel⟩⟩

theorem test_witness_tenants_ats_and_quotas_3 :
    (∃ (tag at_ code : Nat) (s : State) (q : AtsReq), s.tr.ats.get? tag = some q ∧ mmioUp s q.port = true ∧ q.pri = some at_ ∧ code ≠ 0) ∧
    (∃ (port fn pasid page pages : Nat) (s : State), mmioUp s port = true ∧ (getPort s port).sent = [] ∧ (getPort s port).replay = [] ∧ (getPort s port).held = []) ∧
    (∃ (s : State), s.alive = true ∧ s.co.tabors = []) ∧
    (∃ (s : State) (n : Nat) (c : Ctx), s.alive = true ∧ s.co.tabors.map Prod.fst = [n] ∧ (getTab s n).ctxs = [c] ∧ c.state = .running) ∧
    (∃ (s : State), s.alive = true ∧ s.pw.refclk = true) ∧
    (∃ (port fn : Nat) (s : State), mmioUp s port = true ∧ 0 < fn ∧ fn ≤ 512 ∧ fnItems s port fn = []) := by
  refine ⟨⟨5, 7, 1, ((upC).setTr { upC.tr with ats := [(5, ⟨0, 2, 0, 0, false, false, some 7, []⟩)] }) , ⟨0, 2, 0, 0, false, false, some 7, []⟩, by decide +kernel⟩,
    ⟨0, 2, 0, 0, 1, upC, by decide +kernel⟩,
    ⟨upC, by decide +kernel⟩,
    ⟨upT.setCo { upT.co with tabors := [(0, { ctxs := [c0] })] }, 0, c0, by decide +kernel⟩,
    ⟨upC, by decide +kernel⟩,
    ⟨0, 512, upC, by decide +kernel⟩⟩

theorem test_witness_tenants_ats_and_quotas_4 :
(∃ (port : Nat) (s : State), mailboxUp s port = true ∧ usedVfs s port = [] ∧ s.tr.misses = []) :=
  ⟨0, upC, by decide +kernel⟩

theorem test_witness_queues_and_doorbells_1 :
    (∃ (s : State) (p f q v : Nat), mmioUp s p = true ∧ queueExists s p f q = true ∧ (getSq s p f q).enable = false ∧ bitOf v 4 = true ∧ f ≠ 0 ∧ 4 ≤ v % 16 ∧ v % 16 ≤ 12 ∧ fnActive s p f = true ∧ (getCq s p f (bitsOf v 7 5)).qstate = 1) ∧
    (∃ (s : State) (p f q v : Nat), mmioUp s p = true ∧ queueExists s p f q = true ∧ (getSq s p f q).enable = false ∧ bitOf v 4 = true ∧ f ≠ 0 ∧ (getCq s p f (bitsOf v 7 5)).qstate ≠ 1) ∧
    (∃ (s : State) (p f q v : Nat), mmioUp s p = true ∧ queueExists s p f q = true ∧ (getSq s p f q).enable = true ∧ bitOf v 4 = false) ∧
    (∃ (s : State) (p f q : Nat), s.powered = true ∧ (getSq s p f q).qstate = 2 ∧ f ≠ 0 ∧ outstanding s p f q = 0 ∧ ((getPort s p).spill.any fun d => d.fn = f && d.sq = q) = false) ∧
    (∃ (s : State) (p f q : Nat), s.powered = true ∧ (getSq s p f q).qstate = 2 ∧ f ≠ 0 ∧ outstanding s p f q ≠ 0) ∧
    (∃ (s : State) (p f q v : Nat), mmioUp s p = true ∧ queueExists s p f q = true ∧ (getCq s p f q).enable = false ∧ bitOf v 4 = true ∧ f ≠ 0 ∧ 4 ≤ v % 16 ∧ v % 16 ≤ 14 ∧ fnActive s p f = true) := by
  refine ⟨⟨upQ {} { enable := true, qstate := 1, sizeLog2 := 4 }, 0, 2, 0, 0x14, by decide +kernel⟩,
    ⟨upQ {} {}, 0, 2, 0, 0x14, by decide +kernel⟩,
    ⟨upQ { enable := true, qstate := 1, sizeLog2 := 4 } { enable := true, qstate := 1, sizeLog2 := 4 }, 0, 2, 0, 0, by decide +kernel⟩,
    ⟨upQ { enable := true, qstate := 2, sizeLog2 := 4 } { enable := true, qstate := 1, sizeLog2 := 4 }, 0, 2, 0, by decide +kernel⟩,
    ⟨(((upQ { enable := true, qstate := 2, sizeLog2 := 4 } { enable := true, qstate := 1, sizeLog2 := 4 })).setHo { (upQ { enable := true, qstate := 2, sizeLog2 := 4 } { enable := true, qstate := 1, sizeLog2 := 4 }).ho with items := [(1, it0 0 [])] }) , 0, 2, 0, by decide +kernel⟩,
    ⟨upQ {} {}, 0, 2, 0, 0x1E, by decide +kernel⟩⟩

theorem test_witness_queues_and_doorbells_2 :
    (∃ (s : State) (p f q v : Nat), mmioUp s p = true ∧ queueExists s p f q = true ∧ (getCq s p f q).enable = true ∧ bitOf v 4 = false ∧ f ≠ 0 ∧ ((getFn s p f).sq.any fun kv => kv.2.cq = q && kv.2.qstate ≠ 0) = false) ∧
    (∃ (s : State) (p f q v : Nat), mmioUp s p = true ∧ queueExists s p f q = true ∧ (getCq s p f q).enable = true ∧ bitOf v 4 = false ∧ f ≠ 0 ∧ ((getFn s p f).sq.any fun kv => kv.2.cq = q && kv.2.qstate ≠ 0) = true ∧ (getCq s p f q).qstate ≠ 3) ∧
    (∃ (s : State) (p f q v : Nat), mmioUp s p = true ∧ queueExists s p f q = true ∧ (f = 0 && q = 8) = false ∧ (getSq s p f q).qstate = 1 ∧ v % 4096 < (getSq s p f q).slots) ∧
    (∃ (s : State) (p f q v : Nat), mmioUp s p = true ∧ queueExists s p f q = true ∧ (f = 0 && q = 8) = false ∧ (getSq s p f q).qstate = 1 ∧ (getSq s p f q).slots ≤ v % 4096) ∧
    (∃ (s : State) (p f q v : Nat), mmioUp s p = true ∧ queueExists s p f q = true ∧ (f = 0 && q = 8) = false ∧ (getCq s p f q).qstate = 1 ∧ v % 16384 < (getCq s p f q).slots) ∧
    (∃ (s : State) (p f q v : Nat), mmioUp s p = true ∧ queueExists s p f q = true ∧ (f = 0 && q = 8) = false ∧ (getCq s p f q).qstate = 1 ∧ (getCq s p f q).slots ≤ v % 16384) := by
  refine ⟨⟨upQ {} { enable := true, qstate := 1, sizeLog2 := 4 }, 0, 2, 0, 0, by decide +kernel⟩,
    ⟨upQ { enable := true, qstate := 1, sizeLog2 := 4 } { enable := true, qstate := 1, sizeLog2 := 4 }, 0, 2, 0, 0, by decide +kernel⟩,
    ⟨upQ { enable := true, qstate := 1, sizeLog2 := 4 } { enable := true, qstate := 1, sizeLog2 := 4 }, 0, 2, 0, 15, by decide +kernel⟩,
    ⟨upQ { enable := true, qstate := 1, sizeLog2 := 4 } { enable := true, qstate := 1, sizeLog2 := 4 }, 0, 2, 0, 16, by decide +kernel⟩,
    ⟨upQ { enable := true, qstate := 1, sizeLog2 := 4 } { enable := true, qstate := 1, sizeLog2 := 4 }, 0, 2, 0, 15, by decide +kernel⟩,
    ⟨upQ { enable := true, qstate := 1, sizeLog2 := 4 } { enable := true, qstate := 1, sizeLog2 := 4 }, 0, 2, 0, 16, by decide +kernel⟩⟩

theorem test_witness_queues_and_doorbells_3 :
    (∃ (s : State) (p v : Nat), mmioUp s p = true ∧ (getCq s p 0 8).qstate = 1 ∧ v % 16384 < (getCq s p 0 8).slots) ∧
    (∃ (s : State) (p v : Nat), mmioUp s p = true ∧ (getSq s p 0 8).qstate = 1 ∧ v % 16384 < (getSq s p 0 8).slots) ∧
    (∃ (s : State) (p v : Nat), mmioUp s p = true ∧ (getSq s p 0 8).qstate = 1 ∧ (getSq s p 0 8).slots ≤ v % 16384) := by
  refine ⟨⟨up.setHo { up.ho with ports := [(0, { up := true, reqRing := { qstate := 1, sizeLog2 := 4 } })] }, 0, 15, by decide +kernel⟩,
    ⟨upC, 0, 15, by decide +kernel⟩,
    ⟨upC, 0, 16, by decide +kernel⟩⟩

theorem test_witness_entries_registers_and_reads_1 :
    (∃ (s : State) (p f q : Nat) (w : List Nat), mmioUp s p = true ∧ s.rc.warmStep = 0 ∧ fetchTurn s p = some (f, q) ∧ w.length = 8 ∧ bitOf (wordAt w 0) 9 = false ∧ (getSq s p f q).avail ≠ 0 ∧ fetchHeld s (if f = 0 then 0 else fnTenant p f) (wBits w 0 7 0) = false) ∧
    (∃ (s : State) (p f q : Nat) (w : List Nat), fetchTurn s p ≠ some (f, q)) ∧
    (∃ (s : State) (n p f q cid st : Nat) (i : Item), s.powered = true ∧ s.rc.warmStep = 0 ∧ s.alive = true ∧ getItem? s n = some i ∧ i.ended = some st ∧ i.src = .host p f q cid ∧ i.out = [] ∧ i.discard = false) ∧
    (∃ (s : State) (n p f q cid st : Nat) (i : Item), s.powered = true ∧ getItem? s n = some i ∧ i.ended = some st ∧ i.src = .host p f q cid ∧ i.out ≠ []) ∧
    (∃ (s : State) (p : Nat) (c : Cpl), (getPort s p).up = false) ∧
    (∃ (s : State) (p : Nat) (c : Cpl), cqTakes s p c.fn c.cq = true ∧ (getPort s p).spill = []) := by
  refine ⟨⟨upQ { enable := true, qstate := 1, sizeLog2 := 4, tail := 1 } { enable := true, qstate := 1, sizeLog2 := 4 }, 0, 2, 0, List.replicate 8 0, by decide +kernel⟩,
    ⟨upT, 0, 2, 0, [], by decide +kernel⟩,
    ⟨((upT).setHo { upT.ho with items := [(1, { it0 0 [] with ended := some 3 })] }) , 1, 0, 2, 0, 5, 3, { it0 0 [] with ended := some 3 }, by decide +kernel⟩,
    ⟨((upT).setHo { upT.ho with items := [(1, { it0 0 [] with ended := some 3, out := [9] })] }) , 1, 0, 2, 0, 5, 3, { it0 0 [] with ended := some 3, out := [9] }, by decide +kernel⟩,
    ⟨State.reset, 0, ⟨2, 0, 0, 5, 0, 0, 0⟩, by decide +kernel⟩,
    ⟨upQ { enable := true, qstate := 1, sizeLog2 := 4 } { enable := true, qstate := 1, sizeLog2 := 4 }, 0, ⟨2, 0, 0, 5, 0, 0, 0⟩, by decide +kernel⟩⟩

theorem test_witness_entries_registers_and_reads_2 :
    (∃ (s : State) (p f q : Nat), s.powered = true ∧ (getCq s p f q).irqEn = true ∧ (getCq s p f q).unsig ≠ 0) ∧
    (∃ (s : State) (p v : Nat), mmioUp s p = true ∧ (getSq s p 0 0).enable = false ∧ 2 ≤ s.bt.stage ∧ s.bt.stage < 5) ∧
    (∃ (s : State) (p v : Nat), mmioUp s p = true ∧ s.bt.stage < 5 ∧ (getSq s p 0 0).enable = true) ∧
    (∃ (s : State) (p offset v : Nat), mailboxUp s p = true ∧ 0x11000 ≤ offset ∧ offset < 0x15000 ∧ offset % 4 = 0) ∧
    (∃ (s : State) (p f offset w v : Nat), w ≠ 4 ∧ w ≠ 8) ∧
    (∃ (s : State) (p f : Nat), mmioUp s p = true ∧ f ≤ 512) := by
  refine ⟨⟨upQ { enable := true, qstate := 1, sizeLog2 := 4 } { irqEn := true, unsig := 1 }, 0, 2, 0, by decide +kernel⟩,
    ⟨upT, 0, 5, by decide +kernel⟩,
    ⟨((upT).setHo { upT.ho with ports := [(0, { up := true, fns := [(0, { sq := [(0, { enable := true })] })] })] }) , 0, 5, by decide +kernel⟩,
    ⟨upT, 0, 0x14FFC, 5, by decide +kernel⟩,
    ⟨upT, 0, 0, 0, 2, 5, by decide +kernel⟩,
    ⟨upT, 0, 512, by decide +kernel⟩⟩

theorem test_witness_entries_registers_and_reads_3 :
    (∃ (s : State) (p f : Nat), mmioUp s p = true ∧ f ≤ 512 ∧ f ≠ 0 ∧ (getPort s p).spill = [] ∧ (getFn s p f).pba = []) ∧
    (∃ (s : State) (p : Nat), s.powered = true ∧ p < 2 ∧ (getPort s p).up = true ∧ (getPort s p).sent = []) ∧
    (∃ (s : State) (p : Nat), p < 2 ∧ (getPort s p).up = false ∧ s.alive = true ∧ s.bt.stage ≠ 0) ∧
    (∃ (s : State) (f tag addr : Nat) (data : List Byte) (n : Nat) (i : Item), mmioUp s 0 = true ∧ (getPort s 0).sent = [.read f tag addr data.length] ∧ s.ho.items = [(n, i)] ∧ i.wait = .host tag ∧ s.tr.withdrawals = []) := by
  refine ⟨⟨upT, 0, 512, by decide +kernel⟩,
    ⟨upT, 1, by decide +kernel⟩,
    ⟨((upT).setHo { upT.ho with ports := [] }) , 1, by decide +kernel⟩,
    ⟨((upT).setHo { upT.ho with ports := [(0, { up := true, sent := [.read 2 5 0 4] })], items := [(1, { it0 0 [] with wait := .host 5 })] }) , 2, 5, 0, [0, 0, 0, 0], 1, { it0 0 [] with wait := .host 5 }, by decide +kernel⟩⟩

def w_transfer_and_page_items_complete_2_2 : Item := ((itemReady (1) 0x01 (item 1 [0, 0, 4096, 64])).get (by decide +kernel))

def w_transfer_and_page_items_complete_2_3 : State := ((accVal (hostRead (1) (w_transfer_and_page_items_complete_2_2) ((wordAt (w_transfer_and_page_items_complete_2_2).words 2 + (w_transfer_and_page_items_complete_2_2).prog) % 2 ^ 64) (pieceRun (wordAt (w_transfer_and_page_items_complete_2_2).words 1 + (w_transfer_and_page_items_complete_2_2).prog) ((wordAt (w_transfer_and_page_items_complete_2_2).words 2 + (w_transfer_and_page_items_complete_2_2).prog) % 2 ^ 64) (wordAt (w_transfer_and_page_items_complete_2_2).words 3 - (w_transfer_and_page_items_complete_2_2).prog)) (setItem (1) (w_transfer_and_page_items_complete_2_2) (item 1 [0, 0, 4096, 64])))).get (by decide +kernel)).2

def w_transfer_and_page_items_complete_3_1 : State := itemX 1 [0, 0, 4096, 4] fun i => { i with data := [1, 2, 3, 4] }

def w_transfer_and_page_items_complete_3_2 : Item := ((itemReady (1) 0x01 (w_transfer_and_page_items_complete_3_1)).get (by decide +kernel))

def w_transfer_and_page_items_complete_3_3 : State := ((accVal (tryWrite (1) (w_transfer_and_page_items_complete_3_2).tenant (wordAt (w_transfer_and_page_items_complete_3_2).words 1 + (w_transfer_and_page_items_complete_3_2).prog) (w_transfer_and_page_items_complete_3_2).data (setItem (1) (w_transfer_and_page_items_complete_3_2) (w_transfer_and_page_items_complete_3_1)))).get (by decide +kernel)).2

theorem test_witness_transfer_and_page_items_complete_1 :
    (∃ (n : Nat) (s : State) (i : Item), itemReady n 0x00 s = some i ∧ widthsOk i.words [] = true) ∧
    (∃ (n : Nat) (s : State) (i : Item), itemReady n 0x00 s = some i ∧ widthsOk i.words [] = false) ∧
    (∃ (n : Nat) (s : State) (i : Item) (s2 : State), itemReady n 0x01 s = some i ∧ widthsOk i.words [56, 64, 31] = true ∧ wordAt i.words 3 ≠ 0 ∧ wordAt i.words 3 ≤ 0x40000000 ∧ i.data = [] ∧ i.prog < wordAt i.words 3 ∧ hostRead n i ((wordAt i.words 2 + i.prog) % 2 ^ 64) (pieceRun (wordAt i.words 1 + i.prog) ((wordAt i.words 2 + i.prog) % 2 ^ 64) (wordAt i.words 3 - i.prog)) (setItem n i s) = .ok () s2) ∧
    (∃ (n : Nat) (s : State) (i : Item) (s2 : State), itemReady n 0x01 s = some i ∧ widthsOk i.words [56, 64, 31] = true ∧ wordAt i.words 3 ≠ 0 ∧ wordAt i.words 3 ≤ 0x40000000 ∧ i.data ≠ [] ∧ wordAt i.words 3 ≤ i.prog + i.data.length ∧ tryWrite n i.tenant (wordAt i.words 1 + i.prog) i.data (setItem n i s) = .ok () s2) ∧
    (∃ (n : Nat) (s : State) (i : Item) (st : Nat) (s2 : State), itemReady n 0x01 s = some i ∧ widthsOk i.words [56, 64, 31] = true ∧ wordAt i.words 3 ≠ 0 ∧ wordAt i.words 3 ≤ 0x40000000 ∧ i.data ≠ [] ∧ tryWrite n i.tenant (wordAt i.words 1 + i.prog) i.data (setItem n i s) = .bad st s2) ∧
    (∃ (n : Nat) (s : State) (i : Item), itemReady n 0x02 s = some i ∧ widthsOk i.words [56, 64, 31] = true ∧ wordAt i.words 3 ≠ 0 ∧ wordAt i.words 3 ≤ 0x40000000 ∧ wordAt i.words 3 ≤ i.prog) := by
  refine ⟨⟨1, item 0 [0], ((itemReady (1) 0x00 (item 0 [0])).get (by decide +kernel)), by decide +kernel⟩,
    ⟨1, item 0 [0, 1], ((itemReady (1) 0x00 (item 0 [0, 1])).get (by decide +kernel)), by decide +kernel⟩,
    ⟨1, item 1 [0, 0, 4096, 64], w_transfer_and_page_items_complete_2_2, w_transfer_and_page_items_complete_2_3, by decide +kernel, by decide +kernel, by decide +kernel, by decide +kernel, by decide +kernel, by decide +kernel, by delta w_transfer_and_page_items_complete_2_3; first | exact acc_val (by decide +kernel) (by decide +kernel) | exact acc_get _ | exact bad_of (by decide +kernel)⟩,
    ⟨1, w_transfer_and_page_items_complete_3_1, w_transfer_and_page_items_complete_3_2, w_transfer_and_page_items_complete_3_3, by decide +kernel, by decide +kernel, by decide +kernel, by decide +kernel, by decide +kernel, by decide +kernel, by delta w_transfer_and_page_items_complete_3_3; first | exact acc_val (by decide +kernel) (by decide +kernel) | exact acc_get _ | exact bad_of (by decide +kernel)⟩,
    ⟨1, (itemX 1 [0, 2 ^ 56 - 2, 4096, 4] fun i => { i with data := [1, 2, 3, 4] }), ((itemReady (1) 0x01 ((itemX 1 [0, 2 ^ 56 - 2, 4096, 4] fun i => { i with data := [1, 2, 3, 4] }))).get (by decide +kernel)), Config.translationFault, setItem 1 ((itemReady (1) 0x01 ((itemX 1 [0, 2 ^ 56 - 2, 4096, 4] fun i => { i with data := [1, 2, 3, 4] }))).get (by decide +kernel)) (itemX 1 [0, 2 ^ 56 - 2, 4096, 4] fun i => { i with data := [1, 2, 3, 4] }), by decide +kernel, by decide +kernel, by decide +kernel, by decide +kernel, by decide +kernel, by first | exact ok_get _ | exact acc_val (by decide +kernel) (by decide +kernel) | exact acc_get _ | exact err_of (by decide +kernel) | exact bad_of (by decide +kernel) | rfl⟩,
    ⟨1, itemX 2 [0, 0, 4096, 64] fun i => { i with prog := 64 }, ((itemReady (1) 0x02 (itemX 2 [0, 0, 4096, 64] fun i => { i with prog := 64 })).get (by decide +kernel)), by decide +kernel⟩⟩

def w_transfer_and_page_items_complete_6_2 : Item := ((itemReady (1) 0x02 (item 2 [0, 0, 4096, 64])).get (by decide +kernel))

def w_transfer_and_page_items_complete_6_4 : State := ((accVal (tryRead (1) (w_transfer_and_page_items_complete_6_2).tenant (wordAt (w_transfer_and_page_items_complete_6_2).words 1) (wordAt (w_transfer_and_page_items_complete_6_2).words 3) (setItem (1) (w_transfer_and_page_items_complete_6_2) (item 2 [0, 0, 4096, 64])))).get (by decide +kernel)).2

def w_transfer_and_page_items_complete_6_5 : State := ((accVal (hostPut (1) (w_transfer_and_page_items_complete_6_2) (wordAt (w_transfer_and_page_items_complete_6_2).words 2 % 2 ^ 64) (((accVal (tryRead (1) (w_transfer_and_page_items_complete_6_2).tenant (wordAt (w_transfer_and_page_items_complete_6_2).words 1) (wordAt (w_transfer_and_page_items_complete_6_2).words 3) (setItem (1) (w_transfer_and_page_items_complete_6_2) (item 2 [0, 0, 4096, 64])))).get (by decide +kernel)).1) (w_transfer_and_page_items_complete_6_4))).get (by decide +kernel)).2

def w_transfer_and_page_items_complete_7_1 : State := item 3 [0, 64, 5, 0, 2 + 32]

def w_transfer_and_page_items_complete_7_2 : Item := ((itemReady (1) 0x03 (w_transfer_and_page_items_complete_7_1)).get (by decide +kernel))

def w_transfer_and_page_items_complete_7_7 : State := ((accVal (tryLook (1) (w_transfer_and_page_items_complete_7_2).tenant (wordAt (w_transfer_and_page_items_complete_7_2).words 1) (if bitOf (wordAt (w_transfer_and_page_items_complete_7_2).words 4) 5 then 8 else 4) true (setItem (1) (w_transfer_and_page_items_complete_7_2) (w_transfer_and_page_items_complete_7_1)))).get (by decide +kernel)).2

def w_transfer_and_page_items_complete_9_1 : State := item 4 [0, 64, 9, 10, 0, 0, 0]

def w_transfer_and_page_items_complete_9_2 : Item := ((itemReady (1) 0x04 (w_transfer_and_page_items_complete_9_1)).get (by decide +kernel))

def w_transfer_and_page_items_complete_9_5 : State := ((accVal (tryLook (1) (w_transfer_and_page_items_complete_9_2).tenant (wordAt (w_transfer_and_page_items_complete_9_2).words 1) 32 true (setItem (1) (w_transfer_and_page_items_complete_9_2) (w_transfer_and_page_items_complete_9_1)))).get (by decide +kernel)).2

def w_transfer_and_page_items_complete_9_6 : State := ((accVal (readParts (((accVal (tryLook (1) (w_transfer_and_page_items_complete_9_2).tenant (wordAt (w_transfer_and_page_items_complete_9_2).words 1) 32 true (setItem (1) (w_transfer_and_page_items_complete_9_2) (w_transfer_and_page_items_complete_9_1)))).get (by decide +kernel)).1) (w_transfer_and_page_items_complete_9_5))).get (by decide +kernel)).2

def w_transfer_and_page_items_complete_10_1 : State := item 4 [0, 64, 0, 10, 0, 0, 0]

def w_transfer_and_page_items_complete_10_2 : Item := ((itemReady (1) 0x04 (w_transfer_and_page_items_complete_10_1)).get (by decide +kernel))

def w_transfer_and_page_items_complete_10_5 : State := ((accVal (tryLook (1) (w_transfer_and_page_items_complete_10_2).tenant (wordAt (w_transfer_and_page_items_complete_10_2).words 1) 32 true (setItem (1) (w_transfer_and_page_items_complete_10_2) (w_transfer_and_page_items_complete_10_1)))).get (by decide +kernel)).2

def w_transfer_and_page_items_complete_10_6 : State := ((accVal (readParts (((accVal (tryLook (1) (w_transfer_and_page_items_complete_10_2).tenant (wordAt (w_transfer_and_page_items_complete_10_2).words 1) 32 true (setItem (1) (w_transfer_and_page_items_complete_10_2) (w_transfer_and_page_items_complete_10_1)))).get (by decide +kernel)).1) (w_transfer_and_page_items_complete_10_5))).get (by decide +kernel)).2

def w_transfer_and_page_items_complete_10_7 : State := ((accVal (writeParts (1) (w_transfer_and_page_items_complete_10_2).tenant (((accVal (tryLook (1) (w_transfer_and_page_items_complete_10_2).tenant (wordAt (w_transfer_and_page_items_complete_10_2).words 1) 32 true (setItem (1) (w_transfer_and_page_items_complete_10_2) (w_transfer_and_page_items_complete_10_1)))).get (by decide +kernel)).1) (leBytes 8 (wordAt (w_transfer_and_page_items_complete_10_2).words 3) ++ leBytes 8 (wordAt (w_transfer_and_page_items_complete_10_2).words 4) ++ leBytes 8 (wordAt (w_transfer_and_page_items_complete_10_2).words 5) ++ leBytes 8 (wordAt (w_transfer_and_page_items_complete_10_2).words 6)) (w_transfer_and_page_items_complete_10_6))).get (by decide +kernel)).2

theorem test_witness_transfer_and_page_items_complete_2 :
    (∃ (n : Nat) (s : State) (i : Item) (bytes : List Byte) (s2 s3 : State), itemReady n 0x02 s = some i ∧ widthsOk i.words [56, 64, 31] = true ∧ wordAt i.words 3 ≠ 0 ∧ wordAt i.words 3 ≤ 0x40000000 ∧ i.prog = 0 ∧ pieceRun (wordAt i.words 1) (wordAt i.words 2 % 2 ^ 64) (wordAt i.words 3) = wordAt i.words 3 ∧ tryRead n i.tenant (wordAt i.words 1) (wordAt i.words 3) (setItem n i s) = .ok bytes s2 ∧ hostPut n i (wordAt i.words 2 % 2 ^ 64) bytes s2 = .ok () s3) ∧
    (∃ (n : Nat) (s : State) (i : Item) (a k old : Nat) (line : List Byte) (s2 s3 : State), itemReady n 0x03 s = some i ∧ widthsOk i.words [56, 64, 64, 6] = true ∧ aopOk (wBits i.words 4 4 0) = true ∧ wordAt i.words 1 % (if bitOf (wordAt i.words 4) 5 then 8 else 4) = 0 ∧ tryLook n i.tenant (wordAt i.words 1) (if bitOf (wordAt i.words 4) 5 then 8 else 4) true (setItem n i s) = .ok [(a, k, 0)] s2 ∧ intercepted s2 a = false ∧ writeOk a (if bitOf (wordAt i.words 4) 5 then 8 else 4) i.tenant s2 = (s3, .ok) ∧ atomOnLine (lineNow s3 (a / 64)) (wBits i.words 4 4 0) (bitOf (wordAt i.words 4) 5) (a % 64) (wordAt i.words 2) (wordAt i.words 3) = (old, line)) ∧
    (∃ (n : Nat) (s : State) (i : Item), itemReady n 0x03 s = some i ∧ widthsOk i.words [56, 64, 64, 6] = true ∧ aopOk (wBits i.words 4 4 0) = true ∧ wordAt i.words 1 % (if bitOf (wordAt i.words 4) 5 then 8 else 4) ≠ 0) ∧
    (∃ (n : Nat) (s : State) (i : Item) (ps : List (Nat × Nat × Nat)) (old : List Byte) (s2 s3 : State), itemReady n 0x04 s = some i ∧ widthsOk i.words [56, 64, 64, 64, 64, 64] = true ∧ wordAt i.words 1 % 32 = 0 ∧ wordAt i.words 3 ≠ wordAt i.words 2 ∧ tryLook n i.tenant (wordAt i.words 1) 32 true (setItem n i s) = .ok ps s2 ∧ readParts ps s2 = .ok old s3 ∧ leField old 0 8 ≠ wordAt i.words 2) ∧
    (∃ (n : Nat) (s : State) (i : Item) (ps : List (Nat × Nat × Nat)) (old : List Byte) (s2 s3 s4 : State), itemReady n 0x04 s = some i ∧ widthsOk i.words [56, 64, 64, 64, 64, 64] = true ∧ wordAt i.words 1 % 32 = 0 ∧ wordAt i.words 3 ≠ wordAt i.words 2 ∧ tryLook n i.tenant (wordAt i.words 1) 32 true (setItem n i s) = .ok ps s2 ∧ readParts ps s2 = .ok old s3 ∧ leField old 0 8 = wordAt i.words 2 ∧ writeParts n i.tenant ps (leBytes 8 (wordAt i.words 3) ++ leBytes 8 (wordAt i.words 4) ++ leBytes 8 (wordAt i.words 5) ++ leBytes 8 (wordAt i.words 6)) s3 = .ok () s4) ∧
    (∃ (n : Nat) (s : State) (i : Item) (pages : List Nat) (t : State), itemReady n 0x08 s = some i ∧ widthsOk i.words [56, 35] = true ∧ pageArgsOk i.words = true ∧ itemPages n i (setItem n i s) = some (pages, t)) := by
  refine ⟨⟨1, item 2 [0, 0, 4096, 64], w_transfer_and_page_items_complete_6_2, ((accVal (tryRead (1) (w_transfer_and_page_items_complete_6_2).tenant (wordAt (w_transfer_and_page_items_complete_6_2).words 1) (wordAt (w_transfer_and_page_items_complete_6_2).words 3) (setItem (1) (w_transfer_and_page_items_complete_6_2) (item 2 [0, 0, 4096, 64])))).get (by decide +kernel)).1, w_transfer_and_page_items_complete_6_4, w_transfer_and_page_items_complete_6_5, by decide +kernel, by decide +kernel, by decide +kernel, by decide +kernel, by decide +kernel, by decide +kernel, by delta w_transfer_and_page_items_complete_6_4; first | exact acc_val (by decide +kernel) (by decide +kernel) | exact acc_get _ | exact bad_of (by decide +kernel), by delta w_transfer_and_page_items_complete_6_5; first | exact acc_val (by decide +kernel) (by decide +kernel) | exact acc_get _ | exact bad_of (by decide +kernel)⟩,
    ⟨1, w_transfer_and_page_items_complete_7_1, w_transfer_and_page_items_complete_7_2, 64, 8, (atomOnLine (lineNow (w_transfer_and_page_items_complete_7_7) ((64) / 64)) (wBits (w_transfer_and_page_items_complete_7_2).words 4 4 0) (bitOf (wordAt (w_transfer_and_page_items_complete_7_2).words 4) 5) ((64) % 64) (wordAt (w_transfer_and_page_items_complete_7_2).words 2) (wordAt (w_transfer_and_page_items_complete_7_2).words 3)).1, (atomOnLine (lineNow (w_transfer_and_page_items_complete_7_7) ((64) / 64)) (wBits (w_transfer_and_page_items_complete_7_2).words 4 4 0) (bitOf (wordAt (w_transfer_and_page_items_complete_7_2).words 4) 5) ((64) % 64) (wordAt (w_transfer_and_page_items_complete_7_2).words 2) (wordAt (w_transfer_and_page_items_complete_7_2).words 3)).2, w_transfer_and_page_items_complete_7_7, w_transfer_and_page_items_complete_7_7, by decide +kernel, by decide +kernel, by decide +kernel, by decide +kernel, by delta w_transfer_and_page_items_complete_7_7; first | exact acc_val (by decide +kernel) (by decide +kernel) | exact acc_get _ | exact bad_of (by decide +kernel), by decide +kernel, by first | exact ok_get _ | exact acc_val (by decide +kernel) (by decide +kernel) | exact acc_get _ | exact err_of (by decide +kernel) | exact bad_of (by decide +kernel) | rfl, by decide +kernel⟩,
    ⟨1, item 3 [0, 65, 5, 0, 2 + 32], ((itemReady (1) 0x03 (item 3 [0, 65, 5, 0, 2 + 32])).get (by decide +kernel)), by decide +kernel⟩,
    ⟨1, w_transfer_and_page_items_complete_9_1, w_transfer_and_page_items_complete_9_2, ((accVal (tryLook (1) (w_transfer_and_page_items_complete_9_2).tenant (wordAt (w_transfer_and_page_items_complete_9_2).words 1) 32 true (setItem (1) (w_transfer_and_page_items_complete_9_2) (w_transfer_and_page_items_complete_9_1)))).get (by decide +kernel)).1, ((accVal (readParts (((accVal (tryLook (1) (w_transfer_and_page_items_complete_9_2).tenant (wordAt (w_transfer_and_page_items_complete_9_2).words 1) 32 true (setItem (1) (w_transfer_and_page_items_complete_9_2) (w_transfer_and_page_items_complete_9_1)))).get (by decide +kernel)).1) (w_transfer_and_page_items_complete_9_5))).get (by decide +kernel)).1, w_transfer_and_page_items_complete_9_5, w_transfer_and_page_items_complete_9_6, by decide +kernel, by decide +kernel, by decide +kernel, by decide +kernel, by delta w_transfer_and_page_items_complete_9_5; first | exact acc_val (by decide +kernel) (by decide +kernel) | exact acc_get _ | exact bad_of (by decide +kernel), by delta w_transfer_and_page_items_complete_9_6; first | exact acc_val (by decide +kernel) (by decide +kernel) | exact acc_get _ | exact bad_of (by decide +kernel), by decide +kernel⟩,
    ⟨1, w_transfer_and_page_items_complete_10_1, w_transfer_and_page_items_complete_10_2, ((accVal (tryLook (1) (w_transfer_and_page_items_complete_10_2).tenant (wordAt (w_transfer_and_page_items_complete_10_2).words 1) 32 true (setItem (1) (w_transfer_and_page_items_complete_10_2) (w_transfer_and_page_items_complete_10_1)))).get (by decide +kernel)).1, ((accVal (readParts (((accVal (tryLook (1) (w_transfer_and_page_items_complete_10_2).tenant (wordAt (w_transfer_and_page_items_complete_10_2).words 1) 32 true (setItem (1) (w_transfer_and_page_items_complete_10_2) (w_transfer_and_page_items_complete_10_1)))).get (by decide +kernel)).1) (w_transfer_and_page_items_complete_10_5))).get (by decide +kernel)).1, w_transfer_and_page_items_complete_10_5, w_transfer_and_page_items_complete_10_6, w_transfer_and_page_items_complete_10_7, by decide +kernel, by decide +kernel, by decide +kernel, by decide +kernel, by delta w_transfer_and_page_items_complete_10_5; first | exact acc_val (by decide +kernel) (by decide +kernel) | exact acc_get _ | exact bad_of (by decide +kernel), by delta w_transfer_and_page_items_complete_10_6; first | exact acc_val (by decide +kernel) (by decide +kernel) | exact acc_get _ | exact bad_of (by decide +kernel), by decide +kernel, by delta w_transfer_and_page_items_complete_10_7; first | exact acc_val (by decide +kernel) (by decide +kernel) | exact acc_get _ | exact bad_of (by decide +kernel)⟩,
    ⟨1, item 8 [0, 0, 1], ((itemReady (1) 0x08 (item 8 [0, 0, 1])).get (by decide +kernel)), ((itemPages (1) (((itemReady (1) 0x08 (item 8 [0, 0, 1])).get (by decide +kernel))) (setItem (1) (((itemReady (1) 0x08 (item 8 [0, 0, 1])).get (by decide +kernel))) (item 8 [0, 0, 1]))).get (by decide +kernel)).1, ((itemPages (1) (((itemReady (1) 0x08 (item 8 [0, 0, 1])).get (by decide +kernel))) (setItem (1) (((itemReady (1) 0x08 (item 8 [0, 0, 1])).get (by decide +kernel))) (item 8 [0, 0, 1]))).get (by decide +kernel)).2, by decide +kernel⟩⟩

theorem test_witness_transfer_and_page_items_complete_3 :
    (∃ (n : Nat) (s : State) (i : Item) (pages : List Nat) (t : State), itemReady n 0x09 s = some i ∧ widthsOk i.words [56, 35, 4] = true ∧ pageArgsOk i.words = true ∧ itemPages n i (setItem n i s) = some (pages, t) ∧ wBits i.words 3 1 0 ≠ 1 ∧ (if wBits i.words 3 1 0 = 2 then wBits i.words 3 3 2 ≠ 0 else wBits i.words 3 3 2 = 0)) ∧
    (∃ (n : Nat) (s : State) (i : Item) (pages : List Nat) (t : State), itemReady n 0x09 s = some i ∧ widthsOk i.words [56, 35, 4] = true ∧ pageArgsOk i.words = true ∧ itemPages n i (setItem n i s) = some (pages, t) ∧ wBits i.words 3 1 0 = 1 ∧ wBits i.words 3 3 2 = 1 ∧ pinnedHbm t < pinnedHbm (pages.eraseDups.foldl (fun s p => setEntry p { entryOf s p with hint := wBits i.words 3 1 0, hintTier := wBits i.words 3 3 2 } s) t) ∧ Par.pinHbmMaxPct t * t.ti.hbmSlots < 100 * pinnedHbm (pages.eraseDups.foldl (fun s p => setEntry p { entryOf s p with hint := wBits i.words 3 1 0, hintTier := wBits i.words 3 3 2 } s) t)) ∧
    (∃ (n : Nat) (s : State) (i : Item), itemReady n 0x09 s = some i ∧ widthsOk i.words [56, 35, 4] = true ∧ pageArgsOk i.words = true ∧ wBits i.words 3 1 0 = 0 ∧ wBits i.words 3 3 2 ≠ 0) ∧
    (∃ (n : Nat) (s : State) (i : Item) (pages : List Nat) (t : State), itemReady n 0x0A s = some i ∧ widthsOk i.words [56, 35, 2] = true ∧ pageArgsOk i.words = true ∧ itemPages n i (setItem n i s) = some (pages, t) ∧ wordAt i.words 3 < 3) ∧
    (∃ (n : Nat) (s : State) (i : Item), itemReady n 0x0A s = some i ∧ wordAt i.words 3 = 3) ∧
    (∃ (n : Nat) (s : State) (i : Item), itemReady n 0x80 s = some i ∧ widthsOk i.words [] = true ∧ standby (setItem n i s) = false ∧ draining (setItem n i s) = true) := by
  refine ⟨⟨1, item 9 [0, 0, 1, 0], ((itemReady (1) 0x09 (item 9 [0, 0, 1, 0])).get (by decide +kernel)), ((itemPages (1) (((itemReady (1) 0x09 (item 9 [0, 0, 1, 0])).get (by decide +kernel))) (setItem (1) (((itemReady (1) 0x09 (item 9 [0, 0, 1, 0])).get (by decide +kernel))) (item 9 [0, 0, 1, 0]))).get (by decide +kernel)).1, ((itemPages (1) (((itemReady (1) 0x09 (item 9 [0, 0, 1, 0])).get (by decide +kernel))) (setItem (1) (((itemReady (1) 0x09 (item 9 [0, 0, 1, 0])).get (by decide +kernel))) (item 9 [0, 0, 1, 0]))).get (by decide +kernel)).2, by decide +kernel⟩,
    ⟨1, (((item 9 [0, 0, 1, 5])).setTi { (item 9 [0, 0, 1, 5]).ti with hbmSlots := 1 }) , ((itemReady (1) 0x09 ((((item 9 [0, 0, 1, 5])).setTi { (item 9 [0, 0, 1, 5]).ti with hbmSlots := 1 }) )).get (by decide +kernel)), ((itemPages (1) (((itemReady (1) 0x09 ((((item 9 [0, 0, 1, 5])).setTi { (item 9 [0, 0, 1, 5]).ti with hbmSlots := 1 }) )).get (by decide +kernel))) (setItem (1) (((itemReady (1) 0x09 ((((item 9 [0, 0, 1, 5])).setTi { (item 9 [0, 0, 1, 5]).ti with hbmSlots := 1 }) )).get (by decide +kernel))) ((((item 9 [0, 0, 1, 5])).setTi { (item 9 [0, 0, 1, 5]).ti with hbmSlots := 1 }) ))).get (by decide +kernel)).1, ((itemPages (1) (((itemReady (1) 0x09 ((((item 9 [0, 0, 1, 5])).setTi { (item 9 [0, 0, 1, 5]).ti with hbmSlots := 1 }) )).get (by decide +kernel))) (setItem (1) (((itemReady (1) 0x09 ((((item 9 [0, 0, 1, 5])).setTi { (item 9 [0, 0, 1, 5]).ti with hbmSlots := 1 }) )).get (by decide +kernel))) ((((item 9 [0, 0, 1, 5])).setTi { (item 9 [0, 0, 1, 5]).ti with hbmSlots := 1 }) ))).get (by decide +kernel)).2, by decide +kernel⟩,
    ⟨1, item 9 [0, 0, 1, 4], ((itemReady (1) 0x09 (item 9 [0, 0, 1, 4])).get (by decide +kernel)), by decide +kernel⟩,
    ⟨1, item 10 [0, 0, 1, 1], ((itemReady (1) 0x0A (item 10 [0, 0, 1, 1])).get (by decide +kernel)), ((itemPages (1) (((itemReady (1) 0x0A (item 10 [0, 0, 1, 1])).get (by decide +kernel))) (setItem (1) (((itemReady (1) 0x0A (item 10 [0, 0, 1, 1])).get (by decide +kernel))) (item 10 [0, 0, 1, 1]))).get (by decide +kernel)).1, ((itemPages (1) (((itemReady (1) 0x0A (item 10 [0, 0, 1, 1])).get (by decide +kernel))) (setItem (1) (((itemReady (1) 0x0A (item 10 [0, 0, 1, 1])).get (by decide +kernel))) (item 10 [0, 0, 1, 1]))).get (by decide +kernel)).2, by decide +kernel⟩,
    ⟨1, item 10 [0, 0, 1, 3], ((itemReady (1) 0x0A (item 10 [0, 0, 1, 3])).get (by decide +kernel)), by decide +kernel⟩,
    ⟨1, ((((((item 0x80 [0])).setTi { (item 0x80 [0]).ti with drainItems := [1] }) )).setOd { ((((item 0x80 [0])).setTi { (item 0x80 [0]).ti with drainItems := [1] }) ).od with num := [(0x080001, 1)] }) , ((itemReady (1) 0x80 (((((((item 0x80 [0])).setTi { (item 0x80 [0]).ti with drainItems := [1] }) )).setOd { ((((item 0x80 [0])).setTi { (item 0x80 [0]).ti with drainItems := [1] }) ).od with num := [(0x080001, 1)] }) )).get (by decide +kernel)), by decide +kernel⟩⟩

theorem test_witness_transfer_and_page_items_complete_4 :
(∃ (n : Nat) (s : State) (i : Item), itemReady n 0x80 s = some i ∧ widthsOk i.words [] = true ∧ standby (setItem n i s) = true) :=
  ⟨1, (((item 0x80 [0])).setOd { (item 0x80 [0]).od with num := [(0x080001, 0)] }) , ((itemReady (1) 0x80 ((((item 0x80 [0])).setOd { (item 0x80 [0]).od with num := [(0x080001, 0)] }) )).get (by decide +kernel)), by decide +kernel⟩

def w_program_items_and_scripts_0_2 : Item := ((itemReady (1) 0x10 (item 0x10 [0, 0, 64])).get (by decide +kernel))

def w_program_items_and_scripts_0_4 : State := ((accVal (tryRead (1) (w_program_items_and_scripts_0_2).tenant (wordAt (w_program_items_and_scripts_0_2).words 1) (wordAt (w_program_items_and_scripts_0_2).words 2) (setItem (1) (w_program_items_and_scripts_0_2) (item 0x10 [0, 0, 64])))).get (by decide +kernel)).2

def w_program_items_and_scripts_1_1 : State := (item 0x10 [0, 0, 132]).setMem (cells 0 (img 0 0 0 [0x60]))

def w_program_items_and_scripts_1_2 : Item := ((itemReady (1) 0x10 (w_program_items_and_scripts_1_1)).get (by decide +kernel))

def w_program_items_and_scripts_1_4 : State := ((accVal (tryRead (1) (w_program_items_and_scripts_1_2).tenant (wordAt (w_program_items_and_scripts_1_2).words 1) (wordAt (w_program_items_and_scripts_1_2).words 2) (setItem (1) (w_program_items_and_scripts_1_2) (w_program_items_and_scripts_1_1)))).get (by decide +kernel)).2

theorem test_witness_program_items_and_scripts_1 :
    (∃ (n : Nat) (s : State) (i : Item) (bytes : List Byte) (s2 : State) (reason index : Nat), itemReady n 0x10 s = some i ∧ widthsOk i.words [56, 32] = true ∧ wordAt i.words 1 % 64 = 0 ∧ tryRead n i.tenant (wordAt i.words 1) (wordAt i.words 2) (setItem n i s) = .ok bytes s2 ∧ verifyImage i.tenant (Par.fuelMax s2) bytes = .error (reason, index)) ∧
    (∃ (n : Nat) (s : State) (i : Item) (bytes : List Byte) (s2 : State) (im : Image), itemReady n 0x10 s = some i ∧ widthsOk i.words [56, 32] = true ∧ wordAt i.words 1 % 64 = 0 ∧ tryRead n i.tenant (wordAt i.words 1) (wordAt i.words 2) (setItem n i s) = .ok bytes s2 ∧ verifyImage i.tenant (Par.fuelMax s2) bytes = .ok im ∧ im.profile ≠ 2 ∧ s2.co.images = [] ∧ im.granules ≤ 16384 ∧ im.granules ≤ Par.tenantStoreKib s2) ∧
    (∃ (n : Nat) (s : State) (i : Item) (im : Image), itemReady n 0x11 s = some i ∧ widthsOk i.words [16] = true ∧ imageOf s i.tenant (wordAt i.words 1) = some im) ∧
    (∃ (n : Nat) (s : State) (i : Item), itemReady n 0x11 s = some i ∧ imageOf s i.tenant (wordAt i.words 1) = none) ∧
    (∃ (n : Nat) (s : State) (i : Item) (im : Image) (t : Nat), itemReady n 0x12 s = some i ∧ widthsOk i.words [24, 56, 32] = true ∧ wBits i.words 1 17 16 = 1 ∧ wordAt i.words 3 ≠ 0 ∧ wordAt i.words 3 ≤ Par.fuelMax s ∧ imageOf s i.tenant (wBits i.words 1 15 0) = some im ∧ im.profile = 0 ∧ im.kind = 0 ∧ leastLoaded (setItem n i s) (kitTabors (setItem n i s) (wBits i.words 1 23 18)) = some t) ∧
    (∃ (n : Nat) (s : State) (i : Item), itemReady n 0x12 s = some i ∧ wordAt i.words 3 = 0) := by
  refine ⟨⟨1, item 0x10 [0, 0, 64], w_program_items_and_scripts_0_2, ((accVal (tryRead (1) (w_program_items_and_scripts_0_2).tenant (wordAt (w_program_items_and_scripts_0_2).words 1) (wordAt (w_program_items_and_scripts_0_2).words 2) (setItem (1) (w_program_items_and_scripts_0_2) (item 0x10 [0, 0, 64])))).get (by decide +kernel)).1, w_program_items_and_scripts_0_4, 1, 0, by decide +kernel, by decide +kernel, by decide +kernel, by delta w_program_items_and_scripts_0_4; first | exact acc_val (by decide +kernel) (by decide +kernel) | exact acc_get _ | exact bad_of (by decide +kernel), by first | exact ok_get _ | exact acc_val (by decide +kernel) (by decide +kernel) | exact acc_get _ | exact err_of (by decide +kernel) | exact bad_of (by decide +kernel) | rfl⟩,
    ⟨1, w_program_items_and_scripts_1_1, w_program_items_and_scripts_1_2, ((accVal (tryRead (1) (w_program_items_and_scripts_1_2).tenant (wordAt (w_program_items_and_scripts_1_2).words 1) (wordAt (w_program_items_and_scripts_1_2).words 2) (setItem (1) (w_program_items_and_scripts_1_2) (w_program_items_and_scripts_1_1)))).get (by decide +kernel)).1, w_program_items_and_scripts_1_4, ((Except.toOption (verifyImage (w_program_items_and_scripts_1_2).tenant (Par.fuelMax (w_program_items_and_scripts_1_4)) (((accVal (tryRead (1) (w_program_items_and_scripts_1_2).tenant (wordAt (w_program_items_and_scripts_1_2).words 1) (wordAt (w_program_items_and_scripts_1_2).words 2) (setItem (1) (w_program_items_and_scripts_1_2) (w_program_items_and_scripts_1_1)))).get (by decide +kernel)).1))).get (by decide +kernel)), by decide +kernel, by decide +kernel, by decide +kernel, by delta w_program_items_and_scripts_1_4; first | exact acc_val (by decide +kernel) (by decide +kernel) | exact acc_get _ | exact bad_of (by decide +kernel), by first | exact ok_get _ | exact acc_val (by decide +kernel) (by decide +kernel) | exact acc_get _ | exact err_of (by decide +kernel) | exact bad_of (by decide +kernel) | rfl, by decide +kernel, by decide +kernel, by decide +kernel, by decide +kernel⟩,
    ⟨1, itemI 0x11 [0, 0], ((itemReady (1) 0x11 (itemI 0x11 [0, 0])).get (by decide +kernel)), ((imageOf (itemI 0x11 [0, 0]) (((itemReady (1) 0x11 (itemI 0x11 [0, 0])).get (by decide +kernel))).tenant (wordAt (((itemReady (1) 0x11 (itemI 0x11 [0, 0])).get (by decide +kernel))).words 1)).get (by decide +kernel)), by decide +kernel⟩,
    ⟨1, itemI 0x11 [0, 7], ((itemReady (1) 0x11 (itemI 0x11 [0, 7])).get (by decide +kernel)), by decide +kernel⟩,
    ⟨1, itemI 0x12 [0, 2 ^ 16, 0, 100], ((itemReady (1) 0x12 (itemI 0x12 [0, 2 ^ 16, 0, 100])).get (by decide +kernel)), im0, 0, by decide +kernel⟩,
    ⟨1, itemI 0x12 [0, 2 ^ 16, 0, 0], ((itemReady (1) 0x12 (itemI 0x12 [0, 2 ^ 16, 0, 0])).get (by decide +kernel)), by decide +kernel⟩⟩

theorem test_witness_program_items_and_scripts_2 :
    (∃ (n : Nat) (s : State) (i : Item) (im : Image) (job : Nat), itemReady n 0x13 s = some i ∧ widthsOk i.words [16, 16] = true ∧ Par.galePrograms s ≠ 0 ∧ imageOf s i.tenant (wordAt i.words 1) = some im ∧ im.profile = 1 ∧ jobOf (setItem n i s) i.tenant = some job ∧ s.co.attach.length < 256) ∧
    (∃ (n : Nat) (s : State) (i : Item) (job : Nat), itemReady n 0x14 s = some i ∧ widthsOk i.words [0, 16] = true ∧ jobOf (setItem n i s) i.tenant = some job) ∧
    (∃ (n : Nat) (s : State) (i : Item) (m : Nat) (s2 : State), itemReady n 0x1A s = some i ∧ widthsOk i.words [] = true ∧ postCopy (.item n) i.tenant (slice i.words 8 8) (setItem n i s) = .ok (m, s2)) ∧
    (∃ (n : Nat) (s : State) (i : Item) (st : Nat), itemReady n 0x1A s = some i ∧ widthsOk i.words [] = true ∧ postCopy (.item n) i.tenant (slice i.words 8 8) (setItem n i s) = .error st) ∧
    (∃ (s : State) (slot due : Nat), s.od.periodDue.get? slot = some due ∧ carillonUp s = true ∧ slotRuns s slot = true ∧ Par.scriptTrigger s slot = 3) ∧
    (∃ (s : State) (f : Firing), s.od.firings.length < 64) := by
  refine ⟨⟨1, itemI 0x13 [0, 1, 0], ((itemReady (1) 0x13 (itemI 0x13 [0, 1, 0])).get (by decide +kernel)), { im0 with profile := 1, kind := 3 }, 5, by decide +kernel⟩,
    ⟨1, itemI 0x14 [0, 0, 0], ((itemReady (1) 0x14 (itemI 0x14 [0, 0, 0])).get (by decide +kernel)), 5, by decide +kernel⟩,
    ⟨1, item 0x1A [0, 0, 0, 0, 0, 0, 0, 0, 0, 0, 0, 64, 0, 0, 0, 0], ((itemReady (1) 0x1A (item 0x1A [0, 0, 0, 0, 0, 0, 0, 0, 0, 0, 0, 64, 0, 0, 0, 0])).get (by decide +kernel)), ((Except.toOption (postCopy (.item (1)) (((itemReady (1) 0x1A (item 0x1A [0, 0, 0, 0, 0, 0, 0, 0, 0, 0, 0, 64, 0, 0, 0, 0])).get (by decide +kernel))).tenant (slice (((itemReady (1) 0x1A (item 0x1A [0, 0, 0, 0, 0, 0, 0, 0, 0, 0, 0, 64, 0, 0, 0, 0])).get (by decide +kernel))).words 8 8) (setItem (1) (((itemReady (1) 0x1A (item 0x1A [0, 0, 0, 0, 0, 0, 0, 0, 0, 0, 0, 64, 0, 0, 0, 0])).get (by decide +kernel))) (item 0x1A [0, 0, 0, 0, 0, 0, 0, 0, 0, 0, 0, 64, 0, 0, 0, 0])))).get (by decide +kernel)).1, ((Except.toOption (postCopy (.item (1)) (((itemReady (1) 0x1A (item 0x1A [0, 0, 0, 0, 0, 0, 0, 0, 0, 0, 0, 64, 0, 0, 0, 0])).get (by decide +kernel))).tenant (slice (((itemReady (1) 0x1A (item 0x1A [0, 0, 0, 0, 0, 0, 0, 0, 0, 0, 0, 64, 0, 0, 0, 0])).get (by decide +kernel))).words 8 8) (setItem (1) (((itemReady (1) 0x1A (item 0x1A [0, 0, 0, 0, 0, 0, 0, 0, 0, 0, 0, 64, 0, 0, 0, 0])).get (by decide +kernel))) (item 0x1A [0, 0, 0, 0, 0, 0, 0, 0, 0, 0, 0, 64, 0, 0, 0, 0])))).get (by decide +kernel)).2, by decide +kernel, by decide +kernel, by first | exact ok_pair _ | exact ok_get _ | exact acc_val (by decide +kernel) (by decide +kernel) | exact acc_get _ | exact err_of (by decide +kernel) | exact bad_of (by decide +kernel) | rfl⟩,
    ⟨1, item 0x1A [0, 0, 0, 0, 0, 0, 0, 0, 0, 0, 0, 0, 0, 0, 0, 0], ((itemReady (1) 0x1A (item 0x1A [0, 0, 0, 0, 0, 0, 0, 0, 0, 0, 0, 0, 0, 0, 0, 0])).get (by decide +kernel)), Config.invalidDescriptor, by decide +kernel, by decide +kernel, by first | exact ok_get _ | exact acc_val (by decide +kernel) (by decide +kernel) | exact acc_get _ | exact err_of (by decide +kernel) | exact bad_of (by decide +kernel) | rfl⟩,
    ⟨((up).setOd { up.od with periodDue := [(0, 0)], num := [(0x081002, 3), (0x081004, 1)], oct := [(0x081001, [1])] }) , 0, 0, by decide +kernel⟩,
    ⟨up, ⟨0, 0, 0, 0, 0⟩, by decide +kernel⟩⟩

theorem test_witness_program_items_and_scripts_3 :
    (∃ (s : State) (f : Firing), 64 ≤ s.od.firings.length) ∧
    (∃ (s : State) (f : Firing) (rest : List Firing) (im : Image), s.od.firings = f :: rest ∧ carillonUp s = true ∧ s.od.script = none ∧ slotRuns s f.slot = true ∧ verifyImage 0 (2 ^ 32) (s.od.oct.getD ((0x0810 + f.slot) * 256 + 1) []) = .ok im) ∧
    (∃ (s : State) (f : Firing) (rest : List Firing), s.od.firings = f :: rest ∧ carillonUp s = true ∧ s.od.script = none ∧ slotRuns s f.slot = false) ∧
    (∃ (p : Proc) (w : BitVec 32) (s : State) (c : Ctx) (v : Nat), issues .odRd p w s = some c ∧ scriptRead s (srcA w c).toNat = some v) ∧
    (∃ (p : Proc) (w : BitVec 32) (s : State) (c : Ctx), issues .odRd p w s = some c ∧ scriptRead s (srcA w c).toNat = none) ∧
    (∃ (p : Proc) (w : BitVec 32) (s : State) (c : Ctx) (t : State), issues .odWr p w s = some c ∧ scriptWrite s (srcA w c).toNat (srcB w c).toNat = some t) := by
  refine ⟨⟨((up).setOd { up.od with firings := List.replicate 64 ⟨0, 0, 0, 0, 0⟩ }) , ⟨0, 0, 0, 0, 0⟩, by decide +kernel⟩,
    ⟨((up).setOd { up.od with firings := [⟨0, 0, 0, 0, 0⟩], num := [(0x081004, 1)], oct := [(0x081001, img 2 4 10 [0x60])] }) , (⟨0, 0, 0, 0, 0⟩ : Firing), [], ((Except.toOption (verifyImage 0 (2 ^ 32) ((((up).setOd { up.od with firings := [⟨0, 0, 0, 0, 0⟩], num := [(0x081004, 1)], oct := [(0x081001, img 2 4 10 [0x60])] }) ).od.oct.getD ((0x0810 + ((⟨0, 0, 0, 0, 0⟩ : Firing)).slot) * 256 + 1) []))).get (by decide +kernel)), by decide +kernel, by decide +kernel, by decide +kernel, by decide +kernel, by first | exact ok_get _ | exact acc_val (by decide +kernel) (by decide +kernel) | exact acc_get _ | exact err_of (by decide +kernel) | exact bad_of (by decide +kernel) | rfl⟩,
    ⟨((up).setOd { up.od with firings := [⟨0, 0, 0, 0, 0⟩] }) , ⟨0, 0, 0, 0, 0⟩, [], by decide +kernel⟩,
    ⟨.carillon, (reg 0x74 0), (runC (reg 0x74 0) ({ c0 with x := [(2, 0x080001)] })), ((issues .odRd .carillon (reg 0x74 0) (runC (reg 0x74 0) ({ c0 with x := [(2, 0x080001)] }))).get (by decide +kernel)), ((scriptRead ((runC (reg 0x74 0) ({ c0 with x := [(2, 0x080001)] }))) (srcA ((reg 0x74 0)) (((issues .odRd .carillon (reg 0x74 0) (runC (reg 0x74 0) ({ c0 with x := [(2, 0x080001)] }))).get (by decide +kernel)))).toNat).get (by decide +kernel)), by decide +kernel⟩,
    ⟨.carillon, (reg 0x74 0), (runC (reg 0x74 0) (c0)), ((issues .odRd .carillon (reg 0x74 0) (runC (reg 0x74 0) (c0))).get (by decide +kernel)), by decide +kernel⟩,
    ⟨.carillon, (reg 0x74 1), (runC (reg 0x74 1) ({ c0 with x := [(2, 0x080001), (3, 1)] })), ((issues .odWr .carillon (reg 0x74 1) (runC (reg 0x74 1) ({ c0 with x := [(2, 0x080001), (3, 1)] }))).get (by decide +kernel)), ((scriptWrite ((runC (reg 0x74 1) ({ c0 with x := [(2, 0x080001), (3, 1)] }))) (srcA ((reg 0x74 1)) (((issues .odWr .carillon (reg 0x74 1) (runC (reg 0x74 1) ({ c0 with x := [(2, 0x080001), (3, 1)] }))).get (by decide +kernel)))).toNat (srcB ((reg 0x74 1)) (((issues .odWr .carillon (reg 0x74 1) (runC (reg 0x74 1) ({ c0 with x := [(2, 0x080001), (3, 1)] }))).get (by decide +kernel)))).toNat).get (by decide +kernel)), by decide +kernel⟩⟩

theorem test_witness_program_items_and_scripts_4 :
(∃ (p : Proc) (w : BitVec 32) (s : State) (c : Ctx), issues .odEvent p w s = some c) :=
  ⟨.carillon, (reg 0x74 2), (runC (reg 0x74 2) (c0)), ((issues .odEvent .carillon (reg 0x74 2) (runC (reg 0x74 2) (c0))).get (by decide +kernel)), by decide +kernel⟩

def w_rounds_gather_and_apply_0_5 : Item := ((itemReady (1) 0x20 (item 0x20 wR)).get (by decide +kernel))

def w_rounds_gather_and_apply_0_2 : State := ((accVal (lookAll (1) (w_rounds_gather_and_apply_0_5).tenant (roundRanges (w_rounds_gather_and_apply_0_5).words) (setItem (1) (w_rounds_gather_and_apply_0_5) (item 0x20 wR)))).get (by decide +kernel)).2

def w_rounds_gather_and_apply_0_3 : State := ((accVal (readParts ((((accVal (lookAll (1) (w_rounds_gather_and_apply_0_5).tenant (roundRanges (w_rounds_gather_and_apply_0_5).words) (setItem (1) (w_rounds_gather_and_apply_0_5) (item 0x20 wR)))).get (by decide +kernel)).1.1).getD 1 []) (w_rounds_gather_and_apply_0_2))).get (by decide +kernel)).2

def w_rounds_gather_and_apply_0_4 : State := (ptcAdmitAll (((accVal (lookAll (1) (w_rounds_gather_and_apply_0_5).tenant (roundRanges (w_rounds_gather_and_apply_0_5).words) (setItem (1) (w_rounds_gather_and_apply_0_5) (item 0x20 wR)))).get (by decide +kernel)).1.2).eraseDups ((w_rounds_gather_and_apply_0_3).setTi { (w_rounds_gather_and_apply_0_3).ti with workSlots := (w_rounds_gather_and_apply_0_3).ti.workSlots + workNeed (w_rounds_gather_and_apply_0_5).words }))

def w_rounds_gather_and_apply_4_2 : State := (((item 0x21 [0, 3, 64, 0, 1])).setSv { (item 0x21 [0, 3, 64, 0, 1]).sv with rounds := [(1, rd0)] }) 

def w_rounds_gather_and_apply_4_4 : Item := ((itemReady (1) 0x21 (w_rounds_gather_and_apply_4_2)).get (by decide +kernel))

def w_rounds_gather_and_apply_4_3 : State := ((accVal (tryRead (1) (w_rounds_gather_and_apply_4_4).tenant (wordAt (w_rounds_gather_and_apply_4_4).words 2) 64 (setItem (1) (w_rounds_gather_and_apply_4_4) (w_rounds_gather_and_apply_4_2)))).get (by decide +kernel)).2

theorem test_witness_rounds_gather_and_apply_1 :
    (∃ (n : Nat) (s s2 s3 t : State) (i : Item) (ps : List (List (Nat × Nat × Nat))) (ents : List Nat) (tbl : List Byte) (inbox : Nat) (table : List (Nat × Nat × Nat × Nat)) (r : Round), itemReady n 0x20 s = some i ∧ bitOf (wordAt i.words 1) 16 = false ∧ wBits i.words 1 18 17 ≠ 3 ∧ declareOk i.words = true ∧ openRound s i.tenant (wBits i.words 1 15 0) = none ∧ lookAll n i.tenant (roundRanges i.words) (setItem n i s) = .ok (ps, ents) s2 ∧ readParts (ps.getD 1 []) s2 = .ok tbl s3 ∧ oneRun (ps.getD 0 []) = some inbox ∧ contribTable (wBits i.words 1 47 35) tbl = some table ∧ s3.sv.rounds = [] ∧ 0 < Par.roundsMax s3 ∧ 0 < Par.roundsPerTenant s3 ∧ workNeed i.words ≤ freeSlots s3 1 ∧ 100 * (s3.ti.workSlots + workNeed i.words) ≤ Par.workMaxPct s3 * s3.ti.hbmSlots ∧ r = { tenant := i.tenant, id := wBits i.words 1 15 0, item := n, words := i.words, table := table, inbox := inbox, inboxLines := wBits i.words 1 47 35 * slotLines i.words, work := workNeed i.words, ptcs := ents.eraseDups, stallFrom := s3.now } ∧ t = ptcAdmitAll ents.eraseDups (s3.setTi { s3.ti with workSlots := s3.ti.workSlots + workNeed i.words })) ∧
    (∃ (n : Nat) (s : State) (i : Item), itemReady n 0x20 s = some i ∧ bitOf (wordAt i.words 1) 16 = false ∧ declareOk i.words = false) ∧
    (∃ (n k : Nat) (s : State) (i : Item) (r : Round), itemReady n 0x20 s = some i ∧ bitOf (wordAt i.words 1) 16 = true ∧ wordAt i.words 1 < 2 ^ 17 ∧ (List.range 14).all (fun k => wordAt i.words (k + 2) = 0) = true ∧ openRound s i.tenant (wBits i.words 1 15 0) = some (k, r)) ∧
    (∃ (n : Nat) (s : State) (i : Item), itemReady n 0x20 s = some i ∧ bitOf (wordAt i.words 1) 16 = true ∧ wordAt i.words 1 < 2 ^ 17 ∧ (List.range 14).all (fun k => wordAt i.words (k + 2) = 0) = true ∧ openRound s i.tenant (wBits i.words 1 15 0) = none) ∧
    (∃ (n k : Nat) (s t : State) (i : Item) (r : Round) (b : List Byte), itemReady n 0x21 s = some i ∧ openRound s i.tenant (wBits i.words 1 15 0) = some (k, r) ∧ widthsOk i.words [29, 64, 32, 32] = true ∧ (List.range 7).all (fun k => wordAt i.words (9 + k) = 0) = true ∧ wordAt i.words 8 = 0 ∧ wBits i.words 1 27 16 < r.n ∧ wordAt i.words 2 % 64 = 0 ∧ wordAt i.words 4 = 1 ∧ wordAt i.words 3 + 1 ≤ slotLines r.words ∧ bitOf (wordAt i.words 1) 28 = false ∧ i.prog = 0 ∧ tryRead n i.tenant (wordAt i.words 2) 64 (setItem n i s) = .ok b t) ∧
    (∃ (w k : Nat) (s : State) (lw : LineWrite) (r : Round), s.powered = true ∧ s.sv.writes.get? w = some lw ∧ inboxOf s lw.pha = some k ∧ s.sv.rounds.get? k = some r ∧ r.ended = none ∧ lw.whole = true ∧ r.bitmap.mem ((lw.pha - r.inbox) / 64) = false) := by
  refine ⟨⟨1, item 0x20 wR, w_rounds_gather_and_apply_0_2, w_rounds_gather_and_apply_0_3, w_rounds_gather_and_apply_0_4, w_rounds_gather_and_apply_0_5, ((accVal (lookAll (1) (w_rounds_gather_and_apply_0_5).tenant (roundRanges (w_rounds_gather_and_apply_0_5).words) (setItem (1) (w_rounds_gather_and_apply_0_5) (item 0x20 wR)))).get (by decide +kernel)).1.1, ((accVal (lookAll (1) (w_rounds_gather_and_apply_0_5).tenant (roundRanges (w_rounds_gather_and_apply_0_5).words) (setItem (1) (w_rounds_gather_and_apply_0_5) (item 0x20 wR)))).get (by decide +kernel)).1.2, ((accVal (readParts ((((accVal (lookAll (1) (w_rounds_gather_and_apply_0_5).tenant (roundRanges (w_rounds_gather_and_apply_0_5).words) (setItem (1) (w_rounds_gather_and_apply_0_5) (item 0x20 wR)))).get (by decide +kernel)).1.1).getD 1 []) (w_rounds_gather_and_apply_0_2))).get (by decide +kernel)).1, ((oneRun ((((accVal (lookAll (1) (w_rounds_gather_and_apply_0_5).tenant (roundRanges (w_rounds_gather_and_apply_0_5).words) (setItem (1) (w_rounds_gather_and_apply_0_5) (item 0x20 wR)))).get (by decide +kernel)).1.1).getD 0 [])).get (by decide +kernel)), ((contribTable (wBits (w_rounds_gather_and_apply_0_5).words 1 47 35) (((accVal (readParts ((((accVal (lookAll (1) (w_rounds_gather_and_apply_0_5).tenant (roundRanges (w_rounds_gather_and_apply_0_5).words) (setItem (1) (w_rounds_gather_and_apply_0_5) (item 0x20 wR)))).get (by decide +kernel)).1.1).getD 1 []) (w_rounds_gather_and_apply_0_2))).get (by decide +kernel)).1)).get (by decide +kernel)), ({ tenant := (w_rounds_gather_and_apply_0_5).tenant, id := wBits (w_rounds_gather_and_apply_0_5).words 1 15 0, item := (1), words := (w_rounds_gather_and_apply_0_5).words, table := (((contribTable (wBits (w_rounds_gather_and_apply_0_5).words 1 47 35) (((accVal (readParts ((((accVal (lookAll (1) (w_rounds_gather_and_apply_0_5).tenant (roundRanges (w_rounds_gather_and_apply_0_5).words) (setItem (1) (w_rounds_gather_and_apply_0_5) (item 0x20 wR)))).get (by decide +kernel)).1.1).getD 1 []) (w_rounds_gather_and_apply_0_2))).get (by decide +kernel)).1)).get (by decide +kernel))), inbox := (((oneRun ((((accVal (lookAll (1) (w_rounds_gather_and_apply_0_5).tenant (roundRanges (w_rounds_gather_and_apply_0_5).words) (setItem (1) (w_rounds_gather_and_apply_0_5) (item 0x20 wR)))).get (by decide +kernel)).1.1).getD 0 [])).get (by decide +kernel))), inboxLines := wBits (w_rounds_gather_and_apply_0_5).words 1 47 35 * slotLines (w_rounds_gather_and_apply_0_5).words, work := workNeed (w_rounds_gather_and_apply_0_5).words, ptcs := (((accVal (lookAll (1) (w_rounds_gather_and_apply_0_5).tenant (roundRanges (w_rounds_gather_and_apply_0_5).words) (setItem (1) (w_rounds_gather_and_apply_0_5) (item 0x20 wR)))).get (by decide +kernel)).1.2).eraseDups, stallFrom := (w_rounds_gather_and_apply_0_3).now }), by decide +kernel, by decide +kernel, by decide +kernel, by decide +kernel, by decide +kernel, by delta w_rounds_gather_and_apply_0_2; first | exact acc_val (by decide +kernel) (by decide +kernel) | exact acc_get _ | exact bad_of (by decide +kernel), by delta w_rounds_gather_and_apply_0_3; first | exact acc_val (by decide +kernel) (by decide +kernel) | exact acc_get _ | exact bad_of (by decide +kernel), by decide +kernel, by decide +kernel, by decide +kernel, by decide +kernel, by decide +kernel, by decide +kernel, by decide +kernel, by decide +kernel, by decide +kernel⟩,
    ⟨1, item 0x20 [0, 3], ((itemReady (1) 0x20 (item 0x20 [0, 3])).get (by decide +kernel)), by decide +kernel⟩,
    ⟨1, 1, (((item 0x20 [0, 2 ^ 16 + 3])).setSv { (item 0x20 [0, 2 ^ 16 + 3]).sv with rounds := [(1, rd0)] }) , ((itemReady (1) 0x20 ((((item 0x20 [0, 2 ^ 16 + 3])).setSv { (item 0x20 [0, 2 ^ 16 + 3]).sv with rounds := [(1, rd0)] }) )).get (by decide +kernel)), rd0, by decide +kernel⟩,
    ⟨1, item 0x20 [0, 2 ^ 16 + 3], ((itemReady (1) 0x20 (item 0x20 [0, 2 ^ 16 + 3])).get (by decide +kernel)), by decide +kernel⟩,
    ⟨1, 1, w_rounds_gather_and_apply_4_2, w_rounds_gather_and_apply_4_3, w_rounds_gather_and_apply_4_4, rd0, ((accVal (tryRead (1) (w_rounds_gather_and_apply_4_4).tenant (wordAt (w_rounds_gather_and_apply_4_4).words 2) 64 (setItem (1) (w_rounds_gather_and_apply_4_4) (w_rounds_gather_and_apply_4_2)))).get (by decide +kernel)).1, by decide +kernel, by decide +kernel, by decide +kernel, by decide +kernel, by decide +kernel, by decide +kernel, by decide +kernel, by decide +kernel, by decide +kernel, by decide +kernel, by decide +kernel, by delta w_rounds_gather_and_apply_4_3; first | exact acc_val (by decide +kernel) (by decide +kernel) | exact acc_get _ | exact bad_of (by decide +kernel)⟩,
    ⟨1, 1, ((up).setSv { up.sv with rounds := [(1, rd0)], writes := [(1, lw0)] }) , lw0, rd0, by decide +kernel⟩⟩

def w_rounds_gather_and_apply_8_3 : State := ((upF).setSv { upF.sv with rounds := [(1, { rd0 with pieces := [(1, ⟨0, [], 5⟩)], writes := [(5, (2, .item 7))] })] }) 

def w_rounds_gather_and_apply_8_4 : State := ((accVal (applyUnit (1) ({ rd0 with pieces := [(1, ⟨0, [], 5⟩)], writes := [(5, (2, .item 7))] } : Round) (⟨0, [], 5⟩ : Piece).unit ((accumulate false (({ rd0 with pieces := [(1, ⟨0, [], 5⟩)], writes := [(5, (2, .item 7))] } : Round).units.getD (⟨0, [], 5⟩ : Piece).unit {}) (⟨0, [], 5⟩ : Piece))).acc (w_rounds_gather_and_apply_8_3))).get (by decide +kernel)).2

theorem test_witness_rounds_gather_and_apply_2 :
    (∃ (w k : Nat) (s : State) (lw : LineWrite) (r : Round), s.powered = true ∧ s.sv.writes.get? w = some lw ∧ inboxOf s lw.pha = some k ∧ s.sv.rounds.get? k = some r ∧ r.ended = none ∧ (lw.whole = false ∨ r.bitmap.mem ((lw.pha - r.inbox) / 64) = true)) ∧
    (∃ (k x m : Nat) (s : State) (r : Round) (p : Piece) (wr : Writer), s.powered = true ∧ s.sv.rounds.get? k = some r ∧ r.pieces.get? x = some p ∧ r.ended = none ∧ r.writes.get? p.write = some (m + 2, wr) ∧ (r.units.getD p.unit {}).got + 1 < r.n) ∧
    (∃ (k x m : Nat) (s t : State) (r : Round) (p : Piece) (wr : Writer) (ru : RUnit) (skipped poisoned : Bool), s.powered = true ∧ s.sv.rounds.get? k = some r ∧ r.pieces.get? x = some p ∧ r.ended = none ∧ bitOf (wordAt r.words 1) 31 = false ∧ r.writes.get? p.write = some (m + 2, wr) ∧ ru = accumulate false (r.units.getD p.unit {}) p ∧ r.n ≤ ru.got ∧ applyUnit k r p.unit ru.acc s = .ok (skipped, poisoned) t) ∧
    (∃ (k no b : Nat) (s : State) (r : Round) (a : RArr) (v0 v1 : List Nat), s.powered = true ∧ s.sv.rounds.get? k = some r ∧ r.ended = none ∧ (stateArrs r.words ++ publishArr r.words).find? (fun a => a.no = no && a.mx) = some a ∧ r.halves.get? (2 ^ 40 * no + b) = some [(0, v0), (1, v1)] ∧ (r.units.get? (2 * b)).any (fun x => x.poisoned) = true ∧ (r.units.get? (2 * b + 1)).any (fun x => x.poisoned) = true) ∧
    (∃ (k no b : Nat) (s t : State) (r : Round) (a : RArr) (v0 v1 : List Nat) (eps sps : List (Nat × Nat × Nat)), s.powered = true ∧ s.sv.rounds.get? k = some r ∧ r.ended = none ∧ (stateArrs r.words ++ publishArr r.words).find? (fun a => a.no = no && a.mx) = some a ∧ r.halves.get? (2 ^ 40 * no + b) = some [(0, v0), (1, v1)] ∧ (r.units.get? (2 * b)).any (fun x => x.poisoned) = false ∧ eps = heldRange s r.ptcs r.tenant (a.pva + b * 4 * a.elt.width) (4 * a.elt.width) ∧ sps = heldRange s r.ptcs r.tenant (a.scale + b) 1 ∧ gateParts (eps ++ sps) r.tenant s = (t, .ok) ∧ bitOf (wordAt r.words 1) (if no = 2 then 30 else 25) = false) ∧
    (∃ (k u : Nat) (s : State) (r : Round) (ru : RUnit), s.powered = true ∧ s.sv.rounds.get? k = some r ∧ r.units.get? u = some ru ∧ ru.phase = 1 ∧ r.halves = []) := by
  refine ⟨⟨1, 1, ((up).setSv { up.sv with rounds := [(1, rd0)], writes := [(1, { lw0 with whole := false })] }) , { lw0 with whole := false }, rd0, by decide +kernel⟩,
    ⟨1, 1, 0, ((up).setSv { up.sv with rounds := [(1, { rd0 with words := [0, 3 + 2 ^ 36, 0, 1], pieces := [(1, ⟨0, [], 5⟩)], writes := [(5, (2, .item 7))] })] }) , { rd0 with words := [0, 3 + 2 ^ 36, 0, 1], pieces := [(1, ⟨0, [], 5⟩)], writes := [(5, (2, .item 7))] }, ⟨0, [], 5⟩, .item 7, by decide +kernel⟩,
    ⟨1, 1, 0, w_rounds_gather_and_apply_8_3, w_rounds_gather_and_apply_8_4, { rd0 with pieces := [(1, ⟨0, [], 5⟩)], writes := [(5, (2, .item 7))] }, ⟨0, [], 5⟩, .item 7, (accumulate false (({ rd0 with pieces := [(1, ⟨0, [], 5⟩)], writes := [(5, (2, .item 7))] } : Round).units.getD (⟨0, [], 5⟩ : Piece).unit {}) (⟨0, [], 5⟩ : Piece)), ((accVal (applyUnit (1) ({ rd0 with pieces := [(1, ⟨0, [], 5⟩)], writes := [(5, (2, .item 7))] } : Round) (⟨0, [], 5⟩ : Piece).unit ((accumulate false (({ rd0 with pieces := [(1, ⟨0, [], 5⟩)], writes := [(5, (2, .item 7))] } : Round).units.getD (⟨0, [], 5⟩ : Piece).unit {}) (⟨0, [], 5⟩ : Piece))).acc (w_rounds_gather_and_apply_8_3))).get (by decide +kernel)).1.1, ((accVal (applyUnit (1) ({ rd0 with pieces := [(1, ⟨0, [], 5⟩)], writes := [(5, (2, .item 7))] } : Round) (⟨0, [], 5⟩ : Piece).unit ((accumulate false (({ rd0 with pieces := [(1, ⟨0, [], 5⟩)], writes := [(5, (2, .item 7))] } : Round).units.getD (⟨0, [], 5⟩ : Piece).unit {}) (⟨0, [], 5⟩ : Piece))).acc (w_rounds_gather_and_apply_8_3))).get (by decide +kernel)).1.2, by decide +kernel, by decide +kernel, by decide +kernel, by decide +kernel, by decide +kernel, by decide +kernel, by decide +kernel, by decide +kernel, by delta w_rounds_gather_and_apply_8_4; first | exact acc_val (by decide +kernel) (by decide +kernel) | exact acc_get _ | exact bad_of (by decide +kernel)⟩,
    ⟨1, 0, 0, ((up).setSv { up.sv with rounds := [(1, { rdX with units := [(0, { poisoned := true }), (1, { poisoned := true })] })] }) , { rdX with units := [(0, { poisoned := true }), (1, { poisoned := true })] }, (((stateArrs ({ rdX with units := [(0, { poisoned := true }), (1, { poisoned := true })] } : Round).words ++ publishArr ({ rdX with units := [(0, { poisoned := true }), (1, { poisoned := true })] } : Round).words).find? (fun a => a.no = (0) && a.mx)).get (by decide +kernel)), List.replicate 16 0, List.replicate 16 0, by decide +kernel⟩,
    ⟨1, 0, 0, ((upF).setSv { upF.sv with rounds := [(1, rdX)] }) , (gateParts (((heldRange (((upF).setSv { upF.sv with rounds := [(1, rdX)] }) ) (rdX).ptcs (rdX).tenant (((((stateArrs (rdX).words ++ publishArr (rdX).words).find? (fun a => a.no = (0) && a.mx)).get (by decide +kernel))).pva + (0) * 4 * ((((stateArrs (rdX).words ++ publishArr (rdX).words).find? (fun a => a.no = (0) && a.mx)).get (by decide +kernel))).elt.width) (4 * ((((stateArrs (rdX).words ++ publishArr (rdX).words).find? (fun a => a.no = (0) && a.mx)).get (by decide +kernel))).elt.width))) ++ ((heldRange (((upF).setSv { upF.sv with rounds := [(1, rdX)] }) ) (rdX).ptcs (rdX).tenant (((((stateArrs (rdX).words ++ publishArr (rdX).words).find? (fun a => a.no = (0) && a.mx)).get (by decide +kernel))).scale + (0)) 1))) (rdX).tenant (((upF).setSv { upF.sv with rounds := [(1, rdX)] }) )).1, rdX, (((stateArrs (rdX).words ++ publishArr (rdX).words).find? (fun a => a.no = (0) && a.mx)).get (by decide +kernel)), List.replicate 16 0, List.replicate 16 0, (heldRange (((upF).setSv { upF.sv with rounds := [(1, rdX)] }) ) (rdX).ptcs (rdX).tenant (((((stateArrs (rdX).words ++ publishArr (rdX).words).find? (fun a => a.no = (0) && a.mx)).get (by decide +kernel))).pva + (0) * 4 * ((((stateArrs (rdX).words ++ publishArr (rdX).words).find? (fun a => a.no = (0) && a.mx)).get (by decide +kernel))).elt.width) (4 * ((((stateArrs (rdX).words ++ publishArr (rdX).words).find? (fun a => a.no = (0) && a.mx)).get (by decide +kernel))).elt.width)), (heldRange (((upF).setSv { upF.sv with rounds := [(1, rdX)] }) ) (rdX).ptcs (rdX).tenant (((((stateArrs (rdX).words ++ publishArr (rdX).words).find? (fun a => a.no = (0) && a.mx)).get (by decide +kernel))).scale + (0)) 1), by decide +kernel, by decide +kernel, by decide +kernel, by decide +kernel, by decide +kernel, by decide +kernel, by decide +kernel, by decide +kernel, by first | exact ok_get _ | exact acc_val (by decide +kernel) (by decide +kernel) | exact acc_get _ | exact err_of (by decide +kernel) | exact bad_of (by decide +kernel) | rfl, by decide +kernel⟩,
    ⟨1, 0, ((up).setSv { up.sv with rounds := [(1, { rd0 with units := [(0, { phase := 1 })] })] }) , { rd0 with units := [(0, { phase := 1 })] }, { phase := 1 }, by decide +kernel⟩⟩

theorem test_witness_rounds_gather_and_apply_3 :
    (∃ (k u : Nat) (s : State) (r : Round) (ru : RUnit), s.powered = true ∧ s.sv.rounds.get? k = some r ∧ r.units.get? u = some ru ∧ ru.phase ≠ 1) ∧
    (∃ (k : Nat) (s : State) (r : Round), s.powered = true ∧ s.sv.rounds.get? k = some r ∧ r.ended = none ∧ (r.units.count fun _ u => u.phase = 2) = r.units_ ∧ r.units.any (fun kv => kv.2.poisoned) = false) ∧
    (∃ (k : Nat) (s : State) (r : Round), s.powered = true ∧ s.sv.rounds.get? k = some r ∧ r.ended = none ∧ (r.units.count fun _ u => u.phase = 2) ≠ r.units_) ∧
    (∃ (k : Nat) (s : State) (r : Round), s.powered = true ∧ s.sv.rounds.get? k = some r ∧ r.finished = true) ∧
    (∃ (k : Nat) (s : State) (r : Round), s.powered = true ∧ s.pw.refclk = true ∧ s.sv.rounds.get? k = some r ∧ r.ended = none) := by
  refine ⟨⟨1, 0, ((up).setSv { up.sv with rounds := [(1, { rd0 with units := [(0, {})] })] }) , { rd0 with units := [(0, {})] }, {}, by decide +kernel⟩,
    ⟨1, ((up).setSv { up.sv with rounds := [(1, { rd0 with units := [(0, { phase := 2 })] })] }) , { rd0 with units := [(0, { phase := 2 })] }, by decide +kernel⟩,
    ⟨1, ((up).setSv { up.sv with rounds := [(1, rd0)] }) , rd0, by decide +kernel⟩,
    ⟨1, ((up).setSv { up.sv with rounds := [(1, { rd0 with finished := true })] }) , { rd0 with finished := true }, by decide +kernel⟩,
    ⟨1, ((up).setSv { up.sv with rounds := [(1, rd0)] }) , rd0, by decide +kernel⟩⟩

theorem test_witness_embedding_tables_serve_1 :
    (∃ (n : Nat) (s : State) (i : Item) (d : Desc), itemReady n 0x28 s = some i ∧ descOf i.words 1 = some d ∧ wordAt i.words 8 = 0 ∧ tableOf s i.tenant (wBits i.words 1 15 0) = none ∧ s.sv.tables.length < Par.tablesMax s ∧ s.sv.tables.count (fun _ t => t.tenant = i.tenant) < Par.tablesPerTenant s) ∧
    (∃ (n : Nat) (s : State) (i : Item), itemReady n 0x28 s = some i ∧ descOf i.words 1 = none) ∧
    (∃ (n k : Nat) (s : State) (i : Item) (t : Table) (d : Desc), itemReady n 0x29 s = some i ∧ openTable s i.tenant (wBits i.words 1 15 0) = some (k, t) ∧ descOf i.words (t.cur.version + 1) = some d ∧ wordAt i.words 8 = t.cur.version) ∧
    (∃ (n k : Nat) (s : State) (i : Item) (t : Table) (d : Desc), itemReady n 0x29 s = some i ∧ openTable s i.tenant (wBits i.words 1 15 0) = some (k, t) ∧ descOf i.words (t.cur.version + 1) = some d ∧ wordAt i.words 8 ≠ t.cur.version) ∧
    (∃ (k m : Nat) (s : State) (t : Table), s.powered = true ∧ s.sv.tables.get? k = some t ∧ livePins s t = [] ∧ t.replacing = [] ∧ t.destroying = some m) ∧
    (∃ (k m v : Nat) (s : State) (t : Table), s.powered = true ∧ s.sv.tables.get? k = some t ∧ livePins s t = [] ∧ t.replacing = [(m, v)] ∧ t.destroying = none) := by
  refine ⟨⟨1, item 0x28 [0, 3 + 2 ^ 21, 0, 4], ((itemReady (1) 0x28 (item 0x28 [0, 3 + 2 ^ 21, 0, 4])).get (by decide +kernel)), ((descOf (((itemReady (1) 0x28 (item 0x28 [0, 3 + 2 ^ 21, 0, 4])).get (by decide +kernel))).words 1).get (by decide +kernel)), by decide +kernel⟩,
    ⟨1, item 0x28 [0], ((itemReady (1) 0x28 (item 0x28 [0])).get (by decide +kernel)), by decide +kernel⟩,
    ⟨1, 1, (((item 0x29 [0, 3 + 2 ^ 21, 0, 4, 0, 0, 0, 0, 1])).setSv { (item 0x29 [0, 3 + 2 ^ 21, 0, 4, 0, 0, 0, 0, 1]).sv with tables := [(1, tb0)] }) , ((itemReady (1) 0x29 ((((item 0x29 [0, 3 + 2 ^ 21, 0, 4, 0, 0, 0, 0, 1])).setSv { (item 0x29 [0, 3 + 2 ^ 21, 0, 4, 0, 0, 0, 0, 1]).sv with tables := [(1, tb0)] }) )).get (by decide +kernel)), tb0, ((descOf (((itemReady (1) 0x29 ((((item 0x29 [0, 3 + 2 ^ 21, 0, 4, 0, 0, 0, 0, 1])).setSv { (item 0x29 [0, 3 + 2 ^ 21, 0, 4, 0, 0, 0, 0, 1]).sv with tables := [(1, tb0)] }) )).get (by decide +kernel))).words ((tb0).cur.version + 1)).get (by decide +kernel)), by decide +kernel⟩,
    ⟨1, 1, (((item 0x29 [0, 3 + 2 ^ 21, 0, 4])).setSv { (item 0x29 [0, 3 + 2 ^ 21, 0, 4]).sv with tables := [(1, tb0)] }) , ((itemReady (1) 0x29 ((((item 0x29 [0, 3 + 2 ^ 21, 0, 4])).setSv { (item 0x29 [0, 3 + 2 ^ 21, 0, 4]).sv with tables := [(1, tb0)] }) )).get (by decide +kernel)), tb0, ((descOf (((itemReady (1) 0x29 ((((item 0x29 [0, 3 + 2 ^ 21, 0, 4])).setSv { (item 0x29 [0, 3 + 2 ^ 21, 0, 4]).sv with tables := [(1, tb0)] }) )).get (by decide +kernel))).words ((tb0).cur.version + 1)).get (by decide +kernel)), by decide +kernel⟩,
    ⟨1, 5, ((up).setSv { up.sv with tables := [(1, { tb0 with destroying := some 5 })] }) , { tb0 with destroying := some 5 }, by decide +kernel⟩,
    ⟨1, 5, 2, ((up).setSv { up.sv with tables := [(1, { tb0 with replacing := [(5, 2)] })] }) , { tb0 with replacing := [(5, 2)] }, by decide +kernel⟩⟩

def w_embedding_tables_serve_7_2 : State := (((item 0x2A wL)).setSv { (item 0x2A wL).sv with tables := [(1, tb0)] }) 

def w_embedding_tables_serve_7_5 : Item := ((itemReady (1) 0x2A (w_embedding_tables_serve_7_2)).get (by decide +kernel))

def w_embedding_tables_serve_7_3 : State := (modItem (1) (fun (w_embedding_tables_serve_7_5) => { (w_embedding_tables_serve_7_5) with r1 := 2 ^ 32 * ((tb0).cur.version % 2 ^ 32) }) (setTable (1) { (tb0) with pins := (livePins (setItem (1) (w_embedding_tables_serve_7_5) (w_embedding_tables_serve_7_2)) (tb0)).set (1) (tb0).cur } (setItem (1) (w_embedding_tables_serve_7_5) (w_embedding_tables_serve_7_2))))

def w_embedding_tables_serve_7_4 : State := ((accVal (startLookup (1) (w_embedding_tables_serve_7_5) (tb0).cur (w_embedding_tables_serve_7_3))).get (by decide +kernel)).2

def w_embedding_tables_serve_8_1 : State := (((item 0x2A wL)).setSv { (item 0x2A wL).sv with lookups := [(1, lk0)] }) 

def w_embedding_tables_serve_8_3 : Item := ((itemReady (1) 0x2A (w_embedding_tables_serve_8_1)).get (by decide +kernel))

def w_embedding_tables_serve_8_2 : State := ((accVal (writeBags (1) (w_embedding_tables_serve_8_3) (lk0) (destOf (w_embedding_tables_serve_8_3).words (wBits (w_embedding_tables_serve_8_3).words 1 21 20) (wordAt (w_embedding_tables_serve_8_3).words 5) (bitOf (wordAt (w_embedding_tables_serve_8_3).words 1) 22)) ((lk0).sizes.length + 1) (w_embedding_tables_serve_8_3).prog (setItem (1) (w_embedding_tables_serve_8_3) (w_embedding_tables_serve_8_1)))).get (by decide +kernel)).2

def w_embedding_tables_serve_9_5 : State := (((item 0x2A wL)).setSv { (item 0x2A wL).sv with lookups := [(1, lk1)] }) 

def w_embedding_tables_serve_9_7 : Item := ((getItem? (w_embedding_tables_serve_9_5) (1)).get (by decide +kernel))

def w_embedding_tables_serve_9_6 : State := ((accVal (softRead (1) (w_embedding_tables_serve_9_7).tenant ((lk1).desc.rowsPva + (1) * (lk1).desc.stride) (lk1).desc.stride 1 (w_embedding_tables_serve_9_5))).get (by decide +kernel)).2

def w_embedding_tables_serve_10_5 : State := ((((item 0x2A wL)).setSv { (item 0x2A wL).sv with lookups := [(1, { lk1 with wait := ns [0] })] }) ).setMem [(70, 1)]

def w_embedding_tables_serve_10_7 : Item := ((getItem? (w_embedding_tables_serve_10_5) (1)).get (by decide +kernel))

def w_embedding_tables_serve_10_6 : State := ((accVal (softRead (1) (w_embedding_tables_serve_10_7).tenant (({ lk1 with wait := ns [0] } : Lookup).desc.rowsPva + (1) * ({ lk1 with wait := ns [0] } : Lookup).desc.stride) ({ lk1 with wait := ns [0] } : Lookup).desc.stride 1 (w_embedding_tables_serve_10_5))).get (by decide +kernel)).2

def w_embedding_tables_serve_11_2 : State := (((item 0x2B [0, 3 + 2 ^ 32, 1024, 2048])).setSv { (item 0x2B [0, 3 + 2 ^ 32, 1024, 2048]).sv with tables := [(1, tb0)] }) 

def w_embedding_tables_serve_11_6 : Item := ((itemReady (1) 0x2B (w_embedding_tables_serve_11_2)).get (by decide +kernel))

def w_embedding_tables_serve_11_3 : State := ((accVal (tryRead (1) (w_embedding_tables_serve_11_6).tenant (wordAt (w_embedding_tables_serve_11_6).words 2) 4 (setTable (1) { (tb0) with pins := (livePins (setItem (1) (w_embedding_tables_serve_11_6) (w_embedding_tables_serve_11_2)) (tb0)).set (1) (tb0).cur } (setItem (1) (w_embedding_tables_serve_11_6) (w_embedding_tables_serve_11_2))))).get (by decide +kernel)).2

def w_embedding_tables_serve_11_4 : State := ((accVal (tryRead (1) (w_embedding_tables_serve_11_6).tenant (wordAt (w_embedding_tables_serve_11_6).words 3) ((tb0).cur.d * 4) (w_embedding_tables_serve_11_3))).get (by decide +kernel)).2

def w_embedding_tables_serve_11_5 : State := ((accVal (updateRow (1) (w_embedding_tables_serve_11_6) (tb0).cur (leNat (((accVal (tryRead (1) (w_embedding_tables_serve_11_6).tenant (wordAt (w_embedding_tables_serve_11_6).words 2) 4 (setTable (1) { (tb0) with pins := (livePins (setItem (1) (w_embedding_tables_serve_11_6) (w_embedding_tables_serve_11_2)) (tb0)).set (1) (tb0).cur } (setItem (1) (w_embedding_tables_serve_11_6) (w_embedding_tables_serve_11_2))))).get (by decide +kernel)).1)) (eltCodes 32 (tb0).cur.d (((accVal (tryRead (1) (w_embedding_tables_serve_11_6).tenant (wordAt (w_embedding_tables_serve_11_6).words 3) ((tb0).cur.d * 4) (w_embedding_tables_serve_11_3))).get (by decide +kernel)).1)) (w_embedding_tables_serve_11_4))).get (by decide +kernel)).2

def w_embedding_tables_serve_11_7 : Item := ((getItem? (w_embedding_tables_serve_11_5) (1)).get (by decide +kernel))

theorem test_witness_embedding_tables_serve_2 :
    (∃ (n k : Nat) (s : State) (i : Item) (t : Table), itemReady n 0x2C s = some i ∧ openTable s i.tenant (wordAt i.words 1) = some (k, t) ∧ widthsOk i.words [16] = true) ∧
    (∃ (n k : Nat) (s u v : State) (i : Item) (t : Table), itemReady n 0x2A s = some i ∧ getLookup s n = none ∧ pinned s n = none ∧ openTable s i.tenant (wBits i.words 1 15 0) = some (k, t) ∧ lookupOk i.words (destOf i.words (wBits i.words 1 21 20) (wordAt i.words 5) (bitOf (wordAt i.words 1) 22)) = true ∧ s.sv.lookups = [] ∧ u = modItem n (fun i => { i with r1 := 2 ^ 32 * (t.cur.version % 2 ^ 32) }) (setTable k { t with pins := (livePins (setItem n i s) t).set n t.cur } (setItem n i s)) ∧ startLookup n i t.cur u = .ok () v) ∧
    (∃ (n : Nat) (s u : State) (i : Item) (l : Lookup), itemReady n 0x2A s = some i ∧ getLookup s n = some l ∧ l.todo = [] ∧ writeBags n i l (destOf i.words (wBits i.words 1 21 20) (wordAt i.words 5) (bitOf (wordAt i.words 1) 22)) (l.sizes.length + 1) i.prog (setItem n i s) = .ok () u) ∧
    (∃ (n p bag row : Nat) (wt : Option Nat) (s t : State) (i : Item) (l : Lookup) (b : List Byte), s.alive = true ∧ s.rc.warmStep = 0 ∧ getItem? s n = some i ∧ i.opcode = 0x2A ∧ i.ended = none ∧ i.wait = .none ∧ getLookup s n = some l ∧ l.todo.mem p = true ∧ l.wait.mem p = false ∧ l.idx.getD p (0, 0, none) = (bag, row, wt) ∧ row < l.desc.rows ∧ softRead n i.tenant (l.desc.rowsPva + row * l.desc.stride) l.desc.stride 1 s = .ok [some b] t) ∧
    (∃ (n p bag row : Nat) (wt : Option Nat) (s t : State) (i : Item) (l : Lookup) (b : List Byte), s.alive = true ∧ s.rc.warmStep = 0 ∧ getItem? s n = some i ∧ i.opcode = 0x2A ∧ i.ended = none ∧ i.wait = .none ∧ getLookup s n = some l ∧ l.todo.mem p = true ∧ l.wait.mem p = true ∧ l.idx.getD p (0, 0, none) = (bag, row, wt) ∧ row < l.desc.rows ∧ (rowVal l.desc b).present = true ∧ softRead n i.tenant (l.desc.rowsPva + row * l.desc.stride) l.desc.stride 1 s = .ok [some b] t) ∧
    (∃ (n k : Nat) (s t1 t2 t3 : State) (i j : Item) (t : Table) (b1 b2 : List Byte), itemReady n 0x2B s = some i ∧ pinned s n = none ∧ openTable s i.tenant (wBits i.words 1 15 0) = some (k, t) ∧ updateOk i.words = true ∧ wordAt i.words 8 = 0 ∧ i.prog = 0 ∧ wBits i.words 1 52 32 = 1 ∧ wBits i.words 1 17 16 ≠ 3 ∧ bitOf (wordAt i.words 1) 19 = false ∧ tryRead n i.tenant (wordAt i.words 2) 4 (setTable k { t with pins := (livePins (setItem n i s) t).set n t.cur } (setItem n i s)) = .ok b1 t1 ∧ leNat b1 < t.cur.rows ∧ tryRead n i.tenant (wordAt i.words 3) (t.cur.d * 4) t1 = .ok b2 t2 ∧ updateRow n i t.cur (leNat b1) (eltCodes 32 t.cur.d b2) t2 = .ok 1 t3 ∧ getItem? t3 n = some j ∧ j.r1 = 0) := by
  refine ⟨⟨1, 1, (((item 0x2C [0, 3])).setSv { (item 0x2C [0, 3]).sv with tables := [(1, tb0)] }) , ((itemReady (1) 0x2C ((((item 0x2C [0, 3])).setSv { (item 0x2C [0, 3]).sv with tables := [(1, tb0)] }) )).get (by decide +kernel)), tb0, by decide +kernel⟩,
    ⟨1, 1, w_embedding_tables_serve_7_2, w_embedding_tables_serve_7_3, w_embedding_tables_serve_7_4, w_embedding_tables_serve_7_5, tb0, by decide +kernel, by decide +kernel, by decide +kernel, by decide +kernel, by decide +kernel, by decide +kernel, by decide +kernel, by delta w_embedding_tables_serve_7_4; first | exact acc_val (by decide +kernel) (by decide +kernel) | exact acc_get _ | exact bad_of (by decide +kernel)⟩,
    ⟨1, w_embedding_tables_serve_8_1, w_embedding_tables_serve_8_2, w_embedding_tables_serve_8_3, lk0, by decide +kernel, by decide +kernel, by decide +kernel, by delta w_embedding_tables_serve_8_2; first | exact acc_val (by decide +kernel) (by decide +kernel) | exact acc_get _ | exact bad_of (by decide +kernel)⟩,
    ⟨1, 0, 0, 1, none, w_embedding_tables_serve_9_5, w_embedding_tables_serve_9_6, w_embedding_tables_serve_9_7, lk1, leBytes 64 0, by decide +kernel, by decide +kernel, by decide +kernel, by decide +kernel, by decide +kernel, by decide +kernel, by decide +kernel, by decide +kernel, by decide +kernel, by decide +kernel, by decide +kernel, by delta w_embedding_tables_serve_9_6; first | exact acc_val (by decide +kernel) (by decide +kernel) | exact acc_get _ | exact bad_of (by decide +kernel)⟩,
    ⟨1, 0, 0, 1, none, w_embedding_tables_serve_10_5, w_embedding_tables_serve_10_6, w_embedding_tables_serve_10_7, { lk1 with wait := ns [0] }, leBytes 6 0 ++ [1] ++ leBytes 57 0, by decide +kernel, by decide +kernel, by decide +kernel, by decide +kernel, by decide +kernel, by decide +kernel, by decide +kernel, by decide +kernel, by decide +kernel, by decide +kernel, by decide +kernel, by decide +kernel, by delta w_embedding_tables_serve_10_6; first | exact acc_val (by decide +kernel) (by decide +kernel) | exact acc_get _ | exact bad_of (by decide +kernel)⟩,
    ⟨1, 1, w_embedding_tables_serve_11_2, w_embedding_tables_serve_11_3, w_embedding_tables_serve_11_4, w_embedding_tables_serve_11_5, w_embedding_tables_serve_11_6, w_embedding_tables_serve_11_7, tb0, ((accVal (tryRead (1) (w_embedding_tables_serve_11_6).tenant (wordAt (w_embedding_tables_serve_11_6).words 2) 4 (setTable (1) { (tb0) with pins := (livePins (setItem (1) (w_embedding_tables_serve_11_6) (w_embedding_tables_serve_11_2)) (tb0)).set (1) (tb0).cur } (setItem (1) (w_embedding_tables_serve_11_6) (w_embedding_tables_serve_11_2))))).get (by decide +kernel)).1, ((accVal (tryRead (1) (w_embedding_tables_serve_11_6).tenant (wordAt (w_embedding_tables_serve_11_6).words 3) ((tb0).cur.d * 4) (w_embedding_tables_serve_11_3))).get (by decide +kernel)).1, by decide +kernel, by decide +kernel, by decide +kernel, by decide +kernel, by decide +kernel, by decide +kernel, by decide +kernel, by decide +kernel, by decide +kernel, by delta w_embedding_tables_serve_11_3; first | exact acc_val (by decide +kernel) (by decide +kernel) | exact acc_get _ | exact bad_of (by decide +kernel), by decide +kernel, by delta w_embedding_tables_serve_11_4; first | exact acc_val (by decide +kernel) (by decide +kernel) | exact acc_get _ | exact bad_of (by decide +kernel), by delta w_embedding_tables_serve_11_5; first | exact acc_val (by decide +kernel) (by decide +kernel) | exact acc_get _ | exact bad_of (by decide +kernel), by decide +kernel, by decide +kernel⟩⟩

def w_squall_serves_0_3 : Item := ((itemReady (1) 0x30 (item 0x30 wX)).get (by decide +kernel))

def w_squall_serves_0_2 : State := ((accVal (lookAll (1) (w_squall_serves_0_3).tenant [(wordAt (w_squall_serves_0_3).words 5, 0x200000 * wordAt (w_squall_serves_0_3).words 6, true)] (setItem (1) (w_squall_serves_0_3) (item 0x30 wX)))).get (by decide +kernel)).2

def w_squall_serves_2_2 : State := ((((item 0x32 [0, 3 + 2 ^ 16, 4096, 8192])).setSv { (item 0x32 [0, 3 + 2 ^ 16, 4096, 8192]).sv with indexes := [(1, ix0)] }) ).setMem [(4098, 0xC0), (4099, 0x7F)]

def w_squall_serves_2_5 : Item := ((indexTakes (1) 0x32 (w_squall_serves_2_2)).get (by decide +kernel)).1

def w_squall_serves_2_3 : State := (modItem (1) (fun (w_squall_serves_2_5) => { (w_squall_serves_2_5) with r0 := (ix0).next, regs := (w_squall_serves_2_5).regs.set 6 1 }) (stamp_ (1) (1) (admitted (1) (setItem (1) (w_squall_serves_2_5) (w_squall_serves_2_2)))))

def w_squall_serves_2_4 : State := ((accVal (insertOne (1) (w_squall_serves_2_5) (1) 0 ((((w_squall_serves_2_3).sv.indexes.get? (1)).get (by decide +kernel))) (w_squall_serves_2_3))).get (by decide +kernel)).2

theorem test_witness_squall_serves_1 :
    (∃ (n : Nat) (s u : State) (i : Item) (ps : List (List (Nat × Nat × Nat))) (ents : List Nat), itemReady n 0x30 s = some i ∧ indexOk i.words = true ∧ wBits i.words 1 18 17 ≠ 3 ∧ indexOf s i.tenant (wBits i.words 1 15 0) = none ∧ s.sv.indexes.length < Par.indexesMax s ∧ s.sv.indexes.count (fun _ x => x.tenant = i.tenant) < Par.indexesPerTenant s ∧ bitOf (wordAt i.words 1) 16 = true ∧ lookAll n i.tenant [(wordAt i.words 5, 0x200000 * wordAt i.words 6, true)] (setItem n i s) = .ok (ps, ents) u) ∧
    (∃ (n : Nat) (s : State) (i : Item), itemReady n 0x30 s = some i ∧ indexOk i.words = false) ∧
    (∃ (n k : Nat) (s t u : State) (i : Item) (x y : Index), indexTakes n 0x32 s = some (i, k, x) ∧ i.regs = [] ∧ i.prog = 0 ∧ (∀ kv ∈ s.ho.items, kv.1 = n) ∧ insertOk i.words x = true ∧ wBits i.words 1 32 16 = 1 ∧ t = modItem n (fun i => { i with r0 := x.next, regs := i.regs.set 6 1 }) (stamp_ k n (admitted n (setItem n i s))) ∧ t.sv.indexes.get? k = some y ∧ insertOne n i k 0 y t = .ok () u) ∧
    (∃ (n k : Nat) (s t : State) (i : Item) (x y : Index) (hit : Nat → VItem → Bool), indexTakes n 0x33 s = some (i, k, x) ∧ widthsOk i.words [16, 32, 32] = true ∧ wordAt i.words 3 ≠ 0 ∧ t = stamp_ k n (admitted n (setItem n i s)) ∧ t.sv.indexes.get? k = some y ∧ hit = (fun m v => wordAt i.words 2 ≤ m && m < wordAt i.words 2 + wordAt i.words 3 && v.del.isNone)) ∧
    (∃ (n k : Nat) (s : State) (i : Item) (x : Index), indexTakes n 0x34 s = some (i, k, x) ∧ widthsOk i.words [16] = true) ∧
    (∃ (k n : Nat) (s : State) (x : Index), s.alive = true ∧ s.sv.indexes.get? k = some x ∧ x.publishes = [n] ∧ x.stamped = []) := by
  refine ⟨⟨1, item 0x30 wX, w_squall_serves_0_2, w_squall_serves_0_3, ((accVal (lookAll (1) (w_squall_serves_0_3).tenant [(wordAt (w_squall_serves_0_3).words 5, 0x200000 * wordAt (w_squall_serves_0_3).words 6, true)] (setItem (1) (w_squall_serves_0_3) (item 0x30 wX)))).get (by decide +kernel)).1.1, ((accVal (lookAll (1) (w_squall_serves_0_3).tenant [(wordAt (w_squall_serves_0_3).words 5, 0x200000 * wordAt (w_squall_serves_0_3).words 6, true)] (setItem (1) (w_squall_serves_0_3) (item 0x30 wX)))).get (by decide +kernel)).1.2, by decide +kernel, by decide +kernel, by decide +kernel, by decide +kernel, by decide +kernel, by decide +kernel, by decide +kernel, by delta w_squall_serves_0_2; first | exact acc_val (by decide +kernel) (by decide +kernel) | exact acc_get _ | exact bad_of (by decide +kernel)⟩,
    ⟨1, item 0x30 [0, 3], ((itemReady (1) 0x30 (item 0x30 [0, 3])).get (by decide +kernel)), by decide +kernel⟩,
    ⟨1, 1, w_squall_serves_2_2, w_squall_serves_2_3, w_squall_serves_2_4, w_squall_serves_2_5, ix0, (((w_squall_serves_2_3).sv.indexes.get? (1)).get (by decide +kernel)), by decide +kernel, by decide +kernel, by decide +kernel, by decide +kernel, by decide +kernel, by decide +kernel, by decide +kernel, by decide +kernel, by delta w_squall_serves_2_4; first | exact acc_val (by decide +kernel) (by decide +kernel) | exact acc_get _ | exact bad_of (by decide +kernel)⟩,
    ⟨1, 1, (((item 0x33 [0, 3, 0, 4])).setSv { (item 0x33 [0, 3, 0, 4]).sv with indexes := [(1, ix0)] }) , (stamp_ (1) (1) (admitted (1) (setItem (1) (((indexTakes (1) 0x33 ((((item 0x33 [0, 3, 0, 4])).setSv { (item 0x33 [0, 3, 0, 4]).sv with indexes := [(1, ix0)] }) )).get (by decide +kernel)).1) ((((item 0x33 [0, 3, 0, 4])).setSv { (item 0x33 [0, 3, 0, 4]).sv with indexes := [(1, ix0)] }) )))), ((indexTakes (1) 0x33 ((((item 0x33 [0, 3, 0, 4])).setSv { (item 0x33 [0, 3, 0, 4]).sv with indexes := [(1, ix0)] }) )).get (by decide +kernel)).1, ix0, ((((stamp_ (1) (1) (admitted (1) (setItem (1) (((indexTakes (1) 0x33 ((((item 0x33 [0, 3, 0, 4])).setSv { (item 0x33 [0, 3, 0, 4]).sv with indexes := [(1, ix0)] }) )).get (by decide +kernel)).1) ((((item 0x33 [0, 3, 0, 4])).setSv { (item 0x33 [0, 3, 0, 4]).sv with indexes := [(1, ix0)] }) ))))).sv.indexes.get? (1)).get (by decide +kernel)), ((fun m v => wordAt (((indexTakes (1) 0x33 ((((item 0x33 [0, 3, 0, 4])).setSv { (item 0x33 [0, 3, 0, 4]).sv with indexes := [(1, ix0)] }) )).get (by decide +kernel)).1).words 2 ≤ m && m < wordAt (((indexTakes (1) 0x33 ((((item 0x33 [0, 3, 0, 4])).setSv { (item 0x33 [0, 3, 0, 4]).sv with indexes := [(1, ix0)] }) )).get (by decide +kernel)).1).words 2 + wordAt (((indexTakes (1) 0x33 ((((item 0x33 [0, 3, 0, 4])).setSv { (item 0x33 [0, 3, 0, 4]).sv with indexes := [(1, ix0)] }) )).get (by decide +kernel)).1).words 3 && v.del.isNone)), by decide +kernel, by decide +kernel, by decide +kernel, by decide +kernel, by decide +kernel, by first | exact ok_get _ | exact acc_val (by decide +kernel) (by decide +kernel) | exact acc_get _ | exact err_of (by decide +kernel) | exact bad_of (by decide +kernel) | rfl⟩,
    ⟨1, 1, (((item 0x34 [0, 3])).setSv { (item 0x34 [0, 3]).sv with indexes := [(1, ix0)] }) , ((indexTakes (1) 0x34 ((((item 0x34 [0, 3])).setSv { (item 0x34 [0, 3]).sv with indexes := [(1, ix0)] }) )).get (by decide +kernel)).1, ix0, by decide +kernel⟩,
    ⟨1, 5, ((up).setSv { up.sv with indexes := [(1, { ix0 with publishes := [5] })] }) , { ix0 with publishes := [5] }, by decide +kernel⟩⟩

def w_squall_serves_8_2 : State := (((item 0x31 [0, 3 + 2 ^ 16 + 2 ^ 29, 4096, 2 ^ 16 * 8, 0, 8192])).setSv { (item 0x31 [0, 3 + 2 ^ 16 + 2 ^ 29, 4096, 2 ^ 16 * 8, 0, 8192]).sv with indexes := [(1, ix0)] }) 

def w_squall_serves_8_5 : Item := ((indexTakes (1) 0x31 (w_squall_serves_8_2)).get (by decide +kernel)).1

def w_squall_serves_8_3 : State := (modIndex (1) (fun y => { y with pins := (y.pins.keep fun m _ => liveItem (setItem (1) (w_squall_serves_8_5) (w_squall_serves_8_2)) m).set (1) (ix0).epoch }) (modItem (1) (fun (w_squall_serves_8_5) => { (w_squall_serves_8_5) with r1 := (ix0).epoch }) (admitted (1) (setItem (1) (w_squall_serves_8_5) (w_squall_serves_8_2)))))

def w_squall_serves_8_4 : State := ((accVal (queriesFrom (1) (w_squall_serves_8_5) (ix0) (ix0).epoch (destOf (w_squall_serves_8_5).words (wBits (w_squall_serves_8_5).words 1 42 41) (wordAt (w_squall_serves_8_5).words 5) (bitOf (wordAt (w_squall_serves_8_5).words 1) 43)) (wBits (w_squall_serves_8_5).words 1 28 16 + 1) (w_squall_serves_8_5).prog (w_squall_serves_8_3))).get (by decide +kernel)).2

def w_squall_serves_8_6 : Item := ((getItem? (w_squall_serves_8_4) (1)).get (by decide +kernel))

theorem test_witness_squall_serves_2 :
    (∃ (k n m e : Nat) (s : State) (x : Index), s.sv.indexes.get? k = some x ∧ x.publishes = [n] ∧ x.stamped = [(m, e)] ∧ liveItem s m = true ∧ e ≤ x.epoch + 1) ∧
    (∃ (s : State), s.alive = true ∧ Par.autoPublishMs s ≠ 0) ∧
    (∃ (n k : Nat) (s t u : State) (i j : Item) (x : Index), indexTakes n 0x31 s = some (i, k, x) ∧ i.regs = [] ∧ x.pins = [] ∧ searchOk i.words x (destOf i.words (wBits i.words 1 42 41) (wordAt i.words 5) (bitOf (wordAt i.words 1) 43)) = true ∧ t = modIndex k (fun y => { y with pins := (y.pins.keep fun m _ => liveItem (setItem n i s) m).set n x.epoch }) (modItem n (fun i => { i with r1 := x.epoch }) (admitted n (setItem n i s))) ∧ queriesFrom n i x x.epoch (destOf i.words (wBits i.words 1 42 41) (wordAt i.words 5) (bitOf (wordAt i.words 1) 43)) (wBits i.words 1 28 16 + 1) i.prog t = .ok () u ∧ getItem? u n = some j) ∧
    (∃ (n k : Nat) (s : State) (i : Item) (x : Index) (gone : Nat → Bool), indexTakes n 0x35 s = some (i, k, x) ∧ i.regs = [] ∧ (∀ kv ∈ s.ho.items, kv.1 = n) ∧ widthsOk i.words [16] = true ∧ x.graph = false ∧ x.pins = [] ∧ x.entry = none ∧ gone = (fun m => (x.items.get? m).any fun v => !v.refused && !v.freed && v.del.any fun d => d ≤ x.epoch)) ∧
    (∃ (n k : Nat) (s : State) (i : Item) (x : Index), itemReady n 0x36 s = some i ∧ widthsOk i.words [16] = true ∧ indexOf s i.tenant (wordAt i.words 1) = some (k, x) ∧ x.destroying = none ∧ indexBusy (setItem n i s) { x with destroying := some n } = false) ∧
    (∃ (n k : Nat) (s : State) (i : Item) (x : Index), itemReady n 0x36 s = some i ∧ widthsOk i.words [16] = true ∧ indexOf s i.tenant (wordAt i.words 1) = some (k, x) ∧ x.destroying = none ∧ indexBusy (setItem n i s) { x with destroying := some n } = true) := by
  refine ⟨⟨1, 5, 1, 1, (((item 0x32 [0, 3])).setSv { (item 0x32 [0, 3]).sv with indexes := [(1, { ix0 with publishes := [5], stamped := [(1, 1)] })] }) , { ix0 with publishes := [5], stamped := [(1, 1)] }, by decide +kernel⟩,
    ⟨((up).setOd { up.od with num := [(0x680005, 1)] }) , by decide +kernel⟩,
    ⟨1, 1, w_squall_serves_8_2, w_squall_serves_8_3, w_squall_serves_8_4, w_squall_serves_8_5, w_squall_serves_8_6, ix0, by decide +kernel, by decide +kernel, by decide +kernel, by decide +kernel, by decide +kernel, by delta w_squall_serves_8_4; first | exact acc_val (by decide +kernel) (by decide +kernel) | exact acc_get _ | exact bad_of (by decide +kernel), by decide +kernel⟩,
    ⟨1, 1, (((item 0x35 [0, 3])).setSv { (item 0x35 [0, 3]).sv with indexes := [(1, { ix0 with words := [0, 3] })] }) , ((indexTakes (1) 0x35 ((((item 0x35 [0, 3])).setSv { (item 0x35 [0, 3]).sv with indexes := [(1, { ix0 with words := [0, 3] })] }) )).get (by decide +kernel)).1, { ix0 with words := [0, 3] }, ((fun m => (({ ix0 with words := [0, 3] } : Index).items.get? m).any fun v => !v.refused && !v.freed && v.del.any fun d => d ≤ ({ ix0 with words := [0, 3] } : Index).epoch)), by decide +kernel, by decide +kernel, by decide +kernel, by decide +kernel, by decide +kernel, by decide +kernel, by decide +kernel, by first | exact ok_get _ | exact acc_val (by decide +kernel) (by decide +kernel) | exact acc_get _ | exact err_of (by decide +kernel) | exact bad_of (by decide +kernel) | rfl⟩,
    ⟨1, 1, (((item 0x36 [0, 3])).setSv { (item 0x36 [0, 3]).sv with indexes := [(1, ix0)] }) , ((itemReady (1) 0x36 ((((item 0x36 [0, 3])).setSv { (item 0x36 [0, 3]).sv with indexes := [(1, ix0)] }) )).get (by decide +kernel)), ix0, by decide +kernel⟩,
    ⟨1, 1, ((((((item 0x36 [0, 3])).setSv { (item 0x36 [0, 3]).sv with indexes := [(1, ix0)] }) )).setHo { ((((item 0x36 [0, 3])).setSv { (item 0x36 [0, 3]).sv with indexes := [(1, ix0)] }) ).ho with items := [(1, it0 0x36 [0, 3]), (2, { it0 0x31 [0, 3] with src := .host 0 2 1 5, regs := [(7, 1)] })] }) , ((itemReady (1) 0x36 (((((((item 0x36 [0, 3])).setSv { (item 0x36 [0, 3]).sv with indexes := [(1, ix0)] }) )).setHo { ((((item 0x36 [0, 3])).setSv { (item 0x36 [0, 3]).sv with indexes := [(1, ix0)] }) ).ho with items := [(1, it0 0x36 [0, 3]), (2, { it0 0x31 [0, 3] with src := .host 0 2 1 5, regs := [(7, 1)] })] }) )).get (by decide +kernel)), ix0, by decide +kernel⟩⟩

def w_cumulus_serves_0_2 : State := ((upS).setHo { upS.ho with items := [(1, it0 0x38 wC)], nextItem := 2 }) 

def w_cumulus_serves_0_4 : Item := ((itemReady (1) 0x38 (w_cumulus_serves_0_2)).get (by decide +kernel))

def w_cumulus_serves_0_3 : State := ((accVal (lookAll (1) (w_cumulus_serves_0_4).tenant [(wordAt (w_cumulus_serves_0_4).words 5, 64 * wordAt (w_cumulus_serves_0_4).words 6, true), (wordAt (w_cumulus_serves_0_4).words 2, 0x200000 * wordAt (w_cumulus_serves_0_4).words 3, true)] (setItem (1) (w_cumulus_serves_0_4) (w_cumulus_serves_0_2)))).get (by decide +kernel)).2

def w_cumulus_serves_2_3 : State := itemC 0x39 [0, 3 + 2 ^ 16, 7, 0, 0, 0] st0 fun i => { i with prog := 65536 }

def w_cumulus_serves_2_4 : State := ((storeTakes (1) 0x39 (w_cumulus_serves_2_3)).get (by decide +kernel)).2.2.2

def w_cumulus_serves_2_8 : Item := ((storeTakes (1) 0x39 (w_cumulus_serves_2_3)).get (by decide +kernel)).2.1

def w_cumulus_serves_2_5 : State := (takeSlot (1) (1) (creq (w_cumulus_serves_2_8)) 258 (modRegs (1) 10 (b2n ((((storeTakes (1) 0x39 (w_cumulus_serves_2_3)).get (by decide +kernel)).2.2.1).keys.get? (creq (w_cumulus_serves_2_8)).key).isSome) (w_cumulus_serves_2_4))).2

def w_cumulus_serves_2_6 : State := (modRegs (1) 12 ((takeSlot (1) (1) (creq (w_cumulus_serves_2_8)) 258 (modRegs (1) 10 (b2n ((((storeTakes (1) 0x39 (w_cumulus_serves_2_3)).get (by decide +kernel)).2.2.1).keys.get? (creq (w_cumulus_serves_2_8)).key).isSome) (w_cumulus_serves_2_4))).1.get!) (modRegs (1) 11 1 (w_cumulus_serves_2_5)))

def w_cumulus_serves_2_9 : Item := ((getItem? (w_cumulus_serves_2_6) (1)).get (by decide +kernel))

def w_cumulus_serves_2_7 : State := ((accVal (putData (1) { (w_cumulus_serves_2_9) with wait := .none } ((((w_cumulus_serves_2_6).sv.stores.get? (1)).get (by decide +kernel))) (creq (w_cumulus_serves_2_8)) ((w_cumulus_serves_2_9).regs.getD 12 0) ((creq (w_cumulus_serves_2_8)).segs * 17 + 2) (w_cumulus_serves_2_9).prog (modItem (1) (fun i => { i with wait := .none }) (w_cumulus_serves_2_6)))).get (by decide +kernel)).2

theorem test_witness_cumulus_serves_1 :
    (∃ (n a : Nat) (s u : State) (i : Item) (ps : List (List (Nat × Nat × Nat))) (ents : List Nat), itemReady n 0x38 s = some i ∧ storeOk i.words = true ∧ tenantStore s i.tenant (wBits i.words 1 15 0) = none ∧ s.sv.stores.length < Par.storesMax s ∧ s.sv.stores.count (fun _ x => x.tenant = i.tenant) < Par.storesPerTenant s ∧ wordAt i.words 6 ≠ 0 ∧ wordAt i.words 8 = 0 ∧ lookAll n i.tenant [(wordAt i.words 5, 64 * wordAt i.words 6, true), (wordAt i.words 2, 0x200000 * wordAt i.words 3, true)] (setItem n i s) = .ok (ps, ents) u ∧ oneRun (ps.getD 0 []) = some a ∧ runTaken u a (wordAt i.words 6) = false) ∧
    (∃ (n k : Nat) (s : State) (i : Item) (x : Store), itemReady n 0x3F s = some i ∧ widthsOk i.words [16] = true ∧ tenantStore s i.tenant (wordAt i.words 1) = some (k, x) ∧ x.destroying = none ∧ storeBusy (setItem n i s) k = false) ∧
    (∃ (n k off : Nat) (s t u v w : State) (j i2 : Item) (x x2 x3 : Store), storeTakes n 0x39 s = some (k, j, x, t) ∧ (creq j).expected = 0 ∧ takeSlot n k (creq j) 258 (modRegs n 10 (b2n (x.keys.get? (creq j).key).isSome) t) = (some off, u) ∧ v = modRegs n 12 off (modRegs n 11 1 u) ∧ getItem? v n = some i2 ∧ v.sv.stores.get? k = some x2 ∧ putData n { i2 with wait := .none } x2 (creq j) (i2.regs.getD 12 0) ((creq j).segs * 17 + 2) i2.prog (modItem n (fun i => { i with wait := .none }) v) = .ok () w ∧ w.sv.stores.get? k = some x3) ∧
    (∃ (n k : Nat) (s t : State) (j : Item) (x : Store) (c : CKey), storeTakes n 0x39 s = some (k, j, x, t) ∧ x.keys.get? (creq j).key = some c ∧ (creq j).expected ≠ 0 ∧ (creq j).expected ≠ c.version) ∧
    (∃ (n k : Nat) (s t : State) (j i2 : Item) (x y : Store) (c : CKey), storeTakes n 0x3A s = some (k, j, x, t) ∧ x.keys.get? (creq j).key = some c ∧ y = { x with slots := x.slots.modify c.slot fun d => { d with readers := d.readers ++ [n] }, keys := x.keys.set (creq j).key { c with last := s.now } } ∧ i2 = { j with regs := ((((j.regs.set 10 1).set 11 1).set 12 c.slot).set 13 c.version).set 14 c.segs, r0 := 65536 * c.segs + 2 ^ 32, r1 := c.version, wait := Wait.none }) ∧
    (∃ (n k : Nat) (s t : State) (j : Item) (x : Store), storeTakes n 0x3A s = some (k, j, x, t) ∧ x.keys.get? (creq j).key = none ∧ (creq j).waitUs = 0) := by
  refine ⟨⟨1, 4096, w_cumulus_serves_0_2, w_cumulus_serves_0_3, w_cumulus_serves_0_4, ((accVal (lookAll (1) (w_cumulus_serves_0_4).tenant [(wordAt (w_cumulus_serves_0_4).words 5, 64 * wordAt (w_cumulus_serves_0_4).words 6, true), (wordAt (w_cumulus_serves_0_4).words 2, 0x200000 * wordAt (w_cumulus_serves_0_4).words 3, true)] (setItem (1) (w_cumulus_serves_0_4) (w_cumulus_serves_0_2)))).get (by decide +kernel)).1.1, ((accVal (lookAll (1) (w_cumulus_serves_0_4).tenant [(wordAt (w_cumulus_serves_0_4).words 5, 64 * wordAt (w_cumulus_serves_0_4).words 6, true), (wordAt (w_cumulus_serves_0_4).words 2, 0x200000 * wordAt (w_cumulus_serves_0_4).words 3, true)] (setItem (1) (w_cumulus_serves_0_4) (w_cumulus_serves_0_2)))).get (by decide +kernel)).1.2, by decide +kernel, by decide +kernel, by decide +kernel, by decide +kernel, by decide +kernel, by decide +kernel, by decide +kernel, by delta w_cumulus_serves_0_3; first | exact acc_val (by decide +kernel) (by decide +kernel) | exact acc_get _ | exact bad_of (by decide +kernel), by decide +kernel, by decide +kernel⟩,
    ⟨1, 1, itemC 0x3F [0, 3] st0 id, ((itemReady (1) 0x3F (itemC 0x3F [0, 3] st0 id)).get (by decide +kernel)), st0, by decide +kernel⟩,
    ⟨1, 1, (takeSlot (1) (1) (creq (w_cumulus_serves_2_8)) 258 (modRegs (1) 10 (b2n ((((storeTakes (1) 0x39 (w_cumulus_serves_2_3)).get (by decide +kernel)).2.2.1).keys.get? (creq (w_cumulus_serves_2_8)).key).isSome) (w_cumulus_serves_2_4))).1.get!, w_cumulus_serves_2_3, w_cumulus_serves_2_4, w_cumulus_serves_2_5, w_cumulus_serves_2_6, w_cumulus_serves_2_7, w_cumulus_serves_2_8, w_cumulus_serves_2_9, ((storeTakes (1) 0x39 (w_cumulus_serves_2_3)).get (by decide +kernel)).2.2.1, (((w_cumulus_serves_2_6).sv.stores.get? (1)).get (by decide +kernel)), (((w_cumulus_serves_2_7).sv.stores.get? (1)).get (by decide +kernel)), by decide +kernel, by decide +kernel, by decide +kernel, by decide +kernel, by decide +kernel, by decide +kernel, by delta w_cumulus_serves_2_7; first | exact acc_val (by decide +kernel) (by decide +kernel) | exact acc_get _ | exact bad_of (by decide +kernel), by decide +kernel⟩,
    ⟨1, 1, itemC 0x39 [0, 3 + 2 ^ 16, 7, 0, 5, 0] st1 id, ((storeTakes (1) 0x39 (itemC 0x39 [0, 3 + 2 ^ 16, 7, 0, 5, 0] st1 id)).get (by decide +kernel)).2.2.2, ((storeTakes (1) 0x39 (itemC 0x39 [0, 3 + 2 ^ 16, 7, 0, 5, 0] st1 id)).get (by decide +kernel)).2.1, ((storeTakes (1) 0x39 (itemC 0x39 [0, 3 + 2 ^ 16, 7, 0, 5, 0] st1 id)).get (by decide +kernel)).2.2.1, ck0, by decide +kernel⟩,
    ⟨1, 1, itemC 0x3A [0, 3, 7, 0] st1 id, ((storeTakes (1) 0x3A (itemC 0x3A [0, 3, 7, 0] st1 id)).get (by decide +kernel)).2.2.2, ((storeTakes (1) 0x3A (itemC 0x3A [0, 3, 7, 0] st1 id)).get (by decide +kernel)).2.1, ({ (((storeTakes (1) 0x3A (itemC 0x3A [0, 3, 7, 0] st1 id)).get (by decide +kernel)).2.1) with regs := (((((((storeTakes (1) 0x3A (itemC 0x3A [0, 3, 7, 0] st1 id)).get (by decide +kernel)).2.1).regs.set 10 1).set 11 1).set 12 (ck0).slot).set 13 (ck0).version).set 14 (ck0).segs, r0 := 65536 * (ck0).segs + 2 ^ 32, r1 := (ck0).version, wait := Wait.none }), ((storeTakes (1) 0x3A (itemC 0x3A [0, 3, 7, 0] st1 id)).get (by decide +kernel)).2.2.1, ({ (((storeTakes (1) 0x3A (itemC 0x3A [0, 3, 7, 0] st1 id)).get (by decide +kernel)).2.2.1) with slots := (((storeTakes (1) 0x3A (itemC 0x3A [0, 3, 7, 0] st1 id)).get (by decide +kernel)).2.2.1).slots.modify (ck0).slot fun d => { d with readers := d.readers ++ [(1)] }, keys := (((storeTakes (1) 0x3A (itemC 0x3A [0, 3, 7, 0] st1 id)).get (by decide +kernel)).2.2.1).keys.set (creq (((storeTakes (1) 0x3A (itemC 0x3A [0, 3, 7, 0] st1 id)).get (by decide +kernel)).2.1)).key { (ck0) with last := (itemC 0x3A [0, 3, 7, 0] st1 id).now } }), ck0, by decide +kernel⟩,
    ⟨1, 1, itemC 0x3A [0, 3, 7, 0] st0 id, ((storeTakes (1) 0x3A (itemC 0x3A [0, 3, 7, 0] st0 id)).get (by decide +kernel)).2.2.2, ((storeTakes (1) 0x3A (itemC 0x3A [0, 3, 7, 0] st0 id)).get (by decide +kernel)).2.1, ((storeTakes (1) 0x3A (itemC 0x3A [0, 3, 7, 0] st0 id)).get (by decide +kernel)).2.2.1, by decide +kernel⟩⟩

theorem test_witness_cumulus_serves_2 :
    (∃ (n k : Nat) (s t : State) (j : Item) (x : Store) (c : CKey), storeTakes n 0x3B s = some (k, j, x, t) ∧ x.keys.get? (creq j).key = some c ∧ c.pins < 65535) ∧
    (∃ (n k : Nat) (s t : State) (j : Item) (x : Store) (c : CKey), storeTakes n 0x3C s = some (k, j, x, t) ∧ x.keys.get? (creq j).key = some c ∧ 0 < c.pins) ∧
    (∃ (n k : Nat) (s t : State) (j : Item) (x : Store) (c : CKey), storeTakes n 0x3C s = some (k, j, x, t) ∧ x.keys.get? (creq j).key = some c ∧ c.pins = 0) ∧
    (∃ (n k : Nat) (s t : State) (j : Item) (x : Store) (c : CKey), storeTakes n 0x3D s = some (k, j, x, t) ∧ x.keys.get? (creq j).key = some c ∧ ((creq j).expected = 0 ∨ (creq j).expected = c.version ∧ c.version < 2 ^ 64 - 1)) ∧
    (∃ (n k : Nat) (s t : State) (j : Item) (x : Store) (c : CKey), storeTakes n 0x3E s = some (k, j, x, t) ∧ x.keys.get? (creq j).key = some c) ∧
    (∃ (n k : Nat) (s t : State) (j : Item) (x : Store), storeTakes n 0x3B s = some (k, j, x, t) ∧ x.keys.get? (creq j).key = none) := by
  refine ⟨⟨1, 1, itemC 0x3B [0, 3, 7, 0] st1 id, ((storeTakes (1) 0x3B (itemC 0x3B [0, 3, 7, 0] st1 id)).get (by decide +kernel)).2.2.2, ((storeTakes (1) 0x3B (itemC 0x3B [0, 3, 7, 0] st1 id)).get (by decide +kernel)).2.1, ((storeTakes (1) 0x3B (itemC 0x3B [0, 3, 7, 0] st1 id)).get (by decide +kernel)).2.2.1, ck0, by decide +kernel⟩,
    ⟨1, 1, itemC 0x3C [0, 3, 7, 0] { st1 with keys := [(7, { ck0 with pins := 1 })] } id, ((storeTakes (1) 0x3C (itemC 0x3C [0, 3, 7, 0] { st1 with keys := [(7, { ck0 with pins := 1 })] } id)).get (by decide +kernel)).2.2.2, ((storeTakes (1) 0x3C (itemC 0x3C [0, 3, 7, 0] { st1 with keys := [(7, { ck0 with pins := 1 })] } id)).get (by decide +kernel)).2.1, ((storeTakes (1) 0x3C (itemC 0x3C [0, 3, 7, 0] { st1 with keys := [(7, { ck0 with pins := 1 })] } id)).get (by decide +kernel)).2.2.1, { ck0 with pins := 1 }, by decide +kernel⟩,
    ⟨1, 1, itemC 0x3C [0, 3, 7, 0] st1 id, ((storeTakes (1) 0x3C (itemC 0x3C [0, 3, 7, 0] st1 id)).get (by decide +kernel)).2.2.2, ((storeTakes (1) 0x3C (itemC 0x3C [0, 3, 7, 0] st1 id)).get (by decide +kernel)).2.1, ((storeTakes (1) 0x3C (itemC 0x3C [0, 3, 7, 0] st1 id)).get (by decide +kernel)).2.2.1, ck0, by decide +kernel⟩,
    ⟨1, 1, itemC 0x3D [0, 3, 7, 0] st1 id, ((storeTakes (1) 0x3D (itemC 0x3D [0, 3, 7, 0] st1 id)).get (by decide +kernel)).2.2.2, ((storeTakes (1) 0x3D (itemC 0x3D [0, 3, 7, 0] st1 id)).get (by decide +kernel)).2.1, ((storeTakes (1) 0x3D (itemC 0x3D [0, 3, 7, 0] st1 id)).get (by decide +kernel)).2.2.1, ck0, by decide +kernel⟩,
    ⟨1, 1, itemC 0x3E [0, 3, 7, 0] st1 id, ((storeTakes (1) 0x3E (itemC 0x3E [0, 3, 7, 0] st1 id)).get (by decide +kernel)).2.2.2, ((storeTakes (1) 0x3E (itemC 0x3E [0, 3, 7, 0] st1 id)).get (by decide +kernel)).2.1, ((storeTakes (1) 0x3E (itemC 0x3E [0, 3, 7, 0] st1 id)).get (by decide +kernel)).2.2.1, ck0, by decide +kernel⟩,
    ⟨1, 1, itemC 0x3B [0, 3, 7, 0] st0 id, ((storeTakes (1) 0x3B (itemC 0x3B [0, 3, 7, 0] st0 id)).get (by decide +kernel)).2.2.2, ((storeTakes (1) 0x3B (itemC 0x3B [0, 3, 7, 0] st0 id)).get (by decide +kernel)).2.1, ((storeTakes (1) 0x3B (itemC 0x3B [0, 3, 7, 0] st0 id)).get (by decide +kernel)).2.2.1, by decide +kernel⟩⟩

theorem test_witness_cumulus_serves_3 :
    (∃ (w n k : Nat) (s t : State), remoteTakes w 1 s = some (n, k, t)) ∧
    (∃ (w n k : Nat) (s t : State), remoteTakes w 2 s = some (n, k, t)) ∧
    (∃ (w n k : Nat) (s t : State), remoteTakes w 3 s = some (n, k, t)) ∧
    (∃ (w n k : Nat) (s t : State), remoteTakes w 4 s = some (n, k, t)) ∧
    (∃ (w n k : Nat) (s t : State), remoteTakes w 5 s = some (n, k, t)) ∧
    (∃ (w n k : Nat) (s t : State), remoteTakes w 6 s = some (n, k, t)) := by
  refine ⟨⟨1, 1, 1, line 1 st0, ((remoteTakes (1) 1 (line 1 st0)).get (by decide +kernel)).2.2, by decide +kernel⟩,
    ⟨1, 1, 1, line 2 st1, ((remoteTakes (1) 2 (line 2 st1)).get (by decide +kernel)).2.2, by decide +kernel⟩,
    ⟨1, 1, 1, line 3 st1, ((remoteTakes (1) 3 (line 3 st1)).get (by decide +kernel)).2.2, by decide +kernel⟩,
    ⟨1, 1, 1, line 4 st1, ((remoteTakes (1) 4 (line 4 st1)).get (by decide +kernel)).2.2, by decide +kernel⟩,
    ⟨1, 1, 1, line 5 st1, ((remoteTakes (1) 5 (line 5 st1)).get (by decide +kernel)).2.2, by decide +kernel⟩,
    ⟨1, 1, 1, line 6 st1, ((remoteTakes (1) 6 (line 6 st1)).get (by decide +kernel)).2.2, by decide +kernel⟩⟩

theorem test_witness_cumulus_serves_4 :
    (∃ (w k : Nat) (s : State) (lw : LineWrite) (x : Store), s.alive = true ∧ s.rc.warmStep = 0 ∧ s.bt.stage = 4 ∧ s.sv.writes.get? w = some lw ∧ storeOf s lw.pha = some k ∧ s.sv.stores.get? k = some x ∧ (lw.whole = false ∨ lineOk (wordsFrom 8 lw.bytes) = false)) ∧
    (∃ (n at_ : Nat) (s : State) (i : Item), s.alive = true ∧ getItem? s n = some i ∧ i.ended = none ∧ i.wait = .landing at_ ∧ wordAt i.words 4 ≤ counterOf s (wordAt i.words 3)) ∧
    (∃ (n at_ : Nat) (s : State) (i : Item), s.alive = true ∧ getItem? s n = some i ∧ i.ended = none ∧ i.wait = .landing at_) ∧
    (∃ (n at_ : Nat) (s : State) (i : Item), s.alive = true ∧ getItem? s n = some i ∧ i.ended = none ∧ i.wait = .key at_) ∧
    (∃ (n at_ : Nat) (s : State) (i : Item), s.alive = true ∧ getItem? s n = some i ∧ i.ended = none ∧ i.wait = .own at_) ∧
    (∃ (n at_ : Nat) (s : State) (i : Item), s.alive = true ∧ getItem? s n = some i ∧ i.ended = none ∧ i.wait = .space at_) := by
  refine ⟨⟨1, 1, line 7 st1, ⟨4096, true, leBytes 8 (7 + 2 ^ 5) ++ leBytes 40 0 ++ leBytes 8 7 ++ leBytes 8 0, .item 9, false⟩, st1, by decide +kernel⟩,
    ⟨1, 5, itemC 0x39 [] st0 fun i => { i with wait := .landing 5 }, ((getItem? (itemC 0x39 [] st0 fun i => { i with wait := .landing 5 }) (1)).get (by decide +kernel)), by decide +kernel⟩,
    ⟨1, 5, itemC 0x39 [] st0 fun i => { i with wait := .landing 5 }, ((getItem? (itemC 0x39 [] st0 fun i => { i with wait := .landing 5 }) (1)).get (by decide +kernel)), by decide +kernel⟩,
    ⟨1, 5, itemC 0x39 [] st0 fun i => { i with wait := .key 5 }, ((getItem? (itemC 0x39 [] st0 fun i => { i with wait := .key 5 }) (1)).get (by decide +kernel)), by decide +kernel⟩,
    ⟨1, 5, itemC 0x39 [] st0 fun i => { i with wait := .own 5 }, ((getItem? (itemC 0x39 [] st0 fun i => { i with wait := .own 5 }) (1)).get (by decide +kernel)), by decide +kernel⟩,
    ⟨1, 5, itemC 0x39 [] st0 fun i => { i with wait := .space 5 }, ((getItem? (itemC 0x39 [] st0 fun i => { i with wait := .space 5 }) (1)).get (by decide +kernel)), by decide +kernel⟩⟩

def w_cumulus_serves_29_3 : Item := ((itemReady (1) 0x40 (item 0x40 [0, 1, 0, 64])).get (by decide +kernel))

def w_cumulus_serves_29_2 : State := ((accVal (segsFrom (1) (w_cumulus_serves_29_3) (((crcSelect (wBits (w_cumulus_serves_29_3).words 1 2 0) (checkPar (w_cumulus_serves_29_3).words)).get (by decide +kernel))) (segCount (w_cumulus_serves_29_3).words + 1) (w_cumulus_serves_29_3).prog (setItem (1) (w_cumulus_serves_29_3) (item 0x40 [0, 1, 0, 64])))).get (by decide +kernel)).2

def w_cumulus_serves_29_4 : Item := ((getItem? (w_cumulus_serves_29_2) (1)).get (by decide +kernel))

theorem test_witness_cumulus_serves_5 :
    (∃ (n : Nat) (s : State) (i : Item), getItem? s n = some i ∧ i.wait = .none) ∧
    (∃ (k slot : Nat) (s : State) (x : Store) (c : CSlot), s.powered = true ∧ s.sv.stores.get? k = some x ∧ x.slots.get? slot = some c ∧ c.old = true ∧ c.readers = []) ∧
    (∃ (s : State), drumAllowed s 3 = true ∧ (∀ kv ∈ s.sv.stores, kv.2.coldMs = 0)) ∧
    (∃ (s : State) (k q : Nat) (x : Store), drumAllowed s 3 = true ∧ s.sv.stores = [(k, x)] ∧ 0 < x.coldMs ∧ x.blockPages = 1 ∧ keysOn x 0 ≠ [] ∧ (∀ kv ∈ keysOn x 0, kv.2.pins = 0) ∧ (∀ kv ∈ keysOn x 0, kv.2.last + 1000000 * x.coldMs ≤ (drumBegin 3 s).now) ∧ poolPage (drumBegin 3 s) x 0 = some q) ∧
    (∃ (s : State), drumAllowed s 3 = false) ∧
    (∃ (n : Nat) (s u : State) (i j : Item) (p : CrcPar), itemReady n 0x40 s = some i ∧ checkOk i.words = true ∧ crcSelect (wBits i.words 1 2 0) (checkPar i.words) = some p ∧ segsFrom n i p (segCount i.words + 1) i.prog (setItem n i s) = .ok () u ∧ getItem? u n = some j ∧ j.r1 = 0) := by
  refine ⟨⟨1, itemC 0x39 [] st0 id, ((getItem? (itemC 0x39 [] st0 id) (1)).get (by decide +kernel)), by decide +kernel⟩,
    ⟨1, 0, ((up).setSv { up.sv with stores := [(1, { st0 with slots := [(0, { bytes := 65536, old := true })] })] }) , { st0 with slots := [(0, { bytes := 65536, old := true })] }, { bytes := 65536, old := true }, by decide +kernel⟩,
    ⟨up, by decide +kernel⟩,
    ⟨(((upS).setSv { upS.sv with stores := [(1, { st1 with words := [0, 3, 0x200000, 2, 1, 4096, 1, 0, 0, 1] })] }).setNow (5000000)) , 1, 2, { st1 with words := [0, 3, 0x200000, 2, 1, 4096, 1, 0, 0, 1] }, by decide +kernel⟩,
    ⟨((up).setSv { up.sv with suspended := true }) , by decide +kernel⟩,
    ⟨1, item 0x40 [0, 1, 0, 64], w_cumulus_serves_29_2, w_cumulus_serves_29_3, w_cumulus_serves_29_4, ((crcSelect (wBits (w_cumulus_serves_29_3).words 1 2 0) (checkPar (w_cumulus_serves_29_3).words)).get (by decide +kernel)), by decide +kernel, by decide +kernel, by decide +kernel, by delta w_cumulus_serves_29_2; first | exact acc_val (by decide +kernel) (by decide +kernel) | exact acc_get _ | exact bad_of (by decide +kernel), by decide +kernel, by decide +kernel⟩⟩

theorem test_witness_cumulus_serves_6 :
(∃ (n : Nat) (s : State) (i : Item), itemReady n 0x40 s = some i ∧ checkOk i.words = false) :=
  ⟨1, item 0x40 [0], ((itemReady (1) 0x40 (item 0x40 [0])).get (by decide +kernel)), by decide +kernel⟩

theorem test_witness_watchdogs_and_faults_order_resets_1 :
    (∃ (n : Nat) (s : State) (c : Ctx), watched s = true ∧ (getTab s n).ctxs = [c] ∧ c.state = .running ∧ c.hold = .none ∧ c.pend = []) ∧
    (∃ (n id a b d : Nat) (s : State) (c : Ctx), watched s = true ∧ findCtx s n id = some c ∧ c.hold = .counter a b d ∧ c.ending = none) ∧
    (∃ (n id a b d : Nat) (s : State) (c : Ctx), watched s = true ∧ findCtx s n id = some c ∧ c.hold = .word a b d ∧ c.ending = none) ∧
    (∃ (n : Nat) (s : State) (i : Item), watched s = true ∧ getItem? s n = some i ∧ engineDue s n i = true) ∧
    (∃ (n : Nat) (s : State) (i : Item), watched s = true ∧ getItem? s n = some i ∧ engineDue s n i = false) ∧
    (∃ (n : Nat) (s : State), watched s = true ∧ n < 4352 ∧ taborGood s n = true ∧ homeBusy s n = true) := by
  refine ⟨⟨0, ctx0 .none, c0, by decide +kernel⟩,
    ⟨0, 1, 64, 9, 1, ctx0 (.counter 64 9 1), { c0 with hold := .counter 64 9 1 }, by decide +kernel⟩,
    ⟨0, 1, 64, 9, 1, ctx0 (.word 64 9 1), { c0 with hold := .word 64 9 1 }, by decide +kernel⟩,
    ⟨1, itemX 1 [0] fun i => { i with started := true }, ((getItem? (itemX 1 [0] fun i => { i with started := true }) (1)).get (by decide +kernel)), by decide +kernel⟩,
    ⟨1, item 1 [0], ((getItem? (item 1 [0]) (1)).get (by decide +kernel)), by decide +kernel⟩,
    ⟨0, ((up).setCh { up.ch with queues := [(0, [(⟨ms 1, 0⟩ : Queued)])] }) , by decide +kernel⟩⟩

theorem test_witness_watchdogs_and_faults_order_resets_2 :
    (∃ (port : Nat) (s : State), watched s = true ∧ port < 32 ∧ s.co.gale.has port = true) ∧
    (∃ (s : State), watched s = true) ∧
    (∃ (kit : Nat) (s : State), watched s = true ∧ kit < 64 ∧ s.co.deadKits.mem kit = false) ∧
    (∃ (port : Nat) (s : State), watched s = true ∧ port < 32) ∧
    (∃ (n : Nat) (s : State), s.alive = true ∧ n < 4352 ∧ taborGood s n = true) ∧
    (∃ (n : Nat) (s : State) (c : Ctx), s.alive = true ∧ n < 4352 ∧ taborGood s n = true ∧ (getTab s n).ctxs = [c]) := by
  refine ⟨⟨3, ((up).setCo { up.co with gale := [(3, c0)] }) , by decide +kernel⟩,
    ⟨up, by decide +kernel⟩,
    ⟨3, up, by decide +kernel⟩,
    ⟨3, up, by decide +kernel⟩,
    ⟨5, up, by decide +kernel⟩,
    ⟨0, ctx0 .none, c0, by decide +kernel⟩⟩

theorem test_witness_watchdogs_and_faults_order_resets_3 :
    (∃ (kit : Nat) (s : State), s.alive = true ∧ kit < 64 ∧ s.co.chimeLost.mem kit = false) ∧
    (∃ (kit : Nat) (s : State), s.alive = true ∧ s.co.chimeLost.mem kit = true) := by
  refine ⟨⟨3, up, by decide +kernel⟩,
    ⟨3, ((up).setCo { up.co with chimeLost := ns [3] }) , by decide +kernel⟩⟩

theorem test_witness_tocsin_watches_and_quiesces_1 :
    (∃ (s : State), watched s = true ∧ s.rc.tocsinA = 0) ∧
    (∃ (s : State), watched s = true ∧ s.rc.tocsinB = 0) ∧
    (∃ (s : State), watched s = true ∧ s.rc.tocsinA = 0 ∧ s.rc.tocsinB = 0) ∧
    (∃ (s : State), watched s = true ∧ s.rc.tocsinA = 0 ∧ s.rc.tocsinB = 0 ∧ s.rc.restartedA = none) ∧
    (∃ (s : State) (at_ : Nat), watched s = true ∧ s.rc.tocsinA = 0 ∧ s.rc.tocsinB = 0 ∧ s.rc.restartedA = some at_ ∧ (s.reach (s.rc.beatA + tocsinWatch)).now ≤ at_ + 1000000000) ∧
    (∃ (s : State), s.powered = true ∧ s.rc.tocsinA = 1) := by
  refine ⟨⟨up, by decide +kernel⟩,
    ⟨up, by decide +kernel⟩,
    ⟨up, by decide +kernel⟩,
    ⟨up, by decide +kernel⟩,
    ⟨((up).setRc { up.rc with restartedA := some 5 }) , 5, by decide +kernel⟩,
    ⟨((up).setRc { up.rc with tocsinA := 1 }) , by decide +kernel⟩⟩

theorem test_witness_tocsin_watches_and_quiesces_2 :
    (∃ (s : State), s.powered = true ∧ s.rc.tocsinB = 1 ∧ s.rc.islandFailed = false) ∧
    (∃ (s : State), watched s = true) ∧
    (∃ (s : State), s.powered = true ∧ s.rc.quiesceOrdered = true) ∧
    (∃ (s : State), s.powered = true ∧ s.pw.refclk = true ∧ s.rc.quiesceOrdered = false) := by
  refine ⟨⟨((up).setRc { up.rc with tocsinB := 1 }) , by decide +kernel⟩,
    ⟨up, by decide +kernel⟩,
    ⟨((up).setRc { up.rc with quiesceOrdered := true }) , by decide +kernel⟩,
    ⟨up, by decide +kernel⟩⟩

theorem test_witness_resets_of_parts_run_1 :
    (∃ (n : Nat) (s : State) (x : Reset), s.powered = true ∧ resetOf s 0 n = some x) ∧
    (∃ (n : Nat) (s : State), resetOf s 0 n = none) ∧
    (∃ (kit : Nat) (s t : State) (x : Reset) (l : List Nat), s.powered = true ∧ resetOf s 2 kit = some x ∧ l = (taborsIn kit).flatMap (sliversOf (markRun 2 kit s)) ∧ t = dropLedgerOf l (dropAdmitted l (markRun 2 kit s))) ∧
    (∃ (port : Nat) (s : State) (x : Reset), s.powered = true ∧ resetOf s 3 port = some x) ∧
    (∃ (port : Nat) (s : State) (x : Reset), s.powered = true ∧ resetOf s 4 port = some x) ∧
    (∃ (s : State) (x : Reset), s.powered = true ∧ resetOf s 5 0 = some x) := by
  refine ⟨⟨5, upR (rs0 0 5), rs0 0 5, by decide +kernel⟩,
    ⟨5, up, by decide +kernel⟩,
    ⟨3, upR (rs0 2 3), (dropLedgerOf (((taborsIn (3)).flatMap (sliversOf (markRun 2 (3) (upR (rs0 2 3)))))) (dropAdmitted (((taborsIn (3)).flatMap (sliversOf (markRun 2 (3) (upR (rs0 2 3)))))) (markRun 2 (3) (upR (rs0 2 3))))), rs0 2 3, ((taborsIn (3)).flatMap (sliversOf (markRun 2 (3) (upR (rs0 2 3))))), by decide +kernel⟩,
    ⟨3, upR (rs0 3 3), rs0 3 3, by decide +kernel⟩,
    ⟨1, upR (rs0 4 1), rs0 4 1, by decide +kernel⟩,
    ⟨upR (rs0 5 0), rs0 5 0, by decide +kernel⟩⟩

theorem test_witness_resets_of_parts_run_2 :
    (∃ (n : Nat) (s : State) (x : Reset), s.powered = true ∧ s.rc.resets.find? (fun x => fencesTabor x n) = some x ∧ x.domain = 2 ∧ s.co.fused.mem n = false ∧ s.co.fenced.mem n = false ∧ s.co.fences.has n = false) ∧
    (∃ (n : Nat) (s t : State) (x : Reset), s.powered = true ∧ s.rc.resets.find? (fun x => fencesTabor x n) = some x ∧ x.domain = 1 ∧ s.co.fused.mem n = false ∧ s.co.fenced.mem n = false ∧ s.co.fences.has n = false ∧ t = markRun 1 n s) ∧
    (∃ (n : Nat) (bad : List Nat) (s t : State) (f : Fence), s.powered = true ∧ s.co.fences.get? n = some f ∧ f.readout = false ∧ t = readOut n bad s) ∧
    (∃ (n : Nat) (s t : State) (f : Fence), s.powered = true ∧ s.co.fences.get? n = some f ∧ f.readout = true ∧ t = dropLedgerOf f.slivers s) ∧
    (∃ (n : Nat) (s : State) (f : Fence), s.powered = true ∧ s.co.fences.get? n = some f ∧ f.readout = false) := by
  refine ⟨⟨7, upR { rs0 2 0 with fences := [7] }, { rs0 2 0 with fences := [7] }, by decide +kernel⟩,
    ⟨7, upR (rs0 1 7), (markRun 1 (7) (upR (rs0 1 7))), rs0 1 7, by decide +kernel⟩,
    ⟨7, [], ((up).setCo { up.co with fences := [(7, ⟨[7], false, [], 0⟩)] }) , (readOut (7) ([] : List Nat) (((up).setCo { up.co with fences := [(7, ⟨[7], false, [], 0⟩)] }) )), ⟨[7], false, [], 0⟩, by decide +kernel⟩,
    ⟨7, ((up).setCo { up.co with fences := [(7, ⟨[7], true, [], 0⟩)] }) , (dropLedgerOf (⟨[7], true, [], 0⟩ : Fence).slivers (((up).setCo { up.co with fences := [(7, ⟨[7], true, [], 0⟩)] }) )), ⟨[7], true, [], 0⟩, by decide +kernel⟩,
    ⟨7, ((up).setCo { up.co with fences := [(7, ⟨[7], false, [], 0⟩)] }) , ⟨[7], false, [], 0⟩, by decide +kernel⟩⟩

theorem test_witness_chip_warm_reset_and_escalation_1 :
    (∃ (s : State) (x : Reset), s.alive = true ∧ resetOf s 6 0 = some x ∧ x.run = false ∧ s.rc.warmStep = 0) ∧
    (∃ (s : State), s.powered = true ∧ s.rc.warmStep = 1 ∧ s.bt.mounted = false) ∧
    (∃ (s : State), s.powered = true ∧ s.rc.warmStep = 3) ∧
    (∃ (s : State), s.powered = true ∧ s.rc.warmStep = 4 ∧ s.rc.resets = [] ∧ s.rc.deviceState ≠ 0) ∧
    (∃ (s : State), s.powered = true ∧ s.rc.warmStep = 5) ∧
    (∃ (s : State), s.powered = true ∧ s.rc.oosRunning = true ∧ s.rc.warmStep = 0 ∧ resetOf s 6 0 = none ∧ Par.salvageEnable s = 0) := by
  refine ⟨⟨upR (rs0 6 0), rs0 6 0, by decide +kernel⟩,
    ⟨(((((up).setBt { up.bt with mounted := false }) )).setRc { (((up).setBt { up.bt with mounted := false }) ).rc with warmStep := 1 }) , by decide +kernel⟩,
    ⟨((up).setRc { up.rc with warmStep := 3 }) , by decide +kernel⟩,
    ⟨((up).setRc { up.rc with warmStep := 4, deviceState := 1 }) , by decide +kernel⟩,
    ⟨((up).setRc { up.rc with warmStep := 5 }) , by decide +kernel⟩,
    ⟨(((((up).setOd { up.od with num := [(0x780009, 0)] }) )).setRc { (((up).setOd { up.od with num := [(0x780009, 0)] }) ).rc with oosRunning := true }) , by decide +kernel⟩⟩

theorem test_witness_chip_warm_reset_and_escalation_2 :
    (∃ (s : State), s.powered = true ∧ s.rc.oosRunning = true ∧ s.rc.warmStep = 0 ∧ resetOf s 6 0 = none ∧ Par.salvageEnable s ≠ 0) ∧
    (∃ (s : State), s.rc.warmStep = 0) ∧
    (∃ (d i : Nat) (s : State) (x : Reset) (r : FaultRec), s.powered = true ∧ resetOf s d i = some x ∧ resetOver s x = true ∧ recordOf s x.seq = some r ∧ x.cause ≠ 0x11 ∧ x.cause ≠ 0x12 ∧ s.rc.counted = [] ∧ 1 < Par.escalateCount s) ∧
    (∃ (d i : Nat) (s : State) (x : Reset), s.powered = true ∧ resetOf s d i = some x ∧ resetOver s x = false) ∧
    (∃ (d i : Nat) (s : State), resetOf s d i = none) ∧
    (∃ (i : Nat) (s t : State) (x : Reset), s.powered = true ∧ resetOf s 0 i = some x ∧ t = s.reach (x.start + 20000)) := by
  refine ⟨⟨(((((up).setOd { up.od with num := [(0x780009, 1)] }) )).setRc { (((up).setOd { up.od with num := [(0x780009, 1)] }) ).rc with oosRunning := true }) , by decide +kernel⟩,
    ⟨up, by decide +kernel⟩,
    ⟨4, 1, upR { rs0 4 1 with run := true }, { rs0 4 1 with run := true }, ((recordOf (upR { rs0 4 1 with run := true }) ({ rs0 4 1 with run := true } : Reset).seq).get (by decide +kernel)), by decide +kernel⟩,
    ⟨4, 1, upR (rs0 4 1), rs0 4 1, by decide +kernel⟩,
    ⟨4, 1, up, by decide +kernel⟩,
    ⟨5, upR (rs0 0 5), ((upR (rs0 0 5)).reach ((rs0 0 5).start + 20000)), rs0 0 5, by decide +kernel⟩⟩

theorem test_witness_chip_warm_reset_and_escalation_3 :
    (∃ (i : Nat) (s t : State) (x : Reset), s.powered = true ∧ resetOf s 3 i = some x ∧ t = s.reach (x.start + 2000000)) ∧
    (∃ (i : Nat) (s t : State) (x : Reset), s.powered = true ∧ resetOf s 5 i = some x ∧ t = s.reach (x.start + 40000000)) ∧
    (∃ (i : Nat) (s t : State) (x : Reset), s.powered = true ∧ resetOf s 6 i = some x ∧ t = s.reach (x.start + 60000000)) ∧
    (∃ (i : Nat) (s t : State) (x : Reset), s.powered = true ∧ resetOf s 7 i = some x ∧ t = s.reach (x.start + 1000000)) := by
  refine ⟨⟨3, upR (rs0 3 3), ((upR (rs0 3 3)).reach ((rs0 3 3).start + 2000000)), rs0 3 3, by decide +kernel⟩,
    ⟨0, upR (rs0 5 0), ((upR (rs0 5 0)).reach ((rs0 5 0).start + 40000000)), rs0 5 0, by decide +kernel⟩,
    ⟨0, upR (rs0 6 0), ((upR (rs0 6 0)).reach ((rs0 6 0).start + 60000000)), rs0 6 0, by decide +kernel⟩,
    ⟨0, upR (rs0 7 0), ((upR (rs0 7 0)).reach ((rs0 7 0).start + 1000000)), rs0 7 0, by decide +kernel⟩⟩

theorem test_witness_power_and_shedding_1 :
    (∃ (s : State) (d : ClkDomain), s.powered = true ∧ s.bt.stage = 4 ∧ s.rc.islandFailed = false ∧ s.rc.warmStep = 0 ∧ domainOk d = true ∧ domainIdle s d = true) ∧
    (∃ (s : State) (d : ClkDomain), s.powered = true ∧ s.pw.asleep.mem d.key = true) ∧
    (∃ (s : State) (kit mv : Nat), baroRuns s = true ∧ kit < 64 ∧ s.co.deadKits.mem kit = false) ∧
    (∃ (s : State) (kit : Nat), baroRuns s = true ∧ kit < 64) ∧
    (∃ (s : State), baroRuns s = true) ∧
    (∃ (s : State) (meanMw : Nat), baroRuns s = true ∧ 1000 * Par.pkgLimitW s < meanMw ∧ (∀ k, k ∈ liveKits s → kitBusy s k = false)) := by
  refine ⟨⟨up, .port 5, by decide +kernel⟩,
    ⟨((up).setPw { up.pw with asleep := ns [2001] }) , .dram, by decide +kernel⟩,
    ⟨up, 3, 700, by decide +kernel⟩,
    ⟨up, 3, by decide +kernel⟩,
    ⟨up, by decide +kernel⟩,
    ⟨up, 5000000, by decide +kernel⟩⟩

theorem test_witness_power_and_shedding_2 :
    (∃ (s : State) (meanMw : Nat), baroRuns s = true ∧ meanMw ≤ 1000 * Par.pkgLimitW s ∧ 1000 * Par.pkgLimitW s * 98 ≤ meanMw * 100) ∧
    (∃ (s : State), s.powered = true ∧ s.pw.timedFrom = none ∧ s.pw.stage < 4) ∧
    (∃ (s : State), s.powered = true) ∧
    (∃ (s : State) (kit mv : Nat), baroRuns s = true ∧ kit < 64 ∧ Par.sagMv s ≤ mv) ∧
    (∃ (s : State) (since : Nat), s.powered = true ∧ s.pw.refclk = true ∧ s.pw.sagSince = some since ∧ s.pw.stage < sagNow s) ∧
    (∃ (s : State), s.powered = true) := by
  refine ⟨⟨up, 1000 * Par.pkgLimitW up, by decide +kernel⟩,
    ⟨((up).setPw { up.pw with timedFrom := none }) , by decide +kernel⟩,
    ⟨up, by decide +kernel⟩,
    ⟨up, 3, 800, by decide +kernel⟩,
    ⟨((up).setPw { up.pw with sagSince := some 5, sag := [(0, 100)] }) , 5, by decide +kernel⟩,
    ⟨up, by decide +kernel⟩⟩

theorem test_witness_power_and_shedding_3 :
    (∃ (s : State), s.powered = true ∧ s.pw.timedFrom.isSome = true ∧ s.pw.stage = 0) ∧
    (∃ (s : State) (k f : Nat), s.powered = true ∧ s.pw.timedFrom.isSome = true ∧ s.pw.stage = 1 ∧ s.pw.freq.get? k = some f) ∧
    (∃ (s : State), s.powered = true ∧ s.pw.timedFrom.isSome = true ∧ s.pw.stage = 2) ∧
    (∃ (s : State) (k c : Nat), baroRuns s = true ∧ s.pw.timedFrom = none ∧ s.pw.stage < 4 ∧ 120 ≤ c ∧ k < 8) ∧
    (∃ (s : State), s.powered = true ∧ s.pw.timedFrom.isSome = true ∧ 0 < s.pw.stage) ∧
    (∃ (s : State), s.powered = true ∧ s.pw.stage = 3) := by
  refine ⟨⟨((up).setPw { up.pw with timedFrom := some 5 }) , by decide +kernel⟩,
    ⟨((up).setPw { up.pw with timedFrom := some 5, stage := 1, freq := [(2, 1800)] }) , 2, 1800, by decide +kernel⟩,
    ⟨((up).setPw { up.pw with timedFrom := some 5, stage := 2 }) , by decide +kernel⟩,
    ⟨up, 2, 121, by decide +kernel⟩,
    ⟨((up).setPw { up.pw with timedFrom := some 5, stage := 1 }) , by decide +kernel⟩,
    ⟨((up).setPw { up.pw with stage := 3 }) , by decide +kernel⟩⟩

theorem test_witness_power_and_shedding_4 :
    (∃ (s : State), s.powered = true ∧ s.pw.s4Phase = 1) ∧
    (∃ (s : State), s.powered = true ∧ s.pw.s4Phase = 2) ∧
    (∃ (s : State) (since : Nat), s.powered = true ∧ s.pw.refclk = true ∧ 0 < s.pw.stage ∧ s.pw.stage < 4 ∧ s.pw.timedFrom = none ∧ s.pw.s4Phase = 0 ∧ s.pw.holdSince = some since) ∧
    (∃ (s : State) (since : Nat), s.powered = true ∧ s.pw.stage = 4 ∧ s.pw.s4Phase = 3 ∧ s.bt.stage = 4 ∧ s.pw.timedFrom = none ∧ s.pw.holdSince = some since) ∧
    (∃ (s : State), s.powered = true ∧ s.pw.refclk = true ∧ s.rc.islandFailed = false ∧ s.rc.deviceState = 0) := by
  refine ⟨⟨((up).setPw { up.pw with s4Phase := 1 }) , by decide +kernel⟩,
    ⟨((up).setPw { up.pw with s4Phase := 2 }) , by decide +kernel⟩,
    ⟨((up).setPw { up.pw with stage := 1, holdSince := some 5 }) , 5, by decide +kernel⟩,
    ⟨((up).setPw { up.pw with stage := 4, s4Phase := 3, holdSince := some 5 }) , 5, by decide +kernel⟩,
    ⟨up, by decide +kernel⟩⟩

theorem test_witness_odp_requests_transfers_and_mailbox_1 :
    (∃ (s s2 : State) (who : Session) (m : OdpMsg) (r : OdRow) (b : List Byte), arrives who m s = some s2 ∧ m.op = 1 ∧ readValue s2 m = .ok (r, b) ∧ b.length ≤ odpLimit who) ∧
    (∃ (s s2 : State) (who : Session) (m : OdpMsg) (r : OdRow) (b : List Byte), arrives who m s = some s2 ∧ m.op = 1 ∧ readValue s2 m = .ok (r, b) ∧ odpLimit who < b.length) ∧
    (∃ (s s2 : State) (who : Session) (m : OdpMsg) (r : OdRow), arrives who m s = some s2 ∧ m.op = 3 ∧ odLook s2 m.index m.sub m.ten = .ok r) ∧
    (∃ (s s2 : State) (who : Session) (m : OdpMsg) (r : OdRow) (b : List Byte), arrives who m s = some s2 ∧ m.op = 4 ∧ readValue s2 m = .ok (r, b) ∧ r.typ = 10 ∧ segsFull s2 who = false) ∧
    (∃ (s s2 : State) (who : Session) (m : OdpMsg), arrives who m s = some s2 ∧ m.op = 5 ∧ segWriteBad s2 who m = none) ∧
    (∃ (s s2 : State) (who : Session) (m : OdpMsg) (a : Nat), arrives who m s = some s2 ∧ m.op = 9 ∧ lockPlace m.index = some a ∧ lockTaken s2 who a = false) := by
  refine ⟨⟨upO, ((arrives (.can) (om 1 0x0800 1 []) (upO)).get (by decide +kernel)), .can, om 1 0x0800 1 [], ((Except.toOption (readValue (((arrives (.can) (om 1 0x0800 1 []) (upO)).get (by decide +kernel))) (om 1 0x0800 1 []))).get (by decide +kernel)).1, ((Except.toOption (readValue (((arrives (.can) (om 1 0x0800 1 []) (upO)).get (by decide +kernel))) (om 1 0x0800 1 []))).get (by decide +kernel)).2, by decide +kernel, by decide +kernel, by first | exact ok_pair _ | exact ok_get _ | exact acc_val (by decide +kernel) (by decide +kernel) | exact acc_get _ | exact err_of (by decide +kernel) | exact bad_of (by decide +kernel) | rfl, by decide +kernel⟩,
    ⟨((upO).setOd { upO.od with oct := [(0x081001, leBytes 64 0)] }) , ((arrives (.can) (om 1 0x0810 1 []) (((upO).setOd { upO.od with oct := [(0x081001, leBytes 64 0)] }) )).get (by decide +kernel)), .can, om 1 0x0810 1 [], ((Except.toOption (readValue (((arrives (.can) (om 1 0x0810 1 []) (((upO).setOd { upO.od with oct := [(0x081001, leBytes 64 0)] }) )).get (by decide +kernel))) (om 1 0x0810 1 []))).get (by decide +kernel)).1, ((Except.toOption (readValue (((arrives (.can) (om 1 0x0810 1 []) (((upO).setOd { upO.od with oct := [(0x081001, leBytes 64 0)] }) )).get (by decide +kernel))) (om 1 0x0810 1 []))).get (by decide +kernel)).2, by decide +kernel, by decide +kernel, by first | exact ok_pair _ | exact ok_get _ | exact acc_val (by decide +kernel) (by decide +kernel) | exact acc_get _ | exact err_of (by decide +kernel) | exact bad_of (by decide +kernel) | rfl, by decide +kernel⟩,
    ⟨upO, ((arrives (.can) (om 3 0x0800 1 []) (upO)).get (by decide +kernel)), .can, om 3 0x0800 1 [], ((Except.toOption (odLook (((arrives (.can) (om 3 0x0800 1 []) (upO)).get (by decide +kernel))) (om 3 0x0800 1 []).index (om 3 0x0800 1 []).sub (om 3 0x0800 1 []).ten)).get (by decide +kernel)), by decide +kernel, by decide +kernel, by first | exact ok_get _ | exact acc_val (by decide +kernel) (by decide +kernel) | exact acc_get _ | exact err_of (by decide +kernel) | exact bad_of (by decide +kernel) | rfl⟩,
    ⟨((upO).setOd { upO.od with oct := [(0x081001, leBytes 64 0)] }) , ((arrives (.can) (om 4 0x0810 1 []) (((upO).setOd { upO.od with oct := [(0x081001, leBytes 64 0)] }) )).get (by decide +kernel)), .can, om 4 0x0810 1 [], ((Except.toOption (readValue (((arrives (.can) (om 4 0x0810 1 []) (((upO).setOd { upO.od with oct := [(0x081001, leBytes 64 0)] }) )).get (by decide +kernel))) (om 4 0x0810 1 []))).get (by decide +kernel)).1, ((Except.toOption (readValue (((arrives (.can) (om 4 0x0810 1 []) (((upO).setOd { upO.od with oct := [(0x081001, leBytes 64 0)] }) )).get (by decide +kernel))) (om 4 0x0810 1 []))).get (by decide +kernel)).2, by decide +kernel, by decide +kernel, by first | exact ok_pair _ | exact ok_get _ | exact acc_val (by decide +kernel) (by decide +kernel) | exact acc_get _ | exact err_of (by decide +kernel) | exact bad_of (by decide +kernel) | rfl, by decide +kernel, by decide +kernel⟩,
    ⟨upO, ((arrives (.can) (om 5 0x1000 0x0A []) (upO)).get (by decide +kernel)), .can, om 5 0x1000 0x0A [], by decide +kernel⟩,
    ⟨upO, ((arrives (.can) (om 9 0 0 []) (upO)).get (by decide +kernel)), .can, om 9 0 0 [], 22, by decide +kernel⟩⟩

theorem test_witness_odp_requests_transfers_and_mailbox_2 :
    (∃ (s s2 : State) (who : Session) (m : OdpMsg) (a : Nat), arrives who m s = some s2 ∧ m.op = 9 ∧ lockPlace m.index = some a ∧ lockTaken s2 who a = true) ∧
    (∃ (s s2 : State) (who : Session) (m : OdpMsg) (a : Nat) (l : LockRec), arrives who m s = some s2 ∧ m.op = 0x0A ∧ lockPlace m.index = some a ∧ s2.od.locks.get? a = some l ∧ l.who = who) ∧
    (∃ (s s1 : State) (who : Session) (m resp : OdpMsg), takeMsg who m s = some s1 ∧ m.op = 1 ∧ keptFor (touchLocks who s1) who m = some resp) ∧
    (∃ (s s1 : State) (who : Session) (m : OdpMsg) (x : SegXfer), takeMsg who m s = some s1 ∧ m.op = 6 ∧ headerBad who m = none ∧ findSeg (touchLocks who s1) who m.tid = some x ∧ x.sending = false ∧ m.arg = x.next ∧ x.buf.length < x.total ∧ m.data.length = min (odpLimit who) (x.total - x.buf.length) ∧ (x.next + 1) % 16 ≠ 0 ∧ x.buf.length + m.data.length ≠ x.total) ∧
    (∃ (s s1 : State) (who : Session) (m : OdpMsg) (x : SegXfer), takeMsg who m s = some s1 ∧ m.op = 7 ∧ headerBad who m = none ∧ findSeg (touchLocks who s1) who m.tid = some x ∧ x.sending = true ∧ x.next ≤ m.arg ∧ m.arg ≤ x.sent) ∧
    (∃ (s s2 : State) (who : Session) (m : OdpMsg) (x : SegXfer), arrives who m s = some s2 ∧ m.op = 8 ∧ (writeKey s who m).any namedKeys.contains = false ∧ findSeg s2 who m.tid = some x ∧ x.sending = false ∧ x.buf.length = x.total ∧ crc32c x.buf = m.arg) := by
  refine ⟨⟨((upO).setOd { upO.od with locks := [(3, ⟨.vlan 5, 0⟩)] }) , ((arrives (.can) (om 9 0 0 []) (((upO).setOd { upO.od with locks := [(3, ⟨.vlan 5, 0⟩)] }) )).get (by decide +kernel)), .can, om 9 0 0 [], 22, by decide +kernel⟩,
    ⟨((upO).setOd { upO.od with locks := [(22, ⟨.can, 0⟩)] }) , ((arrives (.can) (om 10 0 0 []) (((upO).setOd { upO.od with locks := [(22, ⟨.can, 0⟩)] }) )).get (by decide +kernel)), .can, om 10 0 0 [], 22, (((((arrives (.can) (om 10 0 0 []) (((upO).setOd { upO.od with locks := [(22, ⟨.can, 0⟩)] }) )).get (by decide +kernel))).od.locks.get? (22)).get (by decide +kernel)), by decide +kernel⟩,
    ⟨((upO).setOd { upO.od with kept := [⟨.can, om 1 0x0800 1 [], om 1 0x0800 1 [], 0⟩] }) , ((takeMsg (.can) (om 1 0x0800 1 []) (((upO).setOd { upO.od with kept := [⟨.can, om 1 0x0800 1 [], om 1 0x0800 1 [], 0⟩] }) )).get (by decide +kernel)), .can, om 1 0x0800 1 [], ((keptFor (touchLocks (.can) (((takeMsg (.can) (om 1 0x0800 1 []) (((upO).setOd { upO.od with kept := [⟨.can, om 1 0x0800 1 [], om 1 0x0800 1 [], 0⟩] }) )).get (by decide +kernel)))) (.can) (om 1 0x0800 1 [])).get (by decide +kernel)), by decide +kernel⟩,
    ⟨((upO).setOd { upO.od with segs := [sx0] }) , ((takeMsg (.can) (om 6 0 0 (leBytes 48 0)) (((upO).setOd { upO.od with segs := [sx0] }) )).get (by decide +kernel)), .can, om 6 0 0 (leBytes 48 0), ((findSeg (touchLocks (.can) (((takeMsg (.can) (om 6 0 0 (leBytes 48 0)) (((upO).setOd { upO.od with segs := [sx0] }) )).get (by decide +kernel)))) (.can) (om 6 0 0 (leBytes 48 0)).tid).get (by decide +kernel)), by decide +kernel⟩,
    ⟨((upO).setOd { upO.od with segs := [{ sx0 with sending := true, sent := 3 }] }) , ((takeMsg (.can) ({ om 7 0 0 [] with arg := 2 } : OdpMsg) (((upO).setOd { upO.od with segs := [{ sx0 with sending := true, sent := 3 }] }) )).get (by decide +kernel)), .can, { om 7 0 0 [] with arg := 2 }, ((findSeg (touchLocks (.can) (((takeMsg (.can) ({ om 7 0 0 [] with arg := 2 } : OdpMsg) (((upO).setOd { upO.od with segs := [{ sx0 with sending := true, sent := 3 }] }) )).get (by decide +kernel)))) (.can) ({ om 7 0 0 [] with arg := 2 } : OdpMsg).tid).get (by decide +kernel)), by decide +kernel⟩,
    ⟨((upO).setOd { upO.od with segs := [{ sx0 with total := 3, buf := [1, 2, 3], req := om 5 0x4000 0x11 [] }] }) , ((arrives (.can) ({ om 8 0 0 [] with arg := crc32c [1, 2, 3] } : OdpMsg) (((upO).setOd { upO.od with segs := [{ sx0 with total := 3, buf := [1, 2, 3], req := om 5 0x4000 0x11 [] }] }) )).get (by decide +kernel)), .can, { om 8 0 0 [] with arg := crc32c [1, 2, 3] }, ((findSeg (((arrives (.can) ({ om 8 0 0 [] with arg := crc32c [1, 2, 3] } : OdpMsg) (((upO).setOd { upO.od with segs := [{ sx0 with total := 3, buf := [1, 2, 3], req := om 5 0x4000 0x11 [] }] }) )).get (by decide +kernel))) (.can) ({ om 8 0 0 [] with arg := crc32c [1, 2, 3] } : OdpMsg).tid).get (by decide +kernel)), by decide +kernel⟩⟩

theorem test_witness_odp_requests_transfers_and_mailbox_3 :
    (∃ (s s1 : State) (who : Session) (m : OdpMsg), takeMsg who m s = some s1 ∧ m.op = 0x0B ∧ headerBad who m = none) ∧
    (∃ (s : State) (who : Session) (tid : Nat) (x : SegXfer), carillonUp s = true ∧ findSeg s who tid = some x) ∧
    (∃ (s : State) (area : Nat) (l : LockRec), s.powered = true ∧ s.pw.refclk = true ∧ s.od.locks.get? area = some l) ∧
    (∃ (s : State) (who : Session) (tid : Nat) (k : Kept), s.powered = true ∧ s.pw.refclk = true ∧ s.od.kept.find? (fun k => k.who = who && k.req.tid = tid) = some k) ∧
    (∃ (s : State), s.powered = true ∧ s.bt.stage ≠ 0 ∧ s.bt.cfgPendingSince.isSome = true) ∧
    (∃ (s : State) (p len : Nat), mailboxUp s p = true ∧ (getMb s p).state ≠ 1) := by
  refine ⟨⟨upO, ((takeMsg (.can) (om 11 0 0 []) (upO)).get (by decide +kernel)), .can, om 11 0 0 [], by decide +kernel⟩,
    ⟨((upO).setOd { upO.od with segs := [sx0] }) , .can, 1, ((findSeg (((upO).setOd { upO.od with segs := [sx0] }) ) (.can) (1)).get (by decide +kernel)), by decide +kernel⟩,
    ⟨((upO).setOd { upO.od with locks := [(3, ⟨.can, 0⟩)] }) , 3, ⟨.can, 0⟩, by decide +kernel⟩,
    ⟨((upO).setOd { upO.od with kept := [⟨.can, om 1 0x0800 1 [], om 1 0x0800 1 [], 0⟩] }) , .can, 1, ⟨.can, om 1 0x0800 1 [], om 1 0x0800 1 [], 0⟩, by decide +kernel⟩,
    ⟨((up).setBt { up.bt with cfgPendingSince := some 5 }) , by decide +kernel⟩,
    ⟨up, 0, 64, by decide +kernel⟩⟩

theorem test_witness_odp_requests_transfers_and_mailbox_4 :
    (∃ (s : State) (p len : Nat), mailboxUp s p = true ∧ (getMb s p).state = 1) ∧
    (∃ (s : State) (p : Nat), mailboxUp s p = true ∧ (getMb s p).state = 2) ∧
    (∃ (s : State) (p : Nat), mailboxUp s p = true) ∧
    (∃ (s : State) (p : Nat), mailboxUp s p = true) ∧
    (∃ (s : State) (p head : Nat), mailboxUp s p = true) := by
  refine ⟨⟨setMb up 0 { state := 1 }, 0, 64, by decide +kernel⟩,
    ⟨setMb up 0 { state := 2 }, 0, by decide +kernel⟩,
    ⟨up, 0, by decide +kernel⟩,
    ⟨up, 0, by decide +kernel⟩,
    ⟨up, 0, 5, by decide +kernel⟩⟩

theorem test_witness_odp_writes_take_effect_1 :
    (∃ (s : State) (who : Session) (m : OdpMsg), writeReady 0x300012 who m s = true ∧ leNat m.data = 0) ∧
    (∃ (s : State) (who : Session) (m : OdpMsg), writeReady 0x34000C who m s = true ∧ leNat m.data = 1 ∧ mgmtStandby s = true ∧ s.fr.closed = false ∧ s.fr.closing = false ∧ s.bt.mounted = true) ∧
    (∃ (s : State) (who : Session) (m : OdpMsg), writeReady 0x340003 who m s = true ∧ s.fr.pageGroup.length ≤ slotsUnder s (leNat m.data)) ∧
    (∃ (s : State) (who : Session) (m : OdpMsg), writeReady 0x380005 who m s = true ∧ leNat m.data < 4352 ∧ s.co.fused.mem (leNat m.data) = false ∧ s.co.fenced.mem (leNat m.data) = false ∧ s.co.fences.has (leNat m.data) = false) ∧
    (∃ (s : State) (who : Session) (m : OdpMsg), writeReady 0x380008 who m s = true ∧ leNat m.data = 1 ∧ mgmtStandby s = true) ∧
    (∃ (s : State) (who : Session) (m : OdpMsg), writeReady 0x3C0004 who m s = true ∧ leNat m.data = 0) := by
  refine ⟨⟨upO, .can, wr 0x300012 1 0, by decide +kernel⟩,
    ⟨upOS, .can, wr 0x34000C 1 1, by decide +kernel⟩,
    ⟨upOS, .can, wr 0x340003 1 10, by decide +kernel⟩,
    ⟨upO, .can, wr 0x380005 2 7, by decide +kernel⟩,
    ⟨upOS, .can, wr 0x380008 1 1, by decide +kernel⟩,
    ⟨upO, .can, { wr 0x3C0004 8 0 with ten := true }, by decide +kernel⟩⟩

theorem test_witness_odp_writes_take_effect_2 :
    (∃ (s : State) (who : Session) (m : OdpMsg), writeReady 0x402001 who m s = true) ∧
    (∃ (s : State) (who : Session) (m : OdpMsg), writeReady 0x402008 who m s = true ∧ leNat m.data = 1) ∧
    (∃ (s : State) (who : Session) (m : OdpMsg), writeReady 0x400012 who m s = true ∧ leField s.fa.compStage 2 2 = leNat m.data ∧ stagedOk s.fa.compStage = true ∧ routesOk 65536 0 s.fa.nrtStage = true ∧ leField s.fa.compStage 0 2 ≠ s.fa.composition ∧ standby s = false ∧ inRecovery s = false) ∧
    (∃ (s : State) (who : Session) (m : OdpMsg) (tenant : Nat) (full : Bool) (e : Nat × Nat × Nat), writeReady 0x740003 who m s = true ∧ shaperArgs 10 m.data = some (tenant, full, e)) ∧
    (∃ (s : State) (who : Session) (m : OdpMsg) (c : Nat) (full : Bool) (e : Nat × Nat × Nat), writeReady 0x742002 who m s = true ∧ shaperArgs 3 m.data = some (c, full, e)) ∧
    (∃ (s : State) (who : Session) (m : OdpMsg), writeReady 0x742003 who m s = true ∧ m.data.any (· = 0) = false) := by
  refine ⟨⟨upO, .can, wr 0x402001 1 1, by decide +kernel⟩,
    ⟨upO, .can, wr 0x402008 1 1, by decide +kernel⟩,
    ⟨(((((upO).setOd { upO.od with num := [(0x080001, 1)] }) )).setFa { (((upO).setOd { upO.od with num := [(0x080001, 1)] }) ).fa with compStage := [1, 0, 1, 0] ++ leBytes 60 0 }) , .can, wr 0x400012 2 1, by decide +kernel⟩,
    ⟨upO, .can, om 2 0x7400 3 shp, 0, false, ((shaperArgs 10 (om 2 0x7400 3 shp).data).get (by decide +kernel)).2.2, by decide +kernel⟩,
    ⟨upO, .can, om 2 0x7420 2 shp, 0, false, ((shaperArgs 3 (om 2 0x7420 2 shp).data).get (by decide +kernel)).2.2, by decide +kernel⟩,
    ⟨upO, .can, om 2 0x7420 3 [1, 1, 1, 1, 1, 1], by decide +kernel⟩⟩

theorem test_witness_odp_writes_take_effect_3 :
    (∃ (s : State) (who : Session) (m : OdpMsg), writeReady 0x200004 who m s = true ∧ leNat m.data % 100 = 0) ∧
    (∃ (s : State) (who : Session) (m : OdpMsg), writeReady 0x180003 who m s = true ∧ leNat m.data = 0) ∧
    (∃ (s : State) (who : Session) (m : OdpMsg) (kit : Nat), writeReady 0x78000A who m s = true ∧ kit < 64 ∧ leNat m.data = 2 + 65536 * kit) ∧
    (∃ (s : State) (who : Session) (m : OdpMsg), writeReady 0x78000B who m s = true ∧ leNat m.data = 1 ∧ s.rc.deviceState = 0 ∧ s.rc.oosRunning = false) ∧
    (∃ (s : State) (who : Session) (m : OdpMsg), writeReady 0x080001 who m s = true ∧ s.tr.tenants = [] ∧ s.fa.composition = 0 ∧ s.ti.drainItems = []) ∧
    (∃ (s : State) (who : Session) (m : OdpMsg), writeReady 0x080004 who m s = true ∧ leNat m.data = 1 ∧ mgmtStandby s = true) := by
  refine ⟨⟨upO, .can, wr 0x200004 2 600, by decide +kernel⟩,
    ⟨upO, .can, wr 0x180003 1 0, by decide +kernel⟩,
    ⟨upO, .can, wr 0x78000A 4 (2 + 65536 * 3), 3, by decide +kernel⟩,
    ⟨upO, .can, wr 0x78000B 1 1, by decide +kernel⟩,
    ⟨upO, .can, wr 0x080001 1 1, by decide +kernel⟩,
    ⟨upOS, .can, wr 0x080004 1 1, by decide +kernel⟩⟩

theorem test_witness_odp_writes_take_effect_4 :
    (∃ (s : State) (who : Session) (m : OdpMsg), writeReady 0x080010 who m s = true ∧ leNat m.data = 0 ∧ s.od.firings = []) ∧
    (∃ (s : State) (who : Session) (m : OdpMsg), writeReady 0x081001 who m s = true ∧ m.data = [] ∧ Par.scriptEnable s (m.index - 0x0810) = 0) ∧
    (∃ (s : State) (who : Session) (m : OdpMsg), writeReady 0x081004 who m s = true) ∧
    (∃ (s : State) (who : Session) (m : OdpMsg), writeReady 0x100010 who m s = true ∧ leNat m.data = s.bt.bootId ∧ s.bt.regState = 2) ∧
    (∃ (s : State) (who : Session) (m : OdpMsg), writeReady 0x10000A who m s = true ∧ s.bt.stage ≠ 6 ∧ s.bt.fwState ≠ 2) ∧
    (∃ (s : State) (who : Session) (m : OdpMsg), writeReady 0x10000C who m s = true ∧ leNat m.data = 1 ∧ mgmtStandby s = true ∧ s.bt.fwState = 1) := by
  refine ⟨⟨upO, .can, wr 0x080010 1 0, by decide +kernel⟩,
    ⟨upO, .can, wr 0x081001 0 0, by decide +kernel⟩,
    ⟨upO, .can, wr 0x081004 1 1, by decide +kernel⟩,
    ⟨((upO).setBt { upO.bt with regState := 2 }) , .can, wr 0x100010 8 0, by decide +kernel⟩,
    ⟨upV, .vlan 5, wr 0x10000A 4608 0, by decide +kernel⟩,
    ⟨((upOS).setBt { upOS.bt with fwState := 1 }) , .can, wr 0x10000C 1 1, by decide +kernel⟩⟩

theorem test_witness_odp_writes_take_effect_5 :
    (∃ (s : State), s.powered = true ∧ s.bt.fwState = 2 ∧ s.bt.stage ≠ 5) ∧
    (∃ (s : State) (who : Session) (m : OdpMsg) (img : ImgInfo), writeReady 0x10000D who m s = true ∧ leNat m.data = 1 ∧ mgmtStandby s = true ∧ s.bt.running = some img) ∧
    (∃ (s : State) (who : Session) (m : OdpMsg), writeReady 0x900005 who m s = true ∧ leField m.data 0 2 ≠ 0 ∧ leField m.data 2 1 ≤ 1 ∧ allZero (slice m.data 3 5) = true ∧ s.bt.fabricKeys.get? (leField m.data 2 1) = none) ∧
    (∃ (s : State) (who : Session) (m : OdpMsg), writeReady 0x900006 who m s = true ∧ leNat m.data ≠ 0 ∧ s.bt.fabricKeys.any (fun kv => kv.2.1 = leNat m.data) = true) ∧
    (∃ (s : State) (who : Session) (m : OdpMsg), writeReady 0x900004 who m s = true ∧ leNat m.data < 4 ∧ mgmtStandby s = true ∧ s.bt.running = none ∧ s.bt.revoked = 0) ∧
    (∃ (s : State) (who : Session) (m : OdpMsg), writeReady 0x900009 who m s = true ∧ mgmtStandby s = true ∧ s.tr.tenants = []) := by
  refine ⟨⟨((up).setBt { up.bt with fwState := 2 }) , by decide +kernel⟩,
    ⟨((upOS).setBt { upOS.bt with running := some {} }) , .can, wr 0x10000D 1 1, {}, by decide +kernel⟩,
    ⟨upO, .can, wr 0x900005 40 1, by decide +kernel⟩,
    ⟨((upO).setBt { upO.bt with fabricKeys := [(0, (1, []))] }) , .can, wr 0x900006 2 1, by decide +kernel⟩,
    ⟨upOS, .can, wr 0x900004 1 0, by decide +kernel⟩,
    ⟨upV, .vlan 5, wr 0x900009 112 0, by decide +kernel⟩⟩

theorem test_witness_device_boots_and_attests_1 :
    (∃ (s : State), s.pw.supply = false) ∧
    (∃ (s : State), s.pw.supply = true ∧ s.pw.resetLow = false ∧ s.bt.cfgPendingSince = none) ∧
    (∃ (s : State) (heldNs canId : Nat), s.pw.supply = true ∧ s.pw.resetLow = true ∧ 200000 ≤ heldNs) ∧
    (∃ (s : State) (heldNs canId : Nat), s.pw.supply = true ∧ s.pw.resetLow = true ∧ heldNs < 200000 ∧ s.fr.afterLoss = false) ∧
    (∃ (s : State), s.pw.supply = true) ∧
    (∃ (s : State), s.powered = true ∧ s.bt.stage = 0 ∧ bootHolds s = false) := by
  refine ⟨⟨((up).setPw { up.pw with supply := false }) , by decide +kernel⟩,
    ⟨up, by decide +kernel⟩,
    ⟨((up).setPw { up.pw with resetLow := true }) , 200000, 5, by decide +kernel⟩,
    ⟨((up).setPw { up.pw with resetLow := true }) , 5, 5, by decide +kernel⟩,
    ⟨up, by decide +kernel⟩,
    ⟨((up).setBt { up.bt with stage := 0 }) , by decide +kernel⟩⟩

theorem test_witness_device_boots_and_attests_2 :
    (∃ (s : State), s.powered = true ∧ s.bt.stage = 1 ∧ bootHolds s = false ∧ fwCheck s s.bt.nor = none) ∧
    (∃ (s : State) (reason : Nat), s.powered = true ∧ s.bt.stage = 1 ∧ bootHolds s = false ∧ fwCheck s s.bt.nor = some reason) ∧
    (∃ (s : State) (fs fd : List Nat), s.powered = true ∧ s.bt.stage = 2 ∧ bootHolds s = false ∧ 0 ∈ fs) ∧
    (∃ (s : State), s.powered = true ∧ s.bt.stage = 2 ∧ bootHolds s = false) ∧
    (∃ (s : State), s.powered = true ∧ s.bt.stage = 3 ∧ bootHolds s = false ∧ s.fr.mounting = true ∧ s.fr.afterLoss = false ∧ s.fr.closeRecord = true) ∧
    (∃ (s : State), s.powered = true ∧ s.bt.stage = 3 ∧ bootHolds s = false ∧ s.bt.mounted = true) := by
  refine ⟨⟨((up).setBt { up.bt with stage := 1, nor := fwImg, rootDigests := [(0, sha384 fwKey)] }) , by decide +kernel⟩,
    ⟨((up).setBt { up.bt with stage := 1 }) , 1, by decide +kernel⟩,
    ⟨((up).setBt { up.bt with stage := 2 }) , [0], [], by decide +kernel⟩,
    ⟨((up).setBt { up.bt with stage := 2 }) , by decide +kernel⟩,
    ⟨(((((up).setBt { up.bt with stage := 3 }) )).setFr { (((up).setBt { up.bt with stage := 3 }) ).fr with mounting := true, closeRecord := true }) , by decide +kernel⟩,
    ⟨((up).setBt { up.bt with stage := 3 }) , by decide +kernel⟩⟩

theorem test_witness_device_boots_and_attests_3 :
    (∃ (s : State) (stack4Ok : Bool), s.powered = true ∧ s.bt.stage = 5 ∧ s.bt.recoveryStack = none ∧ bootHolds s = false) ∧
    (∃ (s : State), s.powered = true ∧ s.bt.stage = 5 ∧ s.bt.recoveryStack = none ∧ bootHolds s = false) ∧
    (∃ (s : State), s.alive = true ∧ s.bt.stage = 4 ∧ s.rc.warmStep = 0 ∧ s.bt.regState = 1 ∧ s.pw.refclk = true ∧ mgmtPeers s ≠ []) ∧
    (∃ (s : State) (p : Nat), spdmUp s p = true ∧ Par.spdmEnable s ≠ 0) ∧
    (∃ (s : State) (p : Nat), spdmUp s p = true ∧ Par.spdmEnable s ≠ 0) ∧
    (∃ (s : State) (p asym hash : Nat), spdmUp s p = true ∧ Par.spdmEnable s ≠ 0 ∧ bitOf asym 7 = true ∧ bitOf hash 1 = true) := by
  refine ⟨⟨((up).setBt { up.bt with stage := 5 }) , true, by decide +kernel⟩,
    ⟨((up).setBt { up.bt with stage := 5 }) , by decide +kernel⟩,
    ⟨((upV).setBt { upV.bt with regState := 1 }) , by decide +kernel⟩,
    ⟨up, 0, by decide +kernel⟩,
    ⟨up, 0, by decide +kernel⟩,
    ⟨up, 0, 128, 2, by decide +kernel⟩⟩

theorem test_witness_device_boots_and_attests_4 :
    (∃ (s : State) (p ver : Nat), spdmUp s p = true ∧ Par.spdmEnable s ≠ 0 ∧ s.bt.spdm.get? p = some ver) ∧
    (∃ (s : State) (p ver offset len : Nat), spdmUp s p = true ∧ Par.spdmEnable s ≠ 0 ∧ s.bt.spdm.get? p = some ver ∧ offset < (slot0Chain s).length) ∧
    (∃ (s : State) (p ver nonce : Nat), spdmUp s p = true ∧ Par.spdmEnable s ≠ 0 ∧ s.bt.spdm.get? p = some ver) ∧
    (∃ (s : State) (p ver index nonce : Nat) (block : List Byte), spdmUp s p = true ∧ Par.spdmEnable s ≠ 0 ∧ s.bt.spdm.get? p = some ver ∧ index ≠ 0 ∧ index ≠ 0xFF ∧ (measurements s).get? index = some block) ∧
    (∃ (s : State) (p : Nat), spdmUp s p = true ∧ Par.spdmEnable s = 0) ∧
    (∃ (s : State) (p ver slot offset len : Nat), spdmUp s p = true ∧ Par.spdmEnable s ≠ 0 ∧ s.bt.spdm.get? p = some ver ∧ slot ≠ 0) := by
  refine ⟨⟨((up).setBt { up.bt with spdm := [(0, 0x12)] }) , 0, 0x12, by decide +kernel⟩,
    ⟨((up).setBt { up.bt with spdm := [(0, 0x12)], certChain := [1] }) , 0, 0x12, 0, 5, by decide +kernel, by decide +kernel, by decide +kernel, by simp [slot0Chain, State.setBt]⟩,
    ⟨((up).setBt { up.bt with spdm := [(0, 0x12)] }) , 0, 0x12, 5, by decide +kernel⟩,
    ⟨((up).setBt { up.bt with spdm := [(0, 0x12)] }) , 0, 0x12, 4, 5, (((measurements (((up).setBt { up.bt with spdm := [(0, 0x12)] }) )).get? (4)).get (by decide +kernel)), by decide +kernel⟩,
    ⟨((up).setOd { up.od with num := [(0x90000A, 0)] }) , 0, by decide +kernel⟩,
    ⟨((up).setBt { up.bt with spdm := [(0, 0x12)] }) , 0, 0x12, 1, 0, 5, by decide +kernel⟩⟩

theorem test_witness_step_runs_the_command_in_front :
(∃ (s : State), s.pending = []) :=
  ⟨up, by decide +kernel⟩

theorem test_witness_unpowered_device_is_inert :
(∃ (s : State) (c : Instr), s.powered = false ∧ boardCommand c = false) :=
  ⟨((up).setPw { up.pw with supply := false }) , .domainWake .dram, by decide +kernel⟩

theorem test_witness_quiesce_stands :
    (∃ (s : State), s.standsQuiesced) ∧
    (∃ (s : State), s.powered = true ∧ (∀ c ∈ s.pending, boardCommand c = false)) := by
  refine ⟨⟨(((((up).setRc { up.rc with quiesced := true }) )).setPw { (((up).setRc { up.rc with quiesced := true }) ).pw with faultLow := true, dramSelfRefresh := true }) , by unfold State.standsQuiesced; decide +kernel⟩,
    ⟨up, by decide +kernel⟩⟩

theorem test_witness_memory_stays_canonical :
(∃ (s t : State), s.memOk ∧ step s = .next t) :=
  ⟨up, nextOf (step up), by unfold State.memOk; decide +kernel, rfl⟩

theorem test_witness_home_slivers_and_mesh :
    (∃ (kit pos : Nat), kit < 64 ∧ pos < 68) ∧
    (∃ (j k : Nat), j < 64 ∧ k < 64) ∧
    (∃ (pha : Nat), pha < 2 ^ 50) ∧
    (∃ (s : State) (sl : Nat), s.co.map.get? sl = none) := by
  refine ⟨⟨63, 67, by decide +kernel⟩,
    ⟨3, 63, by decide +kernel⟩,
    ⟨2 ^ 50 - 1, by decide +kernel⟩,
    ⟨up, 5, by decide +kernel⟩⟩

theorem test_witness_translation_hits :
    (∃ (s : State) (tenant pva ent pha : Nat) (write : Bool), ptcLook s tenant pva write = .hit ent pha) ∧
    (∃ (s : State) (tenant pva : Nat) (write : Bool), (∀ n e, s.tr.ptc.get? n = some e → e.hits tenant pva write = false) ∧ FMap.wf s.tr.ptc = true) := by
  refine ⟨⟨upT, 1, 0, 1, 0, false, by decide +kernel⟩,
    ⟨up, 1, 0, false, by intro n e h; exact absurd h (by simp [up, FMap.get?]), by decide +kernel⟩⟩

theorem test_witness_commands_of_the_other_port :
(∃ (port op : Nat) (e : Quad) (c : Instr) (s t : State), cmdRow port op e c ∧ cmdArrives port op e s = some t ∧ tenantPort (cmdTenant e) ≠ port) :=
  ⟨0, 1, quad (1 + 2 ^ 17 + 2 ^ 21) 0 7 0, .fill 0 (quad (1 + 2 ^ 17 + 2 ^ 21) 0 7 0), upC, ((cmdArrives (0) (1) (quad (1 + 2 ^ 17 + 2 ^ 21) 0 7 0) (upC)).get (by decide +kernel)), Or.inl ⟨Or.inl rfl, rfl⟩, by decide +kernel, by decide +kernel⟩

theorem test_witness_fills_stay_within_grants :
(∃ (port span : Nat) (e : Quad) (s t : State), takesCmd port 1 e s = some t ∧ span = (if bitOf e.w0.toNat 20 then 512 else 1) ∧ e.w1.toNat % (0x200000 * span) = 0 ∧ e.w2.toNat % span = 0 ∧ e.w2.toNat + span ≤ t.ti.rangePages) :=
  ⟨0, 1, quad (1 + 2 ^ 8 + 2 ^ 21) 0 7 0, upC, ((takesCmd (0) 1 (quad (1 + 2 ^ 8 + 2 ^ 21) 0 7 0) (upC)).get (by decide +kernel)), by decide +kernel⟩

def w_window_table_has_room_0_1 : State := ((((((counted (item 0x18 [0, 0, 1, 5 + 2 ^ 20 * 7 + 2 ^ 36 * 15, 64 + 2 ^ 18]))).setFa { (counted (item 0x18 [0, 0, 1, 5 + 2 ^ 20 * 7 + 2 ^ 36 * 15, 64 + 2 ^ 18])).fa with rwt := [(rwtKey 6 7, rwt0)] }) )).setOd { ((((counted (item 0x18 [0, 0, 1, 5 + 2 ^ 20 * 7 + 2 ^ 36 * 15, 64 + 2 ^ 18]))).setFa { (counted (item 0x18 [0, 0, 1, 5 + 2 ^ 20 * 7 + 2 ^ 36 * 15, 64 + 2 ^ 18])).fa with rwt := [(rwtKey 6 7, rwt0)] }) ).od with num := [(0x440002, 1)] }) 

def w_window_table_has_room_0_2 : Item := ((itemReady (1) 0x18 (w_window_table_has_room_0_1)).get (by decide +kernel))

def w_window_table_has_room_0_4 : State := ((accVal (windowWalk (1) (w_window_table_has_room_0_2).tenant (wordAt (w_window_table_has_room_0_2).words 1) (64 * wordAt (w_window_table_has_room_0_2).words 2) (wordAt (w_window_table_has_room_0_2).words 2 / 0x8000 + 3) (w_window_table_has_room_0_2).prog ((w_window_table_has_room_0_2).regs.getD 0 0) (setItem (1) (w_window_table_has_room_0_2) (w_window_table_has_room_0_1)))).get (by decide +kernel)).2

theorem test_witness_window_table_has_room :
(∃ (n : Nat) (s : State) (i : Item) (base : Nat) (s2 : State), itemReady n 0x18 s = some i ∧ widthsOk i.words [56, 44, 40, 37] = true ∧ wordAt i.words 1 % 64 = 0 ∧ wordAt i.words 2 ≠ 0 ∧ wBits i.words 4 36 18 ≤ 262144 ∧ wordAt i.words 1 + 64 * wordAt i.words 2 ≤ 2 ^ 56 ∧ ownsCounters (setItem n i s) i.tenant (wBits i.words 4 17 0) (wBits i.words 4 36 18) = true ∧ windowWalk n i.tenant (wordAt i.words 1) (64 * wordAt i.words 2) (wordAt i.words 2 / 0x8000 + 3) i.prog (i.regs.getD 0 0) (setItem n i s) = .ok base s2 ∧ s2.fa.rwt.has (rwtKey (wBits i.words 3 19 0) (wBits i.words 3 35 20)) = false ∧ (65536 ≤ s2.fa.rwt.length ∨ Par.windowsPerTenant s2 ≤ s2.fa.rwt.count (fun _ w => w.tenant = i.tenant))) :=
  ⟨1, w_window_table_has_room_0_1, w_window_table_has_room_0_2, ((accVal (windowWalk (1) (w_window_table_has_room_0_2).tenant (wordAt (w_window_table_has_room_0_2).words 1) (64 * wordAt (w_window_table_has_room_0_2).words 2) (wordAt (w_window_table_has_room_0_2).words 2 / 0x8000 + 3) (w_window_table_has_room_0_2).prog ((w_window_table_has_room_0_2).regs.getD 0 0) (setItem (1) (w_window_table_has_room_0_2) (w_window_table_has_room_0_1)))).get (by decide +kernel)).1, w_window_table_has_room_0_4, by decide +kernel, by decide +kernel, by decide +kernel, by decide +kernel, by decide +kernel, by decide +kernel, by decide +kernel, by delta w_window_table_has_room_0_4; first | exact acc_val (by decide +kernel) (by decide +kernel) | exact acc_get _ | exact bad_of (by decide +kernel), by decide +kernel, by decide +kernel⟩

theorem test_witness_rows_dequantise :
(∃ (r : RowVal) (i code : Nat), r.codes[i]? = some code) :=
  ⟨⟨0x3F80, 0, 0, true, [200]⟩, 0, 200, by decide +kernel⟩

theorem test_witness_check_algorithms :
    (∃ (alg : Nat) (p : CrcPar) (check : Nat), (alg, p, check) ∈ [(1, ⟨32, 0x1EDC6F41, 0xFFFFFFFF, 0xFFFFFFFF, true, true⟩, 0xE3069283), (2, ⟨32, 0x04C11DB7, 0xFFFFFFFF, 0xFFFFFFFF, true, true⟩, 0xCBF43926), (3, ⟨64, 0xAD93D23594C93659, 0xFFFFFFFFFFFFFFFF, 0xFFFFFFFFFFFFFFFF, true, true⟩, 0xAE8B14860A799888), (4, ⟨16, 0x1021, 0xFFFF, 0, false, false⟩, 0x29B1), (5, ⟨8, 0x07, 0, 0, false, false⟩, 0xF4)]) ∧
    (∃ (alg : Nat) (par : CrcPar), alg ≠ 0 ∧ par ≠ ⟨0, 0, 0, 0, false, false⟩) ∧
    (∃ (n : Nat) (s : State) (i : Item), itemReady n 0x40 s = some i ∧ crcSelect (wBits i.words 1 2 0) (checkPar i.words) = none) ∧
    (∃ (p : Proc) (w : BitVec 32) (s : State) (c : Ctx) (bytes : List Byte), issues .chmInit p w s = some c ∧ c.readS (srcA w c).toNat 48 = some bytes ∧ crcSelect (leField bytes 0 1) ⟨leField bytes 1 1, leField bytes 8 8, leField bytes 16 8, leField bytes 24 8, bitOf (leField bytes 2 1) 0, bitOf (leField bytes 2 1) 1⟩ = none) := by
  refine ⟨⟨4, ⟨16, 0x1021, 0xFFFF, 0, false, false⟩, 0x29B1, by decide +kernel⟩,
    ⟨1, ⟨8, 7, 0, 0, false, false⟩, by decide +kernel⟩,
    ⟨1, item 0x40 [0, 7, 0, 64], ((itemReady (1) 0x40 (item 0x40 [0, 7, 0, 64])).get (by decide +kernel)), by decide +kernel⟩,
    ⟨.tabor 0, (reg 0x54 0), (run (reg 0x54 0) ({ c0 with x := [], scratch := [(0, 6)] })), ((issues .chmInit (.tabor 0) (reg 0x54 0) (run (reg 0x54 0) ({ c0 with x := [], scratch := [(0, 6)] }))).get (by decide +kernel)), (6 : Byte) :: List.replicate 47 0, by decide +kernel⟩⟩

theorem test_witness_fuel_runs_out :
    (∃ (p : Proc) (w : BitVec 32) (s : State) (op : Op) (c : Ctx) (i : Instr), (op, i) ∈ phicorRows p w ∧ canIssue p op w.toNat s = some c ∧ c.fuel = 0) ∧
    (∃ (p : Proc) (w : BitVec 32) (s : State) (op : Op) (i : Instr), (op, i) ∈ phicorRows p w ∧ canIssue p op w.toNat s = none) := by
  refine ⟨⟨.tabor 0, reg 1 0, run (reg 1 0) { c0 with fuel := 0 }, .add, ((canIssue (.tabor 0) (.add) (reg 1 0).toNat (run (reg 1 0) { c0 with fuel := 0 })).get (by decide +kernel)), .add (.tabor 0) (reg 1 0), List.mem_of_getElem? (i := 0) rfl, by decide +kernel, by decide +kernel⟩,
    ⟨.tabor 0, reg 1 0, up, .add, .add (.tabor 0) (reg 1 0), List.mem_of_getElem? (i := 0) rfl, by decide +kernel⟩⟩

theorem test_witness_faults_are_recorded :
    (∃ (cause domain index detail : Nat) (tasks : List Task) (s : State), s.rc.resets = [] ∧ s.rc.deviceState = 0 ∧ domain ≠ 7 ∧ s.rc.islandFailed = false ∧ s.rc.queueA.length < 64) ∧
    (∃ (cause domain index detail : Nat) (tasks : List Task) (s : State), s.rc.resets = [] ∧ s.rc.deviceState = 0 ∧ domain ≠ 7 ∧ s.rc.islandFailed = false ∧ s.rc.queueA.length = 64) ∧
    (∃ (cause domain index detail : Nat) (tasks : List Task) (s : State) (x : Reset), s.rc.deviceState ≠ 1 ∧ s.rc.resets = [x] ∧ encloses x.domain x.index domain index = true) := by
  refine ⟨⟨0x13, 0, 5, 0, [], up, by decide +kernel⟩,
    ⟨0x13, 0, 5, 0, [], ((up).setRc { up.rc with queueA := List.replicate 64 ⟨0x13, 0, 0, 0, 5, 1, 0, 0, 0⟩ }) , by decide +kernel⟩,
    ⟨0x13, 0, 5, 0, [], upR (rs0 6 0), rs0 6 0, by decide +kernel⟩⟩

theorem test_witness_sessions_hold_eight_requests :
(∃ (who : Session) (m : OdpMsg) (s s1 : State), takeMsg who m s = some s1 ∧ m.op = 2 ∧ (writeKey s who m).any namedKeys.contains = false ∧ keptFor (touchLocks who s1) who m = none ∧ sessionFull (touchLocks who s1) who = true) :=
  ⟨.mailbox 0, wr 0x200004 2 600, setMb up 0 { state := 1, handed := some 18, reqBuf := [(0, 2), (1, 1), (3, 0x20), (4, 4), (10, 2), (16, 0x58), (17, 2)], waiting := List.replicate 9 (om 0x10 0 0 []) }, ((takeMsg (.mailbox 0) (wr 0x200004 2 600) (setMb up 0 { state := 1, handed := some 18, reqBuf := [(0, 2), (1, 1), (3, 0x20), (4, 4), (10, 2), (16, 0x58), (17, 2)], waiting := List.replicate 9 (om 0x10 0 0 []) })).get (by decide +kernel)), by decide +kernel⟩

end Sys2Proof.Tests
end

/-!
PROOFS. Home slivers, the Sliver Map and the kit mesh (R120–R122).
-/

namespace Sys2Proof

/-- The top field of a word needs no mask: a shift leaves only its bits. -/
theorem bitsOf_eq_div {v hi lo : Nat} (hlo : lo ≤ hi) (h : v < 2 ^ (hi + 1)) : bitsOf v hi lo = v / 2 ^ lo := by
  have hq : v / 2 ^ lo < 2 ^ (hi + 1 - lo) := by
    rw [Nat.div_lt_iff_lt_mul (Nat.two_pow_pos lo), ← Nat.pow_add, Nat.sub_add_cancel (Nat.le_succ_of_le hlo)]
    exact h
  exact Nat.mod_eq_of_lt hq

namespace Machine

/-- The largest physical number is that of the last position of the last kit (R120). -/
theorem taborNumber_le {kit pos : Nat} (hk : kit < 64) (hp : pos < 68) : kit * 68 + pos ≤ 4351 := by omega

/-- The multiplicative hash of R121 takes the top twelve bits of the product modulo 2^64. -/
theorem sliverOf_eq_bitsOf (line : Nat) :
    sliverOf line = bitsOf (line * 0x9E3779B97F4A7C15 % 2 ^ 64) 63 52 :=
  (bitsOf_eq_div (by decide) (Nat.mod_lt _ (by decide))).symm

/-- Every line has one of the 4,096 slivers. -/
theorem sliverOf_lt (line : Nat) : sliverOf line < 4096 := by
  rw [sliverOf_eq_bitsOf]
  exact Nat.mod_lt _ (by decide)

/-- A sliver that the Sliver Map does not list is at home in its native kit, at its own index there. -/
theorem sliverEnt_of_unlisted {s : State} {sl : Nat} (h : s.co.map.get? sl = none) :
    sliverEnt s sl = ⟨sl / 64, sl % 64, false⟩ := by
  simp only [sliverEnt, h]

/-- A line's home is the tabor that the entry of its sliver names. -/
theorem homeTabor_eq (s : State) (line : Nat) :
    homeTabor s line = (sliverEnt s (sliverOf line)).kit * 68 + (sliverEnt s (sliverOf line)).pos := rfl

/-- Of the two truncated differences one is zero, and the other is the distance. -/
theorem sub_add_sub_eq_natAbs (a b : Nat) : (a - b) + (b - a) = ((a : Int) - (b : Int)).natAbs := by omega

/-- The mesh distance adds the differences of the columns and of the rows; no bound on the kits is needed. -/
theorem meshDistance_eq (j k : Nat) :
    meshDistance j k = ((j % 8 : Int) - (k % 8 : Int)).natAbs + ((j / 8 : Int) - (k / 8 : Int)).natAbs := by
  simp only [meshDistance, sub_add_sub_eq_natAbs, Int.natCast_emod, Int.natCast_ediv, Int.cast_ofNat_Int]

/-- Settles O50: each clause is the lemma above on its function, and holds without the bounds on kits and addresses. -/
theorem homeSliversAndMesh : Obligations.HomeSliversAndMesh :=
  ⟨fun _ _ => taborNumber_le, homeTabor_eq, fun j k _ _ => meshDistance_eq j k,
    fun pha _ => ⟨sliverOf_eq_bitsOf (pha / 64), sliverOf_lt (pha / 64)⟩,
    fun _ _ h => by rw [sliverEnt_of_unlisted h]⟩

end Machine
end Sys2Proof

/-!
PROOFS. WINDOW_OPEN and the room of the Receive Window Table (R236, R237).
-/

namespace Sys2Proof.Machine

/-- The entry of a window whose lines begin at `base`, as the item's descriptor words describe it (R236). -/
def windowEntry (i : Item) (base : Nat) : Rwt where
  job := wBits i.words 3 19 0
  window := wBits i.words 3 35 20
  tenant := i.tenant
  closing := false
  rights := wBits i.words 3 39 36
  base := base / 64
  lines := wordAt i.words 2
  ctrBase := wBits i.words 4 17 0
  ctrCount := wBits i.words 4 36 18
  recalls := []

/-- The last step of WINDOW_OPEN, once the walk has found one run at `base` under the whole window: an entry of that
job and window is not opened again, and the table and the tenant's share must have room (R236, R237). -/
def windowInstall (n : Nat) (i : Item) (base : Nat) (s : State) : Acc Unit :=
  let key := rwtKey (wBits i.words 3 19 0) (wBits i.words 3 35 20)
  if s.fa.rwt.has key then .bad Config.invalidDescriptor s
  else if 65536 ≤ s.fa.rwt.length || Par.windowsPerTenant s ≤ s.fa.rwt.count (fun _ w => w.tenant = i.tenant) then
    .bad Config.noSpace s
  else .ok () (endItem n Config.ok 0 0 (s.setFa { s.fa with rwt := s.fa.rwt.set key (windowEntry i base) }))

/-- A WINDOW_OPEN whose arguments, address and counters are in order is what the walk of its pages and the
installing of its entry make of it. -/
theorem exec_windowOpen_of_args {n : Nat} {s : State} {i : Item} (hi : itemReady n 0x18 s = some i)
    (hw : widthsOk i.words [56, 44, 40, 37] = true) (hpva : wordAt i.words 1 % 64 = 0) (hlines : wordAt i.words 2 ≠ 0)
    (hcount : wBits i.words 4 36 18 ≤ 262144) (hend : wordAt i.words 1 + 64 * wordAt i.words 2 ≤ 2 ^ 56)
    (hctr : ownsCounters (setItem n i s) i.tenant (wBits i.words 4 17 0) (wBits i.words 4 36 18) = true) :
    exec (.windowOpen n) s = .next (Acc.run n
      ((windowWalk n i.tenant (wordAt i.words 1) (64 * wordAt i.words 2) (wordAt i.words 2 / 0x8000 + 3) i.prog
        (i.regs.getD 0 0) (setItem n i s)).bind (windowInstall n i))) := by
  have hargs : (widthsOk i.words [56, 44, 40, 37] && wordAt i.words 1 % 64 = 0 && wordAt i.words 2 ≠ 0 &&
      wBits i.words 4 36 18 ≤ 262144) = true := by
    simp [hw, hpva, hlines, hcount]
  change execWindowOpen n s = _
  rw [execWindowOpen, withItem_of_ready _ hi]
  dsimp only
  rw [hargs, checked_ok, if_neg (Nat.not_lt.mpr hend), hctr, if_neg (by decide)]
  rfl

/-- With no entry of that job and window and no room for one, nothing is installed (R237). -/
theorem windowInstall_full {i : Item} {s : State} (n base : Nat)
    (hnew : s.fa.rwt.has (rwtKey (wBits i.words 3 19 0) (wBits i.words 3 35 20)) = false)
    (hfull : 65536 ≤ s.fa.rwt.length ∨ Par.windowsPerTenant s ≤ s.fa.rwt.count (fun _ w => w.tenant = i.tenant)) :
    windowInstall n i base s = .bad Config.noSpace s := by
  simp only [windowInstall, hnew, Bool.false_eq_true, if_false, Bool.or_eq_true, decide_eq_true_eq, if_pos hfull]

/-- Settles O54: the walk hands its run to the installing of the entry, which answers NO_SPACE in both cases of R237,
and that status ends the item. -/
theorem windowTableHasRoom : Obligations.WindowTableHasRoom := by
  intro n s i base s2 hi hw hpva hlines hcount hend hctr hwalk hnew hfull
  rw [exec_windowOpen_of_args hi hw hpva hlines hcount hend hctr, hwalk, Acc.bind_ok,
    windowInstall_full n base hnew hfull, Acc.run_bad]

end Sys2Proof.Machine

/-!
PROOFS. The command ring: an entry that names a tenant of the other port (R269), and a FILL against the grants of
its tenant (R276).
-/

namespace Sys2Proof

namespace FMap

variable {α β : Type}

/-- A write to a listed key of a map in order stays in its place: what reads the same from the old value and from the
new one reads the same from the whole map. -/
theorem map_set_of_get? {m : FMap α} {j : Nat} {v w : α} {f : Nat × α → β} (hm : wf m = true) (hj : get? m j = some v)
    (hf : f (j, w) = f (j, v)) : (set m j w).map f = m.map f := by
  induction m with
  | nil => cases hj
  | cons kv t ih =>
    obtain ⟨k, x⟩ := kv
    obtain ⟨habove, ht⟩ := wf_cons.mp hm
    rw [get?_cons] at hj
    by_cases hk : j = k
    · subst hk
      rw [if_pos rfl] at hj
      cases hj
      simp [set, hf]
    · rw [if_neg hk] at hj
      have hlt : ¬ j < k := fun hlt => by
        rw [get?_above fun y hy => Nat.lt_trans hlt (habove y hy)] at hj
        cases hj
      simp [set, hlt, hk, ih ht hj]

theorem map_modify {m : FMap α} {j : Nat} {g : α → α} {f : Nat × α → β} (hm : wf m = true)
    (hf : ∀ v, f (j, g v) = f (j, v)) : (modify m j g).map f = m.map f := by
  unfold modify
  split
  next v hv => exact map_set_of_get? hm hv (hf v)
  next => rfl

theorem wf_modify {m : FMap α} (hm : wf m = true) (j : Nat) (g : α → α) : wf (modify m j g) = true := by
  unfold modify
  split
  · exact wf_set hm _ _
  · exact hm

end FMap

namespace Machine

/-! The entry at HEAD of a command ring (R269, R285). -/

/-- Each command of the ring is carried out by `cmdEntry`, under its own operation, or under FILL's where the
operation is undefined. -/
theorem exec_of_cmdRow {port op : Nat} {e : Quad} {c : Instr} (h : cmdRow port op e c) :
    ∃ (row : Nat) (k : Nat → Nat → State → State), (row = op ∨ row = 1 ∧ opMasks op = none) ∧
      ∀ s, exec c s = .next (cmdEntry port row e s k) := by
  rcases h with ⟨rfl | hundef, rfl⟩ | ⟨rfl, rfl⟩ | ⟨rfl, rfl⟩ | ⟨rfl, rfl⟩ | ⟨rfl, rfl⟩ | ⟨rfl, rfl⟩ | ⟨rfl, rfl⟩ |
    ⟨rfl, rfl⟩ | ⟨rfl, rfl⟩
  case inl.inr => exact ⟨1, _, Or.inr ⟨rfl, hundef⟩, fun _ => rfl⟩
  all_goals exact ⟨_, _, Or.inl rfl, fun _ => rfl⟩

/-- An entry that arrives is taken off the ring; then its tenant's port is tested, and then its fields. -/
theorem cmdEntry_of_arrives {port op row : Nat} {e : Quad} {s t : State} (k : Nat → Nat → State → State)
    (h : cmdArrives port op e s = some t) (hrow : row = op ∨ row = 1 ∧ opMasks op = none) :
    cmdEntry port row e s k =
      if tenantPort (cmdTenant e) ≠ port then giveResult port (cmdTenant e) (cmdTag e) Config.accessDenied t
      else if !entryOk e then giveResult port (cmdTenant e) (cmdTag e) Config.invalidDescriptor t
      else k (cmdTenant e) (cmdTag e) t := by
  simp only [cmdArrives, Option.ite_none_right_eq_some, Option.some.injEq, Bool.and_eq_true, decide_eq_true_eq] at h
  obtain ⟨⟨⟨⟨⟨⟨hup, hbme⟩, hactive⟩, hentry⟩, hwarm⟩, hcode⟩, rfl⟩ := h
  have hop : ¬ e.w0.toNat % 256 = row → row = 1 ∧ opMasks (e.w0.toNat % 256) = none := by
    rw [hcode]
    exact fun hne => hrow.resolve_left fun heq => hne heq.symm
  simp only [cmdEntry]
  rw [if_neg]
  · rfl
  · simpa [hup, hbme, hactive, hentry, hwarm] using hop

/-- Settles O52: the port of the tenant is the first test on an entry taken off the ring, whatever its operation and
its other fields hold. -/
theorem commandsOfTheOtherPort : Obligations.CommandsOfTheOtherPort := by
  intro port op e c s t hc harr hport
  obtain ⟨row, k, hrow, hexec⟩ := exec_of_cmdRow hc
  rw [hexec, cmdEntry_of_arrives k harr hrow, if_pos hport]

/-! FILL and the grants of its tenant (R276). -/

/-- A command that is taken arrives, for a tenant of the port, and with its reserved fields clear. -/
theorem takesCmd_spec {port op : Nat} {e : Quad} {s t : State} (h : takesCmd port op e s = some t) :
    cmdArrives port op e s = some t ∧ tenantPort (cmdTenant e) = port ∧ entryOk e = true := by
  simp only [takesCmd, Option.ite_none_right_eq_some, Bool.and_eq_true, decide_eq_true_eq] at h
  obtain ⟨⟨⟨harr, hport⟩, hok⟩, ht⟩ := h
  refine ⟨?_, hport, hok⟩
  simp only [cmdArrives, Option.ite_none_right_eq_some, Bool.and_eq_true, decide_eq_true_eq]
  exact ⟨harr, ht⟩

theorem cmdEntry_of_takes {port op : Nat} {e : Quad} {s t : State} (k : Nat → Nat → State → State)
    (h : takesCmd port op e s = some t) : cmdEntry port op e s k = k (cmdTenant e) (cmdTag e) t := by
  obtain ⟨harr, hport, hok⟩ := takesCmd_spec h
  simp [cmdEntry_of_arrives k harr (Or.inl rfl), hport, hok]

/-- The pages that an entry of the ring asks a FILL for: one, or those of a 1 GiB entry (R284). -/
def fillSpan (e : Quad) : Nat := if bitOf e.w0.toNat 20 then 512 else 1

/-- The translation that a FILL installs. -/
def fillEnt (e : Quad) (s : State) : PtcEnt :=
  { tenant := cmdTenant e, vpn := e.w1.toNat / 0x200000, big := bitOf e.w0.toNat 20, r := bitOf e.w0.toNat 21,
    w := bitOf e.w0.toNat 22, ppn := e.w2.toNat, draining := false, inflight := 0, last := s.now }

/-- A FILL would have answered a MISS of this tenant and 2 MiB page. -/
def fillReaches (e : Quad) (tenant vpn : Nat) : Bool :=
  tenant = cmdTenant e && e.w1.toNat / 0x200000 ≤ vpn && vpn < e.w1.toNat / 0x200000 + fillSpan e

/-- The outstanding MISSes that a FILL reaches are denied in the order of a list of MISSes. -/
def denyReached (e : Quad) (misses : FMap Miss) (s : State) : State :=
  (misses.filter fun kv => fillReaches e kv.2.tenant kv.2.vpn).foldl (fun s kv => denyMiss kv.1 s) s

/-- A FILL of aligned pages within the range is installed if every page lies in a grant of the tenant; else its RESULT
is pushed, and the MISSes that are outstanding after that are denied. -/
theorem exec_fill_of_takes {port : Nat} {e : Quad} {s t : State} (h : takesCmd port 1 e s = some t)
    (hva : e.w1.toNat % (0x200000 * fillSpan e) = 0) (hpa : e.w2.toNat % fillSpan e = 0)
    (hrange : e.w2.toNat + fillSpan e ≤ t.ti.rangePages) :
    exec (.fill port e) s = .next (
      if ∀ k < fillSpan e, grantedTo t (cmdTenant e) (e.w2.toNat + k) = true then install (fillEnt e t) t
      else denyReached e (giveResult port (cmdTenant e) (cmdTag e) Config.invalidDescriptor t).tr.misses
        (giveResult port (cmdTenant e) (cmdTag e) Config.invalidDescriptor t)) := by
  change execFill port e s = _
  rw [execFill, cmdEntry_of_takes _ h]
  dsimp only
  rw [← fillSpan, if_neg (by simp [hva, hpa, hrange])]
  by_cases hall : ∀ k < fillSpan e, grantedTo t (cmdTenant e) (e.w2.toNat + k) = true
  · rw [if_pos hall, if_neg (by simpa using hall)]
    rfl
  · rw [if_neg hall, if_pos (by simpa using hall)]
    rfl

/-! What the push of a RESULT does to the outstanding MISSes: one that waited for a slot of the ring is marked as
written, by `FMap.modify`. On a map in order that changes neither keys nor tenants nor pages. -/

/-- What a refused FILL reads of an outstanding MISS: its TAG, its tenant and its page. -/
def missId (kv : Nat × Miss) : Nat × Nat × Nat := (kv.1, kv.2.tenant, kv.2.vpn)

/-- A step of the drain writes the oldest entry that waits, if the ring takes it; a MISS is then marked. -/
theorem drainReqRing_succ (port n : Nat) (s : State) :
    drainReqRing port (n + 1) s = s ∨
      ∃ s' : State, drainReqRing port (n + 1) s = drainReqRing port n s' ∧
        (s'.tr.misses = s.tr.misses ∨
          ∃ tag, s'.tr.misses = s.tr.misses.modify tag fun m => { m with writtenAt := some s.now }) := by
  simp only [drainReqRing]
  split
  next => exact Or.inl rfl
  next ent rest _ =>
    split
    · exact Or.inl rfl
    · refine Or.inr ⟨_, rfl, ?_⟩
      cases ent with
      | miss tag => exact Or.inr ⟨tag, by split <;> simp⟩
      | result => exact Or.inl (by split <;> simp)

theorem drainReqRing_missIds {port n : Nat} {s : State} (hw : FMap.wf s.tr.misses = true) :
    (drainReqRing port n s).tr.misses.map missId = s.tr.misses.map missId := by
  induction n generalizing s with
  | zero => rfl
  | succ n ih =>
    obtain hstop | ⟨s', hs', hsame | ⟨tag, hmark⟩⟩ := drainReqRing_succ port n s
    · rw [hstop]
    · rw [hs', ih (hsame ▸ hw), hsame]
    · rw [hs', ih (hmark ▸ FMap.wf_modify hw tag _), hmark]
      exact FMap.map_modify hw fun _ => rfl

theorem giveResult_missIds {port tenant tag status : Nat} {s : State} (hw : FMap.wf s.tr.misses = true) :
    (giveResult port tenant tag status s).tr.misses.map missId = s.tr.misses.map missId :=
  drainReqRing_missIds (s := setPort s _ _) hw

/-- What is denied, and in which order, depends only on the identities of the MISSes. -/
theorem denyReached_congr {e : Quad} {l m : FMap Miss} (s : State) (h : l.map missId = m.map missId) :
    denyReached e l s = denyReached e m s := by
  have fold (l : FMap Miss) : denyReached e l s =
      ((l.map missId).filter fun x => fillReaches e x.2.1 x.2.2).foldl (fun s x => denyMiss x.1 s) s := by
    rw [List.filter_map, List.foldl_map]
    rfl
  rw [fold, fold, h]

/-- R276 on every state that keeps its outstanding MISSes in order, as the refutation of O53 below does not: a FILL
within the grants is installed, and one outside them is refused and denies the MISSes it reaches. -/
theorem exec_fill_of_wf {port : Nat} {e : Quad} {s t : State} (h : takesCmd port 1 e s = some t)
    (hva : e.w1.toNat % (0x200000 * fillSpan e) = 0) (hpa : e.w2.toNat % fillSpan e = 0)
    (hrange : e.w2.toNat + fillSpan e ≤ t.ti.rangePages) (hw : FMap.wf t.tr.misses = true) :
    exec (.fill port e) s = .next (
      if ∀ k < fillSpan e, grantedTo t (cmdTenant e) (e.w2.toNat + k) = true then install (fillEnt e t) t
      else denyReached e t.tr.misses (giveResult port (cmdTenant e) (cmdTag e) Config.invalidDescriptor t)) := by
  rw [exec_fill_of_takes h hva hpa hrange, denyReached_congr _ (giveResult_missIds hw)]

/-! A state whose outstanding MISSes are not in order of their TAGs. -/

/-- A FILL of tenant 0, of page 0 for PVA 0 with the right R. -/
def fillPage0 : Quad := ⟨BitVec.ofNat 64 (1 + 2 ^ 21), 0, 0, 0⟩

/-- A MISS of tenant 0 at PVA 0, with no task, that has been written to the request ring. -/
def missPage0 : Miss := ⟨0, 0, false, 0, some 0, []⟩

/-- Port 0 of a device that serves: one entry in the command ring, an empty request ring, and the MISS with TAG 3
still waiting for a slot of it. -/
def portWithMiss3 : HostPort :=
  { up := true
    fns := [(0, { bme := true })]
    cmdRing := { qstate := 1, tail := 1, sizeLog2 := 4 }
    reqRing := { qstate := 1, sizeLog2 := 4 }
    waiting := [.miss 3 0 false 0] }

/-- A device with one pool page and no grant, whose MISSes are listed with TAG 5 before TAG 3. -/
def missesUnordered : State :=
  { bt := { stage := 4, mounted := true }
    ti := { rangePages := 1 }
    tr := { misses := [(5, missPage0), (3, missPage0)] }
    ho := { ports := [(0, portWithMiss3)] } }

/-- The device with the FILL taken off its command ring. -/
def missesUnorderedTaken : State :=
  missesUnordered.setHo { missesUnordered.ho with
    ports := [(0, { portWithMiss3 with cmdRing := { qstate := 1, head := 1, tail := 1, sizeLog2 := 4 } })] }

theorem takesCmd_missesUnordered : takesCmd 0 1 fillPage0 missesUnordered = some missesUnorderedTaken := by
  decide +kernel

/-- The device after the RESULT of the refused FILL. -/
def missesUnorderedResult : State :=
  giveResult 0 (cmdTenant fillPage0) (cmdTag fillPage0) Config.invalidDescriptor missesUnorderedTaken

/-- Marking the MISS with TAG 3 as written inserts it again, before TAG 5. -/
theorem missesUnorderedResult_misses :
    missesUnorderedResult.tr.misses = [(3, missPage0), (5, missPage0), (3, missPage0)] := by decide +kernel

/-- The FILL denies all three. -/
theorem denyReached_after_result :
    (denyReached fillPage0 missesUnorderedResult.tr.misses missesUnorderedResult).tr.misses = [] := by decide +kernel

/-- Denying the two MISSes that were outstanding before the RESULT leaves one behind. -/
theorem denyReached_before_result :
    (denyReached fillPage0 missesUnorderedTaken.tr.misses missesUnorderedResult).tr.misses = [(3, missPage0)] := by
  decide +kernel

/-- Refutes O53, on a state whose map of MISSes is not in order of its keys, a form that `FMap` is not meant to take.
The push of the RESULT marks the waiting MISS as written, and on such a map the mark adds an entry; the model then
denies the MISSes that stand after the push, where the statement lists those from before it. By `exec_fill_of_wf` the
rule holds wherever the map is in order. -/
theorem not_fillsStayWithinGrants : ¬ Obligations.FillsStayWithinGrants := by
  intro h
  have hstated := (h 0 1 fillPage0 _ _ takesCmd_missesUnordered (by decide) (by decide) (by decide) (by decide)).2 0
    (by decide) (by decide)
  have hmodel := exec_fill_of_takes takesCmd_missesUnordered (by decide) (by decide) (by decide)
  rw [if_neg (by decide)] at hmodel
  have hnext : (.next (denyReached fillPage0 missesUnorderedResult.tr.misses missesUnorderedResult) : Res3) =
      .next (denyReached fillPage0 missesUnorderedTaken.tr.misses missesUnorderedResult) :=
    hmodel.symm.trans hstated
  injection hnext with hstate
  have hmisses := congrArg (·.tr.misses) hstate
  simp only [denyReached_after_result, denyReached_before_result] at hmisses
  cases hmisses

end Machine
end Sys2Proof

/-!
PROOFS. The dequantised row (R367).
-/

namespace Sys2Proof.Machine

/-- Element i of the dequantised row is the fused multiply-add of the code at i (R367). -/
theorem dequant_getElem?_of_code {r : RowVal} {i code : Nat} (h : r.codes[i]? = some code) :
    (dequant r)[i]? = some (ffma Fmt.fp32 (encodeF Fmt.fp32 (FVal.ofInt (code : Int)))
      (bf16To32 r.scale) (bf16To32 r.offset)) := by
  rw [dequant, List.getElem?_map, h, Option.map_some]

/-- Dequantising keeps the number of elements. -/
@[simp] theorem dequant_length (r : RowVal) : (dequant r).length = r.codes.length := List.length_map _

/-- Widening from bf16 appends sixteen zero fraction bits. -/
theorem bf16To32_eq_mul_two_pow (b : Nat) : bf16To32 b = b * 2 ^ 16 := Nat.mul_comm 65536 b

/-- Settles O55: the elements and their number come from the map over the codes, and both header fields are widened by
sixteen zero bits. -/
theorem rowsDequantise : Obligations.RowsDequantise := fun r _ _ hcode =>
  ⟨dequant_getElem?_of_code hcode, dequant_length r, bf16To32_eq_mul_two_pow r.scale, bf16To32_eq_mul_two_pow r.offset⟩

end Sys2Proof.Machine

/-!
PROOFS. The check algorithms: their parameters and check values (R429), and the configurations that CHECK and CHM INIT
refuse (R430).
-/

namespace Sys2Proof.Machine

/-! The check values (R429). -/

/-- The fixed rows of R429's table: the value of ALG, its parameters and its check value. -/
def crcTable : List (Nat × CrcPar × Nat) :=
  [(1, ⟨32, 0x1EDC6F41, 0xFFFFFFFF, 0xFFFFFFFF, true, true⟩, 0xE3069283),
   (2, ⟨32, 0x04C11DB7, 0xFFFFFFFF, 0xFFFFFFFF, true, true⟩, 0xCBF43926),
   (3, ⟨64, 0xAD93D23594C93659, 0xFFFFFFFFFFFFFFFF, 0xFFFFFFFFFFFFFFFF, true, true⟩, 0xAE8B14860A799888),
   (4, ⟨16, 0x1021, 0xFFFF, 0, false, false⟩, 0x29B1),
   (5, ⟨8, 0x07, 0, 0, false, false⟩, 0xF4)]

/-- The nine ASCII bytes "123456789". -/
def checkInput : List Byte := [0x31, 0x32, 0x33, 0x34, 0x35, 0x36, 0x37, 0x38, 0x39]

/-- With all parameter fields zero, each fixed ALG selects the parameters of its row. -/
theorem crcSelect_of_mem_crcTable {alg : Nat} {p : CrcPar} {check : Nat} (h : (alg, p, check) ∈ crcTable) :
    crcSelect alg ⟨0, 0, 0, 0, false, false⟩ = some p := by
  have hrows : ∀ row ∈ crcTable, crcSelect row.1 ⟨0, 0, 0, 0, false, false⟩ = some row.2.1 := by decide
  exact hrows _ h

/-- The procedure of R428, run over "123456789" with the parameters of a row, gives the check value of the row. -/
theorem crcValue_of_mem_crcTable {alg : Nat} {p : CrcPar} {check : Nat} (h : (alg, p, check) ∈ crcTable) :
    crcValue p (crcFeed p p.init checkInput) = check := by
  have hrows : ∀ row ∈ crcTable, crcValue row.2.1 (crcFeed row.2.1 row.2.1.init checkInput) = row.2.2 := by
    decide +kernel
  exact hrows _ h

/-! What a configuration selects (R430). -/

/-- CONFIGURABLE takes a configuration as it stands, within the bounds of R430. -/
theorem crcSelect_configurable_iff (par : CrcPar) : crcSelect 0 par = some par ↔
    8 ≤ par.width ∧ par.width ≤ 64 ∧ par.poly ≠ 0 ∧ par.poly < 2 ^ par.width ∧ par.init < 2 ^ par.width ∧
      par.xorout < 2 ^ par.width := by
  rw [crcSelect, if_pos rfl, Option.ite_none_right_eq_some]
  exact and_iff_left rfl

/-- Every other ALG refuses a configuration that is not all zero. -/
theorem crcSelect_of_nonzero {alg : Nat} {par : CrcPar} (halg : alg ≠ 0) (hpar : par ≠ ⟨0, 0, 0, 0, false, false⟩) :
    crcSelect alg par = none := by
  rw [crcSelect, if_neg halg, if_neg hpar]

/-! The users of a configuration that is refused. -/

/-- The rules on a CHECK include R430. -/
theorem checkOk_of_refused {w : List Nat} (h : crcSelect (wBits w 1 2 0) (checkPar w) = none) : checkOk w = false := by
  rw [checkOk, h, Option.isSome_none, Bool.and_false]

/-- A CHECK whose arguments break a rule ends with INVALID_DESCRIPTOR (R438). -/
theorem exec_check_of_not_ok {n : Nat} {s : State} {i : Item} (hi : itemReady n 0x40 s = some i)
    (hw : checkOk i.words = false) :
    exec (.check n) s = .next (endItem n Config.invalidDescriptor 0 0 (setItem n i s)) := by
  change execCheck n s = _
  rw [execCheck, withItem_of_ready _ hi]
  dsimp only
  rw [hw]

/-- A configuration block whose parameters are refused gives no Chime state, whatever its prefix and reserved fields. -/
theorem chimeBlock_of_refused {b : List Byte}
    (h : crcSelect (leField b 0 1) ⟨leField b 1 1, leField b 8 8, leField b 16 8, leField b 24 8,
      bitOf (leField b 2 1) 0, bitOf (leField b 2 1) 1⟩ = none) : chimeBlock b = none := by
  simp only [chimeBlock, h, ite_self]

/-- A CHM INIT on a block that is refused ends its program with INVALID_DESCRIPTOR (R433). -/
theorem exec_chmInit_of_refused {p : Proc} {w : BitVec 32} {s : State} {c : Ctx} {b : List Byte}
    (hc : issues .chmInit p w s = some c) (hb : c.readS (srcA w c).toNat 48 = some b) (hblock : chimeBlock b = none) :
    exec (.chmInit p w) s = .next (failProc p c Config.invalidDescriptor s) := by
  have hop : opChmInit w.toNat c = .error Config.invalidDescriptor := by
    rw [srcA] at hb
    simp only [opChmInit, hb, hblock]
  exact issuePure_fails opChmInit hc hop

/-- Settles O56: R429's table row by row, the two rules of R430, and the refusal that each user of a configuration
draws from them. -/
theorem checkAlgorithms : Obligations.CheckAlgorithms :=
  ⟨fun _ _ _ hrow => ⟨crcSelect_of_mem_crcTable hrow, crcValue_of_mem_crcTable hrow⟩,
    crcSelect_configurable_iff,
    fun _ _ => crcSelect_of_nonzero,
    fun _ _ _ hi hpar => exec_check_of_not_ok hi (checkOk_of_refused hpar),
    fun _ _ _ _ _ hc hb hpar => exec_chmInit_of_refused hc hb (chimeBlock_of_refused hpar)⟩

end Sys2Proof.Machine

/-!
PROOFS. A device without power does nothing (R486, R571), and the quiesce stands.
-/

namespace Sys2Proof.Machine

section Unpowered

variable {s : State} (h : s.powered = false)
include h

theorem act_unpowered (t : State) : s.act t = .next s := by simp [State.act, h]

theorem issuePure_unpowered (op : Op) (f : Nat → Ctx → Res) (p : Proc) (w : BitVec 32) :
    issuePure op f p w s = .next s := issue_unpowered h ..

end Unpowered

/-- The guard that stops each row: `s.act` for an event inside, the shared front ends for items, entries, frames and
requests, and for the rest the row's own first test. -/
theorem exec_unpowered {s : State} {c : Instr} (h : s.powered = false) (hc : boardCommand c = false) :
    exec c s = .next s ∨ ∃ a, exec c s = .fault (.absentAddress a) := by
  cases c with
  | powerGood | resetNAssert | resetNDeassert | supplyLoss => cases hc
  | drumbeatRunEnd | driftChunkCopyDone | switchComplete | switchStallExpiry | moveTimeout | sourceRefcountZero |
  moduleLost | pageRebuildDone | waitingPageHomed | tierDrainDone | frostUnitReadDone | frostReadRetryDone |
  frostParityRebuildDone | readDisturbRelocate | bufferUnitFillDone | flushAgeExpiry | frostProgramDone |
  journalGroupCommit | dieBusyTimeout | flashDieLost | dieRebuildDone | flashChannelLost | degradedPageMoved |
  reencryptDone | closeRecordProgrammed | taborFence | fenceReadoutDone | fenceRehomeDone | programResident |
  sliceExpiry | waitSwitchOut | waitConditionMet | rangeLoadDone | wrbEntryExpiry | completionPost | rdS | rdX | upg
  | atomX | wb | evictClean | rdUc | wrUc | atomHome | snpInv | snpFwdS | snpFwdX | snpRecall | snpData | ackInv |
  ackFwd | dataHome | gntS | gntE | gntM | gntUpg | atomRsp | wbAck | ucRsp | refuse | combineEntryApply |
  backoffResend | homeTimeoutExpiry | snoopResend | domainHello | domainHelloTimer | domainPropose | domainConfirm |
  domainCommit | domainRefuse | formWaitExpiry | peerLost | laneSignalDetect | anegComplete | eqAdaptComplete |
  pcsLock | trainingTimeout | mkpduRx | sakInstalled | linkDown | laneLockLoss | serWindowExceeded | lldpRx |
  lldpTxTimer | neighbourAgeOut | subportTxSelect | flagStoreRelease | bulk | ackTimer | appliedTimer | rtoExpiry |
  responseTimeout | rxPathExpiry | xltQuietExpiry | rateIncreaseTick | generationGraceExpiry | staleResendTimer |
  staleHoldExpiry | flagStoreSend | gatherTimer | copyDescriptorStart | copyDone | atomicReplyTimer |
  atomicRetryExpiry | ledgerEntryExpiry | ledgerSourceExpiry | ledgerHoldExpiry | handoffCommit | handoffReclaim |
  preparedResolvePoll | translationTimeout | ptcDrainComplete | drainTimeout | hostLinkDown | sqDrainDone |
  irqTimeExpiry | inboxLineWrite | pieceAccumulate | unitDone | mxBlockQuantise | roundComplete | inboxHoldExpiry |
  roundStalled | tableUnpinned | rowRead | rowUpdateEndWait | remotePutDataReady | putWaitExpiry | getWaitExpiry |
  ownWaitExpiry | cumulusSlotRelease | dropLruWaitExpiry | arbiterGrant | hpWindowExpiry | pageHomeAccessDone |
  frostEraseDone | packetBecomesEligible =>
    exact .inl (act_unpowered h _)
  | windowOpen | windowClose | ownHandoff | counterAlloc | counterFree | counterSet | nop | hostToPool | poolToHost
  | poolAtomic | regionPublish | pageRelease | pageHint | setProtection | tierDrain | loadProgram | unloadProgram |
  runProgram | progAttach | progDetach | copyOp | roundDeclare | roundCancel | roundContribute | tableCreate |
  tableReplace | tableDestroy | embLookup | embUpdate | indexCreate | insert | delete | epochPublish | search |
  compact | indexDestroy | storeCreate | storeDestroy | check =>
    exact .inl (congrArg Host.Outcome.next (withItem_unpowered h _ _ _))
  | putOp | getOp | pin | unpin | drop | prefetch =>
    exact .inl (congrArg Host.Outcome.next (hostOp_unpowered h _ _))
  | remotePut | remoteGet | remotePin | remoteUnpin | remoteDrop | remotePrefetch =>
    exact .inl (congrArg Host.Outcome.next (remoteOp_unpowered h _ _))
  | fill | deny | invalidate | invalidateTenant | extentGrant | extentRevoke | tenantCreate | tenantModify |
  tenantDestroy =>
    exact .inl (congrArg Host.Outcome.next (cmdEntry_unpowered h _ _ _ _))
  | xltRead | xltWrite | flagStore | atomic | copyData =>
    exact .inl (congrArg Host.Outcome.next (rxRequest_unpowered h _ _))
  | regAck | fwStage | fwCommit | svnCommit | fabricKeySet | fabricKeyActive | rootKeyRevoke | debugUnlock | drained
  | close | reservePct | fenceTabor | fenceClear | portEnable | retrain | commit | tenantShaperSet | classShaperSet
  | dwrrWeights | resetRequest | takeOutOfService | eventOverrun | mgmtMode | restoreDefaults | triggerLost |
  lastVerify | scriptImage | scriptEnable =>
    exact .inl (rowWrite_unpowered h _ _ _)
  | add | sub | andOp | orOp | xorOp | sll | srl | sra | slt | sltu | minOp | maxOp | minu | maxu | seq | sne | addi
  | andi | ori | xori | slli | srli | srai | slti | lui | mul | mulh | mulhu | div | divu | rem | remu | pset | pget
  | pand | por | pnot | beq | bne | blt | bge | bltu | bgeu | j | call | ret | lds | sts | vlds | vsts | vgath |
  vscat | vlut | vadd | vlog | vmm | vsh | vcmp | vbcast | vmov | vsel | vext | vfadd | vfmul | vfma | vdot | vcvtn
  | vcvtw | vmxq | vred | vredc | vcadd | vperm | chmInit | chmUpd | chmVupd | chmFin | ctlNop | timeOp | fuelOp |
  srseed | taborOp | pktLd | pktSt | pktLen =>
    simp [exec, execAdd, execSub, execAnd, execOr, execXor, execSll, execSrl, execSra, execSlt, execSltu, execMin,
    execMax, execMinu, execMaxu, execSeq, execSne, execAddi, execAndi, execOri, execXori, execSlli, execSrli,
    execSrai, execSlti, execLui, execMul, execMulh, execMulhu, execDiv, execDivu, execRem, execRemu, execPset,
    execPget, execPand, execPor, execPnot, execBeq, execBne, execBlt, execBge, execBltu, execBgeu, execJ, execCall,
    execRet, execLds, execSts, execVlds, execVsts, execVgath, execVscat, execVlut, execVadd, execVlog, execVmm,
    execVsh, execVcmp, execVbcast, execVmov, execVsel, execVext, execVfadd, execVfmul, execVfma, execVdot,
    execVcvtn, execVcvtw, execVmxq, execVred, execVredc, execVcadd, execVperm, execChmInit, execChmUpd, execChmVupd,
    execChmFin, execCtlNop, execTime, execFuel, execSrseed, execTabor, execPktLd, execPktSt, execPktLen,
    issuePure_unpowered h]
  | ldg | stg | vldg | vstg | ldacq | atom | ratom | rld | rst | rstf | vrld | vrst | phicorCopy | waitc | fencePub
  | fenceAcq | fenceFab | endOp | yield | waitf | pktPass | pktReject | odRd | odWr | odEvent =>
    simp [exec, execLdg, execStg, execVldg, execVstg, execLdacq, execAtom, execRatom, execRld, execRst, execRstf,
    execVrld, execVrst, execPhicorCopy, execWaitc, execFencePub, execFenceAcq, execFenceFab, execEnd, execYield,
    execWaitf, execPktPass, execPktReject, execOdRd, execOdWr, execOdEvent, issueRange, issueWin, issueCopy,
    issueWaitc, issueFence, issueEnd, issueYield, issueWaitf, issuePkt, issue_unpowered h]
  | response | applied | ack | nak =>
    simp [exec, execResponse, execApplied, execAck, execNak, ctlTake_unpowered h]
  | getVersion | getCapabilities | negotiateAlgorithms | getDigests | getCertificate | challenge | getMeasurements =>
    simp [exec, execGetVersion, execGetCapabilities, execNegotiateAlgorithms, execGetDigests, execGetCertificate,
    execChallenge, execGetMeasurements, spdmAgreed, spdmServe_unpowered h]
  | galeStall | homeWatchdog | tierFault | kitFault | portLogic | portSerdes | meshFault | tocsinHeartbeat |
  carillonWatchdog | tocsinAHeartbeat | islandFailed =>
    simp [exec, execGaleStall, execHomeWatchdog, execTierFault, execKitFault, execPortLogic, execPortSerdes,
    execMeshFault, execTocsinHeartbeat, execCarillonWatchdog, execTocsinAHeartbeat, execIslandFailed,
    watched_unpowered h]
  | driftRound | frostGcRun | scrubRun | cumulusEvictionRound | journalFlush =>
    simp [exec, execDriftRound, execFrostGcRun, execScrubRun, execCumulusEvictionRound, execJournalFlush,
    drumAllowed_unpowered h]
  | vddCoreSag | avsLoopPeriod | droopDetected | freqLoopPeriod | pkgPowerLoopPeriod | tempLoopPeriod =>
    simp [exec, execVddCoreSag, execAvsLoopPeriod, execDroopDetected, execFreqLoopPeriod, execPkgPowerLoopPeriod,
    execTempLoopPeriod, baroRuns, h]
  | pfFlr | mbDoorbell | mbRelease | mbOverrunClear | mbNotifyLostClear | mbNotifyHead =>
    simp [exec, execPfFlr, execMbDoorbell, execMbRelease, execMbOverrunClear, execMbNotifyLostClear,
    execMbNotifyHead, mailboxUp_unpowered h]
  | atsInvalidateRequest | vfFlr | sqEnable | sqDisable | cqEnable | cqDisable | sqTailDoorbell | cqHeadDoorbell |
  reqRingHeadDoorbell | cmdRingTailDoorbell | sqEntryFetch | busMasterEnable =>
    simp [exec, execAtsInvalidateRequest, execVfFlr, execSqEnable, execSqDisable, execCqEnable, execCqDisable,
    execSqTailDoorbell, execCqHeadDoorbell, execReqRingHeadDoorbell, execCmdRingTailDoorbell, execSqEntryFetch,
    execBusMasterEnable, mmioUp_unpowered h]
  | odpRead | describe | segReadInit | segWriteInit | lockOp | unlockOp =>
    simp [exec, execOdpRead, execDescribe, execSegReadInit, execSegWriteInit, execLock, execUnlock,
    answerMsg_unpowered h]
  | segData | segAck =>
    simp [exec, execSegData, execSegAck, takeQuiet_unpowered h]
  | abortOp =>
    simp [exec, execAbort, takeMsg_unpowered h]
  | odpWrite | segEnd =>
    simp [exec, execOdpWrite, execSegEnd, odWrite, answerMsg_unpowered h]
  | registrationAttempt | scratchEccError | sliceTagError | quotaChargeTick | quotaWindowExpiry | hostLinkUp |
  autoPublishTimer | chimeUnitLost =>
    simp [exec, execRegistrationAttempt, execScratchEccError, execSliceTagError, execQuotaChargeTick,
    execQuotaWindowExpiry, execHostLinkUp, execAutoPublishTimer, execChimeUnitLost, alive_unpowered h]
  | pwrWarnNAssert | shedS4Enter | s4FlushDone | pwrSafeAssert | shedLift | domainSleep | domainWake | bootIslandUp
  | imageLoaded | dramTrained | mountDone | bootReady | recoveryStackTrained | fwProgramDone | tocsinRestarted |
  hardwiredPathFire | warmResetDrainDone | warmResetDomainsDone | warmResetRestoreDone | warmResetDone |
  outOfService | configStoreDone | pwrWarnNDeassert | vddCoreSagClear | refclk25mInterruption =>
    simp [exec, execPwrWarnNAssert, execShedS4Enter, execS4FlushDone, execPwrSafeAssert, execShedLift,
    execDomainSleep, execDomainWake, execBootIslandUp, execImageLoaded, execDramTrained, execMountDone,
    execBootReady, execRecoveryStackTrained, execFwProgramDone, execTocsinRestarted, execHardwiredPathFire,
    execWarmResetDrainDone, execWarmResetDomainsDone, execWarmResetRestoreDone, execWarmResetDone, execOutOfService,
    execConfigStoreDone, execPwrWarnNDeassert, execVddCoreSagClear, execRefclk25mInterruption, h]
  | shedS1Enter | shedS2Enter | shedS3Enter =>
    simp [exec, execShedS1Enter, execShedS2Enter, execShedS3Enter, timedStage, h]
  | mmioRegWrite =>
    simp [exec, execMmioRegWrite, mmioUp_unpowered h, mailboxUp_unpowered h]
  | ctxStall | waitLimitExpiry | itemEngine | hostReadCompletion | atsTranslationCompletion | prgResponse |
  triggerPeriod | scriptRun | segTimeout | invocationAdmit | epochPublishDone | chipWarmReset | portReset |
  sagPersistExpiry | tenantContextReset | kitReset | carillonReset | resetDone | resetBoundExpiry | lockMaxExpiry |
  tidRetentionExpiry =>
    refine .inl ?_
    simp [exec, execCtxStall, execWaitLimitExpiry, execItemEngine, execHostReadCompletion,
    execAtsTranslationCompletion, execPrgResponse, execTriggerPeriod, execScriptRun, execSegTimeout,
    execInvocationAdmit, execEpochPublishDone, execChipWarmReset, execPortReset, execSagPersistExpiry,
    execTenantContextReset, execKitReset, execCarillonReset, execResetDone, execResetBoundExpiry, execLockMaxExpiry,
    execTidRetentionExpiry, watched_unpowered h, mmioUp_unpowered h, scriptsRun_unpowered h, carillonUp_unpowered h,
    alive_unpowered h, h]
    repeat' split
    all_goals rfl
  | uncorrectableLine =>
    simp only [exec, execUncorrectableLine]
    split
    · exact .inr ⟨_, rfl⟩
    · exact .inl (act_unpowered h _)
end Sys2Proof.Machine

namespace Sys2Proof.Machine

/-- Settles O46: each row but the board's begins with a guard that a device without power does not pass. -/
theorem unpoweredDeviceIsInert : Obligations.UnpoweredDeviceIsInert := fun _ _ h hc => exec_unpowered h hc

theorem powered_of_quiesced {s : State} (h : s.rc.quiesced = true) : s.powered = false := by
  simp [State.powered, h]

/-- A nanosecond that passes keeps a quiesce. -/
theorem standsQuiesced_idle {s : State} (h : s.standsQuiesced) : (idle s).standsQuiesced := by
  simpa [State.standsQuiesced] using h

theorem idle_eq_setNow (s : State) : idle s = (s.setPending (idle s).pending).setNow (idle s).now := by
  simp only [idle]
  split <;> rfl

/-- A command that leaves the front of the queue keeps a quiesce. -/
theorem standsQuiesced_setPending_tail {s : State} {c : Instr} {rest : List Instr} (h : s.standsQuiesced)
    (hp : s.pending = c :: rest) : (s.setPending rest).standsQuiesced ∧ boardCommand c = false := by
  obtain ⟨hq, hf, hd, hb⟩ := h
  rw [hp] at hb
  exact ⟨⟨hq, hf, hd, fun d hd => hb d (List.mem_cons_of_mem _ hd)⟩, hb c List.mem_cons_self⟩

theorem step_of_quiesced {s : State} (h : s.standsQuiesced) :
    (∃ t, step s = .next t ∧ t.standsQuiesced ∧ t = (s.setPending t.pending).setNow t.now) ∨
      ∃ a, step s = .fault (.absentAddress a) := by
  simp only [step]
  cases hp : s.pending with
  | nil => exact .inl ⟨idle s, rfl, standsQuiesced_idle h, idle_eq_setNow s⟩
  | cons c rest =>
    obtain ⟨ht, hc⟩ := standsQuiesced_setPending_tail h hp
    refine (exec_unpowered (powered_of_quiesced ht.1) hc).imp_left fun he => ?_
    exact ⟨s.setPending rest, he, ht, rfl⟩

end Sys2Proof.Machine
namespace Sys2Proof.Machine

/-- The state that the hardwired path leaves (R486). -/
def firedState (s : State) : State :=
  (s.setPw { s.pw with faultLow := true, dramSelfRefresh := true }).setRc
    { s.rc with quiesced := true, quiesceOrdered := false, deviceState := 2 }

theorem exec_hardwiredPathFire {s : State} (h : s.powered = true) :
    ∃ u, exec .hardwiredPathFire s = .next (firedState u) ∧ u.pending = s.pending ∧ u.mem = s.mem ∧ u.pw = s.pw := by
  simp only [exec, execHardwiredPathFire, h, Bool.not_true, Bool.false_eq_true, if_false]
  split
  · exact ⟨s, rfl, rfl, rfl, rfl⟩
  · exact ⟨_, rfl, by simp, by simp, by simp⟩

/-- Settles O47: a quiesced device is unpowered, so only the queue and local time move; the path's firing brings it there. -/
theorem quiesceStands : Obligations.QuiesceStands := by
  refine ⟨fun _ h => step_of_quiesced h, fun s h hb => ?_⟩
  obtain ⟨u, he, hp, hm, hw⟩ := exec_hardwiredPathFire h
  exact ⟨firedState u, he, ⟨rfl, rfl, rfl, hp ▸ hb⟩, hm, by simp [firedState, hw]⟩

end Sys2Proof.Machine

/-!
PROOFS. Fuel (R143): every row of chapter 5 issues its operation, and an issue looks at the fuel first.
-/

namespace Sys2Proof.Machine

/-- A row's command is the issue of its operation. -/
def IsIssue (p : Proc) (w : BitVec 32) (x : Op × Instr) : Prop :=
  ∀ s, ∃ k : Ctx → State → State, exec x.2 s = issue x.1 p w k s

namespace IsIssue

variable {p : Proc} {w : BitVec 32} {op : Op} {i : Instr}

theorem of_front {g : State → Res3} (hg : ∀ s, ∃ k : Ctx → State → State, g s = issue op p w k s)
    (h : ∀ s, exec i s = g s) : IsIssue p w (op, i) := fun s => h s ▸ hg s

theorem of_pure {f : State → Nat → Ctx → Res} (h : ∀ s, exec i s = issuePure op (f s) p w s) :
    IsIssue p w (op, i) := of_front (fun _ => ⟨_, rfl⟩) h

theorem of_range {f : Nat → Ctx → Except Nat (Option RangeAcc)} (h : ∀ s, exec i s = issueRange op f p w s) :
    IsIssue p w (op, i) := of_front (fun _ => ⟨_, rfl⟩) h

theorem of_win {f : Nat → Ctx → WinAcc} (h : ∀ s, exec i s = issueWin op f p w s) : IsIssue p w (op, i) :=
  of_front (fun _ => ⟨_, rfl⟩) h

theorem of_fence {f : Ctx → Ctx} {b : Bool} (h : ∀ s, exec i s = issueFence op f b p w s) : IsIssue p w (op, i) :=
  of_front (fun _ => ⟨_, rfl⟩) h

theorem of_pkt {o : Option Nat} (h : ∀ s, exec i s = issuePkt op o p w s) : IsIssue p w (op, i) :=
  of_front (fun _ => ⟨_, rfl⟩) h

end IsIssue

/-- Every row of chapter 5 is the issue of its operation: of its own registers, of an access, of a fence, or of a row with
an issue of its own. -/
theorem isIssue_of_mem_phicorRows (p : Proc) (w : BitVec 32) : ∀ x ∈ phicorRows p w, IsIssue p w x := by
  unfold phicorRows
  repeat' refine List.forall_mem_append.2 ⟨?_, ?_⟩
  all_goals repeat' refine List.forall_mem_cons.2 ⟨?_, ?_⟩
  any_goals exact List.forall_mem_nil _
  any_goals (apply IsIssue.of_pure; intro s; dsimp only [exec]; exact rfl)
  iterate 6 exact .of_range fun _ => by dsimp only [exec]; rfl
  iterate 6 exact .of_win fun _ => by dsimp only [exec]; rfl
  · exact .of_front (g := issueCopy p w) (fun _ => ⟨_, rfl⟩) fun _ => by dsimp only [exec]; rfl
  · exact .of_front (g := issueWaitc p w) (fun _ => ⟨_, rfl⟩) fun _ => by dsimp only [exec]; rfl
  iterate 3 exact .of_fence fun _ => by dsimp only [exec]; rfl
  · exact .of_front (g := issueEnd p w) (fun _ => ⟨_, rfl⟩) fun _ => by dsimp only [exec]; rfl
  · exact .of_front (g := issueYield p w) (fun _ => ⟨_, rfl⟩) fun _ => by dsimp only [exec]; rfl
  · exact .of_front (g := issueWaitf p w) (fun _ => ⟨_, rfl⟩) fun _ => by dsimp only [exec]; rfl
  iterate 2 exact .of_pkt fun _ => by dsimp only [exec]; rfl
  · exact .of_front (g := execOdRd p w) (fun _ => ⟨_, rfl⟩) fun _ => rfl
  · exact .of_front (g := execOdWr p w) (fun _ => ⟨_, rfl⟩) fun _ => rfl
  · exact .of_front (g := execOdEvent p w) (fun _ => ⟨_, rfl⟩) fun _ => rfl

/-- Settles O57: a row issues its operation, and an issue without fuel, or without a program whose turn it is, does not look
at the operation. -/
theorem fuelRunsOut : Obligations.FuelRunsOut := by
  constructor
  · intro p w s op c i hi hc hf
    obtain ⟨k, hk⟩ := isIssue_of_mem_phicorRows p w _ hi s
    exact hk.trans (issue_no_fuel k hc hf)
  · intro p w s op i hi hc
    obtain ⟨k, hk⟩ := isIssue_of_mem_phicorRows p w _ hi s
    exact hk.trans (issue_waits k hc)

end Sys2Proof.Machine

/-!
PROOFS. The signed reading of a number, and the arithmetic of elements (R138).
-/

namespace Sys2Proof

/-- The signed reading is that of the bit vector. -/
theorem toSigned_eq_toInt {n : Nat} (hn : 0 < n) (v : Nat) : toSigned n v = (BitVec.ofNat n v).toInt := by
  obtain ⟨m, rfl⟩ : ∃ m, n = m + 1 := ⟨n - 1, by omega⟩
  simp only [toSigned, BitVec.toInt_eq_toNat_cond, BitVec.toNat_ofNat, Nat.add_sub_cancel, Nat.pow_succ]
  split <;> split <;> omega

theorem ofSigned_eq_toNat (n : Nat) (i : Int) : ofSigned n i = (BitVec.ofInt n i).toNat := by
  rw [ofSigned, BitVec.toNat_ofInt]

theorem le_toSigned {n : Nat} (hn : 0 < n) (v : Nat) : -(2 ^ (n - 1) : Int) ≤ toSigned n v := by
  rw [toSigned_eq_toInt hn]
  exact BitVec.le_toInt _

theorem toSigned_lt {n : Nat} (hn : 0 < n) (v : Nat) : toSigned n v < 2 ^ (n - 1) := by
  rw [toSigned_eq_toInt hn]
  exact BitVec.toInt_lt

/-- Reading what was written gives the number back where it fits. -/
theorem toSigned_ofSigned {n : Nat} (hn : 0 < n) {i : Int} (hl : -(2 ^ (n - 1) : Int) ≤ i) (hu : i < 2 ^ (n - 1)) :
    toSigned n (ofSigned n i) = i := by
  rw [toSigned_eq_toInt hn, ofSigned_eq_toNat, BitVec.ofNat_toNat, BitVec.setWidth_eq]
  exact BitVec.toInt_ofInt_eq_self hn hl hu

/-- The signed reading differs by a multiple of the modulus. -/
theorem toSigned_emod (n v : Nat) : toSigned n v % (2 ^ n : Nat) = (v : Int) % (2 ^ n : Nat) := by
  simp only [toSigned]
  split <;> simp

end Sys2Proof

namespace Sys2Proof.Machine

theorem Elt.width_pos (t : Elt) : 0 < t.width := by cases t <;> decide

/-- Clamping to the signed range stays in it. -/
theorem toSigned_satTo {n : Nat} (hn : 0 < n) (i : Int) :
    toSigned n (satTo n i) = max (-2 ^ (n - 1)) (min (2 ^ (n - 1) - 1) i) := by
  have hp : (0 : Int) < 2 ^ (n - 1) := Int.pow_pos (by decide)
  rw [satTo, toSigned_ofSigned hn] <;> push_cast <;> omega

/-! The element operations. -/

section

variable (t : Elt) {a b : Nat} (hb : b < 2 ^ t.width)

theorem vaddElt_add : vaddElt 0 t a b = (a + b) % 2 ^ t.width := by
  show ofSigned t.width (toSigned t.width a + toSigned t.width b) = _
  rw [ofSigned, Int.add_emod, toSigned_emod, toSigned_emod, ← Int.add_emod]
  rfl

include hb in
theorem vaddElt_sub : vaddElt 1 t a b = (a + 2 ^ t.width - b) % 2 ^ t.width := by
  show ofSigned t.width (toSigned t.width a - toSigned t.width b) = _
  rw [ofSigned, Int.sub_emod, toSigned_emod, toSigned_emod, ← Int.sub_emod, ← Int.add_emod_right,
    show (a : Int) - b + (2 ^ t.width : Nat) = ((a + 2 ^ t.width - b : Nat) : Int) by omega]
  rfl

theorem toSigned_vmmElt_min : toSigned t.width (vmmElt 0 t a b) = min (toSigned t.width a) (toSigned t.width b) := by
  simp only [vmmElt, decide_eq_true_eq]
  split <;> omega

theorem toSigned_vmmElt_max : toSigned t.width (vmmElt 1 t a b) = max (toSigned t.width a) (toSigned t.width b) := by
  simp only [vmmElt, decide_eq_true_eq]
  split <;> omega

theorem vmmElt_minu : vmmElt 2 t a b = min a b := by
  simp only [vmmElt]
  split <;> omega

theorem vmmElt_maxu : vmmElt 3 t a b = max a b := by
  simp only [vmmElt]
  split <;> omega

/-- An arithmetic shift right is the floor of the quotient, which is no further from zero. -/
theorem toSigned_vshElt_sra :
    toSigned t.width (vshElt 2 t a b) = toSigned t.width a / 2 ^ (b % t.width) := by
  have hl := le_toSigned t.width_pos a
  have hu := toSigned_lt t.width_pos a
  have hp : (0 : Int) < 2 ^ (b % t.width) := Int.pow_pos (by decide)
  have hq : (0 : Int) < 2 ^ (t.width - 1) := Int.pow_pos (by decide)
  have hle : (2 : Int) ^ (t.width - 1) * 1 ≤ 2 ^ (t.width - 1) * 2 ^ (b % t.width) :=
    Int.mul_le_mul_of_nonneg_left hp (Int.le_of_lt hq)
  rw [Int.mul_one] at hle
  have hcast : ((2 ^ (b % t.width) : Nat) : Int) = 2 ^ (b % t.width) := Int.natCast_pow 2 _
  simp only [vshElt, hcast]
  refine toSigned_ofSigned t.width_pos ?_ ?_
  · exact (Int.le_ediv_iff_mul_le hp).2 (Int.le_trans (by rw [Int.neg_mul]; exact Int.neg_le_neg hle) hl)
  · exact (Int.ediv_lt_iff_lt_mul hp).2 (Int.lt_of_lt_of_le hu hle)

include hb in
/-- Clearing the bits of the second operand. -/
theorem testBit_vlogElt_andn {i : Nat} (hi : i < t.width) :
    (vlogElt 3 t a b).testBit i = (a.testBit i && !b.testBit i) := by
  show (a &&& (2 ^ t.width - 1 - b)).testBit i = _
  rw [Nat.testBit_and, Nat.sub_sub, Nat.add_comm 1 b, Nat.testBit_two_pow_sub_succ hb]
  simp [hi]

end

/-- Settles O9: each clause is the lemma above on its operation, or the library's on shifts and bits. -/
theorem elementArithmetic : Obligations.ElementArithmetic := by
  intro t a b _ hb
  refine ⟨vaddElt_add t, vaddElt_sub t hb, toSigned_satTo t.width_pos _, toSigned_satTo t.width_pos _,
    toSigned_vmmElt_min t, toSigned_vmmElt_max t, vmmElt_minu t, vmmElt_maxu t, ?_, ?_, toSigned_vshElt_sra t,
    fun i hi => ⟨Nat.testBit_and .., Nat.testBit_or .., Nat.testBit_xor .., testBit_vlogElt_andn t hb hi⟩⟩
  · rw [Nat.shiftLeft_eq]; rfl
  · rw [Nat.shiftRight_eq_div_pow]; rfl

end Sys2Proof.Machine

/-!
PROOFS. Elements in a vector register (R98, R136): what `packElts` lays down and what `elts` reads back.
-/

namespace Sys2Proof.Machine

/-! Digits. -/

theorem packNat_lt (w : Nat) (l : List Nat) : packNat w l < 2 ^ (w * l.length) := by
  induction l with
  | nil => simp [packNat]
  | cons a l ih =>
    have ha : a % 2 ^ w < 2 ^ w := Nat.mod_lt _ (Nat.two_pow_pos w)
    rw [packNat, List.length_cons, Nat.mul_succ, Nat.add_comm (w * _), Nat.pow_add]
    calc a % 2 ^ w + 2 ^ w * packNat w l
      _ < 2 ^ w * (packNat w l + 1) := by rw [Nat.mul_succ]; omega
      _ ≤ 2 ^ w * 2 ^ (w * l.length) := Nat.mul_le_mul_left _ ih

/-- The digit at a place is the item there, modulo the digit's width; places beyond the list are zero. -/
theorem packNat_digit (w : Nat) (l : List Nat) (i : Nat) :
    packNat w l / 2 ^ (w * i) % 2 ^ w = l.getD i 0 % 2 ^ w := by
  induction l generalizing i with
  | nil => simp [packNat]
  | cons a l ih =>
    cases i with
    | zero => simp [packNat]
    | succ i =>
      have ha : a % 2 ^ w < 2 ^ w := Nat.mod_lt _ (Nat.two_pow_pos w)
      rw [packNat, Nat.mul_succ, Nat.add_comm (w * i), Nat.pow_add, ← Nat.div_div_eq_div_mul,
        Nat.add_mul_div_left _ _ (Nat.two_pow_pos w), Nat.div_eq_of_lt ha, Nat.zero_add, ih, List.getD_cons_succ]

/-! Elements of a register. -/

theorem Elt.width_mul_count_le (t : Elt) : t.width * t.count ≤ 512 := Nat.mul_div_le 512 t.width

theorem getD_elts {t : Elt} {i : Nat} (v : BitVec 512) (hi : i < t.count) :
    (elts t v).getD i 0 = v.toNat / 2 ^ (t.width * i) % 2 ^ t.width := by
  simp [elts, hi]

section

variable {t : Elt} (old : BitVec 512) {l : List Nat} (hl : l.length = t.count)
include hl

theorem toNat_packElts : (packElts t old l).toNat =
    packNat t.width l + 2 ^ (t.width * t.count) * (old.toNat / 2 ^ (t.width * t.count)) := by
  have hk := t.width_mul_count_le
  have hlt : packNat t.width l < 2 ^ (t.width * t.count) := hl ▸ packNat_lt t.width l
  have hold : old.toNat / 2 ^ (t.width * t.count) < 2 ^ (512 - t.width * t.count) :=
    Nat.div_lt_of_lt_mul (by rw [← Nat.pow_add, Nat.add_sub_cancel' hk]; exact old.isLt)
  have hpow : (2 : Nat) ^ 512 = 2 ^ (t.width * t.count) * 2 ^ (512 - t.width * t.count) := by
    rw [← Nat.pow_add, Nat.add_sub_cancel' hk]
  rw [packElts, BitVec.toNat_ofNat, List.take_of_length_le (Nat.le_of_eq hl), Nat.mul_comm, hpow]
  refine Nat.mod_eq_of_lt ?_
  calc packNat t.width l + 2 ^ (t.width * t.count) * (old.toNat / 2 ^ (t.width * t.count))
    _ < 2 ^ (t.width * t.count) * (old.toNat / 2 ^ (t.width * t.count) + 1) := by rw [Nat.mul_succ]; omega
    _ ≤ 2 ^ (t.width * t.count) * 2 ^ (512 - t.width * t.count) := Nat.mul_le_mul_left _ hold

/-- An element that was packed is read back modulo its width. -/
theorem getD_elts_packElts {i : Nat} (hi : i < t.count) : (elts t (packElts t old l)).getD i 0 = l.getD i 0 % 2 ^ t.width := by
  obtain ⟨d, hd⟩ := Nat.exists_eq_add_of_lt hi
  have hk : 2 ^ (t.width * t.count) = 2 ^ (t.width * i) * (2 ^ t.width * 2 ^ (t.width * d)) := by
    rw [hd, ← Nat.pow_add, ← Nat.pow_add, Nat.mul_succ, Nat.mul_add, Nat.add_assoc, Nat.add_comm t.width]
  rw [getD_elts _ hi, toNat_packElts old hl, hk, Nat.mul_assoc, Nat.add_mul_div_left _ _ (Nat.two_pow_pos _),
    Nat.mul_assoc, Nat.add_mul_mod_self_left, packNat_digit]

/-- The bits beyond the last whole element are kept. -/
theorem packElts_div : (packElts t old l).toNat / 2 ^ (t.width * t.count) = old.toNat / 2 ^ (t.width * t.count) := by
  rw [toNat_packElts old hl, Nat.add_mul_div_left _ _ (Nat.two_pow_pos _),
    Nat.div_eq_of_lt (hl ▸ packNat_lt t.width l), Nat.zero_add]

end

/-- Settles O8: what an element-wise result packs is read back, and an old element is within its width already. -/
theorem vectorElementsAreIndependent : Obligations.VectorElementsAreIndependent := by
  intro w c t f
  have hlen : ∀ g : Nat → Nat, ((List.range t.count).map g).length = t.count := by simp
  refine ⟨fun i hi => ?_, packElts_div _ (hlen _)⟩
  rw [eltwise, getD_elts_packElts _ (hlen _) hi, List.getD_eq_getElem?_getD, List.getElem?_eq_getElem (by simpa using hi), Option.getD_some, List.getElem_map,
    List.getElem_range]
  split
  · rfl
  · rw [getD_elts _ hi, Nat.mod_mod]

end Sys2Proof.Machine

/-!
PROOFS. Scalar instructions (R138): each operation's value as the rule states it.
-/

namespace Sys2Proof.Machine

/-! The operations on words. -/

theorem boolW_slt (a b : Word) : boolW (a.slt b) = if a.toInt < b.toInt then 1 else 0 := by
  simp [boolW, BitVec.slt_eq_decide]

theorem boolW_ult (a b : Word) : boolW (a.ult b) = if a.toNat < b.toNat then 1 else 0 := by
  simp [boolW, BitVec.ult_eq_decide]

theorem boolW_beq (a b : Word) : boolW (a == b) = if a = b then 1 else 0 := by
  simp [boolW]

theorem boolW_bne (a b : Word) : boolW (a != b) = if a = b then 0 else 1 := by
  simp [boolW]

theorem smin_eq (a b : Word) : smin a b = if a.toInt < b.toInt then a else b := by
  simp [smin, BitVec.slt_eq_decide]

theorem smax_eq (a b : Word) : smax a b = if a.toInt < b.toInt then b else a := by
  simp [smax, BitVec.slt_eq_decide]

theorem umin_eq (a b : Word) : umin a b = if a.toNat < b.toNat then a else b := by
  simp [umin, BitVec.ult_eq_decide]

theorem umax_eq (a b : Word) : umax a b = if a.toNat < b.toNat then b else a := by
  simp [umax, BitVec.ult_eq_decide]

theorem divS_zero (a : Word) : divS a 0 = BitVec.allOnes 64 := rfl
theorem divU_zero (a : Word) : divU a 0 = BitVec.allOnes 64 := rfl
theorem remS_zero (a : Word) : remS a 0 = a := rfl
theorem remU_zero (a : Word) : remU a 0 = a := rfl

/-- DIV rounds toward zero; the one quotient out of range wraps. -/
theorem divS_of_ne_zero {a b : Word} (hb : b ≠ 0) : divS a b = BitVec.ofInt 64 (a.toInt.tdiv b.toInt) := by
  rw [divS, if_neg hb, ← BitVec.ofInt_toInt (x := a.sdiv b), BitVec.toInt_sdiv]
  exact BitVec.eq_of_toInt_eq (by simp)

/-- REM takes the dividend's sign. -/
theorem remS_of_ne_zero {a b : Word} (hb : b ≠ 0) : remS a b = BitVec.ofInt 64 (a.toInt.tmod b.toInt) := by
  rw [remS, if_neg hb, ← BitVec.toInt_srem, BitVec.ofInt_toInt]

theorem divU_of_ne_zero {a b : Word} (hb : b ≠ 0) : divU a b = BitVec.ofNat 64 (a.toNat / b.toNat) := by
  rw [divU, if_neg hb, ← BitVec.toNat_udiv, BitVec.ofNat_toNat, BitVec.setWidth_eq]

theorem remU_of_ne_zero {a b : Word} (hb : b ≠ 0) : remU a b = BitVec.ofNat 64 (a.toNat % b.toNat) := by
  rw [remU, if_neg hb, ← BitVec.toNat_umod, BitVec.ofNat_toNat, BitVec.setWidth_eq]

theorem ne_zero_of_toInt_eq_neg_one {b : Word} (hb : b.toInt = -1) : b ≠ 0 := by
  rintro rfl
  simp at hb

theorem divS_overflow {a b : Word} (ha : a.toInt = -9223372036854775808) (hb : b.toInt = -1) :
    divS a b = BitVec.ofInt 64 (-9223372036854775808) := by
  rw [divS_of_ne_zero (ne_zero_of_toInt_eq_neg_one hb), ha, hb]
  rfl

theorem remS_overflow {a b : Word} (ha : a.toInt = -9223372036854775808) (hb : b.toInt = -1) : remS a b = 0 := by
  rw [remS_of_ne_zero (ne_zero_of_toInt_eq_neg_one hb), ha, hb]
  rfl

/-- An immediate keeps its sign: twelve bits fit. -/
theorem toInt_ofInt_fImm12 (w : Nat) : (BitVec.ofInt 64 (fImm12 w)).toInt = fImm12 w := by
  have hl : -(2 ^ 11 : Int) ≤ fImm12 w := le_toSigned (by decide) _
  have hu : fImm12 w < 2 ^ 11 := toSigned_lt (by decide) _
  exact BitVec.toInt_ofInt_eq_self (by decide) (by omega) (by omega)

theorem boolW_slt_imm (a : Word) (w : Nat) :
    boolW (a.slt (BitVec.ofInt 64 (fImm12 w))) = if a.toInt < fImm12 w then 1 else 0 := by
  rw [boolW_slt, toInt_ofInt_fImm12]

/-- An instruction of its program's own state leaves its value in its scalar destination. -/
theorem puts_of {op : Op} {p : Proc} {w : BitVec 32} {s : State} {c : Ctx} (f : Nat → Ctx → Res) {v : Word}
    (h : issues op p w s = some c) (hv : f w.toNat c = xres w.toNat c v) :
    issuePure op f p w s = putsX p w c v s := issuePure_of_issues f h hv

/-- Settles O3: each instruction's result is its operation's value on its sources, as stated above. -/
theorem scalarInstructionsComplete : Obligations.ScalarInstructionsComplete :=
  ⟨fun _ _ _ _ h => puts_of opAdd h rfl,
    fun _ _ _ _ h => puts_of opSub h rfl,
    fun _ _ _ _ h => puts_of opAnd h rfl,
    fun _ _ _ _ h => puts_of opOr h rfl,
    fun _ _ _ _ h => puts_of opXor h rfl,
    fun _ _ _ _ h => puts_of opSll h rfl,
    fun _ _ _ _ h => puts_of opSrl h rfl,
    fun _ _ _ _ h => puts_of opSra h rfl,
    fun _ _ _ _ h => puts_of opSlt h (congrArg (xres _ _) (boolW_slt _ _)),
    fun _ _ _ _ h => puts_of opSltu h (congrArg (xres _ _) (boolW_ult _ _)),
    fun _ _ _ _ h => puts_of opMin h (congrArg (xres _ _) (smin_eq _ _)),
    fun _ _ _ _ h => puts_of opMax h (congrArg (xres _ _) (smax_eq _ _)),
    fun _ _ _ _ h => puts_of opMinu h (congrArg (xres _ _) (umin_eq _ _)),
    fun _ _ _ _ h => puts_of opMaxu h (congrArg (xres _ _) (umax_eq _ _)),
    fun _ _ _ _ h => puts_of opSeq h (congrArg (xres _ _) (boolW_beq _ _)),
    fun _ _ _ _ h => puts_of opSne h (congrArg (xres _ _) (boolW_bne _ _)),
    fun _ _ _ _ h => puts_of opAddi h rfl,
    fun _ _ _ _ h => puts_of opAndi h rfl,
    fun _ _ _ _ h => puts_of opOri h rfl,
    fun _ _ _ _ h => puts_of opXori h rfl,
    fun _ _ _ _ h => puts_of opSlti h (congrArg (xres _ _) (boolW_slt_imm _ _)),
    fun _ _ _ _ h => puts_of opSlli h rfl,
    fun _ _ _ _ h => puts_of opSrli h rfl,
    fun _ _ _ _ h => puts_of opSrai h rfl,
    fun _ _ _ _ h => puts_of opLui h rfl,
    fun _ _ _ _ h => puts_of opMul h (congrArg (xres _ _) (BitVec.mul_def ..)),
    fun _ _ _ _ h => puts_of opMulh h rfl,
    fun _ _ _ _ h => puts_of opMulhu h rfl,
    fun _ _ _ _ h hb => puts_of opDiv h (congrArg (xres _ _) ((congrArg _ hb).trans (divS_zero _))),
    fun _ _ _ _ h hb => puts_of opDivu h (congrArg (xres _ _) ((congrArg _ hb).trans (divU_zero _))),
    fun _ _ _ _ h hb => puts_of opRem h (congrArg (xres _ _) ((congrArg _ hb).trans (remS_zero _))),
    fun _ _ _ _ h hb => puts_of opRemu h (congrArg (xres _ _) ((congrArg _ hb).trans (remU_zero _))),
    fun _ _ _ _ h ha hb => puts_of opDiv h (congrArg (xres _ _) (divS_overflow ha hb)),
    fun _ _ _ _ h ha hb => puts_of opRem h (congrArg (xres _ _) (remS_overflow ha hb)),
    fun _ _ _ _ h hb => puts_of opDiv h (congrArg (xres _ _) (divS_of_ne_zero hb)),
    fun _ _ _ _ h hb => puts_of opRem h (congrArg (xres _ _) (remS_of_ne_zero hb)),
    fun _ _ _ _ h hb => puts_of opDivu h (congrArg (xres _ _) (divU_of_ne_zero hb)),
    fun _ _ _ _ h hb => puts_of opRemu h (congrArg (xres _ _) (remU_of_ne_zero hb))⟩

end Sys2Proof.Machine

/-!
PROOFS. Predicate, branch, call and control instructions (R137, R138).
-/

namespace Sys2Proof.Machine

/-- A branch whose condition is decided by a proposition goes to its target where that holds. -/
theorem branchIf_eq {cond : Word → Word → Bool} {w : Nat} {c : Ctx} {q : Prop} [Decidable q]
    (h : cond (c.readX (fBRs1 w)) (c.readX (fBRs2 w)) = decide q) :
    branchIf cond w c = .ok (if q then { c with pc := ((c.pc : Int) - 1 + fOff12 w).toNat } else c) := by
  simp only [branchIf, h, decide_eq_true_eq]
  rfl

theorem not_slt_eq_decide_le (a b : Word) : (!a.slt b) = decide (b.toInt ≤ a.toInt) := by
  rw [BitVec.slt_eq_decide, ← decide_not, decide_eq_decide, Int.not_lt]

theorem not_ult_eq_decide_le (a b : Word) : (!a.ult b) = decide (b.toNat ≤ a.toNat) := by
  rw [BitVec.ult_eq_decide, ← decide_not, decide_eq_decide, Nat.not_lt]

/-- A call with room on the return stack (R138). -/
theorem opCall_of_room {w : Nat} {c : Ctx} (h : c.ret.length < 8) :
    opCall w c = .ok { c with pc := ((c.pc : Int) - 1 + fImm20 w).toNat, ret := c.pc :: c.ret } :=
  if_neg (Nat.not_le.2 h)

theorem opRet_of_cons {w a : Nat} {c : Ctx} {l : List Nat} (h : c.ret = a :: l) :
    opRet w c = .ok { c with pc := a, ret := l } := by
  simp only [opRet, h]

/-! YIELD and END of each processor. -/

theorem issueYield_tabor {n : Nat} {w : BitVec 32} {s : State} {c : Ctx} (h : issues .yield (.tabor n) w s = some c) :
    issueYield (.tabor n) w s = .next (leave n c.id .ready (putProc (.tabor n) c s)) :=
  issue_of_issues _ h

theorem issueEnd_tabor {n : Nat} {w : BitVec 32} {s : State} {c : Ctx} (h : issues .endOp (.tabor n) w s = some c) :
    issueEnd (.tabor n) w s = .next (endCtx n c.id Config.ok (putProc (.tabor n) c s)) :=
  issue_of_issues _ h

theorem issueEnd_carillon {w : BitVec 32} {s : State} {c : Ctx} (h : issues .endOp .carillon w s = some c) :
    issueEnd .carillon w s = .next (scriptDone Config.ok s) :=
  issue_of_issues _ h

/-- Settles O4: each instruction leaves what its operation gives; YIELD and END act on the processor's program. -/
theorem predicatesBranchesControl : Obligations.PredicatesBranchesControl :=
  ⟨fun _ _ _ _ h => issuePure_of_issues opPset h rfl,
    fun _ _ _ _ h => puts_of opPget h rfl,
    fun _ _ _ _ h => issuePure_of_issues opPand h rfl,
    fun _ _ _ _ h => issuePure_of_issues opPor h rfl,
    fun _ _ _ _ h => issuePure_of_issues opPnot h rfl,
    fun _ _ _ _ h => issuePure_of_issues opBeq h (branchIf_eq (Bool.beq_eq_decide_eq _ _)),
    fun _ _ _ _ h => issuePure_of_issues opBne h (branchIf_eq (by simp [bne, Bool.beq_eq_decide_eq])),
    fun _ _ _ _ h => issuePure_of_issues opBlt h (branchIf_eq (BitVec.slt_eq_decide ..)),
    fun _ _ _ _ h => issuePure_of_issues opBge h (branchIf_eq (not_slt_eq_decide_le _ _)),
    fun _ _ _ _ h => issuePure_of_issues opBltu h (branchIf_eq (BitVec.ult_eq_decide ..)),
    fun _ _ _ _ h => issuePure_of_issues opBgeu h (branchIf_eq (not_ult_eq_decide_le _ _)),
    fun _ _ _ _ h => issuePure_of_issues opJ h rfl,
    fun _ _ _ _ h hr => issuePure_of_issues opCall h (opCall_of_room hr),
    fun _ _ _ _ _ _ h hr => issuePure_of_issues opRet h (opRet_of_cons hr),
    fun _ _ _ _ h => issuePure_of_issues opNop h rfl,
    fun _ _ s _ h => puts_of (opTime s.now) h rfl,
    fun _ _ _ _ h => puts_of opFuel h rfl,
    fun _ _ _ _ h => puts_of opTabor h rfl,
    fun _ _ _ _ h => issuePure_of_issues opSrseed h rfl,
    fun _ _ _ _ h => issueYield_tabor h,
    fun _ _ _ _ h => issueEnd_tabor h,
    fun _ _ _ h => issueEnd_carillon h⟩

end Sys2Proof.Machine

/-!
PROOFS. Program scratch, check values and packets (R132, R137, R138, R150, R432, R433).
-/

namespace Sys2Proof

@[simp] theorem length_leBytes (n v : Nat) : (leBytes n v).length = n := by
  induction n generalizing v <;> simp [leBytes, *]

end Sys2Proof

namespace Sys2Proof.Machine

theorem readS_outside {c : Ctx} {a n : Nat} (h : c.scratchBytes < a + n) : c.readS a n = none :=
  if_neg (Nat.not_le.2 h)

section

variable {c : Ctx} {a n : Nat} {bs : List Byte} (hl : bs.length = n)
include hl

theorem writeS_inside (h : a + n ≤ c.scratchBytes) :
    c.writeS a bs = some { c with scratch := Ctx.putBytes c.scratch a bs } :=
  if_pos (hl ▸ h)

theorem writeS_outside (h : c.scratchBytes < a + n) : c.writeS a bs = none :=
  if_neg (Nat.not_le.2 (hl ▸ h))

end

/-! Stores of several items. -/

theorem length_lanes (n : Nat) (v : BitVec 512) : (lanes n v).length = 512 / n := by simp [lanes]

/-- The first items of a list with their numbers. -/
theorem zipIdx_take_eq {l : List Nat} {k : Nat} (h : k ≤ l.length) :
    ((l.take k).zipIdx.map fun (v, i) => (i, v)) = (List.range k).map fun i => (i, l.getD i 0) := by
  refine List.ext_getElem (by simp [Nat.min_eq_left h]) fun i hi _ => ?_
  have hi : i < l.length := by simp at hi; omega
  simp [hi]

/-- Items that lie in scratch where they are enabled are laid down in their order. -/
theorem storeItems_inside {en : Nat → Bool} {addr : Nat → Nat} {n : Nat} {g : Nat → Nat} {l : List Nat} {c : Ctx}
    (h : ∀ i ∈ l, en i = true → addr i + n ≤ c.scratchBytes) :
    storeItems en addr n c (l.map fun i => (i, g i)) = .ok { c with scratch := ((l.filter en).foldl
      (fun m i => Ctx.putBytes m (addr i) (leBytes n (g i))) c.scratch) } := by
  induction l generalizing c with
  | nil => rfl
  | cons i l ih =>
    simp only [List.map_cons, storeItems, List.filter_cons]
    split
    case isTrue hi =>
      rw [writeS_inside (length_leBytes n _) (h i List.mem_cons_self hi)]
      exact ih fun j hj => h j (List.mem_cons_of_mem _ hj)
    case isFalse => exact ih fun j hj => h j (List.mem_cons_of_mem _ hj)

theorem itemsIn_iff {c : Ctx} {en : Nat → Bool} {addr : Nat → Nat} {n k : Nat} :
    itemsIn c en addr n k = true ↔ ∀ i ∈ List.range k, en i = true → addr i + n ≤ c.scratchBytes := by
  simp only [itemsIn, List.all_eq_true, Bool.or_eq_true, Bool.not_eq_true', decide_eq_true_eq, ← Decidable.imp_iff_not_or,
    ← Bool.not_eq_true]

theorem vectorBytes_div_four_le (size : Nat) : vectorBytes size / 4 ≤ 16 := by
  simp only [vectorBytes]
  (repeat' split) <;> decide

theorem opVsts_inside {w : Nat} {c : Ctx}
    (h : itemsIn c (predBit c (fMPred w)) (fun i => memAddr c w (vectorBytes (fSize w)) + 4 * i) 4
      (vectorBytes (fSize w) / 4) = true) :
    opVsts w c = .ok { c with scratch := (((List.range (vectorBytes (fSize w) / 4)).filter (predBit c (fMPred w))).foldl
      (fun m i => Ctx.putBytes m (memAddr c w (vectorBytes (fSize w)) + 4 * i) (leBytes 4 ((lanes 32 (c.readV (fRd w))).getD i 0)))
      c.scratch) } := by
  simp only [opVsts, if_pos h]
  rw [zipIdx_take_eq (Nat.le_trans (vectorBytes_div_four_le _) (Nat.le_of_eq (length_lanes 32 _).symm))]
  exact storeItems_inside (itemsIn_iff.1 h)

theorem sixteen_le_length_lanes (w : Nat) (v : BitVec 512) : 16 ≤ (lanes (8 * gatherBytes w) v).length := by
  rw [length_lanes, gatherBytes]
  split <;> decide

theorem opVscat_inside {w : Nat} {c : Ctx}
    (h : itemsIn c (predBit c (fPred w)) (gatherAddr w c) (gatherBytes w) 16 = true) :
    opVscat w c = .ok { c with scratch := (((List.range 16).filter (predBit c (fPred w))).foldl
      (fun m i => Ctx.putBytes m (gatherAddr w c i) (leBytes (gatherBytes w) ((lanes (8 * gatherBytes w) (c.readV (fRd w))).getD i 0)))
      c.scratch) } := by
  simp only [opVscat, if_pos h]
  rw [zipIdx_take_eq (sixteen_le_length_lanes _ _)]
  exact storeItems_inside (itemsIn_iff.1 h)

/-! Loads. -/

theorem opVlds_whole {w : Nat} {c : Ctx} {bs : List Byte} (hs : fSize w < 2)
    (h : c.readS (memAddr c w (vectorBytes (fSize w))) (vectorBytes (fSize w)) = some bs) :
    opVlds w c = .ok (c.writeV (fRd w) (bytesVec bs)) := by
  have h4 : vectorBytes (fSize w) ≠ 4 := by simp only [vectorBytes]; (repeat' split) <;> omega
  simp only [opVlds, h, if_neg h4]

theorem opVlds_splat {w : Nat} {c : Ctx} {bs : List Byte} (hs : fSize w = 2) (h : c.readS (memAddr c w 4) 4 = some bs) :
    opVlds w c = .ok (c.writeV (fRd w) (packV 32 (List.replicate 16 (leNat bs)))) := by
  simp [opVlds, hs, vectorBytes, h]

/-! Packets of a Gale program. -/

theorem issuePkt_gale {op : Op} {failed : Option Nat} {n : Nat} {w : BitVec 32} {s : State} {c : Ctx}
    (h : issues op (.gale n) w s = some c) :
    issuePkt op failed (.gale n) w s = .next (galeDone n failed (putProc (.gale n) c s)) :=
  issue_of_issues _ h

/-- An instruction of its program's own state leaves its value in its vector destination. -/
theorem putsV_of {op : Op} {p : Proc} {w : BitVec 32} {s : State} {c : Ctx} (f : Nat → Ctx → Res) {v : BitVec 512}
    (h : issues op p w s = some c) (hv : f w.toNat c = .ok (c.writeV (fRd w.toNat) v)) :
    issuePure op f p w s = putsV p w c v s := issuePure_of_issues f h hv

/-- Settles O5: each instruction reads, lays down or feeds what its operation says, and ends its program where an access
reaches outside the scratch. -/
theorem scratchChecksAndPackets : Obligations.ScratchChecksAndPackets :=
  ⟨fun _ _ _ _ _ h hr => puts_of opLds h (by simp only [opLds, hr]; rfl),
    fun _ _ _ _ h hr => issuePure_fails opLds h (by simp only [opLds, readS_outside hr]),
    fun _ _ _ _ h hr => issuePure_of_issues opSts h (by simp only [opSts, writeS_inside (length_leBytes _ _) hr]),
    fun _ _ _ _ h hr => issuePure_fails opSts h (by simp only [opSts, writeS_outside (length_leBytes _ _) hr]),
    fun _ _ _ _ _ h hs hr => putsV_of opVlds h (opVlds_whole hs hr),
    fun _ _ _ _ _ h hs hr => putsV_of opVlds h (opVlds_splat hs hr),
    fun _ _ _ _ h hr => issuePure_fails opVlds h (by simp only [opVlds, readS_outside hr]),
    fun _ _ _ _ h hi => issuePure_of_issues opVsts h (opVsts_inside hi),
    fun _ _ _ _ h hi => issuePure_fails opVsts h (by simp [opVsts, hi]),
    fun _ _ _ _ h hi => putsV_of opVgath h (if_pos hi),
    fun _ _ _ _ h hi => issuePure_fails opVgath h (by simp [opVgath, hi]),
    fun _ _ _ _ h hi => issuePure_of_issues opVscat h (opVscat_inside hi),
    fun _ _ _ _ h hi => issuePure_fails opVscat h (by simp [opVscat, hi]),
    fun _ _ _ _ h hi => putsV_of opVlut h (if_pos hi),
    fun _ _ _ _ h hi => issuePure_fails opVlut h (by simp [opVlut, hi]),
    fun _ _ _ _ _ _ h hr hb => issuePure_of_issues opChmInit h (by simp only [opChmInit, hr, hb]),
    fun _ _ _ _ _ h hr hb => issuePure_fails opChmInit h (by simp only [opChmInit, hr, hb]),
    fun _ _ _ _ _ _ h hc hn hle hr => issuePure_of_issues opChmUpd h
      (by simp [opChmUpd, chimeFeed, hc, Nat.ne_of_gt hn, Nat.not_lt.2 hle, hr]),
    fun _ _ _ _ h hc hn => issuePure_of_issues opChmUpd h (by simp [opChmUpd, hc, hn]),
    fun _ _ _ _ _ h hc => issuePure_of_issues opChmVupd h (by simp only [opChmVupd, chimeFeed, hc]; rfl),
    fun _ _ _ _ _ h hc => puts_of opChmFin h (by simp only [opChmFin, hc]; rfl),
    fun _ _ _ _ h hc => issuePure_fails opChmFin h (by simp only [opChmFin, hc]),
    fun _ _ _ _ h hl => puts_of opPktLd h (if_pos hl),
    fun _ _ _ _ h hl => issuePure_of_issues opPktSt h (if_pos hl),
    fun _ _ _ _ h => puts_of opPktLen h rfl,
    fun _ _ _ _ h => issuePkt_gale h,
    fun _ _ _ _ h => issuePkt_gale h⟩

end Sys2Proof.Machine

/-!
PROOFS. Vector integer and logic instructions (R98, R138).
-/

namespace Sys2Proof.Machine

/-- An element-wise operation leaves the element-wise result. -/
theorem vecMap_of_elt {w : BitVec 32} {c : Ctx} {t : Elt} (f : Elt → Nat → Nat → Nat → Nat)
    (ht : Elt.ofCode (fType w.toNat) = some t) :
    vecMap w.toNat c f = .ok (c.writeV (fRd w.toNat) (eltwise w c t (f t))) := by
  simp only [vecMap, ht]
  rfl

theorem opVsel_of_elt {w : Nat} {c : Ctx} {t : Elt} (ht : Elt.ofCode (fType w) = some t) :
    opVsel w c = .ok (c.writeV (fRd w) (packElts t (c.readV (fRd w)) ((List.range t.count).map fun i =>
      (elts t (c.readV (if elemEn c (fPred w) t i then fRs1 w else fRs2 w))).getD i 0))) := by
  simp only [opVsel, ht]
  congr 4
  funext i
  split <;> rfl

/-! Comparisons. -/

/-- A predicate made of a function holds it bit by bit. -/
theorem getLsbD_predOf (f : Nat → Bool) {i : Nat} (hi : i < 64) : (predOf f).getLsbD i = f i := by
  have hd := packNat_digit 1 ((List.range 64).map fun i => b2n (f i)) i
  rw [List.getD_eq_getElem?_getD, List.getElem?_eq_getElem (by simpa using hi), Option.getD_some,
    List.getElem_map, List.getElem_range, Nat.one_mul, Nat.pow_one] at hd
  rw [predOf, BitVec.getLsbD_ofNat, decide_eq_true hi, Bool.true_and, Nat.testBit_eq_decide_div_mod_eq, hd]
  cases f i <;> rfl

theorem writeP_readP_writeP (c : Ctx) (n : Nat) (v : Word) : c.writeP n v = c.writeP n ((c.writeP n v).readP n) := by
  simp only [Ctx.writeP, Ctx.readP]
  split <;> simp

theorem readP_writeP {c : Ctx} {n : Nat} (hn : n ≠ 0) (v : Word) : (c.writeP n v).readP n = v := by
  simp [Ctx.writeP, Ctx.readP, hn]

/-- The bits of VCMP's predicate. -/
def vcmpBit (w : Nat) (c : Ctx) (t : Elt) (i : Nat) : Bool :=
  let hit := fun j => vcmpElt (fFunc2 w) t ((elts t (c.readV (fRs1 w))).getD j 0) ((elts t (c.readV (fRs2 w))).getD j 0)
  if i < (if t.width = 4 then 64 else t.count) ∧ predBit c (fPred w) i = true then
    (if t.width = 4 then hit (2 * i) && hit (2 * i + 1) else hit i)
  else (c.readP (fRd w)).getLsbD i

/-- Four-bit elements have a bit of the predicate for every pair, so every bit has its elements. -/
theorem vcmpBit_eq {w : Nat} {c : Ctx} {t : Elt} {i : Nat} (hi : i < 64) : vcmpBit w c t i =
    (let hit := fun j => vcmpElt (fFunc2 w) t ((elts t (c.readV (fRs1 w))).getD j 0) ((elts t (c.readV (fRs2 w))).getD j 0)
     if (t.width = 4 ∨ i < t.count) ∧ predBit c (fPred w) i = true then
       (if t.width = 4 then hit (2 * i) && hit (2 * i + 1) else hit i)
     else (c.readP (fRd w)).getLsbD i) := by
  by_cases h4 : t.width = 4 <;> simp only [vcmpBit, h4, if_true, if_false, hi, true_or, false_or, true_and]

theorem opVcmp_of_elt {w : Nat} {c : Ctx} {t : Elt} (ht : Elt.ofCode (fType w) = some t) :
    opVcmp w c = .ok (c.writeP (fRd w) (predOf (vcmpBit w c t))) := by
  simp only [opVcmp, ht]
  rfl

/-! Extraction. -/

section

variable {w : Nat} {c : Ctx} {t : Elt} (ht : Elt.ofCode (fType w) = some t)
include ht

theorem opVext_enabled (he : elemEn c (fPred w) t 0 = true) :
    opVext w c = .ok (c.writeX (fRd w) (if t.isFloat then BitVec.ofNat 64 ((c.readV (fRs1 w)).toNat % 2 ^ t.width)
      else BitVec.ofInt 64 (toSigned t.width (c.readV (fRs1 w)).toNat))) := by
  simp only [opVext, ht, he, if_true, toSigned, Nat.mod_mod]

theorem opVext_disabled (he : elemEn c (fPred w) t 0 = false) : opVext w c = .ok c := by
  simp [opVext, ht, he]

end

/-! Permutations. -/

/-- What VPERM takes for lane `i` from the lanes of its sources. -/
def permLane (form : Nat) (a b : List Nat) (i : Nat) : Nat :=
  match form with
  | 0 => a.getD (b.getD i 0 % 16) 0
  | 1 => a.getD (b.getD i 0 % 64) 0
  | 2 => if i % 2 = 0 then a.getD (i / 2) 0 else b.getD (i / 2) 0
  | _ => if i < 8 then a.getD (2 * i) 0 else a.getD (2 * (i - 8) + 1) 0

theorem permLane_interleave (a b : List Nat) (i : Nat) : permLane 2 a b i = (if i % 2 = 0 then a else b).getD (i / 2) 0 :=
  (apply_ite (fun l : List Nat => l.getD (i / 2) 0) _ a b).symm

theorem permLane_split (a b : List Nat) (i : Nat) : permLane 3 a b i = a.getD (if i < 8 then 2 * i else 2 * (i - 8) + 1) 0 :=
  (apply_ite (fun j => a.getD j 0) _ (2 * i) _).symm

theorem opVperm_lanes {w : BitVec 32} {c : Ctx} {form : Nat} {f : Nat → Nat} (hw : fFunc2 w.toNat = form) (h1 : form ≠ 1)
    (hf : ∀ i, permLane form (lanes 32 (c.readV (fRs1 w.toNat))) (lanes 32 (c.readV (fRs2 w.toNat))) i = f i) :
    opVperm w.toNat c = .ok (c.writeV (fRd w.toNat) (lanewise w c f)) := by
  subst hw
  simp only [opVperm, if_neg h1, lanewise, ← hf]
  rfl

theorem opVperm_bytes {w : Nat} {c : Ctx} (h1 : fFunc2 w = 1) :
    opVperm w c = .ok (c.writeV (fRd w) (packV 8 ((List.range 64).map fun i => if predBit c (fPred w) i then
        (lanes 8 (c.readV (fRs1 w))).getD ((lanes 8 (c.readV (fRs2 w))).getD i 0 % 64) 0
      else (lanes 8 (c.readV (fRd w))).getD i 0))) := by
  simp only [opVperm, h1]
  rfl

/-- Settles O6: each instruction leaves its operation's value, and VCMP's predicate is its bits one by one. -/
theorem vectorInteger : Obligations.VectorInteger :=
  ⟨fun _ _ _ _ _ h ht => putsV_of opVadd h (vecMap_of_elt _ ht),
    fun _ _ _ _ _ h ht => putsV_of opVlog h (vecMap_of_elt _ ht),
    fun _ _ _ _ _ h ht => putsV_of opVmm h (vecMap_of_elt _ ht),
    fun _ _ _ _ _ h ht => putsV_of opVsh h (vecMap_of_elt _ ht),
    fun _ _ _ _ _ h ht => putsV_of opVbcast h (vecMap_of_elt _ ht),
    fun _ _ _ _ _ h ht => putsV_of opVmov h (vecMap_of_elt _ ht),
    fun _ _ _ _ _ h ht => putsV_of opVsel h (opVsel_of_elt ht),
    fun _ _ _ _ _ h ht he => puts_of opVext h (opVext_enabled ht he),
    fun _ _ _ _ _ h ht he => issuePure_of_issues opVext h (opVext_disabled ht he),
    fun _ w _ c t h ht => ⟨_, issuePure_of_issues opVcmp h (opVcmp_of_elt ht), writeP_readP_writeP _ _ _, fun hd i hi => by
      rw [readP_writeP hd, getLsbD_predOf _ hi, vcmpBit_eq hi]⟩,
    fun _ _ _ _ h hw => putsV_of opVperm h (opVperm_lanes hw (by decide) fun _ => rfl),
    fun _ _ _ _ h hw => putsV_of opVperm h (opVperm_bytes hw),
    fun _ _ _ _ h hw => putsV_of opVperm h (opVperm_lanes hw (by decide) (permLane_interleave _ _)),
    fun _ _ _ _ h hw => putsV_of opVperm h (opVperm_lanes hw (by decide) (permLane_split _ _))⟩

end Sys2Proof.Machine

/-!
PROOFS. Vector floating point, dot products, conversions, block quantise and reductions (R108–R119, R138).
-/

namespace Sys2Proof

/-! One byte of a number. -/

/-- The number `x` with byte `j` in place of its own. -/
def putByte (x j b : Nat) : Nat := x % 256 ^ j + 256 ^ j * (b + 256 * (x / 256 ^ (j + 1)))

theorem putByte_div (x j : Nat) {b : Nat} (hb : b < 256) : putByte x j b / 256 ^ (j + 1) = x / 256 ^ (j + 1) := by
  have hlow : x % 256 ^ j < 256 ^ j := Nat.mod_lt _ (Nat.pow_pos (by decide))
  rw [Nat.pow_succ, ← Nat.div_div_eq_div_mul, putByte, Nat.add_mul_div_left _ _ (Nat.pow_pos (by decide)),
    Nat.div_eq_of_lt hlow, Nat.pow_succ]
  omega

theorem putByte_same (x j : Nat) {b : Nat} (hb : b < 256) : putByte x j b / 256 ^ j % 256 = b := by
  have hlow : x % 256 ^ j < 256 ^ j := Nat.mod_lt _ (Nat.pow_pos (by decide))
  rw [putByte, Nat.add_mul_div_left _ _ (Nat.pow_pos (by decide)), Nat.div_eq_of_lt hlow]
  omega

theorem putByte_other (x : Nat) {j k b : Nat} (hb : b < 256) (hk : k ≠ j) :
    putByte x j b / 256 ^ k % 256 = x / 256 ^ k % 256 := by
  rcases Nat.lt_or_gt_of_ne hk with hk | hk
  case inl =>
    obtain ⟨d, rfl⟩ := Nat.exists_eq_add_of_lt hk
    have hp : 256 ^ (k + d + 1) = 256 ^ k * (256 * 256 ^ d) := by rw [Nat.pow_succ, Nat.pow_add, Nat.mul_assoc, Nat.mul_comm 256]
    rw [putByte, hp, Nat.mul_assoc, Nat.add_mul_div_left _ _ (Nat.pow_pos (by decide)), Nat.mul_assoc,
      Nat.add_mul_mod_self_left, Nat.mod_mul_right_div_self, Nat.mod_mul_right_mod]
  case inr =>
    obtain ⟨d, rfl⟩ := Nat.exists_eq_add_of_lt hk
    have hp : 256 ^ (j + d + 1) = 256 ^ (j + 1) * 256 ^ d := by rw [← Nat.pow_add, Nat.add_right_comm]
    rw [hp, ← Nat.div_div_eq_div_mul, putByte_div x j hb, Nat.div_div_eq_div_mul]

/-- A byte of a word is that of the number it holds. -/
theorem toNat_ofNat_byte (x : Nat) {k : Nat} (hk : k < 8) : (BitVec.ofNat 64 x).toNat / 256 ^ k % 256 = x / 256 ^ k % 256 := by
  obtain ⟨d, hd⟩ := Nat.exists_eq_add_of_lt hk
  have hp : 2 ^ 64 = 256 ^ k * (256 * 256 ^ d) := by
    rw [show 2 ^ 64 = 256 ^ 8 by decide, hd, Nat.pow_succ, Nat.pow_add, Nat.mul_assoc, Nat.mul_comm 256]
  rw [BitVec.toNat_ofNat, hp, Nat.mod_mul_right_div_self, Nat.mod_mul_right_mod]

end Sys2Proof

namespace Sys2Proof.Machine

/-- As `vecMap_of_elt`, with the element operation in the form that a clause gives it. -/
theorem vecMap_of_eq {w : BitVec 32} {c : Ctx} {t : Elt} {f : Elt → Nat → Nat → Nat → Nat} {g : Nat → Nat → Nat → Nat}
    (ht : Elt.ofCode (fType w.toNat) = some t) (hf : f t = g) :
    vecMap w.toNat c f = .ok (c.writeV (fRd w.toNat) (eltwise w c t g)) :=
  hf ▸ vecMap_of_elt f ht

section

variable {w : BitVec 32} {c : Ctx} {t : Elt} (ht : Elt.ofCode (fType w.toNat) = some t)
include ht

theorem opVdot_of_elt : opVdot w.toNat c = .ok (c.writeV (fRd w.toNat) (lanewise w c fun i =>
    dotLane (fFunc2 w.toNat) t ((srcA w c).toNat / 256 ^ (i / (if t.width = 4 then 4 else 8)) % 256)
      ((srcB w c).toNat / 256 ^ (i / (if t.width = 4 then 4 else 8)) % 256)
      (elts t (c.readV (fRs1 w.toNat))) (elts t (c.readV (fRs2 w.toNat)))
      ((lanes 32 (c.readV (fRd w.toNat))).getD i 0) i)) := by
  simp only [opVdot, ht]
  rfl

/-! Conversions. -/

/-- What VCVTN lays down for element `i`: one of its sixteen is converted where it is enabled. -/
theorem opVcvtn_of_elt {val : Nat → FVal}
    (hv : ∀ x, val x = if fFunc2 w.toNat = 0 then decodeF Fmt.fp32 x else FVal.ofInt (toSigned 32 x)) :
    opVcvtn w.toNat c = .ok (srUsed w.toNat (c.writeV (fRd w.toNat) (packElts t (c.readV (fRd w.toNat))
      ((List.range t.count).map fun i =>
        if i / 16 = fRs2 w.toNat % 8 ∧ elemEn c (fPred w.toNat) t i = true then
          t.convert (if fRnd w.toNat then .sr else .rne) (srValue c.sr i) (val ((lanes 32 (c.readV (fRs1 w.toNat))).getD (i % 16) 0))
        else (elts t (c.readV (fRd w.toNat))).getD i 0)))) := by
  simp only [opVcvtn, ht, ← hv, rndOf]
  congr 5
  funext i
  have hblock : 16 * (fRs2 w.toNat % 8) ≤ i ∧ i < 16 * (fRs2 w.toNat % 8) + 16 ↔ i / 16 = fRs2 w.toNat % 8 := by omega
  have hiff := (and_assoc (c := elemEn c (fPred w.toNat) t i = true)).symm.trans (and_congr_left fun _ => hblock)
  refine ite_congr (propext hiff) (fun hi => ?_) fun _ => rfl
  rw [show i - 16 * (fRs2 w.toNat % 8) = i % 16 by omega]

theorem opVcvtw_of_elt {enc : FVal → Nat}
    (he : ∀ x, enc x = if fFunc2 w.toNat = 0 then encodeF Fmt.fp32 x else Elt.int32.convert .rne 0 x) :
    opVcvtw w.toNat c = .ok (c.writeV (fRd w.toNat) (lanewise w c fun i =>
      if t.count ≤ 16 * (fRs2 w.toNat % 8) + i then 0
      else enc (t.value ((elts t (c.readV (fRs1 w.toNat))).getD (16 * (fRs2 w.toNat % 8) + i) 0)))) := by
  simp only [opVcvtw, ht, he]
  rfl

end

/-! An instruction under stochastic rounding advances its streams, and changes nothing else. -/

section

variable (w : Nat) (c : Ctx)

theorem srUsed_sr : (srUsed w c).sr = if fRnd w then srAdvance c.tabor c.sr else c.sr := by
  simp only [srUsed]
  split <;> rfl

theorem srUsed_v : (srUsed w c).v = c.v := by
  simp only [srUsed]
  split <;> rfl

theorem srUsed_x : (srUsed w c).x = c.x := by
  simp only [srUsed]
  split <;> rfl

theorem srUsed_p : (srUsed w c).p = c.p := by
  simp only [srUsed]
  split <;> rfl

theorem srUsed_pc : (srUsed w c).pc = c.pc := by
  simp only [srUsed]
  split <;> rfl

theorem srUsed_scratch : (srUsed w c).scratch = c.scratch := by
  simp only [srUsed]
  split <;> rfl

end

/-! Block quantise. -/

/-- The scale is a byte: an exponent from -127 to 127, or 255 (R114). -/
theorem mxQuantise_scale_lt (t : Elt) (mode : Rnd) (r : Nat → Nat) (vs : List FVal) : (mxQuantise t mode r vs).1 < 256 := by
  simp only [mxQuantise]
  split
  · dsimp only
    split
    · (repeat' split) <;> omega
    · decide
  · exact (by decide : 255 < 256)

/-- The vector register that VMXQ leaves. -/
def vmxqVec (w : Nat) (c : Ctx) (t : Elt) (codes : List Nat) : BitVec 512 :=
  let j := fRs2 w % 4
  let bits := 32 * t.width
  let old := (c.readV (fRd w)).toNat
  BitVec.ofNat 512 (old % 2 ^ (bits * j) + 2 ^ (bits * j) * (packNat t.width (codes.zipIdx.map fun (b, i) =>
    if elemEn c (fPred w) t (32 * j + i) then b else (old / 2 ^ (t.width * (32 * j + i))) % 2 ^ t.width)
    + 2 ^ bits * (old / 2 ^ (bits * (j + 1)))))

/-- What VMXQ quantises, and how. -/
def vmxqBlock (w : Nat) (c : Ctx) (t : Elt) : Nat × List Nat :=
  mxQuantise t (if fRnd w then .sr else .rne) (fun i => srValue c.sr (32 * (fRs2 w % 4) + i))
    ((lanes 32 (c.readV (fRs1 w)) ++ lanes 32 (c.readV (fRs1 w + 1))).map (decodeF Fmt.fp32))

theorem vmxqBlock_scale_lt (w : Nat) (c : Ctx) (t : Elt) : (vmxqBlock w c t).1 < 256 := mxQuantise_scale_lt ..

theorem opVmxq_of_elt {w : Nat} {c : Ctx} {t : Elt} (ht : Elt.ofCode (fType w) = some t) :
    opVmxq w c = .ok (srUsed w ((c.writeV (fRd w) (vmxqVec w c t (vmxqBlock w c t).2)).writeX (fRd w)
      (BitVec.ofNat 64 (putByte (c.readX (fRd w)).toNat (fRs2 w % 4) (vmxqBlock w c t).1)))) := by
  simp only [opVmxq, ht]
  rfl

section

variable {c : Ctx} {n : Nat} (v : BitVec 512) (x : Word)

theorem readX_writeX_same (hn : n ≠ 0) : (c.writeX n x).readX n = x := by
  simp [Ctx.writeX, Ctx.readX, hn]

theorem readX_writeX_writeV_other {r : Nat} (hr : r ≠ n) : ((c.writeV n v).writeX n x).readX r = c.readX r := by
  by_cases hn : n = 0 <;> simp [Ctx.writeX, Ctx.writeV, Ctx.readX, hn, FMap.getD_set, hr]

theorem readV_writeX_writeV_other {r : Nat} (hr : r ≠ n) : ((c.writeV n v).writeX n x).readV r = c.readV r := by
  have hw : (c.v.set n v).getD r 0 = c.v.getD r 0 := by rw [FMap.getD_set, if_neg hr]
  by_cases hn : n = 0
  · rw [Ctx.writeX, if_pos hn]; exact hw
  · rw [Ctx.writeX, if_neg hn]; exact hw

end

theorem readX_srUsed (w : Nat) (c : Ctx) (r : Nat) : (srUsed w c).readX r = c.readX r := by
  simp only [Ctx.readX, srUsed_x]

theorem readV_srUsed (w : Nat) (c : Ctx) (r : Nat) : (srUsed w c).readV r = c.readV r := by
  simp only [Ctx.readV, srUsed_v]

/-! Reductions. -/

/-- A list taken item by item with its number. -/
theorem zipIdx_map_eq {α : Type} {l : List Nat} (f : Nat → Nat → α) :
    (l.zipIdx.map fun (v, i) => f v i) = (List.range l.length).map fun i => f (l.getD i 0) i := by
  refine List.ext_getElem (by simp) fun i hi _ => ?_
  have hi : i < l.length := by simpa using hi
  simp [hi]

theorem opVred_of_elt {w : Nat} {c : Ctx} {t : Elt} (ht : Elt.ofCode (fType w) = some t) :
    opVred w c = .ok (c.writeV (fRd w) (packV 32 ((tree16 (vredOp (fFunc2 w) t) ((List.range 16).map fun i =>
      if predBit c (fPred w) i then (lanes 32 (c.readV (fRs1 w))).getD i 0 else vredId (fFunc2 w) t)).take 1))) := by
  simp only [opVred, ht]
  rw [zipIdx_map_eq fun v i => if predBit c (fPred w) i then v else vredId (fFunc2 w) t, length_lanes]

theorem opVredc_of_tree {w : Nat} {c : Ctx} {sum comp : Nat}
    (h : tree16 compJoin ((List.range 16).map fun i => if predBit c (fPred w) i
      then ((lanes 32 (c.readV (fRs1 w))).getD i 0, (lanes 32 (c.readV (fRs2 w))).getD i 0)
      else (0x80000000, 0x80000000)) = [(sum, comp)]) :
    opVredc w c = .ok (c.writeV (fRd w) (packV 32 [sum, comp])) := by
  simp only [opVredc, h]

/-- Lane `i` of VCADD's sum and compensation. -/
def vcaddLane (w : Nat) (c : Ctx) (i : Nat) : Nat × Nat :=
  if predBit c (fPred w) i then
    compAdd ((lanes 32 (c.readV (fRd w))).getD i 0) ((lanes 32 (c.readV (fRd w + 1))).getD i 0)
      ((lanes 32 (c.readV (fRs1 w))).getD i 0)
  else ((lanes 32 (c.readV (fRd w))).getD i 0, (lanes 32 (c.readV (fRd w + 1))).getD i 0)

theorem opVcadd_eq (w : Nat) (c : Ctx) :
    opVcadd w c = .ok ((c.writeV (fRd w) (packV 32 ((List.range 16).map fun i => (vcaddLane w c i).1))).writeV (fRd w + 1)
      (packV 32 ((List.range 16).map fun i => (vcaddLane w c i).2))) := by
  simp only [opVcadd, List.map_map]
  rfl

/-- Settles O7: each instruction leaves its operation's value; a conversion and a block quantise advance the streams, and the
quantise puts one byte of the scale register. -/
theorem vectorFloat : Obligations.VectorFloat :=
  ⟨fun _ _ _ _ _ h ht hw => putsV_of opVfadd h (vecMap_of_eq ht (by rw [hw]; rfl)),
    fun _ _ _ _ _ h ht hw => putsV_of opVfadd h (vecMap_of_eq ht (by rw [hw]; rfl)),
    fun _ _ _ _ _ h ht hw => putsV_of opVfadd h (vecMap_of_eq ht (by rw [hw]; rfl)),
    fun _ _ _ _ _ h ht hw => putsV_of opVfadd h (vecMap_of_eq ht (by rw [hw]; rfl)),
    fun _ _ _ _ _ h ht => putsV_of opVfmul h (vecMap_of_elt _ ht),
    fun _ _ _ _ _ h ht hw => putsV_of opVfma h (vecMap_of_eq ht (by rw [hw]; rfl)),
    fun _ _ _ _ _ h ht hw => putsV_of opVfma h (vecMap_of_eq ht (by rw [hw]; rfl)),
    fun _ _ _ _ _ h ht hw => putsV_of opVfma h (vecMap_of_eq ht (by rw [hw]; rfl)),
    fun _ _ _ _ _ h ht => putsV_of opVdot h (opVdot_of_elt ht),
    fun _ _ _ _ _ h ht hw => ⟨_, issuePure_of_issues opVcvtn h (opVcvtn_of_elt ht fun _ => (if_pos hw).symm),
      srUsed_sr _ _, srUsed_v _ _, srUsed_x _ _, srUsed_p _ _, srUsed_pc _ _, srUsed_scratch _ _⟩,
    fun _ _ _ _ _ h ht hw => ⟨_, issuePure_of_issues opVcvtn h
        (opVcvtn_of_elt (val := fun x => FVal.ofInt (toSigned 32 x)) ht fun _ => (if_neg (by rw [hw]; decide)).symm),
      srUsed_sr _ _, srUsed_v _ _, srUsed_x _ _, srUsed_p _ _, srUsed_pc _ _, srUsed_scratch _ _⟩,
    fun _ _ _ _ _ h ht hw => putsV_of opVcvtw h (opVcvtw_of_elt ht fun _ => (if_pos hw).symm),
    fun _ _ _ _ _ h ht hw => putsV_of opVcvtw h (opVcvtw_of_elt ht fun _ => (if_neg (by rw [hw]; decide)).symm),
    fun _ w _ c t h ht hd _ => ⟨_, issuePure_of_issues opVmxq h (opVmxq_of_elt ht), by
        rw [srUsed_sr]; simp only [Ctx.writeX, if_neg hd]; rfl, by
        rw [readX_srUsed, readX_writeX_same _ hd, toNat_ofNat_byte _ (by omega),
          putByte_same _ _ (vmxqBlock_scale_lt ..)]
        exact (Nat.mod_eq_of_lt (vmxqBlock_scale_lt ..)).symm, fun k hk hkj => by
        rw [readX_srUsed, readX_writeX_same _ hd, toNat_ofNat_byte _ hk, putByte_other _ (vmxqBlock_scale_lt ..) hkj],
      fun r hr => ⟨by rw [readX_srUsed, readX_writeX_writeV_other _ _ hr], by
        rw [readV_srUsed, readV_writeX_writeV_other _ _ hr]⟩, by
        rw [srUsed_p]; simp only [Ctx.writeX, if_neg hd]; rfl, by
        rw [srUsed_pc]; simp only [Ctx.writeX, if_neg hd]; rfl⟩,
    fun _ _ _ _ _ h ht => putsV_of opVred h (opVred_of_elt ht),
    fun _ _ _ _ _ _ h hs => putsV_of opVredc h (opVredc_of_tree hs),
    fun _ w _ c h => ⟨vcaddLane w.toNat c, issuePure_of_issues opVcadd h (opVcadd_eq _ _), fun _ _ => rfl⟩⟩

end Sys2Proof.Machine

/-!
PROOFS. Instructions that touch only their own program (R98, R138): they keep what identifies their context.
-/

namespace Sys2Proof.Machine

/-- Two values of one context that differ at most in registers, counter, return stack, scratch, check state, generator
streams, packet and the accesses that later ones wait for. -/
structure Ctx.SameIdentity (c c' : Ctx) : Prop where
  id : c'.id = c.id
  tenant : c'.tenant = c.tenant
  item : c'.item = c.item
  handle : c'.handle = c.handle
  code : c'.code = c.code
  scratchBytes : c'.scratchBytes = c.scratchBytes
  tabor : c'.tabor = c.tabor
  state : c'.state = c.state
  hold : c'.hold = c.hold
  pend : c'.pend = c.pend
  ending : c'.ending = c.ending
  granules : c'.granules = c.granules
  fuel : c'.fuel = c.fuel

namespace Ctx.SameIdentity

theorem refl (c : Ctx) : c.SameIdentity c := by constructor <;> rfl

theorem trans {a b c : Ctx} (h : a.SameIdentity b) (h' : b.SameIdentity c) : a.SameIdentity c := by
  obtain ⟨⟩ := h
  obtain ⟨⟩ := h'
  constructor <;> simp only [*]

theorem writeX (c : Ctx) (n : Nat) (v : Word) : c.SameIdentity (c.writeX n v) := by
  unfold Ctx.writeX
  split <;> constructor <;> rfl

theorem writeP (c : Ctx) (n : Nat) (v : Word) : c.SameIdentity (c.writeP n v) := by
  unfold Ctx.writeP
  split <;> constructor <;> rfl

theorem writeV (c : Ctx) (n : Nat) (v : BitVec 512) : c.SameIdentity (c.writeV n v) := by
  constructor <;> rfl

theorem jumpTo (c : Ctx) (off : Int) : c.SameIdentity (jumpTo c off) := by
  constructor <;> rfl

theorem srUsed (w : Nat) (c : Ctx) : c.SameIdentity (srUsed w c) := by
  unfold Machine.srUsed
  split <;> constructor <;> rfl

theorem writeS {c c' : Ctx} {a : Nat} {bs : List Byte} (h : c.writeS a bs = some c') : c.SameIdentity c' := by
  unfold Ctx.writeS at h
  split at h <;> cases h
  constructor <;> rfl

end Ctx.SameIdentity

/-- An operation keeps what identifies the context it runs on. -/
def KeepsIdentity (f : Nat → Ctx → Res) : Prop := ∀ w c c', f w c = .ok c' → c.SameIdentity c'

namespace KeepsIdentity

theorem of_eq {f : Nat → Ctx → Res} {g : Nat → Ctx → Ctx} (h : ∀ w c, f w c = .ok (g w c))
    (hg : ∀ w (c : Ctx), c.SameIdentity (g w c)) : KeepsIdentity f := by
  intro w c c' hc
  cases (h w c).symm.trans hc
  exact hg w c

theorem alu2 (f : Word → Word → Word) : KeepsIdentity (alu2 f) := of_eq (fun _ _ => rfl) fun _ _ => .writeX ..
theorem aluImm (f : Word → Word → Word) : KeepsIdentity (aluImm f) := of_eq (fun _ _ => rfl) fun _ _ => .writeX ..
theorem aluShamt (f : Word → Nat → Word) : KeepsIdentity (aluShamt f) := of_eq (fun _ _ => rfl) fun _ _ => .writeX ..

/-- Operations that leave one value in a scalar register. -/
theorem putX {f : Nat → Ctx → Word} : KeepsIdentity fun w c => .ok (c.writeX (fRd w) (f w c)) :=
  of_eq (fun _ _ => rfl) fun _ _ => .writeX ..

theorem putP {f : Nat → Ctx → Word} : KeepsIdentity fun w c => .ok (c.writeP (fRd w) (f w c)) :=
  of_eq (fun _ _ => rfl) fun _ _ => .writeP ..

theorem branchIf (cond : Word → Word → Bool) : KeepsIdentity (branchIf cond) := by
  refine of_eq (fun _ _ => rfl) fun w c => ?_
  split
  · exact .jumpTo ..
  · exact .refl c

theorem vecMap (f : Nat → Ctx → Elt → Nat → Nat → Nat → Nat) : KeepsIdentity fun w c => vecMap w c (f w c) := by
  intro w c c' h
  dsimp only [Machine.vecMap] at h
  split at h <;> cases h
  exact .writeV ..

theorem opLds : KeepsIdentity opLds := by
  intro w c c' h
  dsimp only [Machine.opLds] at h
  split at h <;> cases h
  exact .writeX ..

theorem opVlds : KeepsIdentity opVlds := by
  intro w c c' h
  dsimp only [Machine.opVlds] at h
  split at h <;> cases h
  exact .writeV ..

theorem opVsel : KeepsIdentity opVsel := by
  intro w c c' h
  dsimp only [Machine.opVsel] at h
  split at h <;> cases h
  exact .writeV ..

theorem opVdot : KeepsIdentity opVdot := by
  intro w c c' h
  dsimp only [Machine.opVdot] at h
  split at h <;> cases h
  exact .writeV ..

theorem opVcvtw : KeepsIdentity opVcvtw := by
  intro w c c' h
  dsimp only [Machine.opVcvtw] at h
  split at h <;> cases h
  exact .writeV ..

theorem opVred : KeepsIdentity opVred := by
  intro w c c' h
  dsimp only [Machine.opVred] at h
  split at h <;> cases h
  exact .writeV ..

theorem opChmFin : KeepsIdentity opChmFin := by
  intro w c c' h
  dsimp only [Machine.opChmFin] at h
  split at h <;> cases h
  exact .writeX ..

theorem opPktLd : KeepsIdentity opPktLd := by
  intro w c c' h
  dsimp only [Machine.opPktLd] at h
  split at h <;> cases h
  exact .writeX ..

theorem opVcmp : KeepsIdentity opVcmp := by
  intro w c c' h
  dsimp only [Machine.opVcmp] at h
  split at h <;> cases h
  exact .writeP ..

theorem opVgath : KeepsIdentity opVgath := by
  intro w c c' h
  dsimp only [Machine.opVgath] at h
  split at h <;> cases h
  exact .writeV ..

theorem opVlut : KeepsIdentity opVlut := by
  intro w c c' h
  dsimp only [Machine.opVlut] at h
  split at h <;> cases h
  exact .writeV ..

theorem opCall : KeepsIdentity opCall := by
  intro w c c' h
  dsimp only [Machine.opCall] at h
  split at h <;> cases h
  constructor <;> rfl

theorem opRet : KeepsIdentity opRet := by
  intro w c c' h
  dsimp only [Machine.opRet] at h
  split at h <;> cases h
  constructor <;> rfl

theorem opSts : KeepsIdentity opSts := by
  intro w c c' h
  dsimp only [Machine.opSts] at h
  split at h <;> cases h
  case h_1 hs => exact .writeS hs

theorem opVext : KeepsIdentity opVext := by
  intro w c c' h
  dsimp only [Machine.opVext] at h
  split at h
  · cases h
  · split at h <;> cases h
    · exact .writeX ..
    · exact .refl c

theorem opVcvtn : KeepsIdentity opVcvtn := by
  intro w c c' h
  dsimp only [Machine.opVcvtn] at h
  split at h <;> cases h
  exact .trans (.writeV ..) (.srUsed ..)

theorem opVmxq : KeepsIdentity opVmxq := by
  intro w c c' h
  dsimp only [Machine.opVmxq] at h
  split at h <;> cases h
  exact .trans (.trans (.writeV ..) (.writeX ..)) (.srUsed ..)

theorem opVredc : KeepsIdentity opVredc := by
  intro w c c' h
  dsimp only [Machine.opVredc] at h
  split at h <;> cases h
  · exact .writeV ..
  · exact .refl c

theorem opVcadd : KeepsIdentity opVcadd := of_eq (fun _ _ => rfl) fun _ _ => .trans (.writeV ..) (.writeV ..)

theorem opVperm : KeepsIdentity opVperm := of_eq (fun _ _ => rfl) fun _ _ => .writeV ..

theorem opSrseed : KeepsIdentity opSrseed := of_eq (fun _ _ => rfl) fun _ _ => by constructor <;> rfl

theorem opJ : KeepsIdentity opJ := of_eq (fun _ _ => rfl) fun _ _ => .jumpTo ..

theorem opNop : KeepsIdentity opNop := of_eq (fun _ _ => rfl) fun _ _ => .refl _

theorem storeItems {en : Nat → Bool} {addr : Nat → Nat} {n : Nat} {c c' : Ctx} {l : List (Nat × Nat)}
    (h : storeItems en addr n c l = .ok c') : c.SameIdentity c' := by
  induction l generalizing c with
  | nil => cases h; exact .refl _
  | cons x l ih =>
    dsimp only [Machine.storeItems] at h
    split at h
    · split at h
      case h_1 hs => exact .trans (.writeS hs) (ih h)
      case h_2 => cases h
    · exact ih h

theorem opVsts : KeepsIdentity opVsts := by
  intro w c c' h
  dsimp only [Machine.opVsts] at h
  split at h
  · exact storeItems h
  · cases h

theorem opVscat : KeepsIdentity opVscat := by
  intro w c c' h
  dsimp only [Machine.opVscat] at h
  split at h
  · exact storeItems h
  · cases h

theorem opChmInit : KeepsIdentity opChmInit := by
  intro w c c' h
  dsimp only [Machine.opChmInit] at h
  split at h
  · cases h
  · split at h <;> cases h
    constructor <;> rfl

theorem chimeFeed {c c' : Ctx} {bs : List Byte} (h : chimeFeed c bs = .ok c') : c.SameIdentity c' := by
  dsimp only [Machine.chimeFeed] at h
  split at h <;> cases h
  constructor <;> rfl

theorem opChmVupd : KeepsIdentity opChmVupd := fun _ _ _ h => chimeFeed h

theorem opChmUpd : KeepsIdentity opChmUpd := by
  intro w c c' h
  dsimp only [Machine.opChmUpd] at h
  split at h
  · cases h
  split at h
  · cases h; exact .refl _
  split at h
  · cases h
  split at h
  · cases h
  · exact chimeFeed h

end KeepsIdentity

/-! The rows. -/

/-- The instruction issues an operation that keeps its context's identity. -/
def IsOwn (mk : Proc → BitVec 32 → Instr) : Prop :=
  ∃ (op : Op) (f : State → Nat → Ctx → Res), (∀ s, KeepsIdentity (f s)) ∧
    ∀ n w s, exec (mk (.tabor n) w) s = issuePure op (f s) (.tabor n) w s

theorem IsOwn.of_pure {mk : Proc → BitVec 32 → Instr} {op : Op} {f : State → Nat → Ctx → Res}
    (h : ∀ n w s, exec (mk (.tabor n) w) s = issuePure op (f s) (.tabor n) w s) (hf : ∀ s, KeepsIdentity (f s)) :
    IsOwn mk := ⟨op, f, hf, h⟩

theorem IsOwn.of_fence {mk : Proc → BitVec 32 → Instr} {op : Op} {f : Ctx → Ctx}
    (h : ∀ n w s, exec (mk (.tabor n) w) s = issueFence op f false (.tabor n) w s)
    (hf : ∀ c : Ctx, c.SameIdentity (f c)) : IsOwn mk :=
  ⟨op, fun _ _ c => .ok (f c), fun _ => .of_eq (fun _ _ => rfl) fun _ c => hf c, h⟩

theorem isOwn_of_mem_pureInstrs : ∀ mk ∈ pureInstrs, IsOwn mk := by
  unfold pureInstrs
  repeat' refine List.forall_mem_append.2 ⟨?_, ?_⟩
  all_goals repeat' refine List.forall_mem_cons.2 ⟨?_, ?_⟩
  any_goals exact List.forall_mem_nil _
  any_goals (apply IsOwn.of_pure; intro n w s; dsimp only [exec]; exact rfl; intro s)
  iterate 16 exact .alu2 _
  iterate 4 exact .aluImm _
  iterate 3 exact .aluShamt _
  · exact .aluImm _
  · exact .putX
  iterate 7 exact .alu2 _
  · exact .putP
  · exact .putX
  iterate 3 exact .putP
  iterate 6 exact .branchIf _
  · exact .opJ
  · exact .opCall
  · exact .opRet
  · exact .opLds
  · exact .opSts
  · exact .opVlds
  · exact .opVsts
  · exact .opVgath
  · exact .opVscat
  · exact .opVlut
  iterate 4 exact .vecMap _
  · exact .opVcmp
  iterate 2 exact .vecMap _
  · exact .opVsel
  · exact .opVext
  iterate 3 exact .vecMap _
  · exact .opVdot
  · exact .opVcvtn
  · exact .opVcvtw
  · exact .opVmxq
  · exact .opVred
  · exact .opVredc
  · exact .opVcadd
  · exact .opVperm
  · exact .opChmInit
  · exact .opChmUpd
  · exact .opChmVupd
  · exact .opChmFin
  · exact .opSrseed
  iterate 3 exact .putX
  · exact .opNop
  · exact .of_fence (f := fencePub) (fun _ _ _ => by dsimp only [exec]; rfl) fun _ => by constructor <;> rfl
  · exact .of_fence (f := fenceAcq) (fun _ _ _ => by dsimp only [exec]; rfl) fun _ => by constructor <;> rfl

/-- A context that an instruction may issue on is its processor's. -/
theorem getProc_of_canIssue {p : Proc} {op : Op} {w : Nat} {s : State} {c : Ctx} (h : canIssue p op w s = some c) :
    getProc s p = some c := by
  unfold canIssue at h
  split at h
  · cases h
  case h_2 d hd =>
    rw [Option.ite_none_left_eq_some, Option.ite_none_left_eq_some] at h
    obtain ⟨-, -, h⟩ := h
    cases h
    exact hd

/-- Settles O14: the operation keeps what identifies the context, and the issue takes the unit of fuel. -/
theorem programsTouchOnlyTheirContext : Obligations.ProgramsTouchOnlyTheirContext := by
  intro mk hmk n w s
  obtain ⟨op, f, hf, he⟩ := isOwn_of_mem_pureInstrs mk hmk
  refine ⟨_, (he n w s).trans rfl, ?_⟩
  split
  case h_1 => exact .inl rfl
  case h_2 c hc =>
    refine .inr ⟨c, getProc_of_canIssue hc, ?_⟩
    split
    case isTrue => exact .inl ⟨_, rfl⟩
    case isFalse hfuel =>
      dsimp only
      split
      case h_2 => exact .inl ⟨_, rfl⟩
      case h_1 c' hc' =>
        have hs := hf s _ _ _ hc'
        have hid : c'.id = c.id := hs.id
        refine .inr ⟨c', by rw [← hid]; rfl, hid, hs.tenant, hs.item, hs.handle, hs.code, hs.scratchBytes, hs.tabor,
          hs.state, hs.hold, hs.pend, hs.ending, hs.granules, ?_, rfl, rfl⟩
        rw [hs.fuel]
        exact Nat.sub_add_cancel (Nat.pos_of_ne_zero hfuel)

end Sys2Proof.Machine

/-!
PROOFS. Lookups of translations (R271), steps, the state after reset, and records of faults (R476–R481).
-/

namespace Sys2Proof

/-- A value that a map lists first is the one that its key gives. -/
theorem FMap.get?_of_mem {α : Type} {m : FMap α} {k : Nat} {v : α} (hw : m.wf = true) (h : (k, v) ∈ m) : m.get? k = some v := by
  induction m with
  | nil => simp at h
  | cons kv m ih =>
    obtain ⟨j, w⟩ := kv
    obtain ⟨ha, hw⟩ := FMap.wf_cons.1 hw
    rw [FMap.get?_cons]
    rcases List.mem_cons.1 h with h | h
    · cases h; simp
    · rw [if_neg (Nat.ne_of_gt (ha _ h)), ih hw h]

end Sys2Proof

namespace Sys2Proof.Machine

/-! Translations. -/

theorem ptcEnt_hits_iff (e : PtcEnt) (tenant pva : Nat) (write : Bool) : e.hits tenant pva write = true ↔
    e.draining = false ∧ e.tenant = tenant ∧
      (if e.big then e.vpn / 512 = pva / 0x40000000 else e.vpn = pva / 0x200000) ∧
      (if write then e.w = true else e.r = true) := by
  cases write <;> cases hb : e.big <;> simp [PtcEnt.hits, hb, and_assoc]

/-- A lookup's hit comes from an entry that hits and can count one more request. -/
theorem first?_of_ptcLook_hit {s : State} {tenant pva ent pha : Nat} {write : Bool}
    (h : ptcLook s tenant pva write = .hit ent pha) :
    ∃ e, s.tr.ptc.first? (fun _ e => e.hits tenant pva write) = some (ent, e) ∧ pha = e.pha pva ∧ e.inflight < 65535 := by
  unfold ptcLook at h
  split at h
  case h_1 => cases h
  case h_2 n e he =>
    dsimp only at h
    split at h
    · cases h
    split at h
    · cases h
    next hfull =>
    cases h
    exact ⟨e, he, rfl, Nat.lt_of_not_le hfull⟩

/-- Settles O51: a hit is of the first entry that the conditions of R271 accept; with none there is a miss. -/
theorem translationHits : Obligations.TranslationHits := by
  refine ⟨ptcEnt_hits_iff, fun s tenant pva ent pha write h => ?_, fun s tenant pva write h hw => ?_⟩
  · obtain ⟨e, he, hpha, hfree⟩ := first?_of_ptcLook_hit h
    exact ⟨e, he, List.find?_some (p := fun kv : Nat × PtcEnt => kv.2.hits tenant pva write) he, hpha, hfree⟩
  · have hnone : s.tr.ptc.first? (fun _ e => e.hits tenant pva write) = none :=
      List.find?_eq_none.2 fun kv hkv => by simp [h kv.1 kv.2 (FMap.get?_of_mem hw hkv)]
    simp only [ptcLook, hnone]

/-! Steps. -/

theorem idle_eq_self_setNow (s : State) : idle s = s.setNow (idle s).now := by
  simp only [idle]
  split <;> rfl

theorem le_idle_now (s : State) : s.now ≤ (idle s).now := by
  simp only [idle]
  split
  · exact Nat.le_succ _
  · exact Nat.le_refl _

theorem step_of_pending_nil {s : State} (h : s.pending = []) : step s = .next (idle s) := by
  simp only [step, h]

/-- Settles O45: `step` takes the queue apart, and an idle device only moves its time. -/
theorem stepRunsTheCommandInFront : Obligations.StepRunsTheCommandInFront :=
  ⟨fun _ _ _ => rfl, fun s h => ⟨idle s, step_of_pending_nil h, idle_eq_self_setNow s, le_idle_now s⟩, fun _ _ _ => rfl⟩

/-- Settles O49: the state after reset is written out in the model; a byte that nothing lists reads as zero. -/
theorem resetIsBareAndCanonical : Obligations.ResetIsBareAndCanonical :=
  ⟨rfl, rfl, rfl, rfl, rfl, rfl, rfl, rfl, rfl, rfl, rfl, rfl, rfl, rfl, fun _ => rfl⟩

/-! Faults. -/

/-- With no reset in progress a reset is started without taking any over. -/
theorem startReset_of_no_resets {s : State} (h : s.rc.resets = []) (domain index cause seq : Nat) (fences : List Nat)
    (tasks : List Task) : startReset domain index cause seq fences tasks s = s.setRc { s.rc with
      resets := [{ domain := domain, index := index, cause := cause, seq := seq, start := s.now, run := false,
                   fences := fences, tasks := tasks }] } := by
  simp [startReset, subsume, h]

theorem orderOverflow_of_no_resets {s : State} (h : s.rc.resets = []) (cause handler : Nat) :
    orderOverflow cause handler s = s.setRc { s.rc with
      faultSeq := s.rc.faultSeq + 1
      overflow := some ⟨0x10, 6, 0, handler, 0, s.rc.faultSeq + 1, s.now, 0, cause⟩
      resets := [⟨6, 0, 0x10, s.rc.faultSeq + 1, s.now, false, [], []⟩] } := by
  simp [orderOverflow, subsume, h]

section

variable {s : State} {domain : Nat} (cause index detail : Nat) (tasks : List Task)

theorem fault_of_room (hr : s.rc.resets = []) (hs : s.rc.deviceState = 0) (hd : domain ≠ 7) (hi : s.rc.islandFailed = false)
    (hq : s.rc.queueA.length < 64) : fault cause domain index detail tasks s = s.setRc { s.rc with
      faultSeq := s.rc.faultSeq + 1
      queueA := s.rc.queueA ++ [⟨cause, domain, 0, 0, index, s.rc.faultSeq + 1, s.now, 0, detail⟩]
      resets := [⟨domain, index, cause, s.rc.faultSeq + 1, s.now, false, if domain = 1 then [index] else [], tasks⟩] } := by
  simp only [fault, hr, hs, hd, hi, Nat.not_le.2 hq, decide_false, Bool.false_or, Bool.false_and, Bool.false_eq_true, if_false,
    if_true, Nat.zero_ne_one, List.find?_nil]
  exact startReset_of_no_resets rfl ..

theorem fault_of_full (hr : s.rc.resets = []) (hs : s.rc.deviceState = 0) (hd : domain ≠ 7) (hi : s.rc.islandFailed = false)
    (hq : s.rc.queueA.length = 64) : fault cause domain index detail tasks s = orderOverflow cause 0 s := by
  simp [fault, hr, hs, hd, hi, hq]

/-- A fault that the one reset in progress covers goes to the history at once, and leaves its tasks to that reset. -/
theorem fault_of_covered {x : Reset} (hs : s.rc.deviceState ≠ 1) (hr : s.rc.resets = [x])
    (he : encloses x.domain x.index domain index = true) :
    fault cause domain index detail tasks s =
      let r : FaultRec := ⟨cause, domain, 3, if domain = 7 || s.rc.islandFailed then 1 else 0, index, s.rc.faultSeq + 1,
        s.now, s.now, x.seq⟩
      let t := retire r (s.setRc { s.rc with faultSeq := s.rc.faultSeq + 1 })
      t.setRc { t.rc with resets := [{ x with
        fences := if domain = 1 && x.domain ≠ 1 then x.fences ++ [index] else x.fences, tasks := x.tasks ++ tasks }] } := by
  have hfind : (s.rc.resets.find? fun y =>
      (y.domain = domain && y.index = index) || encloses y.domain y.index domain index) = some x := by simp [hr, he]
  simp only [fault, hs, decide_false, Bool.false_and, Bool.false_eq_true, if_false, hfind]
  simp [retire, hr]

end

/-- Settles O58: the fault is queued with its reset, overflows its queue, or joins the reset that covers it. -/
theorem faultsAreRecorded : Obligations.FaultsAreRecorded := by
  refine ⟨fun cause domain index detail tasks s hr hs hd hi hq => ⟨_, fault_of_room cause index detail tasks hr hs hd hi hq, ?_⟩,
    fun cause domain index detail tasks s hr hs hd hi hq =>
      ⟨_, (fault_of_full cause index detail tasks hr hs hd hi hq).trans (orderOverflow_of_no_resets hr cause 0), ?_⟩,
    fun cause domain index detail tasks s x hs hr he => ⟨_, fault_of_covered cause index detail tasks hs hr he, ?_⟩⟩
  · exact ⟨rfl, rfl, rfl, rfl, rfl, rfl⟩
  · exact ⟨rfl, rfl, rfl, rfl, rfl, rfl⟩
  · exact ⟨rfl, FMap.get?_set_self .., rfl⟩

/-! Sessions. -/

/-- A full session's request is answered with BUSY, unless it repeats one whose response is kept (R524, R526). -/
theorem answerMsg_of_full {who : Session} {m : OdpMsg} {s s1 : State} (perform : State → Answer × State) (after : State → State)
    (ht : takeMsg who m s = some s1) (hk : keptFor (touchLocks who s1) who m = none)
    (hf : sessionFull (touchLocks who s1) who = true) :
    answerMsg who m perform after s = respond who m { status := odBusy } (touchLocks who s1) := by
  simp only [answerMsg, ht, hk, hf, if_true]
  rfl

/-- Settles O59: a write of any other object is a request like every other. -/
theorem sessionsHoldEightRequests : Obligations.SessionsHoldEightRequests := by
  intro who m s s1 ht hop hnamed hk hf
  have hw : (m.op = 2 && !(writeKey s who m).any namedKeys.contains) = true := by rw [hop, hnamed]; rfl
  show Host.Outcome.next (if _ then odWrite who m s else s) = _
  rw [if_pos hw, odWrite, answerMsg_of_full _ _ ht hk hf]

end Sys2Proof.Machine

/-!
PROOFS. What no instruction of a program changes directly (R135, R138): the frames of the functions that issues reach.
-/

namespace Sys2Proof.Machine

/-- What a program reaches only through its lines and requests: the range, its homes, local time, power, boot, recovery,
flash, the board and the waiting commands. -/
def State.outside (s : State) :
    List Host.Cell × Tiers × Nat × Power × Boot × Recov × Frost × Board × List Instr :=
  (s.mem, s.ti, s.now, s.pw, s.bt, s.rc, s.fr, s.board, s.pending)

@[simp] theorem State.setCo_outside (s : State) (v : Cores) : (s.setCo v).outside = s.outside := rfl
@[simp] theorem State.setTr_outside (s : State) (v : Trans) : (s.setTr v).outside = s.outside := rfl
@[simp] theorem State.setHo_outside (s : State) (v : HostSide) : (s.setHo v).outside = s.outside := rfl
@[simp] theorem State.setFa_outside (s : State) (v : Fabric) : (s.setFa v).outside = s.outside := rfl
@[simp] theorem State.setCh_outside (s : State) (v : Coh) : (s.setCh v).outside = s.outside := rfl
@[simp] theorem State.setSv_outside (s : State) (v : Svc) : (s.setSv v).outside = s.outside := rfl
@[simp] theorem State.setOd_outside (s : State) (v : Dict) : (s.setOd v).outside = s.outside := rfl
@[simp] theorem State.setOut_outside (s : State) (v : List Output) : (s.setOut v).outside = s.outside := rfl
@[simp] theorem State.setFreeCtr_outside (s : State) (v : Nat) : (s.setFreeCtr v).outside = s.outside := rfl

@[simp] theorem foldl_outside {α : Type} {f : State → α → State} (h : ∀ s a, (f s a).outside = s.outside) (l : List α)
    (s : State) : (l.foldl f s).outside = s.outside := foldl_keeps _ f h l s

@[simp] theorem setTab_outside (t : Nat) (v : Tabor) (s : State) : (setTab t v s).outside = s.outside := by
  simp [setTab]

@[simp] theorem modCtx_outside (t id : Nat) (f : Ctx → Ctx) (s : State) : (modCtx t id f s).outside = s.outside := by
  simp [modCtx]

@[simp] theorem charge_outside (t : Nat) (s : State) : (charge t s).outside = s.outside := by
  simp only [charge]
  split <;> simp

@[simp] theorem schedule_outside (t : Nat) (s : State) : (schedule t s).outside = s.outside := by
  simp only [schedule]
  repeat' split
  all_goals simp

@[simp] theorem modItem_outside (n : Nat) (f : Item → Item) (s : State) : (modItem n f s).outside = s.outside := by
  simp [modItem]

@[simp] theorem endItem_outside (n status r0 r1 : Nat) (s : State) : (endItem n status r0 r1 s).outside = s.outside := by
  simp [endItem]

@[simp] theorem settleCtx_outside (t id : Nat) (s : State) : (settleCtx t id s).outside = s.outside := by
  simp only [settleCtx]
  repeat' split
  all_goals simp

@[simp] theorem leave_outside (t id : Nat) (st : CtxState) (s : State) : (leave t id st s).outside = s.outside := by
  simp only [leave]
  repeat' split
  all_goals simp

@[simp] theorem endCtx_outside (t id status : Nat) (s : State) : (endCtx t id status s).outside = s.outside := by
  simp [endCtx]

@[simp] theorem modRx_outside (key : Nat) (f : RxPath → RxPath) (s : State) : (modRx key f s).outside = s.outside := by
  simp [modRx]

@[simp] theorem pushCtl_outside (sub : Nat) (pkt : Pkt) (s : State) : (pushCtl sub pkt s).outside = s.outside := by
  simp [pushCtl]

@[simp] theorem sendResponse_outside (sub : Nat) (p : Pkt) (status : Nat) (payload : List Byte) (s : State) :
    (sendResponse sub p status payload s).outside = s.outside := by
  simp [sendResponse]

@[simp] theorem bumpCounter_outside (c n : Nat) (s : State) : (bumpCounter c n s).outside = s.outside := by
  simp [bumpCounter]

@[simp] theorem notePrepared_outside (p : Pkt) (old : Nat) (s : State) : (notePrepared p old s).outside = s.outside := by
  simp only [notePrepared]
  repeat' split
  all_goals simp

@[simp] theorem drawEntropy_outside (s : State) : (drawEntropy s).2.outside = s.outside := by
  simp [drawEntropy]

@[simp] theorem drawStart_outside (key : Nat) (s : State) : (drawStart key s).2.outside = s.outside := by
  simp [drawStart]

@[simp] theorem ensurePath_outside (key : Nat) (s : State) : ∀ t, ensurePath key s = some t → t.outside = s.outside := by
  simp only [ensurePath]
  repeat' split
  all_goals simp

@[simp] theorem pushPkt_outside (key : Nat) (pkt : Pkt) (req : Nat) (tenant : Option Nat) (s : State) :
    (pushPkt key pkt req tenant s).outside = s.outside := by
  simp only [pushPkt]
  split <;> simp

@[simp] theorem sendBulk_outside (node tc job : Nat) (tenant : Option Nat) (bytes : List Byte) (reqs : List Nat) (s : State) :
    (sendBulk node tc job tenant bytes reqs s).outside = s.outside := by
  simp only [sendBulk]
  split
  · rfl
  case h_2 t h => split <;> simp [ensurePath_outside _ _ _ h]

@[simp] theorem endPkt_outside (node tc psn : Nat) (s : State) : (endPkt node tc psn s).outside = s.outside := by
  simp only [endPkt]
  repeat' split
  all_goals simp

@[simp] theorem modOpen_outside (node tc psn : Nat) (f : OpenPkt → OpenPkt) (s : State) :
    (modOpen node tc psn f s).outside = s.outside := by
  simp [modOpen]

@[simp] theorem sendPeer_outside (node job window offset : Nat) (m : CohMsg) (s : State) :
    (sendPeer node job window offset m s).outside = s.outside := by
  grind [sendPeer, ensurePath_outside, pushPkt_outside]

@[simp] theorem sendMsg_outside (via : Option (Nat × Nat × Nat)) (m : CohMsg) (s : State) :
    (sendMsg via m s).outside = s.outside := by
  simp only [sendMsg]
  split <;> simp

@[simp] theorem ucRequest_outside (line mtype tenant : Nat) (who : CohFor) (ledger : Option (Nat × Nat × Nat)) (m : CohMsg) (s : State) :
    (ucRequest line mtype tenant who ledger m s).outside = s.outside := by
  simp [ucRequest]

@[simp] theorem postRead_outside (node tc psn tenant a len : Nat) (s : State) :
    (postRead node tc psn tenant a len s).2.outside = s.outside := by
  simp [postRead]

@[simp] theorem interceptWrite_outside (pha : Nat) (whole : Bool) (bytes : List Byte) (w : Writer) (zero : Bool) (s : State) :
    (interceptWrite pha whole bytes w zero s).outside = s.outside := by
  simp [interceptWrite]

@[simp] theorem postWrite_outside (node tc psn tenant a : Nat) (bytes : List Byte) (s : State) :
    (postWrite node tc psn tenant a bytes s).2.outside = s.outside := by
  simp [postWrite, apply_ite State.outside]

@[simp] theorem nextRecord_outside (node tc psn x3 : Nat) (x4 : State) :
    (nextRecord node tc psn x3 x4).outside = x4.outside := by
  induction x3 generalizing x4 with
  | zero => rfl
  | succ n ih =>
    simp only [nextRecord]
    repeat' split
    all_goals simp [ih]

@[simp] theorem performPkt_outside (node tc psn : Nat) (s : State) : (performPkt node tc psn s).outside = s.outside := by
  simp only [performPkt]
  repeat' split
  all_goals simp

@[simp] theorem galeNext_outside (port x1 : Nat) (x2 : State) : (galeNext port x1 x2).outside = x2.outside := by
  induction x1 generalizing x2 with
  | zero => rfl
  | succ n ih =>
    simp only [galeNext]
    repeat' split
    all_goals simp [ih]

@[simp] theorem galeDone_outside (port : Nat) (failed : Option Nat) (s : State) :
    (galeDone port failed s).outside = s.outside := by
  simp only [galeDone]
  repeat' split
  all_goals simp

@[simp] theorem scriptDone_outside (status : Nat) (s : State) : (scriptDone status s).outside = s.outside := by
  simp only [scriptDone]
  split <;> simp

@[simp] theorem failProc_outside (p : Proc) (c : Ctx) (status : Nat) (s : State) :
    (failProc p c status s).outside = s.outside := by
  simp only [failProc]
  split <;> simp

@[simp] theorem putProc_outside (p : Proc) (c : Ctx) (s : State) : (putProc p c s).outside = s.outside := by
  simp only [putProc]
  split <;> simp

@[simp] theorem finishOp_outside (p : Proc) (c : Ctx) (s : State) : (finishOp p c s).outside = s.outside := by
  simp only [finishOp]
  repeat' split
  all_goals simp

@[simp] theorem failNf_outside (p : Proc) (c : Ctx) (nf : Bool) (status : Nat) (s : State) :
    (failNf p c nf status s).outside = s.outside := by
  simp only [failNf]
  split <;> simp

@[simp] theorem setPort_outside (s : State) (p : Nat) (v : HostPort) : (setPort s p v).outside = s.outside := by
  simp [setPort]

@[simp] theorem hostWrite_outside (p f addr : Nat) (bytes : List Byte) (s : State) :
    (hostWrite p f addr bytes s).outside = s.outside := by
  simp only [hostWrite]
  split <;> simp

@[simp] theorem setFn_outside (s : State) (p f : Nat) (v : HostFn) : (setFn s p f v).outside = s.outside := by
  simp [setFn]

@[simp] theorem emit_outside (o : Output) (s : State) : (emit o s).outside = s.outside := by
  simp [emit]

@[simp] theorem sendVector_outside (p f v : Nat) (s : State) : (sendVector p f v s).outside = s.outside := by
  simp only [sendVector]
  split <;> simp

@[simp] theorem drainReqRing_outside (port x1 : Nat) (x2 : State) : (drainReqRing port x1 x2).outside = x2.outside := by
  induction x1 generalizing x2 with
  | zero => rfl
  | succ n ih =>
    simp only [drainReqRing]
    repeat' split
    all_goals simp [ih]

@[simp] theorem pushReqEnt_outside (port : Nat) (e : ReqEnt) (s : State) : (pushReqEnt port e s).outside = s.outside := by
  simp [pushReqEnt]

@[simp] theorem pumpMisses_outside (tenant x1 : Nat) (x2 : State) : (pumpMisses tenant x1 x2).outside = x2.outside := by
  induction x1 generalizing x2 with
  | zero => rfl
  | succ n ih =>
    simp only [pumpMisses]
    repeat' split
    all_goals simp [ih]

@[simp] theorem noteMiss_outside (tenant pva : Nat) (write : Bool) (task : Task) (s : State) :
    (noteMiss tenant pva write task s).1.outside = s.outside := by
  simp only [noteMiss]
  split <;> simp

@[simp] theorem addPend_outside (c : Ctx) (kind : PendKind) (parts : List Part) (remote : Bool) (win : Option (Nat × Nat × Nat)) (nf acq : Bool) (ents : List Nat) (s : State) :
    (addPend c kind parts remote win nf acq ents s).2.outside = s.outside := by
  simp [addPend]

@[simp] theorem ptcAdmit_outside (ent : Nat) (s : State) : (ptcAdmit ent s).outside = s.outside := by
  simp [ptcAdmit]

@[simp] theorem ptcAdmitAll_outside (ents : List Nat) (s : State) : (ptcAdmitAll ents s).outside = s.outside := by
  simp [ptcAdmitAll]

@[simp] theorem markEffect_outside (item : Nat) (s : State) : (markEffect item s).outside = s.outside := by
  simp [markEffect]

@[simp] theorem agentSend_outside (t chip line mtype tenant : Nat) (who : CohFor) (via : Option (Nat × Nat × Nat)) (m : CohMsg) (s : State) :
    (agentSend t chip line mtype tenant who via m s).outside = s.outside := by
  simp [agentSend]

@[simp] theorem useNo_outside (s : State) : (useNo s).2.outside = s.outside := by
  simp [useNo]

@[simp] theorem setSlice_outside (t : Nat) (v : FMap SliceLine) (s : State) : (setSlice t v s).outside = s.outside := by
  simp [setSlice]

@[simp] theorem ptcDone_outside (ent : Nat) (s : State) : (ptcDone ent s).outside = s.outside := by
  simp only [ptcDone]
  split <;> simp

@[simp] theorem ptcDoneAll_outside (ents : List Nat) (s : State) : (ptcDoneAll ents s).outside = s.outside := by
  simp [ptcDoneAll]

@[simp] theorem pendDone_outside (t id tag status : Nat) (data : List Byte) (s : State) :
    (pendDone t id tag status data s).outside = s.outside := by
  simp only [pendDone]
  repeat' split
  all_goals simp

@[simp] theorem wakeOne_outside (t key id tag : Nat) (s : State) : (wakeOne t key id tag s).outside = s.outside := by
  simp only [wakeOne]
  repeat' split
  all_goals simp

@[simp] theorem needLine_outside (t id tag key tenant : Nat) (k : PendKind) (via : Option (Nat × Nat × Nat)) (s : State) :
    (needLine t id tag key tenant k via s).outside = s.outside := by
  simp only [needLine]
  repeat' split
  all_goals simp

@[simp] theorem startParts_outside (t id tag tenant : Nat) (k : PendKind) (own : Bool) (vias : Part → Option (Nat × Nat × Nat)) (parts : List Part) (s : State) :
    (startParts t id tag tenant k own vias parts s).outside = s.outside := by
  simp only [startParts]
  refine foldl_outside (fun s a => ?_) _ _
  repeat' split
  all_goals simp

@[simp] theorem rangeAccess_outside (t : Nat) (c : Ctx) (a : RangeAcc) (s : State) :
    (rangeAccess t c a s).outside = s.outside := by
  simp only [rangeAccess]
  repeat' split
  all_goals simp

@[simp] theorem flushOpen_outside (node tc job : Nat) (s : State) : (flushOpen node tc job s).outside = s.outside := by
  simp only [flushOpen]
  split <;> simp

@[simp] theorem appendRecord_outside (n : Nat) (r : RemoteReq) (s : State) : (appendRecord n r s).outside = s.outside := by
  simp only [appendRecord]
  repeat' split
  all_goals simp

@[simp] theorem launch_outside (n : Nat) (s : State) : (launch n s).outside = s.outside := by
  grind [launch, ensurePath_outside, pushPkt_outside, State.setFa_outside]

@[simp] theorem dispatch_outside (n : Nat) (s : State) : (dispatch n s).outside = s.outside := by
  simp only [dispatch]
  repeat' split
  all_goals simp

@[simp] theorem sendReq_outside (node : Nat) (origin : Origin) (tenant issuer : Nat) (p : Pkt) (s : State) :
    (sendReq node origin tenant issuer p s).outside = s.outside := by
  simp only [sendReq]
  repeat' split
  all_goals simp

@[simp] theorem winAccess_outside (t : Nat) (nf : Bool) (w : Nat) (c : Ctx) (a : WinAcc) (s : State) :
    (winAccess t nf w c a s).outside = s.outside := by
  simp only [winAccess]
  repeat' split
  all_goals simp

@[simp] theorem postCopy_outside (origin : Origin) (tenant : Nat) (w : List Nat) (s : State) :
    ∀ x, postCopy origin tenant w s = .ok x → x.2.outside = s.outside := by
  simp only [postCopy]
  repeat' split
  all_goals simp

@[simp] theorem flushOf_outside (c : Ctx) (s : State) : (flushOf c s).outside = s.outside := by
  simp [flushOf]

/-! Issues. -/

/-- The instruction runs, and what is outside stays. -/
def StaysInside (s : State) (r : Res3) : Prop := ∃ t, r = .next t ∧ t.outside = s.outside

theorem issue_staysInside {k : Ctx → State → State} (hk : ∀ c s, (k c s).outside = s.outside) (op : Op) (p : Proc)
    (w : BitVec 32) (s : State) : StaysInside s (issue op p w k s) := by
  refine ⟨_, rfl, ?_⟩
  split
  · rfl
  · split
    · simp
    · exact hk _ _

theorem issuePure_staysInside (op : Op) (f : Nat → Ctx → Res) (p : Proc) (w : BitVec 32) (s : State) :
    StaysInside s (issuePure op f p w s) := by
  refine issue_staysInside (fun c s => ?_) op p w s
  split <;> simp

theorem issueRange_staysInside (op : Op) (f : Nat → Ctx → Except Nat (Option RangeAcc)) (p : Proc) (w : BitVec 32)
    (s : State) : StaysInside s (issueRange op f p w s) := by
  refine issue_staysInside (fun c s => ?_) op p w s
  repeat' split
  all_goals simp

theorem issueWin_staysInside (op : Op) (f : Nat → Ctx → WinAcc) (p : Proc) (w : BitVec 32) (s : State) :
    StaysInside s (issueWin op f p w s) := by
  refine issue_staysInside (fun c s => ?_) op p w s
  repeat' split
  all_goals simp

theorem issueCopy_staysInside (p : Proc) (w : BitVec 32) (s : State) : StaysInside s (issueCopy p w s) := by
  refine issue_staysInside (fun c s => ?_) .copy p w s
  dsimp only
  repeat' split
  any_goals simp
  case h_2 hc => exact postCopy_outside _ _ _ _ _ hc

theorem issueWaitc_staysInside (p : Proc) (w : BitVec 32) (s : State) : StaysInside s (issueWaitc p w s) := by
  refine issue_staysInside (fun c s => ?_) .waitc p w s
  dsimp only
  repeat' split
  all_goals simp

theorem issueWaitf_staysInside (p : Proc) (w : BitVec 32) (s : State) : StaysInside s (issueWaitf p w s) := by
  refine issue_staysInside (fun c s => ?_) .waitf p w s
  dsimp only
  repeat' split
  all_goals simp

theorem issueFence_staysInside (op : Op) (f : Ctx → Ctx) (flush : Bool) (p : Proc) (w : BitVec 32) (s : State) :
    StaysInside s (issueFence op f flush p w s) := by
  refine issue_staysInside (fun c s => ?_) op p w s
  cases flush <;> simp

theorem issueEnd_staysInside (p : Proc) (w : BitVec 32) (s : State) : StaysInside s (issueEnd p w s) := by
  refine issue_staysInside (fun c s => ?_) .endOp p w s
  cases p <;> simp

theorem issueYield_staysInside (p : Proc) (w : BitVec 32) (s : State) : StaysInside s (issueYield p w s) := by
  refine issue_staysInside (fun c s => ?_) .yield p w s
  cases p <;> simp

theorem issuePkt_staysInside (op : Op) (failed : Option Nat) (p : Proc) (w : BitVec 32) (s : State) :
    StaysInside s (issuePkt op failed p w s) := by
  refine issue_staysInside (fun c s => ?_) op p w s
  cases p <;> simp

theorem exec_staysInside : ∀ mk ∈ pureInstrs ++ reachingInstrs, ∀ p w s, StaysInside s (exec (mk p w) s) := by
  unfold pureInstrs reachingInstrs
  repeat' refine List.forall_mem_append.2 ⟨?_, ?_⟩
  all_goals repeat' refine List.forall_mem_cons.2 ⟨?_, ?_⟩
  any_goals exact List.forall_mem_nil _
  all_goals intro p w s; dsimp only [exec]
  any_goals exact issuePure_staysInside ..
  iterate 2 exact issueFence_staysInside ..
  · exact issueEnd_staysInside ..
  · exact issueYield_staysInside ..
  iterate 6 exact issueRange_staysInside ..
  iterate 6 exact issueWin_staysInside ..
  · exact issueCopy_staysInside ..
  · exact issueWaitc_staysInside ..
  · exact issueWaitf_staysInside ..
  · exact issueFence_staysInside ..
  iterate 2 exact issuePkt_staysInside ..

/-- Settles O15: every issue stays inside, whatever its operation. -/
theorem instructionsLeaveTheRangeAlone : Obligations.InstructionsLeaveTheRangeAlone := by
  intro mk hmk p w s
  obtain ⟨t, ht, ho⟩ := exec_staysInside mk hmk p w s
  simp only [State.outside, Prod.mk.injEq] at ho
  exact ⟨t, ht, ho⟩

end Sys2Proof.Machine

/-!
PROOFS. A snoop changes the state of no line but its own.
-/

namespace Sys2Proof

namespace FMap

variable {α : Type}

theorem get?_erase_ne (m : FMap α) {j k : Nat} (h : k ≠ j) : get? (erase m j) k = get? m k := by
  induction m with
  | nil => rfl
  | cons p m ih =>
    obtain ⟨a, v⟩ := p
    simp only [erase]
    split
    case isTrue hj => rw [get?_cons, if_neg (hj ▸ h)]
    case isFalse => rw [get?_cons, get?_cons, ih]

theorem getD_erase_ne (m : FMap α) {j k : Nat} (h : k ≠ j) (d : α) : getD (erase m j) k d = getD m k d := by
  rw [getD, getD, get?_erase_ne m h]

theorem getD_set_ne (m : FMap α) {j k : Nat} (h : k ≠ j) (v d : α) : getD (set m j v) k d = getD m k d := by
  rw [getD_set, if_neg h]

theorem isEmpty_set (m : FMap α) (j : Nat) (v : α) : (set m j v).isEmpty = false := by
  cases m with
  | nil => rfl
  | cons p m =>
    simp only [set]
    (repeat' split) <;> rfl

end FMap

end Sys2Proof

namespace Sys2Proof.Machine

/-- The lines that agents hold, the directory, the transactions, memory, the programs and recovery. -/
def State.lines (s : State) : FMap (FMap SliceLine) × FMap (FMap SliceLine) × FMap DirEntry × FMap Txn × List Host.Cell × Cores × Recov :=
  (s.ch.slices, s.ch.wbuf, s.ch.dir, s.ch.txns, s.mem, s.co, s.rc)

@[simp] theorem State.setFa_lines (s : State) (v : Fabric) : (s.setFa v).lines = s.lines := rfl
@[simp] theorem State.setFreeCtr_lines (s : State) (v : Nat) : (s.setFreeCtr v).lines = s.lines := rfl

@[simp] theorem drawStart_lines (key : Nat) (s : State) : (drawStart key s).2.lines = s.lines := rfl

theorem ensurePath_lines (key : Nat) (s : State) : ∀ t, ensurePath key s = some t → t.lines = s.lines := by
  intro t ht
  simp only [ensurePath] at ht
  split at ht
  · cases ht; rfl
  split at ht
  · cases ht; rfl
  · simp only [Option.map_map, Option.map_eq_some_iff] at ht
    obtain ⟨k, -, rfl⟩ := ht
    rfl

@[simp] theorem pushPkt_lines (key : Nat) (pkt : Pkt) (req : Nat) (tenant : Option Nat) (s : State) :
    (pushPkt key pkt req tenant s).lines = s.lines := by
  simp only [pushPkt]
  split <;> rfl

@[simp] theorem sendPeer_lines (node job window offset : Nat) (m : CohMsg) (s : State) :
    (sendPeer node job window offset m s).lines = s.lines := by
  simp only [sendPeer]
  split
  · split
    case h_1 t ht => rw [pushPkt_lines, ensurePath_lines _ _ _ ht]
    case h_2 => rfl
  · rfl

@[simp] theorem sendMsg_lines (via : Option (Nat × Nat × Nat)) (m : CohMsg) (s : State) :
    (sendMsg via m s).lines = s.lines := by
  simp only [sendMsg]
  repeat' split
  · rfl
  · simp

@[simp] theorem snoopAnswer_lines (m : CohMsg) (t mtype : Nat) (dirty : Bool) (payload : List Byte) (s : State) :
    (snoopAnswer m t mtype dirty payload s).lines = s.lines := sendMsg_lines ..

@[simp] theorem forwardLine_lines (m : CohMsg) (t mtype : Nat) (dirty : Bool) (data : List Byte) (s : State) :
    (forwardLine m t mtype dirty data s).lines = s.lines := sendMsg_lines ..

/-- A message that comes on the mesh is taken off it. -/
theorem cohTake_lines {m : CohMsg} (hm : m.frame = none) (mtype : Nat) (s : State) : (cohTake mtype m s).1.lines = s.lines := by
  simp only [cohTake, hm]
  (repeat' split) <;> rfl

/-- The second state differs from the first at most in the line with the key at agent `t`, in messages and in what waits. -/
structure OnlyLine (t key : Nat) (s u : State) : Prop where
  others : ∀ n, n ≠ t → getSlice u n = getSlice s n ∧ getWbuf u n = getWbuf s n
  slices : ∀ n k l, k ≠ key → (getSlice s n).get? k = some l → (getSlice u n).get? k = some l
  wbufs : ∀ n k, k ≠ key → (getWbuf u n).get? k = (getWbuf s n).get? k
  dir : u.ch.dir = s.ch.dir
  txns : u.ch.txns = s.ch.txns
  mem : u.mem = s.mem
  co : u.co = s.co
  rc : u.rc = s.rc

theorem getSlice_setSlice_ne {t n : Nat} (hn : n ≠ t) (w : FMap SliceLine) (s : State) :
    getSlice (setSlice t w s) n = getSlice s n := by
  simp only [getSlice, setSlice]
  split
  · exact FMap.getD_erase_ne _ hn _
  · exact FMap.getD_set_ne _ hn _ _

theorem getWbuf_setWbuf_set_ne {t n : Nat} (hn : n ≠ t) (w : FMap SliceLine) (k : Nat) (l : SliceLine) (s : State) :
    getWbuf (setWbuf t (w.set k l) s) n = getWbuf s n := by
  simp only [getWbuf, setWbuf, FMap.isEmpty_set]
  exact FMap.getD_set_ne _ hn _ _

theorem getWbuf_setWbuf_set (t : Nat) (w : FMap SliceLine) (k : Nat) (l : SliceLine) (s : State) :
    getWbuf (setWbuf t (w.set k l) s) t = w.set k l := by
  simp only [getWbuf, setWbuf, FMap.isEmpty_set]
  exact FMap.getD_set_self ..

namespace OnlyLine

variable {t key : Nat} {s u v : State}

theorem of_lines (h : u.lines = s.lines) : OnlyLine t key s u := by
  simp only [State.lines, Prod.mk.injEq] at h
  obtain ⟨hslices, hwbuf, hdir, htxns, hmem, hco, hrc⟩ := h
  have hs : ∀ n, getSlice u n = getSlice s n := fun n => by rw [getSlice, getSlice, hslices]
  have hw : ∀ n, getWbuf u n = getWbuf s n := fun n => by rw [getWbuf, getWbuf, hwbuf]
  exact ⟨fun n _ => ⟨hs n, hw n⟩, fun n k l _ hl => by rwa [hs n], fun n k _ => by rw [hw n], hdir, htxns, hmem, hco, hrc⟩

theorem refl (s : State) : OnlyLine t key s s := of_lines rfl

theorem trans (h : OnlyLine t key s u) (h' : OnlyLine t key u v) : OnlyLine t key s v where
  others n hn := ⟨(h'.others n hn).1.trans (h.others n hn).1, (h'.others n hn).2.trans (h.others n hn).2⟩
  slices n k l hk hl := h'.slices n k l hk (h.slices n k l hk hl)
  wbufs n k hk := (h'.wbufs n k hk).trans (h.wbufs n k hk)
  dir := h'.dir.trans h.dir
  txns := h'.txns.trans h.txns
  mem := h'.mem.trans h.mem
  co := h'.co.trans h.co
  rc := h'.rc.trans h.rc

/-- A new slice that has every line of the old one but the one with the key. -/
theorem setSlice {w : FMap SliceLine} (hw : ∀ k l, k ≠ key → (getSlice s t).get? k = some l → w.get? k = some l) :
    OnlyLine t key s (setSlice t w s) where
  others n hn := ⟨getSlice_setSlice_ne hn w s, rfl⟩
  slices n k l hk hl := by
    by_cases hn : n = t
    · subst hn
      have hwl := hw k l hk hl
      have hne : w.isEmpty = false := by cases w <;> simp_all
      simp [getSlice, Machine.setSlice, hne, hwl]
    · rwa [getSlice_setSlice_ne hn]
  wbufs _ _ _ := rfl
  dir := rfl
  txns := rfl
  mem := rfl
  co := rfl
  rc := rfl

/-- A line put in its write-back buffer. -/
theorem setWbuf (l : SliceLine) : OnlyLine t key s (setWbuf t ((getWbuf s t).set key l) s) where
  others n hn := ⟨rfl, getWbuf_setWbuf_set_ne hn ..⟩
  slices _ _ _ _ hl := hl
  wbufs n k hk := by
    by_cases hn : n = t
    · rw [hn, getWbuf_setWbuf_set, FMap.get?_set_ne _ _ hk]
    · rw [getWbuf_setWbuf_set_ne hn]
  dir := rfl
  txns := rfl
  mem := rfl
  co := rfl
  rc := rfl

theorem setAgentLine (wb : Bool) (l : SliceLine) (st : Option LState) : OnlyLine t key s (setAgentLine t key wb l st s) := by
  simp only [Machine.setAgentLine]
  split
  · exact setWbuf _
  · split
    · exact setSlice fun k l hk hl => by rw [FMap.get?_set_ne _ _ hk, hl]
    · exact setSlice fun k l hk hl => by rw [FMap.get?_erase_ne _ hk, hl]

end OnlyLine

/-- A snoop from the mesh changes its own line at the agent that it names. -/
theorem agentSnoop_onlyLine {m : CohMsg} (hm : m.frame = none) (mtype : Nat) (s : State) :
    OnlyLine (agentTabor m.dst) (lineKey m.srcChip m.line) s (agentSnoop mtype m s) := by
  have htake := cohTake_lines hm mtype s
  simp only [agentSnoop]
  split
  case h_1 u hu => exact .of_lines (by rw [← htake, hu])
  case h_2 u hu =>
    have hsu : u.lines = s.lines := by rw [← htake, hu]
    refine .trans (.of_lines hsu) ?_
    split
    case h_1 => exact .of_lines rfl
    case h_2 =>
      split
      case h_1 => exact .of_lines (by simp)
      case h_2 l wb _ =>
        have put := fun st => OnlyLine.setAgentLine (t := agentTabor m.dst) (key := lineKey m.srcChip m.line) (s := u) wb l st
        split
        · exact .refl u
        split
        · exact .of_lines (by simp)
        split
        · exact .trans (put none) (.of_lines (by simp))
        · exact .trans (put _) (.of_lines ((snoopAnswer_lines ..).trans (forwardLine_lines ..)))
        · exact .trans (put none) (.of_lines (by simp))
        · split
          · exact .trans (put none) (.of_lines (by simp))
          · exact .trans (put none) (.of_lines (by simp))
        · exact .of_lines (by simp)

/-- Settles O18: each of the five snoops is the agent's answer, or nothing without power. -/
theorem snoopsChangeOnlyTheirLine : Obligations.SnoopsChangeOnlyTheirLine := by
  intro m s t hm h
  have hact : ∀ mtype, s.act (agentSnoop mtype m s) = .next t →
      OnlyLine (agentTabor m.dst) (lineKey m.srcChip m.line) s t := by
    intro mtype h
    simp only [State.act, Host.Outcome.next.injEq] at h
    subst h
    split
    · exact agentSnoop_onlyLine hm mtype s
    · exact .refl s
  have hline : OnlyLine (agentTabor m.dst) (lineKey m.srcChip m.line) s t := by
    rcases h with h | h | h | h | h
    · exact hact 0x10 h
    · exact hact 0x11 h
    · exact hact 0x12 h
    · exact hact 0x13 h
    · exact hact 0x14 h
  exact ⟨hline.others, hline.slices, hline.wbufs, hline.dir, hline.txns, hline.mem, hline.co, hline.rc⟩

end Sys2Proof.Machine

/-!
PROOFS. The functions of the model that leave the bytes of the range alone: one frame lemma for each, callees first.
-/

namespace Sys2Proof.Machine

/-- The state that an access leaves, whatever its outcome. -/
def Acc.st {α : Type} : Acc α → State
  | .ok _ s => s
  | .bad _ s => s
  | .wait s => s

@[simp] theorem Acc.st_ok {α : Type} (a : α) (s : State) : (Acc.ok a s).st = s := rfl

@[simp] theorem Acc.st_bad {α : Type} (st : Nat) (s : State) : (Acc.bad st s : Acc α).st = s := rfl

@[simp] theorem Acc.st_wait {α : Type} (s : State) : (Acc.wait s : Acc α).st = s := rfl

@[simp] theorem Acc.bind_mem {α β : Type} {k : α → State → Acc β} (hk : ∀ a t, (k a t).st.mem = t.mem) (x : Acc α) :
    (x.bind k).st.mem = x.st.mem := by
  cases x <;> simp [Acc.bind, hk]

@[simp] theorem foldl_mem {α : Type} {f : State → α → State} (h : ∀ s a, (f s a).mem = s.mem) (l : List α) (s : State)
    :
    (l.foldl f s).mem = s.mem := foldl_keeps _ f h l s

theorem foldl_keeps_of {α β γ : Type} (g : β → γ) {f : β → α → β} (h : ∀ b a, g (f b a) = g b) (l : List α) (b : β) :
    g (l.foldl f b) = g b := by
  induction l generalizing b with
  | nil => rfl
  | cons a l ih => rw [List.foldl_cons, ih, h]

@[simp] theorem foldl_fst_mem {α β : Type} {f : State × β → α → State × β} (h : ∀ x a, (f x a).1.mem = x.1.mem)
    (l : List α)
    (x : State × β) : (l.foldl f x).1.mem = x.1.mem := foldl_keeps_of (fun x : State × β => x.1.mem) h l x

@[simp] theorem foldl_snd_mem {α β : Type} {f : β × State → α → β × State} (h : ∀ x a, (f x a).2.mem = x.2.mem)
    (l : List α)
    (x : β × State) : (l.foldl f x).2.mem = x.2.mem := foldl_keeps_of (fun x : β × State => x.2.mem) h l x

@[simp] theorem foldl_st_mem {α β : Type} {f : Acc β → α → Acc β} (h : ∀ x a, (f x a).st.mem = x.st.mem) (l : List α)
    (x : Acc β) : (l.foldl f x).st.mem = x.st.mem := foldl_keeps_of (fun x : Acc β => x.st.mem) h l x

@[simp] theorem Acc.run_mem (n : Nat) (x : Acc Unit) : (x.run n).mem = x.st.mem := by
  cases x <;> simp [Acc.run]

@[simp] theorem Acc.lookup_mem (n : Nat) (x : Acc Unit) : (x.lookup n).mem = x.st.mem := by
  cases x <;> simp [Acc.lookup]

theorem Acc.mem_of_ok {α : Type} {x : Acc α} {a : α} {s t : State} (h : x.st.mem = s.mem) (e : x = .ok a t) :
    t.mem = s.mem := by
  subst e; exact h

theorem Acc.mem_of_bad {α : Type} {x : Acc α} {st : Nat} {s t : State} (h : x.st.mem = s.mem) (e : x = .bad st t) :
    t.mem = s.mem := by
  subst e; exact h

theorem Acc.mem_of_wait {α : Type} {x : Acc α} {s t : State} (h : x.st.mem = s.mem) (e : x = .wait t) :
    t.mem = s.mem := by
  subst e; exact h

@[simp] theorem coldPower_mem (supply : Bool) (s : State) : (coldPower supply s).mem = s.mem := by
  simp [coldPower]

@[simp] theorem wipeServices_mem (s : State) : (wipeServices s).mem = s.mem := by
  simp [wipeServices]

@[simp] theorem coldServices_mem (s : State) : (coldServices s).mem = s.mem := by
  simp [coldServices]

@[simp] theorem coldFabric_mem (s : State) : (coldFabric s).mem = s.mem := by
  simp [coldFabric]

@[simp] theorem wipeTrans_mem (s : State) : (wipeTrans s).mem = s.mem := by
  simp [wipeTrans]

@[simp] theorem coldTrans_mem (s : State) : (coldTrans s).mem = s.mem := by
  simp [coldTrans]

@[simp] theorem coldCores_mem (s : State) : (coldCores s).mem = s.mem := by
  simp [coldCores]

@[simp] theorem coldFrost_mem (s : State) : (coldFrost s).mem = s.mem := by
  simp [coldFrost]

@[simp] theorem freePlace_mem (p : Place) (s : State) : (freePlace p s).mem = s.mem := by
  simp only [freePlace]
  repeat' split
  all_goals simp

@[simp] theorem setEntry_mem (page : Nat) (e : HomeEntry) (s : State) : (setEntry page e s).mem = s.mem := by
  simp [setEntry]

@[simp] theorem abandonMove_mem (r : Nat) (s : State) : (abandonMove r s).mem = s.mem := by
  simp only [abandonMove]
  repeat' split
  all_goals simp

@[simp] theorem abandonAll_mem (s : State) : (abandonAll s).mem = s.mem := by
  simp only [abandonAll]
  refine foldl_mem (fun s a => ?_) _ _
  repeat' split
  all_goals simp

@[simp] theorem wipeTiers_mem (s : State) : (wipeTiers s).mem = s.mem := by
  simp [wipeTiers]

@[simp] theorem coldTiers_mem (s : State) : (coldTiers s).mem = s.mem := by
  simp [coldTiers]

@[simp] theorem coldBoot_mem (s : State) : (coldBoot s).mem = s.mem := by
  simp [coldBoot]

@[simp] theorem coldState_mem (s : State) : (coldState s).mem = s.mem := by
  simp [coldState]

@[simp] theorem poisonOwned_mem (s : State) : (poisonOwned s).mem = s.mem := by
  simp only [poisonOwned]
  refine foldl_mem (fun s a => ?_) _ _
  all_goals simp

@[simp] theorem drawFree_mem (what : Nat) (s : State) : (drawFree what s).2.mem = s.mem := by
  simp [drawFree]

@[simp] theorem saveCfg_mem (s : State) : (saveCfg s).mem = s.mem := by
  simp [saveCfg]

@[simp] theorem cfgAtReset_mem (s : State) : (cfgAtReset s).mem = s.mem := by
  simp only [cfgAtReset]
  repeat' split
  all_goals simp

@[simp] theorem noteHold_mem (s : State) : (noteHold s).mem = s.mem := by
  simp only [noteHold]
  split <;> simp

@[simp] theorem startTimed_mem (trigger : Nat) (s : State) : (startTimed trigger s).mem = s.mem := by
  simp only [startTimed]
  split <;> simp

@[simp] theorem enterStage_mem (n : Nat) (s : State) : (enterStage n s).mem = s.mem := by
  simp only [enterStage]
  repeat' split
  all_goals simp

@[simp] theorem timedStage_mem (n : Nat) (s : State) : (timedStage n s).mem = s.mem := by
  simp only [timedStage]
  split <;> simp

@[simp] theorem setCq_mem (p f q : Nat) (r : Ring) (s : State) : (setCq p f q r s).mem = s.mem := by
  simp only [setCq]
  split <;> simp

@[simp] theorem cqSignal_mem (p f q : Nat) (s : State) : (cqSignal p f q s).mem = s.mem := by
  simp only [cqSignal]
  split <;> simp

@[simp] theorem writeCpl_mem (p : Nat) (c : Cpl) (spilled : Bool) (s : State) :
    (writeCpl p c spilled s).mem = s.mem := by
  simp [writeCpl]

@[simp] theorem postCpl_mem (p : Nat) (c : Cpl) (s : State) : (postCpl p c s).mem = s.mem := by
  simp only [postCpl]
  split <;> simp

@[simp] theorem takePlace_mem (p : Place) (s : State) : (takePlace p s).mem = s.mem := by
  simp [takePlace]

@[simp] theorem journal_mem (r : JRec) (s : State) : (journal r s).mem = s.mem := by
  simp [journal]

@[simp] theorem homeAt_mem (page : Nat) (p : Place) (s : State) : (homeAt page p s).mem = s.mem := by
  simp only [homeAt]
  split <;> simp

@[simp] theorem checkLowSpace_mem (s : State) : (checkLowSpace s).mem = s.mem := by
  simp only [checkLowSpace]
  repeat' split
  all_goals simp

@[simp] theorem allocHome_mem (page tenant : Nat) (s : State) :
    ∀ t, allocHome page tenant s = some t → t.mem = s.mem := by
  simp only [allocHome]
  split <;> simp

@[simp] theorem writeGate_mem (page tenant : Nat) (s : State) : (writeGate page tenant s).1.mem = s.mem := by
  grind [writeGate, allocHome_mem, journal_mem, State.setTi_mem]

@[simp] theorem writeOk_mem (a n tenant : Nat) (s : State) : (writeOk a n tenant s).1.mem = s.mem := by
  simp only [writeOk]
  repeat' split
  all_goals simp (disch := (intros; repeat' split; all_goals simp))

@[simp] theorem setSlice_mem (t : Nat) (v : FMap SliceLine) (s : State) :
    (setSlice t v s).mem = s.mem := congrArg Prod.fst (setSlice_outside t v s)

@[simp] theorem drawEntropy_mem (s : State) :
    (drawEntropy s).2.mem = s.mem := congrArg Prod.fst (drawEntropy_outside s)

@[simp] theorem drawStart_mem (key : Nat) (s : State) :
    (drawStart key s).2.mem = s.mem := congrArg Prod.fst (drawStart_outside key s)

@[simp] theorem ensurePath_mem (key : Nat) (s : State) : ∀ t, ensurePath key s = some t → t.mem = s.mem := by
  simp only [ensurePath]
  repeat' split
  all_goals simp

@[simp] theorem pushPkt_mem (key : Nat) (pkt : Pkt) (req : Nat) (tenant : Option Nat) (s : State) :
    (pushPkt key pkt req tenant s).mem = s.mem := congrArg Prod.fst (pushPkt_outside key pkt req tenant s)

@[simp] theorem sendPeer_mem (node job window offset : Nat) (m : CohMsg) (s : State) :
    (sendPeer node job window offset m s).mem = s.mem := congrArg Prod.fst
      (sendPeer_outside node job window offset m s)

@[simp] theorem sendMsg_mem (via : Option (Nat × Nat × Nat)) (m : CohMsg) (s : State) :
    (sendMsg via m s).mem = s.mem := congrArg Prod.fst (sendMsg_outside via m s)

@[simp] theorem snoop_mem (req : CohMsg) (mtype agent : Nat) (s : State) : (snoop req mtype agent s).mem = s.mem := by
  simp [snoop]

@[simp] theorem setDir_mem (line : Nat) (e : Option DirEntry) (s : State) : (setDir line e s).mem = s.mem := by
  simp [setDir]

@[simp] theorem dropLine_mem (line : Nat) (s : State) : (dropLine line s).mem = s.mem := by
  simp only [dropLine]
  repeat' split
  all_goals simp (disch := (intros; repeat' split; all_goals simp))

@[simp] theorem sampleAccess_mem (pha : Nat) (s : State) : (sampleAccess pha s).mem = s.mem := by
  simp only [sampleAccess]
  repeat' split
  all_goals simp

@[simp] theorem startProgram_mem (u : Nat) (s : State) : (startProgram u s).mem = s.mem := by
  simp only [startProgram]
  split <;> simp

@[simp] theorem frostWrite_mem (pha : Nat) (s : State) : (frostWrite pha s).mem = s.mem := by
  simp only [frostWrite]
  repeat' split
  all_goals simp

@[simp] theorem markDirty_mem (pha : Nat) (s : State) : (markDirty pha s).mem = s.mem := by
  simp only [markDirty]
  split <;> simp

@[simp] theorem sendBulk_mem (node tc job : Nat) (tenant : Option Nat) (bytes : List Byte) (reqs : List Nat)
    (s : State) : (sendBulk node tc job tenant bytes reqs s).mem = s.mem := congrArg Prod.fst
      (sendBulk_outside node tc job tenant bytes reqs s)

@[simp] theorem flushOpen_mem (node tc job : Nat) (s : State) :
    (flushOpen node tc job s).mem = s.mem := congrArg Prod.fst (flushOpen_outside node tc job s)

@[simp] theorem appendRecord_mem (n : Nat) (r : RemoteReq) (s : State) :
    (appendRecord n r s).mem = s.mem := congrArg Prod.fst (appendRecord_outside n r s)

@[simp] theorem launch_mem (n : Nat) (s : State) : (launch n s).mem = s.mem := congrArg Prod.fst (launch_outside n s)

@[simp] theorem dispatch_mem (n : Nat) (s : State) :
    (dispatch n s).mem = s.mem := congrArg Prod.fst (dispatch_outside n s)

@[simp] theorem sendReq_mem (node : Nat) (origin : Origin) (tenant issuer : Nat) (p : Pkt) (s : State) :
    (sendReq node origin tenant issuer p s).mem = s.mem := congrArg Prod.fst
      (sendReq_outside node origin tenant issuer p s)

@[simp] theorem wipeRound_mem (r : Round) (s : State) : (wipeRound r s).mem = s.mem := by
  simp only [wipeRound]
  repeat' split
  all_goals simp

@[simp] theorem wipeItem_mem (n : Nat) (i : Item) (s : State) : (wipeItem n i s).mem = s.mem := by
  simp only [wipeItem]
  split <;> simp

@[simp] theorem endItems_mem (s : State) : (endItems s).mem = s.mem := by
  simp [endItems]

@[simp] theorem wipeCoh_mem (s : State) : (wipeCoh s).mem = s.mem := by
  simp [wipeCoh]

@[simp] theorem commitJournal_mem (s : State) : (commitJournal s).mem = s.mem := by
  simp [commitJournal]

@[simp] theorem programSlc_mem (u : Nat) (s : State) : (programSlc u s).mem = s.mem := by
  simp [programSlc]

@[simp] theorem frostCommit_mem (s : State) : (frostCommit s).mem = s.mem := by
  simp [frostCommit]

@[simp] theorem wipeCarillon_mem (s : State) : (wipeCarillon s).mem = s.mem := by
  simp [wipeCarillon]

@[simp] theorem raiseLow_mem (node job seq : Nat) (s : State) : (raiseLow node job seq s).mem = s.mem := by
  simp [raiseLow]

@[simp] theorem dropLedger_mem (e : LedEnt) (s : State) : (dropLedger e s).mem = s.mem := by
  simp only [dropLedger]
  split <;> simp

@[simp] theorem dropLedgerOf_mem (sls : List Nat) (s : State) : (dropLedgerOf sls s).mem = s.mem := by
  simp [dropLedgerOf]

@[simp] theorem wipeFabric_mem (s : State) : (wipeFabric s).mem = s.mem := by
  simp [wipeFabric]

@[simp] theorem wipeCores_mem (s : State) : (wipeCores s).mem = s.mem := by
  simp [wipeCores]

@[simp] theorem wipeChip_mem (s : State) : (wipeChip s).mem = s.mem := by
  simp [wipeChip]

@[simp] theorem setSub_mem (n : Nat) (p : SubPort) (s : State) : (setSub n p s).mem = s.mem := by
  simp [setSub]

@[simp] theorem notePeers_mem (s : State) : (notePeers s).mem = s.mem := by
  simp [notePeers]

@[simp] theorem resendAll_mem (key : Nat) (s : State) : (resendAll key s).mem = s.mem := by
  simp [resendAll]

@[simp] theorem resendReq_mem (n : Nat) (s : State) : (resendReq n s).mem = s.mem := by
  simp only [resendReq]
  split <;> simp

@[simp] theorem rebindPath_mem (key : Nat) (s : State) : (rebindPath key s).mem = s.mem := by
  simp only [rebindPath]
  split <;> simp

@[simp] theorem rebindPaths_mem (s : State) : (rebindPaths s).mem = s.mem := by
  simp only [rebindPaths]
  refine foldl_mem (fun s a => ?_) _ _
  repeat' split
  all_goals simp

@[simp] theorem dropLink_mem (n : Nat) (enabled : Bool) (s : State) : (dropLink n enabled s).mem = s.mem := by
  simp only [dropLink]
  split <;> simp

@[simp] theorem stopPorts_mem (s : State) : (stopPorts s).mem = s.mem := by
  simp [stopPorts]

@[simp] theorem detach_mem (s : State) : (detach s).mem = s.mem := by
  simp only [detach]
  split <;> simp

@[simp] theorem resumeDrums_mem (s : State) : (resumeDrums s).mem = s.mem := by
  simp [resumeDrums]

@[simp] theorem heatKit_mem (kits : List (Nat × Int)) (k : Nat) (s : State) : (heatKit kits k s).mem = s.mem := by
  simp only [heatKit]
  split <;> simp

@[simp] theorem heatStack_mem (hbm : List (Nat × Int)) (k : Nat) (s : State) : (heatStack hbm k s).mem = s.mem := by
  simp only [heatStack]
  repeat' split
  all_goals simp

@[simp] theorem drawBootId_mem (s : State) : (drawBootId s).mem = s.mem := by
  simp [drawBootId]

@[simp] theorem loadCfg_mem (s : State) : (loadCfg s).mem = s.mem := by
  simp only [loadCfg]
  split <;> simp

@[simp] theorem startPorts_mem (s : State) : (startPorts s).mem = s.mem := by
  simp [startPorts, apply_ite State.mem]

@[simp] theorem poisonPage_mem (page : Nat) (s : State) : (poisonPage page s).mem = s.mem := by
  simp [poisonPage]

@[simp] theorem checkRebuilt_mem (s : State) : (checkRebuilt s).mem = s.mem := by
  simp [checkRebuilt, apply_ite State.mem]

@[simp] theorem loseModule_mem (m : Nat) (s : State) : (loseModule m s).mem = s.mem := by
  simp only [loseModule]
  split
  · rfl
  rw [checkRebuilt_mem]
  refine (foldl_mem (fun s kv => by split <;> rfl) _ _).trans ?_
  refine (foldl_mem (fun s kv => by split <;> simp) _ _).trans ?_
  refine (foldl_mem (fun s r => ?_) _ _).trans (raise_mem ..)
  repeat' split
  all_goals simp

@[simp] theorem mountSizes_mem (missing : List (Nat × Nat)) (channels : List Nat) (s : State) :
    (mountSizes missing channels s).mem = s.mem := by
  simp [mountSizes]

@[simp] theorem mountGroups_mem (first : Bool) (s : State) : (mountGroups first s).mem = s.mem := by
  simp [mountGroups]

@[simp] theorem markLost_mem (s : State) : (markLost s).mem = s.mem := by
  simp [markLost]

@[simp] theorem writeCheckpoint_mem (s : State) : (writeCheckpoint s).mem = s.mem := by
  simp [writeCheckpoint]

@[simp] theorem setDie_mem (k : Nat) (d : Die) (s : State) : (setDie k d s).mem = s.mem := by
  simp [setDie]

@[simp] theorem loseUnit_mem (u : Nat) (s : State) : (loseUnit u s).mem = s.mem := by
  rw [loseUnit, raise_mem]
  exact foldl_mem (fun _ _ => setPoison_mem _ _) _ _

@[simp] theorem checkRows_mem (g die : Nat) (s : State) : (checkRows g die s).mem = s.mem := by
  simp only [checkRows]
  split <;> simp

@[simp] theorem loseDie_mem (chan die : Nat) (s : State) : (loseDie chan die s).mem = s.mem := by
  simp only [loseDie]
  split <;> simp

@[simp] theorem loseChannel_mem (channel : Nat) (s : State) : (loseChannel channel s).mem = s.mem := by
  simp only [loseChannel]
  split <;> simp

@[simp] theorem setDrum_mem (t : Nat) (d : Drum) (s : State) : (setDrum t d s).mem = s.mem := by
  simp [setDrum]

@[simp] theorem buildMap_mem (s : State) : (buildMap s).mem = s.mem := by
  simp only [buildMap]
  refine foldl_mem (fun s a => ?_) _ _
  repeat' split
  all_goals simp

@[simp] theorem beginRegistration_mem (s : State) : (beginRegistration s).mem = s.mem := by
  simp only [beginRegistration]
  split <;> simp

@[simp] theorem leaveService_mem (reason arg1 : Nat) (s : State) : (leaveService reason arg1 s).mem = s.mem := by
  simp only [leaveService]
  split <;> simp

@[simp] theorem checkHomes_mem (s : State) : (checkHomes s).mem = s.mem := by
  simp only [checkHomes]
  split <;> simp

@[simp] theorem pumpMb_mem (p : Nat) (s : State) : (pumpMb p s).mem = s.mem := by
  simp only [pumpMb]
  repeat' split
  all_goals simp

@[simp] theorem takeMsg_mem (who : Session) (m : OdpMsg) (s : State) :
    ∀ t, takeMsg who m s = some t → t.mem = s.mem := by
  simp only [takeMsg]
  repeat' split
  all_goals simp

@[simp] theorem touchLocks_mem (who : Session) (s : State) : (touchLocks who s).mem = s.mem := by
  simp [touchLocks]

@[simp] theorem sendTo_mem (who : Session) (m : OdpMsg) (s : State) : (sendTo who m s).mem = s.mem := by
  simp only [sendTo]
  repeat' split
  all_goals simp

@[simp] theorem keepResp_mem (who : Session) (m resp : OdpMsg) (s : State) : (keepResp who m resp s).mem = s.mem := by
  simp [keepResp]

@[simp] theorem answerMsg_mem {perform : State → Answer × State} {after : State → State}
    (hp : ∀ t, (perform t).2.mem = t.mem)
    (ha : ∀ t, (after t).mem = t.mem) (who : Session) (m : OdpMsg) (s : State) :
    (answerMsg who m perform after s).mem = s.mem := by
  simp only [answerMsg]
  split
  · rfl
  case h_2 u hu =>
    have hum : u.mem = s.mem := takeMsg_mem _ _ _ _ hu
    repeat' split
    all_goals simp [hp, ha, hum]

@[simp] theorem dropSeg_mem (who : Session) (tid : Nat) (s : State) : (dropSeg who tid s).mem = s.mem := by
  simp [dropSeg]

@[simp] theorem acceptIf_mem {s t : State} (h : t.mem = s.mem) (ok : Bool) (status : Nat) :
    (acceptIf ok status s t).2.mem = s.mem := by
  cases ok <;> simp [acceptIf, h]

@[simp] theorem writeDrained_mem (v : Nat) (s : State) : (writeDrained v s).2.mem = s.mem := by
  grind [writeDrained, acceptIf_mem, State.setTi_mem]

@[simp] theorem noteSave_mem (s : State) : (noteSave s).mem = s.mem := by
  simp [noteSave]

@[simp] theorem storeNum_mem (r : OdRow) (key v : Nat) (s : State) : (storeNum r key v s).mem = s.mem := by
  simp only [storeNum]
  split <;> simp

@[simp] theorem writeReservePct_mem (r : OdRow) (v : Nat) (s : State) : (writeReservePct r v s).2.mem = s.mem := by
  simp [writeReservePct]

@[simp] theorem writeFenceTabor_mem (v : Nat) (s : State) : (writeFenceTabor v s).2.mem = s.mem := by
  simp only [writeFenceTabor]
  repeat' split
  all_goals simp

@[simp] theorem writeFenceClear_mem (v : Nat) (s : State) : (writeFenceClear v s).2.mem = s.mem := by
  simp only [writeFenceClear]
  repeat' split
  all_goals simp

@[simp] theorem writeLastVerify_mem (tenant v : Nat) (s : State) : (writeLastVerify tenant v s).2.mem = s.mem := by
  grind [writeLastVerify, acceptIf_mem, State.setOd_mem]

@[simp] theorem purgeImages_mem (s : State) : (purgeImages s).mem = s.mem := by
  simp only [purgeImages]
  split <;> simp

@[simp] theorem writeGalePrograms_mem (r : OdRow) (v : Nat) (s : State) :
    (writeGalePrograms r v s).2.mem = s.mem := by
  simp only [writeGalePrograms]
  split <;> simp

@[simp] theorem restartPort_mem (p : Nat) (s : State) : (restartPort p s).mem = s.mem := by
  simp [restartPort, apply_ite State.mem]

@[simp] theorem writePortEnable_mem (r : OdRow) (n v : Nat) (s : State) :
    (writePortEnable r n v s).2.mem = s.mem := by
  simp only [writePortEnable]
  split <;> simp

@[simp] theorem writeLanes_mem (r : OdRow) (key n v : Nat) (s : State) : (writeLanes r key n v s).2.mem = s.mem := by
  simp only [writeLanes]
  split <;> simp

@[simp] theorem retrainSub_mem (n : Nat) (s : State) : (retrainSub n s).mem = s.mem := by
  simp only [retrainSub]
  split <;> simp

@[simp] theorem writeRetrain_mem (n v : Nat) (s : State) : (writeRetrain n v s).2.mem = s.mem := by
  simp only [writeRetrain]
  split <;> simp

@[simp] theorem forgetHome_mem (chip : Nat) (s : State) : (forgetHome chip s).2.mem = s.mem := by
  simp [forgetHome]

@[simp] theorem forgetHolder_mem (chip : Nat) (s : State) : (forgetHolder chip s).mem = s.mem := by
  simp [forgetHolder, apply_ite State.mem]

@[simp] theorem modRx_mem (key : Nat) (f : RxPath → RxPath) (s : State) :
    (modRx key f s).mem = s.mem := congrArg Prod.fst (modRx_outside key f s)

@[simp] theorem modOpen_mem (node tc psn : Nat) (f : OpenPkt → OpenPkt) (s : State) :
    (modOpen node tc psn f s).mem = s.mem := congrArg Prod.fst (modOpen_outside node tc psn f s)

@[simp] theorem pushCtl_mem (sub : Nat) (pkt : Pkt) (s : State) :
    (pushCtl sub pkt s).mem = s.mem := congrArg Prod.fst (pushCtl_outside sub pkt s)

@[simp] theorem sendResponse_mem (sub : Nat) (p : Pkt) (status : Nat) (payload : List Byte) (s : State) :
    (sendResponse sub p status payload s).mem = s.mem := congrArg Prod.fst
      (sendResponse_outside sub p status payload s)

@[simp] theorem bumpCounter_mem (c n : Nat) (s : State) :
    (bumpCounter c n s).mem = s.mem := congrArg Prod.fst (bumpCounter_outside c n s)

@[simp] theorem notePrepared_mem (p : Pkt) (old : Nat) (s : State) :
    (notePrepared p old s).mem = s.mem := congrArg Prod.fst (notePrepared_outside p old s)

@[simp] theorem endPkt_mem (node tc psn : Nat) (s : State) :
    (endPkt node tc psn s).mem = s.mem := congrArg Prod.fst (endPkt_outside node tc psn s)

@[simp] theorem ucRequest_mem (line mtype tenant : Nat) (who : CohFor) (ledger : Option (Nat × Nat × Nat))
    (m : CohMsg) (s : State) : (ucRequest line mtype tenant who ledger m s).mem = s.mem := congrArg Prod.fst
      (ucRequest_outside line mtype tenant who ledger m s)

@[simp] theorem postRead_mem (node tc psn tenant a len : Nat) (s : State) :
    (postRead node tc psn tenant a len s).2.mem = s.mem := congrArg Prod.fst
      (postRead_outside node tc psn tenant a len s)

@[simp] theorem interceptWrite_mem (pha : Nat) (whole : Bool) (bytes : List Byte) (w : Writer) (zero : Bool)
    (s : State) : (interceptWrite pha whole bytes w zero s).mem = s.mem := congrArg Prod.fst
      (interceptWrite_outside pha whole bytes w zero s)

@[simp] theorem postWrite_mem (node tc psn tenant a : Nat) (bytes : List Byte) (s : State) :
    (postWrite node tc psn tenant a bytes s).2.mem = s.mem := congrArg Prod.fst
      (postWrite_outside node tc psn tenant a bytes s)

@[simp] theorem nextRecord_mem (node tc psn x3 : Nat) (x4 : State) :
    (nextRecord node tc psn x3 x4).mem = x4.mem := congrArg Prod.fst (nextRecord_outside node tc psn x3 x4)

@[simp] theorem endRecordOf_mem (node tc psn : Nat) (s : State) : (endRecordOf node tc psn s).mem = s.mem := by
  simp only [endRecordOf]
  repeat' split
  all_goals simp

@[simp] theorem pieceDone_mem (node tc psn place status : Nat) (data : List Byte) (s : State) :
    (pieceDone node tc psn place status data s).mem = s.mem := by
  simp only [pieceDone]
  repeat' split
  all_goals simp

@[simp] theorem ptcDone_mem (ent : Nat) (s : State) :
    (ptcDone ent s).mem = s.mem := congrArg Prod.fst (ptcDone_outside ent s)

@[simp] theorem ptcDoneAll_mem (ents : List Nat) (s : State) :
    (ptcDoneAll ents s).mem = s.mem := congrArg Prod.fst (ptcDoneAll_outside ents s)

@[simp] theorem charge_mem (t : Nat) (s : State) : (charge t s).mem = s.mem := congrArg Prod.fst (charge_outside t s)

@[simp] theorem setTab_mem (t : Nat) (v : Tabor) (s : State) :
    (setTab t v s).mem = s.mem := congrArg Prod.fst (setTab_outside t v s)

@[simp] theorem modCtx_mem (t id : Nat) (f : Ctx → Ctx) (s : State) :
    (modCtx t id f s).mem = s.mem := congrArg Prod.fst (modCtx_outside t id f s)

@[simp] theorem schedule_mem (t : Nat) (s : State) :
    (schedule t s).mem = s.mem := congrArg Prod.fst (schedule_outside t s)

@[simp] theorem settleCtx_mem (t id : Nat) (s : State) :
    (settleCtx t id s).mem = s.mem := congrArg Prod.fst (settleCtx_outside t id s)

@[simp] theorem leave_mem (t id : Nat) (st : CtxState) (s : State) :
    (leave t id st s).mem = s.mem := congrArg Prod.fst (leave_outside t id st s)

@[simp] theorem endCtx_mem (t id status : Nat) (s : State) :
    (endCtx t id status s).mem = s.mem := congrArg Prod.fst (endCtx_outside t id status s)

@[simp] theorem pendDone_mem (t id tag status : Nat) (data : List Byte) (s : State) :
    (pendDone t id tag status data s).mem = s.mem := congrArg Prod.fst (pendDone_outside t id tag status data s)

@[simp] theorem failLine_mem (t key status : Nat) (s : State) : (failLine t key status s).mem = s.mem := by
  simp only [failLine]
  refine foldl_mem (fun s a => ?_) _ _
  repeat' split
  all_goals simp

@[simp] theorem ucDone_mem (r : AgentReq) (status : Nat) (data : List Byte) (s : State) :
    (ucDone r status data s).mem = s.mem := by
  simp only [ucDone]
  repeat' split
  all_goals simp

@[simp] theorem dropReq_mem (r : AgentReq) (s : State) : (dropReq r s).mem = s.mem := by
  simp [dropReq]

@[simp] theorem useNo_mem (s : State) : (useNo s).2.mem = s.mem := congrArg Prod.fst (useNo_outside s)

@[simp] theorem answer_mem (req : CohMsg) (mtype status : Nat) (payload : List Byte) (s : State) :
    (answer req mtype status payload s).mem = s.mem := by
  simp [answer]

@[simp] theorem setWbuf_mem (t : Nat) (v : FMap SliceLine) (s : State) : (setWbuf t v s).mem = s.mem := by
  simp [setWbuf]

@[simp] theorem evictLine_mem (t key : Nat) (s : State) : (evictLine t key s).mem = s.mem := by
  simp only [evictLine]
  repeat' split
  all_goals simp

@[simp] theorem installLine_mem (t key : Nat) (st : LState) (data : List Byte) (tenant : Option Nat) (s : State) :
    (installLine t key st data tenant s).mem = s.mem := by
  simp only [installLine]
  repeat' split
  all_goals simp

@[simp] theorem takeHome_mem (line : Nat) (data : List Byte) (tenant : Option Nat) (s : State) :
    (takeHome line data tenant s).mem = s.mem := by
  simp [takeHome]

@[simp] theorem ledgerAnswer_mem (led : Nat × Nat × Nat) (s : State) : (ledgerAnswer led s).2.mem = s.mem := by
  simp only [ledgerAnswer]
  repeat' split
  all_goals simp

@[simp] theorem ledgerRoom_mem (s : State) : (ledgerRoom s).2.mem = s.mem := by
  simp only [ledgerRoom]
  repeat' split
  all_goals simp

@[simp] theorem refuseBackoff_mem (m : CohMsg) (s : State) : (refuseBackoff m s).mem = s.mem := by
  simp only [refuseBackoff]
  split <;> simp

@[simp] theorem ledgerPressure_mem (s : State) : (ledgerPressure s).mem = s.mem := by
  simp only [ledgerPressure]
  split <;> simp

@[simp] theorem ledgerRecord_mem (led : Nat × Nat × Nat) (value status sliver : Nat) (s : State) :
    (ledgerRecord led value status sliver s).mem = s.mem := by
  simp only [ledgerRecord]
  split <;> simp

@[simp] theorem performAtom_mem (m : CohMsg) (data : List Byte) (s : State) :
    (performAtom m data s).2.mem = s.mem := by
  grind [performAtom, answer_mem, ledgerAnswer_mem, ledgerRoom_mem, refuseBackoff_mem, ledgerPressure_mem, ledgerRecord_mem]

@[simp] theorem takeIndex_mem (chip : Nat) (s : State) : (takeIndex chip s).mem = s.mem := by
  simp only [takeIndex]
  split <;> simp

@[simp] theorem formMsg_mem (node mtype : Nat) (ids : List Nat) (s : State) :
    (formMsg node mtype ids s).mem = s.mem := by
  simp [formMsg]

@[simp] theorem hello_mem (f : Forming) (s : State) : (hello f s).mem = s.mem := by
  simp [hello]

@[simp] theorem formDomain_mem (list : List Nat) (s : State) : (formDomain list s).mem = s.mem := by
  simp [formDomain]

@[simp] theorem propose_mem (f : Forming) (s : State) : (propose f s).mem = s.mem := by
  simp only [propose]
  repeat' split
  all_goals simp

@[simp] theorem releaseStale_mem (s : State) : (releaseStale s).mem = s.mem := by
  simp [releaseStale]

@[simp] theorem retryNoPath_mem (s : State) : (retryNoPath s).mem = s.mem := by
  simp [retryNoPath]

@[simp] theorem bringCredits_mem (sub t : Nat) (s : State) : (bringCredits sub t s).mem = s.mem := by
  simp only [bringCredits]
  split <;> simp

@[simp] theorem writeTenantShaper_mem (b : List Byte) (s : State) : (writeTenantShaper b s).2.mem = s.mem := by
  simp only [writeTenantShaper]
  split <;> simp

@[simp] theorem writeClassShaper_mem (port : Nat) (b : List Byte) (s : State) :
    (writeClassShaper port b s).2.mem = s.mem := by
  grind [writeClassShaper, bringCredits_mem, setSub_mem, State.setOd_mem, noteSave_mem, State.setBt_mem]

@[simp] theorem storeOct_mem (r : OdRow) (key : Nat) (b : List Byte) (s : State) :
    (storeOct r key b s).mem = s.mem := by
  simp only [storeOct]
  split <;> simp

@[simp] theorem writeWeights_mem (r : OdRow) (port : Nat) (b : List Byte) (s : State) :
    (writeWeights r port b s).2.mem = s.mem := by
  grind [writeWeights, storeOct_mem, setSub_mem]

@[simp] theorem writeEventOverrun_mem (v : Nat) (s : State) : (writeEventOverrun v s).2.mem = s.mem := by
  grind [writeEventOverrun, acceptIf_mem, State.setRc_mem]

@[simp] theorem writeResetRequest_mem (v : Nat) (s : State) : (writeResetRequest v s).2.mem = s.mem := by
  simp [writeResetRequest]

@[simp] theorem writeTakeOut_mem (v : Nat) (s : State) : (writeTakeOut v s).2.mem = s.mem := by
  simp only [writeTakeOut]
  split <;> simp

@[simp] theorem writeMgmtMode_mem (r : OdRow) (v : Nat) (s : State) : (writeMgmtMode r v s).2.mem = s.mem := by
  simp [writeMgmtMode]

@[simp] theorem writeRestore_mem (v : Nat) (s : State) : (writeRestore v s).2.mem = s.mem := by
  simp only [writeRestore]
  repeat' split
  all_goals simp

@[simp] theorem writePeers_mem (r : OdRow) (b : List Byte) (s : State) : (writePeers r b s).2.mem = s.mem := by
  simp only [writePeers]
  split <;> simp

@[simp] theorem writeTriggerLost_mem (v : Nat) (s : State) : (writeTriggerLost v s).2.mem = s.mem := by
  grind [writeTriggerLost, acceptIf_mem, State.setOd_mem]

@[simp] theorem writeScriptImage_mem (r : OdRow) (n : Nat) (b : List Byte) (s : State) :
    (writeScriptImage r n b s).2.mem = s.mem := by
  simp only [writeScriptImage]
  repeat' split
  all_goals simp

@[simp] theorem writeTrigger_mem (r : OdRow) (n v : Nat) (s : State) : (writeTrigger r n v s).2.mem = s.mem := by
  simp [writeTrigger]

@[simp] theorem writeTriggerArg_mem (r : OdRow) (n v : Nat) (s : State) :
    (writeTriggerArg r n v s).2.mem = s.mem := by
  simp [writeTriggerArg]

@[simp] theorem writeScriptEnable_mem (r : OdRow) (n v : Nat) (s : State) :
    (writeScriptEnable r n v s).2.mem = s.mem := by
  simp only [writeScriptEnable]
  repeat' split
  all_goals simp

@[simp] theorem writeFwStage_mem (b : List Byte) (s : State) : (writeFwStage b s).2.mem = s.mem := by
  simp only [writeFwStage]
  repeat' split
  all_goals simp

@[simp] theorem writeFwCommit_mem (v : Nat) (s : State) : (writeFwCommit v s).2.mem = s.mem := by
  simp only [writeFwCommit]
  repeat' split
  all_goals simp

@[simp] theorem writeSvnCommit_mem (v : Nat) (s : State) : (writeSvnCommit v s).2.mem = s.mem := by
  simp only [writeSvnCommit]
  repeat' split
  all_goals simp

@[simp] theorem writeRegAck_mem (v : Nat) (s : State) : (writeRegAck v s).2.mem = s.mem := by
  simp only [writeRegAck]
  split <;> simp

@[simp] theorem writeRevoke_mem (v : Nat) (s : State) : (writeRevoke v s).2.mem = s.mem := by
  simp only [writeRevoke]
  repeat' split
  all_goals simp

@[simp] theorem writeFabricKey_mem (b : List Byte) (s : State) : (writeFabricKey b s).2.mem = s.mem := by
  grind [writeFabricKey, acceptIf_mem, State.setBt_mem]

@[simp] theorem writeKeyActive_mem (r : OdRow) (v : Nat) (s : State) : (writeKeyActive r v s).2.mem = s.mem := by
  simp only [writeKeyActive]
  split <;> simp

@[simp] theorem writeDebugUnlock_mem (b : List Byte) (s : State) : (writeDebugUnlock b s).2.mem = s.mem := by
  grind [writeDebugUnlock, acceptIf_mem, State.setBt_mem]

@[simp] theorem plainWrite_mem (r : OdRow) (index v : Nat) (b : List Byte) (s : State) :
    (plainWrite r index v b s).2.mem = s.mem := by
  simp only [plainWrite]
  split <;> simp

@[simp] theorem fireWrite_mem (oref : Nat) (b : List Byte) (s : State) : (fireWrite oref b s).mem = s.mem := by
  simp [fireWrite, apply_ite State.mem]

@[simp] theorem spdmError_mem (port code : Nat) (s : State) : (spdmError port code s).mem = s.mem := by
  simp [spdmError]

@[simp] theorem spdmServe_mem {k : State → State} (hk : ∀ t, (k t).mem = t.mem) (port : Nat) (s : State) :
    (spdmServe port s k).mem = s.mem := by
  simp only [spdmServe]
  repeat' split
  all_goals simp [hk]

@[simp] theorem spdmAgreed_mem {k : State → State} (hk : ∀ t, (k t).mem = t.mem) (port ver : Nat) (s : State) :
    (spdmAgreed port ver s k).mem = s.mem := by
  refine spdmServe_mem (fun t => ?_) port s
  repeat' split
  all_goals simp [hk]

@[simp] theorem drumBegin_mem (t : Nat) (s : State) : (drumBegin t s).mem = s.mem := by
  simp only [drumBegin]
  split <;> simp

@[simp] theorem startMove_mem (page tier : Nat) (s : State) : (startMove page tier s).mem = s.mem := by
  simp only [startMove]
  repeat' split
  all_goals simp

@[simp] theorem startPlanned_mem (x0 : Nat) (x1 : State) : (startPlanned x0 x1).mem = x1.mem := by
  induction x0 generalizing x1 with
  | zero => rfl
  | succ n ih =>
    simp only [startPlanned]
    repeat' split
    all_goals simp [ih]

@[simp] theorem remap_mem (from_ : Nat → FrostLoc → Bool) (moved : List (Nat × FrostLoc)) (s : State) :
    (remap from_ moved s).mem = s.mem := by
  simp only [remap]
  refine foldl_mem (fun s a => ?_) _ _
  repeat' split
  all_goals simp

@[simp] theorem rehomePage_mem (page : Nat) (s : State) : (rehomePage page s).mem = s.mem := by
  simp only [rehomePage]
  repeat' split
  all_goals simp

@[simp] theorem useSpares_mem (g n : Nat) (s : State) : (useSpares g n s).mem = s.mem := by
  simp only [useSpares]
  repeat' split
  all_goals simp

@[simp] theorem blockFailed_mem (chan die : Nat) (s : State) : (blockFailed chan die s).mem = s.mem := by
  simp only [blockFailed]
  split <;> simp

@[simp] theorem addRef_mem (tier slot : Nat) (s : State) : (addRef tier slot s).mem = s.mem := by
  simp [addRef]

@[simp] theorem startUnitRead_mem (u : Nat) (s : State) : (startUnitRead u s).mem = s.mem := by
  simp only [startUnitRead]
  repeat' split
  all_goals simp

@[simp] theorem frostRead_mem (pha : Nat) (s : State) : (frostRead pha s).mem = s.mem := by
  simp only [frostRead]
  split <;> simp

@[simp] theorem beginHome_mem (line requester : Nat) (high : Bool) (s : State) :
    (beginHome line requester high s).2.mem = s.mem := by
  simp only [beginHome]
  repeat' split
  all_goals simp

@[simp] theorem openTxn_mem (req : CohMsg) (snoops : List (Nat × Nat)) (home : Bool) (more : List CohMsg) (s : State)
    : (openTxn req snoops home more s).mem = s.mem := by
  simp only [openTxn]
  split <;> simp

@[simp] theorem recallLine_mem (line : Nat) (s : State) : (recallLine line s).mem = s.mem := by
  simp only [recallLine]
  split <;> simp

@[simp] theorem recallWindow_mem (w : Rwt) (s : State) : (recallWindow w s).mem = s.mem := by
  simp [recallWindow, apply_ite State.mem]

@[simp] theorem tryFree_mem (key : Nat) (s : State) : (tryFree key s).mem = s.mem := by
  simp only [tryFree]
  repeat' split
  all_goals simp

@[simp] theorem passKeys_mem (tenant : Nat) (s : State) : (passKeys tenant s).mem = s.mem := by
  simp only [passKeys]
  refine foldl_mem (fun s a => ?_) _ _
  repeat' split
  all_goals simp

@[simp] theorem releasePlace_mem (page : Nat) (p : Place) (s : State) : (releasePlace page p s).mem = s.mem := by
  simp only [releasePlace]
  repeat' split
  all_goals simp

@[simp] theorem drainReqRing_mem (port x1 : Nat) (x2 : State) :
    (drainReqRing port x1 x2).mem = x2.mem := congrArg Prod.fst (drainReqRing_outside port x1 x2)

@[simp] theorem pushReqEnt_mem (port : Nat) (e : ReqEnt) (s : State) :
    (pushReqEnt port e s).mem = s.mem := congrArg Prod.fst (pushReqEnt_outside port e s)

@[simp] theorem freeTenant_mem (tenant : Nat) (s : State) : (freeTenant tenant s).mem = s.mem := by
  simp [freeTenant]

@[simp] theorem markRun_mem (domain index : Nat) (s : State) : (markRun domain index s).mem = s.mem := by
  simp [markRun]

@[simp] theorem dropRef_mem (tier slot : Nat) (s : State) : (dropRef tier slot s).mem = s.mem := by
  simp [dropRef]

@[simp] theorem endHome_mem (ref : Option (Nat × Nat)) (s : State) : (endHome ref s).mem = s.mem := by
  simp only [endHome]
  split <;> simp

@[simp] theorem stopTxn_mem (line : Nat) (x : Txn) (s : State) : (stopTxn line x s).mem = s.mem := by
  simp only [stopTxn]
  repeat' split
  all_goals simp

@[simp] theorem dropAdmitted_mem (sls : List Nat) (s : State) : (dropAdmitted sls s).mem = s.mem := by
  simp [dropAdmitted]

@[simp] theorem modRound_mem (k : Nat) (f : Round → Round) (s : State) : (modRound k f s).mem = s.mem := by
  simp [modRound]

@[simp] theorem modCopy_mem (n : Nat) (f : Copy → Copy) (s : State) : (modCopy n f s).mem = s.mem := by
  simp [modCopy]

@[simp] theorem settleContribute_mem (n : Nat) (s : State) : (settleContribute n s).mem = s.mem := by
  simp only [settleContribute]
  repeat' split
  all_goals simp

@[simp] theorem writerDone_mem (w : Writer) (status : Nat) (s : State) : (writerDone w status s).mem = s.mem := by
  simp only [writerDone]
  split <;> simp

@[simp] theorem settleRound_mem (k : Nat) (s : State) : (settleRound k s).mem = s.mem := by
  simp only [settleRound]
  repeat' split
  all_goals simp

@[simp] theorem abortCtx_mem (t id : Nat) (s : State) : (abortCtx t id s).mem = s.mem := by
  simp only [abortCtx]
  split <;> simp

@[simp] theorem endContexts_mem (t : Nat) (s : State) : (endContexts t s).mem = s.mem := by
  simp [endContexts]

@[simp] theorem chooseHomes_mem (t : Nat) (l : List Nat) (s : State) : (chooseHomes t l s).mem = s.mem := by
  induction l generalizing s with
  | nil => rfl
  | cons a l ih =>
    rw [chooseHomes, ih]
    split <;> rfl

@[simp] theorem loseChime_mem (kit : Nat) (s : State) : (loseChime kit s).mem = s.mem := by
  simp only [loseChime]
  split <;> simp

@[simp] theorem markFenced_mem (t : Nat) (s : State) : (markFenced t s).mem = s.mem := by
  simp only [markFenced]
  split <;> simp

@[simp] theorem rehome_mem (sl kit : Nat) (home : Option (Nat × Bool)) (s : State) :
    (rehome sl kit home s).mem = s.mem := by
  simp only [rehome]
  repeat' split
  all_goals simp

@[simp] theorem seedStreams_mem (tabor : Nat) (s : State) : (seedStreams tabor s).2.mem = s.mem := by
  simp only [seedStreams]
  repeat' split
  all_goals (try simp)

@[simp] theorem wakeCtx_mem (t : Nat) (c : Ctx) (s : State) : (wakeCtx t c s).mem = s.mem := by
  simp only [wakeCtx]
  split <;> simp

@[simp] theorem performPkt_mem (node tc psn : Nat) (s : State) :
    (performPkt node tc psn s).mem = s.mem := congrArg Prod.fst (performPkt_outside node tc psn s)

@[simp] theorem galeNext_mem (port x1 : Nat) (x2 : State) :
    (galeNext port x1 x2).mem = x2.mem := congrArg Prod.fst (galeNext_outside port x1 x2)

@[simp] theorem galeDone_mem (port : Nat) (failed : Option Nat) (s : State) :
    (galeDone port failed s).mem = s.mem := congrArg Prod.fst (galeDone_outside port failed s)

@[simp] theorem scriptDone_mem (status : Nat) (s : State) :
    (scriptDone status s).mem = s.mem := congrArg Prod.fst (scriptDone_outside status s)

@[simp] theorem failProc_mem (p : Proc) (c : Ctx) (status : Nat) (s : State) :
    (failProc p c status s).mem = s.mem := congrArg Prod.fst (failProc_outside p c status s)

@[simp] theorem putProc_mem (p : Proc) (c : Ctx) (s : State) :
    (putProc p c s).mem = s.mem := congrArg Prod.fst (putProc_outside p c s)

@[simp] theorem finishOp_mem (p : Proc) (c : Ctx) (s : State) :
    (finishOp p c s).mem = s.mem := congrArg Prod.fst (finishOp_outside p c s)

@[simp] theorem failNf_mem (p : Proc) (c : Ctx) (nf : Bool) (status : Nat) (s : State) :
    (failNf p c nf status s).mem = s.mem := congrArg Prod.fst (failNf_outside p c nf status s)

@[simp] theorem pumpMisses_mem (tenant x1 : Nat) (x2 : State) :
    (pumpMisses tenant x1 x2).mem = x2.mem := congrArg Prod.fst (pumpMisses_outside tenant x1 x2)

@[simp] theorem noteMiss_mem (tenant pva : Nat) (write : Bool) (task : Task) (s : State) :
    (noteMiss tenant pva write task s).1.mem = s.mem := congrArg Prod.fst (noteMiss_outside tenant pva write task s)

@[simp] theorem addPend_mem (c : Ctx) (kind : PendKind) (parts : List Part) (remote : Bool)
    (win : Option (Nat × Nat × Nat)) (nf acq : Bool) (ents : List Nat) (s : State) :
      (addPend c kind parts remote win nf acq ents s).2.mem = s.mem := congrArg Prod.fst (addPend_outside c kind parts remote win nf acq ents s)

@[simp] theorem ptcAdmit_mem (ent : Nat) (s : State) :
    (ptcAdmit ent s).mem = s.mem := congrArg Prod.fst (ptcAdmit_outside ent s)

@[simp] theorem ptcAdmitAll_mem (ents : List Nat) (s : State) :
    (ptcAdmitAll ents s).mem = s.mem := congrArg Prod.fst (ptcAdmitAll_outside ents s)

@[simp] theorem markEffect_mem (item : Nat) (s : State) :
    (markEffect item s).mem = s.mem := congrArg Prod.fst (markEffect_outside item s)

@[simp] theorem agentSend_mem (t chip line mtype tenant : Nat) (who : CohFor) (via : Option (Nat × Nat × Nat))
    (m : CohMsg) (s : State) : (agentSend t chip line mtype tenant who via m s).mem = s.mem := congrArg Prod.fst
      (agentSend_outside t chip line mtype tenant who via m s)

@[simp] theorem wakeOne_mem (t key id tag : Nat) (s : State) :
    (wakeOne t key id tag s).mem = s.mem := congrArg Prod.fst (wakeOne_outside t key id tag s)

@[simp] theorem needLine_mem (t id tag key tenant : Nat) (k : PendKind) (via : Option (Nat × Nat × Nat)) (s : State) :
    (needLine t id tag key tenant k via s).mem = s.mem := congrArg Prod.fst
      (needLine_outside t id tag key tenant k via s)

@[simp] theorem startParts_mem (t id tag tenant : Nat) (k : PendKind) (own : Bool)
    (vias : Part → Option (Nat × Nat × Nat)) (parts : List Part) (s : State) :
      (startParts t id tag tenant k own vias parts s).mem = s.mem := congrArg Prod.fst (startParts_outside t id tag tenant k own vias parts s)

@[simp] theorem rangeAccess_mem (t : Nat) (c : Ctx) (a : RangeAcc) (s : State) :
    (rangeAccess t c a s).mem = s.mem := congrArg Prod.fst (rangeAccess_outside t c a s)

@[simp] theorem winAccess_mem (t : Nat) (nf : Bool) (w : Nat) (c : Ctx) (a : WinAcc) (s : State) :
    (winAccess t nf w c a s).mem = s.mem := congrArg Prod.fst (winAccess_outside t nf w c a s)

@[simp] theorem postCopy_mem (origin : Origin) (tenant : Nat) (w : List Nat) (s : State) :
    ∀ x, postCopy origin tenant w s = .ok x → x.2.mem = s.mem := by
  simp only [postCopy]
  repeat' split
  all_goals simp

@[simp] theorem flushOf_mem (c : Ctx) (s : State) :
    (flushOf c s).mem = s.mem := congrArg Prod.fst (flushOf_outside c s)

@[simp] theorem macsecDrop_mem (n : Nat) (s : State) : (macsecDrop n s).mem = s.mem := by
  simp only [macsecDrop]
  split <;> simp

@[simp] theorem xltMalformed_mem (n : Nat) (s : State) : (xltMalformed n s).mem = s.mem := by
  simp only [xltMalformed]
  split <;> simp

@[simp] theorem rxHeader_mem (f : RxFrame) (s : State) : (rxHeader f s).1.mem = s.mem := by
  simp only [rxHeader]
  repeat' split
  all_goals simp

@[simp] theorem setRx_mem (key : Nat) (p : RxPath) (s : State) : (setRx key p s).mem = s.mem := by
  simp [setRx]

@[simp] theorem sendApplied_mem (key : Nat) (s : State) : (sendApplied key s).mem = s.mem := by
  simp only [sendApplied]
  repeat' split
  all_goals simp

@[simp] theorem sendAck_mem (key : Nat) (s : State) : (sendAck key s).mem = s.mem := by
  simp only [sendAck]
  split <;> simp

@[simp] theorem countPkt_mem (key : Nat) (f : RxFrame) (p : RxPath) (s : State) :
    (countPkt key f p s).mem = s.mem := by
  simp only [countPkt]
  split <;> simp

@[simp] theorem sendNak_mem (key : Nat) (f : RxFrame) (p : RxPath) (s : State) : (sendNak key f p s).mem = s.mem := by
  simp only [sendNak]
  split <;> simp

@[simp] theorem rxPsn_mem (f : RxFrame) (s : State) : (rxPsn f s).1.mem = s.mem := by
  simp only [rxPsn]
  repeat' split
  all_goals simp

@[simp] theorem cohTake_mem (mtype : Nat) (m : CohMsg) (s : State) : (cohTake mtype m s).1.mem = s.mem := by
  grind [cohTake, State.setCh_mem, rxHeader_mem, rxPsn_mem, sendResponse_mem]

@[simp] theorem joinComb_mem (m : CohMsg) (s : State) : ∀ t, joinComb m s = some t → t.mem = s.mem := by
  simp only [joinComb]
  repeat' split
  all_goals simp

@[simp] theorem serveOpen_serveHome_mem (m : CohMsg) (x1 : Option DirEntry) (more : List CohMsg) (s : State) :
    (serveOpen.serveHome m x1 more s).mem = s.mem := by
  simp only [serveOpen.serveHome]
  split <;> simp

@[simp] theorem serveOpen_mem (m : CohMsg) (more : List CohMsg) (s : State) : (serveOpen m more s).mem = s.mem := by
  simp only [serveOpen]
  repeat' split
  all_goals simp

@[simp] theorem serve_mem (m : CohMsg) (s : State) : (serve m s).mem = s.mem := by
  simp only [serve]
  split
  · split <;> simp
  · split
    · split <;> simp
    · split
      · split <;> simp
      · split
        · simp
        case h_2 led _ =>
          have hl := ledgerAnswer_mem led (sampleAccess (lineAddr m.line) (s.setCh { s.ch with refused := s.ch.refused.erase (refKey m) }))
          split
          case h_1 u hu => rw [hu] at hl; split <;> simpa using hl
          case h_2 u hu =>
            rw [hu] at hl
            have hr := ledgerRoom_mem u
            split <;> simp_all

@[simp] theorem homeArrive_mem (m : CohMsg) (s : State) : (homeArrive m s).mem = s.mem := by
  grind [homeArrive, answer_mem, joinComb_mem, serve_mem, refuseBackoff_mem, useNo_mem, State.setCh_mem]

@[simp] theorem homeReq_mem (mtype : Nat) (right : Option Nat) (m : CohMsg) (s : State) :
    (homeReq mtype right m s).mem = s.mem := by
  have hm := cohTake_mem mtype m s
  simp only [homeReq]
  split
  case h_1 u hu => rw [hu] at hm; exact hm
  case h_2 u hu =>
    rw [hu] at hm
    repeat' split
    all_goals simpa using hm

@[simp] theorem snoopAnswer_mem (m : CohMsg) (t mtype : Nat) (dirty : Bool) (payload : List Byte) (s : State) :
    (snoopAnswer m t mtype dirty payload s).mem = s.mem := by
  simp [snoopAnswer]

@[simp] theorem setAgentLine_mem (t key : Nat) (wb : Bool) (l : SliceLine) (st : Option LState) (s : State) :
    (setAgentLine t key wb l st s).mem = s.mem := by
  simp only [setAgentLine]
  repeat' split
  all_goals simp

@[simp] theorem forwardLine_mem (m : CohMsg) (t mtype : Nat) (dirty : Bool) (data : List Byte) (s : State) :
    (forwardLine m t mtype dirty data s).mem = s.mem := by
  simp [forwardLine]

@[simp] theorem agentSnoop_mem (mtype : Nat) (m : CohMsg) (s : State) : (agentSnoop mtype m s).mem = s.mem := by
  grind [agentSnoop, cohTake_mem, State.setCh_mem, snoopAnswer_mem, setAgentLine_mem, forwardLine_mem]

@[simp] theorem learnLine_mem (r : AgentReq) (m : CohMsg) (s : State) : (learnLine r m s).mem = s.mem := by
  simp only [learnLine]
  split <;> simp

@[simp] theorem releaseHeld_mem (r : AgentReq) (s : State) : (releaseHeld r s).mem = s.mem := by
  simp [releaseHeld]

@[simp] theorem wakeLine_mem (t key : Nat) (s : State) : (wakeLine t key s).mem = s.mem := by
  simp [wakeLine]

@[simp] theorem takeGrant_mem (mtype : Nat) (m : CohMsg) (s : State) : (takeGrant mtype m s).mem = s.mem := by
  grind [takeGrant, cohTake_mem, learnLine_mem, dropReq_mem, installLine_mem, evictLine_mem, releaseHeld_mem, wakeLine_mem]

@[simp] theorem formTake_mem (mtype : Nat) (m : CohMsg) (s : State) : (formTake mtype m s).1.mem = s.mem := by
  simp only [formTake]
  split <;> simp

@[simp] theorem commitList_mem (list : List Nat) (s : State) : (commitList list s).mem = s.mem := by
  simp [commitList]

@[simp] theorem enterLink_mem (n width mac : Nat) (s : State) : (enterLink n width mac s).mem = s.mem := by
  simp [enterLink]

@[simp] theorem startFrame_mem (sub c : Nat) (tenant : Option Nat) (charge : Nat) (f : FrameOut) (s : State) :
    (startFrame sub c tenant charge f s).mem = s.mem := by
  simp [startFrame]

@[simp] theorem sendPkt_mem (sub : Nat) (h : Nat × TxPkt) (s : State) : (sendPkt sub h s).mem = s.mem := by
  simp [sendPkt]

@[simp] theorem served_mem (sub c : Nat) (h : Nat × TxPkt) (s : State) : (served sub c h s).mem = s.mem := by
  simp [served]

@[simp] theorem selectFrame_mem (sub : Nat) (s : State) : (selectFrame sub s).mem = s.mem := by
  simp only [selectFrame]
  repeat' split
  all_goals simp

@[simp] theorem startPkt_mem (sub : Nat) (o : OpenPkt) (s : State) : (startPkt sub o s).mem = s.mem := by
  simp only [startPkt]
  split <;> simp

@[simp] theorem rxRequest_mem (kind : Nat) (f : RxFrame) (s : State) : (rxRequest kind f s).mem = s.mem := by
  grind [rxRequest, rxHeader_mem, rxPsn_mem, modRx_mem, endPkt_mem, startPkt_mem]

@[simp] theorem notifyOrigin_mem (n : Nat) (o : Origin) (status : Nat) (data : List Byte) (s : State) :
    (notifyOrigin n o status data s).mem = s.mem := by
  simp only [notifyOrigin]
  repeat' split
  all_goals simp

@[simp] theorem finishReq_mem (n status : Nat) (data : List Byte) (s : State) :
    (finishReq n status data s).mem = s.mem := by
  simp only [finishReq]
  repeat' split
  all_goals simp

@[simp] theorem bulkReplies_mem (node x1 : Nat) (x2 : List Byte) (x3 : State) :
    (bulkReplies node x1 x2 x3).mem = x3.mem := by
  induction x1 generalizing x2 x3 with
  | zero => rfl
  | succ n ih =>
    simp only [bulkReplies]
    repeat' split
    all_goals (try simp [ih])

@[simp] theorem ctlTake_mem (kind : Nat) (f : RxFrame) (s : State) : (ctlTake kind f s).1.mem = s.mem := by
  simp only [ctlTake]
  split <;> simp

@[simp] theorem cohRefused_mem (p : Pkt) (s : State) : (cohRefused p s).mem = s.mem := by
  simp only [cohRefused]
  repeat' split
  all_goals simp

@[simp] theorem staleReq_mem (n : Nat) (r : RemoteReq) (p : Pkt) (s : State) : (staleReq n r p s).mem = s.mem := by
  simp only [staleReq]
  repeat' split
  all_goals simp

@[simp] theorem cutRate_mem (key : Nat) (s : State) : (cutRate key s).mem = s.mem := by
  simp only [cutRate]
  repeat' split
  all_goals simp

@[simp] theorem ackUpTo_mem (key psn : Nat) (s : State) : (ackUpTo key psn s).mem = s.mem := by
  simp only [ackUpTo]
  repeat' split
  all_goals simp

@[simp] theorem restartPath_mem (key : Nat) (s : State) : (restartPath key s).mem = s.mem := by
  simp only [restartPath]
  split <;> simp

@[simp] theorem failPath_mem (u : Nat) (s : State) : (failPath u s).mem = s.mem := by
  rw [failPath, raise_mem]
  refine foldl_mem (fun s n => ?_) _ _
  repeat' split
  all_goals simp

@[simp] theorem withItem_mem {k : Item → State → State} (hk : ∀ i t, (k i t).mem = t.mem) (n op : Nat) (s : State) :
    (withItem n op s k).mem = s.mem := by
  simp only [withItem]
  repeat' split
  all_goals simp [hk]

@[simp] theorem checked_mem {k : State → State} (hk : ∀ t, (k t).mem = t.mem) (n : Nat) (ok : Bool) (s : State) :
    (checked n ok s k).mem = s.mem := by
  simp only [checked]
  repeat' split
  all_goals simp [hk]

@[simp] theorem ptcTouch_mem (ents : List Nat) (s : State) : (ptcTouch ents s).mem = s.mem := by
  simp only [ptcTouch]
  refine foldl_mem (fun s a => ?_) _ _
  all_goals simp

@[simp] theorem tryLook_mem (n tenant pva len : Nat) (write : Bool) (s : State) :
    (tryLook n tenant pva len write s).st.mem = s.mem := by
  simp only [tryLook]
  repeat' split
  all_goals simp

@[simp] theorem windowLook_mem (item tenant pva len : Nat) (s : State) :
    (windowLook item tenant pva len s).st.mem = s.mem := by
  simp only [windowLook]
  repeat' split
  all_goals (try simp)
  all_goals (refine (Acc.bind_mem (fun a t => ?_) _).trans ?_)
  all_goals simp

@[simp] theorem windowWalk_mem (item tenant pva len x4 x5 x6 : Nat) (x7 : State) :
    (windowWalk item tenant pva len x4 x5 x6 x7).st.mem = x7.mem := by
  induction x4 generalizing x5 x6 x7 with
  | zero => rfl
  | succ n ih =>
    simp only [windowWalk]
    repeat' split
    all_goals (try simp)
    all_goals (refine (Acc.bind_mem (fun a t => ?_) _).trans ?_)
    all_goals repeat' split
    all_goals simp [ih]

@[simp] theorem startClose_mem (key : Nat) (s : State) : (startClose key s).mem = s.mem := by
  simp only [startClose]
  repeat' split
  all_goals simp

@[simp] theorem sampleRange_mem (a n : Nat) (s : State) : (sampleRange a n s).mem = s.mem := by
  simp [sampleRange]

@[simp] theorem endCopy_mem (n : Nat) (c : Copy) (status : Nat) (s : State) : (endCopy n c status s).mem = s.mem := by
  simp only [endCopy]
  split <;> simp

@[simp] theorem placeEnt_mem (e : PtcEnt) (s : State) : ∀ t, placeEnt e s = some t → t.mem = s.mem := by
  simp only [placeEnt]
  repeat' split
  all_goals simp

@[simp] theorem resumeCtx_mem (t id : Nat) (s : State) : (resumeCtx t id s).mem = s.mem := by
  simp only [resumeCtx]
  repeat' split
  all_goals simp

@[simp] theorem resumeTask_mem (tag : Nat) (k : Task) (s : State) : (resumeTask tag k s).mem = s.mem := by
  simp only [resumeTask]
  split <;> simp

@[simp] theorem dropMiss_mem (tag : Nat) (m : Miss) (s : State) : (dropMiss tag m s).mem = s.mem := by
  simp [dropMiss]

@[simp] theorem install_mem (e) (s : State) : (install e s).mem = s.mem := by
  simp only [install]
  split
  · rfl
  case h_2 t ht => simp [placeEnt_mem _ _ _ ht]

@[simp] theorem retryFills_mem (s : State) : (retryFills s).mem = s.mem := by
  simp [retryFills]

@[simp] theorem setSq_mem (p f q : Nat) (r : Ring) (s : State) : (setSq p f q r s).mem = s.mem := by
  simp only [setSq]
  split <;> simp

@[simp] theorem giveResult_mem (port tenant tag status : Nat) (s : State) :
    (giveResult port tenant tag status s).mem = s.mem := by
  simp [giveResult]

@[simp] theorem cmdEntry_mem {k : Nat → Nat → State → State} (hk : ∀ a b t, (k a b t).mem = t.mem) (port op : Nat)
    (e : Quad) (s : State) :
    (cmdEntry port op e s k).mem = s.mem := by
  simp only [cmdEntry]
  repeat' split
  all_goals simp [hk]

@[simp] theorem failTask_mem (k : Task) (s : State) : (failTask k s).mem = s.mem := by
  simp only [failTask]
  repeat' split
  all_goals simp

@[simp] theorem denyMiss_mem (tag : Nat) (s : State) : (denyMiss tag s).mem = s.mem := by
  simp only [denyMiss]
  split <;> simp

@[simp] theorem withdraw_mem (p : PtcEnt → Bool) (s : State) : (withdraw p s).2.mem = s.mem := by
  simp [withdraw]

@[simp] theorem rewait_mem (tenant : Nat) (p : Nat → Bool) (s : State) : (rewait tenant p s).mem = s.mem := by
  simp [rewait]

@[simp] theorem pumpPri_mem (s : State) : (pumpPri s).mem = s.mem := by
  simp [pumpPri, apply_ite State.mem]

@[simp] theorem failAts_mem (e) (s : State) : (failAts e s).mem = s.mem := by
  simp only [failAts]
  split
  · rfl
  · rw [pumpPri_mem]
    exact foldl_mem (fun _ _ => endItem_mem ..) _ _

@[simp] theorem settleInvs_mem (s : State) : (settleInvs s).mem = s.mem := by
  simp [settleInvs, apply_ite State.mem]

@[simp] theorem cancelReq_mem (r : AgentReq) (s : State) : (cancelReq r s).mem = s.mem := by
  simp only [cancelReq]
  split <;> simp

@[simp] theorem abortPend_mem (t id tag status : Nat) (s : State) : (abortPend t id tag status s).mem = s.mem := by
  simp [abortPend]

@[simp] theorem setIndex_mem (k : Nat) (x : Index) (s : State) : (setIndex k x s).mem = s.mem := by
  simp [setIndex]

@[simp] theorem failIndex_mem (k : Nat) (x : Index) (s : State) : (failIndex k x s).mem = s.mem := by
  simp only [failIndex]
  refine foldl_mem (fun s a => ?_) _ _
  all_goals simp

@[simp] theorem setStore_mem (k : Nat) (x : Store) (s : State) : (setStore k x s).mem = s.mem := by
  simp [setStore]

@[simp] theorem failStore_mem (k : Nat) (x : Store) (s : State) : (failStore k x s).mem = s.mem := by
  simp only [failStore]
  refine foldl_mem (fun s a => ?_) _ _
  all_goals simp

@[simp] theorem abortPkt_mem (node tc psn status : Nat) (s : State) :
    (abortPkt node tc psn status s).mem = s.mem := by
  simp [abortPkt]

@[simp] theorem abortWindow_mem (key : Nat) (s : State) : (abortWindow key s).mem = s.mem := by
  simp only [abortWindow]
  split <;> simp

@[simp] theorem setAtc_mem (p : Nat) (l : List AtcEnt) (s : State) : (setAtc p l s).mem = s.mem := by
  simp [setAtc]

@[simp] theorem yieldHeld_mem (t : Nat) (s : State) : (yieldHeld t s).mem = s.mem := by
  simp only [yieldHeld]
  repeat' split
  all_goals simp

@[simp] theorem drainSpill_mem (p : Nat) (s : State) : (drainSpill p s).mem = s.mem := by
  simp only [drainSpill]
  all_goals simp (disch := (intros; repeat' split; all_goals simp))

@[simp] theorem resetVf_mem (p f : Nat) (s : State) : (resetVf p f s).mem = s.mem := by
  simp only [resetVf, raise_mem, State.setTr_mem, setPort_mem]
  refine (foldl_mem (fun _ _ => modItem_mem ..) _ _).trans ?_
  split <;> simp

@[simp] theorem dropMailbox_mem (p : Nat) (s : State) : (dropMailbox p s).mem = s.mem := by
  simp [dropMailbox]

@[simp] theorem queueError_mem (p f q : Nat) (s : State) : (queueError p f q s).mem = s.mem := by
  simp [queueError]

@[simp] theorem writeSqCfg_mem (p f q v : Nat) (s : State) : (writeSqCfg p f q v s).mem = s.mem := by
  simp only [writeSqCfg]
  split <;> simp

@[simp] theorem writeCqCfg_mem (p f q v : Nat) (s : State) : (writeCqCfg p f q v s).mem = s.mem := by
  simp only [writeCqCfg]
  split <;> simp

@[simp] theorem writeQueueReg_mem (sq : Bool) (p f q off width v : Nat) (s : State) :
    (writeQueueReg sq p f q off width v s).mem = s.mem := by
  simp only [writeQueueReg]
  repeat' split
  all_goals simp

@[simp] theorem writeMsix_mem (p f d v : Nat) (s : State) : (writeMsix p f d v s).mem = s.mem := by
  simp only [writeMsix]
  split <;> simp

@[simp] theorem hostLook_mem (n : Nat) (i : Item) (a : Nat) (write : Bool) (s : State) :
    (hostLook n i a write s).st.mem = s.mem := by
  simp only [hostLook]
  repeat' split
  all_goals simp

@[simp] theorem hostRead_mem (n : Nat) (i : Item) (a len : Nat) (s : State) :
    (hostRead n i a len s).st.mem = s.mem := by
  simp only [hostRead]
  repeat' split
  all_goals (refine (Acc.bind_mem (fun a t => ?_) _).trans ?_)
  all_goals simp

@[simp] theorem readParts_mem (ps : List (Nat × Nat × Nat)) (s : State) : (readParts ps s).st.mem = s.mem := by
  simp only [readParts]
  split <;> simp

@[simp] theorem tryRead_mem (n tenant pva len : Nat) (s : State) : (tryRead n tenant pva len s).st.mem = s.mem := by
  simp [tryRead]

@[simp] theorem hostPut_mem (n : Nat) (i : Item) (a : Nat) (bytes : List Byte) (s : State) :
    (hostPut n i a bytes s).st.mem = s.mem := by
  simp only [hostPut]
  repeat' split
  all_goals (try simp)
  all_goals (refine (Acc.bind_mem (fun a t => ?_) _).trans ?_)
  all_goals simp

@[simp] theorem poolToHost_mem (item : Nat) (i : Item) (pva host len x5 x6 : Nat) (x7 : State) :
    (poolToHost item i pva host len x5 x6 x7).st.mem = x7.mem := by
  fun_induction poolToHost item i pva host len x5 x6 x7 <;> simp [*]

@[simp] theorem pageWalk_mem (item tenant pva pages x4 x5 : Nat) (x6 : State) :
    (pageWalk item tenant pva pages x4 x5 x6).st.mem = x6.mem := by
  induction x4 generalizing x5 x6 with
  | zero => rfl
  | succ n ih =>
    simp only [pageWalk]
    repeat' split
    all_goals (try simp [ih])

@[simp] theorem walkPages_mem (item : Nat) (i : Item) (s : State) : (walkPages item i s).st.mem = s.mem := by
  simp only [walkPages]
  split <;> simp

@[simp] theorem withPages_mem {k : List Nat → State → State} (hk : ∀ l t, (k l t).mem = t.mem) (item : Nat) (i : Item)
    (s : State) :
    (withPages item i s k).mem = s.mem := by
  grind [withPages, walkPages_mem, endItem_mem, Acc.st_ok, Acc.st_bad, Acc.st_wait]

@[simp] theorem lookAll_mem (n tenant : Nat) (l : List (Nat × Nat × Bool)) (s : State) :
    (lookAll n tenant l s).st.mem = s.mem := by
  induction l generalizing s with
  | nil => rfl
  | cons a l ih =>
    rw [lookAll, Acc.bind_mem fun ps t => ?_, tryLook_mem]
    rw [Acc.bind_mem fun _ _ => rfl, ih]

@[simp] theorem handLine_mem (item pha : Nat) (bytes : List Byte) (zero : Bool) (s : State) :
    (handLine item pha bytes zero s).mem = s.mem := by
  simp [handLine]

@[simp] theorem contribute_mem (item tenant : Nat) (i : Item) (inbox fuel k : Nat) (s : State) :
    (contribute item tenant i inbox fuel k s).st.mem = s.mem := by
  induction fuel generalizing k s with
  | zero => rfl
  | succ fuel ih =>
    rw [contribute]
    split
    · rfl
    rw [Acc.bind_mem fun zero t => ?_]
    · split
      · rfl
      · rw [Acc.bind_mem fun _ _ => rfl, tryRead_mem]
    split
    · simp [ih]
    split
    · split
      · simp [ih]
      · simp
    · rw [Acc.bind_mem fun _ _ => by simp [ih], tryRead_mem]

@[simp] theorem putHalf_mem (k u : Nat) (a : RArr) (vals : List Nat) (s : State) :
    (putHalf k u a vals s).mem = s.mem := by
  simp [putHalf]

@[simp] theorem poisonedUnit_mem (k : Nat) (r : Round) (u : Nat) (s : State) :
    (poisonedUnit k r u s).mem = s.mem := by
  simp [poisonedUnit]

@[simp] theorem customStep_mem (r : Round) (u t : Nat) (g w : List Nat) (sts : List (List Nat)) (s : State) :
    (customStep r u t g w sts s).2.mem = s.mem := by
  simp only [customStep]
  repeat' split
  all_goals simp

@[simp] theorem gateParts_mem (ps : List (Nat × Nat × Nat)) (tenant : Nat) (s : State) :
    (gateParts ps tenant s).1.mem = s.mem := by
  simp only [gateParts]
  all_goals simp (disch := (intros; repeat' split; all_goals simp))

@[simp] theorem homeStreams_mem (t : Nat) (s : State) : (homeStreams t s).2.mem = s.mem := by
  simp only [homeStreams]
  split <;> simp

@[simp] theorem convAt_mem (e : Elt) (sr : Bool) (pha first : Nat) (vals : List Nat) (s : State) :
    (convAt e sr pha first vals s).2.mem = s.mem := by
  simp only [convAt]
  split <;> simp

@[simp] theorem setTable_mem (k : Nat) (t : Table) (s : State) : (setTable k t s).mem = s.mem := by
  simp [setTable]

@[simp] theorem settleTable_mem (k : Nat) (s : State) : (settleTable k s).mem = s.mem := by
  have hf : ∀ (l : List (Nat × Nat)) (s : State), (l.foldl (fun s q => endItem q.1 Config.ok q.2 0 s) s).mem = s.mem :=
    foldl_mem fun _ _ => endItem_mem ..
  simp only [settleTable]
  repeat' split
  all_goals simp [hf]

@[simp] theorem hostPutAll_mem (n : Nat) (i : Item) (a : Nat) (bytes : List Byte) (s : State) :
    (hostPutAll n i a bytes s).st.mem = s.mem := by
  rw [hostPutAll, Acc.bind_mem fun _ t => foldl_st_mem (fun x _ => Acc.bind_mem (fun _ _ => hostPut_mem ..) x) _ _]
  exact foldl_st_mem (fun x _ => Acc.bind_mem (fun _ _ => (Acc.bind_mem (fun _ _ => rfl) _).trans (hostLook_mem ..)) x) _ _

@[simp] theorem settleOut_mem (n status r0 r1 : Nat) (s : State) : (settleOut n status r0 r1 s).mem = s.mem := by
  simp only [settleOut]
  repeat' split
  all_goals simp

@[simp] theorem softRead_mem (n tenant pva unit count : Nat) (s : State) :
    (softRead n tenant pva unit count s).st.mem = s.mem := by
  simp only [softRead]
  repeat' split
  all_goals simp (disch := (intros; repeat' split; all_goals simp))

@[simp] theorem softWords_mem (n tenant pva count : Nat) (s : State) :
    (softWords n tenant pva count s).st.mem = s.mem := by
  simp only [softWords]
  all_goals (refine (Acc.bind_mem (fun a t => ?_) _).trans ?_)
  all_goals simp

@[simp] theorem setLookup_mem (n : Nat) (l : Lookup) (s : State) : (setLookup n l s).mem = s.mem := by
  simp [setLookup]

@[simp] theorem startLookup_mem (item : Nat) (i : Item) (desc : Desc) (s : State) :
    (startLookup item i desc s).st.mem = s.mem := by
  simp only [startLookup]
  repeat' split
  all_goals (try simp)
  all_goals (refine (Acc.bind_mem (fun a t => ?_) _).trans ?_)
  all_goals repeat' split
  all_goals simp

@[simp] theorem poolRow_mem (item p : Nat) (l : Lookup) (vals : List Nat) (s : State) :
    (poolRow item p l vals s).mem = s.mem := by
  simp [poolRow]

@[simp] theorem poolDefault_mem (item p : Nat) (i : Item) (l : Lookup) (invalid : Bool) (s : State) :
    (poolDefault item p i l invalid s).st.mem = s.mem := by
  simp only [poolDefault]
  repeat' split
  all_goals simp (disch := (intros; repeat' split; all_goals simp))

@[simp] theorem readRow_mem (item p : Nat) (last : Bool) (s : State) : (readRow item p last s).mem = s.mem := by
  simp only [readRow]
  split
  · split
    · rfl
    · rw [Acc.lookup_mem]
      split
      · simp
      · rw [Acc.bind_mem fun _ t => ?_, softRead_mem]
        repeat' split
        all_goals simp
  · rfl

@[simp] theorem toCodes_mem (code4 sr : Bool) (tabor x3 : Nat) (x4 : List Nat) (x5 : State) :
    (toCodes code4 sr tabor x3 x4 x5).2.mem = x5.mem := by
  induction x3 generalizing x4 x5 with
  | zero => rfl
  | succ n ih =>
    simp only [toCodes]
    repeat' split
    all_goals (try simp [ih])

@[simp] theorem withIndex_mem {k : Nat → Index → State → State} (hk : ∀ n x t, (k n x t).mem = t.mem) (item : Nat)
    (i : Item) (s : State) :
    (withIndex item i s k).mem = s.mem := by
  simp only [withIndex]
  repeat' split
  all_goals simp [hk]

@[simp] theorem modIndex_mem (k : Nat) (f : Index → Index) (s : State) : (modIndex k f s).mem = s.mem := by
  simp [modIndex]

@[simp] theorem stamp__mem (k n : Nat) (s : State) : (stamp_ k n s).mem = s.mem := by
  simp [stamp_]

@[simp] theorem admitted_mem (item : Nat) (s : State) : (admitted item s).mem = s.mem := by
  simp [admitted]

@[simp] theorem arriveSum_mem (l : List Nat) (s : State) : (arriveSum l s).2.mem = s.mem := by
  simp [arriveSum]

@[simp] theorem normalise_mem (v : List Nat) (s : State) : (normalise v s).2.mem = s.mem := by
  simp [normalise]

@[simp] theorem prepareVec_mem (x : Index) (codes : List Nat) (s : State) : (prepareVec x codes s).2.mem = s.mem := by
  simp only [prepareVec]
  repeat' split
  all_goals simp

@[simp] theorem heldRead_mem (x : Index) (pva len : Nat) (s : State) : (heldRead x pva len s).st.mem = s.mem := by
  simp [heldRead]

@[simp] theorem itemVec_mem (x : Index) (v : VItem) (s : State) : (itemVec x v s).st.mem = s.mem := by
  simp only [itemVec]
  all_goals (refine (Acc.bind_mem (fun a t => ?_) _).trans ?_)
  all_goals simp

@[simp] theorem accMap_mem {α β : Type} {f : α → State → Acc β} (hf : ∀ a t, (f a t).st.mem = t.mem) (l : List α)
    (s : State) :
    (accMap f l s).st.mem = s.mem := by
  induction l generalizing s with
  | nil => rfl
  | cons a l ih =>
    rw [accMap, Acc.bind_mem fun b t => ?_, hf]
    rw [Acc.bind_mem fun _ _ => rfl, ih]

@[simp] theorem callKernel_mem (x : Index) (q v : List Nat) (used what : Nat) (s : State) :
    (callKernel x q v used what s).st.mem = s.mem := by
  simp only [callKernel]
  repeat' split
  all_goals simp

@[simp] theorem kernelSum_mem (x : Index) (what : Nat) (q v : List Nat) (s : State) :
    (kernelSum x what q v s).st.mem = s.mem := by
  simp [kernelSum]

@[simp] theorem exactDist_mem (x : Index) (q v : List Nat) (s : State) : (exactDist x q v s).st.mem = s.mem := by
  simp only [exactDist]
  repeat' split
  all_goals (try simp)
  all_goals (refine (Acc.bind_mem (fun a t => ?_) _).trans ?_)
  all_goals simp

/-- distance of an item -/
theorem itemDist_mem (x : Index) (q : List Nat) {α} (f : (Nat × Nat) → α) (v : VItem) (s : State) : 
  ((itemVec x v s).bind fun vec s => (exactDist x q vec s).bind fun d s => .ok (f d) s).st.mem = s.mem := by
  rw [Acc.bind_mem fun _ t => ?_, itemVec_mem]
  rw [Acc.bind_mem fun _ _ => rfl, exactDist_mem]

@[simp] theorem beam_mem (x : Index) (q : List Nat) (ef fuel : Nat) (cand : List (Nat × Nat)) (done seen : List Nat)
    (s : State) :
    (beam x q ef fuel cand done seen s).st.mem = s.mem := by
  induction fuel generalizing cand done seen s with
  | zero => rfl
  | succ fuel ih =>
    rw [beam]
    split
    · rfl
    · rw [Acc.bind_mem fun _ _ => ih ..]
      refine accMap_mem (fun m t => ?_) _ _
      split
      · rfl
      · exact itemDist_mem ..

@[simp] theorem graphFind_mem (x : Index) (q : List Nat) (ef : Nat) (s : State) :
    (graphFind x q ef s).st.mem = s.mem := by
  simp only [graphFind]
  split <;> simp

@[simp] theorem nodeDists_mem (x : Index) (v : VItem) (ns : List Nat) (s : State) :
    (nodeDists x v ns s).st.mem = s.mem := by
  rw [nodeDists, Acc.bind_mem fun q t => accMap_mem (fun m t => ?_) _ _, itemVec_mem]
  split
  · rfl
  · exact itemDist_mem ..

@[simp] theorem pickEdges_mem (x : Index) (v : VItem) (ns : List Nat) (s : State) :
    (pickEdges x v ns s).st.mem = s.mem := by
  simp only [pickEdges]
  repeat' split
  all_goals (try simp)
  all_goals (refine (Acc.bind_mem (fun a t => ?_) _).trans ?_)
  all_goals simp

@[simp] theorem placeNode_mem (x : Index) (n : Nat) (v : VItem) (q : List Nat) (s : State) :
    (placeNode x n v q s).st.mem = s.mem := by
  rw [placeNode]
  split
  · rfl
  · rw [Acc.bind_mem fun _ t => ?_, graphFind_mem]
    rw [Acc.bind_mem fun _ _ => rfl]
    refine accMap_mem (fun m t => ?_) _ _
    split
    · rfl
    · rw [Acc.bind_mem fun _ _ => rfl, pickEdges_mem]

@[simp] theorem heldF32_mem (x : Index) (pva count : Nat) (s : State) : (heldF32 x pva count s).st.mem = s.mem := by
  simp only [heldF32]
  all_goals (refine (Acc.bind_mem (fun a t => ?_) _).trans ?_)
  all_goals simp

@[simp] theorem centroid_mem (x : Index) (l : Nat) (s : State) : (centroid x l s).st.mem = s.mem := by
  simp [centroid]

@[simp] theorem codewords_mem (x : Index) (j : Nat) (s : State) : (codewords x j s).st.mem = s.mem := by
  simp only [codewords]
  all_goals (refine (Acc.bind_mem (fun a t => ?_) _).trans ?_)
  all_goals simp

theorem centroidDist_mem (x : Index) (q : List Nat) {α} (f : (Nat × Nat) → α) (l : Nat) (s : State) : 
  ((centroid x l s).bind fun c s => (exactDist x q c s).bind fun d s => .ok (f d) s).st.mem = s.mem := by
  rw [Acc.bind_mem fun _ t => ?_, centroid_mem]
  rw [Acc.bind_mem fun _ _ => rfl, exactDist_mem]

@[simp] theorem encodeIvf_mem (x : Index) (v : List Nat) (given : Option Nat) (s : State) :
    (encodeIvf x v given s).st.mem = s.mem := by
  unfold encodeIvf
  rw [Acc.bind_mem fun l t => ?_]
  · split
    · rfl
    · rw [Acc.bind_mem fun _ _ => rfl]
      exact accMap_mem (fun l t => centroidDist_mem ..) _ _
  rw [Acc.bind_mem fun c t => ?_, centroid_mem]
  rw [Acc.bind_mem fun codes t => by simp]
  refine accMap_mem (fun j t => ?_) _ _
  rw [Acc.bind_mem fun ws t => ?_, codewords_mem]
  rw [Acc.bind_mem fun _ _ => rfl]
  exact accMap_mem (fun w t => by simp) _ _

@[simp] theorem readQuery_mem (item : Nat) (i : Item) (x : Index) (j : Nat) (s : State) :
    (readQuery item i x j s).st.mem = s.mem := by
  simp only [readQuery]
  split
  · split
    · rfl
    · split
      case h_1 h => exact Acc.mem_of_ok (hostRead_mem ..) h
      case h_2 h => exact Acc.mem_of_bad (hostRead_mem ..) h
      case h_3 h => exact Acc.mem_of_wait (hostRead_mem ..) h
  · rw [Acc.bind_mem fun _ _ => rfl, softRead_mem]

@[simp] theorem freeResults_mem (w : List Nat) (s : State) : (freeResults w s).2.mem = s.mem := by
  simp [freeResults]

@[simp] theorem graphQuery_mem (x : Index) (w q : List Nat) (e : Nat) (s : State) :
    (graphQuery x w q e s).st.mem = s.mem := by
  simp only [graphQuery]
  all_goals (refine (Acc.bind_mem (fun a t => ?_) _).trans ?_)
  all_goals simp

@[simp] theorem tableOfSub_mem (x : Index) (q c : List Nat) (j : Nat) (s : State) :
    (tableOfSub x q c j s).st.mem = s.mem := by
  simp only [tableOfSub]
  split <;> simp

@[simp] theorem ivfFind_mem (x : Index) (w q : List Nat) (e : Nat) (s : State) :
    (ivfFind x w q e s).st.mem = s.mem := by
  rw [ivfFind, Acc.bind_mem fun ds t => ?_]
  · exact accMap_mem (fun l t => centroidDist_mem ..) _ _
  rw [Acc.bind_mem fun common t => ?_]
  · split
    · rfl
    · simp
  rw [Acc.bind_mem fun found t => ?_]
  · refine accMap_mem (fun l t => ?_) _ _
    rw [Acc.bind_mem fun tables t => ?_]
    · split
      · rw [Acc.bind_mem fun _ _ => by simp, centroid_mem]
      · rfl
    rw [Acc.bind_mem fun _ _ => rfl]
    refine accMap_mem (fun kv t => ?_) _ _
    rw [Acc.bind_mem fun _ _ => rfl, heldRead_mem]
  split
  · rfl
  rw [Acc.bind_mem fun _ _ => rfl]
  refine accMap_mem (fun c t => ?_) _ _
  split
  · rfl
  · exact itemDist_mem ..

@[simp] theorem runQuery_mem (x : Index) (w : List Nat) (e : Nat) (bytes : Option (List Byte)) (s : State) :
    (runQuery x w e bytes s).st.mem = s.mem := by
  have find : ∀ (g : Bool) (q : List Nat) (t : State), (if g then graphQuery x w q e t else ivfFind x w q e t).st.mem = t.mem := by
    intro g q t
    split <;> simp
  cases bytes with
  | none => rfl
  | some b =>
    simp only [runQuery]
    generalize hq : (eltCodes x.fmt.width x.dim b).map (fun c => encodeF Fmt.fp32 (decodeF x.fmt c)) = q
    generalize hn : (if x.metric = 1 then normalise q s else (q, s)) = n
    have htm : n.2.mem = s.mem := by rw [← hn]; split <;> simp
    split
    · exact (freeResults_mem ..).trans htm
    · split
      case h_1 h => exact (Acc.mem_of_wait (find ..) h).trans htm
      case h_2 h => split <;> exact (Acc.mem_of_bad (find ..) h).trans htm
      case h_3 h => exact (Acc.mem_of_ok (find ..) h).trans htm

@[simp] theorem rewriteEdges_mem (x : Index) (gone : Nat → Bool) (s : State) :
    (rewriteEdges x gone s).st.mem = s.mem := by
  rw [rewriteEdges, Acc.bind_mem fun _ _ => rfl]
  refine accMap_mem (fun kv t => ?_) _ _
  split
  · rfl
  · rw [Acc.bind_mem fun _ _ => rfl, pickEdges_mem]

@[simp] theorem refreshHints_mem (old new : Store) (s : State) : (refreshHints old new s).mem = s.mem := by
  simp only [refreshHints]
  repeat' split
  all_goals simp (disch := (intros; repeat' split; all_goals simp))

@[simp] theorem putStore_mem (k : Nat) (old new : Store) (s : State) : (putStore k old new s).mem = s.mem := by
  simp [putStore]

@[simp] theorem switchKey_mem (n k : Nat) (x : Store) (r : CReq) (slot : Nat) (s : State) :
    (switchKey n k x r slot s).mem = s.mem := by
  simp [switchKey]

@[simp] theorem landed_mem (n : Nat) (i : Item) (x : Store) (r : CReq) (s : State) :
    (landed n i x r s).st.mem = s.mem := by
  simp only [landed]
  repeat' split
  all_goals simp

@[simp] theorem modRegs_mem (n k v : Nat) (s : State) : (modRegs n k v s).mem = s.mem := by
  simp [modRegs]

@[simp] theorem checkOwn_mem (n : Nat) (i : Item) (x : Store) (r : CReq) (s : State) :
    (checkOwn n i x r s).st.mem = s.mem := by
  simp only [checkOwn]
  repeat' split
  all_goals simp (disch := (intros; repeat' split; all_goals simp))

@[simp] theorem takeSlot_mem (n k : Nat) (r : CReq) (x3 : Nat) (x4 : State) :
    (takeSlot n k r x3 x4).2.mem = x4.mem := by
  induction x3 generalizing x4 with
  | zero => rfl
  | succ n ih =>
    simp only [takeSlot]
    repeat' split
    all_goals simp [ih]

@[simp] theorem notFound_mem (n : Nat) (s : State) : (notFound n s).mem = s.mem := by
  simp [notFound]

@[simp] theorem segValue_mem (item : Nat) (i : Item) (p : CrcPar) (k : Nat) (s : State) :
    (segValue item i p k s).st.mem = s.mem := by
  simp only [segValue]
  split
  · split
    · exact modItem_mem ..
    · split
      case h_1 h => exact (modItem_mem ..).trans (Acc.mem_of_ok (hostRead_mem ..) h)
      case h_2 h => exact Acc.mem_of_bad (hostRead_mem ..) h
      case h_3 h => exact Acc.mem_of_wait (hostRead_mem ..) h
  · rw [Acc.bind_mem fun _ _ => rfl, softRead_mem]

@[simp] theorem noteGrant_mem (k o n : Nat) (high : Bool) (s : State) : (noteGrant k o n high s).mem = s.mem := by
  simp [noteGrant]

@[simp] theorem failIsland_mem (s : State) : (failIsland s).mem = s.mem := by
  simp only [failIsland]
  split <;> simp

@[simp] theorem resumeResets_mem (mine : Reset → Bool) (s : State) : (resumeResets mine s).mem = s.mem := by
  simp [resumeResets]

@[simp] theorem losePort_mem (port : Nat) (s : State) : (losePort port s).mem = s.mem := by
  simp [losePort]

@[simp] theorem returnForeign_mem (s : State) : (returnForeign s).mem = s.mem := by
  simp [returnForeign]

@[simp] theorem fenceListed_mem (s : State) : (fenceListed s).mem = s.mem := by
  simp [fenceListed, apply_ite State.mem]

@[simp] theorem removeReset_mem (x : Reset) (s : State) : (removeReset x s).mem = s.mem := by
  simp [removeReset]

@[simp] theorem escalate_mem (x : Reset) (detail domain index : Nat) (s : State) :
    (escalate x detail domain index s).mem = s.mem := by
  simp [escalate]

@[simp] theorem chipFailed_mem (s : State) : (chipFailed s).mem = s.mem := by
  simp only [chipFailed]
  split <;> simp

@[simp] theorem putSeg_mem (x : SegXfer) (s : State) : (putSeg x s).mem = s.mem := by
  simp [putSeg]

@[simp] theorem sendSegs_mem (who : Session) (tid x2 : Nat) (x3 : State) : (sendSegs who tid x2 x3).mem = x3.mem := by
  induction x2 generalizing x3 with
  | zero => rfl
  | succ n ih =>
    simp only [sendSegs]
    repeat' split
    all_goals simp [ih]

@[simp] theorem pumpSeg_mem (who : Session) (tid : Nat) (s : State) : (pumpSeg who tid s).mem = s.mem := by
  simp only [pumpSeg]
  repeat' split
  all_goals simp

@[simp] theorem abortSeg_mem (who : Session) (m : OdpMsg) (status : Nat) (s : State) :
    (abortSeg who m status s).mem = s.mem := by
  simp [abortSeg]

@[simp] theorem takeQuiet_mem {k : State → State} (hk : ∀ t, (k t).mem = t.mem) (who : Session) (m : OdpMsg)
    (s : State) :
    (takeQuiet who m k s).mem = s.mem := by
  grind [takeQuiet, takeMsg_mem, touchLocks_mem, abortSeg_mem]

@[simp] theorem takeSegment_mem (who : Session) (m : OdpMsg) (s : State) : (takeSegment who m s).mem = s.mem := by
  simp only [takeSegment]
  repeat' split
  all_goals simp

@[simp] theorem takeSegAck_mem (who : Session) (m : OdpMsg) (s : State) : (takeSegAck who m s).mem = s.mem := by
  simp only [takeSegAck]
  repeat' split
  all_goals simp

@[simp] theorem writeBackOldest_mem (s : State) : (writeBackOldest s).mem = s.mem := by
  simp only [writeBackOldest]
  split <;> simp

end Sys2Proof.Machine

/-!
PROOFS. The functions of the model that write the range keep its bytes in canonical form.
-/

namespace Sys2Proof.Machine

@[simp] theorem wf_wrByte {s : State} (h : Memory.wf s.mem = true) (a : Nat) (b : Byte) :
    Memory.wf (wrByte s a b).mem = true := wrByte_wf h a b

@[simp] theorem wf_wrBytes {s : State} (h : Memory.wf s.mem = true) (a : Nat) (bs : List Byte) :
    Memory.wf (wrBytes s a bs).mem = true := wrBytes_wf h a bs

@[simp] theorem wf_wrNat {s : State} (h : Memory.wf s.mem = true) (a n v : Nat) :
    Memory.wf (wrNat s a n v).mem = true := wrNat_wf h a n v

@[simp] theorem wf_wipePage {s : State} (h : Memory.wf s.mem = true) (page : Nat) :
    Memory.wf (wipePage page s).mem = true := wipePage_wf h page

@[simp] theorem foldl_wf {α : Type} {f : State → α → State}
    (hf : ∀ s a, Memory.wf s.mem = true → Memory.wf (f s a).mem = true)
    (l : List α) (s : State) (h : Memory.wf s.mem = true) : Memory.wf (l.foldl f s).mem = true := by
  induction l generalizing s with
  | nil => exact h
  | cons a l ih => exact ih _ (hf s a h)

@[simp] theorem Acc.bind_wf {α β : Type} {k : α → State → Acc β}
    (hk : ∀ a t, Memory.wf t.mem = true → Memory.wf (k a t).st.mem = true)
    {x : Acc α} (h : Memory.wf x.st.mem = true) : Memory.wf (x.bind k).st.mem = true := by
  cases x with
  | ok a s => exact hk a s h
  | bad st s => exact h
  | wait s => exact h

@[simp] theorem answerMsg_wf {perform : State → Answer × State} {after : State → State}
    (hp : ∀ t, Memory.wf t.mem = true → Memory.wf (perform t).2.mem = true)
    (ha : ∀ t, Memory.wf t.mem = true → Memory.wf (after t).mem = true) (who : Session) (m : OdpMsg) (s : State)
    (h : Memory.wf s.mem = true) : Memory.wf (answerMsg who m perform after s).mem = true := by
  simp only [answerMsg]
  split
  · exact h
  case h_2 u hu =>
    have hum : u.mem = s.mem := takeMsg_mem _ _ _ _ hu
    repeat' split
    all_goals simp [hp, ha, hum, h]

@[simp] theorem withItem_wf {k : Item → State → State}
    (hk : ∀ i t, Memory.wf t.mem = true → Memory.wf (k i t).mem = true) (n op : Nat) (s : State)
    (h : Memory.wf s.mem = true) : Memory.wf (withItem n op s k).mem = true := by
  simp only [withItem]
  repeat' split
  all_goals simp [hk, h]

@[simp] theorem checked_wf {k : State → State} (hk : ∀ t, Memory.wf t.mem = true → Memory.wf (k t).mem = true)
    (n : Nat) (ok : Bool) (s : State)
    (h : Memory.wf s.mem = true) : Memory.wf (checked n ok s k).mem = true := by
  simp only [checked]
  repeat' split
  all_goals simp [hk, h]

theorem mem_of_pair {β : Type} {x : State × β} {b : β} {s t : State} (h : x.1.mem = s.mem) (e : x = (t, b)) :
    t.mem = s.mem := by
  subst e; exact h

theorem mem_of_pair' {β : Type} {x : β × State} {b : β} {s t : State} (h : x.2.mem = s.mem) (e : x = (b, t)) :
    t.mem = s.mem := by
  subst e; exact h

@[simp] theorem Acc.bind_ok_st {α β : Type} (f : α → β) (x : Acc α) : (x.bind fun a s => .ok (f a) s).st = x.st := by
  cases x <;> rfl

theorem wf_congr {s t : State} (e : t.mem = s.mem) (h : Memory.wf s.mem = true) : Memory.wf t.mem = true := e ▸ h

@[simp] theorem dramUndefined_wf (s : State) (h : Memory.wf s.mem = true) :
    Memory.wf (dramUndefined s).mem = true := by
  simp only [dramUndefined]
  refine foldl_wf (fun s a h => ?_) _ _ (by simpa using h)
  all_goals simp [h]

@[simp] theorem landBytes_wf (a : Nat) (bs : List Byte) (s : State) (h : Memory.wf s.mem = true) :
    Memory.wf (landBytes a bs s).mem = true := by
  simp [landBytes, h]

@[simp] theorem writeRange_wf (a : Nat) (bytes : List Byte) (s : State) (h : Memory.wf s.mem = true) :
    Memory.wf (writeRange a bytes s).mem = true := by
  simp only [writeRange]
  refine foldl_wf (fun s a h => ?_) _ _ (by simpa using h)
  repeat' split
  all_goals simp [h]

@[simp] theorem putWord_wf (a v : Nat) (s : State) (h : Memory.wf s.mem = true) :
    Memory.wf (putWord a v s).mem = true := by
  simp [putWord, h]

@[simp] theorem flagStore_wf (node tenant window offset word : Nat) (origin : Origin) (s : State)
    (h : Memory.wf s.mem = true) :
    ∀ x, flagStore node tenant window offset word origin s = some x → Memory.wf x.2.mem = true := by
  grind [flagStore, putWord_wf, writeOk_mem, sendReq_mem, Acc.st_ok, Acc.st_bad, Acc.st_wait]

@[simp] theorem replyLine_wf (n : Nat) (s : State) (h : Memory.wf s.mem = true) :
    Memory.wf (replyLine n s).mem = true := by
  simp only [replyLine]
  split
  · exact h
  · split
    · split
      · exact h
      · split
        · exact h
        case h_2 res t hf =>
          have ht := flagStore_wf _ _ _ _ _ _ _ h _ hf
          split <;> simpa using ht
    · exact h

@[simp] theorem postItem_wf (item : Nat) (s : State) (h : Memory.wf s.mem = true) :
    Memory.wf (postItem item s).mem = true := by
  simp only [postItem]
  repeat' split
  all_goals simp [h]

@[simp] theorem postAll_wf (s : State) (h : Memory.wf s.mem = true) :
    Memory.wf (postAll s).mem = true := by
  simp only [postAll]
  refine foldl_wf (fun s a h => ?_) _ _ (by simpa using h)
  all_goals simp [h]

@[simp] theorem flushS4_wf (s : State) (h : Memory.wf s.mem = true) :
    Memory.wf (flushS4 s).mem = true := by
  simp only [flushS4]
  refine foldl_wf (fun s a h => ?_) _ _ (by simpa using h)
  repeat' split
  all_goals simp [h]

@[simp] theorem rebuildHomes_wf (s : State) (h : Memory.wf s.mem = true) : Memory.wf (rebuildHomes s).mem = true := by
  simp only [rebuildHomes]
  exact memFilter_wf h _

@[simp] theorem flushLines_wf (s : State) (h : Memory.wf s.mem = true) :
    Memory.wf (flushLines s).mem = true := by
  simp only [flushLines]
  refine foldl_wf (fun s a h => ?_) _ _ (by simpa using h)
  all_goals simp [h]

@[simp] theorem writeBackAll_wf (s : State) (h : Memory.wf s.mem = true) :
    Memory.wf (writeBackAll s).mem = true := by
  simp [writeBackAll, h]

@[simp] theorem writeClose_wf (v : Nat) (s : State) (h : Memory.wf s.mem = true) :
    Memory.wf (writeClose v s).2.mem = true := by
  simp only [writeClose]
  repeat' split
  all_goals simp [h]

@[simp] theorem closeTxn_wf (line : Nat) (s : State) (h : Memory.wf s.mem = true) :
    Memory.wf (closeTxn line s).mem = true := by
  simp only [closeTxn]
  repeat' split
  all_goals simp [h]

@[simp] theorem forgetTraffic_wf (chip : Nat) (s : State) (h : Memory.wf s.mem = true) :
    Memory.wf (forgetTraffic chip s).mem = true := by
  simp only [forgetTraffic]
  refine foldl_wf (fun s a h => ?_) _ _ (by simpa using h)
  repeat' split
  all_goals simp [h]

@[simp] theorem forgetPeer_wf (chip : Nat) (s : State) (h : Memory.wf s.mem = true) :
    Memory.wf (forgetPeer chip s).2.mem = true := by
  simp [forgetPeer, h]

@[simp] theorem startForming_wf (s : State) (h : Memory.wf s.mem = true) : Memory.wf (startForming s).mem = true := by
  have hf := foldl_wf (f := fun s i => (forgetPeer i s).2) (fun s i h => forgetPeer_wf i s h)
    ((s.ch.members.zipIdx.filter fun x => x.1 ≠ s.fa.nodeId && !s.ch.lostPeers.contains x.1).map Prod.snd) s h
  simp only [startForming]
  repeat' split
  all_goals simpa using hf

@[simp] theorem payOwed_wf (comp : Nat) (s : State) (h : Memory.wf s.mem = true) :
    Memory.wf (payOwed comp s).mem = true := by
  refine foldl_wf (fun s o h => ?_) _ _ h
  split
  case h_1 hf => exact flagStore_wf _ _ _ _ _ _ _ h _ hf
  case h_2 => exact h

@[simp] theorem applyCommit_wf (b : List Byte) (s : State) (h : Memory.wf s.mem = true) :
    Memory.wf (applyCommit b s).mem = true := by
  simp only [applyCommit]
  repeat' split
  all_goals simp [h]

@[simp] theorem writeCommit_wf (v : Nat) (s : State) (h : Memory.wf s.mem = true) :
    Memory.wf (writeCommit v s).2.mem = true := by
  simp only [writeCommit]
  repeat' split
  all_goals simp [h]

@[simp] theorem applyWrite_wf (r : OdRow) (index tenant : Nat) (b : List Byte) (s : State)
    (h : Memory.wf s.mem = true) :
    Memory.wf (applyWrite r index tenant b s).2.mem = true := by
  simp only [applyWrite]
  repeat' split
  all_goals simp [h]

@[simp] theorem writeOd_wf (who : Session) (r : OdRow) (index tenant : Nat) (b : List Byte) (s : State)
    (h : Memory.wf s.mem = true) :
    Memory.wf (writeOd who r index tenant b s).2.mem = true := by
  simp only [writeOd]
  repeat' split
  all_goals simp [h]

@[simp] theorem writeBy_wf (who : Session) (m : OdpMsg) (b : List Byte) (s : State) (h : Memory.wf s.mem = true) :
    Memory.wf (writeBy who m b s).2.mem = true := by
  grind [writeBy, writeOd_wf, fireWrite_mem, Acc.st_ok, Acc.st_bad, Acc.st_wait]

@[simp] theorem endSegment_wf (who : Session) (m : OdpMsg) (s : State) (h : Memory.wf s.mem = true) :
    Memory.wf (endSegment who m s).2.mem = true := by
  simp only [endSegment]
  repeat' split
  all_goals simp [statusOnly, h]

@[simp] theorem odWrite_wf (who : Session) (m : OdpMsg) (s : State) (h : Memory.wf s.mem = true) :
    Memory.wf (odWrite who m s).mem = true := by
  refine answerMsg_wf (fun t ht => ?_) (fun _ ht => ht) _ _ _ h
  split
  · simp [ht]
  · simp [statusOnly, ht]

@[simp] theorem releasePage_wf (page : Nat) (reset : Bool) (s : State) (h : Memory.wf s.mem = true) :
    Memory.wf (releasePage page reset s).mem = true := by
  simp only [releasePage]
  repeat' split
  all_goals simp [h]

@[simp] theorem releaseRun_wf (first pages : Nat) (s : State) (h : Memory.wf s.mem = true) :
    Memory.wf (releaseRun first pages s).mem = true := by
  simp only [releaseRun]
  refine foldl_wf (fun s a h => ?_) _ _ (by simpa using h)
  all_goals simp [h]

@[simp] theorem revokeTenant_wf (n : Nat) (w : Withdrawal) (s : State) (h : Memory.wf s.mem = true) :
    Memory.wf (revokeTenant n w s).mem = true := by
  simp only [revokeTenant]
  refine foldl_wf (fun s a h => ?_) _ _ (by simpa using h)
  all_goals simp [h]

@[simp] theorem endWithdrawal_wf (n : Nat) (w : Withdrawal) (s : State) (h : Memory.wf s.mem = true) :
    Memory.wf (endWithdrawal n w s).mem = true := by
  simp only [endWithdrawal]
  repeat' split
  all_goals simp [h]

@[simp] theorem settleWithdrawals_wf (s : State) (h : Memory.wf s.mem = true) :
    Memory.wf (settleWithdrawals s).mem = true := by
  simp only [settleWithdrawals]
  refine foldl_wf (fun s a h => ?_) _ _ (by simpa using h)
  repeat' split
  all_goals simp [h]

@[simp] theorem sendFlags_wf (k fuel : Nat) (s : State) (h : Memory.wf s.mem = true) :
    Memory.wf (sendFlags k fuel s).mem = true := by
  induction fuel generalizing s with
  | zero => exact h
  | succ fuel ih =>
    simp only [sendFlags]
    split
    · exact h
    · split
      · split
        · exact ih _ (by simpa using h)
        · split
          · exact h
          case h_2 hf => exact ih _ (by simpa using flagStore_wf _ _ _ _ _ _ _ h _ hf)
      · exact h

@[simp] theorem endRound_wf (k status : Nat) (s : State) (h : Memory.wf s.mem = true) :
    Memory.wf (endRound k status s).mem = true := by
  simp only [endRound]
  repeat' split
  all_goals simp [h]

@[simp] theorem abortItem_wf (n : Nat) (s : State) (h : Memory.wf s.mem = true) :
    Memory.wf (abortItem n s).mem = true := by
  have rounds : ∀ (l : FMap Round) (t : State) (st : Nat), Memory.wf t.mem = true →
      Memory.wf (l.foldl (fun s kv => endRound kv.1 st s) t).mem = true := fun l t st =>
    foldl_wf (fun _ _ h => endRound_wf _ _ _ h) l t
  have ctxs : ∀ (l : List (Nat × Nat)) (t : State) (st : Nat), (l.foldl (fun s tc => endCtx tc.1 tc.2 st s) t).mem = t.mem :=
    fun l t st => foldl_mem (fun s tc => endCtx_mem ..) l t
  simp only [abortItem]
  repeat' split
  all_goals simp [ctxs, h, rounds]

@[simp] theorem abortTask_wf (k : Task) (s : State) (h : Memory.wf s.mem = true) :
    Memory.wf (abortTask k s).mem = true := by
  simp only [abortTask]
  repeat' split
  all_goals simp [h]

@[simp] theorem removeIndex_wf (k : Nat) (x : Index) (s : State) (h : Memory.wf s.mem = true) :
    Memory.wf (removeIndex k x s).mem = true := by
  rw [removeIndex, ptcDoneAll_mem]
  exact foldl_wf (fun _ _ h => releasePage_wf _ _ _ h) _ _ h

@[simp] theorem removeStore_wf (k : Nat) (x : Store) (s : State) (h : Memory.wf s.mem = true) :
    Memory.wf (removeStore k x s).mem = true := by
  rw [removeStore, ptcDoneAll_mem]
  exact foldl_wf (fun _ _ h => releasePage_wf _ _ _ h) _ _ h

@[simp] theorem destroyServices_wf (s : State) (h : Memory.wf s.mem = true) :
    Memory.wf (destroyServices s).mem = true :=
  foldl_wf (fun _ _ h => removeStore_wf _ _ _ h) _ _ (foldl_wf (fun _ _ h => removeIndex_wf _ _ _ h) _ _ h)

@[simp] theorem settleAll_wf (s : State) (h : Memory.wf s.mem = true) :
    Memory.wf (settleAll s).mem = true := by
  simp [settleAll, h]

@[simp] theorem endQueued_wf (t : Nat) (s : State) (h : Memory.wf s.mem = true) :
    Memory.wf (endQueued t s).mem = true := by
  simp only [endQueued]
  refine foldl_wf (fun s a h => ?_) _ _ (by simpa using h)
  all_goals simp [h]

@[simp] theorem readOutLine_wf (t key : Nat) (l : SliceLine) (bad : Bool) (s : State) (h : Memory.wf s.mem = true) :
    Memory.wf (readOutLine t key l bad s).mem = true := by
  simp only [readOutLine]
  repeat' split
  all_goals simp [h]

@[simp] theorem readOut_wf (t : Nat) (unreadable : List Nat) (s : State) (h : Memory.wf s.mem = true) :
    Memory.wf (readOut t unreadable s).mem = true :=
  foldl_wf (fun _ _ h => readOutLine_wf _ _ _ _ _ h) _ _ (foldl_wf (fun _ _ h => readOutLine_wf _ _ _ _ _ h) _ _ h)

@[simp] theorem scriptWrite_wf (s : State) (x v : Nat) (h : Memory.wf s.mem = true) :
    ∀ t, scriptWrite s x v = some t → Memory.wf t.mem = true := by
  grind [scriptWrite, writeOd_wf, Acc.st_ok, Acc.st_bad, Acc.st_wait]

@[simp] theorem homeAck_wf (mtype : Nat) (m : CohMsg) (s : State) (h : Memory.wf s.mem = true) :
    Memory.wf (homeAck mtype m s).mem = true := by
  grind [homeAck, closeTxn_wf, cohTake_mem, State.setCh_mem, snoop_mem, beginHome_mem, Acc.st_ok, Acc.st_bad, Acc.st_wait]

@[simp] theorem resolvePrepared_wf (a : Nat) (s : State) (h : Memory.wf s.mem = true) :
    Memory.wf (resolvePrepared a s).mem = true := by
  simp only [resolvePrepared]
  repeat' split
  all_goals simp [h]

@[simp] theorem addWithdrawal_wf (w : Withdrawal) (s : State) (h : Memory.wf s.mem = true) :
    Memory.wf (addWithdrawal w s).mem = true := by
  simp [addWithdrawal, h]

@[simp] theorem copyLocal_wf (n : Nat) (c : Copy) (right offset len : Nat) (bytes : List Byte) (s : State)
    (h : Memory.wf s.mem = true) :
    Memory.wf (copyLocal n c right offset len bytes s).mem = true := by
  simp only [copyLocal]
  split
  · simpa using h
  case h_2 a _ =>
    split
    · split
      · simpa using h
      · rw [modCopy_mem, foldl_mem fun _ _ => interceptWrite_mem ..]
        exact h
    · split
      case h_1 hu => split <;> simp [mem_of_pair (writeOk_mem ..) hu, h]
      case h_2 hu => simp [mem_of_pair (writeOk_mem ..) hu, h]
      case h_3 hu => simp [mem_of_pair (writeOk_mem ..) hu, h]

@[simp] theorem copySend_wf (n fuel : Nat) (s : State) (h : Memory.wf s.mem = true) :
    Memory.wf (copySend n fuel s).mem = true := by
  induction fuel generalizing s with
  | zero => exact h
  | succ fuel ih =>
    simp only [copySend]
    split
    · exact h
    split
    · exact h
    split
    · simpa using h
    · exact h
    · simpa using h
    split
    · exact h
    · simpa using h
    refine ih _ ?_
    split <;> simp [h]

@[simp] theorem casWord_wf (a tenant old new : Nat) (s : State) (h : Memory.wf s.mem = true) :
    ∀ x, casWord a tenant old new s = some x → Memory.wf x.2.2.mem = true := by
  grind [casWord, putWord_wf, writeOk_mem, Acc.st_ok, Acc.st_bad, Acc.st_wait]

@[simp] theorem startWithdrawal_wf (port op tenant tag first pages : Nat) (windows : List Nat) (p : PtcEnt → Bool)
    (s : State) (h : Memory.wf s.mem = true) :
    Memory.wf (startWithdrawal port op tenant tag first pages windows p s).mem = true := by
  simp [startWithdrawal, h]

@[simp] theorem abortEnts_wf (ents : List Nat) (s : State) (h : Memory.wf s.mem = true) :
    Memory.wf (abortEnts ents s).mem = true := by
  simp only [abortEnts, State.setTr_mem]
  rw [foldl_mem fun _ _ => failStore_mem .., foldl_mem fun _ _ => failIndex_mem ..]
  refine foldl_wf (fun _ _ h => endRound_wf _ _ _ h) _ _ ?_
  rw [foldl_mem fun _ _ => abortPend_mem ..]
  exact h

@[simp] theorem writeParts_wf (n tenant : Nat) (ps : List (Nat × Nat × Nat)) (bytes : List Byte) (s : State)
    (h : Memory.wf s.mem = true) :
    Memory.wf (writeParts n tenant ps bytes s).st.mem = true := by
  have gate := gateParts_mem ps tenant s
  simp only [writeParts]
  split
  · exact h
  · split
    case h_1 hu => exact (mem_of_pair gate hu).symm ▸ h
    case h_2 hu => exact (mem_of_pair gate hu).symm ▸ h
    case h_3 hu =>
      refine foldl_wf (fun s a h => writeRange_wf _ _ _ h) _ _ ?_
      rw [markEffect_mem, mem_of_pair gate hu]
      exact h

@[simp] theorem tryWrite_wf (n tenant pva : Nat) (bytes : List Byte) (s : State) (h : Memory.wf s.mem = true) :
    Memory.wf (tryWrite n tenant pva bytes s).st.mem = true := by
  simp only [tryWrite]
  all_goals (refine (Acc.bind_wf (fun a t ht => ?_) (by simp [h])))
  all_goals simp [ht]

@[simp] theorem putParts_wf (ps : List (Nat × Nat × Nat)) (bytes : List Byte) (s : State) (h : Memory.wf s.mem = true)
    :
    Memory.wf (putParts ps bytes s).mem = true := by
  simp only [putParts]
  refine foldl_wf (fun s a h => ?_) _ _ (by simpa using h)
  all_goals simp [h]

@[simp] theorem writeUnit_wf (r : Round) (u : Nat) (sr : Bool) (a : RArr) (vals : List Nat) (s : State)
    (h : Memory.wf s.mem = true) :
    Memory.wf (writeUnit r u sr a vals s).mem = true := by
  simp [writeUnit, h]

@[simp] theorem applyUnit_wf (k : Nat) (r : Round) (u : Nat) (reduced : List Nat) (s : State)
    (h : Memory.wf s.mem = true) :
    Memory.wf (applyUnit k r u reduced s).st.mem = true := by
  unfold applyUnit
  extract_lets target states publish places
  have hr := readParts_mem places s
  split
  case h_1 hu => exact wf_congr (Acc.mem_of_wait hr hu) h
  case h_2 hu => exact wf_congr ((poisonedUnit_mem ..).trans (Acc.mem_of_bad hr hu)) h
  case h_3 hu =>
    have hu := wf_congr (Acc.mem_of_ok hr hu) h
    dsimp only
    split
    case h_1 =>
      refine wf_congr ?_ hu
      rw [Acc.st_bad]
      repeat' split
      all_goals simp
    case h_2 =>
      split
      case h_1 hx => exact wf_congr (mem_of_pair (gateParts_mem ..) hx) (wf_congr (by repeat' split; all_goals simp) hu)
      case h_2 hx =>
        have hx := wf_congr (mem_of_pair (gateParts_mem ..) hx) (wf_congr (by repeat' split; all_goals simp) hu)
        split
        · simpa using hx
        · exact hx
      case h_3 hx =>
        have hx := wf_congr (mem_of_pair (gateParts_mem ..) hx) (wf_congr (by repeat' split; all_goals simp) hu)
        rw [Acc.st_ok, foldl_mem fun _ _ => putHalf_mem .., foldl_mem fun _ _ => by split <;> simp]
        refine foldl_wf (fun _ _ h => writeUnit_wf _ _ _ _ _ _ h) _ _ ?_
        split
        · simpa using hx
        · refine foldl_wf (fun _ _ h => ?_) _ _ (writeUnit_wf _ _ _ _ _ _ (by simpa using hx))
          split
          · exact h
          · exact writeUnit_wf _ _ _ _ _ _ h

@[simp] theorem windowPut_wf (n : Nat) (i : Item) (d : Dest) (at_ : Nat) (bytes : List Byte) (s : State)
    (h : Memory.wf s.mem = true) :
    Memory.wf (windowPut n i d at_ bytes s).st.mem = true := by
  simp only [windowPut]
  split
  · exact h
  split
  · split
    · exact h
    case h_2 a _ =>
      split
      · rw [Acc.st_ok, modItem_mem, foldl_mem fun _ _ => interceptWrite_mem .., markEffect_mem]
        exact h
      · split
        case h_1 hu => split <;> simp [mem_of_pair (writeOk_mem ..) hu, h]
        case h_2 hu => simp [mem_of_pair (writeOk_mem ..) hu, h]
        case h_3 hu => simp [mem_of_pair (writeOk_mem ..) hu, h]
  · rw [Acc.st_ok, foldl_mem fun _ _ => by simp, markEffect_mem]
    exact h

@[simp] theorem putResult_wf (n : Nat) (i : Item) (d : Dest) (at_ : Nat) (bytes : List Byte) (s : State)
    (h : Memory.wf s.mem = true) :
    Memory.wf (putResult n i d at_ bytes s).st.mem = true := by
  simp only [putResult]
  repeat' split
  all_goals simp [h]

@[simp] theorem writeBags_wf (item : Nat) (i : Item) (l : Lookup) (d : Dest) (fuel b : Nat) (s : State)
    (h : Memory.wf s.mem = true) :
    Memory.wf (writeBags item i l d fuel b s).st.mem = true := by
  induction fuel generalizing b s with
  | zero => exact h
  | succ fuel ih =>
    simp only [writeBags]
    split
    · exact h
    · exact Acc.bind_wf (fun _ t ht => ih _ _ (by simpa using ht)) (putResult_wf _ _ _ _ _ _ h)

@[simp] theorem updateRow_wf (item : Nat) (i : Item) (d : Desc) (row : Nat) (data : List Nat) (s : State)
    (h : Memory.wf s.mem = true) :
    Memory.wf (updateRow item i d row data s).st.mem = true := by
  refine Acc.bind_wf (fun ps t ht => ?_) (by simpa using h)
  split
  · exact ht
  dsimp only
  split
  · exact ht
  split
  · exact ht
  split
  case h_1 hu => exact (mem_of_pair (gateParts_mem ..) hu).symm ▸ ht
  case h_2 hu => exact (mem_of_pair (gateParts_mem ..) hu).symm ▸ ht
  case h_3 u hu =>
    have hum : Memory.wf u.mem = true := (mem_of_pair (gateParts_mem ..) hu).symm ▸ ht
    rw [Acc.bind_ok_st fun _ : Unit => 1]
    refine writeParts_wf _ _ _ _ _ ?_
    rw [toCodes_mem]
    split <;> simpa using hum

@[simp] theorem updateRows_wf (item : Nat) (i : Item) (d : Desc) (fuel k : Nat) (s : State)
    (h : Memory.wf s.mem = true) :
    Memory.wf (updateRows item i d fuel k s).st.mem = true := by
  induction fuel generalizing k s with
  | zero => exact h
  | succ fuel ih =>
    simp only [updateRows]
    split
    · exact h
    refine Acc.bind_wf (fun b t ht => ?_) (by simpa using h)
    split
    · exact ih _ _ (by simpa using ht)
    refine Acc.bind_wf (fun b t ht => ?_) (by split <;> simpa using ht)
    refine Acc.bind_wf (fun what t ht => ?_) (updateRow_wf _ _ _ _ _ _ ht)
    split <;> exact ih _ _ (by simpa using ht)

@[simp] theorem insertOne_wf (item : Nat) (i : Item) (k j : Nat) (x : Index) (s : State) (h : Memory.wf s.mem = true)
    :
    Memory.wf (insertOne item i k j x s).st.mem = true := by
  refine Acc.bind_wf (fun vb t ht => ?_) (by simpa using h)
  refine Acc.bind_wf (fun lb t ht => ?_) (by simpa using ht)
  refine Acc.bind_wf (fun tb t ht => ?_) (by split <;> simpa using ht)
  refine Acc.bind_wf (fun list t ht => ?_) (by split <;> simpa using ht)
  dsimp only
  split
  · exact ht
  split
  · exact ht
  split
  case h_1 hu => simpa [mem_of_pair' (prepareVec_mem ..) hu] using ht
  case h_2 v u hu =>
    have hum : Memory.wf u.mem = true := (mem_of_pair' (prepareVec_mem ..) hu).symm ▸ ht
    split
    · exact hum
    refine Acc.bind_wf (fun _ t ht => ?_) (writeParts_wf _ _ _ _ _ (by simpa using hum))
    split
    · exact Acc.bind_wf (fun x t ht => by simpa using ht) (by simpa using ht)
    · exact Acc.bind_wf (fun x t ht => by simpa using ht) (by simpa using ht)

@[simp] theorem insertFrom_wf (item : Nat) (i : Item) (k fuel j : Nat) (s : State) (h : Memory.wf s.mem = true) :
    Memory.wf (insertFrom item i k fuel j s).st.mem = true := by
  induction fuel generalizing j s with
  | zero => exact h
  | succ fuel ih =>
    simp only [insertFrom]
    split
    · simpa using h
    split
    · exact h
    · exact Acc.bind_wf (fun _ _ ht => ih _ _ ht) (insertOne_wf _ _ _ _ _ _ h)

@[simp] theorem queriesFrom_wf (item : Nat) (i : Item) (x : Index) (e : Nat) (d : Dest) (fuel j : Nat) (s : State)
    (h : Memory.wf s.mem = true) :
    Memory.wf (queriesFrom item i x e d fuel j s).st.mem = true := by
  induction fuel generalizing j s with
  | zero => exact h
  | succ fuel ih =>
    simp only [queriesFrom]
    split
    · exact h
    refine Acc.bind_wf (fun b t ht => ?_) (by simpa using h)
    refine Acc.bind_wf (fun out t ht => ?_) (by simpa using ht)
    exact Acc.bind_wf (fun _ _ ht => ih _ _ (by simpa using ht)) (putResult_wf _ _ _ _ _ _ ht)

@[simp] theorem putData_wf (n : Nat) (i : Item) (x : Store) (r : CReq) (slot fuel at_ : Nat) (s : State)
    (h : Memory.wf s.mem = true) :
    Memory.wf (putData n i x r slot fuel at_ s).st.mem = true := by
  induction fuel generalizing at_ s with
  | zero => exact h
  | succ fuel ih =>
    have store : ∀ (bytes : List Byte) (t : State), Memory.wf t.mem = true →
        Memory.wf ((writeParts n i.tenant (heldRange t x.ptcs x.tenant (blockPva x slot + at_) bytes.length) bytes t).bind fun _ t =>
          putData n i x r slot fuel (at_ + bytes.length)
            (modItem n (fun i => { i with prog := at_ + bytes.length, data := [] }) t)).st.mem = true := fun bytes t ht =>
      Acc.bind_wf (fun _ _ ht => ih _ _ (by simpa using ht)) (writeParts_wf _ _ _ _ _ ht)
    simp only [putData]
    split
    · exact h
    split
    · exact Acc.bind_wf store (by simpa using h)
    · split
      · simpa using h
      · exact store _ _ h
    · exact Acc.bind_wf store (by simpa using h)

@[simp] theorem finishPut_wf (n : Nat) (i : Item) (k : Nat) (x : Store) (r : CReq) (s : State)
    (h : Memory.wf s.mem = true) :
    Memory.wf (finishPut n i k x r s).mem = true := by
  simp only [finishPut]
  all_goals (try simp)
  all_goals (refine (Acc.bind_wf (fun a t ht => ?_) (by simp [h])))
  all_goals repeat' split
  all_goals simp [ht]

@[simp] theorem getData_wf (n : Nat) (i : Item) (x : Store) (c : Nat × Nat) (d : Dest) (fuel at_ : Nat) (s : State)
    (h : Memory.wf s.mem = true) :
    Memory.wf (getData n i x c d fuel at_ s).st.mem = true := by
  induction fuel generalizing at_ s with
  | zero => exact h
  | succ fuel ih =>
    simp only [getData]
    split
    · exact h
    refine Acc.bind_wf (fun bytes t ht => ?_) (by simpa using h)
    exact Acc.bind_wf (fun _ _ ht => ih _ _ (by simpa using ht)) (putResult_wf _ _ _ _ _ _ ht)

@[simp] theorem deliver_wf (n : Nat) (i : Item) (x : Store) (s : State) (h : Memory.wf s.mem = true) :
    Memory.wf (deliver n i x s).mem = true := by
  have post : ∀ (w : List Nat) (t : State), Memory.wf t.mem = true →
      Memory.wf (match postCopy (.item n) i.tenant w t with
        | .error st => endItem n st 0 0 t
        | .ok (_, t) => modItem n (fun i => { i with wait := .engine }) (markEffect n t)).mem = true := by
    intro w t ht
    split
    · simpa using ht
    case h_2 hu => exact wf_congr (((modItem_mem ..).trans (markEffect_mem ..)).trans (postCopy_mem _ _ _ _ _ hu)) ht
  simp only [deliver]
  split
  · exact post _ _ h
  · split
    · exact post _ _ h
    · rw [Acc.run_mem]
      exact Acc.bind_wf (fun _ _ ht => by simpa using ht) (getData_wf _ _ _ _ _ _ _ _ h)

@[simp] theorem takeTurn_wf (n : Nat) (i : Item) (k : Nat) (x : Store) (r : CReq) (s : State)
    (h : Memory.wf s.mem = true) :
    Memory.wf (takeTurn n i k x r s).mem = true := by
  unfold takeTurn
  extract_lets c version mismatch s1
  have h1 : Memory.wf s1.mem = true := by simpa [s1] using h
  clear_value s1 mismatch version c
  split
  · split
    · simpa using h1
    split
    case h_1 hu => exact wf_congr (mem_of_pair' (takeSlot_mem ..) hu) h1
    case h_2 hu =>
      have hu1 := wf_congr (mem_of_pair' (takeSlot_mem ..) hu) h1
      dsimp only
      split
      · exact finishPut_wf _ _ _ _ _ _ (by simpa using hu1)
      · simpa using hu1
  · split
    · simpa using h1
    · simpa using h1
  · exact deliver_wf _ _ _ _ (by simpa using h1)
  · split <;> simpa using h1
  · split <;> simpa using h1
  · split
    · simpa using h1
    · split <;> simpa using h1
  · rw [endItem_mem, foldl_mem fun _ _ => by split <;> simp]
    exact h1
  · simpa using h1
  · exact h1

@[simp] theorem runReq_wf (n k : Nat) (s : State) (h : Memory.wf s.mem = true) :
    Memory.wf (runReq n k s).mem = true := by
  simp only [runReq]
  split
  · split
    · exact h
    split
    · simpa using h
    split
    · split
      · exact finishPut_wf _ _ _ _ _ _ h
      · exact deliver_wf _ _ _ _ h
    split
    · exact h
    rw [Acc.run_mem]
    refine Acc.bind_wf (fun go t ht => ?_) (by simpa using h)
    split
    · exact ht
    refine Acc.bind_wf (fun go t ht => ?_) (by simpa using ht)
    split
    · exact ht
    refine Acc.bind_wf (fun good t ht => ?_) (by split <;> simpa using ht)
    split
    · exact ht
    · exact takeTurn_wf _ _ _ _ _ _ ht
  · exact h

@[simp] theorem hostOp_wf (n op : Nat) (s : State) (h : Memory.wf s.mem = true) :
    Memory.wf (hostOp n op s).mem = true := by
  unfold hostOp
  split
  · exact h
  extract_lets again s1
  have h1 : Memory.wf s1.mem = true := by simpa [s1] using h
  split
  · exact h
  split
  · exact h
  split
  · split
    · simpa using h1
    · exact checked_wf (fun t ht => runReq_wf _ _ _ (by simpa using ht)) _ _ _ h1
  · exact runReq_wf _ _ _ h1

@[simp] theorem remoteOp_wf (write op : Nat) (s : State) (h : Memory.wf s.mem = true) :
    Memory.wf (remoteOp write op s).mem = true := by
  unfold remoteOp
  split
  · exact h
  split
  · split
    · exact h
    split
    · exact h
    dsimp only
    split
    · simpa using h
    split
    · exact h
    split
    · simpa using h
    · exact replyLine_wf _ _ (checked_wf (fun t ht => runReq_wf _ _ _ ht) _ _ _ (by simpa using h))
  · split
    · exact h
    extract_lets again
    split
    · exact h
    split
    · exact replyLine_wf _ _ h
    split
    · exact h
    · exact replyLine_wf _ _ (runReq_wf _ _ _ h)

@[simp] theorem segsFrom_wf (item : Nat) (i : Item) (p : CrcPar) (fuel k : Nat) (s : State)
    (h : Memory.wf s.mem = true) :
    Memory.wf (segsFrom item i p fuel k s).st.mem = true := by
  induction fuel generalizing k s with
  | zero => exact h
  | succ fuel ih =>
    simp only [segsFrom]
    split
    · exact h
    refine Acc.bind_wf (fun v t ht => ?_) (by simpa using h)
    split
    · exact ih _ _ (by simpa using ht)
    · exact Acc.bind_wf (fun _ _ ht => ih _ _ (by simpa using ht)) (by split <;> simp [ht])

@[simp] theorem fenceKit_wf (kit : Nat) (s : State) (h : Memory.wf s.mem = true) :
    Memory.wf (fenceKit kit s).mem = true := by
  refine settleAll_wf _ ?_
  rw [foldl_mem fun _ _ => rehome_mem .., loseChime_mem, foldl_mem fun _ _ => markFenced_mem .., State.setCo_mem]
  refine foldl_wf (fun t k ht => readOut_wf _ _ _ (endQueued_wf _ _ (by simpa using ht))) _ _ ?_
  simpa using h

@[simp] theorem kitFailed_wf (x : Reset) (detail : Nat) (s : State) (h : Memory.wf s.mem = true) :
    Memory.wf (kitFailed x detail s).mem = true := by
  simp only [kitFailed]
  repeat' split
  all_goals simp [h]

end Sys2Proof.Machine

/-!
PROOFS. Every row keeps the bytes of the range in canonical form: one lemma for each row, in the order of `exec`.
-/

namespace Sys2Proof.Machine

/-- The next state, if there is one, has its memory in canonical form. -/
def WfNext (r : Res3) : Prop := ∀ t, r = .next t → Memory.wf t.mem = true

@[simp] theorem wfNext_next (t : State) : WfNext (.next t) ↔ Memory.wf t.mem = true :=
  ⟨fun h => h t rfl, fun h u hu => by cases hu; exact h⟩

@[simp] theorem wfNext_fault (f : Fault) : WfNext (.fault f) := fun _ h => nomatch h

@[simp] theorem wfNext_refused (r : Refusal) : WfNext (.refused r) := fun _ h => nomatch h

@[simp] theorem wfNext_act {s t : State} (h : Memory.wf s.mem = true) (ht : Memory.wf t.mem = true) : WfNext (s.act t) := by
  rw [State.act, wfNext_next]
  split <;> assumption

/-- What leaves everything outside the program alone leaves the bytes of the range alone. -/
theorem StaysInside.wfNext {s : State} {r : Res3} (hr : StaysInside s r) (h : Memory.wf s.mem = true) : WfNext r := by
  obtain ⟨t, rfl, ho⟩ := hr
  exact (wfNext_next t).2 (wf_congr (congrArg Prod.fst ho) h)

theorem spdmServe_wf {k : State → State} (hk : ∀ t, Memory.wf t.mem = true → Memory.wf (k t).mem = true) (port : Nat) (s : State)
    (h : Memory.wf s.mem = true) : Memory.wf (spdmServe port s k).mem = true := by
  simp only [spdmServe]
  repeat' split
  all_goals simp [hk, h]

theorem cmdEntry_wf {k : Nat → Nat → State → State} (hk : ∀ a b t, Memory.wf t.mem = true → Memory.wf (k a b t).mem = true)
    (port op : Nat) (e : Quad) (s : State) (h : Memory.wf s.mem = true) : Memory.wf (cmdEntry port op e s k).mem = true := by
  simp only [cmdEntry]
  repeat' split
  all_goals simp [hk, h]

theorem withPages_wf {k : List Nat → State → State} (hk : ∀ l t, Memory.wf t.mem = true → Memory.wf (k l t).mem = true)
    (item : Nat) (i : Item) (s : State) (h : Memory.wf s.mem = true) : Memory.wf (withPages item i s k).mem = true := by
  have hw := walkPages_mem item i s
  simp only [withPages]
  split
  case h_1 hu => exact hk _ _ (wf_congr (Acc.mem_of_ok hw hu) h)
  case h_2 hu => simp [Acc.mem_of_bad hw hu, h]
  case h_3 hu => exact wf_congr (Acc.mem_of_wait hw hu) h

theorem withIndex_wf {k : Nat → Index → State → State} (hk : ∀ n x t, Memory.wf t.mem = true → Memory.wf (k n x t).mem = true)
    (item : Nat) (i : Item) (s : State) (h : Memory.wf s.mem = true) : Memory.wf (withIndex item i s k).mem = true := by
  simp only [withIndex]
  repeat' split
  all_goals simp [hk, h]

theorem Acc.wf_of_ok {α : Type} {x : Acc α} {a : α} {t : State} (h : Memory.wf x.st.mem = true) (e : x = .ok a t) : Memory.wf t.mem = true := by
  subst e; exact h

theorem Acc.wf_of_bad {α : Type} {x : Acc α} {n : Nat} {t : State} (h : Memory.wf x.st.mem = true) (e : x = .bad n t) : Memory.wf t.mem = true := by
  subst e; exact h

theorem Acc.wf_of_wait {α : Type} {x : Acc α} {t : State} (h : Memory.wf x.st.mem = true) (e : x = .wait t) : Memory.wf t.mem = true := by
  subst e; exact h

section Rows

variable {s : State} (h : Memory.wf s.mem = true)
include h

theorem rowWrite_wf (key : Nat) (who : Session) (m : OdpMsg) : WfNext (rowWrite key who m s) := by
  rw [rowWrite, wfNext_next]
  split <;> simp [h]

theorem issue_wf {k : Ctx → State → State} (hk : ∀ c t, Memory.wf t.mem = true → Memory.wf (k c t).mem = true) (op : Op)
    (p : Proc) (w : BitVec 32) : WfNext (issue op p w k s) := by
  simp only [issue]
  repeat' split
  all_goals simp [hk, h]

theorem execUncorrectableLine_wf (pha copy : Nat) : WfNext (execUncorrectableLine pha copy s) := by
  simp only [execUncorrectableLine]
  repeat' split
  all_goals simp [h]

theorem execPowerGood_wf : WfNext (execPowerGood s) := by
  simp only [execPowerGood]
  repeat' split
  all_goals simp [h]

theorem execResetNAssert_wf : WfNext (execResetNAssert s) := by
  simp only [execResetNAssert]
  repeat' split
  all_goals simp [h]

theorem execResetNDeassert_wf (heldNs canId : Nat) : WfNext (execResetNDeassert heldNs canId s) := by
  simp only [execResetNDeassert]
  repeat' split
  all_goals simp [h]

theorem execSupplyLoss_wf : WfNext (execSupplyLoss s) := by
  simp only [execSupplyLoss]
  repeat' split
  all_goals simp [h]

theorem execPwrWarnNAssert_wf : WfNext (execPwrWarnNAssert s) := by
  simp only [execPwrWarnNAssert]
  repeat' split
  all_goals simp [h]

theorem execVddCoreSag_wf (kit mv : Nat) : WfNext (execVddCoreSag kit mv s) := by
  simp only [execVddCoreSag]
  repeat' split
  all_goals simp [h]

theorem execSagPersistExpiry_wf : WfNext (execSagPersistExpiry s) := by
  simp only [execSagPersistExpiry]
  repeat' split
  all_goals simp [h]

theorem execShedS1Enter_wf : WfNext (execShedS1Enter s) := by
  simp [execShedS1Enter, h]

theorem execShedS2Enter_wf : WfNext (execShedS2Enter s) := by
  simp [execShedS2Enter, h]

theorem execShedS3Enter_wf : WfNext (execShedS3Enter s) := by
  simp [execShedS3Enter, h]

theorem execShedS4Enter_wf : WfNext (execShedS4Enter s) := by
  simp only [execShedS4Enter]
  repeat' split
  all_goals simp [h]

theorem execS4FlushDone_wf : WfNext (execS4FlushDone s) := by
  simp only [execS4FlushDone]
  repeat' split
  all_goals simp [h]

theorem execPwrSafeAssert_wf : WfNext (execPwrSafeAssert s) := by
  simp only [execPwrSafeAssert]
  repeat' split
  all_goals simp [h]

theorem execShedLift_wf : WfNext (execShedLift s) := by
  refine (wfNext_next _).2 ?_
  dsimp only
  repeat' split
  all_goals simp [h]

theorem execDomainSleep_wf (d : ClkDomain) : WfNext (execDomainSleep d s) := by
  simp only [execDomainSleep]
  repeat' split
  all_goals simp [h]

theorem execDomainWake_wf (d : ClkDomain) : WfNext (execDomainWake d s) := by
  simp only [execDomainWake]
  repeat' split
  all_goals simp [h]

theorem execAvsLoopPeriod_wf (lowest : List (Nat × Nat)) : WfNext (execAvsLoopPeriod lowest s) := by
  simp only [execAvsLoopPeriod]
  repeat' split
  all_goals simp [h]

theorem execDroopDetected_wf (kit : Nat) : WfNext (execDroopDetected kit s) := by
  simp only [execDroopDetected]
  repeat' split
  all_goals simp [h]

theorem execFreqLoopPeriod_wf : WfNext (execFreqLoopPeriod s) := by
  simp only [execFreqLoopPeriod]
  repeat' split
  all_goals simp [h]

theorem execPkgPowerLoopPeriod_wf (meanMw : Nat) : WfNext (execPkgPowerLoopPeriod meanMw s) := by
  simp only [execPkgPowerLoopPeriod]
  repeat' split
  all_goals simp [h]

theorem execTempLoopPeriod_wf (kits hbm others : List (Nat × Int)) (overRated : List Nat) :
    WfNext (execTempLoopPeriod kits hbm others overRated s) := by
  simp only [execTempLoopPeriod]
  repeat' split
  all_goals simp [h]

theorem execBootIslandUp_wf : WfNext (execBootIslandUp s) := by
  simp only [execBootIslandUp]
  repeat' split
  all_goals simp [h]

theorem execImageLoaded_wf : WfNext (execImageLoaded s) := by
  simp only [execImageLoaded]
  repeat' split
  all_goals simp [h]

theorem execDramTrained_wf (failedStacks failedDimms : List Nat) :
    WfNext (execDramTrained failedStacks failedDimms s) := by
  simp only [execDramTrained]
  repeat' split
  all_goals simp [h]

theorem execMountDone_wf (missingDies : List (Nat × Nat)) (missingChannels : List Nat) :
    WfNext (execMountDone missingDies missingChannels s) := by
  simp only [execMountDone]
  repeat' split
  all_goals simp [h]

theorem execBootReady_wf : WfNext (execBootReady s) := by
  simp only [execBootReady]
  repeat' split
  all_goals simp [h]

theorem execRecoveryStackTrained_wf (stack0Ok stack4Ok : Bool) :
    WfNext (execRecoveryStackTrained stack0Ok stack4Ok s) := by
  simp only [execRecoveryStackTrained]
  repeat' split
  all_goals simp [h]

theorem execRegistrationAttempt_wf : WfNext (execRegistrationAttempt s) := by
  simp only [execRegistrationAttempt]
  repeat' split
  all_goals simp [h]

theorem execFwProgramDone_wf (readsBackEqual : Bool) : WfNext (execFwProgramDone readsBackEqual s) := by
  simp only [execFwProgramDone]
  repeat' split
  all_goals simp [h]

theorem execGetVersion_wf (port : Nat) : WfNext (execGetVersion port s) := by
  refine (wfNext_next _).2 (spdmServe_wf (fun t ht => ?_) _ _ h)
  all_goals simp [ht]

theorem execGetCapabilities_wf (port ver : Nat) : WfNext (execGetCapabilities port ver s) := by
  grind [execGetCapabilities, spdmServe_mem, emit_mem, spdmError_mem, State.act, wfNext_next]

theorem execNegotiateAlgorithms_wf (port ver asym hash : Nat) :
    WfNext (execNegotiateAlgorithms port ver asym hash s) := by
  refine (wfNext_next _).2 (spdmServe_wf (fun t ht => ?_) _ _ h)
  repeat' split
  all_goals simp [ht]

theorem execGetDigests_wf (port ver : Nat) : WfNext (execGetDigests port ver s) := by
  grind [execGetDigests, spdmAgreed_mem, emit_mem, State.act, wfNext_next]

theorem execGetCertificate_wf (port ver slot offset len : Nat) :
    WfNext (execGetCertificate port ver slot offset len s) := by
  simp only [execGetCertificate]
  all_goals simp [h, apply_ite State.mem]

theorem execChallenge_wf (port ver slot nonce : Nat) : WfNext (execChallenge port ver slot nonce s) := by
  simp only [execChallenge]
  repeat' split
  all_goals simp [h]

theorem execGetMeasurements_wf (port ver index nonce : Nat) :
    WfNext (execGetMeasurements port ver index nonce s) := by
  grind [execGetMeasurements, spdmAgreed_mem, spdmError_mem, drawEntropy_mem, emit_mem, State.act, wfNext_next]

theorem execDriftRound_wf : WfNext (execDriftRound s) := by
  simp only [execDriftRound]
  repeat' split
  all_goals simp [h]

theorem execDrumbeatRunEnd_wf (task : Nat) : WfNext (execDrumbeatRunEnd task s) := by
  simp only [execDrumbeatRunEnd]
  repeat' split
  all_goals simp [h]

theorem execFrostGcRun_wf (moved : List (Nat × FrostLoc)) : WfNext (execFrostGcRun moved s) := by
  simp only [execFrostGcRun]
  repeat' split
  all_goals simp [h]

theorem execScrubRun_wf (badLines : List Nat) (marginal : List (Nat × FrostLoc)) :
    WfNext (execScrubRun badLines marginal s) := by
  have uncorr : ∀ (l : List Nat) (t : State), Memory.wf t.mem = true → Memory.wf (l.foldl (fun s a =>
      match execUncorrectableLine a 0 s with
      | .next s' => s'
      | _ => s) t).mem = true := fun l t => foldl_wf (fun s a hs => by
    split
    case h_1 hu => exact execUncorrectableLine_wf hs _ _ _ hu
    case h_2 => exact hs) l t
  refine (wfNext_next _).2 ?_
  split
  · exact h
  · dsimp only
    split
    · rw [remap_mem]
      exact uncorr _ _ (by simpa using h)
    · exact uncorr _ _ (by simpa using h)

theorem execCumulusEvictionRound_wf : WfNext (execCumulusEvictionRound s) := by
  refine (wfNext_next _).2 ?_
  split
  · exact h
  · refine wf_congr (foldl_mem (fun t kv => ?_) _ _) (wf_congr (drumBegin_mem ..) h)
    dsimp only
    split
    · rfl
    · refine foldl_mem (fun t p => ?_) _ _
      repeat' split
      all_goals simp

theorem execJournalFlush_wf : WfNext (execJournalFlush s) := by
  simp only [execJournalFlush]
  repeat' split
  all_goals simp [h]

theorem execDriftChunkCopyDone_wf (move : Nat) : WfNext (execDriftChunkCopyDone move s) := by
  simp only [execDriftChunkCopyDone]
  repeat' split
  all_goals simp [h]

theorem execSwitchComplete_wf (move : Nat) : WfNext (execSwitchComplete move s) := by
  simp only [execSwitchComplete]
  repeat' split
  all_goals simp [h]

theorem execSwitchStallExpiry_wf (move : Nat) : WfNext (execSwitchStallExpiry move s) := by
  simp only [execSwitchStallExpiry]
  repeat' split
  all_goals simp [h]

theorem execMoveTimeout_wf (move : Nat) : WfNext (execMoveTimeout move s) := by
  simp only [execMoveTimeout]
  repeat' split
  all_goals simp [h]

theorem execSourceRefcountZero_wf (tier slot : Nat) : WfNext (execSourceRefcountZero tier slot s) := by
  simp only [execSourceRefcountZero]
  repeat' split
  all_goals simp [h]

theorem execModuleLost_wf (module : Nat) : WfNext (execModuleLost module s) := by
  simp only [execModuleLost]
  repeat' split
  all_goals simp [h]

theorem execPageRebuildDone_wf (page : Nat) : WfNext (execPageRebuildDone page s) := by
  simp only [execPageRebuildDone]
  repeat' split
  all_goals simp [h]

theorem execWaitingPageHomed_wf (page : Nat) : WfNext (execWaitingPageHomed page s) := by
  simp only [execWaitingPageHomed]
  repeat' split
  all_goals simp [h]

theorem execTierDrainDone_wf : WfNext (execTierDrainDone s) := by
  have fin : ∀ (st : Nat) (l : List Nat) (t : State), (l.foldl (fun s i => endItem i st 0 0 s) t).mem = t.mem :=
    fun st l t => foldl_mem (fun _ _ => endItem_mem ..) l t
  refine wfNext_act h ?_
  dsimp only
  repeat' split
  all_goals simp [fin, h]

theorem execFrostUnitReadDone_wf (unit corrected : Nat) (decoded : Bool) :
    WfNext (execFrostUnitReadDone unit corrected decoded s) := by
  simp only [execFrostUnitReadDone]
  repeat' split
  all_goals simp [h]

theorem execFrostReadRetryDone_wf (unit : Nat) (decoded : Bool) : WfNext (execFrostReadRetryDone unit decoded s) := by
  simp only [execFrostReadRetryDone]
  repeat' split
  all_goals simp [h]

theorem execFrostParityRebuildDone_wf (unit : Nat) : WfNext (execFrostParityRebuildDone unit s) := by
  simp only [execFrostParityRebuildDone]
  repeat' split
  all_goals simp [h]

theorem execReadDisturbRelocate_wf (block : Nat) (moved : List (Nat × FrostLoc)) :
    WfNext (execReadDisturbRelocate block moved s) := by
  simp only [execReadDisturbRelocate]
  repeat' split
  all_goals simp [h]

theorem execBufferUnitFillDone_wf (unit : Nat) : WfNext (execBufferUnitFillDone unit s) := by
  simp [execBufferUnitFillDone, h]

theorem execFlushAgeExpiry_wf (unit : Nat) : WfNext (execFlushAgeExpiry unit s) := by
  simp only [execFlushAgeExpiry]
  repeat' split
  all_goals simp [h]

theorem execFrostProgramDone_wf (unit : Nat) (loc : FrostLoc) (ok : Bool) :
    WfNext (execFrostProgramDone unit loc ok s) := by
  simp only [execFrostProgramDone]
  repeat' split
  all_goals simp [h]

theorem execJournalGroupCommit_wf : WfNext (execJournalGroupCommit s) := by
  simp only [execJournalGroupCommit]
  repeat' split
  all_goals simp [h]

theorem execDieBusyTimeout_wf (channel die : Nat) : WfNext (execDieBusyTimeout channel die s) := by
  simp only [execDieBusyTimeout]
  repeat' split
  all_goals simp [h]

theorem execFlashDieLost_wf (channel die : Nat) : WfNext (execFlashDieLost channel die s) := by
  simp only [execFlashDieLost]
  repeat' split
  all_goals simp [h]

theorem execDieRebuildDone_wf (channel die : Nat) (moved : List (Nat × FrostLoc)) :
    WfNext (execDieRebuildDone channel die moved s) := by
  simp only [execDieRebuildDone]
  repeat' split
  all_goals simp [h]

theorem execFlashChannelLost_wf (channel : Nat) : WfNext (execFlashChannelLost channel s) := by
  simp only [execFlashChannelLost]
  repeat' split
  all_goals simp [h]

theorem execDegradedPageMoved_wf (page : Nat) : WfNext (execDegradedPageMoved page s) := by
  simp only [execDegradedPageMoved]
  repeat' split
  all_goals simp [h]

theorem execReencryptDone_wf (tenant : Nat) : WfNext (execReencryptDone tenant s) := by
  simp only [execReencryptDone]
  repeat' split
  all_goals simp [h]

theorem execCloseRecordProgrammed_wf : WfNext (execCloseRecordProgrammed s) := by
  simp only [execCloseRecordProgrammed]
  repeat' split
  all_goals simp [h]

theorem execTaborFence_wf (tabor : Nat) : WfNext (execTaborFence tabor s) := by
  refine wfNext_act h ?_
  split
  · exact h
  case h_2 x _ =>
    extract_lets t sls f cores u v w
    have ht : Memory.wf t.mem = true := wf_congr (by simp only [t]; split <;> simp) h
    clear_value t
    split
    · exact ht
    · refine settleAll_wf _ (endQueued_wf _ _ (wf_congr (endContexts_mem ..) ?_))
      simp only [w, v, u]
      split
      · exact foldl_wf (fun _ _ h => abortTask_wf _ _ h) _ _ (by simpa using ht)
      · simpa using ht

theorem execFenceReadoutDone_wf (tabor : Nat) (unreadable : List Nat) :
    WfNext (execFenceReadoutDone tabor unreadable s) := by
  simp only [execFenceReadoutDone]
  repeat' split
  all_goals simp [h]

theorem execFenceRehomeDone_wf (tabor : Nat) : WfNext (execFenceRehomeDone tabor s) := by
  simp only [execFenceRehomeDone]
  repeat' split
  all_goals simp [h]

theorem execScratchEccError_wf (tabor : Nat) (home : Bool) : WfNext (execScratchEccError tabor home s) := by
  simp only [execScratchEccError]
  repeat' split
  all_goals simp [h]

theorem execSliceTagError_wf (tabor : Nat) : WfNext (execSliceTagError tabor s) := by
  simp only [execSliceTagError]
  repeat' split
  all_goals simp [h]

theorem execInvocationAdmit_wf (tabor : Nat) : WfNext (execInvocationAdmit tabor s) := by
  simp only [execInvocationAdmit]
  repeat' split
  all_goals simp [h]

theorem execProgramResident_wf (tabor handle : Nat) : WfNext (execProgramResident tabor handle s) := by
  simp only [execProgramResident]
  repeat' split
  all_goals simp [h]

theorem execSliceExpiry_wf (tabor : Nat) : WfNext (execSliceExpiry tabor s) := by
  simp only [execSliceExpiry]
  repeat' split
  all_goals simp [h]

theorem execWaitSwitchOut_wf (tabor : Nat) : WfNext (execWaitSwitchOut tabor s) := by
  simp only [execWaitSwitchOut]
  repeat' split
  all_goals simp [h]

theorem execWaitConditionMet_wf (tabor ctx : Nat) : WfNext (execWaitConditionMet tabor ctx s) := by
  simp only [execWaitConditionMet]
  repeat' split
  all_goals simp [h]

theorem execRangeLoadDone_wf (tabor ctx tag : Nat) : WfNext (execRangeLoadDone tabor ctx tag s) := by
  simp only [execRangeLoadDone]
  repeat' split
  all_goals simp [h]

theorem execOdRd_wf (p : Proc) (w : BitVec 32) : WfNext (execOdRd p w s) := by
  refine issue_wf h (fun c t ht => ?_) .odRd p w
  split <;> simp [ht]

theorem execOdWr_wf (p : Proc) (w : BitVec 32) : WfNext (execOdWr p w s) := by
  refine issue_wf h (fun c t ht => ?_) .odWr p w
  split
  case h_1 hu => exact wf_congr (finishOp_mem ..) (scriptWrite_wf _ _ _ ht _ hu)
  case h_2 => simpa using ht

theorem execOdEvent_wf (p : Proc) (w : BitVec 32) : WfNext (execOdEvent p w s) := by
  refine issue_wf h (fun c t ht => ?_) .odEvent p w
  simpa using ht

theorem execWrbEntryExpiry_wf (tabor ctx : Nat) : WfNext (execWrbEntryExpiry tabor ctx s) := by
  simp only [execWrbEntryExpiry]
  repeat' split
  all_goals simp [h]

theorem execCompletionPost_wf (item : Nat) : WfNext (execCompletionPost item s) := by
  simp only [execCompletionPost]
  repeat' split
  all_goals simp [h]

theorem execRdS_wf (m : CohMsg) : WfNext (execRdS m s) := by
  simp [execRdS, h]

theorem execRdX_wf (m : CohMsg) : WfNext (execRdX m s) := by
  simp [execRdX, h]

theorem execUpg_wf (m : CohMsg) : WfNext (execUpg m s) := by
  simp [execUpg, h]

theorem execAtomX_wf (m : CohMsg) : WfNext (execAtomX m s) := by
  simp [execAtomX, h]

theorem execWb_wf (m : CohMsg) : WfNext (execWb m s) := by
  simp [execWb, h]

theorem execEvictClean_wf (m : CohMsg) : WfNext (execEvictClean m s) := by
  simp [execEvictClean, h]

theorem execRdUc_wf (m : CohMsg) : WfNext (execRdUc m s) := by
  simp [execRdUc, h]

theorem execWrUc_wf (m : CohMsg) : WfNext (execWrUc m s) := by
  simp [execWrUc, h]

theorem execAtomHome_wf (m : CohMsg) : WfNext (execAtomHome m s) := by
  simp [execAtomHome, h]

theorem execSnpInv_wf (m : CohMsg) : WfNext (execSnpInv m s) := by
  simp [execSnpInv, h]

theorem execSnpFwdS_wf (m : CohMsg) : WfNext (execSnpFwdS m s) := by
  simp [execSnpFwdS, h]

theorem execSnpFwdX_wf (m : CohMsg) : WfNext (execSnpFwdX m s) := by
  simp [execSnpFwdX, h]

theorem execSnpRecall_wf (m : CohMsg) : WfNext (execSnpRecall m s) := by
  simp [execSnpRecall, h]

theorem execSnpData_wf (m : CohMsg) : WfNext (execSnpData m s) := by
  simp [execSnpData, h]

theorem execAckInv_wf (m : CohMsg) : WfNext (execAckInv m s) := by
  simp [execAckInv, h]

theorem execAckFwd_wf (m : CohMsg) : WfNext (execAckFwd m s) := by
  simp [execAckFwd, h]

theorem execDataHome_wf (m : CohMsg) : WfNext (execDataHome m s) := by
  simp [execDataHome, h]

theorem execGntS_wf (m : CohMsg) : WfNext (execGntS m s) := by
  simp [execGntS, h]

theorem execGntE_wf (m : CohMsg) : WfNext (execGntE m s) := by
  simp [execGntE, h]

theorem execGntM_wf (m : CohMsg) : WfNext (execGntM m s) := by
  simp [execGntM, h]

theorem execGntUpg_wf (m : CohMsg) : WfNext (execGntUpg m s) := by
  simp [execGntUpg, h]

theorem execAtomRsp_wf (m : CohMsg) : WfNext (execAtomRsp m s) := by
  grind [execAtomRsp, cohTake_mem, ucDone_mem, releaseHeld_mem, dropReq_mem, State.act, wfNext_next]

theorem execWbAck_wf (m : CohMsg) : WfNext (execWbAck m s) := by
  grind [execWbAck, cohTake_mem, setWbuf_mem, State.act, wfNext_next]

theorem execUcRsp_wf (m : CohMsg) : WfNext (execUcRsp m s) := by
  grind [execUcRsp, cohTake_mem, ucDone_mem, dropReq_mem, State.act, wfNext_next]

theorem execRefuse_wf (m : CohMsg) : WfNext (execRefuse m s) := by
  refine wfNext_act h ?_
  split
  case h_1 hu => exact wf_congr (mem_of_pair (cohTake_mem ..) hu) h
  case h_2 hu =>
    have hu := wf_congr (mem_of_pair (cohTake_mem ..) hu) h
    split
    · exact hu
    · split
      · exact hu
      · dsimp only
        repeat' split
        all_goals simp [hu]

theorem execCombineEntryApply_wf (sliver entry : Nat) : WfNext (execCombineEntryApply sliver entry s) := by
  simp only [execCombineEntryApply]
  repeat' split
  all_goals simp [h]

theorem execBackoffResend_wf (tag : Nat) : WfNext (execBackoffResend tag s) := by
  simp only [execBackoffResend]
  repeat' split
  all_goals simp [h]

theorem execHomeTimeoutExpiry_wf (line : Nat) : WfNext (execHomeTimeoutExpiry line s) := by
  simp only [execHomeTimeoutExpiry]
  repeat' split
  all_goals simp [h]

theorem execSnoopResend_wf (line : Nat) : WfNext (execSnoopResend line s) := by
  simp only [execSnoopResend]
  repeat' split
  all_goals simp [h]

theorem execDomainHello_wf (m : CohMsg) : WfNext (execDomainHello m s) := by
  refine wfNext_act h ?_
  split
  case h_1 hu => exact wf_congr (mem_of_pair (formTake_mem ..) hu) h
  case h_2 hu =>
    have hu := wf_congr (mem_of_pair (formTake_mem ..) hu) h
    dsimp only
    repeat' split
    all_goals simp [hu]

theorem execDomainHelloTimer_wf : WfNext (execDomainHelloTimer s) := by
  simp only [execDomainHelloTimer]
  repeat' split
  all_goals simp [h]

theorem execDomainPropose_wf (m : CohMsg) : WfNext (execDomainPropose m s) := by
  grind [execDomainPropose, formTake_mem, formMsg_mem, State.act, wfNext_next]

theorem execDomainConfirm_wf (m : CohMsg) : WfNext (execDomainConfirm m s) := by
  refine wfNext_act h ?_
  split
  case h_1 hu => exact wf_congr (mem_of_pair (formTake_mem ..) hu) h
  case h_2 hu =>
    have hu := wf_congr (mem_of_pair (formTake_mem ..) hu) h
    dsimp only
    repeat' split
    all_goals simp [hu]

theorem execDomainCommit_wf (m : CohMsg) : WfNext (execDomainCommit m s) := by
  grind [execDomainCommit, formTake_mem, formDomain_mem, State.act, wfNext_next]

theorem execDomainRefuse_wf (m : CohMsg) : WfNext (execDomainRefuse m s) := by
  simp [execDomainRefuse, h]

theorem execFormWaitExpiry_wf : WfNext (execFormWaitExpiry s) := by
  simp only [execFormWaitExpiry]
  repeat' split
  all_goals simp [h]

theorem execPeerLost_wf (node : Nat) : WfNext (execPeerLost node s) := by
  simp only [execPeerLost]
  repeat' split
  all_goals simp [h]

theorem execLaneSignalDetect_wf (sub : Nat) : WfNext (execLaneSignalDetect sub s) := by
  simp only [execLaneSignalDetect]
  repeat' split
  all_goals simp [h]

theorem execAnegComplete_wf (sub : Nat) : WfNext (execAnegComplete sub s) := by
  simp only [execAnegComplete]
  repeat' split
  all_goals simp [h]

theorem execEqAdaptComplete_wf (sub : Nat) : WfNext (execEqAdaptComplete sub s) := by
  simp only [execEqAdaptComplete]
  repeat' split
  all_goals simp [h]

theorem execPcsLock_wf (sub partnerMac : Nat) : WfNext (execPcsLock sub partnerMac s) := by
  simp only [execPcsLock]
  repeat' split
  all_goals simp [h]

theorem execTrainingTimeout_wf (port : Nat) (pair0 pair1 : Bool) :
    WfNext (execTrainingTimeout port pair0 pair1 s) := by
  simp only [execTrainingTimeout]
  repeat' split
  all_goals simp [h]

theorem execMkpduRx_wf (sub ckn : Nat) : WfNext (execMkpduRx sub ckn s) := by
  simp only [execMkpduRx]
  repeat' split
  all_goals simp [h]

theorem execSakInstalled_wf (sub : Nat) : WfNext (execSakInstalled sub s) := by
  simp only [execSakInstalled]
  repeat' split
  all_goals simp [h]

theorem execLinkDown_wf (sub : Nat) : WfNext (execLinkDown sub s) := by
  simp only [execLinkDown]
  repeat' split
  all_goals simp [h]

theorem execLaneLockLoss_wf (sub lane : Nat) : WfNext (execLaneLockLoss sub lane s) := by
  simp only [execLaneLockLoss]
  repeat' split
  all_goals simp [h]

theorem execSerWindowExceeded_wf (sub errors symbols : Nat) :
    WfNext (execSerWindowExceeded sub errors symbols s) := by
  simp only [execSerWindowExceeded]
  repeat' split
  all_goals simp [h]

theorem execLldpRx_wf (sub : Nat) (n : Neighbour) : WfNext (execLldpRx sub n s) := by
  simp only [execLldpRx]
  repeat' split
  all_goals simp [h]

theorem execLldpTxTimer_wf (sub : Nat) : WfNext (execLldpTxTimer sub s) := by
  simp only [execLldpTxTimer]
  repeat' split
  all_goals simp [h]

theorem execNeighbourAgeOut_wf (sub : Nat) : WfNext (execNeighbourAgeOut sub s) := by
  simp only [execNeighbourAgeOut]
  repeat' split
  all_goals simp [h]

theorem execSubportTxSelect_wf (sub : Nat) : WfNext (execSubportTxSelect sub s) := by
  simp only [execSubportTxSelect]
  repeat' split
  all_goals simp [h]

theorem execXltRead_wf (f : RxFrame) : WfNext (execXltRead f s) := by
  simp [execXltRead, h]

theorem execXltWrite_wf (f : RxFrame) : WfNext (execXltWrite f s) := by
  simp [execXltWrite, h]

theorem execFlagStore_wf (f : RxFrame) : WfNext (execFlagStore f s) := by
  simp [execFlagStore, h]

theorem execFlagStoreRelease_wf (node tc psn : Nat) : WfNext (execFlagStoreRelease node tc psn s) := by
  simp only [execFlagStoreRelease]
  repeat' split
  all_goals simp [h]

theorem execAtomic_wf (f : RxFrame) : WfNext (execAtomic f s) := by
  simp [execAtomic, h]

theorem execBulk_wf (f : RxFrame) : WfNext (execBulk f s) := by
  grind [execBulk, rxHeader_mem, rxPsn_mem, modRx_mem, endPkt_mem, bulkReplies_mem, startPkt_mem, State.act, wfNext_next]

theorem execCopyData_wf (f : RxFrame) : WfNext (execCopyData f s) := by
  simp [execCopyData, h]

theorem execResponse_wf (f : RxFrame) : WfNext (execResponse f s) := by
  refine (wfNext_next _).2 ?_
  split
  case h_1 hu => exact wf_congr (mem_of_pair (ctlTake_mem ..) hu) h
  case h_2 hu =>
    have hu := wf_congr (mem_of_pair (ctlTake_mem ..) hu) h
    dsimp only
    split
    · simpa using hu
    · refine foldl_wf (fun t kv ht => ?_) _ _ hu
      repeat' split
      all_goals simp [ht]

theorem execApplied_wf (f : RxFrame) : WfNext (execApplied f s) := by
  refine (wfNext_next _).2 ?_
  split
  case h_1 hu => exact wf_congr (mem_of_pair (ctlTake_mem ..) hu) h
  case h_2 hu =>
    have hu := wf_congr (mem_of_pair (ctlTake_mem ..) hu) h
    split
    · exact hu
    · exact wf_congr (foldl_mem (fun _ _ => finishReq_mem ..) _ _) hu

theorem execAck_wf (f : RxFrame) : WfNext (execAck f s) := by
  grind [execAck, ctlTake_mem, cutRate_mem, ackUpTo_mem, State.act, wfNext_next]

theorem execNak_wf (f : RxFrame) : WfNext (execNak f s) := by
  grind [execNak, ctlTake_mem, cutRate_mem, restartPath_mem, resendAll_mem, ackUpTo_mem, State.act, wfNext_next]

theorem execAckTimer_wf (node tc : Nat) : WfNext (execAckTimer node tc s) := by
  simp only [execAckTimer]
  repeat' split
  all_goals simp [h]

theorem execAppliedTimer_wf (node tc : Nat) : WfNext (execAppliedTimer node tc s) := by
  simp only [execAppliedTimer]
  repeat' split
  all_goals simp [h]

theorem execRtoExpiry_wf (node tc : Nat) : WfNext (execRtoExpiry node tc s) := by
  simp only [execRtoExpiry]
  repeat' split
  all_goals simp [h]

theorem execResponseTimeout_wf (req : Nat) : WfNext (execResponseTimeout req s) := by
  simp only [execResponseTimeout]
  repeat' split
  all_goals simp [h]

theorem execRxPathExpiry_wf (node tc : Nat) : WfNext (execRxPathExpiry node tc s) := by
  simp only [execRxPathExpiry]
  repeat' split
  all_goals simp [h]

theorem execXltQuietExpiry_wf : WfNext (execXltQuietExpiry s) := by
  simp only [execXltQuietExpiry]
  repeat' split
  all_goals simp [h]

theorem execRateIncreaseTick_wf (node tc : Nat) : WfNext (execRateIncreaseTick node tc s) := by
  simp only [execRateIncreaseTick]
  repeat' split
  all_goals simp [h]

theorem execGenerationGraceExpiry_wf : WfNext (execGenerationGraceExpiry s) := by
  simp only [execGenerationGraceExpiry]
  repeat' split
  all_goals simp [h]

theorem execStaleResendTimer_wf (req : Nat) : WfNext (execStaleResendTimer req s) := by
  simp only [execStaleResendTimer]
  repeat' split
  all_goals simp [h]

theorem execStaleHoldExpiry_wf (req : Nat) : WfNext (execStaleHoldExpiry req s) := by
  simp only [execStaleHoldExpiry]
  repeat' split
  all_goals simp [h]

theorem execWindowOpen_wf (item : Nat) : WfNext (execWindowOpen item s) := by
  refine (wfNext_next _).2 (withItem_wf (fun i t ht => ?_) _ _ _ h)
  dsimp only
  refine checked_wf (fun t ht => ?_) _ _ _ ht
  split
  · simpa using ht
  split
  · simpa using ht
  · rw [Acc.run_mem]
    refine Acc.bind_wf (fun base t ht => ?_) (by simpa using ht)
    repeat' split
    all_goals simp [ht]

theorem execWindowClose_wf (item : Nat) : WfNext (execWindowClose item s) := by
  refine (wfNext_next _).2 (withItem_wf (fun i t ht => ?_) _ _ _ h)
  refine checked_wf (fun t ht => ?_) _ _ _ ht
  repeat' split
  all_goals simp [ht]

theorem execFlagStoreSend_wf (req : Nat) : WfNext (execFlagStoreSend req s) := by
  simp only [execFlagStoreSend]
  repeat' split
  all_goals simp [h]

theorem execGatherTimer_wf (node tc job : Nat) : WfNext (execGatherTimer node tc job s) := by
  simp only [execGatherTimer]
  repeat' split
  all_goals simp [h]

theorem execCopyDescriptorStart_wf (copy : Nat) : WfNext (execCopyDescriptorStart copy s) := by
  simp only [execCopyDescriptorStart]
  repeat' split
  all_goals simp [h]

theorem execCopyDone_wf (copy : Nat) : WfNext (execCopyDone copy s) := by
  simp only [execCopyDone]
  repeat' split
  all_goals simp [h]

theorem execAtomicReplyTimer_wf (req : Nat) : WfNext (execAtomicReplyTimer req s) := by
  simp only [execAtomicReplyTimer]
  repeat' split
  all_goals simp [h]

theorem execAtomicRetryExpiry_wf (req : Nat) : WfNext (execAtomicRetryExpiry req s) := by
  simp only [execAtomicRetryExpiry]
  repeat' split
  all_goals simp [h]

theorem execLedgerEntryExpiry_wf (node job seq : Nat) : WfNext (execLedgerEntryExpiry node job seq s) := by
  simp only [execLedgerEntryExpiry]
  repeat' split
  all_goals simp [h]

theorem execLedgerSourceExpiry_wf (node job : Nat) : WfNext (execLedgerSourceExpiry node job s) := by
  simp only [execLedgerSourceExpiry]
  repeat' split
  all_goals simp [h]

theorem execLedgerHoldExpiry_wf : WfNext (execLedgerHoldExpiry s) := by
  simp only [execLedgerHoldExpiry]
  repeat' split
  all_goals simp [h]

theorem execOwnHandoff_wf (item : Nat) : WfNext (execOwnHandoff item s) := by
  refine (wfNext_next _).2 (withItem_wf (fun i t ht => ?_) _ _ _ h)
  dsimp only
  refine checked_wf (fun t ht => ?_) _ _ _ ht
  split
  · simpa using ht
  · rw [Acc.run_mem]
    refine Acc.bind_wf (fun ps t ht => ?_) (by simpa using ht)
    split
    · split
      case h_1 hu => exact wf_congr (mem_of_pair (writeOk_mem ..) hu) ht
      case h_2 hu => exact wf_congr (mem_of_pair (writeOk_mem ..) hu) ht
      case h_3 hu =>
        have hu := wf_congr (mem_of_pair (writeOk_mem ..) hu) ht
        split <;> simp [hu]
    · exact ht

theorem execHandoffCommit_wf (handoff : Nat) : WfNext (execHandoffCommit handoff s) := by
  refine wfNext_act h ?_
  split
  · exact h
  · split
    · exact h
    · dsimp only
      split
      · exact h
      case h_2 hu => simpa using casWord_wf _ _ _ _ _ h _ hu
      case h_3 hu => simpa using casWord_wf _ _ _ _ _ h _ hu

theorem execHandoffReclaim_wf (handoff : Nat) : WfNext (execHandoffReclaim handoff s) := by
  refine wfNext_act h ?_
  split
  · exact h
  · extract_lets failed t
    have ht : Memory.wf t.mem = true := wf_congr (by simp only [t]; split <;> simp) h
    clear_value t
    dsimp only
    split
    · exact ht
    case h_2 hu =>
      have hu := casWord_wf _ _ _ _ _ ht _ hu
      split <;> simpa using hu

theorem execPreparedResolvePoll_wf (pha : Nat) : WfNext (execPreparedResolvePoll pha s) := by
  simp only [execPreparedResolvePoll]
  repeat' split
  all_goals simp [h]

theorem execCounterAlloc_wf (item : Nat) : WfNext (execCounterAlloc item s) := by
  refine (wfNext_next _).2 (withItem_wf (fun i t ht => ?_) _ _ _ h)
  refine checked_wf (fun t ht => ?_) _ _ _ ht
  repeat' split
  all_goals simp [ht]

theorem execCounterFree_wf (item : Nat) : WfNext (execCounterFree item s) := by
  simp only [execCounterFree]
  all_goals simp [h, apply_ite State.mem]

theorem execCounterSet_wf (item : Nat) : WfNext (execCounterSet item s) := by
  simp only [execCounterSet]
  all_goals simp [h, apply_ite State.mem]

theorem execFill_wf (port : Nat) (e : Quad) : WfNext (execFill port e s) := by
  simp only [execFill]
  repeat' split
  all_goals simp [h, apply_ite State.mem]

theorem execDeny_wf (port : Nat) (e : Quad) : WfNext (execDeny port e s) := by
  grind [execDeny, cmdEntry_mem, denyMiss_mem, State.act, wfNext_next]

theorem execInvalidate_wf (port : Nat) (e : Quad) : WfNext (execInvalidate port e s) := by
  refine (wfNext_next _).2 (cmdEntry_wf (fun tenant tag t ht => ?_) _ _ _ _ h)
  dsimp only
  repeat' split
  all_goals simp [ht]

theorem execInvalidateTenant_wf (port : Nat) (e : Quad) : WfNext (execInvalidateTenant port e s) := by
  refine (wfNext_next _).2 (cmdEntry_wf (fun tenant tag t ht => ?_) _ _ _ _ h)
  simp [ht]

theorem execExtentGrant_wf (port : Nat) (e : Quad) : WfNext (execExtentGrant port e s) := by
  simp only [execExtentGrant]
  all_goals simp [h, apply_ite State.mem]

theorem execExtentRevoke_wf (port : Nat) (e : Quad) : WfNext (execExtentRevoke port e s) := by
  refine (wfNext_next _).2 (cmdEntry_wf (fun tenant tag t ht => ?_) _ _ _ _ h)
  dsimp only
  repeat' split
  all_goals simp [ht]

theorem execTenantCreate_wf (port : Nat) (e : Quad) : WfNext (execTenantCreate port e s) := by
  simp only [execTenantCreate]
  all_goals simp [h, apply_ite State.mem]

theorem execTenantModify_wf (port : Nat) (e : Quad) : WfNext (execTenantModify port e s) := by
  refine (wfNext_next _).2 (cmdEntry_wf (fun tenant tag t ht => ?_) _ _ _ _ h)
  dsimp only
  repeat' split
  all_goals simp [ht]

theorem execTenantDestroy_wf (port : Nat) (e : Quad) : WfNext (execTenantDestroy port e s) := by
  refine (wfNext_next _).2 (cmdEntry_wf (fun tenant tag t ht => ?_) _ _ _ _ h)
  dsimp only
  repeat' split
  all_goals simp [ht]

theorem execTranslationTimeout_wf (tag : Nat) : WfNext (execTranslationTimeout tag s) := by
  simp only [execTranslationTimeout]
  repeat' split
  all_goals simp [h]

theorem execPtcDrainComplete_wf (ent : Nat) : WfNext (execPtcDrainComplete ent s) := by
  simp only [execPtcDrainComplete]
  repeat' split
  all_goals simp [h]

theorem execDrainTimeout_wf (withdrawal : Nat) : WfNext (execDrainTimeout withdrawal s) := by
  refine wfNext_act h ?_
  split
  · exact h
  case h_2 w _ =>
    have ht : Memory.wf (s.reach (w.start + 2000000)).mem = true := by simpa using h
    dsimp only
    split
    · rw [settleInvs_mem, setPort_mem, foldl_mem fun _ _ => endItem_mem ..]
      exact ht
    · refine settleAll_wf _ (wf_congr (retryFills_mem ..) ?_)
      exact wf_congr (foldl_mem (fun _ _ => abortWindow_mem ..) _ _) (abortEnts_wf _ _ ht)

theorem execAtsTranslationCompletion_wf (tag : Nat) (r w : Bool) (addr : Nat) :
    WfNext (execAtsTranslationCompletion tag r w addr s) := by
  refine (wfNext_next _).2 ?_
  split
  · exact h
  case h_2 q _ =>
    generalize (if q.write then w else r) = ok
    split
    · exact h
    split
    · simpa using h
    · refine wf_congr (foldl_mem (fun _ _ => modItem_mem ..) _ _) ?_
      simpa using h

theorem execPrgResponse_wf (tag code : Nat) : WfNext (execPrgResponse tag code s) := by
  simp only [execPrgResponse]
  repeat' split
  all_goals simp [h]

theorem execAtsInvalidateRequest_wf (port fn pasid page pages : Nat) :
    WfNext (execAtsInvalidateRequest port fn pasid page pages s) := by
  simp only [execAtsInvalidateRequest]
  repeat' split
  all_goals simp [h]

theorem execQuotaChargeTick_wf : WfNext (execQuotaChargeTick s) := by
  simp only [execQuotaChargeTick]
  repeat' split
  all_goals simp [h]

theorem execQuotaWindowExpiry_wf : WfNext (execQuotaWindowExpiry s) := by
  simp only [execQuotaWindowExpiry]
  repeat' split
  all_goals simp [h]

theorem execHostLinkDown_wf (port unacked : Nat) : WfNext (execHostLinkDown port unacked s) := by
  simp only [execHostLinkDown]
  repeat' split
  all_goals simp [h]

theorem execHostLinkUp_wf (port : Nat) : WfNext (execHostLinkUp port s) := by
  simp only [execHostLinkUp]
  repeat' split
  all_goals simp [h]

theorem execVfFlr_wf (port fn : Nat) : WfNext (execVfFlr port fn s) := by
  simp only [execVfFlr]
  repeat' split
  all_goals simp [h]

theorem execPfFlr_wf (port : Nat) : WfNext (execPfFlr port s) := by
  simp only [execPfFlr]
  repeat' split
  all_goals simp [h]

theorem execSqEnable_wf (port fn q value : Nat) : WfNext (execSqEnable port fn q value s) := by
  simp only [execSqEnable]
  repeat' split
  all_goals simp [h]

theorem execSqDisable_wf (port fn q value : Nat) : WfNext (execSqDisable port fn q value s) := by
  simp only [execSqDisable]
  repeat' split
  all_goals simp [h]

theorem execSqDrainDone_wf (port fn q : Nat) : WfNext (execSqDrainDone port fn q s) := by
  simp only [execSqDrainDone]
  repeat' split
  all_goals simp [h]

theorem execCqEnable_wf (port fn q value : Nat) : WfNext (execCqEnable port fn q value s) := by
  simp only [execCqEnable]
  repeat' split
  all_goals simp [h]

theorem execCqDisable_wf (port fn q value : Nat) : WfNext (execCqDisable port fn q value s) := by
  simp only [execCqDisable]
  repeat' split
  all_goals simp [h]

theorem execSqTailDoorbell_wf (port fn q value : Nat) : WfNext (execSqTailDoorbell port fn q value s) := by
  simp only [execSqTailDoorbell]
  repeat' split
  all_goals simp [h]

theorem execCqHeadDoorbell_wf (port fn q value : Nat) : WfNext (execCqHeadDoorbell port fn q value s) := by
  simp only [execCqHeadDoorbell]
  repeat' split
  all_goals simp [h]

theorem execReqRingHeadDoorbell_wf (port value : Nat) : WfNext (execReqRingHeadDoorbell port value s) := by
  simp only [execReqRingHeadDoorbell]
  repeat' split
  all_goals simp [h]

theorem execCmdRingTailDoorbell_wf (port value : Nat) : WfNext (execCmdRingTailDoorbell port value s) := by
  simp only [execCmdRingTailDoorbell]
  repeat' split
  all_goals simp [h]

theorem execSqEntryFetch_wf (port fn q : Nat) (words : List Nat) : WfNext (execSqEntryFetch port fn q words s) := by
  simp only [execSqEntryFetch]
  repeat' split
  all_goals simp [h]

theorem execIrqTimeExpiry_wf (port fn q : Nat) : WfNext (execIrqTimeExpiry port fn q s) := by
  simp only [execIrqTimeExpiry]
  repeat' split
  all_goals simp [h]

theorem execMmioRegWrite_wf (port fn offset width value : Nat) :
    WfNext (execMmioRegWrite port fn offset width value s) := by
  simp only [execMmioRegWrite]
  repeat' split
  all_goals simp [h]

theorem execNop_wf (item : Nat) : WfNext (execNop item s) := by
  grind [execNop, withItem_mem, checked_mem, endItem_mem, State.act, wfNext_next]

theorem execHostToPool_wf (item : Nat) : WfNext (execHostToPool item s) := by
  refine (wfNext_next _).2 (withItem_wf (fun i t ht => ?_) _ _ _ h)
  dsimp only
  refine checked_wf (fun t ht => ?_) _ _ _ ht
  rw [Acc.run_mem]
  refine Acc.bind_wf (fun prog t ht => ?_) ?_
  · split <;> simp [ht]
  · split
    · exact ht
    · exact Acc.bind_wf (fun _ t ht => by simpa using ht) (tryWrite_wf _ _ _ _ _ ht)

theorem execPoolToHost_wf (item : Nat) : WfNext (execPoolToHost item s) := by
  simp [execPoolToHost, h]

theorem execPoolAtomic_wf (item : Nat) : WfNext (execPoolAtomic item s) := by
  refine (wfNext_next _).2 (withItem_wf (fun i t ht => ?_) _ _ _ h)
  dsimp only
  refine checked_wf (fun t ht => ?_) _ _ _ ht
  rw [Acc.run_mem]
  refine Acc.bind_wf (fun ps t ht => ?_) (by simpa using ht)
  split
  · split
    · exact ht
    split
    case h_1 hu => exact wf_congr (mem_of_pair (writeOk_mem ..) hu) ht
    case h_2 hu => exact wf_congr (mem_of_pair (writeOk_mem ..) hu) ht
    case h_3 hu => simp [wf_congr (mem_of_pair (writeOk_mem ..) hu) ht]
  · exact ht

theorem execRegionPublish_wf (item : Nat) : WfNext (execRegionPublish item s) := by
  refine (wfNext_next _).2 (withItem_wf (fun i t ht => ?_) _ _ _ h)
  dsimp only
  refine checked_wf (fun t ht => ?_) _ _ _ ht
  rw [Acc.run_mem]
  refine Acc.bind_wf (fun ps t ht => ?_) (by simpa using ht)
  refine Acc.bind_wf (fun old t ht => ?_) (by simpa using ht)
  split
  · simpa using ht
  · exact Acc.bind_wf (fun _ t ht => by simpa using ht) (writeParts_wf _ _ _ _ _ ht)

theorem execPageRelease_wf (item : Nat) : WfNext (execPageRelease item s) := by
  refine (wfNext_next _).2 (withItem_wf (fun i t ht => ?_) _ _ _ h)
  refine checked_wf (fun t ht => ?_) _ _ _ ht
  refine withPages_wf (fun l t ht => ?_) _ _ _ ht
  rw [endItem_mem]
  exact foldl_wf (fun _ _ h => releasePage_wf _ _ _ h) _ _ (by simpa using ht)

theorem execPageHint_wf (item : Nat) : WfNext (execPageHint item s) := by
  refine (wfNext_next _).2 (withItem_wf (fun i t ht => ?_) _ _ _ h)
  refine checked_wf (fun t ht => ?_) _ _ _ ht
  refine withPages_wf (fun l t ht => ?_) _ _ _ ht
  dsimp only
  repeat' split
  all_goals simp [ht]

theorem execSetProtection_wf (item : Nat) : WfNext (execSetProtection item s) := by
  refine (wfNext_next _).2 (withItem_wf (fun i t ht => ?_) _ _ _ h)
  refine checked_wf (fun t ht => ?_) _ _ _ ht
  all_goals simp [ht]

theorem execTierDrain_wf (item : Nat) : WfNext (execTierDrain item s) := by
  simp only [execTierDrain]
  all_goals simp [h, apply_ite State.mem]

theorem execLoadProgram_wf (item : Nat) : WfNext (execLoadProgram item s) := by
  refine (wfNext_next _).2 (withItem_wf (fun i t ht => ?_) _ _ _ h)
  refine checked_wf (fun t ht => ?_) _ _ _ ht
  rw [Acc.run_mem]
  refine Acc.bind_wf (fun a t ht => ?_) (by simp [ht])
  dsimp only
  repeat' split
  all_goals simp [ht]

theorem execUnloadProgram_wf (item : Nat) : WfNext (execUnloadProgram item s) := by
  simp [execUnloadProgram, h]

theorem execRunProgram_wf (item : Nat) : WfNext (execRunProgram item s) := by
  refine (wfNext_next _).2 (withItem_wf (fun i t ht => ?_) _ _ _ h)
  extract_lets hd placement kit pva fuel image tabor
  clear_value placement
  have hb : tabor.st.mem = t.mem := by
    simp only [tabor]
    split
    · exact (Acc.bind_mem (fun _ _ => rfl) _).trans (tryLook_mem ..)
    · rfl
    · rfl
  clear_value tabor
  refine checked_wf (fun u hu => ?_) _ _ _ ht
  rw [Acc.run_mem]
  refine Acc.bind_wf (fun k v hv => ?_) (wf_congr hb ht)
  split <;> simp [hv]

theorem execProgAttach_wf (item : Nat) : WfNext (execProgAttach item s) := by
  refine (wfNext_next _).2 (withItem_wf (fun i t ht => ?_) _ _ _ h)
  refine checked_wf (fun t ht => ?_) _ _ _ ht
  dsimp only
  repeat' split
  all_goals simp [ht]

theorem execProgDetach_wf (item : Nat) : WfNext (execProgDetach item s) := by
  refine (wfNext_next _).2 (withItem_wf (fun i t ht => ?_) _ _ _ h)
  refine checked_wf (fun t ht => ?_) _ _ _ ht
  repeat' split
  all_goals simp [ht]

theorem execCopy_wf (item : Nat) : WfNext (execCopy item s) := by
  refine (wfNext_next _).2 (withItem_wf (fun i t ht => ?_) _ _ _ h)
  refine checked_wf (fun t ht => ?_) _ _ _ ht
  split
  · simpa using ht
  case h_2 hu => exact wf_congr (((modItem_mem ..).trans (markEffect_mem ..)).trans (postCopy_mem _ _ _ _ _ hu)) ht

theorem execRoundDeclare_wf (item : Nat) : WfNext (execRoundDeclare item s) := by
  refine (wfNext_next _).2 (withItem_wf (fun i t ht => ?_) _ _ _ h)
  dsimp only
  split
  · exact ht
  refine checked_wf (fun t ht => ?_) _ _ _ ht
  rw [Acc.run_mem]
  refine Acc.bind_wf (fun ps t ht => ?_) (by simpa using ht)
  refine Acc.bind_wf (fun tbl t ht => ?_) (by simpa using ht)
  split
  · split
    · exact ht
    split
    · exact ht
    · rw [Acc.st_ok, modItem_mem, State.setSv_mem, ptcAdmitAll_mem, State.setTi_mem]
      exact ht
  · exact ht

theorem execRoundCancel_wf (item : Nat) : WfNext (execRoundCancel item s) := by
  refine (wfNext_next _).2 (withItem_wf (fun i t ht => ?_) _ _ _ h)
  dsimp only
  split
  · exact ht
  refine checked_wf (fun t ht => ?_) _ _ _ ht
  split
  · simpa using ht
  · simpa using endRound_wf _ _ _ ht

theorem execRoundContribute_wf (item : Nat) : WfNext (execRoundContribute item s) := by
  refine (wfNext_next _).2 (withItem_wf (fun i t ht => ?_) _ _ _ h)
  dsimp only
  split
  · split <;> simp [ht]
  case h_2 =>
    refine checked_wf (fun t ht => ?_) _ _ _ ht
    split
    case h_1 hu => simp [Acc.mem_of_ok (contribute_mem ..) hu, ht]
    case h_2 hu => exact wf_congr (Acc.mem_of_wait (contribute_mem ..) hu) ht
    case h_3 hu => simp [Acc.mem_of_bad (contribute_mem ..) hu, ht]

theorem execInboxLineWrite_wf (write : Nat) : WfNext (execInboxLineWrite write s) := by
  refine wfNext_act h ?_
  split
  · exact h
  · dsimp only
    split
    · split
      · exact h
      · repeat' split
        all_goals simp [h]
    · split
      · exact h
      split
      · simpa using h
      split
      case h_1 hu => simp [wf_congr (mem_of_pair (writeOk_mem ..) hu) h]
      case h_2 hu => simp [wf_congr (mem_of_pair (writeOk_mem ..) hu) h]
      case h_3 hu => exact wf_congr (mem_of_pair (writeOk_mem ..) hu) h

theorem execPieceAccumulate_wf (round piece : Nat) : WfNext (execPieceAccumulate round piece s) := by
  refine wfNext_act h ?_
  split
  · exact h
  case h_2 r _ =>
    split
    · extract_lets comp ru settle
      have hs : ∀ ru t, (settle ru t).mem = t.mem := by
        intro ru t
        simp only [settle]
        split <;> simp
      clear_value settle
      split
      · exact wf_congr (hs ..) h
      · split
        case h_1 hu => exact Acc.wf_of_wait (applyUnit_wf _ _ _ _ _ h) hu
        case h_2 hu => exact endRound_wf _ _ _ (Acc.wf_of_bad (applyUnit_wf _ _ _ _ _ h) hu)
        case h_3 hu => exact wf_congr (hs ..) (Acc.wf_of_ok (applyUnit_wf _ _ _ _ _ h) hu)
    · exact h

theorem execUnitDone_wf (round unit : Nat) : WfNext (execUnitDone round unit s) := by
  simp only [execUnitDone]
  repeat' split
  all_goals simp [h]

theorem execMxBlockQuantise_wf (round array block : Nat) : WfNext (execMxBlockQuantise round array block s) := by
  grind [execMxBlockQuantise, modRound_mem, gateParts_mem, endRound_wf, homeStreams_mem, setTab_mem, putParts_wf, State.act, wfNext_next]

theorem execRoundComplete_wf (round : Nat) : WfNext (execRoundComplete round s) := by
  simp only [execRoundComplete]
  repeat' split
  all_goals simp [h]

theorem execInboxHoldExpiry_wf (round : Nat) : WfNext (execInboxHoldExpiry round s) := by
  simp only [execInboxHoldExpiry]
  repeat' split
  all_goals simp [h]

theorem execRoundStalled_wf (round : Nat) : WfNext (execRoundStalled round s) := by
  simp only [execRoundStalled]
  repeat' split
  all_goals simp [h]

theorem execTableCreate_wf (item : Nat) : WfNext (execTableCreate item s) := by
  refine (wfNext_next _).2 (withItem_wf (fun i t ht => ?_) _ _ _ h)
  dsimp only
  split
  · simpa using ht
  refine checked_wf (fun t ht => ?_) _ _ _ ht
  split <;> simp [ht]

theorem execTableReplace_wf (item : Nat) : WfNext (execTableReplace item s) := by
  grind [execTableReplace, withItem_mem, endItem_mem, setTable_mem, settleTable_mem, modItem_mem, State.act, wfNext_next]

theorem execTableUnpinned_wf (table : Nat) : WfNext (execTableUnpinned table s) := by
  simp [execTableUnpinned, h]

theorem execTableDestroy_wf (item : Nat) : WfNext (execTableDestroy item s) := by
  simp only [execTableDestroy]
  all_goals simp (disch := (intros; repeat' split; all_goals simp [*])) [h]

theorem execEmbLookup_wf (item : Nat) : WfNext (execEmbLookup item s) := by
  refine (wfNext_next _).2 (withItem_wf (fun i t ht => ?_) _ _ _ h)
  dsimp only
  split
  · split
    · exact ht
    · rw [Acc.lookup_mem]
      exact Acc.bind_wf (fun _ t ht => by simpa using ht) (writeBags_wf _ _ _ _ _ _ _ ht)
  split
  · simpa using ht
  split
  · simpa using ht
  · exact checked_wf (fun t ht => by simpa using ht) _ _ _ (by simpa using ht)

theorem execRowRead_wf (item k : Nat) : WfNext (execRowRead item k s) := by
  simp [execRowRead, h]

theorem execRowUpdateEndWait_wf (item k : Nat) : WfNext (execRowUpdateEndWait item k s) := by
  simp [execRowUpdateEndWait, h]

theorem execEmbUpdate_wf (item : Nat) : WfNext (execEmbUpdate item s) := by
  refine (wfNext_next _).2 (withItem_wf (fun i t ht => ?_) _ _ _ h)
  extract_lets w go
  have hgo : ∀ d t, Memory.wf t.mem = true → Memory.wf (go d t).mem = true := by
    intro d t ht
    simp only [go]
    rw [Acc.run_mem]
    exact Acc.bind_wf (fun _ t ht => by simpa using ht) (updateRows_wf _ _ _ _ _ _ ht)
  clear_value go
  split
  · exact hgo _ _ ht
  split
  · simpa using ht
  · refine checked_wf (fun t ht => ?_) _ _ _ ht
    split
    · simpa using ht
    · exact hgo _ _ (by simpa using ht)

theorem execIndexCreate_wf (item : Nat) : WfNext (execIndexCreate item s) := by
  refine (wfNext_next _).2 (withItem_wf (fun i t ht => ?_) _ _ _ h)
  refine checked_wf (fun t ht => ?_) _ _ _ ht
  repeat' split
  all_goals simp [ht]

theorem execInsert_wf (item : Nat) : WfNext (execInsert item s) := by
  refine (wfNext_next _).2 (withItem_wf (fun i t ht => ?_) _ _ _ h)
  refine withIndex_wf (fun k x t ht => ?_) _ _ _ ht
  refine checked_wf (fun t ht => ?_) _ _ _ (by split <;> simp [ht])
  dsimp only
  split
  · exact ht
  · rw [Acc.run_mem]
    exact insertFrom_wf _ _ _ _ _ _ (by split <;> simp [ht])

theorem execDelete_wf (item : Nat) : WfNext (execDelete item s) := by
  grind [execDelete, withItem_mem, withIndex_mem, stamp__mem, admitted_mem, checked_mem, endItem_mem, markEffect_mem, setIndex_mem, State.act, wfNext_next]

theorem execEpochPublish_wf (item : Nat) : WfNext (execEpochPublish item s) := by
  grind [execEpochPublish, withItem_mem, withIndex_mem, checked_mem, modItem_mem, modIndex_mem, State.act, wfNext_next]

theorem execEpochPublishDone_wf (index : Nat) : WfNext (execEpochPublishDone index s) := by
  simp only [execEpochPublishDone]
  repeat' split
  all_goals simp [h]

theorem execAutoPublishTimer_wf : WfNext (execAutoPublishTimer s) := by
  simp only [execAutoPublishTimer]
  repeat' split
  all_goals simp [h]

theorem execSearch_wf (item : Nat) : WfNext (execSearch item s) := by
  refine (wfNext_next _).2 (withItem_wf (fun i t ht => ?_) _ _ _ h)
  refine withIndex_wf (fun k x t ht => ?_) _ _ _ ht
  refine checked_wf (fun t ht => ?_) _ _ _ (by split <;> simp [ht])
  rw [Acc.run_mem]
  exact Acc.bind_wf (fun _ t ht => by simpa using ht) (queriesFrom_wf _ _ _ _ _ _ _ _ ht)

theorem execCompact_wf (item : Nat) : WfNext (execCompact item s) := by
  refine (wfNext_next _).2 (withItem_wf (fun i t ht => ?_) _ _ _ h)
  refine withIndex_wf (fun k x t ht => ?_) _ _ _ ht
  refine checked_wf (fun t ht => ?_) _ _ _ ht
  dsimp only
  split
  · simpa using ht
  · rw [Acc.run_mem]
    refine Acc.bind_wf (fun y t ht => ?_) ?_
    · exact wf_congr (foldl_mem (fun _ _ => endItem_mem ..) _ _) (by simpa using ht)
    · have hu : ∀ (b : Bool) (u v : State), u.mem = v.mem → Memory.wf v.mem = true →
          Memory.wf (if b then u else v).mem = true := by
        intro b u v e hv
        split
        · exact wf_congr e hv
        · exact hv
      split <;> split <;> simp [ht]

theorem execIndexDestroy_wf (item : Nat) : WfNext (execIndexDestroy item s) := by
  refine (wfNext_next _).2 (withItem_wf (fun i t ht => ?_) _ _ _ h)
  split
  · simpa using ht
  refine checked_wf (fun t ht => ?_) _ _ _ ht
  dsimp only
  split
  · simpa using ht
  · rw [endItem_mem]
    exact removeIndex_wf _ _ _ (by simpa using ht)

theorem execStoreCreate_wf (item : Nat) : WfNext (execStoreCreate item s) := by
  refine (wfNext_next _).2 (withItem_wf (fun i t ht => ?_) _ _ _ h)
  dsimp only
  refine checked_wf (fun t ht => ?_) _ _ _ ht
  split
  · simpa using ht
  · rw [Acc.run_mem]
    refine Acc.bind_wf (fun ps t ht => ?_) (by simpa using ht)
    split
    · exact ht
    split <;> simp [ht]

theorem execStoreDestroy_wf (item : Nat) : WfNext (execStoreDestroy item s) := by
  refine (wfNext_next _).2 (withItem_wf (fun i t ht => ?_) _ _ _ h)
  split
  · simpa using ht
  refine checked_wf (fun t ht => ?_) _ _ _ ht
  split
  · simpa using ht
  · rw [endItem_mem]
    exact removeStore_wf _ _ _ (by simpa using ht)

theorem execRemotePutDataReady_wf (item : Nat) : WfNext (execRemotePutDataReady item s) := by
  refine wfNext_act h ?_
  repeat' split
  all_goals simp [h]

theorem execPutWaitExpiry_wf (item : Nat) : WfNext (execPutWaitExpiry item s) := by
  simp only [execPutWaitExpiry]
  repeat' split
  all_goals simp [h]

theorem execGetWaitExpiry_wf (item : Nat) : WfNext (execGetWaitExpiry item s) := by
  simp only [execGetWaitExpiry]
  repeat' split
  all_goals simp [h]

theorem execOwnWaitExpiry_wf (item : Nat) : WfNext (execOwnWaitExpiry item s) := by
  simp only [execOwnWaitExpiry]
  repeat' split
  all_goals simp [h]

theorem execCumulusSlotRelease_wf (store slot : Nat) : WfNext (execCumulusSlotRelease store slot s) := by
  simp only [execCumulusSlotRelease]
  repeat' split
  all_goals simp [h]

theorem execDropLruWaitExpiry_wf (item : Nat) : WfNext (execDropLruWaitExpiry item s) := by
  simp only [execDropLruWaitExpiry]
  repeat' split
  all_goals simp [h]

theorem execCheck_wf (item : Nat) : WfNext (execCheck item s) := by
  refine (wfNext_next _).2 (withItem_wf (fun i t ht => ?_) _ _ _ h)
  dsimp only
  split
  · rw [Acc.run_mem]
    exact Acc.bind_wf (fun _ t ht => by simpa using ht) (segsFrom_wf _ _ _ _ _ _ ht)
  · simpa using ht

theorem execChimeUnitLost_wf (kit : Nat) : WfNext (execChimeUnitLost kit s) := by
  simp only [execChimeUnitLost]
  repeat' split
  all_goals simp [h]

theorem execArbiterGrant_wf (arb : Arbiter) : WfNext (execArbiterGrant arb s) := by
  simp only [execArbiterGrant]
  repeat' split
  all_goals simp [h]

theorem execHpWindowExpiry_wf (arb : Arbiter) : WfNext (execHpWindowExpiry arb s) := by
  simp [execHpWindowExpiry, h]

theorem execCtxStall_wf (tabor : Nat) : WfNext (execCtxStall tabor s) := by
  simp only [execCtxStall]
  repeat' split
  all_goals simp [h]

theorem execWaitLimitExpiry_wf (tabor ctx : Nat) : WfNext (execWaitLimitExpiry tabor ctx s) := by
  simp only [execWaitLimitExpiry]
  repeat' split
  all_goals simp [h]

theorem execItemEngine_wf (item : Nat) : WfNext (execItemEngine item s) := by
  simp only [execItemEngine]
  repeat' split
  all_goals simp [h]

theorem execHomeWatchdog_wf (tabor : Nat) : WfNext (execHomeWatchdog tabor s) := by
  simp only [execHomeWatchdog]
  repeat' split
  all_goals simp [h]

theorem execGaleStall_wf (port : Nat) : WfNext (execGaleStall port s) := by
  simp only [execGaleStall]
  repeat' split
  all_goals simp [h]

theorem execTierFault_wf : WfNext (execTierFault s) := by
  simp only [execTierFault]
  repeat' split
  all_goals simp [h]

theorem execKitFault_wf (kit : Nat) : WfNext (execKitFault kit s) := by
  simp only [execKitFault]
  repeat' split
  all_goals simp [h]

theorem execPortLogic_wf (port : Nat) : WfNext (execPortLogic port s) := by
  simp only [execPortLogic]
  repeat' split
  all_goals simp [h]

theorem execPortSerdes_wf (port : Nat) : WfNext (execPortSerdes port s) := by
  simp only [execPortSerdes]
  repeat' split
  all_goals simp [h]

theorem execMeshFault_wf : WfNext (execMeshFault s) := by
  simp only [execMeshFault]
  repeat' split
  all_goals simp [h]

theorem execTocsinHeartbeat_wf (tocsin : Nat) : WfNext (execTocsinHeartbeat tocsin s) := by
  simp only [execTocsinHeartbeat]
  repeat' split
  all_goals simp [h]

theorem execCarillonWatchdog_wf : WfNext (execCarillonWatchdog s) := by
  simp only [execCarillonWatchdog]
  repeat' split
  all_goals simp [h]

theorem execTocsinAHeartbeat_wf : WfNext (execTocsinAHeartbeat s) := by
  simp only [execTocsinAHeartbeat]
  repeat' split
  all_goals simp [h]

theorem execTocsinRestarted_wf (tocsin : Nat) : WfNext (execTocsinRestarted tocsin s) := by
  simp only [execTocsinRestarted]
  repeat' split
  all_goals simp [h]

theorem execIslandFailed_wf : WfNext (execIslandFailed s) := by
  simp only [execIslandFailed]
  repeat' split
  all_goals simp [h]

theorem execHardwiredPathFire_wf : WfNext (execHardwiredPathFire s) := by
  simp only [execHardwiredPathFire]
  repeat' split
  all_goals simp [h]

theorem execTenantContextReset_wf (tabor : Nat) : WfNext (execTenantContextReset tabor s) := by
  refine (wfNext_next _).2 ?_
  split
  · exact h
  split
  · exact h
  · exact settleAll_wf _ (foldl_wf (fun _ _ h => abortTask_wf _ _ h) _ _ (by simpa using h))

theorem execKitReset_wf (kit : Nat) : WfNext (execKitReset kit s) := by
  refine (wfNext_next _).2 ?_
  split
  · exact h
  split
  · exact h
  · refine settleAll_wf _ (foldl_wf (fun _ _ h => abortTask_wf _ _ h) _ _ ?_)
    refine foldl_wf (fun t k ht => readOut_wf _ _ _ (by simpa using ht)) _ _ ?_
    simpa using h

theorem execPortReset_wf (port : Nat) (retrain : Bool) : WfNext (execPortReset port retrain s) := by
  refine (wfNext_next _).2 ?_
  dsimp only
  split
  · exact h
  split
  · exact h
  · have ht : ∀ (l : List Task) (t : State), Memory.wf t.mem = true → Memory.wf (l.foldl (fun s k => abortTask k s) t).mem = true :=
      fun l t => foldl_wf (fun _ _ h => abortTask_wf _ _ h) l t
    split
    · refine wf_congr (foldl_mem (fun _ _ => retrainSub_mem ..) _ _) (ht _ _ (by simpa using h))
    · exact ht _ _ (by simpa using h)

theorem execCarillonReset_wf : WfNext (execCarillonReset s) := by
  simp only [execCarillonReset]
  repeat' split
  all_goals simp [h]

theorem execChipWarmReset_wf : WfNext (execChipWarmReset s) := by
  simp only [execChipWarmReset]
  repeat' split
  all_goals simp [h]

theorem execWarmResetDrainDone_wf : WfNext (execWarmResetDrainDone s) := by
  simp only [execWarmResetDrainDone]
  repeat' split
  all_goals simp [h]

theorem execWarmResetDomainsDone_wf : WfNext (execWarmResetDomainsDone s) := by
  simp only [execWarmResetDomainsDone]
  repeat' split
  all_goals simp [h]

theorem execWarmResetRestoreDone_wf : WfNext (execWarmResetRestoreDone s) := by
  simp only [execWarmResetRestoreDone]
  repeat' split
  all_goals simp [h]

theorem execWarmResetDone_wf : WfNext (execWarmResetDone s) := by
  simp only [execWarmResetDone]
  repeat' split
  all_goals simp [h]

theorem execResetDone_wf (domain index : Nat) : WfNext (execResetDone domain index s) := by
  simp only [execResetDone]
  repeat' split
  all_goals simp [h]

theorem execResetBoundExpiry_wf (domain index : Nat) : WfNext (execResetBoundExpiry domain index s) := by
  simp only [execResetBoundExpiry]
  repeat' split
  all_goals simp [h]

theorem execOutOfService_wf : WfNext (execOutOfService s) := by
  simp only [execOutOfService]
  repeat' split
  all_goals simp [h]

theorem execOdpRead_wf (who : Session) (m : OdpMsg) : WfNext (execOdpRead who m s) := by
  grind [execOdpRead, answerMsg_mem, State.act, wfNext_next]

theorem execOdpWrite_wf (who : Session) (m : OdpMsg) : WfNext (execOdpWrite who m s) := by
  simp only [execOdpWrite]
  repeat' split
  all_goals simp [h]

theorem execDescribe_wf (who : Session) (m : OdpMsg) : WfNext (execDescribe who m s) := by
  grind [execDescribe, answerMsg_mem, State.act, wfNext_next]

theorem execSegReadInit_wf (who : Session) (m : OdpMsg) : WfNext (execSegReadInit who m s) := by
  grind [execSegReadInit, answerMsg_mem, putSeg_mem, pumpSeg_mem, State.act, wfNext_next]

theorem execSegWriteInit_wf (who : Session) (m : OdpMsg) : WfNext (execSegWriteInit who m s) := by
  grind [execSegWriteInit, answerMsg_mem, putSeg_mem, State.act, wfNext_next]

theorem execSegData_wf (who : Session) (m : OdpMsg) : WfNext (execSegData who m s) := by
  simp only [execSegData]
  repeat' split
  all_goals simp [h]

theorem execSegAck_wf (who : Session) (m : OdpMsg) : WfNext (execSegAck who m s) := by
  simp only [execSegAck]
  repeat' split
  all_goals simp [h]

theorem execSegEnd_wf (who : Session) (m : OdpMsg) : WfNext (execSegEnd who m s) := by
  simp only [execSegEnd]
  repeat' split
  all_goals simp [h]

theorem execLock_wf (who : Session) (m : OdpMsg) : WfNext (execLock who m s) := by
  refine (wfNext_next _).2 ?_
  split
  · exact h
  · refine answerMsg_wf (fun t ht => ?_) (fun _ ht => ht) _ _ _ h
    repeat' split
    all_goals simp [ht]

theorem execUnlock_wf (who : Session) (m : OdpMsg) : WfNext (execUnlock who m s) := by
  refine (wfNext_next _).2 ?_
  split
  · exact h
  · refine answerMsg_wf (fun t ht => ?_) (fun _ ht => ht) _ _ _ h
    repeat' split
    all_goals simp [ht]

theorem execAbort_wf (who : Session) (m : OdpMsg) : WfNext (execAbort who m s) := by
  grind [execAbort, takeMsg_mem, touchLocks_mem, dropSeg_mem, State.act, wfNext_next]

theorem execSegTimeout_wf (who : Session) (tid : Nat) : WfNext (execSegTimeout who tid s) := by
  simp only [execSegTimeout]
  repeat' split
  all_goals simp [h]

theorem execLockMaxExpiry_wf (area : Nat) : WfNext (execLockMaxExpiry area s) := by
  simp only [execLockMaxExpiry]
  repeat' split
  all_goals simp [h]

theorem execTidRetentionExpiry_wf (who : Session) (tid : Nat) : WfNext (execTidRetentionExpiry who tid s) := by
  simp only [execTidRetentionExpiry]
  repeat' split
  all_goals simp [h]

theorem execConfigStoreDone_wf : WfNext (execConfigStoreDone s) := by
  simp only [execConfigStoreDone]
  repeat' split
  all_goals simp [h]

theorem execMbDoorbell_wf (port length : Nat) : WfNext (execMbDoorbell port length s) := by
  simp only [execMbDoorbell]
  repeat' split
  all_goals simp [h]

theorem execMbRelease_wf (port : Nat) : WfNext (execMbRelease port s) := by
  simp only [execMbRelease]
  repeat' split
  all_goals simp [h]

theorem execMbOverrunClear_wf (port : Nat) : WfNext (execMbOverrunClear port s) := by
  simp only [execMbOverrunClear]
  repeat' split
  all_goals simp [h]

theorem execMbNotifyLostClear_wf (port : Nat) : WfNext (execMbNotifyLostClear port s) := by
  simp only [execMbNotifyLostClear]
  repeat' split
  all_goals simp [h]

theorem execMbNotifyHead_wf (port head : Nat) : WfNext (execMbNotifyHead port head s) := by
  simp only [execMbNotifyHead]
  repeat' split
  all_goals simp [h]

theorem execTriggerPeriod_wf (slot : Nat) : WfNext (execTriggerPeriod slot s) := by
  simp only [execTriggerPeriod]
  repeat' split
  all_goals simp [h]

theorem execScriptRun_wf : WfNext (execScriptRun s) := by
  simp only [execScriptRun]
  repeat' split
  all_goals simp [h]

theorem execPageHomeAccessDone_wf (line : Nat) : WfNext (execPageHomeAccessDone line s) := by
  refine wfNext_act h ?_
  extract_lets page reads c t u
  split
  · exact h
  have hu : Memory.wf u.mem = true := by
    refine wf_congr (foldl_mem (fun t m => ?_) _ _) (wf_congr (State.setCh_mem ..) h)
    split <;> simp
  clear_value u t reads
  split
  · exact hu
  split
  · exact hu
  split
  · simpa using hu
  · split
    rename_i v g he
    have hv : Memory.wf v.mem = true := by
      refine wf_congr (mem_of_pair ?_ he) hu
      split
      · rfl
      split
      · exact writeGate_mem ..
      · rfl
    split
    · exact hv
    · split
      · refine wf_congr (foldl_mem (fun _ _ => answer_mem ..) _ _) (by simpa using hv)
      · exact hv
    · exact closeTxn_wf _ _ (by simpa using hv)

theorem execFrostEraseDone_wf (block : Nat) (ok : Bool) : WfNext (execFrostEraseDone block ok s) := by
  simp only [execFrostEraseDone]
  repeat' split
  all_goals simp [h]

theorem execPwrWarnNDeassert_wf : WfNext (execPwrWarnNDeassert s) := by
  simp only [execPwrWarnNDeassert]
  repeat' split
  all_goals simp [h]

theorem execVddCoreSagClear_wf : WfNext (execVddCoreSagClear s) := by
  simp only [execVddCoreSagClear]
  repeat' split
  all_goals simp [h]

theorem execRefclk25mInterruption_wf : WfNext (execRefclk25mInterruption s) := by
  simp only [execRefclk25mInterruption]
  repeat' split
  all_goals simp [h]

theorem execBusMasterEnable_wf (port fn : Nat) (on : Bool) : WfNext (execBusMasterEnable port fn on s) := by
  simp only [execBusMasterEnable]
  repeat' split
  all_goals simp [h, apply_ite State.mem]

theorem execHostReadCompletion_wf (tag : Nat) (data : List Byte) : WfNext (execHostReadCompletion tag data s) := by
  simp only [execHostReadCompletion]
  repeat' split
  all_goals simp [h]

theorem execPacketBecomesEligible_wf (sub : Nat) : WfNext (execPacketBecomesEligible sub s) := by
  simp only [execPacketBecomesEligible]
  repeat' split
  all_goals simp [h]

end Rows

end Sys2Proof.Machine

/-!
PROOFS. Every step keeps the bytes of the range in canonical form (chapter 02).
-/

namespace Sys2Proof.Machine

/-- One row's lemma for each command. -/
theorem exec_wf {s : State} (h : Memory.wf s.mem = true) (i : Instr) : WfNext (exec i s) := by
  cases i with
  | regAck | fwStage | fwCommit | svnCommit | fabricKeySet | fabricKeyActive | rootKeyRevoke | debugUnlock |
    drained | close | reservePct | fenceTabor | fenceClear | portEnable | retrain | commit | tenantShaperSet |
    classShaperSet | dwrrWeights | resetRequest | takeOutOfService | eventOverrun | mgmtMode | restoreDefaults |
    triggerLost | lastVerify | scriptImage | scriptEnable =>
    exact rowWrite_wf h _ _ _
  | add | sub | andOp | orOp | xorOp | sll | srl | sra | slt | sltu | minOp | maxOp | minu | maxu | seq | sne |
    addi | andi | ori | xori | slli | srli | srai | slti | lui | mul | mulh | mulhu | div | divu | rem | remu |
    pset | pget | pand | por | pnot | beq | bne | blt | bge | bltu | bgeu | j | call | ret | lds | sts | vlds |
    vsts | vgath | vscat | vlut | vadd | vlog | vmm | vsh | vcmp | vbcast | vmov | vsel | vext | vfadd | vfmul |
    vfma | vdot | vcvtn | vcvtw | vmxq | vred | vredc | vcadd | vperm | chmInit | chmUpd | chmVupd | chmFin |
    ctlNop | timeOp | fuelOp | srseed | taborOp | pktLd | pktSt | pktLen =>
    dsimp only [exec]
    exact StaysInside.wfNext (issuePure_staysInside ..) h
  | ldg | stg | vldg | vstg | ldacq | atom =>
    dsimp only [exec]
    exact StaysInside.wfNext (issueRange_staysInside ..) h
  | ratom | rld | rst | rstf | vrld | vrst =>
    dsimp only [exec]
    exact StaysInside.wfNext (issueWin_staysInside ..) h
  | phicorCopy =>
    dsimp only [exec]
    exact StaysInside.wfNext (issueCopy_staysInside ..) h
  | waitc =>
    dsimp only [exec]
    exact StaysInside.wfNext (issueWaitc_staysInside ..) h
  | fencePub | fenceAcq | fenceFab =>
    dsimp only [exec]
    exact StaysInside.wfNext (issueFence_staysInside ..) h
  | endOp =>
    dsimp only [exec]
    exact StaysInside.wfNext (issueEnd_staysInside ..) h
  | yield =>
    dsimp only [exec]
    exact StaysInside.wfNext (issueYield_staysInside ..) h
  | waitf =>
    dsimp only [exec]
    exact StaysInside.wfNext (issueWaitf_staysInside ..) h
  | pktPass | pktReject =>
    dsimp only [exec]
    exact StaysInside.wfNext (issuePkt_staysInside ..) h
  | putOp | getOp | pin | unpin | drop | prefetch =>
    exact (wfNext_next _).2 (hostOp_wf _ _ _ h)
  | remotePut | remoteGet | remotePin | remoteUnpin | remoteDrop | remotePrefetch =>
    exact (wfNext_next _).2 (remoteOp_wf _ _ _ h)
  | powerGood => exact execPowerGood_wf h
  | resetNAssert => exact execResetNAssert_wf h
  | resetNDeassert => exact execResetNDeassert_wf h _ _
  | supplyLoss => exact execSupplyLoss_wf h
  | pwrWarnNAssert => exact execPwrWarnNAssert_wf h
  | vddCoreSag => exact execVddCoreSag_wf h _ _
  | sagPersistExpiry => exact execSagPersistExpiry_wf h
  | shedS1Enter => exact execShedS1Enter_wf h
  | shedS2Enter => exact execShedS2Enter_wf h
  | shedS3Enter => exact execShedS3Enter_wf h
  | shedS4Enter => exact execShedS4Enter_wf h
  | s4FlushDone => exact execS4FlushDone_wf h
  | pwrSafeAssert => exact execPwrSafeAssert_wf h
  | shedLift => exact execShedLift_wf h
  | domainSleep => exact execDomainSleep_wf h _
  | domainWake => exact execDomainWake_wf h _
  | avsLoopPeriod => exact execAvsLoopPeriod_wf h _
  | droopDetected => exact execDroopDetected_wf h _
  | freqLoopPeriod => exact execFreqLoopPeriod_wf h
  | pkgPowerLoopPeriod => exact execPkgPowerLoopPeriod_wf h _
  | tempLoopPeriod => exact execTempLoopPeriod_wf h _ _ _ _
  | bootIslandUp => exact execBootIslandUp_wf h
  | imageLoaded => exact execImageLoaded_wf h
  | dramTrained => exact execDramTrained_wf h _ _
  | mountDone => exact execMountDone_wf h _ _
  | bootReady => exact execBootReady_wf h
  | recoveryStackTrained => exact execRecoveryStackTrained_wf h _ _
  | registrationAttempt => exact execRegistrationAttempt_wf h
  | fwProgramDone => exact execFwProgramDone_wf h _
  | getVersion => exact execGetVersion_wf h _
  | getCapabilities => exact execGetCapabilities_wf h _ _
  | negotiateAlgorithms => exact execNegotiateAlgorithms_wf h _ _ _ _
  | getDigests => exact execGetDigests_wf h _ _
  | getCertificate => exact execGetCertificate_wf h _ _ _ _ _
  | challenge => exact execChallenge_wf h _ _ _ _
  | getMeasurements => exact execGetMeasurements_wf h _ _ _ _
  | driftRound => exact execDriftRound_wf h
  | drumbeatRunEnd => exact execDrumbeatRunEnd_wf h _
  | frostGcRun => exact execFrostGcRun_wf h _
  | scrubRun => exact execScrubRun_wf h _ _
  | cumulusEvictionRound => exact execCumulusEvictionRound_wf h
  | journalFlush => exact execJournalFlush_wf h
  | driftChunkCopyDone => exact execDriftChunkCopyDone_wf h _
  | switchComplete => exact execSwitchComplete_wf h _
  | switchStallExpiry => exact execSwitchStallExpiry_wf h _
  | moveTimeout => exact execMoveTimeout_wf h _
  | sourceRefcountZero => exact execSourceRefcountZero_wf h _ _
  | uncorrectableLine => exact execUncorrectableLine_wf h _ _
  | moduleLost => exact execModuleLost_wf h _
  | pageRebuildDone => exact execPageRebuildDone_wf h _
  | waitingPageHomed => exact execWaitingPageHomed_wf h _
  | tierDrainDone => exact execTierDrainDone_wf h
  | frostUnitReadDone => exact execFrostUnitReadDone_wf h _ _ _
  | frostReadRetryDone => exact execFrostReadRetryDone_wf h _ _
  | frostParityRebuildDone => exact execFrostParityRebuildDone_wf h _
  | readDisturbRelocate => exact execReadDisturbRelocate_wf h _ _
  | bufferUnitFillDone => exact execBufferUnitFillDone_wf h _
  | flushAgeExpiry => exact execFlushAgeExpiry_wf h _
  | frostProgramDone => exact execFrostProgramDone_wf h _ _ _
  | journalGroupCommit => exact execJournalGroupCommit_wf h
  | dieBusyTimeout => exact execDieBusyTimeout_wf h _ _
  | flashDieLost => exact execFlashDieLost_wf h _ _
  | dieRebuildDone => exact execDieRebuildDone_wf h _ _ _
  | flashChannelLost => exact execFlashChannelLost_wf h _
  | degradedPageMoved => exact execDegradedPageMoved_wf h _
  | reencryptDone => exact execReencryptDone_wf h _
  | closeRecordProgrammed => exact execCloseRecordProgrammed_wf h
  | taborFence => exact execTaborFence_wf h _
  | fenceReadoutDone => exact execFenceReadoutDone_wf h _ _
  | fenceRehomeDone => exact execFenceRehomeDone_wf h _
  | scratchEccError => exact execScratchEccError_wf h _ _
  | sliceTagError => exact execSliceTagError_wf h _
  | invocationAdmit => exact execInvocationAdmit_wf h _
  | programResident => exact execProgramResident_wf h _ _
  | sliceExpiry => exact execSliceExpiry_wf h _
  | waitSwitchOut => exact execWaitSwitchOut_wf h _
  | waitConditionMet => exact execWaitConditionMet_wf h _ _
  | rangeLoadDone => exact execRangeLoadDone_wf h _ _ _
  | odRd => exact execOdRd_wf h _ _
  | odWr => exact execOdWr_wf h _ _
  | odEvent => exact execOdEvent_wf h _ _
  | wrbEntryExpiry => exact execWrbEntryExpiry_wf h _ _
  | completionPost => exact execCompletionPost_wf h _
  | rdS => exact execRdS_wf h _
  | rdX => exact execRdX_wf h _
  | upg => exact execUpg_wf h _
  | atomX => exact execAtomX_wf h _
  | wb => exact execWb_wf h _
  | evictClean => exact execEvictClean_wf h _
  | rdUc => exact execRdUc_wf h _
  | wrUc => exact execWrUc_wf h _
  | atomHome => exact execAtomHome_wf h _
  | snpInv => exact execSnpInv_wf h _
  | snpFwdS => exact execSnpFwdS_wf h _
  | snpFwdX => exact execSnpFwdX_wf h _
  | snpRecall => exact execSnpRecall_wf h _
  | snpData => exact execSnpData_wf h _
  | ackInv => exact execAckInv_wf h _
  | ackFwd => exact execAckFwd_wf h _
  | dataHome => exact execDataHome_wf h _
  | gntS => exact execGntS_wf h _
  | gntE => exact execGntE_wf h _
  | gntM => exact execGntM_wf h _
  | gntUpg => exact execGntUpg_wf h _
  | atomRsp => exact execAtomRsp_wf h _
  | wbAck => exact execWbAck_wf h _
  | ucRsp => exact execUcRsp_wf h _
  | refuse => exact execRefuse_wf h _
  | combineEntryApply => exact execCombineEntryApply_wf h _ _
  | backoffResend => exact execBackoffResend_wf h _
  | homeTimeoutExpiry => exact execHomeTimeoutExpiry_wf h _
  | snoopResend => exact execSnoopResend_wf h _
  | domainHello => exact execDomainHello_wf h _
  | domainHelloTimer => exact execDomainHelloTimer_wf h
  | domainPropose => exact execDomainPropose_wf h _
  | domainConfirm => exact execDomainConfirm_wf h _
  | domainCommit => exact execDomainCommit_wf h _
  | domainRefuse => exact execDomainRefuse_wf h _
  | formWaitExpiry => exact execFormWaitExpiry_wf h
  | peerLost => exact execPeerLost_wf h _
  | laneSignalDetect => exact execLaneSignalDetect_wf h _
  | anegComplete => exact execAnegComplete_wf h _
  | eqAdaptComplete => exact execEqAdaptComplete_wf h _
  | pcsLock => exact execPcsLock_wf h _ _
  | trainingTimeout => exact execTrainingTimeout_wf h _ _ _
  | mkpduRx => exact execMkpduRx_wf h _ _
  | sakInstalled => exact execSakInstalled_wf h _
  | linkDown => exact execLinkDown_wf h _
  | laneLockLoss => exact execLaneLockLoss_wf h _ _
  | serWindowExceeded => exact execSerWindowExceeded_wf h _ _ _
  | lldpRx => exact execLldpRx_wf h _ _
  | lldpTxTimer => exact execLldpTxTimer_wf h _
  | neighbourAgeOut => exact execNeighbourAgeOut_wf h _
  | subportTxSelect => exact execSubportTxSelect_wf h _
  | xltRead => exact execXltRead_wf h _
  | xltWrite => exact execXltWrite_wf h _
  | flagStore => exact execFlagStore_wf h _
  | flagStoreRelease => exact execFlagStoreRelease_wf h _ _ _
  | atomic => exact execAtomic_wf h _
  | bulk => exact execBulk_wf h _
  | copyData => exact execCopyData_wf h _
  | response => exact execResponse_wf h _
  | applied => exact execApplied_wf h _
  | ack => exact execAck_wf h _
  | nak => exact execNak_wf h _
  | ackTimer => exact execAckTimer_wf h _ _
  | appliedTimer => exact execAppliedTimer_wf h _ _
  | rtoExpiry => exact execRtoExpiry_wf h _ _
  | responseTimeout => exact execResponseTimeout_wf h _
  | rxPathExpiry => exact execRxPathExpiry_wf h _ _
  | xltQuietExpiry => exact execXltQuietExpiry_wf h
  | rateIncreaseTick => exact execRateIncreaseTick_wf h _ _
  | generationGraceExpiry => exact execGenerationGraceExpiry_wf h
  | staleResendTimer => exact execStaleResendTimer_wf h _
  | staleHoldExpiry => exact execStaleHoldExpiry_wf h _
  | windowOpen => exact execWindowOpen_wf h _
  | windowClose => exact execWindowClose_wf h _
  | flagStoreSend => exact execFlagStoreSend_wf h _
  | gatherTimer => exact execGatherTimer_wf h _ _ _
  | copyDescriptorStart => exact execCopyDescriptorStart_wf h _
  | copyDone => exact execCopyDone_wf h _
  | atomicReplyTimer => exact execAtomicReplyTimer_wf h _
  | atomicRetryExpiry => exact execAtomicRetryExpiry_wf h _
  | ledgerEntryExpiry => exact execLedgerEntryExpiry_wf h _ _ _
  | ledgerSourceExpiry => exact execLedgerSourceExpiry_wf h _ _
  | ledgerHoldExpiry => exact execLedgerHoldExpiry_wf h
  | ownHandoff => exact execOwnHandoff_wf h _
  | handoffCommit => exact execHandoffCommit_wf h _
  | handoffReclaim => exact execHandoffReclaim_wf h _
  | preparedResolvePoll => exact execPreparedResolvePoll_wf h _
  | counterAlloc => exact execCounterAlloc_wf h _
  | counterFree => exact execCounterFree_wf h _
  | counterSet => exact execCounterSet_wf h _
  | fill => exact execFill_wf h _ _
  | deny => exact execDeny_wf h _ _
  | invalidate => exact execInvalidate_wf h _ _
  | invalidateTenant => exact execInvalidateTenant_wf h _ _
  | extentGrant => exact execExtentGrant_wf h _ _
  | extentRevoke => exact execExtentRevoke_wf h _ _
  | tenantCreate => exact execTenantCreate_wf h _ _
  | tenantModify => exact execTenantModify_wf h _ _
  | tenantDestroy => exact execTenantDestroy_wf h _ _
  | translationTimeout => exact execTranslationTimeout_wf h _
  | ptcDrainComplete => exact execPtcDrainComplete_wf h _
  | drainTimeout => exact execDrainTimeout_wf h _
  | atsTranslationCompletion => exact execAtsTranslationCompletion_wf h _ _ _ _
  | prgResponse => exact execPrgResponse_wf h _ _
  | atsInvalidateRequest => exact execAtsInvalidateRequest_wf h _ _ _ _ _
  | quotaChargeTick => exact execQuotaChargeTick_wf h
  | quotaWindowExpiry => exact execQuotaWindowExpiry_wf h
  | hostLinkDown => exact execHostLinkDown_wf h _ _
  | hostLinkUp => exact execHostLinkUp_wf h _
  | vfFlr => exact execVfFlr_wf h _ _
  | pfFlr => exact execPfFlr_wf h _
  | sqEnable => exact execSqEnable_wf h _ _ _ _
  | sqDisable => exact execSqDisable_wf h _ _ _ _
  | sqDrainDone => exact execSqDrainDone_wf h _ _ _
  | cqEnable => exact execCqEnable_wf h _ _ _ _
  | cqDisable => exact execCqDisable_wf h _ _ _ _
  | sqTailDoorbell => exact execSqTailDoorbell_wf h _ _ _ _
  | cqHeadDoorbell => exact execCqHeadDoorbell_wf h _ _ _ _
  | reqRingHeadDoorbell => exact execReqRingHeadDoorbell_wf h _ _
  | cmdRingTailDoorbell => exact execCmdRingTailDoorbell_wf h _ _
  | sqEntryFetch => exact execSqEntryFetch_wf h _ _ _ _
  | irqTimeExpiry => exact execIrqTimeExpiry_wf h _ _ _
  | mmioRegWrite => exact execMmioRegWrite_wf h _ _ _ _ _
  | nop => exact execNop_wf h _
  | hostToPool => exact execHostToPool_wf h _
  | poolToHost => exact execPoolToHost_wf h _
  | poolAtomic => exact execPoolAtomic_wf h _
  | regionPublish => exact execRegionPublish_wf h _
  | pageRelease => exact execPageRelease_wf h _
  | pageHint => exact execPageHint_wf h _
  | setProtection => exact execSetProtection_wf h _
  | tierDrain => exact execTierDrain_wf h _
  | loadProgram => exact execLoadProgram_wf h _
  | unloadProgram => exact execUnloadProgram_wf h _
  | runProgram => exact execRunProgram_wf h _
  | progAttach => exact execProgAttach_wf h _
  | progDetach => exact execProgDetach_wf h _
  | copyOp => exact execCopy_wf h _
  | roundDeclare => exact execRoundDeclare_wf h _
  | roundCancel => exact execRoundCancel_wf h _
  | roundContribute => exact execRoundContribute_wf h _
  | inboxLineWrite => exact execInboxLineWrite_wf h _
  | pieceAccumulate => exact execPieceAccumulate_wf h _ _
  | unitDone => exact execUnitDone_wf h _ _
  | mxBlockQuantise => exact execMxBlockQuantise_wf h _ _ _
  | roundComplete => exact execRoundComplete_wf h _
  | inboxHoldExpiry => exact execInboxHoldExpiry_wf h _
  | roundStalled => exact execRoundStalled_wf h _
  | tableCreate => exact execTableCreate_wf h _
  | tableReplace => exact execTableReplace_wf h _
  | tableUnpinned => exact execTableUnpinned_wf h _
  | tableDestroy => exact execTableDestroy_wf h _
  | embLookup => exact execEmbLookup_wf h _
  | rowRead => exact execRowRead_wf h _ _
  | rowUpdateEndWait => exact execRowUpdateEndWait_wf h _ _
  | embUpdate => exact execEmbUpdate_wf h _
  | indexCreate => exact execIndexCreate_wf h _
  | insert => exact execInsert_wf h _
  | delete => exact execDelete_wf h _
  | epochPublish => exact execEpochPublish_wf h _
  | epochPublishDone => exact execEpochPublishDone_wf h _
  | autoPublishTimer => exact execAutoPublishTimer_wf h
  | search => exact execSearch_wf h _
  | compact => exact execCompact_wf h _
  | indexDestroy => exact execIndexDestroy_wf h _
  | storeCreate => exact execStoreCreate_wf h _
  | storeDestroy => exact execStoreDestroy_wf h _
  | remotePutDataReady => exact execRemotePutDataReady_wf h _
  | putWaitExpiry => exact execPutWaitExpiry_wf h _
  | getWaitExpiry => exact execGetWaitExpiry_wf h _
  | ownWaitExpiry => exact execOwnWaitExpiry_wf h _
  | cumulusSlotRelease => exact execCumulusSlotRelease_wf h _ _
  | dropLruWaitExpiry => exact execDropLruWaitExpiry_wf h _
  | check => exact execCheck_wf h _
  | chimeUnitLost => exact execChimeUnitLost_wf h _
  | arbiterGrant => exact execArbiterGrant_wf h _
  | hpWindowExpiry => exact execHpWindowExpiry_wf h _
  | ctxStall => exact execCtxStall_wf h _
  | waitLimitExpiry => exact execWaitLimitExpiry_wf h _ _
  | itemEngine => exact execItemEngine_wf h _
  | homeWatchdog => exact execHomeWatchdog_wf h _
  | galeStall => exact execGaleStall_wf h _
  | tierFault => exact execTierFault_wf h
  | kitFault => exact execKitFault_wf h _
  | portLogic => exact execPortLogic_wf h _
  | portSerdes => exact execPortSerdes_wf h _
  | meshFault => exact execMeshFault_wf h
  | tocsinHeartbeat => exact execTocsinHeartbeat_wf h _
  | carillonWatchdog => exact execCarillonWatchdog_wf h
  | tocsinAHeartbeat => exact execTocsinAHeartbeat_wf h
  | tocsinRestarted => exact execTocsinRestarted_wf h _
  | islandFailed => exact execIslandFailed_wf h
  | hardwiredPathFire => exact execHardwiredPathFire_wf h
  | tenantContextReset => exact execTenantContextReset_wf h _
  | kitReset => exact execKitReset_wf h _
  | portReset => exact execPortReset_wf h _ _
  | carillonReset => exact execCarillonReset_wf h
  | chipWarmReset => exact execChipWarmReset_wf h
  | warmResetDrainDone => exact execWarmResetDrainDone_wf h
  | warmResetDomainsDone => exact execWarmResetDomainsDone_wf h
  | warmResetRestoreDone => exact execWarmResetRestoreDone_wf h
  | warmResetDone => exact execWarmResetDone_wf h
  | resetDone => exact execResetDone_wf h _ _
  | resetBoundExpiry => exact execResetBoundExpiry_wf h _ _
  | outOfService => exact execOutOfService_wf h
  | odpRead => exact execOdpRead_wf h _ _
  | odpWrite => exact execOdpWrite_wf h _ _
  | describe => exact execDescribe_wf h _ _
  | segReadInit => exact execSegReadInit_wf h _ _
  | segWriteInit => exact execSegWriteInit_wf h _ _
  | segData => exact execSegData_wf h _ _
  | segAck => exact execSegAck_wf h _ _
  | segEnd => exact execSegEnd_wf h _ _
  | lockOp => exact execLock_wf h _ _
  | unlockOp => exact execUnlock_wf h _ _
  | abortOp => exact execAbort_wf h _ _
  | segTimeout => exact execSegTimeout_wf h _ _
  | lockMaxExpiry => exact execLockMaxExpiry_wf h _
  | tidRetentionExpiry => exact execTidRetentionExpiry_wf h _ _
  | configStoreDone => exact execConfigStoreDone_wf h
  | mbDoorbell => exact execMbDoorbell_wf h _ _
  | mbRelease => exact execMbRelease_wf h _
  | mbOverrunClear => exact execMbOverrunClear_wf h _
  | mbNotifyLostClear => exact execMbNotifyLostClear_wf h _
  | mbNotifyHead => exact execMbNotifyHead_wf h _ _
  | triggerPeriod => exact execTriggerPeriod_wf h _
  | scriptRun => exact execScriptRun_wf h
  | pageHomeAccessDone => exact execPageHomeAccessDone_wf h _
  | frostEraseDone => exact execFrostEraseDone_wf h _ _
  | pwrWarnNDeassert => exact execPwrWarnNDeassert_wf h
  | vddCoreSagClear => exact execVddCoreSagClear_wf h
  | refclk25mInterruption => exact execRefclk25mInterruption_wf h
  | busMasterEnable => exact execBusMasterEnable_wf h _ _ _
  | hostReadCompletion => exact execHostReadCompletion_wf h _ _
  | packetBecomesEligible => exact execPacketBecomesEligible_wf h _

theorem step_wf {s : State} (h : Memory.wf s.mem = true) : WfNext (step s) := by
  simp only [step]
  split
  · simpa using h
  · exact exec_wf (by simpa using h) _

/-- Settles O48: each row writes the range through `wrByte` alone, which keeps the order of the cells. -/
theorem memoryStaysCanonical : Obligations.MemoryStaysCanonical := fun _ _ h ht => step_wf h _ ht

end Sys2Proof.Machine

/-!
PROOFS. Finite maps after a change of one value or of all, and the guard of an event inside a powered device.
-/

namespace Sys2Proof.FMap

variable {α : Type}

theorem get?_modify (m : FMap α) (j k : Nat) (f : α → α) :
    get? (modify m j f) k = if k = j then (get? m j).map f else get? m k := by
  simp only [modify]
  split
  case h_1 v hv => simp [get?_set, hv]
  case h_2 hv =>
    split
    · next h => simp [h, hv]
    · rfl

@[simp] theorem get?_modify_self (m : FMap α) (j : Nat) (f : α → α) : get? (modify m j f) j = (get? m j).map f := by
  simp [get?_modify]

@[simp] theorem get?_mapVal (m : FMap α) (f : Nat → α → α) (k : Nat) : get? (mapVal m f) k = (get? m k).map (f k) := by
  induction m with
  | nil => rfl
  | cons p m ih =>
    obtain ⟨a, b⟩ := p
    simp only [mapVal, List.map_cons, get?_cons] at ih ⊢
    split
    · next h => simp [h]
    · exact ih

end Sys2Proof.FMap

namespace Sys2Proof.Machine

theorem act_of_powered {s : State} (h : s.powered = true) (t : State) : s.act t = .next t := by simp [State.act, h]

end Sys2Proof.Machine

/-!
PROOFS. Moves, rounds, uncorrectable lines, lost modules and drains (chapter 2).
-/

namespace Sys2Proof.Machine

@[simp] theorem setEntry_ti (p : Nat) (e : HomeEntry) (s : State) :
    (setEntry p e s).ti = { s.ti with homeA := s.ti.homeA.set p e, homeB := s.ti.homeB.set p e } := rfl

@[simp] theorem setEntry_od (p : Nat) (e : HomeEntry) (s : State) : (setEntry p e s).od = s.od := rfl

theorem reach_now {s : State} (h : s.pw.refclk = true) (t : Nat) : (s.reach t).now = max s.now t := by
  simp [State.reach, h]

theorem reach_eq_setNow (t : Nat) (s : State) : s.reach t = s.setNow (s.reach t).now := by
  simp only [State.reach]
  split <;> rfl

theorem entryOf_of_get? {s : State} {p : Nat} {e : HomeEntry} (h : s.ti.homeA.get? p = some e) : entryOf s p = e := by
  simp [entryOf, h]

theorem startMove_heat (page tier : Nat) (s : State) (p : Nat) :
    (entryOf (startMove page tier s) p).heat = (entryOf s p).heat := by
  simp only [startMove]
  split
  · split
    · rfl
    · refine (congrArg HomeEntry.heat (entryOf_congr rfl rfl p)).trans ?_
      refine (congrArg HomeEntry.heat (entryOf_setEntry ..)).trans ?_
      split
      case isTrue h => rw [h]
      case isFalse => exact congrArg HomeEntry.heat (entryOf_congr rfl rfl p)
  · rfl

theorem startMove_sv (page tier : Nat) (s : State) : (startMove page tier s).sv = s.sv := by
  simp only [startMove]
  repeat' split
  all_goals simp [takePlace, setEntry]

/-- Planned moves keep what each start of a move and the shortening of the plan keep. -/
theorem startPlanned_keeps {β : Type} (g : State → β) (hm : ∀ p t s, g (startMove p t s) = g s)
    (hp : ∀ s l, g (s.setTi { s.ti with plan := l }) = g s) (n : Nat) (s : State) : g (startPlanned n s) = g s := by
  induction n generalizing s with
  | zero => rfl
  | succ n ih =>
    simp only [startPlanned]
    repeat' split
    all_goals simp [ih, hm, hp]

theorem startPlanned_heat (n : Nat) (s : State) (p : Nat) :
    (entryOf (startPlanned n s) p).heat = (entryOf s p).heat :=
  startPlanned_keeps (fun s => (entryOf s p).heat) (fun q t s => startMove_heat q t s p)
    (fun _ _ => congrArg HomeEntry.heat (entryOf_congr rfl rfl p)) n s

theorem startPlanned_sv (n : Nat) (s : State) : (startPlanned n s).sv = s.sv :=
  startPlanned_keeps State.sv startMove_sv (fun _ _ => rfl) n s

/-- A page whose move is given up is HOME where it was, and only the move's destination is free. -/
theorem abandonMove_page {s : State} {r : Nat} {m : Move} (h : s.ti.moves.get? r = some m) (ht : (entryOf s m.page).tier ≠ 0) :
    (entryOf (abandonMove r s) m.page).state = 0 ∧ (entryOf (abandonMove r s) m.page).place = (entryOf s m.page).place ∧
      (abandonMove r s).ti.moves = s.ti.moves.erase r ∧ (abandonMove r s).ti.plan = s.ti.plan ∧
      (abandonMove r s).ti.drainItems = s.ti.drainItems ∧ (abandonMove r s).mem = s.mem ∧ (abandonMove r s).now = s.now := by
  obtain ⟨u, q, he⟩ := abandonMove_spec h ht
  rw [he]
  simp [HomeEntry.place, setEntry_mem]
  rfl

theorem checkLowSpace_page (s : State) (p : Nat) : entryOf (checkLowSpace s) p = entryOf s p := by
  obtain ⟨b, hti, hnum, -⟩ := checkLowSpace_spec s
  exact entryOf_congr (by rw [hti]) hnum p

theorem drumBegin_ti (t : Nat) (s : State) : (drumBegin t s).ti = s.ti := by
  simp only [drumBegin]
  split <;> simp [setDrum]

theorem drumBegin_num (t : Nat) (s : State) : (drumBegin t s).od.num = s.od.num := by
  simp only [drumBegin]
  split <;> simp [setDrum, raise_num]

theorem drumBegin_running (t : Nat) (s : State) : (getDrum (drumBegin t s) t).running = true := by
  simp only [drumBegin]
  split <;> simp [getDrum, setDrum]

theorem getItem_endItem (n st r0 r1 k : Nat) (s : State) : (endItem n st r0 r1 s).ho.items.get? k =
    if k = n then (s.ho.items.get? n).map (fun i => if i.ended.isSome then i
      else { i with ended := some st, r0 := if r0 = 0 then i.r0 else r0, r1 := if r1 = 0 then i.r1 else r1, wait := .none })
    else s.ho.items.get? k := by
  simp [endItem, modItem, FMap.get?_modify]

/-- An item that has ended has ended for good. -/
theorem foldl_endItem_ended (st : Nat) (l : List Nat) {n : Nat} {s : State} {i : Item} {q : Nat}
    (hi : s.ho.items.get? n = some i) (he : i.ended = some q) :
    (l.foldl (fun s k => endItem k st 0 0 s) s).ho.items.get? n = some i := by
  induction l generalizing s with
  | nil => exact hi
  | cons k l ih =>
    refine ih ?_
    rw [getItem_endItem]
    split
    case isTrue h => simp [← h, hi, he]
    case isFalse => exact hi

/-- Items ended in turn with one status: each one listed that had not ended has it. -/
theorem foldl_endItem (st : Nat) {l : List Nat} {n : Nat} {s : State} {i : Item} (hn : n ∈ l)
    (hi : s.ho.items.get? n = some i) (he : i.ended = none) :
    ∃ j, (l.foldl (fun s k => endItem k st 0 0 s) s).ho.items.get? n = some j ∧ j.ended = some st := by
  induction l generalizing s with
  | nil => cases hn
  | cons k l ih =>
    by_cases h : n = k
    · subst h
      refine ⟨{ i with ended := some st, wait := .none }, foldl_endItem_ended st l ?_ rfl, rfl⟩
      rw [getItem_endItem, if_pos rfl, hi]
      simp [he]
    · exact ih ((List.mem_cons.1 hn).resolve_left h) (by rw [getItem_endItem, if_neg h, hi])

theorem raise_newest (c j a b : Nat) (s : State) : (raise c j a b s).rc.newest = s.rc.newest + 1 := by
  simp [raise]

theorem foldl_newest_le {α : Type} {f : State → α → State} (h : ∀ s a, s.rc.newest ≤ (f s a).rc.newest) (l : List α)
    (s : State) : s.rc.newest ≤ (l.foldl f s).rc.newest := by
  induction l generalizing s with
  | nil => exact Nat.le_refl _
  | cons a l ih => exact Nat.le_trans (h s a) (ih _)

/-- What the end of a rebuild touches: which modules are owed an event, and the events. -/
theorem checkRebuilt_spec (s : State) : ∃ o, (checkRebuilt s).ti = { s.ti with owing := o } ∧
    (checkRebuilt s).od.num = s.od.num ∧ s.rc.newest ≤ (checkRebuilt s).rc.newest := by
  simp only [checkRebuilt]
  split
  · exact ⟨_, rfl, rfl, Nat.le_refl _⟩
  next hwait =>
    clear hwait
    generalize s.ti.owing.map Prod.fst = l
    induction l generalizing s with
    | nil => exact ⟨_, rfl, rfl, Nat.le_refl _⟩
    | cons m l ih =>
      rw [List.foldl_cons]
      split
      · exact ih s
      · obtain ⟨o, hti, hnum, hle⟩ := ih (raise 0x102 m 0 0 (s.setTi { s.ti with owing := s.ti.owing.del m }))
        refine ⟨o, by simpa using hti, by simpa [raise_num] using hnum, ?_⟩
        rw [raise_newest] at hle
        simp only [State.setTi_rc] at hle
        omega

/-- Which modules are lost, and the log of events. -/
def State.marks (s : State) : NSet × Recov := (s.ti.lostModules, s.rc)

@[simp] theorem abandonMove_marks (r : Nat) (s : State) : (abandonMove r s).marks = s.marks := by
  simp only [abandonMove]
  split
  · rfl
  case h_2 m _ =>
    obtain ⟨u, q, hf⟩ := freePlace_ti m.dst (s.setTi { s.ti with moves := s.ti.moves.erase r })
    rw [hf]
    split <;> rfl

/-- A module that is lost is marked, and at least one event says so. -/
theorem loseModule_spec {m : Nat} {s : State} (h : s.ti.lostModules.mem m = false) :
    (loseModule m s).ti.lostModules = s.ti.lostModules.add m ∧ s.rc.newest < (loseModule m s).rc.newest := by
  rw [loseModule, if_neg (c := s.ti.lostModules.mem m = true) (by simp [h])]
  extract_lets ti s1 s2 hit s3 s4 s5
  have h2 : (s2.ti.lostModules, s2.rc.newest) = (s.ti.lostModules.add m, s.rc.newest + 1) := by
    simp [s2, s1, raise_newest]
  have h3 : s3.marks = s2.marks := by
    refine foldl_keeps State.marks _ (fun t r => ?_) _ _
    repeat' split
    all_goals simp
  have h4 : s4.marks = s3.marks := by
    refine foldl_keeps State.marks _ (fun t r => ?_) _ _
    dsimp only
    split <;> rfl
  have h5 : s5.marks = s4.marks := by
    refine foldl_keeps State.marks _ (fun t r => ?_) _ _
    dsimp only
    split <;> rfl
  obtain ⟨o, hti, -, hle⟩ := checkRebuilt_spec s5
  simp only [State.marks, Prod.mk.injEq] at h2 h3 h4 h5
  rw [h5.2, h4.2, h3.2, h2.2] at hle
  exact ⟨by rw [hti, h5.1, h4.1, h3.1, h2.1], hle⟩

theorem homeAt_page (page : Nat) (p : Place) (s : State) : (entryOf (homeAt page p s) page).place = p ∧
    (homeAt page p s).ti.rebuild = s.ti.rebuild ∧ (homeAt page p s).ti.waiting = s.ti.waiting := by
  simp only [homeAt]
  split <;> simp [journal, takePlace, HomeEntry.place]

/-- A page of a lost module that has no copy and no group takes the place chosen for it. -/
theorem rehomePage_spec {s : State} {page : Nat} {p : Place} (ht : (entryOf s page).tier = 1 ∨ (entryOf s page).tier = 2)
    (ha : (entryOf s page).arranged = 0) (hp : choosePlace s (entryOf s page) = some p) :
    (entryOf (rehomePage page s) page).place = p ∧ (rehomePage page s).ti.rebuild = s.ti.rebuild.erase page ∧
      (rehomePage page s).ti.waiting = s.ti.waiting.del page := by
  have he : rehomePage page s = checkRebuilt ((freePlace (entryOf s page).place (homeAt page p s)).setTi
      { (freePlace (entryOf s page).place (homeAt page p s)).ti with
        rebuild := (freePlace (entryOf s page).place (homeAt page p s)).ti.rebuild.erase page
        waiting := (freePlace (entryOf s page).place (homeAt page p s)).ti.waiting.del page }) := by
    simp [rehomePage, ht, ha, hp]
  obtain ⟨hplace, hrb, hwt⟩ := homeAt_page page p s
  obtain ⟨u, q, hf⟩ := freePlace_ti (entryOf s page).place (homeAt page p s)
  obtain ⟨o, hti, hnum, -⟩ := checkRebuilt_spec ((freePlace (entryOf s page).place (homeAt page p s)).setTi
      { (freePlace (entryOf s page).place (homeAt page p s)).ti with
        rebuild := (freePlace (entryOf s page).place (homeAt page p s)).ti.rebuild.erase page
        waiting := (freePlace (entryOf s page).place (homeAt page p s)).ti.waiting.del page })
  rw [he, entryOf_congr (s := homeAt page p s) (by rw [hti, hf]; rfl) (by rw [hnum, hf]; rfl), hti, hf]
  exact ⟨hplace, congrArg (FMap.erase · page) hrb, congrArg (NSet.del · page) hwt⟩

/-- Settles O1: each clause is the row with its guards met; what the shared operations touch is said above. -/
theorem driftMovesPages : Obligations.DriftMovesPages := by
  unfold Obligations.DriftMovesPages
  refine ⟨?_, ?_, ?_, ?_, ?_, ?_, ?_, ?_, ?_, ?_, ?_, ?_, ?_, ?_, ?_, ?_⟩
  · intro s r m hp hm hs hf hc
    simp [exec, execDriftChunkCopyDone, act_of_powered hp, hm, hs, hf, hc]
  · intro s r m hp hm hs hf hc hd
    refine ⟨_, by simp [exec, execDriftChunkCopyDone, act_of_powered hp, hm, hs, hf, hc, hd, switchReady]; rfl,
      by simp, by simp, by simp [hd], fun p hp => by simp [entryOf_setEntry, entryOf_setTi, hp], by rfl, by rfl⟩
  · intro s r m hp hm hs
    refine ⟨_, by simp only [exec, execSwitchComplete, act_of_powered hp, hm, hs]; exact rfl,
      by simp [entryOf, HomeEntry.place, Move.dst], by simp [entryOf], by simp,
      fun p hp => by simp [entryOf, Par.defaultProtection, FMap.get?_set, hp], by rfl, by rfl⟩
  · intro s r m since hp hr hm hst hs hb
    refine ⟨_, by simp [exec, execSwitchStallExpiry, act_of_powered hp, hm, hs, hst, show ¬ 15 ≤ m.backs by omega]; exact rfl,
      by simp, by simp [HomeEntry.place], by simp [setEntry, reach_now hr], by simp,
      fun p hp => by simp [entryOf_setEntry, entryOf_setTi, hp], ?_⟩
    rw [reach_eq_setNow]
    rfl
  · intro s r m since hp hm hst hs ht hb hpl hd
    obtain ⟨h0, hpl', hmv, hplan, hdr, hmem, -⟩ :=
      abandonMove_page (s := s.reach (since + if touchesFlash m then 250000 else 2000)) (by simpa using hm) (by simpa using ht)
    refine ⟨_, by simp [exec, execSwitchStallExpiry, act_of_powered hp, hm, hs, hst, hb]; exact rfl, ?_⟩
    rw [startPlanned_none _ _ (by simpa [hpl] using hplan) (by simpa [hd] using hdr)]
    exact ⟨h0, by simpa using hpl', by simpa using hmv, by simpa using hmem⟩
  · intro s r m hp hr hm hs ht hpl hd
    obtain ⟨h0, hpl', hmv, hplan, hdr, hmem, hnow⟩ :=
      abandonMove_page (s := s.reach (m.started + 1000 * if touchesFlash m then Par.moveTimeoutFlash s else Par.moveTimeoutDram s))
        (by simpa using hm) (by simpa using ht)
    refine ⟨_, by simp only [exec, execMoveTimeout, act_of_powered hp, hm, hs, if_false]; exact rfl, ?_⟩
    rw [startPlanned_none _ _ (by simpa [hpl] using hplan) (by simpa [hd] using hdr)]
    refine ⟨h0, by simpa using hpl', by simpa using hmv, ?_, by simpa using hmem⟩
    rw [hnow, reach_now hr]
    exact Nat.le_max_right ..
  · intro s tier slot r m hp href hf hpl hd
    refine ⟨_, by simp [exec, execSourceRefcountZero, act_of_powered hp, href, hf]; exact rfl, ?_⟩
    obtain ⟨u, q, hfree⟩ := freePlace_ti m.src (s.setTi { s.ti with moves := s.ti.moves.erase r })
    rw [hfree]
    generalize hu : setEntry m.page _ _ = u
    obtain ⟨b, hti, -, hmem⟩ := checkLowSpace_spec u
    rw [startPlanned_none _ _ (by rw [hti, ← hu]; exact hpl) (by rw [hti, ← hu]; exact hd)]
    refine ⟨?_, ?_, ?_, ?_⟩
    · rw [checkLowSpace_page, ← hu, entryOf_setEntry_self]
    · rw [checkLowSpace_page, ← hu, entryOf_setEntry_self]
      rfl
    · rw [hti, ← hu]
      rfl
    · rw [hmem, ← hu]
      rfl
  · intro s page e hdr he hh
    have hheat : ∀ u : State, u.ti.homeA = (drumBegin 0 s).ti.homeA.mapVal (fun _ e =>
        { e with heat := if e.hint = 3 then 0 else e.heat - e.heat / 2 ^ Par.heatDecayShift (drumBegin 0 s),
                 hint := if e.hint = 3 && e.tier = 3 && e.state = 0 then 0 else e.hint }) →
        u.sv = (drumBegin 0 s).sv → u.mem = s.mem →
        (entryOf (startPlanned 16 u) page).heat = e.heat - e.heat / 2 ^ Par.heatDecayShift s ∧
          (getDrum (startPlanned 16 u) 0).running = true ∧ (startPlanned 16 u).mem = s.mem := by
      intro u hu hv hm
      refine ⟨?_, ?_, by simpa using hm⟩
      · rw [startPlanned_heat, entryOf_of_get? (by rw [hu, FMap.get?_mapVal, drumBegin_ti, he]; rfl)]
        simp [hh, Par.heatDecayShift, drumBegin_num]
      · have := drumBegin_running 0 s
        simpa [getDrum, startPlanned_sv, hv] using this
    simp only [exec, execDriftRound, hdr, Bool.not_true, Bool.false_eq_true, if_false]
    split
    · exact ⟨_, rfl, hheat _ rfl rfl (drumBegin_mem ..)⟩
    · exact ⟨_, rfl, hheat _ rfl rfl (drumBegin_mem ..)⟩
  · intro s task hp hr
    simp [exec, execDrumbeatRunEnd, act_of_powered hp, hr]
  · intro s pha copy m hp hr ht ha hm hl hu
    have hr' := Nat.not_le.2 hr
    have ht' : ¬(¬(entryOf s (pha / 0x200000)).tier = 1 ∧ ¬(entryOf s (pha / 0x200000)).tier = 2) := by omega
    simp only [exec, execUncorrectableLine, act_of_powered hp]
    simp [hr', ht', ha, hm, hl]
    exact fun h => absurd hu (Nat.not_lt.2 h)
  · intro s pha copy m hp hr ht ha hg hg' hm hl hu
    have hr' := Nat.not_le.2 hr
    have ht' : ¬(¬(entryOf s (pha / 0x200000)).tier = 1 ∧ ¬(entryOf s (pha / 0x200000)).tier = 2) := by omega
    have good : ∀ l t n, slotGood (s.setTi { s.ti with ueLog := l }) t n = slotGood s t n := fun _ _ _ => rfl
    simp only [exec, execUncorrectableLine, act_of_powered hp]
    simp [hr', ht', ha, hm, hl, good, hg, hg']
    exact fun h => absurd hu (Nat.not_lt.2 h)
  · intro s pha copy h
    simp [exec, execUncorrectableLine, h]
  · intro s m hp hm hl
    obtain ⟨hlost, hnew⟩ := loseModule_spec hl
    exact ⟨_, by simp [exec, execModuleLost, act_of_powered hp, hm], hlost, by simp, hnew⟩
  · intro s page p hp hr hw hs ht ha hc
    obtain ⟨hplace, hrb, -⟩ := rehomePage_spec ht ha hc
    exact ⟨_, by simp [exec, execPageRebuildDone, act_of_powered hp, hr, hw, hs], hplace, hrb, by simp⟩
  · intro s page p hp hw ht ha hc
    obtain ⟨hplace, -, hwt⟩ := rehomePage_spec ht ha hc
    exact ⟨_, by simp [exec, execWaitingPageHomed, act_of_powered hp, hw], hplace, hwt, by simp⟩
  · intro s hp hd hs ha hm
    refine ⟨_, by simp [exec, execTierDrainDone, act_of_powered hp, draining, hd, hs, ha, hm]; exact rfl, by simp, by simp, ?_, fun n it hn hi he => ?_⟩
    · exact foldl_mem (fun _ _ => endItem_mem ..) _ _
    · exact foldl_endItem Config.ok hn hi he
end Sys2Proof.Machine

/-!
PROOFS. Reads, programs, the journal, lost parts and relocated blocks of Frost (chapter 3).
-/

namespace Sys2Proof.Machine

theorem loseUnit_fr (u : Nat) (s : State) : (loseUnit u s).fr = s.fr := by
  rw [loseUnit, raise_fr]
  generalize List.range 256 = l
  exact foldl_keeps State.fr (fun s i => setPoison s (0x4000 * u + 64 * i)) (fun _ _ => rfl) l s

theorem loseUnit_newest_le (u : Nat) (s : State) : s.rc.newest ≤ (loseUnit u s).rc.newest := by
  rw [loseUnit, raise_newest]
  generalize List.range 256 = l
  rw [foldl_keeps State.rc (fun s i => setPoison s (0x4000 * u + 64 * i)) (fun _ _ => rfl) l s]
  exact Nat.le_succ _

/-- What the loss of rows leaves of Frost's tables: dies, groups and lost channels. -/
def State.parts (s : State) : FMap Die × FMap Group × NSet := (s.fr.dies, s.fr.groups, s.fr.lostChannels)

theorem loseUnit_parts (u : Nat) (s : State) : (loseUnit u s).parts = s.parts := by
  simp only [State.parts, loseUnit_fr]

theorem checkRows_parts (g die : Nat) (s : State) : (checkRows g die s).parts = s.parts := by
  simp only [checkRows]
  split
  · rfl
  · generalize List.map Prod.fst _ = l
    exact foldl_keeps State.parts _ (fun t u => (loseUnit_parts u _).trans (by rfl)) l s

theorem checkRows_newest_le (g die : Nat) (s : State) : s.rc.newest ≤ (checkRows g die s).rc.newest := by
  simp only [checkRows]
  split
  · exact Nat.le_refl _
  · generalize List.map Prod.fst _ = l
    exact foldl_newest_le (fun t u => Nat.le_trans (Nat.le_of_eq (by rfl)) (loseUnit_newest_le u _)) l s

theorem loseDie_spec {chan die : Nat} {s : State} (h : (getDie s (dieKey chan die)).lost = false) :
    (getDie (loseDie chan die s) (dieKey chan die)).lost = true ∧ s.rc.newest < (loseDie chan die s).rc.newest := by
  simp only [loseDie, h, Bool.false_eq_true, if_false]
  generalize hu : raise 0x114 chan die 0 _ = u
  have hu' : u.rc.newest = s.rc.newest + 1 := by rw [← hu, raise_newest]; rfl
  have hn := checkRows_newest_le (chan / 16) die u
  refine ⟨?_, by omega⟩
  rw [getDie, show (checkRows (chan / 16) die u).fr.dies = u.fr.dies from congrArg Prod.fst (checkRows_parts ..), ← hu]
  simp [setDie]

theorem loseChannel_spec {chan : Nat} {s : State} (h : s.fr.lostChannels.mem chan = false) :
    groupState (loseChannel chan s) (chan / 16) = 3 ∧ (loseChannel chan s).fr.lostChannels = s.fr.lostChannels.add chan ∧
      s.rc.newest < (loseChannel chan s).rc.newest := by
  simp only [loseChannel, h, Bool.false_eq_true, if_false]
  generalize hu : raise 0x115 chan 0 0 _ = u
  have hp : ((List.range 16).foldl (fun s d => checkRows (chan / 16) d s) u).parts = u.parts :=
    foldl_keeps State.parts _ (fun t d => checkRows_parts _ d t) _ _
  have hn := foldl_newest_le (f := fun s d => checkRows (chan / 16) d s) (fun t d => checkRows_newest_le _ d t) (List.range 16) u
  have hu' : u.rc.newest = s.rc.newest + 1 := by rw [← hu, raise_newest]; rfl
  simp only [State.parts, Prod.mk.injEq] at hp
  obtain ⟨-, hg, hl⟩ := hp
  refine ⟨?_, ?_, by omega⟩
  · rw [groupState, hg, ← hu]
    simp
  · rw [hl, ← hu]
    simp

theorem useSpares_dies (g n : Nat) (s : State) :
    (useSpares g n s).fr.dies = s.fr.dies ∧ (useSpares g n s).fr.loc = s.fr.loc := by
  simp only [useSpares]
  repeat' split
  all_goals simp

theorem drumBegin_fr (t : Nat) (s : State) : (drumBegin t s).fr = s.fr := by
  simp only [drumBegin]
  split <;> simp [setDrum]

theorem drumBegin_deviceState (t : Nat) (s : State) : (drumBegin t s).rc.deviceState = s.rc.deviceState := by
  simp only [drumBegin]
  split <;> simp [setDrum, raise]

theorem drumBegin_bt (t : Nat) (s : State) : (drumBegin t s).bt = s.bt := by
  simp only [drumBegin]
  split <;> simp [setDrum]

/-- The copies that a commit brings into effect. -/
theorem commitJournal_intents (s : State) (p : Nat) :
    (commitJournal s).fr.intents.mem p = (s.fr.intents.mem p || s.fr.pend.contains (.intent p)) := by
  simp only [commitJournal, State.setFr_fr]
  generalize s.fr.intents = n
  induction s.fr.pend generalizing n with
  | nil => simp
  | cons r l ih =>
    rw [List.foldl_cons, ih]
    cases r <;> simp [NSet.mem, NSet.add, FMap.has_set, Bool.or_assoc, Bool.or_left_comm]

/-- A unit copied within its group is mapped to its new place, and the others stay. -/
theorem remap_one {from_ : Nat → FrostLoc → Bool} {u : Nat} {old new : FrostLoc} {s : State} (hl : s.fr.loc.get? u = some old)
    (hf : from_ u old = true) (hc : new.chan / 16 = old.chan / 16) :
    ∃ f, remap from_ [(u, new)] s = s.setFr f ∧ f.loc = s.fr.loc.set u new := by
  simp [remap, hl, hf, hc]
  exact ⟨_, rfl, rfl⟩

theorem locLost_setReads (s : State) (m : FMap UnitRead) (c d : Nat) :
    locLost (s.setFr { s.fr with reads := m }) c d = locLost s c d := rfl

/-- Settles O2: each clause is the row with its guards met; rows lost and spares used keep the tables named above. -/
theorem frostServesPages : Obligations.FrostServesPages := by
  unfold Obligations.FrostServesPages
  refine ⟨?_, ?_, ?_, ?_, ?_, ?_, ?_, ?_, ?_, ?_, ?_, ?_, ?_, ?_, ?_, ?_, ?_, ?_, ?_, ?_, ?_, ?_, ?_⟩
  · intro s u n l hp hr hl
    exact ⟨_, by simp [exec, execFrostUnitReadDone, act_of_powered hp, hr, hl]; exact rfl, by rfl, by rfl,
      by simp [Nat.mul_comm]⟩
  · intro s u n hp hr
    simp [exec, execFrostUnitReadDone, act_of_powered hp, hr]
  · intro s u r hp hr hb hn
    simp [exec, execFrostReadRetryDone, act_of_powered hp, hr, hb, hn]
  · intro s u r hp hr hb hn
    simp only [exec, execFrostReadRetryDone, act_of_powered hp, hr, hb]
    rw [if_neg (by simpa using hn)]
    simp
    split <;> rfl
  · intro s u r l hp hr hb hl hi
    have hall : ((List.range 16).any fun i => decide (16 * (l.chan / 16) + i ≠ l.chan) &&
        locLost (s.setFr { s.fr with reads := s.fr.reads.erase u }) (16 * (l.chan / 16) + i) l.die) = false := by
      rw [List.any_eq_false]
      intro i hm
      by_cases hne : 16 * (l.chan / 16) + i = l.chan
      · simp [hne]
      · simp only [locLost_setReads, hi i (List.mem_range.1 hm) hne]
        simp
    simp only [exec, execFrostParityRebuildDone, act_of_powered hp, hr, hb, State.setFr_fr, hl, hall]
    simp
  · intro s u i r l hp hr hb hl hi hne hlost
    have hany : ((List.range 16).any fun i => decide (16 * (l.chan / 16) + i ≠ l.chan) &&
        locLost (s.setFr { s.fr with reads := s.fr.reads.erase u }) (16 * (l.chan / 16) + i) l.die) = true := by
      rw [List.any_eq_true]
      exact ⟨i, List.mem_range.2 hi, by simp only [locLost_setReads, hlost]; simp [hne]⟩
    simp only [exec, execFrostParityRebuildDone, act_of_powered hp, hr, hb, State.setFr_fr, hl, hany]
    simp
  · intro s u hp
    simp [exec, execBufferUnitFillDone, act_of_powered hp]
  · intro s u b hp hr hb hpr hf hg
    refine ⟨_, by simp [exec, execFlushAgeExpiry, act_of_powered hp, hb, hpr, hf]; exact rfl, ?_⟩
    have hg' : groupState (s.reach (b.last + 1000 * Par.flushAge s)) (unitGroup (s.reach (b.last + 1000 * Par.flushAge s)) u) ≠ 3 := by
      simpa [groupState, unitGroup] using hg
    rw [startProgram, if_neg hg', reach_eq_setNow]
    refine ⟨by rfl, ?_, ?_, by rfl, by rfl⟩
    · simp [reach_now hr, Nat.le_max_right]
    · simp [FMap.get?_modify, hb, hpr, hf]
  · intro s u b loc hp hb hpr hw hc
    simp [exec, execFrostProgramDone, act_of_powered hp, hb, hpr, hw, hc]
  · intro s u b loc hp hb hpr hw hc
    simp [exec, execFrostProgramDone, act_of_powered hp, hb, hpr, hw, hc]
  · intro s hp hf hpend
    exact ⟨_, by simp [exec, execJournalGroupCommit, act_of_powered hp, hf, hpend], by rfl, by rfl, by rfl,
      commitJournal_intents s⟩
  · intro s hd hf
    have hf' : frostPrograms (drumBegin 4 s) = true := by simpa [frostPrograms, drumBegin_fr, drumBegin_bt] using hf
    refine ⟨_, by simp [exec, execJournalFlush, hd, hf']; exact rfl, by rfl, ⟨_, by rfl, ?_, ?_⟩, ?_, ?_, ?_⟩
    · simp [commitJournal, drumBegin_ti]
    · simp [commitJournal, drumBegin_fr]
    · simp [commitJournal, writeCheckpoint, drumBegin_fr]
    · simp
    · simp [commitJournal, writeCheckpoint, drumBegin_ti]
  · intro s hp hc hb
    exact ⟨_, by simp [exec, execCloseRecordProgrammed, act_of_powered hp, hc, hb]; exact rfl, by rfl, by rfl, by rfl, by rfl,
      by rfl, by rfl, by rfl⟩
  · intro s block hp he
    simp [exec, execFrostEraseDone, act_of_powered hp, he]
  · intro s u old new hd hf hl hb hc
    have hf' : frostPrograms (drumBegin 1 s) = true := by simpa [frostPrograms, drumBegin_fr, drumBegin_bt] using hf
    obtain ⟨f, he, hloc⟩ := remap_one (from_ := fun u _ => !(drumBegin 1 s).fr.buf.has u) (s := drumBegin 1 s)
      (by rw [drumBegin_fr]; exact hl) (by simp [drumBegin_fr, hb]) hc
    refine ⟨(drumBegin 1 s).setFr f, by simp [exec, execFrostGcRun, hd, hf', he], ?_, by simp, drumBegin_ti 1 s,
      drumBegin_running 1 s, fun v hv => ?_⟩
    · simp [hloc]
    · simp [hloc, drumBegin_fr, FMap.get?_set, hv]
  · intro s u old new hd hf hds hl hb hc
    have hf' : frostPrograms (drumBegin 2 s) = true := by simpa [frostPrograms, drumBegin_fr, drumBegin_bt] using hf
    obtain ⟨f, he, hloc⟩ := remap_one (from_ := fun u _ => !(drumBegin 2 s).fr.buf.has u) (s := drumBegin 2 s)
      (by rw [drumBegin_fr]; exact hl) (by simp [drumBegin_fr, hb]) hc
    refine ⟨(drumBegin 2 s).setFr f, by simp [exec, execScrubRun, hd, hf', drumBegin_deviceState, hds, he], ?_, by simp,
      drumBegin_ti 2 s, drumBegin_running 2 s, fun v hv => ?_⟩
    · simp [hloc]
    · simp [hloc, drumBegin_fr, FMap.get?_set, hv]
  · intro s block hp hf hl
    simp [exec, execReadDisturbRelocate, act_of_powered hp, hf, hl, remap]
  · intro s c d hp hd hb
    simp [exec, execDieBusyTimeout, act_of_powered hp, Nat.not_le.2 hd, hb]
  · intro s c d hp hd hb
    simp [exec, execDieBusyTimeout, act_of_powered hp, Nat.not_le.2 hd, hb]
  · intro s c d hp hd hb
    obtain ⟨hlost, hnew⟩ := loseDie_spec hb
    exact ⟨_, by simp [exec, execFlashDieLost, act_of_powered hp, Nat.not_le.2 hd], hlost, hnew, by simp⟩
  · intro s c d hp hl hb hu
    refine ⟨_, by simp [exec, execDieRebuildDone, act_of_powered hp, hl, hb, hu, remap]; exact rfl, ?_, ?_, ?_⟩
    · rw [getDie, (useSpares_dies ..).1]
      simp [setDie]
    · rw [(useSpares_dies ..).2]
      rfl
    · simp
  · intro s c hp hc hd hl
    obtain ⟨hg, hlost, hnew⟩ := loseChannel_spec hl
    exact ⟨_, by simp [exec, execFlashChannelLost, act_of_powered hp, Nat.not_le.2 hc, hd], hg, hlost, hnew, by simp⟩
  · intro s page g hp hd hg
    simp [exec, execDegradedPageMoved, act_of_powered hp, hd, hg]
end Sys2Proof.Machine

/-!
PROOFS. Accesses of programs to the range and through windows start (R138, R140, R242).
-/

namespace Sys2Proof.Machine

@[simp] theorem openAccess_id (s : State) (c : Ctx) : (openAccess s c).id = c.id := by
  simp only [openAccess]
  split <;> rfl

@[simp] theorem openAccess_tenant (s : State) (c : Ctx) : (openAccess s c).tenant = c.tenant := by
  simp only [openAccess]
  split <;> rfl

theorem rangeAccess_of_ready {n : Nat} {c : Ctx} {a : RangeAcc} {parts : List Part} {ents : List Nat} {s : State}
    (h : rangeReady n c a s = some (parts, ents)) : rangeAccess n c a s = startsRange n c a parts ents s := by
  rw [rangeReady] at h
  rw [Option.ite_none_left_eq_some, Option.ite_none_left_eq_some] at h
  obtain ⟨hb, hl, h⟩ := h
  split at h
  · cases h
  case h_2 ps es he =>
    dsimp only at h
    split at h
    · cases h
    next hp =>
    cases h
    simp only [Bool.or_eq_true, not_or] at hp
    rw [rangeAccess]
    refine (if_neg hb).trans ((if_neg hl).trans ?_)
    rw [he]
    dsimp only
    rw [if_neg hp.1, if_neg hp.2]
    simp [startsRange, joins, addPend]

/-- An access of a program that can issue and that nothing holds back starts. -/
theorem issueRange_starts {op : Op} {f : Nat → Ctx → Except Nat (Option RangeAcc)} {n : Nat} {w : BitVec 32} {s : State}
    {c : Ctx} {a : RangeAcc} {parts : List Part} {ents : List Nat} (h : issues op (.tabor n) w s = some c)
    (hf : f w.toNat c = .ok (some a)) (hr : rangeReady n c a s = some (parts, ents)) :
    issueRange op f (.tabor n) w s = .next (startsRange n c a parts ents s) := by
  simp [issueRange, issue_of_issues _ h, hf, rangeAccess_of_ready hr]

theorem issueRange_fails {op : Op} {f : Nat → Ctx → Except Nat (Option RangeAcc)} {n : Nat} {w : BitVec 32} {s : State}
    {c : Ctx} {st : Nat} (h : issues op (.tabor n) w s = some c) (hf : f w.toNat c = .error st) :
    issueRange op f (.tabor n) w s = .next (failProc (.tabor n) c st s) := by
  simp [issueRange, issue_of_issues _ h, hf]

theorem issueRange_nothing {op : Op} {f : Nat → Ctx → Except Nat (Option RangeAcc)} {n : Nat} {w : BitVec 32} {s : State}
    {c : Ctx} (h : issues op (.tabor n) w s = some c) (hf : f w.toNat c = .ok none) :
    issueRange op f (.tabor n) w s = .next (finishOp (.tabor n) c s) := by
  simp [issueRange, issue_of_issues _ h, hf]

/-- Settles O10: the row's access is the one named, and a ready access starts. -/
theorem rangeAccessesIssue : Obligations.RangeAccessesIssue := by
  unfold Obligations.RangeAccessesIssue
  refine ⟨?_, ?_, ?_, ?_, ?_, ?_, ?_, ?_, ?_⟩
  · exact fun n w s c parts ents h hr => issueRange_starts (f := accLdg false) h rfl hr
  · exact fun n w s c parts ents h hr => issueRange_starts (f := accLdg true) h rfl hr
  · exact fun n w s c parts ents h hr => issueRange_starts (f := accStg) h rfl hr
  · exact fun n w s c parts ents h ha hr => issueRange_starts (f := accVldg) h (if_neg (Classical.not_not.2 ha)) hr
  · exact fun n w s c h ha => issueRange_fails (f := accVldg) h (if_pos ha)
  · exact fun n w s c parts ents h hb hr => issueRange_starts (f := accVstg) h (if_neg (mt List.isEmpty_iff.1 hb)) hr
  · exact fun n w s c h hb => issueRange_nothing (f := accVstg) h (if_pos (List.isEmpty_iff.2 hb))
  · exact fun n w s c parts ents h ha hr => issueRange_starts (f := accAtom) h (if_neg (Classical.not_not.2 ha)) hr
  · exact fun n w s c h ha => issueRange_fails (f := accAtom) h (if_pos ha)

theorem winAccess_of_goes {n : Nat} {w : BitVec 32} {c : Ctx} {a : WinAcc} {job : Nat} {s : State}
    (h : winGoes w c a job s = true) : winAccess n (bitOf w.toNat 31) w.toNat c a s = startsWin n w c a job s := by
  simp only [winGoes, Bool.and_eq_true, Bool.or_eq_true, decide_eq_true_eq, Bool.not_eq_true'] at h
  obtain ⟨⟨⟨⟨⟨⟨⟨⟨⟨href, hb⟩, hh⟩, hj⟩, ho⟩, h2⟩, h3⟩, hn⟩, hpeer⟩, hw⟩ := h
  simp only [winNode, winIndex, winOffset, srcA] at href hh ho h2 h3 hn hpeer hw
  have href : ¬2 ^ 32 ≤ (c.readX (fRs1 w.toNat)).toNat := Nat.not_le.2 href
  have hheld : ¬(heldBack c (a.right ≠ 0) || winHeld c ((c.readX (fRs1 w.toNat)).toNat / 65536) a) = true := by
    rw [hb, hh]
    decide
  have hoff : ¬2 ^ 50 ≤ (c.readX (fRs1 w.toNat + 1)).toNat := Nat.not_le.2 ho
  have hal2 : ¬(decide (a.right = 2) && decide ((c.readX (fRs1 w.toNat + 1)).toNat % a.len ≠ 0)) = true := by
    simpa [Decidable.imp_iff_not_or] using h2
  have hal3 : ¬(decide (a.right = 3) && decide ((c.readX (fRs1 w.toNat + 1)).toNat % 8 ≠ 0)) = true := by
    simpa [Decidable.imp_iff_not_or] using h3
  have hnode : ¬(c.readX (fRs1 w.toNat)).toNat / 65536 = s.fa.nodeId := hn
  have hp : (if a.right = 3 then none else peerIndex s ((c.readX (fRs1 w.toNat)).toNat / 65536)) = none := by
    split
    · rfl
    · exact Option.isNone_iff_eq_none.1 (hpeer.resolve_left ‹_›)
  have hbuf : (if a.right = 0 then wrbRead (openAccess s c) ((c.readX (fRs1 w.toNat)).toNat / 65536)
      ((c.readX (fRs1 w.toNat)).toNat % 65536) (c.readX (fRs1 w.toNat + 1)).toNat a.len else none) = none := by
    split
    · exact Option.isNone_iff_eq_none.1 (hw.resolve_left (Classical.not_not.2 ‹_›))
    · rfl
  rw [winAccess, if_neg href, if_neg hheld, hj]
  dsimp only
  rw [if_neg hoff, if_neg hal2, if_neg hal3, if_neg hnode, hp]
  dsimp only
  rw [hbuf]
  simp [startsWin, joins, addPend, ptcAdmitAll, winNode, winIndex, winOffset, srcA]

theorem issueWin_starts {op : Op} {f : Nat → Ctx → WinAcc} {n : Nat} {w : BitVec 32} {s : State} {c : Ctx} {job : Nat}
    (hop : isRemote op = true) (h : issues op (.tabor n) w s = some c) (hg : winGoes w c (f w.toNat c) job s = true) :
    issueWin op f (.tabor n) w s = .next (startsWin n w c (f w.toNat c) job s) := by
  simp [issueWin, issue_of_issues _ h, hasNf, hop, winAccess_of_goes hg]

theorem issueWin_fails {op : Op} {f : Nat → Ctx → WinAcc} {n : Nat} {w : BitVec 32} {s : State} {c : Ctx}
    (h : issues op (.tabor n) w s = some c) (hr : 2 ^ 32 ≤ (srcA w c).toNat) :
    issueWin op f (.tabor n) w s = .next (failProc (.tabor n) c Config.invalidDescriptor s) := by
  rw [issueWin, issue_of_issues _ h]
  dsimp only
  rw [winAccess, if_pos (show 2 ^ 32 ≤ (c.readX (fRs1 w.toNat)).toNat from hr)]

/-- Settles O11: each tabor instruction is one window access, and one that goes out is a request. -/
theorem windowAccessesIssue : Obligations.WindowAccessesIssue := by
  unfold Obligations.WindowAccessesIssue
  refine ⟨?_, ?_, ?_, ?_, ?_, ?_, ?_, ?_, ?_, ?_, ?_, ?_, ?_⟩
  · exact fun n w s c job h hg => issueWin_starts (f := winRld) rfl h hg
  · exact fun n w s c job h hg => issueWin_starts (f := winVrld) rfl h hg
  · exact fun n w s c job h hg => issueWin_starts (f := winRst) rfl h hg
  · exact fun n w s c job h hg => issueWin_starts (f := winVrst) rfl h hg
  · exact fun n w s c job h hg => issueWin_starts (f := winRstf) rfl h hg
  · exact fun n w s c job h hg => issueWin_starts (f := winRatom) rfl h hg
  · exact fun n w s c h hr => issueWin_fails (f := winRld) h hr
  · exact fun n w s c h hr => issueWin_fails (f := winVrld) h hr
  · exact fun n w s c h hr => issueWin_fails (f := winRst) h hr
  · exact fun n w s c h hr => issueWin_fails (f := winVrst) h hr
  · exact fun n w s c h hr => issueWin_fails (f := winRstf) h hr
  · exact fun n w s c h hr => issueWin_fails (f := winRatom) h hr
  · intro n w s c bs m s1 h hb hs hp
    rw [srcA] at hs
    simp [exec, execPhicorCopy, issueCopy, issue_of_issues _ h, hb, hs, hp, hasNf, isRemote]
end Sys2Proof.Machine

/-!
PROOFS. Waits, fences, the data of loads, and invocations on a tabor (R138, R141, R155–R157, R166).
-/

namespace Sys2Proof.Machine

theorem issueWaitc_of_issues {n : Nat} {w : BitVec 32} {s : State} {c : Ctx} (h : issues .waitc (.tabor n) w s = some c)
    (hb : heldBack c false = false) (hr : (srcA w c).toNat < 2 ^ 18) :
    issueWaitc (.tabor n) w s = .next (
      if s.fa.ctrOwner.get? (srcA w c).toNat ≠ some c.tenant then failProc (.tabor n) c Config.accessDenied s
      else if (srcB w c).toNat ≤ s.fa.counters.getD (srcA w c).toNat 0 then
        finishOp (.tabor n) (waitcDone c (fRd w.toNat) (s.fa.counters.getD (srcA w c).toNat 0)) s
      else putProc (.tabor n) { c with hold := .counter (srcA w c).toNat (srcB w c).toNat (fRd w.toNat), holdSince := s.now } s) := by
  simp only [issueWaitc, issue_of_issues _ h, hb, counterOf]
  rw [if_neg (show ¬2 ^ 18 ≤ (c.readX (fRs1 w.toNat)).toNat from Nat.not_le.2 hr)]
  rfl

theorem issueFence_of_issues {op : Op} {f : Ctx → Ctx} {b : Bool} {p : Proc} {w : BitVec 32} {s : State} {c : Ctx}
    (h : issues op p w s = some c) : issueFence op f b p w s = .next (finishOp p (f c) (if b then flushOf c s else s)) := by
  rw [issueFence, issue_of_issues _ h]

theorem issueWaitf_of_issues {n : Nat} {w : BitVec 32} {s : State} {c : Ctx} {pha : Nat} {ps : List (Nat × Nat × Nat)}
    {ents : List Nat} {r : Bool} (h : issues .waitf (.tabor n) w s = some c) (hb : heldBack c false = false)
    (hr : (srcA w c).toNat + 8 ≤ 2 ^ 56) (hl : lookRange s c.tenant (srcA w c).toNat 8 false = .ok ((pha, 8, 0) :: ps, ents))
    (hst : (c.pend.any fun q => q.open_ && q.isStore && q.parts.any fun r => r.key = lineKey s.ch.domIndex (pha / 64)) = false)
    (ht : waitfTest s pha (fFunc w.toNat) (srcB w c).toNat = .ok r) :
    issueWaitf (.tabor n) w s = .next (if r then finishOp (.tabor n) { c with emptyWrb := true } s
      else putProc (.tabor n) { c with hold := .word pha (fFunc w.toNat) (srcB w c).toNat, holdSince := s.now } s) := by
  rw [srcA] at hr hl
  rw [srcB] at ht
  rw [issueWaitf, issue_of_issues _ h]
  simp only [hb, Bool.false_eq_true, if_false]
  rw [if_neg (Nat.not_lt.2 hr), hl]
  simp only [hst, ht, Bool.false_eq_true, if_false]
  cases r <;> rfl

/-- Settles O12: the rows' guards decide between a wait, a result and an end. -/
theorem waitsAndFences : Obligations.WaitsAndFences := by
  unfold Obligations.WaitsAndFences
  refine ⟨?_, ?_, ?_, ?_, ?_, ?_, ?_, ?_, ?_, ?_, ?_⟩
  · intro n w s c h hb hr ho hc
    rw [show exec (.waitc (.tabor n) w) s = issueWaitc (.tabor n) w s from rfl, issueWaitc_of_issues h hb hr,
      if_neg (Classical.not_not.2 ho), if_pos hc]
  · intro n w s c h hb hr ho hc
    rw [show exec (.waitc (.tabor n) w) s = issueWaitc (.tabor n) w s from rfl, issueWaitc_of_issues h hb hr,
      if_neg (Classical.not_not.2 ho), if_neg (Nat.not_le.2 hc)]
  · intro n w s c h hb hr ho
    rw [show exec (.waitc (.tabor n) w) s = issueWaitc (.tabor n) w s from rfl, issueWaitc_of_issues h hb hr, if_pos ho]
  · exact fun n w s c pha ps ents h hb hr hl hst ht => issueWaitf_of_issues h hb hr hl hst ht
  · exact fun n w s c pha ps ents h hb hr hl hst ht => issueWaitf_of_issues h hb hr hl hst ht
  · exact fun n w s c h => issueFence_of_issues (f := fencePub) h
  · exact fun n w s c h => issueFence_of_issues (f := fenceFab) h
  · intro n w s c h
    refine ⟨(fenceAcq c).acqTags, issueFence_of_issues (f := fenceAcq) h, fun p hp ho hl => ?_, fun x hx => ?_⟩
    · exact List.mem_append_right _ (List.mem_map.2 ⟨p, List.mem_filter.2 ⟨hp, by simp [ho, hl]⟩, rfl⟩)
    · rcases List.mem_append.1 hx with hx | hx
      · obtain ⟨p, hp, he⟩ := List.any_eq_true.1 (List.mem_filter.1 hx).2
        exact ⟨p, hp, by simpa using he⟩
      · obtain ⟨p, hp, he⟩ := List.mem_map.1 hx
        exact ⟨p, (List.mem_filter.1 hp).1, he⟩
  · intro n s c ref thr rd hp hc hh
    simp only [exec, execWaitSwitchOut, act_of_powered hp, hc, hh]
  · intro n ctx s c ref thr rd hp hc he hh ht
    simp [exec, execWaitConditionMet, act_of_powered hp, hc, he, hh, counterOf, ht]
  · intro n ctx s c pha cmp x hp hc he hh ht
    simp [exec, execWaitConditionMet, act_of_powered hp, hc, he, hh, ht]

theorem applyLoad_loadX {c : Ctx} {p : Pend} {rd size : Nat} (st now : Nat) (data : List Byte) (hk : p.kind = .loadX rd size)
    (hn : p.nf = false) (hw : p.win = none) :
    applyLoad c p st data now = ({ c with pend := c.pend.filter fun q => q.tag ≠ p.tag } : Ctx).writeX rd
      (scalarLoad size (data.take (scalarBytes size))) := by
  simp [applyLoad, hk, hn, hw, nfStatus]

theorem applyLoad_loadV {c : Ctx} {p : Pend} {rd : Nat} (st now : Nat) (data : List Byte) (hk : p.kind = .loadV rd)
    (hn : p.nf = false) (hw : p.win = none) :
    applyLoad c p st data now = ({ c with pend := c.pend.filter fun q => q.tag ≠ p.tag } : Ctx).writeV rd (bytesVec data) := by
  simp [applyLoad, hk, hn, hw, nfStatus]

theorem seedStreams_spec (t : Nat) (s : State) : (seedStreams t s).1.length = 16 ∧ ∃ k, (seedStreams t s).2 = s.setFreeCtr k := by
  have draw : ∀ (l : List Nat) (x : List Nat × State), (∃ k, x.2 = s.setFreeCtr k) →
      (l.foldl (fun (x : List Nat × State) _ => (x.1 ++ [(drawEntropy x.2).1 % 2 ^ 64], (drawEntropy x.2).2)) x).1.length =
        x.1.length + l.length ∧
      ∃ k, (l.foldl (fun (x : List Nat × State) _ => (x.1 ++ [(drawEntropy x.2).1 % 2 ^ 64], (drawEntropy x.2).2)) x).2 =
        s.setFreeCtr k := by
    intro l
    induction l with
    | nil => exact fun x h => ⟨rfl, h⟩
    | cons a l ih =>
      rintro x ⟨k, hk⟩
      obtain ⟨h1, h2⟩ := ih (x.1 ++ [(drawEntropy x.2).1 % 2 ^ 64], (drawEntropy x.2).2) ⟨_, by rw [hk, drawEntropy]; rfl⟩
      refine ⟨?_, h2⟩
      rw [List.foldl_cons, h1]
      simp only [List.length_append, List.length_cons, List.length_nil]
      omega
  simp only [seedStreams]
  split
  · exact ⟨by simp, _, rfl⟩
  · exact draw (List.range 16) ([], s) ⟨s.freeCtr, rfl⟩

@[simp] theorem getTab_setTab (t : Nat) (v : Tabor) (s : State) : getTab (setTab t v s) t = v := by
  simp [getTab, setTab]

/-- With nothing running, the only context that is ready gets the pipeline. -/
theorem schedule_setTab_one {t : Nat} {v : Tabor} {s : State} {c : Ctx} (hc : v.ctxs = [c]) (hr : c.state = .ready)
    (hq : quotaHeld s c.tenant = false) :
    schedule t (setTab t v s) = setTab t { v with ctxs := [{ c with state := .running, sliceStart := s.now }] } (setTab t v s) := by
  have hq' : quotaHeld (setTab t v s) c.tenant = false := hq
  simp only [schedule, getTab_setTab, hc]
  simp [hr, hq', modCtx, hc]
  rfl

/-- Settles O13: the rows' guards are met, and a tabor with one ready context runs it. -/
theorem loadsAndInvocationsComplete : Obligations.LoadsAndInvocationsComplete := by
  unfold Obligations.LoadsAndInvocationsComplete
  refine ⟨?_, ?_, ?_, ?_, ?_, ?_, ?_, ?_⟩
  · intro n ctx tag s c p st data hp hc hf hd he hok
    simp [exec, execRangeLoadDone, act_of_powered hp, hc, hf, hd, he, hok]
  · intro n ctx tag s c p st data hp hc hf hd he hok hnf
    exact ⟨_, by simp [exec, execRangeLoadDone, act_of_powered hp, hc, hf, hd, he, hok, hnf]; exact rfl,
      by simp [nfStatus, hnf], by simp [nfStatus, hnf], by simp [nfStatus, hnf]⟩
  · intro c p rd size st now data hk hn hr hw
    refine ⟨_, rfl, ?_⟩
    rw [applyLoad_loadX st now data hk hn hw]
    refine ⟨readX_writeX_same _ hr, fun r hne => ?_, ?_⟩
    · simp [Ctx.writeX, Ctx.readX, hr, FMap.getD_set, hne]
    · simp [Ctx.writeX, hr]
  · intro c p rd st now data hk hn hw
    refine ⟨_, rfl, ?_⟩
    rw [applyLoad_loadV st now data hk hn hw]
    refine ⟨by simp [Ctx.writeV, Ctx.readV], fun r hne => ?_, rfl, rfl, rfl, rfl⟩
    simp [Ctx.writeV, Ctx.readV, FMap.getD_set, hne]
  · intro n ctx s c e hp hc hw
    exact ⟨_, by simp [exec, execWrbEntryExpiry, act_of_powered hp, hc, hw]; exact rfl, rfl⟩
  · intro n s q rest im r ha hr hq hi hc hk hm hres hrdy hquota
    obtain ⟨hsr, k, hs⟩ := seedStreams_spec n s
    simp only [exec, execInvocationAdmit, hq, ha, hr, hi, hc, hres, hrdy]
    rw [if_neg (by decide), if_neg (by simp; omega), hs]
    refine ⟨_, _, congrArg Host.Outcome.next (schedule_setTab_one
      (c := { newCtx s.co.nextCtx q.tenant q.item q.handle im q.fuel n q.args (seedStreams n s).1 s.now with state := .ready })
      rfl rfl hquota), by rw [getTab_setTab], by rw [getTab_setTab],
      by rfl, by rfl, by rfl, by rfl, by rfl, by rfl, by rfl, by rfl, by exact hsr, by rfl, by rfl, by rfl⟩
  · intro n handle s hp hr
    simp only [exec, execProgramResident, act_of_powered hp, hr]
    rfl
  · intro n s c hp hc hr
    simp only [exec, execSliceExpiry, act_of_powered hp, hc, hr]
    rfl
end Sys2Proof.Machine

/-!
PROOFS. Homes serve coherence requests, and agents answer snoops.
-/

namespace Sys2Proof.Machine

/-- The row of a home's request on a powered device serves it at once. -/
theorem act_homeReq {ty : Nat} {m : CohMsg} {s t : State} (r : Option Nat) (h : homeServes ty m s = some t)
    (h4 : ty ≠ 0x04) (ha : ty ≠ 0x0A) : m.mtype = ty ∧ s.act (homeReq ty r m s) = .next (serveOpen m [] t) := by
  obtain ⟨hp, ht, he⟩ := homeReq_serveOpen r h h4 ha
  exact ⟨ht, by rw [act_of_powered hp, he]⟩

/-- ATOM_X makes its line hot and is performed at the home when `atomAtHome` says so. -/
theorem act_homeReq_atomX {m : CohMsg} {s t : State} (r : Option Nat) (h : homeServes 0x04 m s = some t) :
    m.mtype = 0x04 ∧ s.act (homeReq 0x04 r m s) = .next (serveOpen
      (if atomAtHome m t then { m with mtype := 0x0A } else m) []
      (t.setCh { t.ch with hot := t.ch.hot.set m.line (m.src, t.now) })) := by
  obtain ⟨hp, ht, hpo, hv, u, rfl, hr⟩ := homeReq_of_serves r h
  refine ⟨ht, ?_⟩
  rw [act_of_powered hp, hr]
  by_cases hh : atomAtHome m (servedState m u) = true
  · simp only [servedState] at hpo hv hh ⊢
    simp [serve, hpo, hv, ht, hh]
  · simp only [servedState] at hpo hv hh ⊢
    simp [serve, hpo, hv, ht, hh]

/-- ATOM_HOME without a ledger record is performed at once. -/
theorem act_homeReq_atomHome {m : CohMsg} {s t : State} (r : Option Nat) (h : homeServes 0x0A m s = some t)
    (hl : ledgerOf t m = none) :
    m.mtype = 0x0A ∧ s.act (homeReq 0x0A r m s) = .next (serveOpen m [] t) := by
  obtain ⟨hp, ht, hpo, hv, u, rfl, hr⟩ := homeReq_of_serves r h
  refine ⟨ht, ?_⟩
  simp only [servedState] at hpo hv hl ⊢
  simp [act_of_powered hp, hr, serve, hpo, hv, ht, hl]

/-- No outstanding request of the agent holds a snoop that reaches its line. -/
theorem find?_of_snoopReaches {ty : Nat} {m : CohMsg} {s t : State} (h : snoopReaches ty m s = some t) :
    s.powered = true ∧ m.mtype = ty ∧ cohTake ty m s = (t, true) ∧ t.ch.reqs.find? (fun r =>
      r.tabor = agentTabor m.dst && lineKey r.chip r.line = lineKey m.srcChip m.line && r.mtype ≠ 0x08 &&
      r.mtype ≠ 0x09 && r.mtype ≠ 0x0A && !stillWaiting t r && !ownSnoop t ty m r) = none := by
  obtain ⟨hk, hf⟩ := snoopReaches_spec h
  obtain ⟨hp, ht, -, -, hc⟩ := takesMesh_spec hk
  refine ⟨hp, ht, hc, ?_⟩
  rw [List.find?_eq_none] at hf ⊢
  intro r hr
  have hn := hf r hr
  simp only [Bool.not_eq_true] at hn ⊢
  rw [hn, Bool.false_and]

/-- An agent that does not hold the line acknowledges the snoop as not dirty. -/
theorem agentSnoop_of_absent {ty : Nat} {m : CohMsg} {s t : State} (h : snoopReaches ty m s = some t)
    (hl : agentLine t (agentTabor m.dst) (lineKey m.srcChip m.line) = none) :
    s.act (agentSnoop ty m s) =
      .next (snoopAnswer m (agentTabor m.dst) (if ty = 0x10 || ty = 0x13 then 0x18 else 0x19) false [] t) := by
  obtain ⟨hp, -, hc, hf⟩ := find?_of_snoopReaches h
  rw [act_of_powered hp]
  simp only [agentSnoop, hc, hf, hl]

/-- Settles O16: each request and each snoop by its type and the state of its line. -/
theorem homesAndAgentsServe : Obligations.HomesAndAgentsServe := by
  unfold Obligations.HomesAndAgentsServe
  refine ⟨?_, ?_, ?_, ?_, ?_, ?_, ?_, ?_, ?_, ?_, ?_, ?_, ?_, ?_, ?_, ?_, ?_, ?_, ?_, ?_, ?_, ?_, ?_⟩
  · intro m s t h hd
    obtain ⟨ht, he⟩ := act_homeReq (some 0) h (by decide) (by decide)
    refine he.trans ?_
    simp [serveOpen, ht, hd]
  · intro m s t e o h hd hs ho hne
    obtain ⟨ht, he⟩ := act_homeReq (some 0) h (by decide) (by decide)
    refine he.trans ?_
    cases hst : e.state <;> simp_all [serveOpen]
  · intro m s t h hd
    obtain ⟨ht, he⟩ := act_homeReq (some 1) h (by decide) (by decide)
    refine he.trans ?_
    simp [serveOpen, ht, hd]
  · intro m s t e h hd hs ho hco hsrc
    obtain ⟨ht, he⟩ := act_homeReq (some 1) h (by decide) (by decide)
    refine he.trans ?_
    have hmem : m.src ∉ e.sharers := by simpa using hsrc
    have hall : e.sharers.filter (fun a => !decide (a = m.src)) = e.sharers :=
      List.filter_eq_self.mpr fun a ha => by simpa using ne_of_mem_of_not_mem ha hmem
    simp [serveOpen, ht, hd, hs, ho, sharersOf, listed, hco, hmem, hall]
  · intro m s t e h hd hs ho hco hsh h1 h2
    obtain ⟨ht, he⟩ := act_homeReq (some 1) h (by decide) (by decide)
    refine he.trans ?_
    simp [serveOpen, ht, hd, hs, ho, sharersOf, listed, hco, hsh, h1, h2]
  · intro m s t h hd
    obtain ⟨ht, he⟩ := act_homeReq (some 1) h (by decide) (by decide)
    refine he.trans ?_
    simp [serveOpen, ht, hd]
  · intro m s t h hd ha
    obtain ⟨ht, he⟩ := act_homeReq_atomX (some 2) h
    refine he.trans ?_
    have hd' : ∀ v, getDir (t.setCh { t.ch with hot := v }) m.line = none := fun _ => hd
    simp [serveOpen, ht, hd', ha]
  · intro m s t h hd ha
    obtain ⟨ht, he⟩ := act_homeReq_atomX (some 2) h
    refine he.trans ?_
    have hd' : ∀ v, getDir (t.setCh { t.ch with hot := v }) m.line = none := fun _ => hd
    simp [serveOpen, serveOpen.serveHome, hd', ha]
  · intro m s t e h hd ho
    obtain ⟨ht, he⟩ := act_homeReq none h (by decide) (by decide)
    refine he.trans ?_
    simp [serveOpen, ht, hd, ho]
  · intro m s t e h hd ho hs
    obtain ⟨ht, he⟩ := act_homeReq none h (by decide) (by decide)
    refine he.trans ?_
    simp [serveOpen, ht, hd, ho, hs]
  · intro m s t h hd
    obtain ⟨ht, he⟩ := act_homeReq (some 0) h (by decide) (by decide)
    refine he.trans ?_
    simp [serveOpen, ht, hd]
  · intro m s t e o h hd hs ho
    obtain ⟨ht, he⟩ := act_homeReq (some 0) h (by decide) (by decide)
    refine he.trans ?_
    cases hst : e.state <;> simp_all [serveOpen]
  · intro m s t e o h hd ho hco hsh
    obtain ⟨ht, he⟩ := act_homeReq (some 1) h (by decide) (by decide)
    refine he.trans ?_
    simp [serveOpen, serveOpen.serveHome, ht, hd, ho, sharersOf, hco, hsh]
  · intro m s t h hd hl
    obtain ⟨ht, he⟩ := act_homeReq_atomHome (some 2) h hl
    refine he.trans ?_
    simp [serveOpen, serveOpen.serveHome, ht, hd]
  · intro m s hp hne
    simp [exec, execRdS, act_of_powered hp, homeReq, cohTake, hne]
  · intro m s t l h hl
    obtain ⟨hp, -, hc, hf⟩ := find?_of_snoopReaches h
    simp only [exec, execSnpInv, act_of_powered hp, agentSnoop, hc, hf, agentLine, hl]
    simp [setAgentLine]
  · intro m s t l h hd hs hl
    obtain ⟨hp, -, hc, hf⟩ := find?_of_snoopReaches h
    simp only [exec, execSnpFwdS, act_of_powered hp, agentSnoop, hc, hf, agentLine, hl]
    simp [hd, hs, setAgentLine]
  · intro m s t l h hd hs hl
    obtain ⟨hp, -, hc, hf⟩ := find?_of_snoopReaches h
    simp only [exec, execSnpFwdS, act_of_powered hp, agentSnoop, hc, hf, agentLine, hl]
    simp [hd, hs, setAgentLine]
  · intro m s t l h hd hs hl
    obtain ⟨hp, -, hc, hf⟩ := find?_of_snoopReaches h
    simp only [exec, execSnpFwdX, act_of_powered hp, agentSnoop, hc, hf, agentLine, hl]
    rcases hs with hs | hs <;> simp [hd, hs, setAgentLine]
  · intro m s t l h hd hs hl
    obtain ⟨hp, -, hc, hf⟩ := find?_of_snoopReaches h
    simp only [exec, execSnpRecall, act_of_powered hp, agentSnoop, hc, hf, agentLine, hl]
    rcases hs with hs | hs <;> simp [hd, hs, setAgentLine]
  · intro m s t l h hd hl
    obtain ⟨hp, -, hc, hf⟩ := find?_of_snoopReaches h
    simp only [exec, execSnpData, act_of_powered hp, agentSnoop, hc, hf, agentLine, hl]
    simp [hd]
  · intro m s t h hl
    exact agentSnoop_of_absent h hl
  · intro m s t h hl
    exact agentSnoop_of_absent h hl

end Sys2Proof.Machine

/-!
PROOFS. A coherence domain forms, commits and loses peers.
-/

namespace Sys2Proof.Machine

/-- A forming message that arrives is taken by a powered device. -/
theorem formTake_of_arrives {ty : Nat} {m : CohMsg} {s t : State} (h : formArrives ty m s = some t) :
    s.powered = true ∧ formTake ty m s = (t, true) := by
  unfold formArrives at h
  split at h
  · rename_i t' heq
    split at h
    next hp => cases h; exact ⟨hp, heq⟩
    next => cases h
  · cases h

theorem takeIndex_domIndex (chip : Nat) (s : State) : (takeIndex chip s).ch.domIndex = chip := by
  unfold takeIndex
  split
  next h => exact h.symm
  · rfl

/-- A formed domain has the list's members and the node's place in it as its index. -/
theorem formDomain_spec (list : List Nat) (s : State) :
    (formDomain list s).ch.domState = 2 ∧ (formDomain list s).ch.members = list ∧
      (formDomain list s).ch.domIndex = list.idxOf s.fa.nodeId ∧ (formDomain list s).ch.forming = none := by
  simp [formDomain, notePeers, takeIndex_domIndex]

/-- Without requests, transactions or directory entries a lost peer leaves nothing behind but its slices' lines. -/
theorem forgetPeer_of_idle (chip : Nat) {s : State} (hr : s.ch.reqs = []) (ht : s.ch.txns = []) (hd : s.ch.dir = []) :
    ∃ v, (forgetPeer chip s).2 = s.setCh v ∧ v.lostPeers = s.ch.lostPeers ∧ v.members = s.ch.members ∧
      v.dir = [] := by
  refine ⟨(forgetPeer chip s).2.ch, ?_, ?_, ?_, ?_⟩ <;>
    simp [forgetPeer, forgetHome, forgetHolder, forgetTraffic, hr, ht, hd]

/-- Settles O19: each message by the state of the forming. -/
theorem domainsForm : Obligations.DomainsForm := by
  unfold Obligations.DomainsForm
  refine ⟨?_, ?_, ?_, ?_, ?_, ?_, ?_, ?_, ?_, ?_, ?_, ?_⟩
  · intro m s t f h hf hl hh hp
    obtain ⟨hpw, ht⟩ := formTake_of_arrives h
    simp [exec, execDomainHello, act_of_powered hpw, ht, hf, hh, hp, List.contains_iff_mem.mp hl]
  · intro m s t f n h hf hl hh hp hn
    obtain ⟨hpw, ht⟩ := formTake_of_arrives h
    simp [exec, execDomainHello, act_of_powered hpw, ht, hf, hh, hp, List.contains_iff_mem.mp hl, hn]
  · intro m s t h hf hd
    obtain ⟨hpw, ht⟩ := formTake_of_arrives h
    simp [exec, execDomainHello, act_of_powered hpw, ht, hf, hd]
  · intro s f hp hf
    simp [exec, execDomainHelloTimer, act_of_powered hp, hf]
  · intro m s t f list h hf hi hl
    obtain ⟨hpw, ht⟩ := formTake_of_arrives h
    simp [exec, execDomainPropose, act_of_powered hpw, ht, hf, hi, List.contains_iff_mem.mp hl]
  · intro m s t f at_ h hf hpr hc
    obtain ⟨hpw, ht⟩ := formTake_of_arrives h
    simp [exec, execDomainConfirm, act_of_powered hpw, ht, hf, hpr, hc]
  · intro m s t f gen list h hf hi hl
    obtain ⟨hpw, ht⟩ := formTake_of_arrives h
    simp [exec, execDomainCommit, act_of_powered hpw, ht, hf, hi, List.contains_iff_mem.mp hl]
  · intro m s t h
    obtain ⟨hpw, ht⟩ := formTake_of_arrives h
    simp [exec, execDomainRefuse, act_of_powered hpw, ht]
  · intro s f list at_ hp hf hpr
    simp [exec, execFormWaitExpiry, act_of_powered hp, hf, hpr]
  · intro s f hp hf hpr hh
    simp [exec, execFormWaitExpiry, act_of_powered hp, hf, hpr, hh]
  · intro s node at_ hp hclk hdn hm hl hne hu hr ht hd
    obtain ⟨v, hv, hlp, hmem, hdir⟩ := forgetPeer_of_idle
      (s := s.reach (at_ + 1000000 * Par.peerLossMs s)) (s.ch.members.idxOf node) (by simpa) (by simpa) (by simpa)
    simp only [reach_ch] at hlp hmem
    simp only [exec, execPeerLost, act_of_powered hp, hdn, hm, hl, hne, hu]
    rw [if_neg (by simp)]
    refine ⟨_, rfl, ?_⟩
    simp [hv, hlp, hmem, hdir, raise_newest, reach_now hclk, Nat.le_max_right]
  · exact fun s list => formDomain_spec list s

end Sys2Proof.Machine

/-!
PROOFS. Links train step by step, fall and flip; neighbours are found.
-/

namespace Sys2Proof.Machine

/-- The sub-ports, which the transport's functions leave as they are. -/
def State.subs (s : State) : FMap SubPort := s.fa.subs

theorem State.fa_subs (s : State) : s.fa.subs = s.subs := rfl

@[simp] theorem State.setFa_subs (s : State) (v : Fabric) : (s.setFa v).subs = v.subs := rfl
@[simp] theorem State.setOut_subs (s : State) (v : List Output) : (s.setOut v).subs = s.subs := rfl

@[simp] theorem foldl_subs {α : Type} {f : State → α → State} (h : ∀ s a, (f s a).subs = s.subs) (l : List α)
    (s : State) : (l.foldl f s).subs = s.subs := foldl_keeps _ f h l s

@[simp] theorem sendVlan_subs (a : Nat) (sub : Option Nat) (m : OdpMsg) (s : State) :
    (sendVlan a sub m s).subs = s.subs := by
  simp only [sendVlan]
  split <;> rfl

@[simp] theorem notifyAll_subs (e : EvRec) (s : State) : (notifyAll e s).subs = s.subs := by
  have hmb : ∀ p m (u : State), (mailboxNotify p m u).subs = u.subs := fun p m u => by simp [State.subs]
  simp only [notifyAll, emit]
  (repeat' split) <;> simp [hmb]

@[simp] theorem raise_subs (c j a b : Nat) (s : State) : (raise c j a b s).subs = s.subs := by
  have hf : ∀ c a b (u : State), (fireEvent c a b u).subs = u.subs := fun c a b u => by simp [State.subs]
  simp only [raise, hf, notifyAll_subs]
  rfl

theorem ensurePath_subs (key : Nat) (s : State) : ∀ t, ensurePath key s = some t → t.subs = s.subs := by
  intro t ht
  simp only [ensurePath] at ht
  split at ht
  · cases ht; rfl
  split at ht
  · cases ht; rfl
  · simp only [Option.map_map, Option.map_eq_some_iff] at ht
    obtain ⟨k, -, rfl⟩ := ht
    rfl

@[simp] theorem pushPkt_subs (key : Nat) (pkt : Pkt) (req : Nat) (tenant : Option Nat) (s : State) :
    (pushPkt key pkt req tenant s).subs = s.subs := by
  simp only [pushPkt]
  split <;> rfl

@[simp] theorem sendBulk_subs (node tc job : Nat) (tenant : Option Nat) (bytes : List Byte) (reqs : List Nat)
    (s : State) : (sendBulk node tc job tenant bytes reqs s).subs = s.subs := by
  simp only [sendBulk]
  split
  · rfl
  case h_2 t h =>
    split <;> simp [State.fa_subs, ensurePath_subs _ _ _ h]

@[simp] theorem flushOpen_subs (node tc job : Nat) (s : State) : (flushOpen node tc job s).subs = s.subs := by
  simp only [flushOpen]
  split <;> simp [State.fa_subs]

@[simp] theorem appendRecord_subs (n : Nat) (r : RemoteReq) (s : State) : (appendRecord n r s).subs = s.subs := by
  simp [appendRecord, State.fa_subs, apply_ite State.subs]

@[simp] theorem launch_subs (n : Nat) (s : State) : (launch n s).subs = s.subs := by
  simp only [launch]
  split
  · rfl
  · split
    case h_1 t h => rw [pushPkt_subs, ensurePath_subs _ _ _ h]
    case h_2 => rfl

@[simp] theorem dispatch_subs (n : Nat) (s : State) : (dispatch n s).subs = s.subs := by
  simp only [dispatch]
  repeat' split
  all_goals simp

@[simp] theorem resendReq_subs (n : Nat) (s : State) : (resendReq n s).subs = s.subs := by
  simp only [resendReq]
  split
  · rfl
  · rw [dispatch_subs]; rfl

@[simp] theorem rebindPath_subs (key : Nat) (s : State) : (rebindPath key s).subs = s.subs := by
  simp only [rebindPath]
  split
  · rw [foldl_subs (fun s a => resendReq_subs a s)]; rfl
  · rfl

@[simp] theorem rebindPaths_subs (s : State) : (rebindPaths s).subs = s.subs := by
  simp only [rebindPaths]
  refine foldl_subs (fun s a => ?_) _ _
  split
  · (repeat' split) <;> simp
  · rfl

@[simp] theorem resendReq_outside (n : Nat) (s : State) : (resendReq n s).outside = s.outside := by
  simp only [resendReq]
  split <;> simp

@[simp] theorem rebindPath_outside (key : Nat) (s : State) : (rebindPath key s).outside = s.outside := by
  simp only [rebindPath]
  split
  · rw [foldl_outside (fun s a => resendReq_outside a s)]; rfl
  · rfl

@[simp] theorem rebindPaths_outside (s : State) : (rebindPaths s).outside = s.outside := by
  simp only [rebindPaths]
  refine foldl_outside (fun s a => ?_) _ _
  split
  · (repeat' split) <;> simp
  · rfl

/-! A sub-port read after each function that leaves the sub-ports. -/

theorem getSub_of_subs {s t : State} (h : t.subs = s.subs) (n : Nat) : getSub t n = getSub s n := by
  simp only [getSub, State.fa_subs, h]

@[simp] theorem getSub_setSub (n : Nat) (p : SubPort) (s : State) : getSub (setSub n p s) n = p :=
  FMap.getD_set_self ..

theorem getSub_setSub_ne {n k : Nat} (h : k ≠ n) (p : SubPort) (s : State) :
    getSub (setSub n p s) k = getSub s k := FMap.getD_set_ne _ h ..

@[simp] theorem getSub_reach (n t : Nat) (s : State) : getSub (s.reach t) n = getSub s n := by
  simp [getSub]

@[simp] theorem getSub_raise (n c j a b : Nat) (s : State) : getSub (raise c j a b s) n = getSub s n :=
  getSub_of_subs (raise_subs ..) n

@[simp] theorem getSub_notePeers (n : Nat) (s : State) : getSub (notePeers s) n = getSub s n := rfl

@[simp] theorem getSub_rebindPaths (n : Nat) (s : State) : getSub (rebindPaths s) n = getSub s n :=
  getSub_of_subs (rebindPaths_subs s) n

@[simp] theorem getSub_beginRegistration (n : Nat) (s : State) : getSub (beginRegistration s) n = getSub s n := by
  unfold beginRegistration
  split <;> rfl

@[simp] theorem beginRegistration_rc (s : State) : (beginRegistration s).rc = s.rc := by
  unfold beginRegistration
  split <;> rfl

@[simp] theorem notePeers_rc (s : State) : (notePeers s).rc = s.rc := rfl

@[simp] theorem notePeers_now (s : State) : (notePeers s).now = s.now := rfl

@[simp] theorem setSub_rc (n : Nat) (p : SubPort) (s : State) : (setSub n p s).rc = s.rc := rfl

@[simp] theorem setSub_now (n : Nat) (p : SubPort) (s : State) : (setSub n p s).now = s.now := rfl

@[simp] theorem rebindPaths_rc (s : State) : (rebindPaths s).rc = s.rc :=
  congrArg (fun o => o.2.2.2.2.2.1) (rebindPaths_outside s)

/-- A link that falls is down, waits for signal where it is enabled, and is reported when it was SECURE. -/
theorem dropLink_spec (n : Nat) (e : Bool) (s : State) :
    getSub (dropLink n e s) n = { zeroCredits (getSub s n) with
      state := 0, step := if e then 1 else 0, width := 0, trainFrom := s.now, partnerMac := 0, ca := 0, ca2 := 0 } ∧
    (dropLink n e s).rc.newest = s.rc.newest + if (getSub s n).state = 3 then 1 else 0 := by
  by_cases h3 : (getSub s n).state = 3 <;> simp [dropLink, h3, raise_newest]

theorem retrainSub_spec {n : Nat} {s : State} (h : (getSub s n).step ≠ 0) (h3 : (getSub s n).state = 2) :
    (getSub (retrainSub n s) n).state = 0 ∧ (getSub (retrainSub n s) n).step = 1 ∧
      (retrainSub n s).rc.newest = s.rc.newest + 1 := by
  obtain ⟨hsub, hnew⟩ := dropLink_spec n true s
  simp [retrainSub, h, hsub, hnew, raise_newest, h3]

/-- Settles O20: each row by the state and step of its sub-port. -/
theorem linksTrainAndFall : Obligations.LinksTrainAndFall := by
  unfold Obligations.LinksTrainAndFall
  refine ⟨?_, ?_, ?_, ?_, ?_, ?_, ?_, ?_, ?_, ?_, ?_, ?_, ?_, ?_⟩
  · intro s sub hp he hst hstep
    refine ⟨_, by simp only [exec, execLaneSignalDetect, act_of_powered hp, he, hst, hstep]; exact rfl, by rfl, ?_, ?_⟩
    · simp
    · exact fun n hn => getSub_setSub_ne hn ..
  · intro s sub hp hst hstep
    simp [exec, execAnegComplete, act_of_powered hp, hst, hstep]
  · intro s sub hp hst hstep
    simp [exec, execEqAdaptComplete, act_of_powered hp, hst, hstep]
  · intro s sub mac hp hst hstep
    simp [exec, execPcsLock, act_of_powered hp, hst, hstep, enterLink]
  · intro s port pair1 hp hclk hport hsplit hst
    refine ⟨_, by simp only [exec, execTrainingTimeout, act_of_powered hp, hsplit, hst]; rw [if_neg (by simp; omega), if_pos (by simp)], ?_⟩
    simp [enterLink, raise_newest, reach_now hclk, Nat.le_max_right]
  · intro s sub ckn hp hst hne hk ha hca
    simp only [exec, execMkpduRx, act_of_powered hp, hk, ← ha, hca]
    rw [if_neg (by simp; omega), if_pos trivial, if_neg (by omega)]
  · intro s sub hp hst hca
    refine ⟨_, by simp only [exec, execSakInstalled, act_of_powered hp, hst]; rw [if_pos (by simp [hca])], ?_⟩
    simp [raise_newest]
  · intro s sub hp hst
    obtain ⟨hsub, hnew⟩ := dropLink_spec sub true s
    refine ⟨_, by simp only [exec, execLinkDown, act_of_powered hp, hst]; rw [if_neg (by decide)], ?_⟩
    simp [hsub, hnew, hst, zeroCredits]
  · intro s sub lane hp hst hstep hsplit hl
    obtain ⟨hz, ho, hn⟩ := retrainSub_spec hstep hst
    refine ⟨_, by simp only [exec, execLaneLockLoss, act_of_powered hp, hst, hsplit, fullWidth]; rw [if_neg (by simp; omega)], ?_⟩
    simp [hz, ho, hn]
  · intro s sub errors symbols hp hst hstep hlt
    obtain ⟨hz, ho, hn⟩ := retrainSub_spec hstep hst
    refine ⟨_, by simp only [exec, execSerWindowExceeded, act_of_powered hp, hst]; rw [if_pos (by simpa)], ?_⟩
    simp [hz, ho, hn]
  · intro s sub errors symbols hp hle
    simp [exec, execSerWindowExceeded, act_of_powered hp, Nat.not_lt.mpr hle]
  · intro s sub n hp hst
    refine ⟨_, by simp only [exec, execLldpRx, act_of_powered hp]; rw [if_neg (by omega)], ?_⟩
    by_cases hn : (getSub s sub).neighbour = some n <;> simp [hn, raise_newest]
  · intro s sub hp hclk hst
    refine ⟨_, by simp only [exec, execLldpTxTimer, act_of_powered hp]; rw [if_neg (by omega)], ?_⟩
    have hnow : (getSub s sub).lldpDue ≤ (s.reach (getSub s sub).lldpDue).now := by
      simp [reach_now hclk, Nat.le_max_right]
    rw [reach_eq_setNow]
    generalize (s.reach (getSub s sub).lldpDue).now = now at hnow ⊢
    have hdue : ∀ p (u : State) o, getSub (emit o (setSub sub p u)) sub = p := fun p u _ => getSub_setSub sub p u
    refine ⟨hnow, rfl, ?_, rfl⟩
    rw [hdue]
    rfl
  · intro s sub n hp hclk hn
    refine ⟨_, by simp only [exec, execNeighbourAgeOut, act_of_powered hp, hn]; exact rfl, ?_⟩
    simp [raise_newest, reach_now hclk, Nat.le_max_right]

end Sys2Proof.Machine

/-!
PROOFS. Requests from the fabric start what they name; the tests of a window access in their order.
-/

namespace Sys2Proof.Machine

/-- A packet that a row takes passed its kind, its header and its sequence number. -/
theorem takesPkt_spec {kind : Nat} {f : RxFrame} {s t : State} (h : takesPkt kind f s = some t) :
    f.pkt.kind = kind ∧ ∃ u, rxHeader f s = (u, true) ∧ rxPsn f u = (t, true) := by
  unfold takesPkt at h
  split at h
  · cases h
  next hk =>
  refine ⟨Classical.not_not.mp hk, ?_⟩
  split at h
  · cases h
  · rename_i u hu
    split at h
    · cases h
    · rename_i v hv
      cases h
      exact ⟨u, hu, hv⟩

theorem rxRequest_of_allowed {kind : Nat} {f : RxFrame} {s t : State} (h : takesPkt kind f s = some t)
    (he : rxEarly t f.pkt = none) : rxRequest kind f s = startPkt f.sub (openPkt f.pkt f.pkt.payload t.now) t := by
  obtain ⟨hk, u, hh, hp⟩ := takesPkt_spec h
  simp [rxRequest, hk, hh, hp, he]

theorem rxRequest_of_refused {kind : Nat} {f : RxFrame} {s t : State} {st : Nat} (h : takesPkt kind f s = some t)
    (he : rxEarly t f.pkt = some st) : rxRequest kind f s = refusedPkt f.pkt st t := by
  obtain ⟨hk, u, hh, hp⟩ := takesPkt_spec h
  simp [rxRequest, hk, hh, hp, he, refusedPkt]

/-- Settles O22: a taken packet by the answer of the checks of R225. -/
theorem requestsArriveAndStart : Obligations.RequestsArriveAndStart := by
  unfold Obligations.RequestsArriveAndStart
  refine ⟨?_, ?_, ?_, ?_, ?_, ?_, ?_, ?_, ?_, ?_, ?_⟩
  · exact fun f s t h he => congrArg Host.Outcome.next (rxRequest_of_allowed h he)
  · exact fun f s t st h he => congrArg Host.Outcome.next (rxRequest_of_refused h he)
  · exact fun f s t h he => congrArg Host.Outcome.next (rxRequest_of_allowed h he)
  · exact fun f s t h he => congrArg Host.Outcome.next (rxRequest_of_allowed h he)
  · exact fun f s t h he => congrArg Host.Outcome.next (rxRequest_of_allowed h he)
  · exact fun f s t h he => congrArg Host.Outcome.next (rxRequest_of_allowed h he)
  · intro f s hk
    simp [exec, execXltWrite, rxRequest, hk]
  · intro f s t hw h hl hf
    obtain ⟨hk, u, hh, hp⟩ := takesPkt_spec h
    simp [exec, execBulk, act_of_powered hw, hk, hh, hp, hf, hl]
  · intro f s t v hw h hf hl hv he hb
    obtain ⟨hk, u, hh, hp⟩ := takesPkt_spec h
    have h4 : ¬ bitsOf (leField f.pkt.payload 0 16) 3 0 = 4 := by omega
    have h5 : ¬ bitsOf (leField f.pkt.payload 0 16) 3 0 = 5 := by omega
    simp [exec, execBulk, act_of_powered hw, hk, hh, hp, hf, hl, ← hv, he, h4, h5]
  · intro node tc psn o r s hw ho hr hs he
    simp [exec, execFlagStoreRelease, act_of_powered hw, ho, hr, hs, he]
  · intro node tc psn o r s hw ho hr he
    simp [exec, execFlagStoreRelease, act_of_powered hw, ho, hr, he]

/-- The tests of a window that is served: rights, extent, alignment, counter, revocation. -/
theorem rwtCheck_of_served {s : State} {job window right : Nat} {w : Rwt} (hw : s.fa.rwt.get? (rwtKey job window) = some w)
    (ho : w.closing = false ∨ revoking s w = true) (hd : s.rc.deviceState ≠ 1 ∨ right = 0) (offset len align : Nat)
    (counter : Option Nat) :
    rwtCheck s job window right offset len align counter =
      if !bitOf w.rights right then .error Config.accessDenied
      else if w.lines * 64 < offset + len then .error Config.accessDenied
      else if offset % align ≠ 0 then .error Config.invalidDescriptor
      else if counter.any (fun c => c < w.ctrBase || w.ctrBase + w.ctrCount ≤ c) then .error Config.accessDenied
      else if w.closing || revoking s w then .error Config.extentRevoked
      else .ok (w.base * 64 + offset) := by
  have hopen : ¬ (w.closing && !revoking s w) = true := by rcases ho with ho | ho <;> simp [ho]
  have hserv : ¬ (decide (s.rc.deviceState = 1) && decide (right ≠ 0)) = true := by
    rcases hd with hd | hd <;> simp [hd]
  simp only [rwtCheck, hw]
  rw [if_neg hopen, if_neg hserv]

theorem counter_any_outside_eq_false {counter : Option Nat} {b n : Nat}
    (h : ∀ c, counter = some c → b ≤ c ∧ c < b + n) : counter.any (fun c => c < b || b + n ≤ c) = false := by
  cases counter with
  | none => rfl
  | some c =>
    obtain ⟨hl, hu⟩ := h c rfl
    simp [Nat.not_lt.mpr hl, Nat.not_le.mpr hu]

/-- Settles O23: the tests one after another. -/
theorem windowChecks : Obligations.WindowChecks := by
  unfold Obligations.WindowChecks
  refine ⟨?_, ?_, ?_, ?_, ?_, ?_, ?_, ?_⟩
  · intro s job window right offset len align counter hw
    simp [rwtCheck, hw]
  · intro s job window right offset len align counter w hw hc hr
    simp [rwtCheck, hw, hc, hr]
  · intro s job window right offset len align counter w hw ho hd hr
    have hopen : (w.closing && !revoking s w) = false := by rcases ho with ho | ho <;> simp [ho]
    simp [rwtCheck, hw, hopen, hd, hr]
  · intro s job window right offset len align counter w hw ho hd hr
    rw [rwtCheck_of_served hw ho hd]
    rcases hr with hr | hr
    · rw [if_pos (by simp [hr])]
    · rw [if_pos (show w.lines * 64 < offset + len by omega), ite_self]
  · intro s job window right offset len align counter w hw ho hd hr hl ha
    rw [rwtCheck_of_served hw ho hd, if_neg (by simp [hr]), if_neg (by omega), if_pos ha]
  · intro s job window right offset len align counter w hw ho hd hr hl ha hc
    obtain ⟨c, rfl, hout⟩ := hc
    rw [rwtCheck_of_served hw ho hd, if_neg (by simp [hr]), if_neg (by omega), if_neg (by omega),
      if_pos (by simp; omega)]
  · intro s job window right offset len align counter w hw hd hr hl ha hc hv
    rw [rwtCheck_of_served hw (.inr hv) hd, if_neg (by simp [hr]), if_neg (by omega), if_neg (by omega),
      counter_any_outside_eq_false hc, if_neg (by decide), if_pos (by simp [hv])]
  · intro s job window right offset len align counter w hw hd hr hl ha hc hv ho
    rw [rwtCheck_of_served hw (.inl ho) hd, if_neg (by simp [hr]), if_neg (by omega), if_neg (by omega),
      counter_any_outside_eq_false hc, if_neg (by decide), if_neg (by simp [hv, ho]), Nat.mul_comm]

/-! Selection on a sub-port with no packet on any path. -/

theorem eligible_of_no_paths {s : State} (h : s.fa.tx = []) (sub c : Nat) : eligible s sub c = [] := by
  simp [eligible, heads, h]

theorem pickInClass_of_no_paths {s : State} (h : s.fa.tx = []) (sub c : Nat) : pickInClass s sub c = none := by
  simp only [pickInClass, eligible_of_no_paths h]
  split
  · rfl
  · rename_i t ht
    simp only [List.filter_nil, List.map_nil]
    split <;> rfl

theorem dwrr_of_no_paths {s : State} (h : s.fa.tx = []) (sub n : Nat) (p : SubPort) : dwrr s sub n p = none := by
  induction n generalizing p with
  | zero => rfl
  | succ n ih => simp only [dwrr, pickInClass_of_no_paths h, ih]

/-- With no packet and no control packet, the first management frame is selected, where class 6 may send. -/
theorem selectFrame_of_no_paths {s : State} {sub : Nat} (hs : secure s sub = true) (ht : s.fa.tx = [])
    (hc : s.fa.ctl = []) :
    selectFrame sub s = match (if classOk s sub 6 then mgmtQueue s sub else []) with
      | f :: rest => startFrame sub 6 none (mgmtCharge (match f with
          | .mgmt _ _ b => b.length
          | _ => 0)) f (s.setFa { s.fa with mgmt := s.fa.mgmt.set sub rest })
      | [] => s := by
  have hq : ctlQueue s sub = [] := by simp [ctlQueue, hc]
  simp only [selectFrame, hs, hq, eligible_of_no_paths ht, pickInClass_of_no_paths ht, dwrr_of_no_paths ht, ite_self]
  rfl

@[simp] theorem bringCredits_now (sub t : Nat) (s : State) : (bringCredits sub t s).now = s.now := by
  unfold bringCredits
  dsimp only
  (repeat' split) <;> rfl

/-- Bringing the credits up to date changes the sub-port's credits alone. -/
theorem bringCredits_eq_setSub (sub t : Nat) (s : State) :
    ∃ p, p.state = (getSub s sub).state ∧ p.sending = (getSub s sub).sending ∧
      (bringCredits sub t s = setSub sub p s ∨ bringCredits sub t s = s) := by
  unfold bringCredits
  dsimp only
  split
  · exact ⟨getSub s sub, rfl, rfl, .inr rfl⟩
  · exact ⟨_, by rfl, by rfl, .inl rfl⟩

theorem powered_of_alive {s : State} (h : s.alive = true) : s.powered = true := by
  simp only [State.alive, Bool.and_eq_true] at h
  exact h.1

/-- The selection of the first management frame. -/
theorem selectFrame_mgmt {s : State} {sub : Nat} {f : FrameOut} {rest : List FrameOut} (hs : secure s sub = true)
    (ht : s.fa.tx = []) (hc : s.fa.ctl = []) (hm : s.fa.mgmt.get? sub = some (f :: rest))
    (h6 : classOk s sub 6 = true) :
    (selectFrame sub s).out = s.out ++ [.frame sub f] ∧ (selectFrame sub s).fa.mgmt.get? sub = some rest ∧
      (getSub (selectFrame sub s) sub).sending.isSome = true ∧ (selectFrame sub s).mem = s.mem := by
  have hq : mgmtQueue s sub = f :: rest := by simp [mgmtQueue, FMap.getD, hm]
  simp only [selectFrame_of_no_paths hs ht hc, h6, if_true, hq]
  simp only [startFrame, emit]
  refine ⟨by rfl, FMap.get?_set_self .., ?_, by rfl⟩
  exact congrArg (fun p => p.sending.isSome) (getSub_setSub ..)

/-- The sub-port with no frame on its way; what else a selection reads of it stays. -/
theorem secure_setSub_sending {s : State} {sub : Nat} (hs : secure s sub = true) (v) :
    secure (setSub sub { getSub s sub with sending := v } s) sub = true := by
  simpa [secure] using hs

theorem classOk_setSub_sending {s : State} {sub c : Nat} (h : classOk s sub c = true) (v) :
    classOk (setSub sub { getSub s sub with sending := v } s) sub c = true := by
  simp only [classOk, getSub_setSub]
  exact h

theorem reach_self (s : State) : s.reach s.now = s := by
  simp [State.reach, State.setNow]

/-- A sub-port made ready for a selection: only its own credits and its frame on the way change. -/
theorem readySub_spec (sub t : Nat) (s : State) :
    ∃ p, p.state = (getSub s sub).state ∧ p.sending = none ∧
      setSub sub { getSub (bringCredits sub t s) sub with sending := none } (bringCredits sub t s) =
        setSub sub p (s.setFa { s.fa with subs := (bringCredits sub t s).fa.subs }) := by
  obtain ⟨p, hst, -, hb⟩ := bringCredits_eq_setSub sub t s
  rcases hb with hb | hb <;> rw [hb]
  · exact ⟨{ p with sending := none }, hst, rfl, by rw [getSub_setSub]; rfl⟩
  · exact ⟨{ getSub s sub with sending := none }, rfl, rfl, rfl⟩

/-- With nothing to send, a selection leaves the sub-port idle. -/
theorem selectFrame_idle {s : State} {sub : Nat} (hs : secure s sub = true) (ht : s.fa.tx = []) (hc : s.fa.ctl = [])
    (hm : s.fa.mgmt = []) : selectFrame sub s = s := by
  have hq : mgmtQueue s sub = [] := by simp [mgmtQueue, hm]
  simp only [selectFrame_of_no_paths hs ht hc, hq, ite_self]

/-- Settles O21: a selection with management frames only, or with nothing; a copy's start and end. -/
theorem framesAndCopiesGo : Obligations.FramesAndCopiesGo := by
  unfold Obligations.FramesAndCopiesGo
  refine ⟨?_, ?_, ?_, ?_, ?_, ?_⟩
  · intro s sub f rest hp hs hsend hcr hc ht hm h6 h7
    have hb : bringCredits sub s.now s = s := by simp [bringCredits, hcr]
    refine ⟨_, by simp only [exec, execSubportTxSelect, act_of_powered hp, hs, hsend, hb]; exact rfl, ?_⟩
    exact selectFrame_mgmt (secure_setSub_sending hs none) ht hc hm (classOk_setSub_sending h6 none)
  · intro s sub hp hs hc ht hm
    generalize hu : (match (getSub s sub).sending with
      | some (fin, _, _, _) => s.reach fin
      | none => s) = u
    have hnow : u = s.setNow u.now := by
      subst hu
      split
      · exact reach_eq_setNow ..
      · rfl
    obtain ⟨p, hst, hsend, hv⟩ := readySub_spec sub u.now u
    have hfa : u.fa = s.fa := by rw [hnow]; rfl
    refine ⟨setSub sub p (u.setFa { u.fa with subs := (bringCredits sub u.now u).fa.subs }), ?_, ?_, ?_, ?_⟩
    · have hsec : secure (setSub sub p (u.setFa { u.fa with subs := (bringCredits sub u.now u).fa.subs })) sub = true := by
        have h3 : (getSub u sub).state = 3 := by simpa only [getSub, hfa] using of_decide_eq_true hs
        exact decide_eq_true (by rw [getSub_setSub, hst, h3])
      rw [← selectFrame_idle hsec (hfa ▸ ht) (hfa ▸ hc) (hfa ▸ hm), ← hv, ← hu]
      simp only [exec, execSubportTxSelect, act_of_powered hp, hs]
      rfl
    · rw [hnow]; rfl
    · simp [hsend]
    · rw [hnow]; rfl
  · intro s sub f rest hp hs hsend hcr hc ht hm h6 h7
    have hb : bringCredits sub s.now s = s := by simp [bringCredits, hcr]
    have hheads : ∀ c, heads s sub c = [] := fun c => by simp [heads, ht]
    have hq : mgmtQueue s sub = f :: rest := by simp [mgmtQueue, FMap.getD, hm]
    have hctl : ctlQueue s sub = [] := by simp [ctlQueue, hc]
    have hnil : (List.range 8).flatMap (fun _ => ([] : List Nat)) = [] := rfl
    have hz : ∀ rate v, zeroAt rate s.now (classShaper s sub 6) v = s.now := fun rate v => by simp [zeroAt, h6]
    refine ⟨_, by
      simp only [exec, execPacketBecomesEligible, act_of_powered hp, hs, hsend, hb, hheads, hq, hctl]
      simp [nextAfter, hz, hnil, reach_self, hb]; exact rfl, ?_⟩
    obtain ⟨ho, hr, -, hmem⟩ := selectFrame_mgmt (secure_setSub_sending hs none) ht hc hm
      (classOk_setSub_sending (by simp [classOk, h6]) none)
    exact ⟨ho, hr, hmem⟩
  · intro s n c ha hcs hr hroom
    simp [exec, execCopyDescriptorStart, act_of_powered (powered_of_alive ha), hcs, FMap.get?, hr, ha, FMap.count, FMap.first?, hroom]
  · intro s n i c hp hc hr ho hl hf hlen hflag hor
    simp only [exec, execCopyDone, act_of_powered hp, hc]
    simp [ho, hl, hf, hlen, hflag, endCopy, hor, hr]
  · intro s n i st c hp hc ho hl hf hor
    simp only [exec, execCopyDone, act_of_powered hp, hc]
    simp [ho, hl, hf, endCopy, hor]
end Sys2Proof.Machine

/-!
PROOFS. Replies end requests, and the transport's timers resend, fail and acknowledge.
-/

namespace Sys2Proof.Machine

/-- A timer that is not yet due moves local time to its instant. -/
theorem reach_of_le {s : State} {t : Nat} (hclk : s.pw.refclk = true) (h : s.now ≤ t) : s.reach t = s.setNow t := by
  simp [State.reach, hclk, Nat.max_eq_right h]

/-- A prepared word that is still with its owner stays prepared. -/
theorem resolvePrepared_of_pending {a : Nat} {p : Prepared} {s : State} (hp : s.fa.prepared.get? a = some p)
    (hw : p.word = none) (ho : ownState (getWord s a) = 3) : resolvePrepared a s = s := by
  simp [resolvePrepared, hp, hw, ho]

/-- Settles O24: each reply by what its check lets through, each timer by what it waits for. -/
theorem repliesAndTransportTimers : Obligations.RepliesAndTransportTimers := by
  unfold Obligations.RepliesAndTransportTimers
  refine ⟨?_, ?_, ?_, ?_, ?_, ?_, ?_, ?_, ?_, ?_, ?_, ?_, ?_, ?_, ?_, ?_, ?_, ?_, ?_, ?_, ?_, ?_⟩
  · intro f s t n r hc hr hw hd hpsn hst ho
    simp only [exec, execResponse, hc, hr]
    simp [hw, hd, hpsn, hst]
  · intro f s t n r hc hr hw hd hpsn hst
    simp [exec, execResponse, hc, hr, hw, hd, hpsn, hst]
  · intro f s t key n r hc hk hr hw hkey ha hs
    simp [exec, execApplied, hc, hk, hr, hw, hkey, ha, hs]
  · intro f s t key hc hk
    simp [exec, execAck, hc, hk]
  · intro f s t key hc hk hsyn hce
    simp [exec, execNak, hc, hk, hsyn, hce]
  · intro f s t key hc hk hsyn hce
    simp [exec, execNak, hc, hk, hsyn, hce]
  · intro f s t hc
    simp [exec, execAck, hc]
  · intro n r s hp hr ha hk href
    simp [exec, execResponseTimeout, act_of_powered hp, hr, ha, hk, href]
  · intro n r s hp hr hk ha href hclk hle hnow
    simp only [exec, execAtomicReplyTimer, act_of_powered hp, hr]
    rw [reach_of_le hclk (by omega)]
    simp [hk, ha, href]
    exact if_pos hle
  · intro n r s hp hr hk hf
    simp [exec, execAtomicRetryExpiry, act_of_powered hp, hr, hk, hf]
  · intro n r s hp hr hk ha hack hb hf hno htx
    simp only [exec, execFlagStoreSend, act_of_powered hp, hr]
    simp only [hk, ha, hack, hb, hf, hno, htx]
    simp
  · intro n st r s hp hr hk ha hack hb hf
    simp [exec, execFlagStoreSend, act_of_powered hp, hr, hk, ha, hack, hb, hf]
  · intro n r s hp hr ha
    simp [exec, execFlagStoreSend, act_of_powered hp, hr, ha]
  · intro node tc job o s hp ho
    simp [exec, execGatherTimer, act_of_powered hp, ho]
  · intro node tc p s hp htc hk
    simp only [exec, execRateIncreaseTick, act_of_powered hp, hk, if_neg htc]
    rw [reach_eq_setNow]
    refine ⟨_, _, rfl, rfl, Nat.le_max_left .., Nat.max_le.mpr ⟨?_, ?_⟩⟩
    · exact Nat.le_max_right (pathCap s p.sub) _
    · exact Nat.le_trans (Nat.min_le_left ..) (Nat.le_max_left (pathCap s p.sub) _)
  · intro node tc p s hp hk hu
    simp [exec, execAckTimer, act_of_powered hp, hk, hu]
  · intro node tc at_ p s hp hk hu
    simp [exec, execAppliedTimer, act_of_powered hp, hk, hu]
  · intro node tc p s hp hk ho
    simp [exec, execRxPathExpiry, act_of_powered hp, hk, ho]
  · intro at_ s hp hq
    simp [exec, execXltQuietExpiry, act_of_powered hp, hq]
  · intro n at_ r s hp hr hst href
    simp [exec, execStaleHoldExpiry, act_of_powered hp, hr, hst, href]
  · intro n at_ r s hp hr hst href hgen hclk hnow hlt
    simp only [exec, execStaleResendTimer, act_of_powered hp, hr, hst, href, hgen]
    rw [reach_of_le hclk hnow, if_neg (by simp)]
    exact congrArg _ (if_pos hlt)
  · intro a p s hp hr hw ho
    simp only [exec, execPreparedResolvePoll, act_of_powered hp, resolvePrepared_of_pending hr hw ho, hr]
    exact ⟨_, rfl, by simp⟩

end Sys2Proof.Machine

/-!
PROOFS. Windows open and close, and counters are made, freed and set.
-/

namespace Sys2Proof

namespace FMap

variable {α : Type}

/-- A run of keys set to one value. -/
theorem get?_foldl_set_run (m : FMap α) (first count : Nat) (v : α) (k : Nat) :
    ((List.range count).foldl (fun (m : FMap α) j => m.set (first + j) v) m).get? k =
      if first ≤ k ∧ k < first + count then some v else m.get? k := by
  induction count with
  | zero => rw [if_neg (by omega)]; rfl
  | succ n ih =>
    rw [List.range_succ, List.foldl_append, List.foldl_cons, List.foldl_nil]
    by_cases hk : k = first + n
    · rw [hk, get?_set_self, if_pos (by omega)]
    · rw [get?_set_ne _ _ hk, ih]
      exact ite_congr (propext (by omega)) (fun _ => rfl) fun _ => rfl

theorem mem_keep {m : FMap α} {p : Nat → α → Bool} {k : Nat} {v : α} :
    (k, v) ∈ m.keep p ↔ (k, v) ∈ m ∧ p k v = true := List.mem_filter

end FMap

end Sys2Proof

namespace Sys2Proof.Machine

/-- Settles O25: each item by the window table, the owner of its counters and the free runs. -/
theorem windowsAndCounters : Obligations.WindowsAndCounters := by
  unfold Obligations.WindowsAndCounters
  refine ⟨?_, ?_, ?_, ?_, ?_, ?_, ?_, ?_, ?_, ?_, ?_⟩
  · intro n s i base t hi hw hal hl hc hpva ho hwalk hr hq
    have hfits : ¬ 72057594037927936 < wordAt i.words 1 + 64 * wordAt i.words 2 := by omega
    simp only [exec, execWindowOpen, withItem_of_ready _ hi]
    simp [hw, hal, hl, hc, ho, hwalk, hr, FMap.count, FMap.set, hfits, Nat.ne_of_gt hq]
    rfl
  · intro n s i base t hi hw hal hl hc hpva ho hwalk hr
    have hfits : ¬ 72057594037927936 < wordAt i.words 1 + 64 * wordAt i.words 2 := by omega
    simp only [exec, execWindowOpen, withItem_of_ready _ hi]
    simp [hw, hal, hl, hc, ho, hwalk, hr, hfits]
  · intro n s i w hi h1 h2 hw hg ht
    simp only [exec, execWindowClose, withItem_of_ready _ hi]
    simp [h1, h2, hw, setItem, hg, ht]
  · intro n s i w hi h1 h2 hw hg ht hwd
    simp only [exec, execWindowClose, withItem_of_ready _ hi]
    simp [h1, h2, hw, setItem, hg, ht, hwd]
  · intro key s w hw hc hb
    simp [tryFree, hw, hc, hb]
  · intro n s i first hi hw h0 hmax hf hq
    refine ⟨(setItem n i s).setFa { s.fa with ctrOwner :=
      ((List.range (wordAt i.words 1)).foldl (fun (m : FMap Nat) k => m.set (first + k) i.tenant) s.fa.ctrOwner) },
      ?_, rfl, ?_, ?_, rfl⟩
    · simp only [exec, execCounterAlloc, withItem_of_ready _ hi]
      have hq' : ¬ Par.countersPerTenant (setItem n i s) <
          s.fa.ctrOwner.count (fun _ t => t = i.tenant) + wordAt i.words 1 := Nat.not_lt.mpr hq
      simp [hw, h0, hmax, setItem, hf]
      exact if_neg hq'
    · exact fun k hl hu => (FMap.get?_foldl_set_run ..).trans (if_pos ⟨hl, hu⟩)
    · exact fun k hk => (FMap.get?_foldl_set_run ..).trans (if_neg (by omega))
  · intro n s i hi hw h0 hmax hf
    simp only [exec, execCounterAlloc, withItem_of_ready _ hi]
    simp [hw, h0, hmax, setItem, hf]
  · intro n s i hi hw ho hr
    refine ⟨(setItem n i s).setFa { s.fa with
      ctrOwner := s.fa.ctrOwner.keep fun k _ => !(wordAt i.words 1 ≤ k && k < wordAt i.words 1 + wordAt i.words 2)
      counters := s.fa.counters.keep fun k _ => !(wordAt i.words 1 ≤ k && k < wordAt i.words 1 + wordAt i.words 2) },
      ?_, ?_, ?_, rfl, rfl⟩
    · simp only [exec, execCounterFree, withItem_of_ready _ hi]
      have ho' : ownsCounters (setItem n i s) i.tenant (wordAt i.words 1) (wordAt i.words 2) = true := ho
      rw [hw, checked_ok, ho', if_neg (by decide)]
      exact congrArg _ (if_neg (by simp [setItem, hr]))
    · intro k v
      simp [FMap.mem_keep]
      exact fun _ => by omega
    · intro k v
      simp [FMap.mem_keep]
      exact fun _ => by omega
  · intro n s i hi hw ho hr
    simp only [exec, execCounterFree, withItem_of_ready _ hi]
    have ho' : ownsCounters (setItem n i s) i.tenant (wordAt i.words 1) (wordAt i.words 2) = true := ho
    rw [hw, checked_ok, ho', if_neg (by decide)]
    exact congrArg _ (if_pos hr)
  · intro n s i hi hw ho
    simp only [exec, execCounterSet, withItem_of_ready _ hi]
    have ho' : ownsCounters (setItem n i s) i.tenant (wordAt i.words 1) 1 = true := ho
    simp [hw, ho']
  · intro n s i hi hw ho
    simp only [exec, execCounterSet, withItem_of_ready _ hi]
    have ho' : ownsCounters (setItem n i s) i.tenant (wordAt i.words 1) 1 = false := ho
    simp [hw, ho']

end Sys2Proof.Machine

/-!
PROOFS. Ownership of handoff records moves as the records say; grace timers end what they hold.
-/

namespace Sys2Proof.Machine

/-! Writes to the range read and change nothing of the host side. -/

section SetHo

variable (v : HostSide) (s : State)

theorem ensurePath_setHo (key : Nat) :
    ensurePath key (s.setHo v) = (ensurePath key s).map (·.setHo v) := by
  have hf : freeablePath (s.setHo v) = freeablePath s := rfl
  simp only [ensurePath, State.setHo_fa, hf]
  repeat' split
  · rfl
  · rfl
  · cases freeablePath s <;> rfl

theorem pushPkt_setHo (key : Nat) (pkt : Pkt) (req : Nat) (tenant : Option Nat) :
    pushPkt key pkt req tenant (s.setHo v) = (pushPkt key pkt req tenant s).setHo v := by
  simp only [pushPkt, State.setHo_fa]
  split <;> rfl

theorem sendPeer_setHo (node job window offset : Nat) (m : CohMsg) :
    sendPeer node job window offset m (s.setHo v) = (sendPeer node job window offset m s).setHo v := by
  have hs : ∀ (u : State) p, stamp (u.setHo v) node p = stamp u node p := fun u p => rfl
  simp only [sendPeer, ensurePath_setHo, State.setHo_fa]
  split
  · cases ensurePath (pathKey node 7) s <;> simp only [Option.map_none, Option.map_some, pushPkt_setHo, hs]
  · rfl

theorem snoop_setHo (req : CohMsg) (mtype agent : Nat) :
    snoop req mtype agent (s.setHo v) = (snoop req mtype agent s).setHo v := by
  simp only [snoop, sendMsg, State.setHo_ch, sendPeer_setHo]
  (repeat' split) <;> rfl

theorem foldl_setHo {α : Type} {f : State → α → State} (h : ∀ u a, f (u.setHo v) a = (f u a).setHo v) (l : List α) :
    l.foldl f (s.setHo v) = (l.foldl f s).setHo v := by
  induction l generalizing s with
  | nil => rfl
  | cons a l ih => rw [List.foldl_cons, h, ih]; rfl

theorem dropLine_setHo (line : Nat) : dropLine line (s.setHo v) = (dropLine line s).setHo v := by
  have hd : getDir (s.setHo v) line = getDir s line := rfl
  simp only [dropLine, hd]
  split
  · rfl
  · rename_i e he
    refine congrArg (setDir line none) (foldl_setHo v s (fun u a => ?_) _)
    simp only [State.setHo_ch, snoop_setHo]
    (repeat' split) <;> rfl

theorem sampleAccess_setHo (a : Nat) : sampleAccess a (s.setHo v) = (sampleAccess a s).setHo v := by
  have hh : homeTabor (s.setHo v) (a / 64) = homeTabor s (a / 64) := rfl
  have hp : Par.heatSample (s.setHo v) = Par.heatSample s := rfl
  have he : entryOf (s.setHo v) (a / 0x200000) = entryOf s (a / 0x200000) := rfl
  simp only [sampleAccess, State.setHo_ti, hh, hp, he]
  (repeat' split) <;> rfl

theorem markDirty_setHo (a : Nat) : markDirty a (s.setHo v) = (markDirty a s).setHo v := by
  have he : entryOf (s.setHo v) (a / 0x200000) = entryOf s (a / 0x200000) := rfl
  simp only [markDirty, he]
  (repeat' split) <;> rfl

theorem wrByte_setHo (a : Nat) (b : Byte) : wrByte (s.setHo v) a b = (wrByte s a b).setHo v := by
  have hu : ((s.setHo v).setMem (memSet (s.setHo v).mem a b)).ti = s.ti := rfl
  by_cases h : s.ti.undef.has (a / 0x200000) = true
  · rw [wrByte, wrByte, if_pos (by rw [hu]; exact h), if_pos (show (s.setMem (memSet s.mem a b)).ti.undef.has (a / 0x200000) = true from h)]
    rfl
  · rw [wrByte, wrByte, if_neg (by rw [hu]; exact h), if_neg (show ¬ (s.setMem (memSet s.mem a b)).ti.undef.has (a / 0x200000) = true from h)]
    rfl

theorem wrBytes_setHo (a : Nat) (l : List Byte) : wrBytes (s.setHo v) a l = (wrBytes s a l).setHo v := by
  induction l generalizing a s with
  | nil => rfl
  | cons b l ih => rw [wrBytes, wrByte_setHo, ih]; rfl

theorem startProgram_setHo (u : Nat) : startProgram u (s.setHo v) = (startProgram u s).setHo v := by
  have hg : groupState (s.setHo v) (unitGroup (s.setHo v) u) = groupState s (unitGroup s u) := rfl
  simp only [startProgram, hg]
  (repeat' split) <;> rfl

theorem frostWrite_setHo (a : Nat) : frostWrite a (s.setHo v) = (frostWrite a s).setHo v := by
  have he : entryOf (s.setHo v) (a / 0x200000) = entryOf s (a / 0x200000) := rfl
  have ho : oldestUnit (s.setHo v) = oldestUnit s := rfl
  simp only [frostWrite, he, State.setHo_fr, ho]
  split
  · rfl
  split
  · rfl
  split
  · cases oldestUnit s with
    | none => rfl
    | some w => simp only [startProgram_setHo]; rfl
  · rfl

theorem landBytes_setHo (a : Nat) (l : List Byte) : landBytes a l (s.setHo v) = (landBytes a l s).setHo v := by
  simp only [landBytes, wrBytes_setHo, markDirty_setHo, frostWrite_setHo]

theorem writeRange_setHo (a : Nat) (l : List Byte) : writeRange a l (s.setHo v) = (writeRange a l s).setHo v := by
  refine foldl_setHo v s (fun u q => ?_) _
  obtain ⟨line, off, n, place⟩ := q
  have hn : lineNow (u.setHo v) line = lineNow u line := rfl
  simp only [hn, dropLine_setHo]
  repeat' split
  · have hc : clearPoison ((dropLine line u).setHo v) (lineAddr line) =
        (clearPoison (dropLine line u) (lineAddr line)).setHo v := rfl
    simp only [hc, landBytes_setHo, sampleAccess_setHo]
  · simp only [landBytes_setHo, sampleAccess_setHo]

end SetHo

/-- The handoffs and the number of the next request, which no write to the range changes. -/
def State.handing (s : State) : FMap Handoff × Nat := (s.fa.handoffs, s.fa.nextReq)

@[simp] theorem foldl_handing {α : Type} {f : State → α → State} (h : ∀ s a, (f s a).handing = s.handing) (l : List α)
    (s : State) : (l.foldl f s).handing = s.handing := foldl_keeps _ f h l s

theorem ensurePath_handing (key : Nat) (s : State) : ∀ t, ensurePath key s = some t → t.handing = s.handing := by
  intro t ht
  simp only [ensurePath] at ht
  split at ht
  · cases ht; rfl
  split at ht
  · cases ht; rfl
  · simp only [Option.map_map, Option.map_eq_some_iff] at ht
    obtain ⟨k, -, rfl⟩ := ht
    rfl

theorem pushPkt_handing (key : Nat) (pkt : Pkt) (req : Nat) (tenant : Option Nat) (s : State) :
    (pushPkt key pkt req tenant s).handing = s.handing := by
  simp only [pushPkt]
  split <;> rfl

theorem snoop_handing (req : CohMsg) (mtype agent : Nat) (s : State) : (snoop req mtype agent s).handing = s.handing := by
  have hpeer : ∀ node m, (sendPeer node 0 0 0 m s).handing = s.handing := by
    intro node m
    simp only [sendPeer]
    split
    · split
      case h_1 t ht => rw [pushPkt_handing, ensurePath_handing _ _ _ ht]
      case h_2 => rfl
    · rfl
  simp only [snoop, sendMsg, Option.getD_none, apply_ite State.handing, hpeer]
  exact ite_self _

theorem dropLine_handing (line : Nat) (s : State) : (dropLine line s).handing = s.handing := by
  simp only [dropLine]
  split
  · rfl
  · refine foldl_handing (fun u a => ?_) _ _
    repeat' split
    · rfl
    · exact snoop_handing ..

theorem landBytes_handing (a : Nat) (l : List Byte) (s : State) : (landBytes a l s).handing = s.handing := by
  have hw : ∀ l a (u : State), (wrBytes u a l).handing = u.handing := by
    intro l
    induction l with
    | nil => exact fun _ _ => rfl
    | cons b l ih =>
      intro a u
      rw [wrBytes, ih]
      simp only [wrByte]
      (repeat' split) <;> rfl
  have hs : ∀ k (u : State), (startProgram k u).handing = u.handing := by
    intro k u
    simp only [startProgram]
    (repeat' split) <;> rfl
  have hf : ∀ (u : State), (frostWrite a u).handing = u.handing := by
    intro u
    simp only [frostWrite]
    repeat' split
    · rfl
    · rfl
    · exact hs ..
    · rfl
    · rfl
  have hm : ∀ (u : State), (markDirty a u).handing = u.handing := by
    intro u
    simp only [markDirty]
    (repeat' split) <;> rfl
  rw [landBytes, hf, hm, hw]

theorem sampleAccess_handing (a : Nat) (s : State) : (sampleAccess a s).handing = s.handing := by
  simp only [sampleAccess]
  (repeat' split) <;> rfl

theorem putWord_handing (a w : Nat) (s : State) : (putWord a w s).handing = s.handing := by
  refine foldl_handing (fun u q => ?_) _ _
  obtain ⟨line, off, n, place⟩ := q
  rw [sampleAccess_handing, landBytes_handing]
  (repeat' split) <;> exact dropLine_handing ..

/-- Settles O26: each row by the record's word, the answer of the receiver and what its timer holds. -/
theorem handoffsAndGraceTimers : Obligations.HandoffsAndGraceTimers := by
  unfold Obligations.HandoffsAndGraceTimers
  refine ⟨?_, ?_, ?_, ?_, ?_, ?_, ?_, ?_, ?_, ?_, ?_⟩
  · intro n s i job a k t u hi hw h1 h3 hj ht hok ho
    simp only [exec, execOwnHandoff, withItem_of_ready _ hi]
    simp [hw, h1, h3, hj, ht, hok, ho]
  · intro n s i job a k t u hi hw h1 h3 hj ht hok ho
    generalize hv : putWord (a + 16) (ownWord (ownEpoch (getWord u (a + 16))) 2 (wBits i.words 2 15 0))
      (markEffect n u) = v
    have hhand : v.fa.handoffs = u.fa.handoffs ∧ v.fa.nextReq = u.fa.nextReq := by
      have hp := putWord_handing (a + 16) (ownWord (ownEpoch (getWord u (a + 16))) 2 (wBits i.words 2 15 0))
        (markEffect n u)
      rw [hv] at hp
      exact Prod.mk.inj hp
    have hmem : v.mem = (putWord (a + 16) (ownWord (ownEpoch (getWord u (a + 16))) 2 (wBits i.words 2 15 0)) u).mem := by
      rw [← hv, putWord, markEffect, modItem, writeRange_setHo, State.setHo_mem, putWord]
    rw [← hmem, ← hhand.1, ← hhand.2]
    simp only [exec, execOwnHandoff, withItem_of_ready _ hi]
    rw [hw, h1, h3]
    simp only [decide_true, Bool.and_self, checked_ok, hj, ht, Acc.bind_ok, hok]
    rw [if_neg (by simp [ho]), hv]
    exact ⟨_, rfl, rfl, _, rfl, rfl, rfl, rfl, rfl, rfl⟩
  · intro m s t h w hp hh hpr hst hc
    simp only [exec, execHandoffCommit, act_of_powered hp, hh, hpr, hc]
    rw [if_neg (by simp; omega)]
    exact ⟨_, rfl, rfl, rfl⟩
  · intro m s t h w hp hh hpr hst hc
    simp only [exec, execHandoffCommit, act_of_powered hp, hh, hpr, hc]
    rw [if_neg (by simp; omega)]
  · intro m s t h w st hp hh hpr hst hc
    have hf : (some st).filter (fun st => decide (st ≠ Config.ok)) = some st := by simp [hst]
    simp only [exec, execHandoffReclaim, act_of_powered hp, hh, hpr, hf, Option.isSome_some, if_true, hc,
      Option.getD_some]
  · intro node job seq s e hp he
    simp only [exec, execLedgerEntryExpiry, act_of_powered hp, he]
  · intro node job at_ s hp hs
    simp only [exec, execLedgerSourceExpiry, act_of_powered hp, hs, reach_fa]
  · intro at_ s hp hs
    simp only [exec, execLedgerHoldExpiry, act_of_powered hp, hs, reach_fa]
  · intro g s hp hs
    simp only [exec, execGenerationGraceExpiry, act_of_powered hp, hs, reach_fa]
  · intro tenant s hp hs
    simp only [exec, execReencryptDone, act_of_powered hp, hs]
    rfl
  · intro tenant s hs
    simp [exec, execReencryptDone, hs, State.act]

end Sys2Proof.Machine

/-!
PROOFS. Translations are filled, denied, withdrawn and drained.
-/

namespace Sys2Proof.Machine

theorem denyMiss_of_get? {tag : Nat} {m : Miss} {s : State} (h : s.tr.misses.get? tag = some m) :
    denyMiss tag s = m.tasks.foldl (fun s k => failTask k s) (dropMiss tag m s) := by
  simp only [denyMiss, h]

/-- Settles O27: each entry taken off the ring, and each drain and timeout, by what it finds. -/
theorem translationsAreFilledAndWithdrawn : Obligations.TranslationsAreFilledAndWithdrawn := by
  unfold Obligations.TranslationsAreFilledAndWithdrawn
  refine ⟨?_, ?_, ?_, ?_, ?_, ?_, ?_, ?_, ?_, ?_, ?_⟩
  · intro port e s t h hbig hva hr hg
    have hspan : fillSpan e = 1 := by simp [fillSpan, hbig]
    rw [exec_fill_of_takes h (by rw [hspan]; exact hva) (by rw [hspan]; exact Nat.mod_one _) (by omega), if_pos (by simpa [hspan] using hg), fillEnt, hbig]
  · intro port e s t h hva
    refine congrArg Host.Outcome.next ((cmdEntry_of_takes _ h).trans ?_)
    dsimp only
    rw [if_pos]
    (repeat' split) <;> simp <;> omega
  · intro port e s t h hbig hva hr hg hm
    have hspan : fillSpan e = 1 := by simp [fillSpan, hbig]
    rw [exec_fill_of_wf h (by rw [hspan]; exact hva) (by rw [hspan]; exact Nat.mod_one _) (by omega) (by rw [hm]; rfl), if_neg (by simp [hspan, hg]), hm]
    rfl
  · intro port e s t m h hm ht
    refine congrArg Host.Outcome.next ((cmdEntry_of_takes _ h).trans ?_)
    simp only [hm, ht, if_true, denyMiss_of_get? hm]
  · intro port e s t h hm
    refine congrArg Host.Outcome.next ((cmdEntry_of_takes _ h).trans ?_)
    simp only [hm]
  · intro port e s t h h0 hva
    refine congrArg Host.Outcome.next ((cmdEntry_of_takes _ h).trans ?_)
    exact if_neg (by simp [h0, hva])
  · intro port e s t h
    exact congrArg Host.Outcome.next (cmdEntry_of_takes _ h)
  · intro ent s e hp he hd hi
    simp [exec, execPtcDrainComplete, act_of_powered hp, he, hd, hi]
  · intro n s w hp hw hop hwin
    simp [exec, execDrainTimeout, act_of_powered hp, hw, hop, hwin]
  · intro tag s m at_ hp hm hat
    simp only [exec, execTranslationTimeout, act_of_powered hp, hm, hat]
    rw [denyMiss_of_get? (by rwa [reach_tr])]
  · intro port e s hup
    simp [exec, execFill, cmdEntry, hup]

end Sys2Proof.Machine

/-!
PROOFS. Grants, tenants, ATS, quotas and function resets take effect.
-/

namespace Sys2Proof.Machine

/-! Scheduling changes only the tabor; a charge only the charges. -/

@[simp] theorem modCtx_tr (t id : Nat) (f : Ctx → Ctx) (s : State) : (modCtx t id f s).tr = s.tr := rfl

@[simp] theorem schedule_tr (t : Nat) (s : State) : (schedule t s).tr = s.tr := by
  simp only [schedule]
  (repeat' split) <;> rfl

@[simp] theorem charge_chargedAt (t : Nat) (s : State) : (charge t s).tr.chargedAt = s.tr.chargedAt := by
  simp only [charge]
  split <;> rfl

@[simp] theorem yieldHeld_chargedAt (t : Nat) (s : State) : (yieldHeld t s).tr.chargedAt = s.tr.chargedAt := by
  have hl : ∀ id st, (leave t id st s).tr.chargedAt = s.tr.chargedAt := by
    intro id st
    simp only [leave, schedule_tr]
    split
    · repeat' split
      · exact charge_chargedAt ..
      · rfl
    · rfl
  simp only [yieldHeld]
  split
  · repeat' split
    · exact hl ..
    · rfl
  · rw [schedule_tr]

theorem schedules_keep (l : List Nat) (u : State) :
    (l.foldl (fun s t => schedule t s) u).tr = u.tr ∧ (l.foldl (fun s t => schedule t s) u).now = u.now ∧
      (l.foldl (fun s t => schedule t s) u).mem = u.mem := by
  have ho := foldl_outside (fun s t => schedule_outside t s) l u
  exact ⟨foldl_keeps State.tr _ (fun s t => schedule_tr t s) l u, congrArg (fun o => o.2.2.1) ho, congrArg Prod.fst ho⟩

theorem fabric_without_windows (f : Fabric) (hr : f.rwt = []) (ho : f.ctrOwner = []) (hc : f.counters = []) :
    { f with rwt := [], ctrOwner := [], counters := [] } = f := by
  obtain ⟨⟩ := f
  cases hr
  cases ho
  cases hc
  rfl

theorem cores_without_images (c : Cores) (h : c.images = []) : { c with images := [] } = c := by
  obtain ⟨⟩ := c
  cases h
  rfl

/-- Settles O28: each row by what it finds. -/
theorem tenantsAtsAndQuotas : Obligations.TenantsAtsAndQuotas := by
  unfold Obligations.TenantsAtsAndQuotas
  refine ⟨?_, ?_, ?_, ?_, ?_, ?_, ?_, ?_, ?_, ?_, ?_, ?_, ?_, ?_, ?_, ?_, ?_, ?_, ?_⟩
  · intro port e s t h h0 hr hl hq
    refine congrArg Host.Outcome.next ((cmdEntry_of_takes _ h).trans ?_)
    dsimp only
    rw [if_neg (by simp; omega), if_neg (by simp; omega)]
  · intro port e s t h h0
    refine congrArg Host.Outcome.next ((cmdEntry_of_takes _ h).trans ?_)
    exact if_pos (by simp [h0])
  · intro port e s t h h0 hm
    refine ⟨_, rfl, congrArg Host.Outcome.next ((cmdEntry_of_takes _ h).trans ?_)⟩
    dsimp only
    rw [if_neg (by omega)]
    simp [hm]
  · intro port e s t h hst hdb hten hq
    refine congrArg Host.Outcome.next ((cmdEntry_of_takes _ h).trans ?_)
    dsimp only
    rw [if_neg (by simp [hst, hdb]), if_neg (by simp [hten, hq])]
    rfl
  · intro port e s t h hst hdb hten
    refine congrArg Host.Outcome.next ((cmdEntry_of_takes _ h).trans ?_)
    dsimp only
    rw [if_neg (by simp [hst, hdb]), if_pos (by simp [hten])]
  · intro port e s t x h hx hst hq
    refine congrArg Host.Outcome.next ((cmdEntry_of_takes _ h).trans ?_)
    simp only [hx, hst]
    rw [if_neg (by simp [hq])]
  · intro port e s t h hx
    refine congrArg Host.Outcome.next ((cmdEntry_of_takes _ h).trans ?_)
    simp only [hx]
  · intro port e s t x h hx hst hi hr ho hc him
    refine congrArg Host.Outcome.next ((cmdEntry_of_takes _ h).trans ?_)
    simp only [hx]
    have hitems : ∀ v, itemsOf (t.setTr v) (cmdTenant e) = [] := fun _ => hi
    rw [if_neg (by simp [hst])]
    have hfa := fabric_without_windows t.fa hr ho hc
    have hco := cores_without_images t.co him
    simp only [hitems, List.isEmpty_nil, if_true, State.setTr_fa, State.setTr_co, State.setFa_co, State.setFa_fa,
      State.setCo_fa, hr, ho, hc, him, FMap.keep, FMap.mapVal, List.filter_nil, List.map_nil, hfa, hco]
    rfl
  · intro port e s t h hx
    refine congrArg Host.Outcome.next ((cmdEntry_of_takes _ h).trans ?_)
    simp only [hx]
  · intro tag addr r w s q hq hup href hright hlen
    simp only [exec, execAtsTranslationCompletion, hq, hup, href, hright]
    rw [if_neg (by decide), if_neg (by decide),
      if_neg (Nat.not_le.mpr (Nat.lt_of_le_of_lt (List.length_filter_le _ _) hlen))]
  · intro tag addr r w s q hq hup href hright
    simp [exec, execAtsTranslationCompletion, hq, hup, href, hright]
  · intro tag at_ s q hq hup hpri
    simp [exec, execPrgResponse, hq, hup, hpri]
  · intro tag at_ code s q hq hup hpri hc
    simp [exec, execPrgResponse, hq, hup, hpri, hc]
  · intro port fn pasid page pages s hup hs hr hh
    refine ⟨_, rfl, ?_⟩
    have hport : ∀ l, getPort (setAtc port l s) port = getPort s port := fun _ => rfl
    simp only [exec, execAtsInvalidateRequest, hup, hport, hs, hr, hh, List.append_nil, List.filterMap_nil]
    rfl
  · intro s ha ht
    simp [exec, execQuotaChargeTick, ha, ht]
  · intro s n c ha ht hc hst
    have hnow : (charge n s).now = s.now := congrArg (fun o => o.2.2.1) (charge_outside n s)
    refine ⟨_, by simp only [exec, execQuotaChargeTick, ha, ht]; exact rfl, ?_, ?_⟩
    · simp [hnow]
    · simp
  · intro s ha hclk
    simp only [exec, execQuotaWindowExpiry, ha]
    rw [if_neg (by decide)]
    refine ⟨_, rfl, ?_⟩
    obtain ⟨htr, hnow, hmem⟩ := schedules_keep (s.co.tabors.map Prod.fst)
      ((s.reach (s.tr.quotaStart + 1000 * Par.quotaWindowUs s)).setTr { s.tr with
        quotaStart := (s.reach (s.tr.quotaStart + 1000 * Par.quotaWindowUs s)).now
        chargedAt := (s.reach (s.tr.quotaStart + 1000 * Par.quotaWindowUs s)).now
        tenants := s.tr.tenants.mapVal fun _ t => { t with charge := 0, held := false } })
    simp only [reach_tr, reach_co, State.setTr_co]
    rw [htr, hnow, hmem]
    refine ⟨by simp [reach_now hclk, Nat.le_max_right], rfl, fun kv hkv => ?_, by simp⟩
    obtain ⟨x, -, rfl⟩ := List.mem_map.mp hkv
    exact ⟨rfl, rfl⟩
  · intro port fn s hup h0 hmax hi
    simp only [exec, execVfFlr, hup]
    rw [if_neg (by simp; omega), resetVf, hi]
    simp only [List.filter_nil, List.map_nil, List.isEmpty_nil, if_true, List.foldl_nil, List.length_nil, Nat.zero_add]
    rfl
  · intro port s hup hv hm
    have hmiss : ∀ v, (setPort s port v).tr.misses = [] := fun _ => hm
    simp only [exec, execPfFlr, hup, hv, List.foldl_nil, hmiss, List.filter_nil]
    rfl

end Sys2Proof.Machine

/-!
PROOFS. Host queues are enabled and disabled, and doorbells move their pointers.
-/

namespace Sys2Proof.Machine

/-- Settles O29: each write of a queue's control register, and each doorbell, by the state of the queue. -/
theorem queuesAndDoorbells : Obligations.QueuesAndDoorbells := by
  unfold Obligations.QueuesAndDoorbells
  refine ⟨?_, ?_, ?_, ?_, ?_, ?_, ?_, ?_, ?_, ?_, ?_, ?_, ?_, ?_, ?_⟩
  · intro s p f q v hup hq he hv hf hlo hhi ha hc
    simp only [exec, execSqEnable, hup, hq, he, hv, sqFields, hf, ha]
    rw [if_neg (by decide), if_neg (by simp; omega)]
    rfl
  · intro s p f q v hup hq he hv hf hc
    simp only [exec, execSqEnable, hup, hq, he, hv, sqFields, hf]
    rw [if_neg (by decide), if_pos (by simp [hc])]
  · intro s p f q v hup hq he hv
    simp [exec, execSqDisable, hup, hq, he, hv]
  · intro s p f q hp hst hf ho hsp
    simp only [exec, execSqDrainDone, act_of_powered hp, hst, hf, ho, hsp]
    simp
  · intro s p f q hp hst hf ho
    simp [exec, execSqDrainDone, act_of_powered hp, hst, hf, ho]
  · intro s p f q v hup hq he hv hf hlo hhi ha
    refine ⟨_, by
      simp only [exec, execCqEnable, hup, hq, he, hv, irqFields, ha]
      rw [if_neg (by decide), if_neg (by simp; omega), if_neg (by simp [hf])], ?_⟩
    exact ⟨rfl, rfl, rfl, rfl, rfl, rfl, rfl, rfl, rfl⟩
  · intro s p f q v hup hq he hv hf hb
    refine ⟨_, by
      simp only [exec, execCqDisable, hup, hq, he, hv, irqFields, hb]
      rw [if_neg (by simp)], ?_⟩
    exact ⟨rfl, rfl, rfl, rfl, rfl⟩
  · intro s p f q v hup hq he hv hf hb h3
    simp only [exec, execCqDisable, hup, hq, he, hv, hf, hb]
    rw [if_pos (by simp [h3])]
  · intro s p f q v hup hq hc hst hlt
    simp only [exec, execSqTailDoorbell, hup, hq, hc, hst]
    rw [if_neg (by decide), if_neg (by omega)]
  · intro s p f q v hup hq hc hst hle
    simp only [exec, execSqTailDoorbell, hup, hq, hc, hst]
    rw [if_neg (by decide), if_pos hle]
    rfl
  · intro s p f q v hup hq hc hst hlt
    simp only [exec, execCqHeadDoorbell, hup, hq, hc, hst]
    rw [if_neg (by decide), if_neg (by omega)]
  · intro s p f q v hup hq hc hst hle
    simp only [exec, execCqHeadDoorbell, hup, hq, hc, hst]
    rw [if_neg (by decide), if_pos hle]
    rfl
  · intro s p v hup hst hlt
    simp only [exec, execReqRingHeadDoorbell, hup, hst]
    rw [if_neg (by decide), if_neg (by omega)]
  · intro s p v hup hst hlt
    simp only [exec, execCmdRingTailDoorbell, hup, hst]
    rw [if_neg (by decide), if_neg (by omega)]
  · intro s p v hup hst hle
    simp only [exec, execCmdRingTailDoorbell, hup, hst]
    rw [if_neg (by decide), if_pos hle]
    rfl

end Sys2Proof.Machine

/-!
PROOFS. Entries become items and completions; registers, PCIe links and host reads.
-/

namespace Sys2Proof.Machine

/-! A port, a function or a queue read after an update of it. -/

@[simp] theorem getPort_setPort (p : Nat) (v : HostPort) (s : State) : getPort (setPort s p v) p = v :=
  FMap.getD_set_self ..

@[simp] theorem getFn_setFn (p f : Nat) (v : HostFn) (s : State) : getFn (setFn s p f v) p f = v := by
  simp [getFn, setFn]

@[simp] theorem setFn_items (p f : Nat) (v : HostFn) (s : State) : (setFn s p f v).ho.items = s.ho.items := rfl

@[simp] theorem setFn_nextItem (p f : Nat) (v : HostFn) (s : State) : (setFn s p f v).ho.nextItem = s.ho.nextItem := rfl

@[simp] theorem setPort_items (p : Nat) (v : HostPort) (s : State) : (setPort s p v).ho.items = s.ho.items := rfl

@[simp] theorem setPort_nextItem (p : Nat) (v : HostPort) (s : State) : (setPort s p v).ho.nextItem = s.ho.nextItem := rfl

/-- A submission queue's update is one of the host side's ports. -/
theorem setSq_eq_setPort (p f q : Nat) (r : Ring) (s : State) : ∃ v, setSq p f q r s = setPort s p v := by
  unfold setSq
  repeat' split
  · exact ⟨_, rfl⟩
  · exact ⟨_, rfl⟩

theorem setCq_eq_setPort (p f q : Nat) (r : Ring) (s : State) :
    ∃ v, setCq p f q r s = setPort s p v ∧ v.spill = (getPort s p).spill := by
  unfold setCq
  repeat' split
  · exact ⟨_, rfl, rfl⟩
  · exact ⟨_, rfl, rfl⟩

@[simp] theorem getSq_setSq (p f q : Nat) (r : Ring) (s : State) : getSq (setSq p f q r s) p f q = r := by
  unfold getSq setSq
  (repeat' split) <;> simp

@[simp] theorem getCq_setCq (p f q : Nat) (r : Ring) (s : State) : getCq (setCq p f q r s) p f q = r := by
  unfold getCq setCq
  (repeat' split) <;> simp

theorem getSq_setFn_of_sq {p f : Nat} {v : HostFn} {s : State} (h : v.sq = (getFn s p f).sq) (q : Nat) :
    getSq (setFn s p f v) p f q = getSq s p f q := by
  unfold getSq
  rw [getFn_setFn, h]
  simp [setFn]

theorem getSq_setPort_of {p : Nat} {v : HostPort} {s : State} (hf : v.fns = (getPort s p).fns)
    (hc : v.cmdRing = (getPort s p).cmdRing) (f q : Nat) : getSq (setPort s p v) p f q = getSq s p f q := by
  simp only [getSq, getFn, getPort_setPort, hf, hc]

theorem getCq_setPort_of {p : Nat} {v : HostPort} {s : State} (hf : v.fns = (getPort s p).fns)
    (hc : v.reqRing = (getPort s p).reqRing) (f q : Nat) : getCq (setPort s p v) p f q = getCq s p f q := by
  simp only [getCq, getFn, getPort_setPort, hf, hc]

theorem getCq_setFn_of_cq {p f : Nat} {v : HostFn} {s : State} (h : v.cq = (getFn s p f).cq) (q : Nat) :
    getCq (setFn s p f v) p f q = getCq s p f q := by
  unfold getCq
  rw [getFn_setFn, h]
  simp [setFn]

theorem hostWrite_keeps (p f a : Nat) (b : List Byte) (s : State) :
    (∀ g q, getCq (hostWrite p f a b s) p g q = getCq s p g q) ∧
      (getPort (hostWrite p f a b s) p).spill = (getPort s p).spill := by
  unfold hostWrite
  dsimp only
  repeat' split
  · exact ⟨fun g q => getCq_setPort_of (by rfl) (by rfl) g q, by rw [getPort_setPort]⟩
  · exact ⟨fun g q => getCq_setPort_of (by rfl) (by rfl) g q, by rw [getPort_setPort]⟩

theorem sendVector_keeps (p f v : Nat) (s : State) :
    (∀ q, getCq (sendVector p f v s) p f q = getCq s p f q) ∧
      (getPort (sendVector p f v s) p).spill = (getPort s p).spill := by
  unfold sendVector
  dsimp only
  repeat' split
  · exact ⟨fun q => getCq_setFn_of_cq (by rfl) q, by simp [setFn]⟩
  · exact ⟨fun q => rfl, rfl⟩

@[simp] theorem setCq_spill (p f q : Nat) (r : Ring) (s : State) :
    (getPort (setCq p f q r s) p).spill = (getPort s p).spill := by
  obtain ⟨v, hv, hs⟩ := setCq_eq_setPort p f q r s
  rw [hv, getPort_setPort, hs]

theorem cqSignal_keeps (p f q : Nat) (s : State) :
    (getCq (cqSignal p f q s) p f q).tail = (getCq s p f q).tail ∧
      (getPort (cqSignal p f q s) p).spill = (getPort s p).spill := by
  unfold cqSignal
  dsimp only
  by_cases hdue : (getCq s p f q).irqDue s.now = true
  · rw [if_pos hdue]
    obtain ⟨hc, hs⟩ := sendVector_keeps p f (if f = 0 && q = 8 then 1 else q)
      (setCq p f q { getCq s p f q with unsig := 0 } s)
    rw [hc, hs, getCq_setCq, setCq_spill]
    exact ⟨rfl, rfl⟩
  · rw [if_neg hdue]
    exact ⟨rfl, rfl⟩

/-- A completion that is written moves the tail of its queue on by one. -/
theorem writeCpl_spec (p : Nat) (c : Cpl) (b : Bool) (s : State) :
    (getPort (writeCpl p c b s) p).spill = (getPort s p).spill ∧
      (getCq (writeCpl p c b s) p c.fn c.cq).tail =
        ((getCq s p c.fn c.cq).tail + 1) % (getCq s p c.fn c.cq).slots := by
  unfold writeCpl
  dsimp only
  obtain ⟨-, hspill⟩ := hostWrite_keeps p c.fn ((getCq s p c.fn c.cq).base + 32 * (getCq s p c.fn c.cq).tail)
      (cplBytes c b (getCq s p c.fn c.cq).phase (getSq s p c.fn c.sq).head) s
  rw [(cqSignal_keeps ..).1, (cqSignal_keeps ..).2, setCq_spill, hspill, getCq_setCq]
  exact ⟨rfl, rfl⟩

theorem mmioUp_lt {s : State} {p : Nat} (h : mmioUp s p = true) : p < 2 := by
  simp only [mmioUp, Bool.and_eq_true, decide_eq_true_eq] at h
  exact h.1.1.1

/-- With nothing spilled there is nothing to post. -/
theorem drainSpill_of_empty {p : Nat} {s : State} (h : (getPort s p).spill = []) :
    drainSpill p s = setPort s p (getPort s p) := by
  have hp : { getPort s p with spill := [] } = getPort s p := by rw [← h]
  simp only [drainSpill, h, List.foldl_nil]
  rw [hp]

theorem settleInvs_of_none {s : State} (h : s.tr.withdrawals = []) : settleInvs s = s := by
  simp only [settleInvs, h, List.foldl_nil]

/-- The four bytes of a word laid down one after another. -/
def storeBytes4 (o v : Nat) (m : FMap Byte) : FMap Byte :=
  (leBytes 4 v).zipIdx.foldl (fun m b => m.set (o + b.2) b.1) m

theorem get?_storeBytes4 (o v : Nat) (m : FMap Byte) (a : Nat) :
    (storeBytes4 o v m).get? a = if o ≤ a ∧ a < o + 4 then some (BitVec.ofNat 8 (v / 256 ^ (a - o))) else m.get? a := by
  have hz : (leBytes 4 v).zipIdx = [(BitVec.ofNat 8 v, 0), (BitVec.ofNat 8 (v / 256), 1),
      (BitVec.ofNat 8 (v / 256 ^ 2), 2), (BitVec.ofNat 8 (v / 256 ^ 3), 3)] := by
    simp [leBytes, Nat.div_div_eq_div_mul]
  simp only [storeBytes4, hz, List.foldl_cons, List.foldl_nil, FMap.get?_set]
  by_cases h3 : a = o + 3
  · simp [h3]
  by_cases h2 : a = o + 2
  · simp [h2]
  by_cases h1 : a = o + 1
  · simp [h1]
  by_cases h0 : a = o
  · simp [h0]
  · rw [if_neg h3, if_neg h2, if_neg h1, if_neg (by omega), if_neg (by omega)]

/-- Settles O30: entries, completions, registers, the link and the reads by what each finds. -/
theorem entriesRegistersAndReads : Obligations.EntriesRegistersAndReads := by
  unfold Obligations.EntriesRegistersAndReads
  refine ⟨?_, ?_, ?_, ?_, ?_, ?_, ?_, ?_, ?_, ?_, ?_, ?_, ?_, ?_, ?_, ?_⟩
  · intro s p f q w hup hwarm hturn hl hext ha hheld
    simp only [exec, execSqEntryFetch, hup, hwarm, hturn, hl, hext, hheld, Bool.false_eq_true, if_false]
    rw [if_neg (by simp), if_neg (by simp; omega)]
    obtain ⟨v, hv⟩ := setSq_eq_setPort p f q
      { getSq s p f q with head := ((getSq s p f q).head + 1) % (getSq s p f q).slots } s
    refine ⟨_, { src := .host p f q (wBits w 0 31 16), tenant := if f = 0 then 0 else fnTenant p f
                 opcode := wBits w 0 7 0, ordered := bitOf (wordAt w 0) 8, words := w.map fun x => x % 2 ^ 64
                 ended := fetchRefusal s f (if f = 0 then 0 else fnTenant p f) w },
      rfl, ?_, ?_, rfl, rfl, rfl, rfl, rfl, ?_, ?_, ?_, ?_⟩
    · simp [hv]
    · simp [hv]
    · refine congrArg Ring.head ((getSq_setPort_of (by rfl) (by rfl) f q).trans
        ((getSq_setFn_of_sq (by rfl) q).trans (getSq_setSq ..)))
    · rw [hv]; rfl
    · rw [hv]; rfl
    · rw [hv]; rfl
  · intro s p f q w hturn
    simp only [exec, execSqEntryFetch]
    rw [if_pos (by simp [hturn])]
  · intro s n p f q cid st i hp hwarm ha hi he hs ho hd
    simp [exec, execCompletionPost, act_of_powered hp, hwarm, postItem, hi, he, hs, ho, ha, hd]
    rfl
  · intro s n p f q cid st i hp hi he hs ho
    simp [exec, execCompletionPost, act_of_powered hp, postItem, hi, he, hs, ho]
  · intro s p c hup
    simp [postCpl, cqTakes, hup]
  · intro s p c ht hsp
    obtain ⟨hspill, htail⟩ := writeCpl_spec p c false s
    refine ⟨_, by simp [postCpl, ht, hsp], ?_, hspill.trans hsp, htail⟩
    exact writeCpl_mem ..
  · intro s p f q hp hen hu
    simp [exec, execIrqTimeExpiry, act_of_powered hp, hen, hu]
  · intro s p v hup hen h2 h5
    have hq : queueExists s p 0 0 = true := by simp [queueExists, mmioUp_lt hup, h5]
    simp [exec, execMmioRegWrite, hup, writeQueueReg, hq, writeBase, hen, mergeReg]
  · intro s p v hup h5 hen
    have hq : queueExists s p 0 0 = true := by simp [queueExists, mmioUp_lt hup, h5]
    simp [exec, execMmioRegWrite, hup, writeQueueReg, hq, writeBase, hen]
  · intro s p offset v hup hlo hhi ha
    simp only [exec, execMmioRegWrite, hup]
    rw [if_pos (by simp; omega)]
    have hmb : ∀ m, getMb (setMb s p m) p = m := fun m => FMap.getD_set_self ..
    refine ⟨_, rfl, ?_, ?_, rfl⟩
    · intro k hk
      rw [hmb]
      refine (get?_storeBytes4 ..).trans ?_
      rw [if_pos (by omega), Nat.add_sub_cancel_left]
    · intro a ha
      rw [hmb]
      exact (get?_storeBytes4 ..).trans (if_neg (by omega))
  · intro s p f offset w v h4 h8
    simp [exec, execMmioRegWrite, h4, h8]
  · intro s p f hup hf
    simp only [exec, execBusMasterEnable, hup]
    rw [if_neg (by simp; omega)]
    rfl
  · intro s p f hup hf h0 hsp hpba
    have hfn : getFn (setFn s p f { getFn s p f with bme := true }) p f = { getFn s p f with bme := true } :=
      getFn_setFn ..
    have hspill : (getPort (setFn s p f { getFn s p f with bme := true }) p).spill = [] := by simpa [setFn] using hsp
    refine ⟨drainSpill p (setFn s p f { getFn s p f with bme := true }), ?_, ?_, ?_⟩
    · simp only [exec, execBusMasterEnable, hup]
      rw [if_neg (by simp; omega), if_neg (by decide), if_neg h0, hfn]
      simp only [hpba, List.foldl_nil]
    · rw [drainSpill_of_empty hspill]
      simp only [getFn, getPort_setPort]
      exact congrArg HostFn.bme hfn
    · simp
  · intro s p hp hlt hup hs
    simp only [exec, execHostLinkDown, act_of_powered hp, hup, hs]
    rw [if_neg (by simp; omega)]
    rfl
  · intro s p hlt hup ha hst
    refine ⟨_, rfl, ?_⟩
    simp only [exec, execHostLinkUp, hup, ha]
    rw [if_neg (by simp [hst]; omega)]
  · intro s f tag addr data n i hup hs hi hw hwd
    have hr : List.range 2 = [0, 1] := rfl
    refine ⟨_, by simp [exec, execHostReadCompletion, hr, hs, hup]; exact settleInvs_of_none hwd, ?_, ?_, by rfl⟩
    · exact congrArg HostPort.sent (getPort_setPort 0 _ s)
    · simp [hi, FMap.mapVal, hw]

end Sys2Proof.Machine

/-!
PROOFS. Items that move bytes, publish regions and manage pages complete.
-/

namespace Sys2Proof.Machine

/-- Settles O31: each item with its arguments in order, by the accesses that it makes. -/
theorem transferAndPageItemsComplete : Obligations.TransferAndPageItemsComplete := by
  unfold Obligations.TransferAndPageItemsComplete
  refine ⟨?_, ?_, ?_, ?_, ?_, ?_, ?_, ?_, ?_, ?_, ?_, ?_, ?_, ?_, ?_, ?_, ?_, ?_, ?_⟩
  · intro n s i hi hw
    simp only [exec, execNop, withItem_of_ready _ hi, hw, checked_ok]
  · intro n s i hi hw
    simp only [exec, execNop, withItem_of_ready _ hi, hw, checked_bad]
  · intro n s i t hi hw h0 hmax hd hlt hr
    simp only [exec, execHostToPool, withItem_of_ready _ hi]
    simp [hw, h0, hmax, hd, Nat.not_le.mpr hlt]
    exact congrArg (Acc.run n) hr
  · intro n s i t hi hw h0 hmax hd hle hr
    simp only [exec, execHostToPool, withItem_of_ready _ hi]
    simp [hw, h0, hmax, hd, hle, hr]
  · intro n s i st t hi hw h0 hmax hd hr
    simp only [exec, execHostToPool, withItem_of_ready _ hi]
    simp [hw, h0, hmax, hd, hr]
  · intro n s i hi hw h0 hmax hle
    simp only [exec, execPoolToHost, withItem_of_ready _ hi]
    simp [hw, h0, hmax, poolToHost, hle]
  · intro n s i bytes t u hi hw h0 hmax hp hpiece hr hput
    simp only [exec, execPoolToHost, withItem_of_ready _ hi]
    simp only [Nat.reducePow] at hpiece hput
    simp [hw, h0, hmax, poolToHost, hp, hpiece, hr, hput]
  · intro n s i a k old line t u hi hw ha hal hlook hint hok hline
    simp only [exec, execPoolAtomic, withItem_of_ready _ hi]
    simp [hw, ha, hal, hlook, hint, hok, hline]
  · intro n s i hi hw ha hal
    simp only [exec, execPoolAtomic, withItem_of_ready _ hi]
    simp [hw, ha, hal]
  · intro n s i ps old t u hi hw ha hne hlook hread hold
    simp only [exec, execRegionPublish, withItem_of_ready _ hi]
    simp [hw, ha, hne, hlook, hread, hold]
  · intro n s i ps old t u v hi hw ha hne hlook hread hold hwr
    simp only [exec, execRegionPublish, withItem_of_ready _ hi]
    simp [hw, ha, hne, hlook, hread, hold] at hwr ⊢
    simp [hwr]
  · intro n s i pages t hi hw ha hp
    simp only [exec, execPageRelease, withItem_of_ready _ hi]
    simp only [hw, ha, Bool.and_self, checked_ok, withPages_of_pages _ hp]
  · intro n s i pages t hi hw ha hp h1 h2
    simp only [exec, execPageHint, withItem_of_ready _ hi]
    have hok : (if wBits i.words 3 1 0 = 2 then !decide (wBits i.words 3 3 2 = 0)
        else decide (wBits i.words 3 3 2 = 0)) = true := by
      by_cases h3 : wBits i.words 3 1 0 = 2 <;> simp [h3] at h2 ⊢ <;> exact h2
    simp [hw, ha, h1, hok, withPages_of_pages _ hp]
  · intro n s i pages t hi hw ha hp h1 h2 hmore hover
    simp only [exec, execPageHint, withItem_of_ready _ hi]
    simp [hw, ha, withPages_of_pages _ hp, h1, h2] at hmore hover ⊢
    simp [hmore, Nat.not_le.mpr hover]
  · intro n s i hi hw ha h1 h2
    simp only [exec, execPageHint, withItem_of_ready _ hi]
    simp [hw, ha, h1, h2]
  · intro n s i pages t hi hw ha hp hlt
    simp only [exec, execSetProtection, withItem_of_ready _ hi]
    simp [hw, ha, withPages_of_pages _ hp, Nat.ne_of_lt hlt]
  · intro n s i hi h3
    simp only [exec, execSetProtection, withItem_of_ready _ hi]
    simp [h3]
  · intro n s i hi hw hs hd
    simp only [exec, execTierDrain, withItem_of_ready _ hi]
    simp [hw, hs, hd]
  · intro n s i hi hw hs
    simp only [exec, execTierDrain, withItem_of_ready _ hi]
    simp [hw, hs]

end Sys2Proof.Machine

/-!
PROOFS. Items on programs complete, and scripts fire and run.
-/

namespace Sys2Proof.Machine

/-- Settles O32: each item by its image and its window, each firing by the queue and its slot. -/
theorem programItemsAndScripts : Obligations.ProgramItemsAndScripts := by
  unfold Obligations.ProgramItemsAndScripts
  refine ⟨?_, ?_, ?_, ?_, ?_, ?_, ?_, ?_, ?_, ?_, ?_, ?_, ?_, ?_, ?_, ?_, ?_, ?_, ?_⟩
  · intro n s i bytes t reason index hi hw ha hr hv
    simp only [exec, execLoadProgram, withItem_of_ready _ hi]
    simp [hw, ha, hr, hv]
  · intro n s i bytes t im hi hw ha hr hv hp him hg hk
    simp only [exec, execLoadProgram, withItem_of_ready _ hi]
    have hpurge : purgeImages t = t := by simp [purgeImages, him]
    simp [hw, ha, hr, hv, hp, hpurge, him, Nat.not_lt.mpr hg, Nat.not_lt.mpr hk]
    rfl
  · intro n s i im hi hw him
    simp only [exec, execUnloadProgram, withItem_of_ready _ hi]
    simp [hw, him]
  · intro n s i hi him
    simp only [exec, execUnloadProgram, withItem_of_ready _ hi]
    simp [him]
  · intro n s i im t hi hw hpl h0 hmax him hp hk ht
    have hmax' : wordAt i.words 3 ≤ Par.fuelMax (setItem n i s) := hmax
    simp only [exec, execRunProgram, withItem_of_ready _ hi]
    simp [hw, hpl, h0, hmax', him, hp, hk, ht]
  · intro n s i hi h0
    simp only [exec, execRunProgram, withItem_of_ready _ hi]
    simp [h0]
  · intro n s i im job hi hw hg him hp hj hl
    have hg' : Par.galePrograms (setItem n i s) ≠ 0 := hg
    simp only [exec, execProgAttach, withItem_of_ready _ hi]
    simp only [hw, hg', him, imageOf_setItem, hp, hj, Option.any_some, ne_eq, not_false_eq_true, decide_true,
      Bool.and_self, checked_ok]
    exact congrArg Host.Outcome.next (if_neg fun h => Nat.not_le.mpr hl (of_decide_eq_true (Bool.and_eq_true_iff.mp h).1))
  · intro n s i job hi hw hj
    simp only [exec, execProgDetach, withItem_of_ready _ hi]
    simp [hw, hj]
  · intro n s i m t hi hw hpc
    simp only [exec, execCopy, withItem_of_ready _ hi]
    simp [hw, hpc]
  · intro n s i st hi hw hpc
    simp only [exec, execCopy, withItem_of_ready _ hi]
    simp [hw, hpc]
  · intro s slot due hd hup hr ht
    simp only [exec, execTriggerPeriod, hd, scriptsRun, hup, hr, ht]
    rw [if_neg (by simp)]
    exact ⟨_, rfl, by rw [reach_eq_setNow]; rfl, fun hclk => by simp [reach_now hclk, Nat.le_max_right], by simp,
      by simp⟩
  · intro s f hl
    simp [enqueueFiring, Nat.not_le.mpr hl]
  · intro s f hl
    simp [enqueueFiring, Nat.not_lt.mpr hl]
  · intro s f rest im hf hup hs hr hv
    simp only [exec, execScriptRun, hf, scriptsRun, hup, hs]
    rw [if_neg (by simp)]
    refine congrArg Host.Outcome.next ((if_neg ?_).trans ?_)
    · change ¬ (!slotRuns s f.slot) = true
      simp [hr]
    · simp only [State.setOd_od, hv]
      rfl
  · intro s f rest hf hup hs hr
    simp only [exec, execScriptRun, hf, scriptsRun, hup, hs]
    rw [if_neg (by simp)]
    refine congrArg Host.Outcome.next (if_pos ?_)
    change (!slotRuns s f.slot) = true
    simp [hr]
  · intro p w s c v hi hr
    dsimp only [exec]
    rw [execOdRd, issue_of_issues _ hi, ← srcA, hr]
    rfl
  · intro p w s c hi hr
    dsimp only [exec]
    rw [execOdRd, issue_of_issues _ hi, ← srcA, hr]
  · intro p w s c t hi hr
    dsimp only [exec]
    rw [execOdWr, issue_of_issues _ hi, ← srcA, ← srcB, hr]
  · intro p w s c hi
    dsimp only [exec]
    rw [execOdEvent, issue_of_issues _ hi, ← srcA]

end Sys2Proof.Machine

/-!
PROOFS. Rounds are declared, gather contributions, apply them and end.
-/

namespace Sys2Proof.Machine

theorem ptcAdmitAll_sv (ents : List Nat) (s : State) : (ptcAdmitAll ents s).sv = s.sv :=
  foldl_keeps State.sv (fun s e => ptcAdmit e s) (fun _ _ => rfl) ents s

/-- An update of a round is what its function does to the round that is there. -/
theorem modRound_congr {k : Nat} {r : Round} {s : State} {f g : Round → Round} (hr : s.sv.rounds.get? k = some r)
    (h : f r = g r) : modRound k f s = modRound k g s := by
  simp only [modRound, FMap.modify, hr, h]

/-- Settles O33: each row by the round that it finds and what the round lacks. -/
theorem roundsGatherAndApply : Obligations.RoundsGatherAndApply := by
  unfold Obligations.RoundsGatherAndApply
  refine ⟨?_, ?_, ?_, ?_, ?_, ?_, ?_, ?_, ?_, ?_, ?_, ?_, ?_, ?_, ?_, ?_, ?_⟩
  · intro n s t u v i ps ents tbl inbox table r hi h16 hcust hok hopen hlook hread hrun htab hrounds hmax hten hfree hwork hr hv
    have hsv : v.sv = u.sv := by rw [hv, ptcAdmitAll_sv, State.setTi_sv]
    have hcustom : (!decide (wBits i.words 1 18 17 = 3) ||
        (imageOf (setItem n i s) i.tenant (wBits i.words 15 15 0)).any fun im => im.kind = 1) = true := by simp [hcust]
    have hno : openRound (setItem n i s) i.tenant (wBits i.words 1 15 0) = none := hopen
    simp only [exec, execRoundDeclare, withItem_of_ready _ hi]
    rw [if_neg (by simp [h16]), hok, hno, hcustom]
    simp only [Option.isNone_none, Bool.and_self, checked_ok, hlook, Acc.bind_ok, hread, hrun, htab, hrounds,
      List.filter_nil, List.any_nil, Bool.false_eq_true, if_false, List.length_nil]
    rw [if_neg (by simp; omega), Acc.run_ok, ← hr, ← hv, hsv, hrounds]
    simp only [FMap.keep, List.filter_nil, FMap.set]
  · intro n s i hi h16 hok
    simp only [exec, execRoundDeclare, withItem_of_ready _ hi]
    simp [h16, hok]
  · intro n k s i r hi h16 hlt hall hopen
    simp only [exec, execRoundCancel, withItem_of_ready _ hi]
    rw [if_neg (by simp [h16]), hall, decide_eq_true hlt]
    simp [hopen]
  · intro n s i hi h16 hlt hall hopen
    simp only [exec, execRoundCancel, withItem_of_ready _ hi]
    rw [if_neg (by simp [h16]), hall, decide_eq_true hlt]
    simp [hopen]
  · intro n k s t i r b hi hopen hw hall h8 hslot h2 h4 h3 h28 hp hread
    simp only [exec, execRoundContribute, withItem_of_ready _ hi, openRound_setItem, hopen, hw, hall, h8, hslot, h2, h4, h3, hp]
    simp [contribute, h8, h4, h28, hread]
  · intro w k s lw r hp hw hin hr he hwhole hbit
    simp [exec, execInboxLineWrite, act_of_powered hp, hw, hin, hr, he, hwhole, hbit]
  · intro w k s lw r hp hw hin hr he hbad
    have hb : (!lw.whole || r.bitmap.mem ((lw.pha - r.inbox) / 64)) = true := by
      rcases hbad with h | h <;> simp [h]
    simp only [exec, execInboxLineWrite, act_of_powered hp, hw, hin, hr, he, hb]
    rfl
  · intro k x m s r p wr hp hr hx he hw hlt
    have hw' : r.writes.getD p.write (1, .item 0) = (m + 2, wr) := by simp [FMap.getD, hw]
    have hgot : ∀ c, (accumulate c (r.units.getD p.unit {}) p).got = (r.units.getD p.unit {}).got + 1 := by
      intro c
      unfold accumulate
      (repeat' split) <;> rfl
    simp only [exec, execPieceAccumulate, act_of_powered hp, hr, hx, he, hw', hgot]
    rw [if_pos hlt, if_neg (by omega)]
    exact congrArg Host.Outcome.next (modRound_congr hr (by rfl))
  · intro k x m s t r p wr ru skipped poisoned hp hr hx he h31 hw hru hn ha
    have hw' : r.writes.getD p.write (1, .item 0) = (m + 2, wr) := by simp [FMap.getD, hw]
    simp only [exec, execPieceAccumulate, act_of_powered hp, hr, hx, he, h31, ← hru, hw']
    rw [if_neg (by omega)]
    simp only [Bool.false_eq_true, if_false, ha]
    rw [if_neg (by omega)]
    rfl
  · intro k no b s r a v0 v1 hp hr he harr hh h0 h1
    have hg : r.halves.getD (2 ^ 40 * no + b) [] = [(0, v0), (1, v1)] := by rw [FMap.getD, hh]; rfl
    have hv0 : FMap.get? [(0, v0), (1, v1)] 0 = some v0 := rfl
    have hv1 : FMap.get? [(0, v0), (1, v1)] 1 = some v1 := rfl
    simp only [exec, execMxBlockQuantise, act_of_powered hp, hr, he, harr, hg, hv0, hv1, h0, h1]
    rw [if_pos (by decide)]
  · intro k no b s t r a v0 v1 eps sps hp hr he harr hh h0 heps hsps hg hsr
    have hget : r.halves.getD (2 ^ 40 * no + b) [] = [(0, v0), (1, v1)] := by rw [FMap.getD, hh]; rfl
    have hv0 : FMap.get? [(0, v0), (1, v1)] 0 = some v0 := rfl
    have hv1 : FMap.get? [(0, v0), (1, v1)] 1 = some v1 := rfl
    refine ⟨_, rfl, ?_⟩
    simp only [exec, execMxBlockQuantise, act_of_powered hp, hr, he, harr, hget, hv0, hv1, h0, ← heps, ← hsps, hg, hsr]
    rw [if_neg (by simp)]
    simp only [Bool.false_eq_true, if_false]
  · intro k u s r ru hp hr hu hph hh
    simp [exec, execUnitDone, act_of_powered hp, hr, hu, hph, hh]
  · intro k u s r ru hp hr hu hph
    simp [exec, execUnitDone, act_of_powered hp, hr, hu, hph]
  · intro k s r hp hr he hc hpo
    simp [exec, execRoundComplete, act_of_powered hp, hr, he, hc, hpo]
  · intro k s r hp hr he hc
    simp [exec, execRoundComplete, act_of_powered hp, hr, he, hc]
  · intro k s r hp hr hf
    simp [exec, execInboxHoldExpiry, act_of_powered hp, hr, hf]
  · intro k s r hp hclk hr he
    simp only [exec, execRoundStalled, act_of_powered hp, hr, he]
    rw [if_neg (by decide)]
    refine ⟨_, rfl, (raise_newest ..).trans (by simp [modRound]), ?_, ?_, ?_⟩
    · simp [modRound, reach_now hclk, Nat.le_max_right]
    · simp [modRound, FMap.get?_modify_self, hr, he]
    · simp [modRound]

end Sys2Proof.Machine

/-!
PROOFS. Embedding tables are made, looked up, updated and destroyed.
-/

namespace Sys2Proof.Machine

theorem setSv_without_lookups (s : State) (h : s.sv.lookups = []) (f : Nat → Lookup → Bool) :
    s.setSv { s.sv with lookups := s.sv.lookups.keep f } = s := by
  have h2 : s.sv.lookups.keep f = s.sv.lookups := by simp [h, FMap.keep]
  simp only [h2]
  rfl

theorem getItem?_modItem_self {n : Nat} {i : Item} {s : State} (f : Item → Item) (h : getItem? s n = some i) :
    getItem? (modItem n f s) n = some (f i) :=
  (FMap.get?_modify_self _ _ _).trans (congrArg (Option.map f) h)

/-- Settles O34: each row by the table or look-up that it finds. -/
theorem embeddingTablesServe : Obligations.EmbeddingTablesServe := by
  unfold Obligations.EmbeddingTablesServe
  refine ⟨?_, ?_, ?_, ?_, ?_, ?_, ?_, ?_, ?_, ?_, ?_, ?_⟩
  · intro n s i d hi hd hw hno hmax hten
    simp only [exec, execTableCreate, withItem_of_ready _ hi, hd, hw, tableOf_setItem, hno, Option.isNone_none,
      decide_true, Bool.and_self, checked_ok]
    exact congrArg Host.Outcome.next (if_neg (by
      simp only [Bool.or_eq_true, decide_eq_true_eq, not_or, Nat.not_le]
      exact ⟨hmax, hten⟩))
  · intro n s i hi hd
    simp only [exec, execTableCreate, withItem_of_ready _ hi, hd]
  · intro n k s i t d hi ht hd hv
    simp only [exec, execTableReplace, withItem_of_ready _ hi, openTable_setItem, ht, hd]
    rw [if_neg (by simp [hv])]
  · intro n k s i t d hi ht hd hv
    simp only [exec, execTableReplace, withItem_of_ready _ hi, openTable_setItem, ht, hd]
    rw [if_pos hv]
  · intro k m s t hp ht hpins hrep hdes
    simp [exec, execTableUnpinned, act_of_powered hp, settleTable, ht, hpins, hrep, hdes]
  · intro k m v s t hp ht hpins hrep hdes
    simp [exec, execTableUnpinned, act_of_powered hp, settleTable, ht, hpins, hrep, hdes]
  · intro n k s i t hi ht hok
    simp only [exec, execTableDestroy, withItem_of_ready _ hi, openTable_setItem, ht, hok, checked_ok]
  · intro n k s u v i t hi hno hpin ht hok hlook hu hstart
    simp only [exec, execEmbLookup, withItem_of_ready _ hi, getLookup_setItem, hno, pinned_setItem, hpin,
      openTable_setItem, ht, hok, checked_ok]
    rw [setSv_without_lookups (setItem n i s) hlook, ← hu, hstart]
    rfl
  · intro n s u i l hi hl htodo hbags
    simp only [exec, execEmbLookup, withItem_of_ready _ hi, getLookup_setItem, hl, htodo, hbags]
    rfl
  · intro n p bag row wt s t i l b ha hwarm hi hop hend hwait hl htodo hlw hidx hrow hread
    rw [List.getD_eq_getElem?_getD] at hidx
    have hrow' := Nat.not_le.mpr hrow
    refine ⟨fun hseq hpres => ?_, fun hseq hpres hmode => ?_, fun hseq => ?_⟩ <;>
      simp only [exec, execRowRead, act_of_powered (powered_of_alive ha), readRow, hi, hl]
    · simp [ha, hop, hend, hwait, hwarm, htodo, hlw, hidx, hrow', hread, hseq, hpres, Acc.lookup]
    · simp [ha, hop, hend, hwait, hwarm, htodo, hlw, hidx, hrow', hread, hseq, hpres, Acc.lookup, poolDefault, hmode, b2n]
    · simp [ha, hop, hend, hwait, hwarm, htodo, hlw, hidx, hrow', hread, hseq, Acc.lookup]
  · intro n p bag row wt s t i l b ha hwarm hi hop hend hwait hl htodo hlw hidx hrow hpres hread
    rw [List.getD_eq_getElem?_getD] at hidx
    have hrow' := Nat.not_le.mpr hrow
    simp only [exec, execRowUpdateEndWait, act_of_powered (powered_of_alive ha), readRow, hi, hl]
    simp [ha, hop, hend, hwait, hwarm, htodo, hlw, hidx, hrow', hread, hpres, Acc.lookup]
  · intro n k s t1 t2 t3 i j t b1 b2 hi hpin ht hok hw hprog hone hop hsize hread1 hrow hread2 hupd hj hr1
    simp only [exec, execEmbUpdate, withItem_of_ready _ hi, pinned_setItem, hpin, openTable_setItem, ht, hok, checked_ok]
    simp [hw, hprog, hone, updateRows, hread1, Nat.not_le.mpr hrow, hop, hsize, hread2, hupd, getItem?_modItem_self _ hj, hr1]

end Sys2Proof.Machine

/-!
PROOFS. A COMPACT with a second item of its number in the item map does not end.
-/

namespace Sys2Proof.Machine

/-- A COMPACT of index 3 of tenant 1 that has been started. -/
def compactItem (regs : FMap Nat) : Item :=
  { src := .host 0 0 0 0, tenant := 1, opcode := 0x35, ordered := false, words := [0x35, 3], started := true, regs := regs }

/-- The index that it names, without items. -/
def bareIndex : Index := { tenant := 1, id := 3, words := [0, 3] }

/-- A device whose item map lists number 1 twice: the second pair is an admitted COMPACT of the same index. -/
def compactTwice : State :=
  { ho := { items := [(1, compactItem []), (1, compactItem [(7, 1)])] }, sv := { indexes := [(1, bareIndex)] } }

theorem indexTakes_compactTwice : indexTakes 1 0x35 compactTwice = some (compactItem [], 1, bareIndex) := by decide

/-- It waits for the engine, as a COMPACT does behind another one of its index. -/
theorem exec_compact_compactTwice :
    exec (.compact 1) compactTwice = .next (modItem 1 (fun i => { i with wait := .engine })
      (admitted 1 (setItem 1 (compactItem []) compactTwice))) := by
  rfl

/-- Refutes O35: the item map need not be in order. With its number listed a second time, as a COMPACT that is
admitted, the COMPACT waits for that one and does not end. -/
theorem not_squallServes : ¬ Obligations.SquallServes := by
  unfold Obligations.SquallServes
  intro h
  obtain ⟨-, -, -, -, -, -, -, -, -, hcompact, -⟩ := h
  have h := hcompact 1 1 compactTwice _ _ _ indexTakes_compactTwice rfl (by decide) (by decide) (by decide) rfl rfl rfl
  rw [exec_compact_compactTwice, Host.Outcome.next.injEq] at h
  exact absurd (congrArg (fun t => (getItem? t 1).map (·.ended)) h) (by decide)

end Sys2Proof.Machine

/-!
PROOFS. Cumulus stores serve the operations of the host and of request lines on their keys, and CHECK ends.
-/

namespace Sys2Proof.FMap

variable {α : Type}

theorem set_set (m : FMap α) (j : Nat) (a b : α) : set (set m j a) j b = set m j b := by
  induction m with
  | nil => simp [set]
  | cons p m ih =>
    obtain ⟨k, w⟩ := p
    simp only [set]
    split
    · next h => simp [set]
    · next h =>
      split
      · next hk => simp [set, hk]
      · next hk => simp [set, h, hk, ih]

theorem modify_of_get? {m : FMap α} {j : Nat} {v : α} (h : get? m j = some v) (f : α → α) :
    modify m j f = set m j (f v) := by
  simp only [modify, h]

end Sys2Proof.FMap

namespace Sys2Proof.Machine

theorem drumBegin_stores (t : Nat) (s : State) : (drumBegin t s).sv.stores = s.sv.stores := by
  simp only [drumBegin]
  split <;> simp [setDrum, raise]

theorem setItem_setItem (n : Nat) (i j : Item) (s : State) : setItem n j (setItem n i s) = setItem n j s := by
  have h : ∀ m : FMap Item, (s.setHo { s.ho with items := m }).setHo { (s.setHo { s.ho with items := m }).ho with
      items := FMap.set m n j } = s.setHo { s.ho with items := FMap.set m n j } := fun _ => rfl
  exact (h _).trans (by rw [FMap.set_set]; rfl)

theorem modItem_eq_setItem {n : Nat} {i : Item} {s : State} (h : getItem? s n = some i) (f : Item → Item) :
    modItem n f s = setItem n (f i) s := by
  simp only [modItem, FMap.modify_of_get? h]
  rfl

theorem creq_op (i : Item) : (creq i).op = i.opcode := by
  cases h : i.src <;> simp [creq, h]

theorem landed_of_host {i : Item} (h : i.src.queue.isNone = false) (n : Nat) (x : Store) (r : CReq) (s : State) :
    landed n i x r s = .ok true s := by
  cases hs : i.src with
  | host p f q c => simp [landed, hs]
  | line st node window offset => simp [hs, ItemSrc.queue] at h

theorem checkOwn_of_unbound {x : Store} {r : CReq} (h : (x.keys.get? r.key).any (fun c => !decide (c.own = 0)) = false)
    (n : Nat) (i : Item) (s : State) : checkOwn n i x r s = .ok true s := by
  cases hk : x.keys.get? r.key with
  | none => simp [checkOwn, hk]
  | some c =>
    have hown : c.own = 0 := by simpa [hk] using h
    simp [checkOwn, hk, hown]

/-- A request on a key that nothing holds back takes its turn. -/
theorem runReq_of_turn {n k : Nat} {t : State} {j : Item} {x : Store} (hj : getItem? t n = some j)
    (hx : t.sv.stores.get? k = some x) (hsrc : j.src.queue.isNone = false) (hend : j.ended = none) (hput : j.regs.getD 11 0 ≠ 1)
    (hfail : x.failed = false) (hbusy : keyBusy t n k (creq j).key = false)
    (hown : (x.keys.get? (creq j).key).any (fun c => !decide (c.own = 0)) = false)
    (hbind : (creq j).own = 0 ∨ (creq j).op ≠ 0x39) : runReq n k t = takeTurn n j k x (creq j) t := by
  simp only [runReq, hj, hx, hend, hfail, hbusy, landed_of_host hsrc, checkOwn_of_unbound hown]
  rw [if_neg (by simp), if_neg (by simp), if_neg hput, if_neg (by simp)]
  simp only [Acc.bind_ok, Bool.not_true, Bool.false_eq_true, if_false]
  rw [if_pos (by simpa using hbind)]
  rfl

/-- A host's operation on a key that nothing holds back takes its turn, marked as started and with its store. -/
theorem hostOp_of_takes {n op k : Nat} {s t : State} {j : Item} {x : Store} (h : storeTakes n op s = some (k, j, x, t)) :
    hostOp n op s = takeTurn n j k x (creq j) t ∧ j.opcode = op ∧ t = setItem n j s := by
  simp only [storeTakes, Option.bind_eq_some_iff] at h
  obtain ⟨i, hi, h⟩ := h
  split at h
  · cases h
  next hno =>
  simp only [Option.bind_eq_some_iff] at h
  obtain ⟨⟨k', x'⟩, hopen, h⟩ := h
  split at h
  case isFalse => cases h
  next hyes =>
  cases h
  simp only [Bool.or_eq_true, decide_eq_true_eq, not_or, Bool.not_eq_true, ne_eq, Classical.not_not,
    Bool.and_eq_true, Bool.not_eq_true'] at hno hyes
  obtain ⟨⟨⟨⟨⟨⟨⟨⟨⟨halive, hop⟩, hsrc⟩, hend⟩, hwait⟩, hwarm⟩, hstart⟩, hreg⟩, hput⟩, hcmd⟩ := hno
  obtain ⟨⟨⟨⟨hx, hfail⟩, hbusy⟩, hown⟩, hbind⟩ := hyes
  refine ⟨?_, hop, rfl⟩
  rw [← runReq_of_turn (j := { i with started := true, regs := i.regs.set 7 (k' + 1) }) (getItem?_setItem ..) hx hsrc
    (by simpa using hend) (by simpa [FMap.getD, FMap.get?_set] using hput) hfail hbusy (by simpa using hown)
    (hbind.symm.imp_right fun h => by simpa [creq_op, hop] using h)]
  have hrun : modRegs n 7 (k' + 1) (modItem n (fun i => { i with started := true }) s) =
      setItem n { i with started := true, regs := i.regs.set 7 (k' + 1) } s := by
    rw [modItem_eq_setItem hi, modRegs, modItem_eq_setItem (getItem?_setItem ..), setItem_setItem]
  have hopen' : ∀ f, openStore (modItem n f s) i.tenant (wBits i.words 1 15 0) = some (k', x') := fun _ => hopen
  have hgo : hostOp n op s = runReq n k' (modRegs n 7 (k' + 1) (modItem n (fun i => { i with started := true }) s)) := by
    simp only [hostOp, hi, hwait, hreg, hopen']
    rw [if_neg (by simp [halive, hop, hsrc, hend, hwarm]), if_neg (by simpa using hstart)]
    simp only [hcmd, checked_ok]
  rw [hgo, hrun]

/-- A request line that is taken becomes an item, which runs and is answered. -/
theorem remoteOp_of_takes {w op n k : Nat} {s t : State} (h : remoteTakes w op s = some (n, k, t)) :
    remoteOp w op s = replyLine n (runReq n k t) := by
  simp only [remoteTakes] at h
  split at h
  · cases h
  next hgo =>
  simp only [Option.bind_eq_some_iff] at h
  obtain ⟨lw, hlw, k', hk, x, hx, h⟩ := h
  split at h
  case isFalse => cases h
  next hyes =>
  cases h
  simp only [Bool.and_eq_true, decide_eq_true_eq, Bool.not_eq_true'] at hyes
  obtain ⟨⟨⟨⟨⟨⟨hwhole, hzero⟩, hline⟩, hdes⟩, hop⟩, hrest⟩, hroom⟩ := hyes
  simp only [remoteOp, hlw, hk, hx, hwhole, hzero, hline, hrest, checked_ok]
  rw [if_neg hgo, if_neg (by simpa using hdes), if_neg (by simpa using hop)]
  exact if_neg (Nat.not_le.mpr hroom)

theorem foldl_fixed {σ β : Type} {f : σ → β → σ} {l : List β} {s : σ} (h : ∀ b ∈ l, f s b = s) : l.foldl f s = s := by
  induction l with
  | nil => rfl
  | cons b l ih =>
    rw [List.foldl_cons, h b (by simp)]
    exact ih fun c hc => h c (by simp [hc])

/-- Settles O36: the host's operations by `takeTurn`, the request lines by their item, the waits by their time. -/
theorem cumulusServes : Obligations.CumulusServes := by
  unfold Obligations.CumulusServes
  refine ⟨?_, ?_, ?_, ?_, ?_, ?_, ?_, ?_, ?_, ?_, ?_, ?_, ?_, ?_, ?_, ?_, ?_, ?_, ?_, ?_, ?_, ?_, ?_, ?_, ?_, ?_, ?_, ?_,
    ?_, ?_, ?_⟩
  · intro n a s u i ps ents hi hok hno hmax hten hreq hland hlook hrun htaken
    simp only [exec, execStoreCreate, withItem_of_ready _ hi, hok, tenantStore_setItem, hno, Option.isNone_none,
      Bool.and_self, checked_ok, if_neg hreq, if_pos hland]
    refine congrArg Host.Outcome.next ((if_neg ?_).trans ?_)
    · simp only [Bool.or_eq_true, decide_eq_true_eq, not_or, Nat.not_le]
      exact ⟨hmax, hten⟩
    · rw [List.getD_eq_getElem?_getD] at hrun
      simp [hlook, hrun, htaken]
  · intro n k s i x hi hok hx hdes hidle
    simp only [exec, execStoreDestroy, withItem_of_ready _ hi, tenantStore_setItem, hx, hok, hdes, Option.isNone_none,
      Bool.true_or, Bool.and_self, checked_ok, hidle]
    rfl
  · intro n k off s t u v w j i2 x x2 x3 h hexp hslot hv hi2 hx2 hput hx3
    obtain ⟨hrun, hop, ht⟩ := hostOp_of_takes h
    rw [← creq_op] at hop
    simp only [exec, execPut, hrun, takeTurn, hop, hexp, hslot, ← hv, hi2, hx2, finishPut, hput, Acc.bind_ok, hx3]
    simp
  · intro n k s t j x c h hc hexp hver
    obtain ⟨hrun, hop, ht⟩ := hostOp_of_takes h
    rw [← creq_op] at hop
    simp only [exec, execPut, hrun, takeTurn, hop, hc]
    refine congrArg Host.Outcome.next (if_pos ?_)
    by_cases hany : (creq j).expected = 2 ^ 64 - 1
    · rw [if_neg hexp, if_pos hany]
      rfl
    · rw [if_neg hexp, if_neg hany]
      exact decide_eq_true hver.symm
  · intro n k s t j i2 x y c h hc hy hi2
    obtain ⟨hrun, hop, ht⟩ := hostOp_of_takes h
    rw [← creq_op] at hop
    simp only [exec, execGet, hrun, takeTurn, hop, hc]
    subst hy hi2 ht
    rfl
  · intro n k s t j x h hc hw
    obtain ⟨hrun, hop, ht⟩ := hostOp_of_takes h
    rw [← creq_op] at hop
    simp only [exec, execGet, hrun, takeTurn, hop, hc, hw]
    rfl
  · intro n k s t j x c h hc hpins
    obtain ⟨hrun, hop, ht⟩ := hostOp_of_takes h
    rw [← creq_op] at hop
    simp only [exec, execPin, hrun, takeTurn, hop, hc, if_neg (Nat.not_le.mpr hpins)]
    rfl
  · intro n k s t j x c h hc hpins
    obtain ⟨hrun, hop, ht⟩ := hostOp_of_takes h
    rw [← creq_op] at hop
    simp only [exec, execUnpin, hrun, takeTurn, hop, hc, if_neg (Nat.pos_iff_ne_zero.mp hpins)]
    rfl
  · intro n k s t j x c h hc hpins
    obtain ⟨hrun, hop, ht⟩ := hostOp_of_takes h
    rw [← creq_op] at hop
    simp only [exec, execUnpin, hrun, takeTurn, hop, hc, if_pos hpins]
    rfl
  · intro n k s t j x c h hc hver
    obtain ⟨hrun, hop, ht⟩ := hostOp_of_takes h
    rw [← creq_op] at hop
    simp only [exec, execDrop, hrun, takeTurn, hop, hc]
    refine congrArg Host.Outcome.next (if_neg ?_)
    rcases hver with h0 | ⟨hver, hlt⟩
    · rw [if_pos h0]
      exact Bool.false_ne_true
    · rw [if_neg (by omega : ¬ (creq j).expected = 2 ^ 64 - 1), hver]
      simp
  · intro n k s t j x c h hc
    obtain ⟨hrun, hop, ht⟩ := hostOp_of_takes h
    rw [← creq_op] at hop
    simp only [exec, execPrefetch, hrun, takeTurn, hop, hc]
    rfl
  · intro n k s t j x h hc
    obtain ⟨hrun, hop, ht⟩ := hostOp_of_takes h
    rw [← creq_op] at hop
    simp only [exec, execPin, hrun, takeTurn, hop, hc]
    rfl
  · exact fun w n k s t h => congrArg Host.Outcome.next (remoteOp_of_takes h)
  · exact fun w n k s t h => congrArg Host.Outcome.next (remoteOp_of_takes h)
  · exact fun w n k s t h => congrArg Host.Outcome.next (remoteOp_of_takes h)
  · exact fun w n k s t h => congrArg Host.Outcome.next (remoteOp_of_takes h)
  · exact fun w n k s t h => congrArg Host.Outcome.next (remoteOp_of_takes h)
  · exact fun w n k s t h => congrArg Host.Outcome.next (remoteOp_of_takes h)
  · intro w k s lw x ha hwarm hstage hlw hk hx hbad
    simp only [exec, execRemotePut, remoteOp, hlw, hk, hx]
    rw [if_neg (by simp [ha, hwarm, hstage]), if_pos (by rcases hbad with h | h <;> simp [h])]
  · intro n at_ s i ha hi hend hw hctr
    simp [exec, execRemotePutDataReady, act_of_powered (powered_of_alive ha), waiting, hi, hend, ha, hw,
      Nat.not_lt.mpr hctr]
  · intro n at_ s i ha hi hend hw
    simp [exec, execPutWaitExpiry, act_of_powered (powered_of_alive ha), waiting, hi, hend, ha, hw]
  · intro n at_ s i ha hi hend hw
    simp [exec, execGetWaitExpiry, act_of_powered (powered_of_alive ha), waiting, hi, hend, ha, hw,
      notFound]
  · intro n at_ s i ha hi hend hw
    simp [exec, execOwnWaitExpiry, act_of_powered (powered_of_alive ha), waiting, hi, hend, ha, hw]
  · intro n at_ s i ha hi hend hw
    simp [exec, execDropLruWaitExpiry, act_of_powered (powered_of_alive ha), waiting, hi, hend, ha, hw]
  · intro n s i hi hw
    refine ⟨?_, ?_, ?_, ?_, ?_⟩ <;>
      simp [exec, execPutWaitExpiry, execGetWaitExpiry, execOwnWaitExpiry, execDropLruWaitExpiry,
        execRemotePutDataReady, waiting, hi, hw, State.act]
  · intro k slot s x c hp hx hc hold hread
    simp [exec, execCumulusSlotRelease, act_of_powered hp, hx, freeSlot, hc, hold, hread]
  · intro s hd hcold
    simp only [exec, execCumulusEvictionRound, hd, drumBegin_stores]
    exact congrArg Host.Outcome.next (foldl_fixed fun kv hkv => if_pos (hcold kv hkv))
  · intro s k q x hd hx hcold hone hkeys hpins hlast hq
    simp only [exec, execCumulusEvictionRound, hd, drumBegin_stores, hx]
    have hkeep : ((keysOn x 0).isEmpty || (keysOn x 0).any fun kv =>
        decide (kv.2.pins ≠ 0) || decide ((drumBegin 3 s).now < kv.2.last + 1000000 * x.coldMs)) = false := by
      simp only [Bool.or_eq_false_iff, List.isEmpty_eq_false_iff, List.any_eq_false, Bool.or_eq_true,
        decide_eq_true_eq, not_or, Classical.not_not, Nat.not_lt]
      exact ⟨hkeys, fun kv hkv => ⟨hpins kv hkv, hlast kv hkv⟩⟩
    simp only [List.foldl_cons, List.foldl_nil, Nat.ne_of_gt hcold, hone, List.range_one, hkeep, hq, Bool.not_true,
      Bool.false_eq_true, if_false]
  · intro s hd
    simp [exec, execCumulusEvictionRound, hd]
  · intro n s u i j p hi hok hp hsegs hj hr1
    simp only [exec, execCheck, withItem_of_ready _ hi, hok, hp, hsegs, Acc.bind_ok, Acc.run_ok, hj, Option.map_some,
      Option.getD_some, hr1, if_true]
  · intro n s i hi hok
    simp only [exec, execCheck, withItem_of_ready _ hi, hok]

end Sys2Proof.Machine

/-!
PROOFS. Each watchdog and each fault orders the reset of its domain.
-/

namespace Sys2Proof.Machine

/-- Settles O37: row by row, by the guard of its condition. -/
theorem watchdogsAndFaultsOrderResets : Obligations.WatchdogsAndFaultsOrderResets := by
  unfold Obligations.WatchdogsAndFaultsOrderResets
  refine ⟨?_, ?_, ?_, ?_, ?_, ?_, ?_, ?_, ?_, ?_, ?_, ?_, ?_, ?_⟩
  · intro n s c hw hc hrun hhold hpend
    simp [exec, execCtxStall, hc, hrun, hw, hhold, hpend]
  · intro n id a b d s c hw hc hhold hend
    simp [exec, execWaitLimitExpiry, hc, hhold, hend, hw]
  · intro n id a b d s c hw hc hhold hend
    simp [exec, execWaitLimitExpiry, hc, hhold, hend, hw]
  · intro n s i hw hi hdue
    simp [exec, execItemEngine, hi, hw, hdue]
  · intro n s i hw hi hdue
    simp [exec, execItemEngine, hi, hdue]
  · intro n s hw hn hgood hbusy
    simp [exec, execHomeWatchdog, hw, Nat.not_le.mpr hn, hgood, hbusy]
  · intro port s hw hp hgale
    simp [exec, execGaleStall, hw, Nat.not_le.mpr hp, hgale]
  · intro s hw
    simp [exec, execTierFault, execMeshFault, hw]
  · intro kit s hw hk hdead
    simp [exec, execKitFault, hw, Nat.not_le.mpr hk, hdead]
  · intro port s hw hp
    simp [exec, execPortLogic, execPortSerdes, hw, Nat.not_le.mpr hp]
  · intro n s ha hn hgood
    simp [exec, execScratchEccError, execSliceTagError, ha, Nat.not_le.mpr hn, hgood]
  · intro n s c ha hn hgood hc
    cases hrun : decide (c.state = .running) <;>
      simp [exec, execScratchEccError, ha, Nat.not_le.mpr hn, hgood, hc, hrun]
  · intro kit s ha hk hlost
    simp [exec, execChimeUnitLost, ha, loseChime, Nat.not_le.mpr hk, hlost]
  · intro kit s ha hlost
    simp [exec, execChimeUnitLost, loseChime, hlost]

end Sys2Proof.Machine

/-!
PROOFS. Tocsin A and B watch one another, and the hardwired path quiesces the device.
-/

namespace Sys2Proof.Machine

/-- Settles O38: row by row, by the mode of each Tocsin. -/
theorem tocsinWatchesAndQuiesces : Obligations.TocsinWatchesAndQuiesces := by
  unfold Obligations.TocsinWatchesAndQuiesces
  refine ⟨?_, ?_, ?_, ?_, ?_, ?_, ?_, ?_, ?_, ?_⟩
  · intro s hw ha
    simp [exec, execTocsinHeartbeat, hw, ha]
  · intro s hw hb
    simp [exec, execTocsinHeartbeat, hw, hb]
  · intro s hw ha hb
    simp [exec, execCarillonWatchdog, hw, ha, hb]
  · intro s hw ha hb hr
    simp [exec, execTocsinAHeartbeat, hw, ha, hb, hr]
  · intro s at_ hw ha hb hr hsoon
    simp [exec, execTocsinAHeartbeat, hw, ha, hb, hr, hsoon]
  · intro s hp ha
    simp [exec, execTocsinRestarted, hp, ha]
  · intro s hp hb hfailed
    simp [exec, execTocsinRestarted, hp, hb, hfailed]
  · intro s hw
    simp [exec, execIslandFailed, hw]
  · intro s hp hq
    simp [exec, execHardwiredPathFire, hp, hq]
  · intro s hp hclk hq
    refine ⟨_, by simp [exec, execHardwiredPathFire, hp, hq]; exact rfl, ?_⟩
    have hnow := reach_now hclk (max (if s.rc.tocsinA = 2 then 0 else s.rc.beatA + 2000000) (s.rc.beatB + 2000000))
    refine ⟨rfl, rfl, rfl, rfl, ?_, fun ha => ?_, ?_, ?_, ?_, ?_, ?_⟩
    · exact Nat.le_trans (by omega) (Nat.le_of_eq hnow.symm)
    · rw [if_neg ha] at hnow
      rw [State.setRc_now, State.setPw_now, if_neg ha, hnow]
      omega
    all_goals simp

end Sys2Proof.Machine

/-!
PROOFS. Resets of contexts, tabors, kits, ports and the Carillon domain run their steps.
-/

namespace Sys2Proof.Machine

/-- Settles O39: row by row, by the reset or the fence that it finds. -/
theorem resetsOfPartsRun : Obligations.ResetsOfPartsRun := by
  unfold Obligations.ResetsOfPartsRun
  refine ⟨?_, ?_, ?_, ?_, ?_, ?_, ?_, ?_, ?_, ?_, ?_⟩
  · intro n s x hp hx
    simp [exec, execTenantContextReset, hx, hp]
  · intro n s hx
    simp [exec, execTenantContextReset, hx]
  · intro kit s t x l hp hx hl ht
    subst hl ht
    simp [exec, execKitReset, hx, hp]
  · intro port s x hp hx
    simp [exec, execPortReset, hx, hp]
  · intro port s x hp hx
    simp [exec, execPortReset, hx, hp]
  · intro s x hp hx
    have hco : exec .carillonReset s = .next ((wipeCarillon (markRun 5 0 s)).setRc
        { (wipeCarillon (markRun 5 0 s)).rc with tocsinB := 1 }) := by
      simp [exec, execCarillonReset, hx, hp]
    exact ⟨_, hco, rfl, rfl, rfl, rfl, rfl, rfl, rfl, rfl, rfl⟩
  · intro n s x hp hx hdom hfused hfenced hno
    simp [exec, execTaborFence, act_of_powered hp, hx, hdom, hfused, hfenced, hno]
  · intro n s t x hp hx hdom hfused hfenced hno ht
    have hco : t.co = s.co := by rw [ht]; rfl
    simp only [exec, execTaborFence, act_of_powered hp, hx, hdom, if_true, ← ht, hco, hfused, hfenced, hno]
    rfl
  · intro n bad s t f hp hf hread ht
    subst ht
    simp [exec, execFenceReadoutDone, act_of_powered hp, hf, hread]
  · intro n s t f hp hf hread ht
    subst ht
    simp [exec, execFenceRehomeDone, act_of_powered hp, hf, hread]
  · intro n s f hp hf hread
    simp [exec, execFenceRehomeDone, act_of_powered hp, hf, hread]

end Sys2Proof.Machine

/-!
PROOFS. What posting completions, writing words, raising events and dropping links leave of the device: time, power, the
composition, programs and services. The frames of the functions that a warm reset and stage S4 reach.
-/

namespace Sys2Proof.Machine

/-- Local time, the step of a chip warm reset, the last fault's number, the composition, the node's id, whether Frost is
mounted, and power. -/
def State.place (s : State) : Nat × Nat × Nat × Nat × Nat × Bool × Power :=
  (s.now, s.rc.warmStep, s.rc.faultSeq, s.fa.composition, s.fa.nodeId, s.bt.mounted, s.pw)

/-- The same with the programs and the services. -/
def State.standing (s : State) : (Nat × Nat × Nat × Nat × Nat × Bool × Power) × Cores × Svc := (s.place, s.co, s.sv)

theorem place_of_standing {s t : State} (h : t.standing = s.standing) : t.place = s.place := congrArg Prod.fst h

@[simp] theorem foldl_standing {α : Type} {f : State → α → State} (h : ∀ s a, (f s a).standing = s.standing) (l : List α)
    (s : State) : (l.foldl f s).standing = s.standing := foldl_keeps _ f h l s

theorem standing_of_outside {s t : State} (h : t.outside = s.outside) (hfa : t.fa = s.fa) (hco : t.co = s.co)
    (hsv : t.sv = s.sv) : t.standing = s.standing := by
  simp only [State.outside, Prod.mk.injEq] at h
  obtain ⟨-, -, hnow, hpw, hbt, hrc, -⟩ := h
  simp only [State.standing, State.place, hnow, hpw, hrc, hfa, hbt, hco, hsv]

theorem sendVlan_standing (a : Nat) (sub : Option Nat) (m : OdpMsg) (s : State) :
    (sendVlan a sub m s).standing = s.standing := by
  simp only [sendVlan]
  split <;> rfl

theorem notifyAll_standing (e : EvRec) (s : State) : (notifyAll e s).standing = s.standing := by
  have hmb : ∀ p m (u : State), (mailboxNotify p m u).standing = u.standing := fun p m u => by simp [State.standing, State.place]
  have hvl : ∀ (l : List Nat) m (u : State), (l.foldl (fun s a => sendVlan a none m s) u).standing = u.standing :=
    fun l m u => foldl_standing (fun s a => sendVlan_standing a none m s) l u
  have hemit : ∀ o (u : State), (emit o u).standing = u.standing := fun _ _ => rfl
  simp only [notifyAll]
  (repeat' split) <;> simp only [hmb, hvl, hemit]

@[simp] theorem raise_standing (c j a b : Nat) (s : State) : (raise c j a b s).standing = s.standing := by
  have hf : ∀ c a b (u : State), (fireEvent c a b u).standing = u.standing := fun c a b u => by simp [State.standing, State.place]
  simp only [raise, hf, notifyAll_standing]
  rfl

theorem ensurePath_standing (key : Nat) (s : State) : ∀ t, ensurePath key s = some t → t.standing = s.standing := by
  intro t ht
  simp only [ensurePath] at ht
  split at ht
  · cases ht; rfl
  split at ht
  · cases ht; rfl
  · simp only [Option.map_map, Option.map_eq_some_iff] at ht
    obtain ⟨k, -, rfl⟩ := ht
    rfl

@[simp] theorem pushPkt_standing (key : Nat) (pkt : Pkt) (req : Nat) (tenant : Option Nat) (s : State) :
    (pushPkt key pkt req tenant s).standing = s.standing := by
  simp only [pushPkt]
  split <;> rfl

theorem sendBulk_standing (node tc job : Nat) (tenant : Option Nat) (bytes : List Byte) (reqs : List Nat)
    (s : State) : (sendBulk node tc job tenant bytes reqs s).standing = s.standing := by
  have hset : ∀ (u : State) (q : FMap RemoteReq), (u.setFa { u.fa with reqs := q }).standing = u.standing := fun _ _ => rfl
  simp only [sendBulk]
  split
  · rfl
  case h_2 t h =>
    have hpath := ensurePath_standing _ _ _ h
    split
    · rw [hset]
      exact (foldl_standing (fun s q => pushPkt_standing ..) _ _).trans hpath
    · exact (foldl_standing (fun s q => pushPkt_standing ..) _ _).trans hpath

theorem flushOpen_standing (node tc job : Nat) (s : State) : (flushOpen node tc job s).standing = s.standing := by
  simp only [flushOpen]
  split
  · rfl
  · rw [sendBulk_standing]; rfl

theorem appendRecord_standing (n : Nat) (r : RemoteReq) (s : State) : (appendRecord n r s).standing = s.standing := by
  have hset : ∀ (u : State) a b, (u.setFa { u.fa with openMsgs := a, reqs := b }).standing = u.standing := fun _ _ _ => rfl
  simp only [appendRecord]
  (repeat' split) <;> simp only [flushOpen_standing, hset]

theorem dispatch_standing (n : Nat) (s : State) : (dispatch n s).standing = s.standing := by
  have hlaunch : ∀ n (u : State), (launch n u).standing = u.standing := by
    intro n u
    simp only [launch]
    split
    · rfl
    · split
      case h_1 t h => rw [pushPkt_standing, ensurePath_standing _ _ _ h]
      case h_2 => rfl
  simp only [dispatch]
  split
  · rfl
  · repeat' split
    · exact appendRecord_standing ..
    · exact hlaunch ..

theorem sendReq_standing (node : Nat) (origin : Origin) (tenant issuer : Nat) (p : Pkt) (s : State) :
    (sendReq node origin tenant issuer p s).standing = s.standing := by
  simp only [sendReq, apply_ite State.standing, dispatch_standing]
  exact ite_self _

theorem rebindPaths_standing (s : State) : (rebindPaths s).standing = s.standing := by
  have hresend : ∀ n (u : State), (resendReq n u).standing = u.standing := by
    intro n u
    simp only [resendReq]
    split
    · rfl
    · rw [dispatch_standing]; rfl
  simp only [rebindPaths]
  refine foldl_standing (fun s k => ?_) _ _
  split
  · repeat' split
    · rfl
    · simp only [rebindPath]
      split
      · exact (foldl_standing (fun s r => hresend r s) _ _).trans rfl
      · rfl
  · rfl

theorem dropLink_standing (n : Nat) (e : Bool) (s : State) : (dropLink n e s).standing = s.standing := by
  have hpeers : ∀ u : State, (notePeers u).standing = u.standing := fun _ => rfl
  have hsub : ∀ (p : SubPort) (u : State), (setSub n p u).standing = u.standing := fun _ _ => rfl
  simp only [dropLink, apply_ite State.standing, hpeers, rebindPaths_standing, raise_standing, hsub, ite_self]

/-! Writes to the range. -/

theorem checkLowSpace_standing (s : State) : (checkLowSpace s).standing = s.standing := by
  have hti : ∀ (v : Tiers) (u : State), (u.setTi v).standing = u.standing := fun _ _ => rfl
  simp only [checkLowSpace, apply_ite State.standing, raise_standing, hti, ite_self]

theorem writeOk_standing (a n tenant : Nat) (s : State) : (writeOk a n tenant s).1.standing = s.standing := by
  have hhome : ∀ p q (u : State), (homeAt p q u).standing = u.standing := by
    intro p q u
    have htake : (takePlace q u).standing = u.standing := by
      simp only [takePlace]
      (repeat' split) <;> rfl
    simp only [homeAt]
    split
    · exact htake
    · exact htake
  have hgate : ∀ (x : State × Gate) p, (match x.2 with
      | .ok => writeGate p tenant x.1
      | g => (x.1, g)).1.standing = x.1.standing := by
    intro x p
    split
    · simp only [writeGate]
      split
      · rfl
      split
      · split
        case h_1 t ht =>
          have hu : t.standing = x.1.standing := by
            simp only [allocHome] at ht
            split at ht
            · cases ht
            · cases ht
              rw [checkLowSpace_standing]
              exact hhome ..
          split
          · exact hu
          · exact hu
        case h_2 => rfl
      · repeat' split
        all_goals rfl
    · rfl
  simp only [writeOk]
  repeat' split
  · rfl
  · rfl
  · rfl
  · exact foldl_keeps_of (fun x : State × Gate => x.1.standing) hgate _ _

theorem wrBytes_standing (l : List Byte) (a : Nat) (s : State) : (wrBytes s a l).standing = s.standing := by
  induction l generalizing a s with
  | nil => rfl
  | cons b l ih =>
    rw [wrBytes, ih]
    simp only [wrByte]
    (repeat' split) <;> rfl

theorem landBytes_standing (a : Nat) (l : List Byte) (s : State) : (landBytes a l s).standing = s.standing := by
  have hf : ∀ (u : State), (frostWrite a u).standing = u.standing := by
    have hs : ∀ k (u : State), (startProgram k u).standing = u.standing := by
      intro k u
      simp only [startProgram]
      (repeat' split) <;> rfl
    intro u
    simp only [frostWrite]
    repeat' split
    · rfl
    · rfl
    · exact hs ..
    · rfl
    · rfl
  have hm : ∀ (u : State), (markDirty a u).standing = u.standing := by
    intro u
    simp only [markDirty]
    (repeat' split) <;> rfl
  rw [landBytes, hf, hm, wrBytes_standing]

theorem putWord_standing (a w : Nat) (s : State) : (putWord a w s).standing = s.standing := by
  have hsnoop : ∀ m t (u : State) agent, (snoop m t agent u).standing = u.standing := by
    intro m t u agent
    have hpeer : ∀ node m, (sendPeer node 0 0 0 m u).standing = u.standing := by
      intro node m
      simp only [sendPeer]
      split
      · split
        case h_1 t ht => rw [pushPkt_standing, ensurePath_standing _ _ _ ht]
        case h_2 => rfl
      · rfl
    simp only [snoop, sendMsg, Option.getD_none, apply_ite State.standing, hpeer]
    exact ite_self _
  have hdrop : ∀ line (u : State), (dropLine line u).standing = u.standing := by
    intro line u
    simp only [dropLine]
    split
    · rfl
    · refine foldl_standing (fun u a => ?_) _ _
      split
      · rfl
      · exact hsnoop ..
  have hsample : ∀ a (u : State), (sampleAccess a u).standing = u.standing := by
    intro a u
    simp only [sampleAccess]
    (repeat' split) <;> rfl
  refine foldl_standing (fun u q => ?_) _ _
  obtain ⟨line, off, n, place⟩ := q
  rw [hsample, landBytes_standing]
  (repeat' split) <;> exact hdrop ..

/-! The completions of the items. -/

theorem replyLine_standing (n : Nat) (s : State) : (replyLine n s).standing = s.standing := by
  have hflag : ∀ node tenant window offset word origin res t,
      flagStore node tenant window offset word origin s = some (res, t) → t.standing = s.standing := by
    intro node tenant window offset word origin res t ht
    simp only [flagStore] at ht
    split at ht
    · cases ht; rfl
    · split at ht
      · split at ht
        case h_1 => cases ht; rfl
        case h_2 a ha =>
          split at ht
          · cases ht; rfl
          · have hw := writeOk_standing a 8 tenant s
            split at ht
            case h_1 u hu =>
              cases ht
              rw [putWord_standing, ← hw, hu]
            case h_2 u st hu =>
              cases ht
              rw [← hw, hu]
            case h_3 => cases ht
      · cases ht
        exact sendReq_standing ..
  simp only [replyLine]
  split
  · rfl
  · split
    · split
      · rfl
      · split
        · rfl
        · next res t ht =>
          have h := hflag _ _ _ _ _ _ _ _ ht
          split
          · exact h
          · rw [raise_standing]; exact h
    · rfl

theorem postCpl_standing (p : Nat) (c : Cpl) (s : State) : (postCpl p c s).standing = s.standing := by
  have hport : ∀ v (u : State), (setPort u p v).standing = u.standing := fun _ _ => rfl
  have hcq : ∀ f q r (u : State), (setCq p f q r u).standing = u.standing := by
    intro f q r u
    simp only [setCq]
    (repeat' split) <;> rfl
  have hvec : ∀ f v (u : State), (sendVector p f v u).standing = u.standing := fun f v u =>
    standing_of_outside (sendVector_outside ..) (sendVector_fa ..) (sendVector_co ..) (sendVector_sv ..)
  have hwrite : ∀ f a b (u : State), (hostWrite p f a b u).standing = u.standing := fun f a b u =>
    standing_of_outside (hostWrite_outside ..) (hostWrite_fa ..) (hostWrite_co ..) (hostWrite_sv ..)
  have hsig : ∀ f q (u : State), (cqSignal p f q u).standing = u.standing := by
    intro f q u
    simp only [cqSignal, apply_ite State.standing, hvec, hcq, ite_self]
  simp only [postCpl, writeCpl, apply_ite State.standing, hsig, hcq, hwrite, hport, ite_self]

theorem postItem_standing (n : Nat) (s : State) : (postItem n s).standing = s.standing := by
  simp only [postItem]
  split
  · rfl
  · split
    · repeat' split
      · rfl
      · rfl
      · exact (postCpl_standing ..).trans rfl
    · exact replyLine_standing ..
    · rfl

theorem postAll_standing (s : State) : (postAll s).standing = s.standing :=
  foldl_standing (fun s n => postItem_standing n s) _ _

theorem startPorts_standing (s : State) : (startPorts s).standing = s.standing := by
  refine foldl_standing (fun s n => ?_) _ _
  repeat' split
  · exact dropLink_standing ..
  · rfl

/-! The wipe of the chip. -/

theorem stopPorts_standing (s : State) : (stopPorts s).standing = s.standing :=
  foldl_standing (fun s n => dropLink_standing n false s) _ _

theorem endItems_place (s : State) : (endItems s).place = s.place := by
  have hround : ∀ (u : State) (kv : Nat × Round), (wipeRound kv.2 u).place = u.place := by
    intro u kv
    simp only [wipeRound]
    repeat' split
    · rfl
    · rfl
    · exact (place_of_standing (raise_standing ..)).trans rfl
  have hitem : ∀ (u : State) (kv : Nat × Item), (wipeItem kv.1 kv.2 u).place = u.place := by
    intro u kv
    simp only [wipeItem]
    split <;> rfl
  exact (foldl_keeps State.place _ hitem _ _).trans (foldl_keeps State.place _ hround _ _)

theorem wipeTiers_standing (s : State) : (wipeTiers s).standing = s.standing := by
  have hfree : ∀ p (u : State), (freePlace p u).standing = u.standing := by
    intro p u
    obtain ⟨v, q, hu⟩ := freePlace_ti p u
    rw [hu]; rfl
  have habandon : (abandonAll s).standing = s.standing := by
    refine foldl_standing (fun u r => ?_) _ _
    split
    · repeat' split
      · rfl
      · simp only [abandonMove]
        split
        · rfl
        · repeat' split
          · rw [hfree]; rfl
          · exact (hfree ..).trans rfl
    · rfl
  have hmove : ∀ (u : State) (m : Move) e, (setEntry m.page e (freePlace m.src u)).standing = u.standing :=
    fun u m e => hfree m.src u
  exact (foldl_standing (fun s kv => hfree ..) _ _).trans ((foldl_standing (fun s (kv : Nat × Move) => hmove s kv.2 _) _ _).trans habandon)

theorem dropLedgerOf_standing (l : List Nat) (s : State) : (dropLedgerOf l s).standing = s.standing := by
  have hraise : ∀ a b c (u : State), (raiseLow a b c u).standing = u.standing := fun _ _ _ _ => rfl
  have hdrop : ∀ e (u : State), (dropLedger e u).standing = u.standing := by
    intro e u
    simp only [dropLedger]
    (repeat' split) <;> rfl
  exact (foldl_standing (fun s e => hdrop e s) _ _).trans
    (foldl_standing (fun s e => foldl_standing (fun s x => hraise ..) _ s) _ _)

theorem flushLines_standing (s : State) : (flushLines s).standing = s.standing :=
  foldl_standing (fun s (l : Nat × List Byte) => landBytes_standing (lineAddr l.1) l.2 s) _ _

end Sys2Proof.Machine

/-!
PROOFS. The chip warm reset runs its steps; resets end, fail and escalate.
-/

namespace Sys2Proof.Machine

theorem ensurePath_tr (key : Nat) (s : State) : ∀ t, ensurePath key s = some t → t.tr = s.tr := by
  intro t ht
  simp only [ensurePath] at ht
  split at ht
  · cases ht; rfl
  split at ht
  · cases ht; rfl
  · simp only [Option.map_map, Option.map_eq_some_iff] at ht
    obtain ⟨k, -, rfl⟩ := ht
    rfl

theorem sendMsg_tr (via : Option (Nat × Nat × Nat)) (m : CohMsg) (s : State) : (sendMsg via m s).tr = s.tr := by
  have hpush : ∀ k p r t (u : State), (pushPkt k p r t u).tr = u.tr := by
    intro k p r t u
    simp only [pushPkt]
    split <;> rfl
  have hpeer : ∀ node j w o m, (sendPeer node j w o m s).tr = s.tr := by
    intro node j w o m
    simp only [sendPeer]
    split
    · split
      case h_1 t ht => rw [hpush, ensurePath_tr _ _ _ ht]
      case h_2 => rfl
    · rfl
  simp only [sendMsg]
  repeat' split
  · rfl
  · exact hpeer ..

/-- Lines that go home leave everything outside the mesh and the fabric as it is. -/
theorem evictLine_keeps (t key : Nat) (s : State) :
    ((evictLine t key s).outside, (evictLine t key s).tr) = (s.outside, s.tr) := by
  have hslice : ∀ v (u : State), (setSlice t v u).tr = u.tr := fun v u => by simp only [setSlice]; rfl
  have hwbuf : ∀ v (u : State), (setWbuf t v u).outside = u.outside ∧ (setWbuf t v u).tr = u.tr := fun v u => by
    simp only [setWbuf]
    exact ⟨rfl, rfl⟩
  simp only [evictLine]
  split
  · rfl
  · split <;> simp [sendMsg_tr, hslice, hwbuf]

theorem returnForeign_keeps (s : State) :
    ((returnForeign s).outside, (returnForeign s).tr) = (s.outside, s.tr) :=
  foldl_keeps (fun u : State => (u.outside, u.tr)) _ (fun s kv =>
    foldl_keeps (fun u : State => (u.outside, u.tr)) _ (fun s l => evictLine_keeps kv.1 l.1 s) _ s) _ s

/-- The map of the slivers is built in the cores' state alone. -/
theorem buildMap_keeps (s : State) :
    ((buildMap s).mem, (buildMap s).ti, (buildMap s).tr, (buildMap s).rc) = (s.mem, s.ti, s.tr, s.rc) := by
  simp only [buildMap]
  refine foldl_keeps (fun u : State => (u.mem, u.ti, u.tr, u.rc)) _ (fun u sl => ?_) _ _
  split <;> rfl

theorem raise_rc (c j a b : Nat) (s : State) :
    ∃ l o, (raise c j a b s).rc = { s.rc with log := l, newest := s.rc.newest + 1, overrun := o } := by
  simp only [raise, fireEvent_rc, notifyAll_rc]
  exact ⟨_, _, rfl⟩

/-- An event leaves all of recovery but the log. -/
theorem raise_recov (c j a b : Nat) (s : State) :
    (raise c j a b s).rc.deviceState = s.rc.deviceState ∧ (raise c j a b s).rc.oosRunning = s.rc.oosRunning ∧
      (raise c j a b s).rc.resets = s.rc.resets ∧ (raise c j a b s).rc.counted = s.rc.counted ∧
      (raise c j a b s).rc.queueA = s.rc.queueA ∧ (raise c j a b s).rc.queueB = s.rc.queueB ∧
      (raise c j a b s).rc.history = s.rc.history ∧ (raise c j a b s).rc.islandFailed = s.rc.islandFailed := by
  obtain ⟨l, o, h⟩ := raise_rc c j a b s
  rw [h]
  exact ⟨rfl, rfl, rfl, rfl, rfl, rfl, rfl, rfl⟩

theorem beginRegistration_sv (s : State) : (beginRegistration s).sv = s.sv := by
  simp only [beginRegistration]
  (repeat' split) <;> rfl

theorem dropLedgerOf_keeps (l : List Nat) (s : State) :
    ((dropLedgerOf l s).co, (dropLedgerOf l s).ch, (dropLedgerOf l s).ti) = (s.co, s.ch, s.ti) := by
  have hdrop : ∀ (u : State) e, ((dropLedger e u).co, (dropLedger e u).ch, (dropLedger e u).ti) = (u.co, u.ch, u.ti) := by
    intro u e
    simp only [dropLedger]
    (repeat' split) <;> rfl
  have hraise : ∀ (u : State) (e : LedEnt),
      ((raiseLow e.node e.job e.seq u).co, (raiseLow e.node e.job e.seq u).ch, (raiseLow e.node e.job e.seq u).ti) =
        (u.co, u.ch, u.ti) := fun _ _ => rfl
  have hall : ∀ (u : State) (e : LedEnt), _ := fun u e =>
    foldl_keeps (fun u : State => (u.co, u.ch, u.ti)) _ hraise (u.fa.ledger.filter fun x => x.node = e.node && x.job = e.job) u
  exact (foldl_keeps (fun u : State => (u.co, u.ch, u.ti)) _ hdrop _ _).trans
    (foldl_keeps (fun u : State => (u.co, u.ch, u.ti)) _ hall _ _)

theorem wipeFabric_keeps (s : State) : (wipeFabric s).co = s.co ∧ (wipeFabric s).ch = s.ch ∧ (wipeFabric s).ti = s.ti ∧
    (wipeFabric s).place = s.place := by
  have hk := dropLedgerOf_keeps ((s.fa.ledger.map LedEnt.sliver).eraseDups) s
  simp only [Prod.mk.injEq] at hk
  obtain ⟨hco, hch, hti⟩ := hk
  exact ⟨hco, hch, hti, place_of_standing (dropLedgerOf_standing ((s.fa.ledger.map LedEnt.sliver).eraseDups) s)⟩

/-- What the chip holds is gone after the wipe. -/
theorem wipeChip_clears (s : State) :
    (wipeChip s).co.tabors = [] ∧ (wipeChip s).co.fences = [] ∧ (wipeChip s).ch.txns = [] ∧ (wipeChip s).ch.slices = [] ∧
      (wipeChip s).ch.dir = [] ∧ (wipeChip s).ti.moves = [] ∧ (wipeChip s).tr.misses = [] ∧ (wipeChip s).fa.tx = [] ∧
      (wipeChip s).fa.rx = [] ∧ (wipeChip s).sv.rounds = [] ∧ (wipeChip s).od.locks = [] := by
  have hlate : ∀ u : State, (wipeCarillon (wipeServices (wipeTrans u))).co = u.co ∧
      (wipeCarillon (wipeServices (wipeTrans u))).ch = u.ch ∧ (wipeCarillon (wipeServices (wipeTrans u))).ti = u.ti :=
    fun _ => ⟨rfl, rfl, rfl⟩
  have hti : ∀ u : State, (wipeCores (wipeCoh u)).ti = u.ti := fun _ => rfl
  have hmov : ∀ u : State, (wipeTiers u).ti.moves = [] := fun _ => rfl
  refine ⟨?_, ?_, ?_, ?_, ?_, ?_, rfl, rfl, rfl, rfl, rfl⟩ <;>
    simp only [wipeChip, hlate, wipeFabric_keeps, hti, hmov] <;> rfl

theorem wipeChip_place (s : State) : (wipeChip s).place = s.place := by
  have hlate : ∀ u : State, (wipeCarillon (wipeServices (wipeTrans u))).place = u.place := fun _ => rfl
  have hcores : ∀ u : State, (wipeCores (wipeCoh u)).place = u.place := fun _ => rfl
  rw [wipeChip, hlate, (wipeFabric_keeps _).2.2.2, hcores, place_of_standing (wipeTiers_standing _), endItems_place]

/-- A node that detaches has no composition and no id. -/
theorem detach_place (s : State) : (detach s).place =
    (s.now, s.rc.warmStep, s.rc.faultSeq, 0, 0xFFFF, s.bt.mounted, s.pw) := by
  simp only [detach]
  repeat' split
  · rfl
  · rw [place_of_standing (raise_standing ..)]
    rfl

/-- After the wipe of a detached chip. -/
theorem wipeChip_detach_place (s : State) : (wipeChip (stopPorts (detach s))).place =
    (s.now, s.rc.warmStep, s.rc.faultSeq, 0, 0xFFFF, s.bt.mounted, s.pw) := by
  rw [wipeChip_place, place_of_standing (stopPorts_standing _), detach_place]

/-- Settles O40: the steps of the warm reset by what they write, the ends of resets by their records. -/
theorem chipWarmResetAndEscalation : Obligations.ChipWarmResetAndEscalation := by
  unfold Obligations.ChipWarmResetAndEscalation
  refine ⟨?_, ?_, ?_, ?_, ?_, ?_, ?_, ?_, ?_, ?_, ?_, ?_, ?_, ?_, ?_, ?_⟩
  · intro s x ha hx hrun hwarm
    have hk := returnForeign_keeps (markRun 6 0 s)
    simp only [State.outside, Prod.mk.injEq] at hk
    obtain ⟨⟨hmem, hti, hnow, -, -, -, hfr, -⟩, htr⟩ := hk
    simp only [exec, execChipWarmReset, hx]
    rw [if_neg (by simp [ha, hrun, hwarm])]
    exact ⟨_, rfl, rfl, rfl, hmem, hti, hfr, htr, hnow⟩
  · intro s hp hwarm hmount
    simp only [exec, execWarmResetDrainDone]
    have hflush : (flushLines s).bt.mounted = false :=
      (congrArg (fun q => q.1.2.2.2.2.2.1) (flushLines_standing s)).trans hmount
    rw [if_neg (by simp [hp, hwarm]), if_neg (by simp [hflush])]
    obtain ⟨htab, hfen, htxn, hsl, hdir, hmov, hmiss, htx, hrx, hround, hlock⟩ := wipeChip_clears (stopPorts (detach (flushLines s)))
    have hplace := wipeChip_detach_place (flushLines s)
    simp only [State.place, Prod.mk.injEq] at hplace
    obtain ⟨-, -, -, hcomp, hnode, -⟩ := hplace
    generalize wipeChip (stopPorts (detach (flushLines s))) = u at *
    exact ⟨_, rfl, rfl, htab, hfen, htxn, hsl, hdir, hmiss, hcomp, hnode, htx, hrx, hround, hmov, hlock⟩
  · intro s hp hwarm
    simp [exec, execWarmResetDomainsDone, hp, hwarm]
  · intro s hp hwarm hres hdev
    have hfence : fenceListed s = s := by simp [fenceListed, hres]
    have hk := buildMap_keeps s
    simp only [Prod.mk.injEq] at hk
    obtain ⟨hmem, hti, htr, hrc⟩ := hk
    have hhomes : ∀ u : State, u.rc.deviceState = s.rc.deviceState → checkHomes u = u := by
      intro u hu
      simp [checkHomes, leaveService, hu, hdev]
    simp only [exec, execWarmResetRestoreDone]
    rw [if_neg (by simp [hp, hwarm]), hfence]
    generalize buildMap s = u at *
    rw [hhomes]
    case a => exact (rfl : _ = u.rc.deviceState).trans (congrArg Recov.deviceState hrc)
    exact ⟨_, rfl, rfl, rfl, rfl, congrArg Tiers.homeA hti, rfl, hmem, htr⟩
  · intro s hp hwarm
    have hst := (startPorts_standing (postAll (s.setRc { s.rc with warmStep := 0 }))).trans (postAll_standing _)
    simp only [State.standing, State.place, Prod.mk.injEq] at hst
    obtain ⟨⟨hnow, hstep, -⟩, -⟩ := hst
    rw [State.setRc_now] at hnow
    simp only [exec, execWarmResetDone]
    rw [if_neg (by simp [hp, hwarm])]
    generalize startPorts (postAll (s.setRc { s.rc with warmStep := 0 })) = u at *
    exact ⟨_, rfl, hstep, congrArg (fun n => some (n + 8000000)) hnow, rfl, rfl, hnow⟩
  · intro s hp hoos hwarm hx hsalv
    simp [exec, execOutOfService, hp, hoos, hwarm, hx, hsalv]
  · intro s hp hoos hwarm hx hsalv
    simp only [exec, execOutOfService]
    rw [if_neg (by simp [hp, hoos, hwarm, hx]), if_neg hsalv]
    refine ⟨_, rfl, ?_, ?_, ?_, ?_, ?_⟩ <;> simp [raise_newest, raise_recov, beginRegistration_sv]
  · intro s hwarm
    simp [exec, execWarmResetDrainDone, execWarmResetDomainsDone, execWarmResetRestoreDone, execWarmResetDone, hwarm]
  · intro d i s x r hp hx hover hrec hc1 hc2 hcount hesc
    simp only [exec, execResetDone, hx, hrec]
    rw [if_neg (by simp [hp, hover]), if_neg (by simp [hc1, hc2])]
    simp only [resetOf] at hx
    have hxd := List.find?_some hx
    simp only [Bool.and_eq_true, decide_eq_true_eq] at hxd
    obtain ⟨hdom, hidx⟩ := hxd
    rw [if_neg]
    · refine ⟨_, rfl, ?_, ?_, ?_, ?_, ?_, ?_, ?_⟩
      case refine_3 =>
        simp only [resetOf, removeReset, hdom, hidx, List.find?_eq_none, State.setRc_rc, List.mem_filter]
        rintro y ⟨-, hy⟩
        simpa [Decidable.imp_iff_not_or] using hy
      all_goals simp [removeReset, raise_recov, retire, raise_newest, hcount]
    · refine Nat.not_le.mpr (Nat.lt_of_le_of_lt (List.length_filter_le _ _) ?_)
      simp only [Par.escalateCount, State.setRc_rc, State.setRc_od, removeReset, raise_num, retire, raise_recov, hcount,
        List.nil_append, List.length_singleton]
      exact hesc
  · intro d i s x hp hx hover
    simp [exec, execResetDone, hx, hover]
  · intro d i s hx
    simp [exec, execResetDone, execResetBoundExpiry, hx]
  · intro i s t x hp hx ht
    subst ht
    simp [exec, execResetBoundExpiry, hx, hp, resetBound]
  · intro i s t x hp hx ht
    subst ht
    simp [exec, execResetBoundExpiry, hx, hp, resetBound]
  · intro i s t x hp hx ht
    subst ht
    simp [exec, execResetBoundExpiry, hx, hp, resetBound]
  · intro i s t x hp hx ht
    subst ht
    simp [exec, execResetBoundExpiry, hx, hp, resetBound]
  · intro i s t x hp hx ht
    subst ht
    simp [exec, execResetBoundExpiry, hx, hp, resetBound]

end Sys2Proof.Machine

/-!
PROOFS. Sleep, the loops of Barometer, and the stages of shedding.
-/

namespace Sys2Proof.Machine

theorem noteHold_eq (s : State) : ∃ h, noteHold s = s.setPw { s.pw with holdSince := h } := by
  simp only [noteHold]
  (repeat' split) <;> exact ⟨_, rfl⟩

theorem noteHold_keeps (s : State) : (noteHold s).pw.timedFrom = s.pw.timedFrom ∧ (noteHold s).pw.trigger = s.pw.trigger ∧
    (noteHold s).pw.hbmIdle = s.pw.hbmIdle ∧ (noteHold s).pw.cool = s.pw.cool ∧ (noteHold s).mem = s.mem := by
  obtain ⟨h, hh⟩ := noteHold_eq s
  rw [hh]
  exact ⟨rfl, rfl, rfl, rfl, rfl⟩

theorem noteHold_of_held {s : State} (h : s.pw.warnLow = true ∨ s.pw.sag.isEmpty = false) :
    noteHold s = s.setPw { s.pw with holdSince := none } := by
  rw [noteHold, if_neg]
  rcases h with h | h <;> simp [h]

theorem foldl_setTi {α : Type} {f : State → α → State} (h : ∀ s a, ∃ v, f s a = s.setTi v) (l : List α) (s : State) :
    ∃ v, l.foldl f s = s.setTi v := by
  induction l generalizing s with
  | nil => exact ⟨s.ti, rfl⟩
  | cons a l ih =>
    obtain ⟨v, hv⟩ := h s a
    rw [List.foldl_cons, hv]
    exact ih (s.setTi v)

theorem get?_foldl_set_mem {α : Type} (f : Nat → α) (l : List Nat) (m : FMap α) {k : Nat} :
    FMap.get? (l.foldl (fun (m : FMap α) j => m.set j (f j)) m) k = if k ∈ l then some (f k) else m.get? k := by
  induction l generalizing m with
  | nil => simp
  | cons j l ih =>
    rw [List.foldl_cons, ih]
    by_cases hl : k ∈ l
    · rw [if_pos hl, if_pos (List.mem_cons_of_mem _ hl)]
    · rw [if_neg hl, FMap.get?_set]
      by_cases hj : k = j
      · subst hj; simp
      · simp [hl, hj]

/-- Moves that are given up are a matter of the tiers alone. -/
theorem abandonAll_eq (s : State) : ∃ v, abandonAll s = s.setTi v := by
  refine foldl_setTi (fun u r => ?_) _ s
  split
  case h_1 m hm =>
    repeat' split
    · exact ⟨u.ti, rfl⟩
    · simp only [abandonMove, hm]
      obtain ⟨v, q, hu⟩ := freePlace_ti m.dst (u.setTi { u.ti with moves := u.ti.moves.erase r })
      rw [hu]
      (repeat' split) <;> exact ⟨_, rfl⟩
  case h_2 => exact ⟨u.ti, rfl⟩

/-- A device as its next stage of shedding makes it, before its event. -/
def staged (n : Nat) (s : State) : State :=
  let t := s.setPw { s.pw with stage := n, s3At := if s.pw.stage < 3 && 3 ≤ n then s.now else s.pw.s3At }
  let t := if s.pw.stage = 0 then abandonAll (t.setSv { t.sv with suspended := true }) else t
  if s.pw.stage < 2 && 2 ≤ n then t.setPw { t.pw with freq := t.pw.freq.mapVal fun _ f => min f 2400 } else t

theorem enterStage_eq {n : Nat} {s : State} (h : s.pw.stage < n) :
    enterStage n s = noteHold (raise 0x190 0 n 0 (staged n s)) := by
  rw [enterStage, if_neg (Nat.not_le.mpr h)]
  rfl

theorem staged_spec (n : Nat) (s : State) :
    (staged n s).pw = { s.pw with
      stage := n
      s3At := if s.pw.stage < 3 && 3 ≤ n then s.now else s.pw.s3At
      freq := if s.pw.stage < 2 && 2 ≤ n then s.pw.freq.mapVal fun _ f => min f 2400 else s.pw.freq } ∧
    (staged n s).rc = s.rc ∧ (staged n s).now = s.now ∧ (staged n s).mem = s.mem ∧ (staged n s).co = s.co ∧
    (staged n s).sv = if s.pw.stage = 0 then { s.sv with suspended := true } else s.sv := by
  unfold staged
  dsimp only
  by_cases h0 : s.pw.stage = 0
  · obtain ⟨v, hv⟩ := abandonAll_eq ((s.setPw { s.pw with
      stage := n, s3At := if s.pw.stage < 3 && 3 ≤ n then s.now else s.pw.s3At }).setSv { s.sv with suspended := true })
    rw [if_pos h0, if_pos h0, State.setPw_sv, hv]
    (repeat' split) <;> exact ⟨rfl, rfl, rfl, rfl, rfl, rfl⟩
  · rw [if_neg h0, if_neg h0]
    (repeat' split) <;> exact ⟨rfl, rfl, rfl, rfl, rfl, rfl⟩

/-- A stage that is entered, with its event. -/
theorem enterStage_spec {n : Nat} {s : State} (h : s.pw.stage < n) :
    (∃ since, (enterStage n s).pw = { (staged n s).pw with holdSince := since }) ∧
      (enterStage n s).rc.newest = s.rc.newest + 1 ∧ (enterStage n s).now = s.now ∧ (enterStage n s).mem = s.mem ∧
      (enterStage n s).co = s.co ∧ (enterStage n s).sv = (staged n s).sv := by
  obtain ⟨-, hrc, hnow, hmem, hco, -⟩ := staged_spec n s
  obtain ⟨since, hh⟩ := noteHold_eq (raise 0x190 0 n 0 (staged n s))
  rw [enterStage_eq h, hh]
  refine ⟨⟨since, ?_⟩, ?_, ?_, ?_, ?_, ?_⟩
  · simp
  · simp [raise_newest, hrc]
  · simp [hnow]
  · simp [hmem]
  · simp [hco]
  · simp

/-- A fault leaves the log and the island as they are. -/
theorem fault_log (c d i x : Nat) (t : List Task) (s : State) :
    (fault c d i x t s).rc.newest = s.rc.newest ∧ (fault c d i x t s).rc.islandFailed = s.rc.islandFailed := by
  have hend : ∀ (u : State) (y : Reset) q, ((endRecord y.seq 3 q u).rc.newest, (endRecord y.seq 3 q u).rc.islandFailed) =
      (u.rc.newest, u.rc.islandFailed) := by
    intro u y q
    simp only [endRecord]
    split <;> rfl
  have hsub : ∀ q l (u : State), ((subsume q l u).rc.newest, (subsume q l u).rc.islandFailed) =
      (u.rc.newest, u.rc.islandFailed) := fun q l u =>
    foldl_keeps (fun u : State => (u.rc.newest, u.rc.islandFailed)) _ (fun u y => hend u y q) l u
  simp only [Prod.mk.injEq] at hsub
  unfold fault
  dsimp only
  generalize (if (decide (d = 7) || s.rc.islandFailed) = true then 1 else 0) = handler
  split
  · exact ⟨rfl, rfl⟩
  · split
    · exact ⟨rfl, rfl⟩
    · by_cases hq : 64 ≤ (if handler = 1 then s.rc.queueB else s.rc.queueA).length
      · rw [if_pos hq, orderOverflow]
        dsimp only
        split
        · exact ⟨rfl, rfl⟩
        · exact hsub ..
      · rw [if_neg hq, startReset]
        exact hsub ..

theorem timedStage_of_running {n : Nat} {s : State} (hp : s.powered = true) (ht : s.pw.timedFrom.isSome = true) :
    timedStage n s = enterStage n s := by
  cases h : s.pw.timedFrom <;> simp_all [timedStage]

theorem foldl_only {σ α : Type} {f : σ → α → σ} {k : α} (h : ∀ s a, a ≠ k → f s a = s) {l : List α} (hl : l.Nodup)
    (hk : k ∈ l) (s : σ) : l.foldl f s = f s k := by
  induction l generalizing s with
  | nil => cases hk
  | cons a l ih =>
    obtain ⟨ha, hl⟩ := List.nodup_cons.mp hl
    rw [List.foldl_cons]
    by_cases hak : a = k
    · subst hak
      exact foldl_fixed fun b hb => h _ b (fun hba => ha (hba ▸ hb))
    · rw [h s a hak]
      exact ih hl (List.mem_of_ne_of_mem (Ne.symm hak) hk) s

/-- Without a reading of its kits the temperature loop changes their thermal caps at most. -/
theorem heatKit_nil (l : List Nat) (s : State) :
    ∃ cap, l.foldl (fun s k => heatKit [] k s) s = s.setPw { s.pw with thermalCap := cap } := by
  induction l generalizing s with
  | nil => exact ⟨s.pw.thermalCap, rfl⟩
  | cons k l ih =>
    obtain ⟨cap, hcap⟩ := ih (heatKit [] k s)
    rw [List.foldl_cons, hcap]
    exact ⟨cap, rfl⟩

/-- A hot stack gets one idle slot more, at most twelve. -/
theorem heatStack_hot {k c : Nat} (hc : 120 ≤ c) (hk : k < 8) (s : State) :
    (List.range 8).foldl (fun s j => heatStack [(k, (c : Int))] j s) s =
      s.setPw { s.pw with hbmIdle := s.pw.hbmIdle.set k (min 12 (s.pw.hbmIdle.getD k 0 + 1)) } := by
  rw [foldl_only (k := k) (fun u j hj => ?_) List.nodup_range (List.mem_range.mpr hk)]
  · have hhot : (95 : Int) < c := by omega
    simp [heatStack, readings, hhot]
  · simp [heatStack, readings, Ne.symm hj]

/-- A device whose stages are lifted, before their event. -/
def lifted (since : Nat) (s : State) : State :=
  (s.reach (since + 1000000 * Par.shedHoldMs s)).setPw { s.pw with
    stage := 0, trigger := 0, s4Phase := 0, bootHeld := false
    pwrSafe := s.pw.pwrSafe && s.pw.stage ≠ 4, dramSelfRefresh := s.pw.dramSelfRefresh && s.pw.stage ≠ 4 }

/-- The chip as the return from S4 wipes it. -/
def liftedChip (since : Nat) (s : State) : State := wipeChip (stopPorts (detach (raise 0x190 0 0 0 (lifted since s))))

theorem liftedChip_spec {since : Nat} {s : State} (h : s.pw.stage = 4) :
    (liftedChip since s).pw.stage = 0 ∧ (liftedChip since s).pw.pwrSafe = false ∧
      (liftedChip since s).pw.dramSelfRefresh = false ∧ (liftedChip since s).rc.faultSeq = s.rc.faultSeq := by
  have hplace := wipeChip_detach_place (raise 0x190 0 0 0 (lifted since s))
  have hr := place_of_standing (raise_standing 0x190 0 0 0 (lifted since s))
  simp only [State.place, Prod.mk.injEq] at hr hplace
  obtain ⟨-, -, hseq, -, -, -, hpw⟩ := hplace
  obtain ⟨-, -, hseq', -, -, -, hpw'⟩ := hr
  rw [liftedChip, hpw, hpw', hseq, hseq']
  simp [lifted, h]

/-- Settles O41: each row by the stage that the device is in and what holds it there. -/
theorem powerAndShedding : Obligations.PowerAndShedding := by
  unfold Obligations.PowerAndShedding
  refine ⟨?_, ?_, ?_, ?_, ?_, ?_, ?_, ?_, ?_, ?_, ?_, ?_, ?_, ?_, ?_, ?_, ?_, ?_, ?_, ?_, ?_, ?_, ?_⟩
  · intro s d hp hstage hfail hwarm hok hidle
    simp [exec, execDomainSleep, hp, hstage, hfail, hwarm, hok, hidle]
  · intro s d hp hd
    simp [exec, execDomainWake, hp, hd]
  · intro s kit mv hb hk hdead
    have hset : 520 ≤ setpointOf mv ∧ setpointOf mv ≤ 820 ∧ setpointOf mv % 5 = 0 := by
      simp only [setpointOf]
      omega
    refine ⟨_, by simp [exec, execAvsLoopPeriod, hb, hk, hdead]; exact rfl, by rfl, by simp, by rfl, hset.1, hset.2.1, hset.2.2, ?_⟩
    exact Nat.le_max_left ..
  · intro s kit hb hk
    simp [exec, execDroopDetected, hb, Nat.not_le.mpr hk]
  · intro s hb
    refine ⟨_, by simp [exec, execFreqLoopPeriod, hb]; exact rfl, by rfl, fun k hk => ?_⟩
    exact (get?_foldl_set_mem _ _ _).trans (if_pos hk)
  · intro s mw hb hmw hidle
    have hbusy : (liveKits s).filter (kitBusy s) = [] := by simpa using hidle
    simp [exec, execPkgPowerLoopPeriod, hb, hmw, hbusy]
  · intro s mw hb hle hge
    simp [exec, execPkgPowerLoopPeriod, hb, Nat.not_lt.mpr hle, Nat.not_lt.mpr hge]
  · intro s hp htimed hstage
    have hstart : startTimed 2 (s.setPw { s.pw with warnLow := true }) = s.setPw { s.pw with
        warnLow := true, timedFrom := some s.now, trigger := 2, bootHeld := s.bt.stage ≠ 4 } := by
      simp [startTimed, htimed, Nat.not_le.mpr hstage]
    simp only [exec, execPwrWarnNAssert, hp, hstart]
    rw [noteHold_of_held (.inl rfl)]
    exact ⟨_, rfl, rfl, rfl, rfl, rfl, rfl⟩
  · intro s hp
    obtain ⟨h, hh⟩ := noteHold_eq (s.setPw { s.pw with warnLow := false })
    refine ⟨_, by simp [exec, execPwrWarnNDeassert, hp]; exact rfl, ?_⟩
    rw [hh]
    exact ⟨rfl, rfl, rfl, rfl⟩
  · intro s kit mv hb hk hsag
    have hsome : (s.pw.sag.set kit mv).isEmpty = false := by
      have h : (s.pw.sag.set kit mv).get? kit = some mv := FMap.get?_set_self ..
      cases hm : s.pw.sag.set kit mv with
      | nil => rw [hm] at h; cases h
      | cons => rfl
    simp only [exec, execVddCoreSag]
    rw [if_neg (by simp [hb, Nat.not_le.mpr hk, Nat.not_lt.mpr hsag])]
    have hnow : ∀ v : Power, sagNow (s.setPw { v with sag := s.pw.sag.set kit mv }) =
      sagNow (s.setPw { s.pw with sag := s.pw.sag.set kit mv }) := fun _ => rfl
    split
    · rw [noteHold_of_held (.inr hsome)]
      exact ⟨_, rfl, rfl, FMap.get?_set_self .., rfl, fun _ => rfl, rfl⟩
    next hmore =>
      rw [noteHold_of_held (.inr hsome)]
      exact ⟨_, rfl, rfl, FMap.get?_set_self .., rfl, fun h => absurd h hmore, rfl⟩
  · intro s since hp hclk hsince hstage
    simp only [exec, execSagPersistExpiry, hsince]
    rw [if_neg (by simp [hp])]
    have hnow := reach_now hclk (since + 2000)
    have hpw := reach_pw (since + 2000) s
    have hrc := reach_rc (since + 2000) s
    have hmem := reach_mem (since + 2000) s
    have hsag : sagNow (s.reach (since + 2000)) = sagNow s := by
      rw [reach_eq_setNow]
      rfl
    generalize s.reach (since + 2000) = u at *
    rw [← hsag, ← hpw] at hstage
    obtain ⟨⟨held, hs⟩, hnew, hn, hm, -, -⟩ := enterStage_spec (n := sagNow u) (s := u.setPw { u.pw with
      sagSince := none, trigger := if u.pw.stage = 0 && u.pw.timedFrom.isNone then 1 else u.pw.trigger }) hstage
    rw [(staged_spec _ _).1] at hs
    refine ⟨_, rfl, ?_, ?_, ?_, ?_, ?_⟩
    · exact (congrArg Power.stage hs).trans hsag
    · refine Nat.le_trans ?_ (Nat.le_of_eq hn.symm)
      rw [State.setPw_now, hnow]
      exact Nat.le_max_right ..
    · exact congrArg Power.sagSince hs
    · refine Nat.lt_of_lt_of_eq ?_ hnew.symm
      rw [State.setPw_rc, hrc]
      exact Nat.lt_succ_self _
    · exact hm.trans hmem
  · intro s hp
    obtain ⟨h, hh⟩ := noteHold_eq (s.setPw { s.pw with sag := [], sagSince := none })
    refine ⟨_, by simp [exec, execVddCoreSagClear, hp]; exact rfl, ?_⟩
    rw [hh]
    exact ⟨rfl, rfl, rfl⟩
  · intro s hp htimed hstage
    obtain ⟨⟨since, hpw⟩, hnew, -, hmem, -, hsv⟩ := enterStage_spec (n := 1) (s := s) (by omega)
    obtain ⟨hspw, -, -, -, -, hssv⟩ := staged_spec 1 s
    rw [hspw] at hpw
    rw [hssv, if_pos hstage] at hsv
    refine ⟨_, congrArg Host.Outcome.next (timedStage_of_running hp htimed), ?_, ?_, ?_, hmem, ?_⟩
    · rw [hpw]
    · rw [hsv]
    · omega
    · rw [hpw]
  · intro s k f hp htimed hstage hf
    obtain ⟨⟨since, hpw⟩, hnew, -, hmem, -, -⟩ := enterStage_spec (n := 2) (s := s) (by omega)
    rw [(staged_spec 2 s).1] at hpw
    refine ⟨_, congrArg Host.Outcome.next (timedStage_of_running hp htimed), ?_, ?_, ?_, hmem, ?_⟩
    · rw [hpw]
    · rw [hpw]
      simp [hstage, hf]
    · omega
    · rw [hpw]
  · intro s hp htimed hstage
    obtain ⟨⟨since, hpw⟩, hnew, -, hmem, -, -⟩ := enterStage_spec (n := 3) (s := s) (by omega)
    rw [(staged_spec 3 s).1] at hpw
    refine ⟨_, congrArg Host.Outcome.next (timedStage_of_running hp htimed), ?_, ?_, ?_, hmem, ?_⟩
    · rw [hpw]
    · rw [hpw]
      simp [hstage]
    · omega
    · rw [hpw]
  · intro s k c hb htimed hstage hc hk
    have hhot : (120 : Int) ≤ c := by omega
    have hcool : ¬ (c : Int) < 95 := by omega
    obtain ⟨cap, hcap⟩ := heatKit_nil (liveKits s) s
    simp only [exec, execTempLoopPeriod, hb, hcap, heatStack_hot hc hk]
    simp [hhot, hcool, startTimed, htimed, Nat.not_le.mpr hstage, noteHold_keeps]
  · intro s hp htimed hstage
    simp [exec, execShedS1Enter, timedStage, hp, enterStage, Nat.succ_le_iff.mpr hstage]
  · intro s hp hstage
    simp only [exec, execShedS4Enter]
    rw [if_neg (by simp [hp, hstage])]
    generalize hu : (if s.pw.timedFrom.isSome && s.ho.items.isEmpty then s
      else s.reach (s.pw.s3At + 1000 * Par.s3DrainUs s)) = u
    have hpw : u.pw = s.pw := by
      rw [← hu]
      repeat' split
      · rfl
      · exact reach_pw ..
    have hplace := (place_of_standing (postAll_standing (endItems u))).trans (endItems_place u)
    simp only [State.place, Prod.mk.injEq] at hplace
    obtain ⟨-, -, -, -, -, -, hpost⟩ := hplace
    have hst := postAll_standing (endItems u)
    simp only [State.standing, Prod.mk.injEq] at hst
    obtain ⟨-, hco, hsv⟩ := hst
    have hno : (endItems u).co.tabors = [] ∧ (endItems u).sv.rounds = [] := ⟨rfl, rfl⟩
    rw [← hco, ← hsv] at hno
    rw [hpw] at hpost
    generalize postAll (endItems u) = v at *
    obtain ⟨⟨held, hs⟩, -, -, -, hvco, hvsv⟩ := enterStage_spec (n := 4) (s := v) (by rw [hpost, hstage]; decide)
    rw [(staged_spec 4 v).1] at hs
    rw [(staged_spec 4 v).2.2.2.2.2, if_neg (by rw [hpost, hstage]; decide)] at hvsv
    exact ⟨_, rfl, congrArg Power.stage hs, rfl, (congrArg Cores.tabors hvco).trans hno.1, (congrArg Svc.rounds hvsv).trans hno.2⟩
  · intro s hp hphase
    simp only [exec, execS4FlushDone]
    rw [if_neg (by simp [hp, hphase])]
    have hflush : (flushS4 s).standing = s.standing := by
      refine foldl_standing (fun u l => ?_) _ _
      dsimp only
      repeat' split
      · exact (wrBytes_standing l.2 (lineAddr l.1) u)
      · exact landBytes_standing ..
    simp only [State.standing, State.place, Prod.mk.injEq] at hflush
    obtain ⟨⟨-, -, -, -, -, -, hpw⟩, -⟩ := hflush
    exact ⟨_, rfl, rfl, (rfl : _ = (flushS4 s).pw.stage).trans (congrArg Power.stage hpw)⟩
  · intro s hp hphase
    simp only [exec, execPwrSafeAssert]
    rw [if_neg (by simp [hp, hphase])]
    exact ⟨_, rfl, rfl, rfl, rfl, rfl⟩
  · intro s since hp hclk hpos hlt htimed hphase hsince
    simp only [exec, execShedLift]
    rw [if_neg (by simp [hp, htimed, hphase]; omega)]
    simp only [hsince]
    rw [if_neg (by simp; omega)]
    refine ⟨_, rfl, ?_, ?_, ?_, ?_, ?_, ?_⟩
    · simp [resumeDrums]
    · simp [resumeDrums]
    · simp [resumeDrums, reach_now hclk, Nat.le_max_right]
    · simp [resumeDrums, raise_recov]
    · simp [resumeDrums, raise_newest]
    · simp [resumeDrums]
  · intro s since hp hstage hphase hboot htimed hsince
    have hchip : execShedLift s = .next ((liftedChip since s).setRc { (liftedChip since s).rc with warmStep := 3 }) := by
      simp only [execShedLift]
      rw [if_neg (by simp [hp, htimed, hphase, hstage])]
      simp only [hsince, reach_pw, liftedChip, lifted]
      rw [if_pos (by simp [hstage, hboot])]
    obtain ⟨hst, hsafe, hdram, hseq⟩ := liftedChip_spec (since := since) hstage
    generalize liftedChip since s = u at *
    exact ⟨_, hchip, hst, hsafe, hdram, rfl, hseq⟩
  · intro s hp hclk hfail hdev
    simp only [exec, execRefclk25mInterruption]
    rw [if_neg (by simp [hp, hclk])]
    have hisle : failIsland (s.setPw { s.pw with refclk := false }) =
        fault 0x0D 6 0 0 [] (raise 0x1F2 0 0 0 ((s.setPw { s.pw with refclk := false }).setRc
          { s.rc with islandFailed := true, tocsinA := 2 })) := if_neg (by simp [hfail])
    rw [hisle]
    refine ⟨_, rfl, ?_, ?_, ?_, ?_, ?_⟩
    · simp
    · simp [fault_log, raise_recov]
    · simp [fault_log, raise_newest]
    · simp
    · simp

end Sys2Proof.Machine

/-!
PROOFS. Requests of the object dictionary are performed once and answered; segments and mailboxes carry them.
-/

namespace Sys2Proof.Machine

theorem takeMsg_of_arrives {who : Session} {m : OdpMsg} {s s2 : State} (h : arrives who m s = some s2) :
    ∃ s1, takeMsg who m s = some s1 ∧ s2 = touchLocks who s1 ∧ keptFor s2 who m = none ∧ sessionFull s2 who = false ∧
      headerBad who m = none := by
  simp only [arrives] at h
  split at h
  · cases h
  case h_2 s1 hs1 =>
    split at h
    case isFalse => cases h
    case isTrue hgo =>
      cases h
      simp only [Bool.and_eq_true, Option.isNone_iff_eq_none, Bool.not_eq_true'] at hgo
      obtain ⟨⟨hkept, hfull⟩, hhead⟩ := hgo
      exact ⟨s1, hs1, rfl, hkept, hfull, hhead⟩

/-- A request that arrives is performed and answered. -/
theorem answerMsg_of_arrives {who : Session} {m : OdpMsg} {s s2 : State} (perform : State → Answer × State)
    (after : State → State) (h : arrives who m s = some s2) :
    answerMsg who m perform after s = if (perform s2).1.status = 0 then after (respond who m (perform s2).1 (perform s2).2)
      else respond who m (perform s2).1 (perform s2).2 := by
  obtain ⟨s1, hs1, rfl, hkept, hfull, hhead⟩ := takeMsg_of_arrives h
  simp only [answerMsg, hs1, hkept, hfull, hhead]
  rfl

/-- A message without a response of its own is taken when its header is sound. -/
theorem takeQuiet_of_sound {who : Session} {m : OdpMsg} {s s1 : State} (k : State → State) (ht : takeMsg who m s = some s1)
    (hh : headerBad who m = none) : takeQuiet who m k s = k (touchLocks who s1) := by
  simp only [takeQuiet, ht, hh]

/-- Settles O42: each request by its answer, each segment by its transfer, each register of the mailbox by its write. -/
theorem odpRequestsTransfersAndMailbox : Obligations.OdpRequestsTransfersAndMailbox := by
  unfold Obligations.OdpRequestsTransfersAndMailbox
  refine ⟨?_, ?_, ?_, ?_, ?_, ?_, ?_, ?_, ?_, ?_, ?_, ?_, ?_, ?_, ?_, ?_, ?_, ?_, ?_, ?_, ?_, ?_, ?_⟩
  · intro s s2 who m r b h hop hval hlen
    simp [exec, execOdpRead, answerMsg_of_arrives _ _ h, hop, hval, Nat.not_lt.mpr hlen]
  · intro s s2 who m r b h hop hval hlen
    simp [exec, execOdpRead, answerMsg_of_arrives _ _ h, hop, hval, hlen]
  · intro s s2 who m r h hop hrow
    simp [exec, execDescribe, answerMsg_of_arrives _ _ h, hop, hrow]
  · intro s s2 who m r b h hop hval htyp hfull
    simp [exec, execSegReadInit, answerMsg_of_arrives _ _ h, hop, hval, htyp, hfull]
  · intro s s2 who m h hop hok
    simp [exec, execSegWriteInit, answerMsg_of_arrives _ _ h, hop, hok]
  · intro s s2 who m a h hop ha htaken
    simp [exec, execLock, answerMsg_of_arrives _ _ h, hop, ha, htaken]
  · intro s s2 who m a h hop ha htaken
    simp [exec, execLock, answerMsg_of_arrives _ _ h, hop, ha, htaken]
  · intro s s2 who m a l h hop ha hl hwho
    simp [exec, execUnlock, answerMsg_of_arrives _ _ h, hop, ha, hl, hwho]
  · intro s s1 who m resp ht hop hkept
    simp [exec, execOdpRead, answerMsg, ht, hop, hkept]
  · intro s s1 who m x ht hop hh hx hsend hnext hroom hlen hmore hlast
    simp only [exec, execSegData, hop, takeQuiet_of_sound _ ht hh, takeSegment, hx, hsend, hnext]
    have hrest : x.total - x.buf.length ≠ 0 := by omega
    have hlen' : decide (m.data.length ≠ min (odpLimit who) (x.total - x.buf.length)) = false := by simp [hlen]
    simp [hlen', hrest, hmore, hlast]
  · intro s s1 who m x ht hop hh hx hsend hlo hhi
    simp [exec, execSegAck, hop, takeQuiet_of_sound _ ht hh, takeSegAck, hx, hsend, Nat.not_lt.mpr hlo, Nat.not_lt.mpr hhi]
  · intro s s2 who m x h hop hnamed hx hsend hlen hcrc
    have hend : endSegment who m s2 = statusOnly (writeBy who x.req x.buf (dropSeg who m.tid s2)) := by
      simp [endSegment, hx, hsend, hlen, hcrc]
    simp [exec, execSegEnd, hop, hnamed, odWrite, answerMsg_of_arrives _ _ h, hend, statusOnly]
  · intro s s1 who m ht hop hh
    simp [exec, execAbort, hop, ht, hh]
  · intro s who tid x hup hx
    simp [exec, execSegTimeout, hx, hup]
  · intro s a l hp hclk hl
    simp only [exec, execLockMaxExpiry, hl]
    rw [if_neg (by simp [hp])]
    refine ⟨_, rfl, ?_, ?_⟩
    · rw [reach_od, reach_eq_setNow]; rfl
    · rw [State.setOd_now, reach_now hclk]
      exact Nat.le_max_right ..
  · intro s who tid k hp hclk hk
    simp only [exec, execTidRetentionExpiry, hk]
    rw [if_neg (by simp [hp])]
    refine ⟨_, rfl, ?_, fun x hx => ?_⟩
    · rw [State.setOd_now, reach_now hclk]
      exact Nat.le_max_right ..
    · simpa [Decidable.imp_iff_not_or] using (List.mem_filter.mp hx).2
  · intro s hp hstage hpend
    simp only [exec, execConfigStoreDone]
    rw [if_neg (by simpa [hp, hstage, Option.isSome_iff_ne_none] using hpend)]
    cases hnew : newestCfg s with
    | none => exact ⟨_, 0, rfl, by simp [saveCfg, hnew], by simp [saveCfg, hnew], by simp [saveCfg, hnew]⟩
    | some c => exact ⟨_, _, rfl, by simp [saveCfg, hnew], by simp [saveCfg, hnew], by
      simp only [saveCfg, hnew]
      exact FMap.get?_set_self ..⟩
  · intro s p len hup hst
    simp [exec, execMbDoorbell, hup, hst]
  · intro s p len hup hst
    simp [exec, execMbDoorbell, hup, hst]
  · intro s p hup hst
    simp [exec, execMbRelease, hup, hst]
  · intro s p hup
    simp [exec, execMbOverrunClear, hup]
  · intro s p hup
    simp [exec, execMbNotifyLostClear, hup]
  · intro s p head hup
    simp [exec, execMbNotifyHead, hup]

end Sys2Proof.Machine

/-!
PROOFS. What a request to the dictionary leaves of the device beside its own effect: everything but what was sent, the host's
side, the mailbox, the locks, the kept responses, the queue of firings and the frames of management.
-/

namespace Sys2Proof.Machine

/-- A device without what its sessions and its scripts' queue hold. -/
def State.bare (s : State) : State :=
  (((s.setOut []).setHo {}).setOd
    { s.od with kept := [], mailbox := [], locks := [], firings := [], triggerLost := false }).setFa { s.fa with mgmt := [] }

theorem foldl_bare {α : Type} {f : State → α → State} (h : ∀ s a, (f s a).bare = s.bare) (l : List α) (s : State) :
    (l.foldl f s).bare = s.bare := foldl_keeps _ f h l s

theorem setMb_bare (p : Nat) (b : Mailbox) (s : State) : (setMb s p b).bare = s.bare := rfl

theorem sendVector_bare (p f v : Nat) (s : State) : (sendVector p f v s).bare = s.bare := by
  simp only [sendVector]
  (repeat' split) <;> rfl

theorem pumpMb_bare (p : Nat) (s : State) : (pumpMb p s).bare = s.bare := by
  simp only [pumpMb]
  split
  · repeat' split
    · rw [sendVector_bare, setMb_bare]
    · rfl
  · rfl

theorem sendTo_bare (who : Session) (m : OdpMsg) (s : State) : (sendTo who m s).bare = s.bare := by
  cases who with
  | can =>
    simp only [sendTo]
    (repeat' split) <;> rfl
  | mailbox p => rw [sendTo, pumpMb_bare, setMb_bare]
  | vlan a =>
    simp only [sendTo, sendVlan]
    split <;> rfl
  | script => rfl

theorem respond_bare (who : Session) (m : OdpMsg) (a : Answer) (s : State) : (respond who m a s).bare = s.bare := by
  simp only [respond, sendTo_bare]
  rfl

theorem fireWrite_bare (oref : Nat) (b : List Byte) (s : State) : (fireWrite oref b s).bare = s.bare := by
  refine foldl_bare (fun u n => ?_) _ _
  simp only [enqueueFiring]
  (repeat' split) <;> rfl

/-- A message that arrives changes the mailbox and the locks' times alone. -/
theorem bare_of_arrives {who : Session} {m : OdpMsg} {s s2 : State} (h : arrives who m s = some s2) :
    s2.bare = s.bare ∧ s2.od.firings = s.od.firings := by
  obtain ⟨s1, hs1, rfl, -⟩ := takeMsg_of_arrives h
  have htake : s1.bare = s.bare ∧ s1.od.firings = s.od.firings := by
    unfold takeMsg at hs1
    split at hs1
    · cases hs1
    cases who with
    | can =>
      dsimp only at hs1
      split at hs1
      · cases hs1
      · cases hs1
        exact ⟨rfl, rfl⟩
    | mailbox p =>
      dsimp only at hs1
      split at hs1
      case isFalse => cases hs1
      cases hs1
      refine ⟨by rw [pumpMb_bare, setMb_bare], ?_⟩
      simp only [pumpMb]
      split
      · repeat' split
        · simp only [sendVector]
          (repeat' split) <;> rfl
        · rfl
      · rfl
    | vlan a =>
      dsimp only at hs1
      split at hs1
      · cases hs1
        exact ⟨rfl, rfl⟩
      · cases hs1
    | script => cases hs1
  exact ⟨htake.1, htake.2⟩

/-! Writes of objects. -/

/-- What a write of an object comes to: its effect and, where it is accepted, the firings of its scripts. -/
def written (m : OdpMsg) (x : Nat × State) : State :=
  if x.1 = 0 then fireWrite (m.sub + 256 * m.index) m.data x.2 else x.2

theorem written_bare (m : OdpMsg) (x : Nat × State) : (written m x).bare = x.2.bare := by
  simp only [written]
  repeat' split
  · exact fireWrite_bare ..
  · rfl

theorem sub_lt : ∀ r ∈ odTable, r.sub < 256 := by decide +kernel

/-- A write that is ready is performed by its object's rule, on the device as the message's arrival left it. -/
theorem odWrite_of_ready {key : Nat} {who : Session} {m : OdpMsg} {s : State} (h : writeReady key who m s = true) :
    ∃ r s2, r ∈ odTable ∧ r.index = key / 256 ∧ r.sub = key % 256 ∧ r.index ≤ m.index ∧ m.index < r.index + r.count ∧
      s2.bare = s.bare ∧ s2.od.firings = s.od.firings ∧ writeKey s who m = some key ∧ m.op = 2 ∧
      odWrite who m s = respond who m { status := (applyWrite r m.index m.tenant m.data s2).1 }
        (written m (applyWrite r m.index m.tenant m.data s2)) := by
  simp only [writeReady] at h
  split at h
  · cases h
  case h_2 s2 hs2 =>
  obtain ⟨hbare, hfir⟩ := bare_of_arrives hs2
  simp only [Bool.and_eq_true, decide_eq_true_eq] at h
  obtain ⟨⟨hop, hkey⟩, h⟩ := h
  split at h
  · cases h
  case h_2 r hr =>
  have hrow : odRow m.index m.sub = some r := by
    simp only [odLook] at hr
    split at hr
    · cases hr
    split at hr
    · cases hr
    split at hr
    · cases hr
    split at hr
    · cases hr
    split at hr
    · cases hr
      assumption
    · cases hr
  have hmem := List.mem_of_find?_eq_some hrow
  have hfound := List.find?_some hrow
  simp only [Bool.and_eq_true, decide_eq_true_eq, beq_iff_eq] at hfound h
  obtain ⟨⟨hlo, hhi⟩, hsub⟩ := hfound
  obtain ⟨⟨⟨⟨⟨hacc, hlen⟩, hrange⟩, hmode⟩, hnow⟩, hlock⟩ := h
  have hk : r.index * 256 + r.sub = key := by
    simpa [writeKey, hop, hrow] using hkey
  have hlt := sub_lt r hmem
  refine ⟨r, s2, hmem, by omega, by omega, hlo, hhi, hbare, hfir, hkey, hop, ?_⟩
  have hod : writeOd who r m.index m.tenant m.data s2 = applyWrite r m.index m.tenant m.data s2 := by
    simp only [writeOd]
    rw [if_neg hacc, if_neg (by simp [hlen]), if_neg, if_neg, if_neg (by simpa using hlock)]
    · intro hbad
      simp only [hnow, Bool.not_true, Bool.or_false, Bool.and_eq_true, decide_eq_true_eq, Bool.not_eq_true'] at hbad
      obtain ⟨h2, hno⟩ := hbad
      simp [h2, hno] at hmode
    · intro hbad
      simp only [Bool.and_eq_true, Bool.or_eq_true, Bool.not_eq_true', Bool.or_eq_false_iff, decide_eq_false_iff_not,
        decide_eq_true_eq] at hbad hrange
      omega
  have hby : writeBy who m m.data s2 = ((applyWrite r m.index m.tenant m.data s2).1,
      written m (applyWrite r m.index m.tenant m.data s2)) := by
    simp only [writeBy, hr, hod, written]
    split
    case h_1 t ht => simp [ht]
    case h_2 x hx =>
      rw [if_neg fun h0 => hx _ (Prod.ext h0 rfl)]
  have hne : ¬ m.op = 8 := by omega
  simp only [odWrite, answerMsg_of_arrives _ _ hs2, if_neg hne, statusOnly, hby, id, ite_self]

/-- The same for a row of the table of instructions: the object's rule says what the write changes. -/
theorem rowWrite_of_rule {key : Nat} {who : Session} {m : OdpMsg} {s : State} (rule : OdRow → State → Nat × State)
    (h : writeReady key who m s = true)
    (hrule : ∀ (r : OdRow) (u : State), r.index = key / 256 → r.sub = key % 256 →
      applyWrite r m.index m.tenant m.data u = rule r u) :
    ∃ r s2 t, r ∈ odTable ∧ r.index = key / 256 ∧ r.sub = key % 256 ∧ r.index ≤ m.index ∧ s2.bare = s.bare ∧
      s2.od.firings = s.od.firings ∧ rowWrite key who m s = .next t ∧ t.bare = (rule r s2).2.bare ∧
      t = respond who m { status := (rule r s2).1 } (written m (rule r s2)) := by
  obtain ⟨r, s2, hmem, hidx, hsub, hlo, -, hb, hf, hkey, -, hrun⟩ := odWrite_of_ready h
  rw [hrule r s2 hidx hsub] at hrun
  refine ⟨r, s2, _, hmem, hidx, hsub, hlo, hb, hf, ?_, ?_, rfl⟩
  · rw [rowWrite, if_pos hkey, hrun]
  · rw [respond_bare, written_bare]

/-! What two devices share that differ beside a request's effect. -/

section
variable {s t : State} (h : t.bare = s.bare)
include h

theorem now_of_bare : t.now = s.now := (congrArg (fun u : State => u.now) h : t.bare.now = s.bare.now)
theorem mem_of_bare : t.mem = s.mem := (congrArg (fun u : State => u.mem) h : t.bare.mem = s.bare.mem)
theorem bt_of_bare : t.bt = s.bt := (congrArg (fun u : State => u.bt) h : t.bare.bt = s.bare.bt)
theorem rc_of_bare : t.rc = s.rc := (congrArg (fun u : State => u.rc) h : t.bare.rc = s.bare.rc)
theorem ti_of_bare : t.ti = s.ti := (congrArg (fun u : State => u.ti) h : t.bare.ti = s.bare.ti)
theorem fr_of_bare : t.fr = s.fr := (congrArg (fun u : State => u.fr) h : t.bare.fr = s.bare.fr)
theorem co_of_bare : t.co = s.co := (congrArg (fun u : State => u.co) h : t.bare.co = s.bare.co)
theorem tr_of_bare : t.tr = s.tr := (congrArg (fun u : State => u.tr) h : t.bare.tr = s.bare.tr)
theorem board_of_bare : t.board = s.board := (congrArg (fun u : State => u.board) h : t.bare.board = s.bare.board)
theorem num_of_bare : t.od.num = s.od.num := congrArg (fun u => u.od.num) h
theorem oct_of_bare : t.od.oct = s.od.oct := congrArg (fun u => u.od.oct) h
theorem lastVerify_of_bare : t.od.lastVerify = s.od.lastVerify := congrArg (fun u => u.od.lastVerify) h
theorem tenantShapers_of_bare : t.od.tenantShapers = s.od.tenantShapers := congrArg (fun u => u.od.tenantShapers) h
theorem classShapers_of_bare : t.od.classShapers = s.od.classShapers := congrArg (fun u => u.od.classShapers) h
theorem composition_of_bare : t.fa.composition = s.fa.composition := congrArg (fun u => u.fa.composition) h
theorem staged_of_bare : (t.fa.compStage, t.fa.nrtStage, t.fa.composition, t.fa.generation) =
    (s.fa.compStage, s.fa.nrtStage, s.fa.composition, s.fa.generation) :=
  congrArg (fun u => (u.fa.compStage, u.fa.nrtStage, u.fa.composition, u.fa.generation)) h
theorem subs_of_bare : t.fa.subs = s.fa.subs := congrArg (fun u => u.fa.subs) h
theorem mgmtStandby_of_bare : mgmtStandby t = mgmtStandby s :=
  (congrArg mgmtStandby h : mgmtStandby t.bare = mgmtStandby s.bare)

end

end Sys2Proof.Machine

/-!
PROOFS. What the traffic of the mesh, of requests and of a forming domain leaves: the dictionary's numbers and what a commit
of the composition fixes. One frame lemma for each function, callees first.
-/

namespace Sys2Proof.Machine

/-- The dictionary's numbers, the staged routes, and what a commit of the composition fixes. -/
def State.charter (s : State) : FMap Nat × List Byte × Nat × Nat × Nat × FMap NrtEnt × FMap Nat :=
  (s.od.num, s.fa.nrtStage, s.fa.composition, s.fa.generation, s.fa.nodeId, s.fa.nrt, s.fa.prevJobs)

@[simp] theorem State.setCo_charter (s : State) (v : Cores) : (s.setCo v).charter = s.charter := rfl
@[simp] theorem State.setTr_charter (s : State) (v : Trans) : (s.setTr v).charter = s.charter := rfl
@[simp] theorem State.setHo_charter (s : State) (v : HostSide) : (s.setHo v).charter = s.charter := rfl
@[simp] theorem State.setCh_charter (s : State) (v : Coh) : (s.setCh v).charter = s.charter := rfl
@[simp] theorem State.setSv_charter (s : State) (v : Svc) : (s.setSv v).charter = s.charter := rfl
@[simp] theorem State.setTi_charter (s : State) (v : Tiers) : (s.setTi v).charter = s.charter := rfl
@[simp] theorem State.setFr_charter (s : State) (v : Frost) : (s.setFr v).charter = s.charter := rfl
@[simp] theorem State.setRc_charter (s : State) (v : Recov) : (s.setRc v).charter = s.charter := rfl
@[simp] theorem State.setBt_charter (s : State) (v : Boot) : (s.setBt v).charter = s.charter := rfl
@[simp] theorem State.setPw_charter (s : State) (v : Power) : (s.setPw v).charter = s.charter := rfl
@[simp] theorem State.setMem_charter (s : State) (v : List Host.Cell) : (s.setMem v).charter = s.charter := rfl
@[simp] theorem State.setOut_charter (s : State) (v : List Output) : (s.setOut v).charter = s.charter := rfl
@[simp] theorem State.setFreeCtr_charter (s : State) (v : Nat) : (s.setFreeCtr v).charter = s.charter := rfl
@[simp] theorem State.setPending_charter (s : State) (v : List Instr) : (s.setPending v).charter = s.charter := rfl

@[simp] theorem State.setOd_charter {s : State} {v : Dict} (h : v.num = s.od.num) : (s.setOd v).charter = s.charter :=
  congrArg (fun n => (n, s.charter.2)) h

@[simp] theorem State.setFa_charter {s : State} {v : Fabric} (hc : v.composition = s.fa.composition)
    (hg : v.generation = s.fa.generation) (hn : v.nodeId = s.fa.nodeId) (hr : v.nrt = s.fa.nrt)
    (hp : v.prevJobs = s.fa.prevJobs) (ht : v.nrtStage = s.fa.nrtStage) : (s.setFa v).charter = s.charter := by
  simp only [State.charter, State.setFa_fa, State.setFa_od, hc, hg, hn, hr, hp, ht]

@[simp] theorem foldl_charter {α : Type} {f : State → α → State} (h : ∀ s a, (f s a).charter = s.charter) (l : List α)
    (s : State) : (l.foldl f s).charter = s.charter := foldl_keeps _ f h l s

@[simp] theorem foldl_fst_charter {α β : Type} {f : State × β → α → State × β}
    (h : ∀ x a, (f x a).1.charter = x.1.charter) (l : List α) (x : State × β) : (l.foldl f x).1.charter = x.1.charter :=
  foldl_keeps_of (fun x : State × β => x.1.charter) h l x

@[simp] theorem foldl_snd_charter {α β : Type} {f : β × State → α → β × State}
    (h : ∀ x a, (f x a).2.charter = x.2.charter) (l : List α) (x : β × State) : (l.foldl f x).2.charter = x.2.charter :=
  foldl_keeps_of (fun x : β × State => x.2.charter) h l x

@[simp] theorem notePeers_charter (s : State) : (notePeers s).charter = s.charter := by
  simp [notePeers]

@[simp] theorem clearPoison_charter (s : State) (a : Nat) : (clearPoison s a).charter = s.charter := by
  simp [clearPoison]

@[simp] theorem setDir_charter (line : Nat) (e : Option DirEntry) (s : State) : (setDir line e s).charter = s.charter := by
  simp [setDir]

@[simp] theorem setSlice_charter (t : Nat) (v : FMap SliceLine) (s : State) : (setSlice t v s).charter = s.charter := by
  simp [setSlice]

@[simp] theorem drawEntropy_charter (s : State) : (drawEntropy s).2.charter = s.charter := by
  simp [drawEntropy]

@[simp] theorem drawStart_charter (key : Nat) (s : State) : (drawStart key s).2.charter = s.charter := by
  simp [drawStart]

@[simp] theorem ensurePath_charter (key : Nat) (s : State) : ∀ t, ensurePath key s = some t → t.charter = s.charter := by
  simp only [ensurePath]
  repeat' split
  all_goals simp

@[simp] theorem pushPkt_charter (key : Nat) (pkt : Pkt) (req : Nat) (tenant : Option Nat) (s : State) :
    (pushPkt key pkt req tenant s).charter = s.charter := by
  simp only [pushPkt]
  split <;> simp

@[simp] theorem sendPeer_charter (node job window offset : Nat) (m : CohMsg) (s : State) :
    (sendPeer node job window offset m s).charter = s.charter := by
  grind [sendPeer, ensurePath_charter, pushPkt_charter]

@[simp] theorem sendMsg_charter (via : Option (Nat × Nat × Nat)) (m : CohMsg) (s : State) :
    (sendMsg via m s).charter = s.charter := by
  simp only [sendMsg]
  split <;> simp

@[simp] theorem snoop_charter (req : CohMsg) (mtype agent : Nat) (s : State) : (snoop req mtype agent s).charter = s.charter := by
  simp [snoop]

@[simp] theorem dropLine_charter (line : Nat) (s : State) : (dropLine line s).charter = s.charter := by
  simp only [dropLine]
  repeat' split
  all_goals simp (disch := (intros; repeat' split; all_goals simp))

@[simp] theorem startProgram_charter (u : Nat) (s : State) : (startProgram u s).charter = s.charter := by
  simp only [startProgram]
  split <;> simp

@[simp] theorem frostWrite_charter (pha : Nat) (s : State) : (frostWrite pha s).charter = s.charter := by
  simp only [frostWrite]
  repeat' split
  all_goals simp

@[simp] theorem markDirty_charter (pha : Nat) (s : State) : (markDirty pha s).charter = s.charter := by
  simp only [markDirty]
  split <;> simp

@[simp] theorem wrByte_charter (s : State) (a : Nat) (b : Byte) : (wrByte s a b).charter = s.charter := by
  simp only [wrByte]
  split <;> simp

@[simp] theorem wrBytes_charter (l : List Byte) (a : Nat) (s : State) : (wrBytes s a l).charter = s.charter := by
  induction l generalizing a s with
  | nil => rfl
  | cons b l ih => rw [wrBytes, ih, wrByte_charter]

@[simp] theorem landBytes_charter (a : Nat) (l : List Byte) (s : State) : (landBytes a l s).charter = s.charter := by
  simp [landBytes]

@[simp] theorem setEntry_charter (page : Nat) (e : HomeEntry) (s : State) : (setEntry page e s).charter = s.charter := by
  simp [setEntry]

@[simp] theorem sampleAccess_charter (pha : Nat) (s : State) : (sampleAccess pha s).charter = s.charter := by
  simp only [sampleAccess]
  repeat' split
  all_goals simp

@[simp] theorem writeRange_charter (a : Nat) (l : List Byte) (s : State) : (writeRange a l s).charter = s.charter := by
  simp only [writeRange]
  refine foldl_charter (fun s q => ?_) _ _
  (repeat' split) <;> simp

@[simp] theorem putWord_charter (a w : Nat) (s : State) : (putWord a w s).charter = s.charter := by
  simp [putWord]

@[simp] theorem sendBulk_charter (node tc job : Nat) (tenant : Option Nat) (bytes : List Byte) (reqs : List Nat) (s : State) :
    (sendBulk node tc job tenant bytes reqs s).charter = s.charter := by
  simp only [sendBulk]
  split
  · rfl
  case h_2 t h => split <;> simp [ensurePath_charter _ _ _ h]

@[simp] theorem flushOpen_charter (node tc job : Nat) (s : State) : (flushOpen node tc job s).charter = s.charter := by
  simp only [flushOpen]
  split <;> simp

@[simp] theorem appendRecord_charter (n : Nat) (r : RemoteReq) (s : State) : (appendRecord n r s).charter = s.charter := by
  simp only [appendRecord]
  repeat' split
  all_goals simp

@[simp] theorem launch_charter (n : Nat) (s : State) : (launch n s).charter = s.charter := by
  grind [launch, ensurePath_charter, pushPkt_charter, State.setFa_charter]

@[simp] theorem dispatch_charter (n : Nat) (s : State) : (dispatch n s).charter = s.charter := by
  simp only [dispatch]
  repeat' split
  all_goals simp

@[simp] theorem sendReq_charter (node : Nat) (origin : Origin) (tenant issuer : Nat) (p : Pkt) (s : State) :
    (sendReq node origin tenant issuer p s).charter = s.charter := by
  simp only [sendReq]
  repeat' split
  all_goals simp

@[simp] theorem enqueueFiring_charter (f : Firing) (s : State) : (enqueueFiring f s).charter = s.charter := by
  simp only [enqueueFiring]
  split <;> simp

@[simp] theorem fireEvent_charter (c a b : Nat) (s : State) : (fireEvent c a b s).charter = s.charter := by
  simp only [fireEvent]
  split
  · rfl
  · refine foldl_charter (fun s n => ?_) _ _
    split <;> simp

@[simp] theorem emit_charter (o : Output) (s : State) : (emit o s).charter = s.charter := by
  simp [emit]

@[simp] theorem setPort_charter (s : State) (p : Nat) (v : HostPort) : (setPort s p v).charter = s.charter := by
  simp [setPort]

@[simp] theorem setFn_charter (s : State) (p f : Nat) (v : HostFn) : (setFn s p f v).charter = s.charter := by
  simp [setFn]

@[simp] theorem sendVector_charter (p f v : Nat) (s : State) : (sendVector p f v s).charter = s.charter := by
  simp only [sendVector]
  split <;> simp

@[simp] theorem setMb_charter (s : State) (p : Nat) (v : Mailbox) : (setMb s p v).charter = s.charter := by
  simp [setMb]

@[simp] theorem mailboxNotify_charter (p : Nat) (m : OdpMsg) (s : State) : (mailboxNotify p m s).charter = s.charter := by
  simp only [mailboxNotify]
  split <;> simp

@[simp] theorem sendVlan_charter (a : Nat) (sub : Option Nat) (m : OdpMsg) (s : State) :
    (sendVlan a sub m s).charter = s.charter := by
  simp only [sendVlan]
  split <;> simp

@[simp] theorem notifyAll_charter (e : EvRec) (s : State) : (notifyAll e s).charter = s.charter := by
  simp only [notifyAll]
  (repeat' split) <;> simp

@[simp] theorem raise_charter (c j a b : Nat) (s : State) : (raise c j a b s).charter = s.charter := by
  simp [raise]

@[simp] theorem checkLowSpace_charter (s : State) : (checkLowSpace s).charter = s.charter := by
  simp only [checkLowSpace]
  repeat' split
  all_goals simp

@[simp] theorem journal_charter (r : JRec) (s : State) : (journal r s).charter = s.charter := by
  simp [journal]

@[simp] theorem takePlace_charter (p : Place) (s : State) : (takePlace p s).charter = s.charter := by
  simp [takePlace]

@[simp] theorem homeAt_charter (page : Nat) (p : Place) (s : State) : (homeAt page p s).charter = s.charter := by
  simp only [homeAt]
  split <;> simp

@[simp] theorem allocHome_charter (page tenant : Nat) (s : State) :
    ∀ t, allocHome page tenant s = some t → t.charter = s.charter := by
  simp only [allocHome]
  split <;> simp

@[simp] theorem writeGate_charter (page tenant : Nat) (s : State) : (writeGate page tenant s).1.charter = s.charter := by
  grind [writeGate, allocHome_charter, journal_charter, State.setTi_charter]

@[simp] theorem writeOk_charter (a n tenant : Nat) (s : State) : (writeOk a n tenant s).1.charter = s.charter := by
  simp only [writeOk]
  repeat' split
  all_goals simp (disch := (intros; repeat' split; all_goals simp))

theorem charter_of_writeOk {a n tenant : Nat} {s t : State} {g : Gate} (h : writeOk a n tenant s = (t, g)) :
    t.charter = s.charter := by
  rw [← writeOk_charter a n tenant s, h]

theorem flagStore_charter {node tenant window offset word : Nat} {o : Origin} {s t : State} {r : Except Nat (Option Nat)}
    (h : flagStore node tenant window offset word o s = some (r, t)) : t.charter = s.charter := by
  simp only [flagStore] at h
  split at h
  · cases h; rfl
  · split at h
    · split at h
      · cases h; rfl
      · split at h
        · cases h; rfl
        · split at h
          case h_1 e => cases h; rw [putWord_charter, charter_of_writeOk e]
          case h_2 e => cases h; exact charter_of_writeOk e
          case h_3 => cases h
    · cases h
      simp

@[simp] theorem payOwed_charter (comp : Nat) (s : State) : (payOwed comp s).charter = s.charter := by
  simp only [payOwed]
  refine (foldl_charter (fun s o => ?_) _ _).trans (State.setSv_charter ..)
  split
  case h_1 h => exact flagStore_charter h
  case h_2 => rfl

@[simp] theorem resendAll_charter (key : Nat) (s : State) : (resendAll key s).charter = s.charter := by
  simp [resendAll]

@[simp] theorem resendReq_charter (n : Nat) (s : State) : (resendReq n s).charter = s.charter := by
  simp only [resendReq]
  split <;> simp

@[simp] theorem rebindPath_charter (key : Nat) (s : State) : (rebindPath key s).charter = s.charter := by
  simp only [rebindPath]
  split <;> simp

@[simp] theorem rebindPaths_charter (s : State) : (rebindPaths s).charter = s.charter := by
  simp only [rebindPaths]
  refine foldl_charter (fun s a => ?_) _ _
  repeat' split
  all_goals simp

@[simp] theorem releaseStale_charter (s : State) : (releaseStale s).charter = s.charter := by
  simp [releaseStale]

@[simp] theorem retryNoPath_charter (s : State) : (retryNoPath s).charter = s.charter := by
  simp [retryNoPath]

@[simp] theorem setPoison_charter (s : State) (a : Nat) : (setPoison s a).charter = s.charter := by
  simp [setPoison]

@[simp] theorem forgetHolder_charter (chip : Nat) (s : State) : (forgetHolder chip s).charter = s.charter := by
  simp [forgetHolder, apply_ite State.charter]

@[simp] theorem forgetHome_charter (chip : Nat) (s : State) : (forgetHome chip s).2.charter = s.charter := by
  simp [forgetHome]

@[simp] theorem answer_charter (req : CohMsg) (mtype status : Nat) (payload : List Byte) (s : State) :
    (answer req mtype status payload s).charter = s.charter := by
  simp [answer]

@[simp] theorem ledgerAnswer_charter (led : Nat × Nat × Nat) (s : State) : (ledgerAnswer led s).2.charter = s.charter := by
  simp only [ledgerAnswer]
  repeat' split
  all_goals simp

@[simp] theorem ledgerPressure_charter (s : State) : (ledgerPressure s).charter = s.charter := by
  simp only [ledgerPressure]
  split <;> simp

@[simp] theorem raiseLow_charter (node job seq : Nat) (s : State) : (raiseLow node job seq s).charter = s.charter := by
  simp [raiseLow]

@[simp] theorem dropLedger_charter (e : LedEnt) (s : State) : (dropLedger e s).charter = s.charter := by
  simp only [dropLedger]
  split <;> simp

@[simp] theorem ledgerRecord_charter (led : Nat × Nat × Nat) (value status sliver : Nat) (s : State) :
    (ledgerRecord led value status sliver s).charter = s.charter := by
  simp only [ledgerRecord]
  split <;> simp

@[simp] theorem ledgerRoom_charter (s : State) : (ledgerRoom s).2.charter = s.charter := by
  simp only [ledgerRoom]
  repeat' split
  all_goals simp

@[simp] theorem refuseBackoff_charter (m : CohMsg) (s : State) : (refuseBackoff m s).charter = s.charter := by
  simp only [refuseBackoff]
  split <;> simp

@[simp] theorem performAtom_charter (m : CohMsg) (data : List Byte) (s : State) :
    (performAtom m data s).2.charter = s.charter := by
  grind [performAtom, answer_charter, ledgerAnswer_charter, ledgerRoom_charter, refuseBackoff_charter, ledgerPressure_charter, ledgerRecord_charter]

@[simp] theorem setWbuf_charter (t : Nat) (v : FMap SliceLine) (s : State) : (setWbuf t v s).charter = s.charter := by
  simp [setWbuf]

@[simp] theorem evictLine_charter (t key : Nat) (s : State) : (evictLine t key s).charter = s.charter := by
  simp only [evictLine]
  repeat' split
  all_goals simp

@[simp] theorem useNo_charter (s : State) : (useNo s).2.charter = s.charter := by
  simp [useNo]

@[simp] theorem installLine_charter (t key : Nat) (st : LState) (data : List Byte) (tenant : Option Nat) (s : State) :
    (installLine t key st data tenant s).charter = s.charter := by
  simp only [installLine]
  repeat' split
  all_goals simp

@[simp] theorem takeHome_charter (line : Nat) (data : List Byte) (tenant : Option Nat) (s : State) :
    (takeHome line data tenant s).charter = s.charter := by
  simp [takeHome]

@[simp] theorem closeTxn_charter (line : Nat) (s : State) : (closeTxn line s).charter = s.charter := by
  simp only [closeTxn]
  repeat' split
  all_goals simp

@[simp] theorem dropReq_charter (r : AgentReq) (s : State) : (dropReq r s).charter = s.charter := by
  simp [dropReq]

@[simp] theorem charge_charter (t : Nat) (s : State) : (charge t s).charter = s.charter := by
  simp only [charge]
  split <;> simp

@[simp] theorem setTab_charter (t : Nat) (v : Tabor) (s : State) : (setTab t v s).charter = s.charter := by
  simp [setTab]

@[simp] theorem modCtx_charter (t id : Nat) (f : Ctx → Ctx) (s : State) : (modCtx t id f s).charter = s.charter := by
  simp [modCtx]

@[simp] theorem schedule_charter (t : Nat) (s : State) : (schedule t s).charter = s.charter := by
  simp only [schedule]
  repeat' split
  all_goals simp

@[simp] theorem leave_charter (t id : Nat) (st : CtxState) (s : State) : (leave t id st s).charter = s.charter := by
  simp only [leave]
  repeat' split
  all_goals simp

@[simp] theorem modItem_charter (n : Nat) (f : Item → Item) (s : State) : (modItem n f s).charter = s.charter := by
  simp [modItem]

@[simp] theorem endItem_charter (n status r0 r1 : Nat) (s : State) : (endItem n status r0 r1 s).charter = s.charter := by
  simp [endItem]

@[simp] theorem settleCtx_charter (t id : Nat) (s : State) : (settleCtx t id s).charter = s.charter := by
  simp only [settleCtx]
  repeat' split
  all_goals simp

@[simp] theorem endCtx_charter (t id status : Nat) (s : State) : (endCtx t id status s).charter = s.charter := by
  simp [endCtx]

@[simp] theorem ptcDone_charter (ent : Nat) (s : State) : (ptcDone ent s).charter = s.charter := by
  simp only [ptcDone]
  split <;> simp

@[simp] theorem ptcDoneAll_charter (ents : List Nat) (s : State) : (ptcDoneAll ents s).charter = s.charter := by
  simp [ptcDoneAll]

@[simp] theorem pendDone_charter (t id tag status : Nat) (data : List Byte) (s : State) :
    (pendDone t id tag status data s).charter = s.charter := by
  simp only [pendDone]
  repeat' split
  all_goals simp

@[simp] theorem failLine_charter (t key status : Nat) (s : State) : (failLine t key status s).charter = s.charter := by
  simp only [failLine]
  refine foldl_charter (fun s a => ?_) _ _
  repeat' split
  all_goals simp

@[simp] theorem bumpCounter_charter (c n : Nat) (s : State) : (bumpCounter c n s).charter = s.charter := by
  simp [bumpCounter]

@[simp] theorem modRx_charter (key : Nat) (f : RxPath → RxPath) (s : State) : (modRx key f s).charter = s.charter := by
  simp [modRx]

@[simp] theorem notePrepared_charter (p : Pkt) (old : Nat) (s : State) : (notePrepared p old s).charter = s.charter := by
  simp only [notePrepared]
  repeat' split
  all_goals simp

@[simp] theorem pushCtl_charter (sub : Nat) (pkt : Pkt) (s : State) : (pushCtl sub pkt s).charter = s.charter := by
  simp [pushCtl]

@[simp] theorem sendResponse_charter (sub : Nat) (p : Pkt) (status : Nat) (payload : List Byte) (s : State) :
    (sendResponse sub p status payload s).charter = s.charter := by
  simp [sendResponse]

@[simp] theorem endPkt_charter (node tc psn : Nat) (s : State) : (endPkt node tc psn s).charter = s.charter := by
  simp only [endPkt]
  repeat' split
  all_goals simp

@[simp] theorem modOpen_charter (node tc psn : Nat) (f : OpenPkt → OpenPkt) (s : State) :
    (modOpen node tc psn f s).charter = s.charter := by
  simp [modOpen]

@[simp] theorem ucRequest_charter (line mtype tenant : Nat) (who : CohFor) (ledger : Option (Nat × Nat × Nat)) (m : CohMsg) (s : State) :
    (ucRequest line mtype tenant who ledger m s).charter = s.charter := by
  simp [ucRequest]

@[simp] theorem postRead_charter (node tc psn tenant a len : Nat) (s : State) :
    (postRead node tc psn tenant a len s).2.charter = s.charter := by
  simp [postRead]

@[simp] theorem interceptWrite_charter (pha : Nat) (whole : Bool) (bytes : List Byte) (w : Writer) (zero : Bool) (s : State) :
    (interceptWrite pha whole bytes w zero s).charter = s.charter := by
  simp [interceptWrite]

@[simp] theorem postWrite_charter (node tc psn tenant a : Nat) (bytes : List Byte) (s : State) :
    (postWrite node tc psn tenant a bytes s).2.charter = s.charter := by
  simp [postWrite, apply_ite State.charter]

@[simp] theorem nextRecord_charter (node tc psn x3 : Nat) (x4 : State) :
    (nextRecord node tc psn x3 x4).charter = x4.charter := by
  induction x3 generalizing x4 with
  | zero => rfl
  | succ n ih =>
    simp only [nextRecord]
    repeat' split
    all_goals simp [ih]

@[simp] theorem endRecordOf_charter (node tc psn : Nat) (s : State) : (endRecordOf node tc psn s).charter = s.charter := by
  simp only [endRecordOf]
  repeat' split
  all_goals simp

@[simp] theorem pieceDone_charter (node tc psn place status : Nat) (data : List Byte) (s : State) :
    (pieceDone node tc psn place status data s).charter = s.charter := by
  simp only [pieceDone]
  repeat' split
  all_goals simp

@[simp] theorem ucDone_charter (r : AgentReq) (status : Nat) (data : List Byte) (s : State) :
    (ucDone r status data s).charter = s.charter := by
  simp only [ucDone]
  repeat' split
  all_goals simp

@[simp] theorem forgetTraffic_charter (chip : Nat) (s : State) : (forgetTraffic chip s).charter = s.charter := by
  simp only [forgetTraffic]
  refine (foldl_charter (fun s l => ?_) _ _).trans ?_
  · split <;> simp
  · simp

@[simp] theorem forgetPeer_charter (chip : Nat) (s : State) : (forgetPeer chip s).2.charter = s.charter := by
  simp [forgetPeer]

@[simp] theorem formMsg_charter (node mtype : Nat) (ids : List Nat) (s : State) :
    (formMsg node mtype ids s).charter = s.charter := by
  simp [formMsg]

@[simp] theorem hello_charter (f : Forming) (s : State) : (hello f s).charter = s.charter := by
  simp [hello]

@[simp] theorem takeIndex_charter (chip : Nat) (s : State) : (takeIndex chip s).charter = s.charter := by
  simp only [takeIndex]
  split <;> simp

@[simp] theorem formDomain_charter (list : List Nat) (s : State) : (formDomain list s).charter = s.charter := by
  simp [formDomain]

@[simp] theorem propose_charter (f : Forming) (s : State) : (propose f s).charter = s.charter := by
  simp only [propose]
  repeat' split
  all_goals simp

@[simp] theorem startForming_charter (s : State) : (startForming s).charter = s.charter := by
  simp only [startForming]
  repeat' split
  all_goals simp

@[simp] theorem setSub_charter (n : Nat) (p : SubPort) (s : State) : (setSub n p s).charter = s.charter := by
  simp [setSub]

@[simp] theorem dropLink_charter (n : Nat) (enabled : Bool) (s : State) : (dropLink n enabled s).charter = s.charter := by
  simp only [dropLink]
  split <;> simp

@[simp] theorem restartPort_charter (p : Nat) (s : State) : (restartPort p s).charter = s.charter := by
  simp [restartPort, apply_ite State.charter]

theorem charter_of_bare {s t : State} (h : t.bare = s.bare) : t.charter = s.charter :=
  (congrArg State.charter h : t.bare.charter = s.bare.charter)

/-- What a commit to another composition fixes. -/
theorem applyCommit_charter {b : List Byte} {s : State} (h : leField b 0 2 ≠ s.fa.composition) :
    (applyCommit b s).charter =
      (s.od.num, s.fa.nrtStage, leField b 0 2, leField b 2 2, leField b 4 2, routesFrom 65536 0 s.fa.nrtStage, []) := by
  have hraise : ∀ (c : Prop) [Decidable c] k i x y (u : State), (if c then raise k i x y u else u).charter = u.charter := by
    intro c _ k i x y u
    (repeat' split) <;> simp
  simp only [applyCommit, payOwed_charter, releaseStale_charter, retryNoPath_charter, rebindPaths_charter,
    notePeers_charter, ne_eq, h, not_false_eq_true, decide_true, if_true, startForming_charter, State.setBt_charter,
    Bool.true_and, hraise]
  have h1 := hraise (decide (s.fa.composition ≠ 0) = true) 0x149 0 s.fa.composition 0 s
  generalize (if decide (s.fa.composition ≠ 0) = true then raise 0x149 0 s.fa.composition 0 s else s) = u at h1 ⊢
  simp only [State.charter, Prod.mk.injEq] at h1 ⊢
  obtain ⟨hnum, hstage, -⟩ := h1
  exact ⟨hnum, hstage, rfl, rfl, rfl, congrArg (routesFrom 65536 0) hstage, rfl⟩

end Sys2Proof.Machine

/-!
PROOFS. Writes of objects have their chapters' effects.
-/

namespace Sys2Proof.Machine

/-! A fault's record, and what a fault reads: recovery and local time. -/

theorem endRecord_rc_congr {s t : State} (hrc : t.rc = s.rc) (hnow : t.now = s.now) (q a d : Nat) :
    (endRecord q a d t).rc = (endRecord q a d s).rc := by
  have hrec : recordOf t q = recordOf s q := by simp only [recordOf, hrc]
  simp only [endRecord, hrec]
  split
  · simp only [retire, hrc, hnow, State.setRc_rc]
  · exact hrc

theorem subsume_rc_congr (q : Nat) (l : List Reset) {s t : State} (hrc : t.rc = s.rc) (hnow : t.now = s.now) :
    (subsume q l t).rc = (subsume q l s).rc := by
  induction l generalizing s t with
  | nil => exact hrc
  | cons x l ih => exact ih (endRecord_rc_congr hrc hnow ..) (by rw [endRecord_now, endRecord_now, hnow])

theorem startReset_rc_congr {s t : State} (hrc : t.rc = s.rc) (hnow : t.now = s.now) (d i c q : Nat) (f : List Nat)
    (l : List Task) : (startReset d i c q f l t).rc = (startReset d i c q f l s).rc := by
  have h : ∀ l, (subsume q l t).rc = (subsume q l s).rc := fun l => subsume_rc_congr q l hrc hnow
  simp only [startReset, State.setRc_rc, subsume_now, hnow, hrc, h]

theorem orderOverflow_rc_congr {s t : State} (hrc : t.rc = s.rc) (hnow : t.now = s.now) (c k : Nat) :
    (orderOverflow c k t).rc = (orderOverflow c k s).rc := by
  have h : ∀ q l v, (subsume q l (t.setRc v)).rc = (subsume q l (s.setRc v)).rc :=
    fun q l v => subsume_rc_congr q l rfl hnow
  simp only [orderOverflow, hrc, hnow]
  split
  · exact hrc
  · simp only [State.setRc_rc, subsume_now, State.setRc_now, hnow, h]

theorem fault_rc_congr {s t : State} (hrc : t.rc = s.rc) (hnow : t.now = s.now) (c d i x : Nat) (l : List Task) :
    (fault c d i x l t).rc = (fault c d i x l s).rc := by
  unfold fault
  dsimp only
  rw [hrc, hnow]
  generalize (if (decide (d = 7) || s.rc.islandFailed) = true then 1 else 0) = handler
  split
  · rfl
  · split
    · simp only [retire, State.setRc_rc]
      rfl
    · by_cases hq : 64 ≤ (if handler = 1 then s.rc.queueB else s.rc.queueA).length
      · rw [if_pos hq, if_pos hq]
        exact orderOverflow_rc_congr hrc hnow ..
      · rw [if_neg hq, if_neg hq]
        refine startReset_rc_congr ?_ ?_ ..
        · rfl
        · exact hnow

theorem fault_service (c d i x : Nat) (t : List Task) (s : State) :
    (fault c d i x t s).rc.oosRunning = s.rc.oosRunning ∧ (fault c d i x t s).rc.oosReason = s.rc.oosReason := by
  have hend : ∀ (u : State) (y : Reset) q, ((endRecord y.seq 3 q u).rc.oosRunning, (endRecord y.seq 3 q u).rc.oosReason) =
      (u.rc.oosRunning, u.rc.oosReason) := by
    intro u y q
    simp only [endRecord]
    split <;> rfl
  have hsub : ∀ q l (u : State), ((subsume q l u).rc.oosRunning, (subsume q l u).rc.oosReason) =
      (u.rc.oosRunning, u.rc.oosReason) := fun q l u =>
    foldl_keeps (fun u : State => (u.rc.oosRunning, u.rc.oosReason)) _ (fun u y => hend u y q) l u
  simp only [Prod.mk.injEq] at hsub
  unfold fault
  dsimp only
  generalize (if (decide (d = 7) || s.rc.islandFailed) = true then 1 else 0) = handler
  split
  · exact ⟨rfl, rfl⟩
  · split
    · exact ⟨rfl, rfl⟩
    · by_cases hq : 64 ≤ (if handler = 1 then s.rc.queueB else s.rc.queueA).length
      · rw [if_pos hq, orderOverflow]
        dsimp only
        split
        · exact ⟨rfl, rfl⟩
        · exact hsub ..
      · rw [if_neg hq, startReset]
        exact hsub ..

theorem landBytes_closed (a : Nat) (l : List Byte) (s : State) : (landBytes a l s).fr.closed = s.fr.closed := by
  have hf : ∀ u : State, (frostWrite a u).fr.closed = u.fr.closed := by
    have hs : ∀ k (u : State), (startProgram k u).fr.closed = u.fr.closed := by
      intro k u
      simp only [startProgram]
      (repeat' split) <;> rfl
    intro u
    simp only [frostWrite]
    repeat' split
    · rfl
    · rfl
    · exact hs ..
    · rfl
    · rfl
  have hm : ∀ u : State, (markDirty a u).fr.closed = u.fr.closed := by
    intro u
    simp only [markDirty]
    (repeat' split) <;> rfl
  have hw : ∀ (l : List Byte) a (u : State), (wrBytes u a l).fr.closed = u.fr.closed := by
    intro l
    induction l with
    | nil => exact fun _ _ => rfl
    | cons b l ih =>
      intro a u
      rw [wrBytes, ih]
      simp only [wrByte]
      (repeat' split) <;> rfl
  rw [landBytes, hf, hm, hw]

theorem writeBackAll_closed (s : State) : (writeBackAll s).fr.closed = s.fr.closed :=
  foldl_keeps (fun u : State => u.fr.closed) _ (fun u l => landBytes_closed _ _ u) _ s

/-! What the writes of single values leave. -/

theorem reservePct_persistent : ∀ r ∈ odTable, r.index = 0x3400 → r.sub = 3 → r.persistent = true := by decide +kernel

theorem unnamedKey_row : ∀ r ∈ odTable, r.index = 0x2000 → r.sub = 4 → r.count = 1 ∧ r.typ ≠ 9 ∧ r.typ ≠ 10 := by
  decide +kernel

theorem noteSave_pending (s : State) : (noteSave s).bt.cfgPendingSince.isSome = true := by
  simp only [noteSave, State.setBt_bt]
  cases s.bt.cfgPendingSince <;> rfl

@[simp] theorem noteSave_od (s : State) : (noteSave s).od = s.od := rfl

theorem storeNum_num (r : OdRow) (k v : Nat) (s : State) : (storeNum r k v s).od.num = s.od.num.set k v := by
  simp only [storeNum]
  (repeat' split) <;> rfl

theorem storeNum_ti (r : OdRow) (k v : Nat) (s : State) : (storeNum r k v s).ti = s.ti := by
  simp only [storeNum]
  (repeat' split) <;> rfl

theorem storeNum_pending {r : OdRow} (k v : Nat) (s : State) (h : r.persistent = true) :
    (storeNum r k v s).bt.cfgPendingSince.isSome = true := by
  rw [storeNum, if_pos h, noteSave_pending]

theorem storeOct_oct (r : OdRow) (k : Nat) (b : List Byte) (s : State) : (storeOct r k b s).od.oct = s.od.oct.set k b := by
  simp only [storeOct]
  (repeat' split) <;> rfl

section
variable {s t : State} (h : t.od.num = s.od.num)
include h

theorem portEnable_of_num (n : Nat) : Par.portEnable t n = s.od.num.getD ((0x4020 + n) * 256 + 1) 1 := by
  rw [Par.portEnable, h]

theorem scriptEnable_of_num (n : Nat) : Par.scriptEnable t n = Par.scriptEnable s n := by
  rw [Par.scriptEnable, h, Par.scriptEnable]

theorem subsOf_of_num (n : Nat) : subsOf t n = subsOf s n := by
  rw [subsOf, Par.portSplit, h, subsOf, Par.portSplit]

end

/-! Links that a write restarts. -/

theorem restartPort_num (p : Nat) (s : State) : (restartPort p s).od.num = s.od.num :=
  congrArg Prod.fst (restartPort_charter p s)

theorem writePortEnable_num (r : OdRow) (n v : Nat) (s : State) :
    (writePortEnable r n v s).2.od.num = s.od.num.set ((0x4020 + n) * 256 + 1) v := by
  simp only [writePortEnable]
  repeat' split
  · exact storeNum_num ..
  · rw [restartPort_num, storeNum_num]

theorem writeScriptEnable_num (r : OdRow) (n v : Nat) (s : State) :
    (writeScriptEnable r n v s).2.od.num = s.od.num.set ((0x0810 + n) * 256 + 4) v := by
  simp only [writeScriptEnable]
  (repeat' split) <;> exact storeNum_num ..

/-- The link of a sub-port that waits for signal, or is on its way from there, waits for signal once it is retrained. -/
theorem retrainSub_waits {n : Nat} {s : State} (h : (getSub s n).step ≠ 0) :
    (getSub (retrainSub n s) n).state = 0 ∧ (getSub (retrainSub n s) n).step = 1 := by
  rw [retrainSub, if_neg h, getSub_raise, (dropLink_spec n true s).1]
  exact ⟨rfl, rfl⟩

theorem getSub_dropLink_ne {n k : Nat} (h : n ≠ k) (e : Bool) (s : State) : getSub (dropLink k e s) n = getSub s n := by
  by_cases h3 : (getSub s k).state = 3 <;> simp [dropLink, h3, getSub_setSub_ne h]

theorem getSub_retrainSub_ne {n k : Nat} (h : n ≠ k) (s : State) : getSub (retrainSub k s) n = getSub s n := by
  rw [retrainSub]
  repeat' split
  · rfl
  · rw [getSub_raise, getSub_dropLink_ne h]

theorem retrain_keeps_waiting {n : Nat} (l : List Nat) {s : State}
    (h : (getSub s n).state = 0 ∧ (getSub s n).step = 1) :
    (getSub (l.foldl (fun u k => retrainSub k u) s) n).state = 0 ∧
      (getSub (l.foldl (fun u k => retrainSub k u) s) n).step = 1 := by
  induction l generalizing s with
  | nil => exact h
  | cons k l ih =>
    by_cases hk : n = k
    · subst hk
      exact ih (retrainSub_waits (by rw [h.2]; exact Nat.one_ne_zero))
    · exact ih (by rw [getSub_retrainSub_ne hk]; exact h)

theorem retrain_all {n : Nat} {l : List Nat} {s : State} (hn : n ∈ l) (h : (getSub s n).step ≠ 0) :
    (getSub (l.foldl (fun u k => retrainSub k u) s) n).state = 0 ∧
      (getSub (l.foldl (fun u k => retrainSub k u) s) n).step = 1 := by
  induction l generalizing s with
  | nil => cases hn
  | cons k l ih =>
    by_cases hk : n = k
    · subst hk
      exact retrain_keeps_waiting l (retrainSub_waits h)
    · exact ih (List.mem_of_ne_of_mem hk hn) (by rw [getSub_retrainSub_ne hk]; exact h)

/-! Firings. -/

theorem respond_triggerLost (who : Session) (m : OdpMsg) (a : Answer) (s : State) :
    (respond who m a s).od.triggerLost = s.od.triggerLost := by
  have hpump : ∀ p (u : State), (pumpMb p u).od.triggerLost = u.od.triggerLost := by
    intro p u
    simp only [pumpMb]
    split
    · repeat' split
      · simp only [sendVector]
        (repeat' split) <;> rfl
      · rfl
    · rfl
  have hsend : ∀ m (u : State), (sendTo who m u).od.triggerLost = u.od.triggerLost := by
    intro m u
    cases who with
    | can =>
      simp only [sendTo]
      (repeat' split) <;> rfl
    | mailbox p =>
      rw [sendTo, hpump]
      rfl
    | vlan a =>
      simp only [sendTo, sendVlan]
      split <;> rfl
    | script => rfl
  rw [respond, hsend]
  rfl

theorem fireWrite_triggerLost (oref : Nat) (b : List Byte) {s : State} (hlost : s.od.triggerLost = false)
    (hroom : s.od.firings.length ≤ 48) : (fireWrite oref b s).od.triggerLost = false := by
  have hrange : (List.range 16).length ≤ 16 := Nat.le_of_eq List.length_range
  have key : ∀ (l : List Nat) (u : State), u.od.triggerLost = false → u.od.firings.length + l.length ≤ 64 →
      (l.foldl (fun s n =>
        if slotRuns s n && Par.scriptTrigger s n = 2 && Par.scriptTriggerArg s n = oref then
          enqueueFiring { slot := n, kind := 2, code := oref, arg0 := leNat (b.take 8), arg1 := 0 } s
        else s) u).od.triggerLost = false := by
    intro l
    induction l with
    | nil => exact fun u h _ => h
    | cons n l ih =>
      intro u hl hlen
      rw [List.length_cons] at hlen
      rw [List.foldl_cons]
      split
      · rw [enqueueFiring, if_pos (by omega)]
        exact ih _ hl (by rw [State.setOd_od, List.length_append, List.length_singleton]; omega)
      · exact ih u hl (by omega)
  have hlen : s.od.firings.length + (List.range 16).length ≤ 64 := by omega
  rw [fireWrite]
  exact key (List.range 16) s hlost hlen

theorem leaveService_rc_congr {s t : State} (hrc : t.rc = s.rc) (hnow : t.now = s.now) (n a : Nat) :
    (leaveService n a t).rc = (leaveService n a s).rc := by
  simp only [leaveService, hrc]
  split
  · exact hrc
  · refine fault_rc_congr ?_ ?_ ..
    · rfl
    · exact hnow

theorem leaveService_spec (n a : Nat) {s : State} (hdev : s.rc.deviceState = 0) (hoos : s.rc.oosRunning = false) :
    (leaveService n a s).rc.oosRunning = true ∧ (leaveService n a s).rc.oosReason = n := by
  rw [leaveService, if_neg (by simp [hdev, hoos])]
  exact fault_service ..

theorem fwCheck_of_bt {s t : State} (h : t.bt = s.bt) (b : List Byte) : fwCheck t b = fwCheck s b := by
  simp only [fwCheck, h]

theorem clearDeficits_od (l : List Nat) (c : List Nat) (s : State) :
    (l.foldl (fun s n =>
      if s.fa.subs.has n then
        let p := getSub s n
        setSub n { p with deficit := c.foldl (fun m c => m.erase c) p.deficit } s
      else s) s).od = s.od :=
  foldl_keeps State.od _ (fun u n => by dsimp only; (repeat' split) <;> rfl) l s

/-- Settles O43: each write by its object's rule. -/
theorem odpWritesTakeEffect : Obligations.OdpWritesTakeEffect := by
  unfold Obligations.OdpWritesTakeEffect
  refine ⟨?_, ?_, ?_, ?_, ?_, ?_, ?_, ?_, ?_, ?_, ?_, ?_, ?_, ?_, ?_, ?_, ?_, ?_, ?_, ?_, ?_, ?_, ?_, ?_, ?_, ?_, ?_, ?_, ?_, ?_⟩
  · intro s who m h hv
    obtain ⟨r, s2, t, -, -, -, -, hb, -, hrun, ht, -⟩ := rowWrite_of_rule (fun _ u => writeDrained (leNat m.data) u) h
      (fun r u hi hs => by simp only [applyWrite, hi, hs])
    simp only [writeDrained, hv, decide_true, acceptIf, if_true] at ht
    exact ⟨t, hrun, (ti_of_bare ht).trans (by rw [State.setTi_ti, ti_of_bare hb]),
      (mem_of_bare ht).trans ((State.setTi_mem ..).trans (mem_of_bare hb))⟩
  · intro s who m h hv hst hclosed hclosing hmount
    obtain ⟨r, s2, t, -, -, -, -, hb, -, hrun, ht, -⟩ := rowWrite_of_rule (fun _ u => writeClose (leNat m.data) u) h
      (fun r u hi hs => by simp only [applyWrite, hi, hs])
    have hst2 : mgmtStandby s2 = true := (mgmtStandby_of_bare hb).trans hst
    have hgo : ¬(decide (leNat m.data = 0) || s2.fr.closed || s2.fr.closing || !s2.bt.mounted) = true := by
      simp [fr_of_bare hb, bt_of_bare hb, hv, hclosed, hclosing, hmount]
    simp only [writeClose, hst2, Bool.not_true, Bool.false_eq_true, if_false, if_neg hgo] at ht
    have hfr := fr_of_bare ht
    rw [State.setFr_fr] at hfr
    refine ⟨t, hrun, by rw [hfr], ?_⟩
    rw [hfr, writeBackAll_closed, fr_of_bare hb, hclosed]
  · intro s who m h hroom
    obtain ⟨r, s2, t, hr, hi, hs, -, hb, -, hrun, ht, -⟩ := rowWrite_of_rule (fun r u => writeReservePct r (leNat m.data) u) h
      (fun r u hi hs => by simp only [applyWrite, hi, hs])
    have hroom2 : s2.fr.pageGroup.length ≤ slotsUnder s2 (leNat m.data) := by
      simpa only [slotsUnder, fr_of_bare hb, board_of_bare hb] using hroom
    have hper : r.persistent = true := reservePct_persistent r hr hi hs
    simp only [writeReservePct, decide_eq_true hroom2, acceptIf, if_true] at ht
    refine ⟨t, hrun, ?_, ?_, ?_⟩
    · rw [num_of_bare ht, storeNum_num, FMap.get?_set_self]
    · rw [ti_of_bare ht, storeNum_ti, ti_of_bare hb]
    · rw [bt_of_bare ht, storeNum_pending _ _ _ hper]
  · intro s who m h hlt hfused hfenced hno
    obtain ⟨r, s2, t, -, -, -, -, hb, -, hrun, ht, -⟩ := rowWrite_of_rule (fun _ u => writeFenceTabor (leNat m.data) u) h
      (fun r u hi hs => by simp only [applyWrite, hi, hs])
    simp only [writeFenceTabor, if_neg (Nat.not_le.mpr hlt), co_of_bare hb, hfused, hfenced, hno, Bool.or_self,
      Bool.false_eq_true, if_false] at ht
    exact ⟨t, hrun, (rc_of_bare ht).trans (fault_rc_congr (rc_of_bare hb) (now_of_bare hb) ..),
      (co_of_bare ht).trans ((fault_co ..).trans (co_of_bare hb))⟩
  · intro s who m h hv hst
    obtain ⟨r, s2, t, -, -, -, -, hb, -, hrun, ht, -⟩ := rowWrite_of_rule (fun _ u => writeFenceClear (leNat m.data) u) h
      (fun r u hi hs => by simp only [applyWrite, hi, hs])
    have hst2 : mgmtStandby s2 = true := (mgmtStandby_of_bare hb).trans hst
    simp only [writeFenceClear, hst2, hv, Bool.not_true, Bool.false_eq_true, if_false, Nat.one_ne_zero] at ht
    exact ⟨t, hrun, (co_of_bare ht).trans (by rw [State.setCo_co, co_of_bare hb])⟩
  · intro s who m h hv
    obtain ⟨r, s2, t, -, -, -, -, hb, -, hrun, ht, -⟩ := rowWrite_of_rule (fun _ u => writeLastVerify m.tenant (leNat m.data) u) h
      (fun r u hi hs => by simp only [applyWrite, hi, hs])
    simp only [writeLastVerify, hv, decide_true, acceptIf, if_true] at ht
    exact ⟨t, hrun, (lastVerify_of_bare ht).trans (by rw [State.setOd_od, lastVerify_of_bare hb])⟩
  · intro s who m h
    obtain ⟨r, s2, t, -, -, -, -, hb, -, hrun, ht, -⟩ := rowWrite_of_rule (fun r u => writePortEnable r (m.index - 0x4020) (leNat m.data) u) h
      (fun r u hi hs => by simp only [applyWrite, hi, hs])
    refine ⟨t, hrun, ?_, ?_⟩
    · rw [portEnable_of_num (num_of_bare ht), writePortEnable_num, FMap.getD_set_self]
    · rw [mem_of_bare ht, writePortEnable_mem, mem_of_bare hb]
  · intro s who m h hv
    obtain ⟨r, s2, t, -, -, -, -, hb, -, hrun, ht, -⟩ := rowWrite_of_rule (fun _ u => writeRetrain (m.index - 0x4020) (leNat m.data) u) h
      (fun r u hi hs => by simp only [applyWrite, hi, hs])
    simp only [writeRetrain, hv, Nat.one_ne_zero, if_false] at ht
    refine ⟨t, hrun, fun n hn hstep => ?_⟩
    rw [getSub_of_subs (subs_of_bare ht)]
    have hs2 : getSub s2 n = getSub s n := getSub_of_subs (subs_of_bare hb) n
    refine retrain_all (subsOf_of_num (num_of_bare hb) _ ▸ hn) (hs2 ▸ hstep)
  · intro s who m h hgen hstaged hroutes hcomp hst hrec
    obtain ⟨r, s2, t, -, -, -, -, hb, -, hrun, ht, -⟩ := rowWrite_of_rule (fun _ u => writeCommit (leNat m.data) u) h
      (fun r u hi hs => by simp only [applyWrite, hi, hs])
    have hst2 : mgmtStandby s2 = false := by
      rw [mgmtStandby_of_bare hb, mgmtStandby, hst, hrec]
      rfl
    have hfa : (s2.fa.compStage, s2.fa.nrtStage, s2.fa.composition, s2.fa.generation) =
        (s.fa.compStage, s.fa.nrtStage, s.fa.composition, s.fa.generation) :=
      staged_of_bare hb
    simp only [Prod.mk.injEq] at hfa
    obtain ⟨hcs, hns, hco, hge⟩ := hfa
    simp only [writeCommit, hcs, hns, hco, hge, hgen, hstaged, hroutes, hcomp, hst2, ne_eq, not_true_eq_false, decide_false,
      Bool.not_true, Bool.false_and, Bool.or_self, Bool.false_eq_true, if_false] at ht
    have hch := applyCommit_charter (b := s.fa.compStage) (s := s2) (by rw [hco]; exact hcomp)
    have hfin : t.charter = (applyCommit s.fa.compStage s2).charter := charter_of_bare ht
    rw [hch] at hfin
    simp only [State.charter, Prod.mk.injEq] at hfin
    obtain ⟨-, -, hcomp', hgen', hnode, hnrt, hjobs⟩ := hfin
    exact ⟨t, hrun, hcomp', hgen'.trans hgen, hnode, by rw [hnrt, hns], hjobs⟩
  · intro s who m tenant full e h he
    obtain ⟨r, s2, t, -, -, -, -, hb, -, hrun, ht, -⟩ := rowWrite_of_rule (fun _ u => writeTenantShaper m.data u) h
      (fun r u hi hs => by simp only [applyWrite, hi, hs])
    simp only [writeTenantShaper, he] at ht
    refine ⟨t, hrun, ?_⟩
    rw [tenantShapers_of_bare ht, noteSave_od, State.setBt_od, State.setOd_od, FMap.get?_set_self]
  · intro s who m c full e h he
    obtain ⟨r, s2, t, -, -, -, -, hb, -, hrun, ht, -⟩ := rowWrite_of_rule (fun _ u => writeClassShaper (m.index - 0x7420) m.data u) h
      (fun r u hi hs => by simp only [applyWrite, hi, hs])
    simp only [writeClassShaper, he] at ht
    refine ⟨t, hrun, ?_⟩
    rw [classShapers_of_bare ht, noteSave_od, State.setBt_od, State.setOd_od, FMap.get?_set_self]
  · intro s who m h hz
    obtain ⟨r, s2, t, hr, hi, hs, hlo, hb, -, hrun, ht, -⟩ := rowWrite_of_rule (fun r u => writeWeights r (m.index - 0x7420) m.data u) h
      (fun r u hi hs => by simp only [applyWrite, hi, hs])
    have hkey : (0x7420 + (m.index - 0x7420)) * 256 + 3 = m.index * 256 + 3 := by
      have : r.index = 0x7420 := hi
      omega
    simp only [writeWeights, hz, Bool.false_eq_true, if_false] at ht
    refine ⟨t, hrun, ?_⟩
    rw [oct_of_bare ht, clearDeficits_od, storeOct_oct, hkey, FMap.get?_set_self]
  · intro s who m h hz
    obtain ⟨r, s2, hr, hi, hs, hlo, hhi, -, -, hkey, hop, hrun⟩ := odWrite_of_ready h
    obtain ⟨hcount, htyp⟩ := unnamedKey_row r hr hi hs
    have hidx : m.index = 0x2000 := by
      have : r.index = 0x2000 := hi
      omega
    have hw : applyWrite r m.index m.tenant m.data s2 = (0, storeNum r 0x200004 (leNat m.data) s2) := by
      have hok : chapterOk s2 r (leNat m.data) = true := by
        simp only [chapterOk, hi, hs]
        exact decide_eq_true hz
      have htext : ¬(decide (r.typ = 9) || decide (r.typ = 10)) = true := by simp [htyp]
      have hs' : r.sub = 4 := hs
      have hpl : applyWrite r m.index m.tenant m.data s2 = plainWrite r m.index (leNat m.data) m.data s2 := by
        simp only [applyWrite, hi, hs]
      rw [hpl, plainWrite, if_neg htext, hok, hidx, hs']
      rfl
    rw [hw] at hrun
    have hgo : (decide (m.op = 2) && !(writeKey s who m).any namedKeys.contains) = true := by
      rw [hkey, hop]
      decide
    refine ⟨odWrite who m s, congrArg Host.Outcome.next (if_pos hgo), ?_⟩
    rw [hrun, num_of_bare (respond_bare ..), num_of_bare (written_bare ..), storeNum_num, FMap.get?_set_self]
  · intro s who m h hv
    obtain ⟨r, s2, t, -, -, -, -, hb, -, hrun, ht, -⟩ := rowWrite_of_rule (fun _ u => writeEventOverrun (leNat m.data) u) h
      (fun r u hi hs => by simp only [applyWrite, hi, hs])
    simp only [writeEventOverrun, hv, decide_true, acceptIf, if_true] at ht
    exact ⟨t, hrun, (rc_of_bare ht).trans (by rw [State.setRc_rc, rc_of_bare hb])⟩
  · intro s who m kit h hk hv
    obtain ⟨r, s2, t, -, -, -, -, hb, -, hrun, ht, -⟩ := rowWrite_of_rule (fun _ u => writeResetRequest (leNat m.data) u) h
      (fun r u hi hs => by simp only [applyWrite, hi, hs])
    have hd : leNat m.data % 16 = 2 := by omega
    have hz : leNat m.data / 16 % 4096 = 0 := by omega
    have hi : leNat m.data / 65536 = kit := by omega
    simp only [writeResetRequest, hd, hz, hi, decide_true, hk, Bool.true_or, Bool.and_true, acceptIf, if_true] at ht
    exact ⟨t, hrun, (rc_of_bare ht).trans (fault_rc_congr (rc_of_bare hb) (now_of_bare hb) ..)⟩
  · intro s who m h hv hdev hoos
    obtain ⟨r, s2, t, -, -, -, -, hb, -, hrun, ht, -⟩ := rowWrite_of_rule (fun _ u => writeTakeOut (leNat m.data) u) h
      (fun r u hi hs => by simp only [applyWrite, hi, hs])
    simp only [writeTakeOut, hv, Nat.one_ne_zero, if_false] at ht
    have hrc : t.rc = (leaveService 4 0 s).rc :=
      (rc_of_bare ht).trans (leaveService_rc_congr (rc_of_bare hb) (now_of_bare hb) ..)
    obtain ⟨hrun', hreason⟩ := leaveService_spec 4 0 hdev hoos
    exact ⟨t, hrun, by rw [hrc, hrun'], by rw [hrc, hreason], hrc⟩
  · intro s who m h hten hcomp hdrain
    obtain ⟨r, s2, t, -, -, -, -, hb, -, hrun, ht, -⟩ := rowWrite_of_rule (fun r u => writeMgmtMode r (leNat m.data) u) h
      (fun r u hi hs => by simp only [applyWrite, hi, hs])
    have hcomp2 : s2.fa.composition = 0 := (composition_of_bare hb).trans hcomp
    simp only [writeMgmtMode, tr_of_bare hb, hten, hcomp2, ti_of_bare hb, hdrain, List.isEmpty_nil, decide_true, Bool.and_self,
      Bool.or_true, acceptIf, if_true] at ht
    exact ⟨t, hrun, by rw [num_of_bare ht, storeNum_num, FMap.get?_set_self]⟩
  · intro s who m h hv hst
    obtain ⟨r, s2, t, -, -, -, -, hb, -, hrun, ht, -⟩ := rowWrite_of_rule (fun _ u => writeRestore (leNat m.data) u) h
      (fun r u hi hs => by simp only [applyWrite, hi, hs])
    have hst2 : mgmtStandby s2 = true := (mgmtStandby_of_bare hb).trans hst
    simp only [writeRestore, hst2, hv, Bool.not_true, Bool.false_eq_true, if_false, Nat.one_ne_zero] at ht
    refine ⟨t, hrun, ?_, ?_, ?_⟩
    · rw [bt_of_bare ht, noteSave_pending]
    · rw [bt_of_bare ht, ← bt_of_bare hb]
      rfl
    · rw [num_of_bare ht, ← num_of_bare hb]
      rfl
  · intro s who m h hv hfir
    obtain ⟨r, s2, t, -, -, -, -, hb, hf, hrun, ht, heq⟩ := rowWrite_of_rule (fun _ u => writeTriggerLost (leNat m.data) u) h
      (fun r u hi hs => by simp only [applyWrite, hi, hs])
    simp only [writeTriggerLost, hv, decide_true, acceptIf, if_true] at heq
    refine ⟨t, hrun, ?_⟩
    rw [heq, respond_triggerLost, written, if_pos rfl]
    exact fireWrite_triggerLost _ _ rfl (by simp [hf, hfir])
  · intro s who m h hd hen
    obtain ⟨r, s2, t, hr, hi, hs, hlo, hb, -, hrun, ht, -⟩ := rowWrite_of_rule (fun r u => writeScriptImage r (m.index - 0x0810) m.data u) h
      (fun r u hi hs => by simp only [applyWrite, hi, hs])
    have hkey : (0x0810 + (m.index - 0x0810)) * 256 + 1 = m.index * 256 + 1 := by
      have : r.index = 0x0810 := hi
      omega
    have hen2 : Par.scriptEnable s2 (m.index - 0x0810) = 0 := (scriptEnable_of_num (num_of_bare hb) _).trans hen
    simp only [writeScriptImage, hen2, ne_eq, not_true_eq_false, if_false, hd, List.isEmpty_nil, if_true] at ht
    refine ⟨t, hrun, ?_⟩
    rw [oct_of_bare ht, storeOct_oct, hkey, FMap.get?_set_self]
  · intro s who m h
    obtain ⟨r, s2, t, -, -, -, -, hb, -, hrun, ht, -⟩ := rowWrite_of_rule (fun r u => writeScriptEnable r (m.index - 0x0810) (leNat m.data) u) h
      (fun r u hi hs => by simp only [applyWrite, hi, hs])
    refine ⟨t, hrun, ?_⟩
    rw [Par.scriptEnable, num_of_bare ht, writeScriptEnable_num, FMap.getD_set_self]
  · intro s who m h hv hreg
    obtain ⟨r, s2, t, -, -, -, -, hb, -, hrun, ht, -⟩ := rowWrite_of_rule (fun _ u => writeRegAck (leNat m.data) u) h
      (fun r u hi hs => by simp only [applyWrite, hi, hs])
    have hgo : (decide (leNat m.data = s2.bt.bootId) && (s2.bt.regOwed || s2.bt.regWaits || decide (s2.bt.regState = 1) ||
        decide (s2.bt.regState = 2))) = true := by
      simp [bt_of_bare hb, hv, hreg]
    simp only [writeRegAck, hgo, if_true] at ht
    exact ⟨t, hrun, (bt_of_bare ht).trans (by rw [State.setBt_bt, bt_of_bare hb])⟩
  · intro s who m h hstage hfw
    obtain ⟨r, s2, t, -, -, -, -, hb, -, hrun, ht, -⟩ := rowWrite_of_rule (fun _ u => writeFwStage m.data u) h
      (fun r u hi hs => by simp only [applyWrite, hi, hs])
    have hstage2 : ¬s2.bt.stage = 6 := by rw [bt_of_bare hb]; exact hstage
    have hfw2 : ¬s2.bt.fwState = 2 := by rw [bt_of_bare hb]; exact hfw
    rw [writeFwStage, if_neg hstage2, if_neg hfw2, fwCheck_of_bt (bt_of_bare hb)] at ht
    refine ⟨t, hrun, ?_⟩
    cases hc : fwCheck s m.data with
    | some reason =>
      rw [hc] at ht
      rw [bt_of_bare ht, raise_bt, bt_of_bare hb]
      rfl
    | none =>
      rw [hc] at ht
      rw [bt_of_bare ht, State.setBt_bt, bt_of_bare hb]
      rfl
  · intro s who m h hv hst hfw
    obtain ⟨r, s2, t, -, -, -, -, hb, -, hrun, ht, -⟩ := rowWrite_of_rule (fun _ u => writeFwCommit (leNat m.data) u) h
      (fun r u hi hs => by simp only [applyWrite, hi, hs])
    have hst2 : mgmtStandby s2 = true := (mgmtStandby_of_bare hb).trans hst
    have hfw2 : s2.bt.fwState = 1 := by rw [bt_of_bare hb, hfw]
    simp only [writeFwCommit, hst2, hfw2, hv, Bool.not_true, ne_eq, not_true_eq_false, decide_false, Bool.or_self,
      Bool.false_eq_true, if_false, Nat.one_ne_zero] at ht
    exact ⟨t, hrun, (bt_of_bare ht).trans (by rw [State.setBt_bt, bt_of_bare hb])⟩
  · intro s hp hfw hstage
    have hgo : ¬(!s.powered || decide (s.bt.fwState ≠ 2)) = true := by simp [hp, hfw]
    have hrun : exec (.fwProgramDone true) s =
        .next (raise 0x1A0 0 0 0 (s.setBt { s.bt with nor := s.bt.staged, fwState := 3 })) := by
      simp only [exec, execFwProgramDone, if_neg hgo, if_neg hstage, Bool.false_eq_true,
        if_false, if_true]
    refine ⟨_, hrun, by rw [raise_bt, State.setBt_bt], ?_⟩
    rw [raise_bt, State.setBt_bt]
  · intro s who m img h hv hst hrunning
    obtain ⟨r, s2, t, -, -, -, -, hb, -, hrun, ht, -⟩ := rowWrite_of_rule (fun _ u => writeSvnCommit (leNat m.data) u) h
      (fun r u hi hs => by simp only [applyWrite, hi, hs])
    have hst2 : mgmtStandby s2 = true := (mgmtStandby_of_bare hb).trans hst
    have himg : s2.bt.running = some img := by rw [bt_of_bare hb, hrunning]
    simp only [writeSvnCommit, hst2, himg, hv, Bool.not_true, Bool.false_eq_true, if_false, Nat.one_ne_zero] at ht
    exact ⟨t, hrun, (bt_of_bare ht).trans (by rw [State.setBt_bt, bt_of_bare hb, ← hrunning])⟩
  · intro s who m h hid hk hz hslot
    obtain ⟨r, s2, t, -, -, -, -, hb, -, hrun, ht, -⟩ := rowWrite_of_rule (fun _ u => writeFabricKey m.data u) h
      (fun r u hi hs => by simp only [applyWrite, hi, hs])
    have hslot2 : s2.bt.fabricKeys.get? (leField m.data 2 1) = none := by rw [bt_of_bare hb, hslot]
    simp only [writeFabricKey, hslot2, hz, decide_eq_true hk, decide_eq_true hid, Option.any_none, Bool.not_false,
      Bool.and_self, acceptIf, if_true] at ht
    refine ⟨t, hrun, ?_⟩
    rw [bt_of_bare ht, State.setBt_bt, FMap.get?_set_self]
  · intro s who m h hv hany
    obtain ⟨r, s2, t, -, -, -, -, hb, -, hrun, ht, -⟩ := rowWrite_of_rule (fun r u => writeKeyActive r (leNat m.data) u) h
      (fun r u hi hs => by simp only [applyWrite, hi, hs])
    have hgo : ¬(decide (leNat m.data = 0) || !s2.bt.fabricKeys.any fun kv => decide (kv.2.1 = leNat m.data)) = true := by
      rw [bt_of_bare hb, hany]
      simp [hv]
    simp only [writeKeyActive, if_neg hgo] at ht
    refine ⟨t, hrun, ?_⟩
    rw [Par.fabricKeyActive, num_of_bare ht, State.setFa_od, storeNum_num, FMap.getD_set_self]
  · intro s who m h hv hst hrunning hrev
    obtain ⟨r, s2, t, -, -, -, -, hb, -, hrun, ht, -⟩ := rowWrite_of_rule (fun _ u => writeRevoke (leNat m.data) u) h
      (fun r u hi hs => by simp only [applyWrite, hi, hs])
    have hst2 : mgmtStandby s2 = true := (mgmtStandby_of_bare hb).trans hst
    have hothers : ((List.range 4).any fun k => decide (k ≠ leNat m.data) && !bitOf s2.bt.revoked k) = true := by
      rw [bt_of_bare hb, hrev]
      generalize leNat m.data = v at hv
      revert v
      decide
    simp only [writeRevoke, if_neg (Nat.not_le.mpr hv), hst2, bt_of_bare hb, hrunning, Option.any_none] at ht
    rw [bt_of_bare hb] at hothers
    simp only [hothers, Bool.not_true, Bool.or_self, Bool.false_eq_true, if_false] at ht
    refine ⟨t, hrun, (bt_of_bare ht).trans ?_⟩
    rw [State.setBt_bt, hrev, Nat.lor_eq, Nat.zero_or, ← hrunning]
  · intro s who m h hst hten
    obtain ⟨r, s2, t, -, -, -, -, hb, -, hrun, ht, -⟩ := rowWrite_of_rule (fun _ u => writeDebugUnlock m.data u) h
      (fun r u hi hs => by simp only [applyWrite, hi, hs])
    have hst2 : mgmtStandby s2 = true := (mgmtStandby_of_bare hb).trans hst
    simp only [writeDebugUnlock, hst2, tr_of_bare hb, hten, List.isEmpty_nil, Bool.not_true, Bool.or_self, Bool.false_eq_true,
      if_false, bt_of_bare hb, acceptIf] at ht
    refine ⟨t, hrun, (bt_of_bare ht).trans ?_⟩
    split
    case isTrue hok => rw [hok, Bool.or_true]; rfl
    case isFalse hok => rw [Bool.eq_false_iff.mpr hok, Bool.or_false]; exact bt_of_bare hb

end Sys2Proof.Machine

/-!
PROOFS. The board's commands, the steps of boot, and attestation.
-/

namespace Sys2Proof.Machine

/-! The cold state. -/

/-- A cold reset of the tiers changes their state alone, has no moves, and takes the first copy of the home map. -/
theorem coldTiers_eq (s : State) : ∃ v, coldTiers s = s.setTi v ∧ v.homeB = v.homeA ∧ v.moves = [] := by
  obtain ⟨a, ha⟩ := abandonAll_eq s
  have hfree : ∀ p (u : State), ∃ v, freePlace p u = u.setTi v := fun p u => by
    obtain ⟨v, q, hu⟩ := freePlace_ti p u
    exact ⟨_, hu⟩
  obtain ⟨b, hb⟩ := foldl_setTi (f := fun (u : State) (kv : Nat × Move) =>
    setEntry kv.2.page { entryOf u kv.2.page with state := 0, moveSlot := 0 } (freePlace kv.2.src u))
    (fun u kv => by
      obtain ⟨v, hv⟩ := hfree kv.2.src u
      rw [hv]
      exact ⟨_, rfl⟩) (s.setTi a).ti.moves (s.setTi a)
  obtain ⟨c, hc⟩ := foldl_setTi (f := fun (u : State) (kv : Nat × FreeRec) =>
    freePlace ⟨kv.1 / 0x100000000, kv.1 % 0x100000000, kv.2.mirror, kv.2.arranged⟩ u)
    (fun u kv => hfree _ u) ((s.setTi a).setTi b).ti.freeing ((s.setTi a).setTi b)
  simp only [coldTiers, wipeTiers, ha, hb, hc]
  exact ⟨_, rfl, rfl, rfl⟩

/-- A cold reset, part by part. -/
theorem coldState_eq (s : State) : ∃ ti fr co tr fa sv, ti.homeB = ti.homeA ∧ ti.moves = [] ∧ fr.loc = s.fr.loc ∧
    fr.journal = s.fr.journal ∧ coldState s = ((((((((((coldBoot s).setTi ti).setFr fr).setCo co).setTr tr).setFa fa).setSv
      sv).setCh {}).setHo {}).setRc {}).setOd {} := by
  obtain ⟨v, hv, hhome, hmoves⟩ := coldTiers_eq (coldBoot s)
  have hfr : ∀ u : State, ∃ f, f.loc = u.fr.loc ∧ f.journal = u.fr.journal ∧ coldFrost u = u.setFr f :=
    fun u => ⟨(coldFrost u).fr, rfl, rfl, rfl⟩
  have hco : ∀ u : State, ∃ c, coldCores u = u.setCo c := fun _ => ⟨_, rfl⟩
  have htr : ∀ u : State, ∃ c, coldTrans u = u.setTr c := fun _ => ⟨_, rfl⟩
  have hfa : ∀ u : State, ∃ c, coldFabric u = u.setFa c := fun _ => ⟨_, rfl⟩
  have hsv : ∀ u : State, ∃ c, coldServices u = u.setSv c := fun _ => ⟨_, rfl⟩
  obtain ⟨fr, hloc, hj, hfr⟩ := hfr ((coldBoot s).setTi v)
  obtain ⟨co, hco⟩ := hco (((coldBoot s).setTi v).setFr fr)
  obtain ⟨tr, htr⟩ := htr ((((coldBoot s).setTi v).setFr fr).setCo co)
  obtain ⟨fa, hfa⟩ := hfa (((((coldBoot s).setTi v).setFr fr).setCo co).setTr tr)
  obtain ⟨sv, hsv⟩ := hsv ((((((coldBoot s).setTi v).setFr fr).setCo co).setTr tr).setFa fa)
  refine ⟨v, fr, co, tr, fa, sv, hhome, hmoves, hloc, hj, ?_⟩
  simp only [coldState, hv, hfr, hco, htr, hfa, hsv]

/-- What a cold reset keeps of flash, the fuses and the NOR, and what it drops. -/
theorem coldState_spec (s : State) :
    (coldState s).bt = (coldBoot s).bt ∧ (coldState s).ho = {} ∧ (coldState s).rc = {} ∧ (coldState s).od = {} ∧
      (coldState s).ch = {} ∧ (coldState s).ti.homeB = (coldState s).ti.homeA ∧ (coldState s).ti.moves = [] ∧
      (coldState s).fr.loc = s.fr.loc ∧ (coldState s).fr.journal = s.fr.journal ∧ (coldState s).pw = s.pw ∧
      (coldState s).pending = s.pending := by
  obtain ⟨ti, fr, co, tr, fa, sv, hhome, hmoves, hloc, hj, h⟩ := coldState_eq s
  have hpw : (coldBoot s).pw = s.pw := rfl
  have hpend : (coldBoot s).pending = s.pending := rfl
  rw [h]
  generalize coldBoot s = u at hpw hpend ⊢
  simp [hhome, hmoves, hloc, hj, hpw, hpend]

/-- What the reset keeps of the boot's state is fused or in the NOR. -/
theorem coldState_bt (s : State) : (coldState s).bt.stage = 0 ∧ (coldState s).bt.svnFused = s.bt.svnFused ∧
    (coldState s).bt.revoked = s.bt.revoked ∧ (coldState s).bt.cfg = s.bt.cfg ∧
    (s.bt.fwState ≠ 2 → (coldState s).bt.nor = s.bt.nor) := by
  rw [(coldState_spec s).1]
  refine ⟨rfl, rfl, rfl, rfl, fun h => ?_⟩
  simp only [coldBoot, State.setBt_bt, if_neg h]

theorem poisonOwned_eq (s : State) : ∃ v, poisonOwned s = s.setTi v :=
  foldl_setTi (fun _ _ => ⟨_, rfl⟩) _ s

/-! The contents of DRAM after a long reset. -/

/-- Every page that is listed is marked with the epoch. -/
theorem undef_of_wiped (n : Nat) (l : List (Nat × HomeEntry)) (s : State) (page : Nat)
    (h : page ∈ l.map Prod.fst ∨ s.ti.undef.get? page = some n) :
    (l.foldl (fun s kv =>
      let s := wipePage kv.1 s
      s.setTi { s.ti with undef := s.ti.undef.set kv.1 n }) s).ti.undef.get? page = some n := by
  induction l generalizing s with
  | nil =>
    obtain h | h := h
    · cases h
    · exact h
  | cons kv l ih =>
    refine ih _ ?_
    by_cases hp : page = kv.1
    · subst hp
      exact .inr (FMap.get?_set_self ..)
    · obtain h | h := h
      · exact .inl (List.mem_of_ne_of_mem hp h)
      · refine .inr ?_
        rw [State.setTi_ti, FMap.get?_set_ne _ _ hp]
        simp only [wipePage, State.setTi_ti, State.setMem_ti]
        rw [FMap.get?_erase_ne _ hp, h]

/-! The steps of boot. -/

theorem loadCfg_keeps (s : State) : (loadCfg s).freeCtr = s.freeCtr ∧ (loadCfg s).mem = s.mem ∧ (loadCfg s).ti = s.ti := by
  simp only [loadCfg]
  split
  · exact ⟨raise_freeCtr .., raise_mem .., raise_ti ..⟩
  · exact ⟨rfl, rfl, rfl⟩

theorem drawBootId_spec (s : State) : ∃ v, 0 < v ∧ v < 2 ^ 64 ∧
    drawBootId s = (s.setFreeCtr (s.freeCtr + 1)).setBt { s.bt with bootId := v } := by
  refine ⟨if Config.entropy s.freeCtr % 2 ^ 64 = 0 then 1 else Config.entropy s.freeCtr % 2 ^ 64, ?_, ?_, rfl⟩
  · split
    · exact Nat.one_pos
    · exact Nat.pos_of_ne_zero ‹_›
  · split
    · decide
    · exact Nat.mod_lt _ (by decide)

theorem foldl_setDrum (l : List Nat) (s : State) : l.foldl (fun s t => setDrum t { t0 := s.now } s) s =
    s.setSv { s.sv with drums := l.foldl (fun (m : FMap Drum) t => m.set t { t0 := s.now }) s.sv.drums } := by
  induction l generalizing s with
  | nil => rfl
  | cons t l ih => rw [List.foldl_cons, ih, List.foldl_cons]; rfl

/-- Every task of Drumbeat starts anew. -/
theorem startDrums_spec (s : State) : ∃ v, (List.range 5).foldl (fun s t => setDrum t { t0 := s.now } s) s = s.setSv v ∧
    ∀ task, task < 5 → (v.drums.getD task {}).t0 = s.now := by
  refine ⟨_, foldl_setDrum _ s, fun task ht => ?_⟩
  simp only [FMap.getD, get?_foldl_set_mem, List.mem_range, if_pos ht, Option.getD_some]

theorem dropLink_bt (n : Nat) (e : Bool) (s : State) : (dropLink n e s).bt = s.bt := by
  have hre : ∀ u : State, (rebindPaths u).bt = u.bt := fun u => congrArg (fun o => o.2.2.2.2.1) (rebindPaths_outside u)
  have hpeers : ∀ u : State, (notePeers u).bt = u.bt := fun _ => rfl
  have hset : ∀ p (u : State), (setSub n p u).bt = u.bt := fun _ _ => rfl
  by_cases h3 : (getSub s n).state = 3 <;> simp [dropLink, h3, hre, hpeers, hset]

theorem startPorts_bt (s : State) : (startPorts s).bt = s.bt := by
  refine foldl_keeps State.bt _ (fun u n => ?_) _ s
  repeat' split
  · exact dropLink_bt ..
  · rfl

theorem loseModules_mem (l : List Nat) (s : State) : (l.foldl (fun s m => loseModule m s) s).mem = s.mem :=
  foldl_keeps State.mem _ (fun u m => loseModule_mem m u) l s

theorem checkHomes_keeps (s : State) : (checkHomes s).bt = s.bt ∧ (checkHomes s).mem = s.mem := by
  simp only [checkHomes]
  repeat' split
  · refine ⟨?_, leaveService_mem ..⟩
    simp only [leaveService]
    repeat' split
    · rfl
    · exact fault_bt ..
  · exact ⟨rfl, rfl⟩

theorem beginRegistration_bt (s : State) : (beginRegistration s).bt.stage = s.bt.stage ∧
    (beginRegistration s).bt.regWarm = s.bt.regWarm := by
  simp only [beginRegistration]
  (repeat' split) <;> exact ⟨rfl, rfl⟩

/-! Attestation. -/

section
variable {s : State} {p : Nat} (hup : spdmUp s p = true) (hen : Par.spdmEnable s ≠ 0)
include hup hen

/-- A responder that is up and enabled serves the request. -/
theorem spdmServe_of_up (k : State → State) : spdmServe p s k = k s := by
  rw [spdmServe, if_neg (by simp [hup]), if_neg hen]

theorem spdmAgreed_of_version {ver : Nat} (hv : s.bt.spdm.get? p = some ver) (k : State → State) :
    spdmAgreed p ver s k = k s := by
  rw [spdmAgreed, spdmServe_of_up hup hen]
  simp only [hv, if_true]

end

/-- Settles O44: the board's commands by the cold state, the steps of boot by what they reach, attestation by its answers. -/
theorem deviceBootsAndAttests : Obligations.DeviceBootsAndAttests := by
  unfold Obligations.DeviceBootsAndAttests
  refine ⟨?_, ?_, ?_, ?_, ?_, ?_, ?_, ?_, ?_, ?_, ?_, ?_, ?_, ?_, ?_, ?_, ?_, ?_, ?_, ?_, ?_, ?_, ?_, ?_⟩
  · intro s h
    simp only [exec, execPowerGood, h, Bool.false_eq_true, if_false]
  · intro s hsup hlow hcfg
    have hgo : ¬(!s.pw.supply || s.pw.resetLow) = true := by simp [hsup, hlow]
    have hkeep : cfgAtReset s = s := by simp [cfgAtReset, hcfg]
    obtain ⟨v, hv⟩ := poisonOwned_eq s
    obtain ⟨hstage, hsvn, hrev, hcf, hnor⟩ := coldState_bt (s.setTi v)
    obtain ⟨-, hho, hrc, hod, hch, hhome, hmov, hloc, hj, hpw, hpend⟩ := coldState_spec (s.setTi v)
    have hmem : (coldState (s.setTi v)).mem = s.mem := (coldState_mem _).trans (State.setTi_mem ..)
    have hrun : exec .resetNAssert s = .next (coldPower true (coldState (s.setTi v))) := by
      simp only [exec, execResetNAssert, if_neg hgo, hkeep, hv]
    generalize coldState (s.setTi v) = u at *
    refine ⟨_, hrun, rfl, rfl, ?_, hstage, hho, hrc, hod, hch, hhome, hmov, hloc, hj, hsvn, hrev, hcf, hnor,
      hmem, hpend⟩
    simp only [coldPower, State.setPw_pw, hpw, Bool.and_true]
    rfl
  · intro s held can hsup hlow hheld
    have hgo : ¬(!s.pw.supply || !s.pw.resetLow) = true := by simp [hsup, hlow]
    have hlong : ¬(decide (held < 200000) && !s.fr.afterLoss) = true := by simp [Nat.not_lt.mpr hheld]
    simp only [exec, execResetNDeassert, if_neg hgo, if_neg hlong]
  · intro s held can hsup hlow hheld hloss
    have hgo : ¬(!s.pw.supply || !s.pw.resetLow) = true := by simp [hsup, hlow]
    have hshort : (decide (held < 200000) && !s.fr.afterLoss) = true := by simp [hheld, hloss]
    have hpw : (dramUndefined s).pw = { s.pw with dramEpoch := s.pw.dramEpoch + 1 } := by
      simp only [dramUndefined]
      refine (foldl_keeps State.pw _ (fun u kv => ?_) _ _).trans ?_
      · rfl
      · rfl
    have hundef := fun page => undef_of_wiped (s.pw.dramEpoch + 1)
      (s.ti.homeA.filter fun kv => kv.2.tier = 1 || kv.2.tier = 2)
      (s.setPw { s.pw with dramEpoch := s.pw.dramEpoch + 1 }) page
    simp only [exec, execResetNDeassert, if_neg hgo, if_pos hshort]
    refine ⟨_, rfl, rfl, rfl, ?_, rfl, fun page e he htier => ?_⟩
    · exact congrArg Power.dramEpoch hpw
    · exact hundef page (.inl (List.mem_map.mpr ⟨(page, e), List.mem_filter.mpr ⟨he, by simpa using htier⟩, rfl⟩))
  · intro s hsup
    have hgo : ¬(!s.pw.supply) = true := by simp [hsup]
    obtain ⟨-, hsvn, -, hcf, -⟩ := coldState_bt s
    obtain ⟨-, -, -, -, -, -, -, hloc, hj, -, hpend⟩ := coldState_spec s
    simp only [exec, execSupplyLoss, if_neg hgo]
    generalize coldState s = u at *
    exact ⟨_, rfl, rfl, rfl, rfl, rfl, rfl, rfl, hj, hloc, hsvn, hcf, hpend⟩
  · intro s hp hst hhold
    have hgo : ¬(!s.powered || decide (s.bt.stage ≠ 0) || bootHolds s) = true := by simp [hp, hst, hhold]
    obtain ⟨hctr, hmem, hti⟩ := loadCfg_keeps s
    obtain ⟨v, hpos, hlt, hv⟩ := drawBootId_spec (loadCfg s)
    simp only [exec, execBootIslandUp, if_neg hgo, hv]
    generalize loadCfg s = u at *
    refine ⟨_, rfl, rfl, hpos, hlt, ?_, congrArg (· + 1) hctr, hmem, hti⟩
    simp only [State.setBt_od, State.setPw_od, State.setOd_od, FMap.get?_set_self, Par.startMode]
    rw [FMap.getD_set_ne _ (by decide)]
  · intro s hp hst hhold hfw
    have hgo : ¬(!s.powered || decide (s.bt.stage ≠ 1) || bootHolds s) = true := by simp [hp, hst, hhold]
    have hrun : exec .imageLoaded s =
        .next (startPorts (s.setBt { s.bt with stage := 2, running := some (imgInfo s.bt.nor) })) := by
      simp only [exec, execImageLoaded, if_neg hgo, hfw]
    refine ⟨_, hrun, ?_, ?_, ?_, ?_⟩
    · rw [startPorts_bt, State.setBt_bt]
    · rw [startPorts_bt, State.setBt_bt]
    · rw [startPorts_bt, State.setBt_bt]
    · rw [startPorts_mem, State.setBt_mem]
  · intro s reason hp hst hhold hfw
    have hgo : ¬(!s.powered || decide (s.bt.stage ≠ 1) || bootHolds s) = true := by simp [hp, hst, hhold]
    simp only [exec, execImageLoaded, if_neg hgo, hfw]
  · intro s fs fd hp hst hhold hf
    have hgo : ¬(!s.powered || decide (s.bt.stage ≠ 2) || bootHolds s) = true := by simp [hp, hst, hhold]
    have hzero : ((fs.filter fun x => decide (x < 8)).contains 0 || (fs.filter fun x => decide (x < 8)).contains 4) = true := by
      simp [hf]
    have hmem := loseModules_mem ((fs.filter fun x => decide (x < 8)) ++
      (fd.filter fun d => d < 16 && 0 < s.board.dimmSlots.getD d 0).map (· + 0x10))
      (s.setPw { s.pw with dramSelfRefresh := false })
    simp only [exec, execDramTrained, if_neg hgo, if_pos hzero]
    generalize List.foldl (fun s m => loseModule m s) _ _ = u at hmem ⊢
    obtain ⟨l, o, hrc⟩ := raise_rc 0x1F3 0 3 0
      ((u.setBt { u.bt with stage := 6 }).setRc { u.rc with deviceState := 2, oosReason := 3, quiesceOrdered := true })
    refine ⟨_, rfl, ?_, ?_, ?_, ?_, ?_⟩
    · rw [raise_bt]
      rfl
    · rw [hrc]
      rfl
    · rw [hrc]
      rfl
    · rw [hrc]
      rfl
    · rw [raise_mem]
      exact hmem
  · intro s hp hst hhold
    have hgo : ¬(!s.powered || decide (s.bt.stage ≠ 2) || bootHolds s) = true := by simp [hp, hst, hhold]
    simp only [exec, execDramTrained, if_neg hgo, List.filter_nil, List.map_nil, List.append_nil, List.foldl_nil,
      List.contains_nil, Bool.or_self, Bool.false_eq_true, if_false]
    exact ⟨_, rfl, rfl, rfl, rfl, rfl, rfl⟩
  · intro s hp hst hhold hm hloss hclose
    have hgo : ¬(!s.powered || decide (s.bt.stage ≠ 3) || !s.fr.mounting || bootHolds s) = true := by
      simp [hp, hst, hhold, hm]
    have hkind : (!s.fr.present || s.fr.closeRecord) = true := by simp [hclose]
    have h02 : ¬((0 : Nat) = 2) := by decide
    have hmem : (mountSizes [] [] (mountGroups (!s.fr.present) s)).mem = s.mem := rfl
    have hhome : (mountSizes [] [] (mountGroups (!s.fr.present) s)).ti.homeA = s.ti.homeA := rfl
    have hnow : (mountSizes [] [] (mountGroups (!s.fr.present) s)).now = s.now := rfl
    have hsize : (mountSizes [] [] (mountGroups (!s.fr.present) s)).ti.rangePages =
        (8 * s.board.stackBytes + (s.board.dimmBytes.map Prod.snd).sum +
          (mountSizes [] [] (mountGroups (!s.fr.present) s)).fr.diesMounted * s.board.dieBytes) / 0x200000 := rfl
    simp only [exec, execMountDone, if_neg hgo, hloss, if_pos hkind, List.filter_nil, List.foldl_nil, Bool.false_eq_true,
      if_false, if_neg h02]
    generalize mountSizes [] [] (mountGroups (!s.fr.present) s) = u at *
    obtain ⟨v, hv, hdrum⟩ := startDrums_spec (writeCheckpoint ((u.setFr { u.fr with
      lastMount := 0, intents := [], commitRecord := false, closeRecord := false, closed := false
      mounting := false, afterLoss := false }).setBt { u.bt with mounted := true }))
    refine ⟨_, congrArg Host.Outcome.next hv, rfl, rfl, rfl, rfl, hhome, hmem, hsize, fun task ht => ?_⟩
    exact (hdrum task ht).trans hnow
  · intro s hp hst hhold hm
    have hgo : ¬(!s.powered || decide (s.bt.stage ≠ 3) || !s.bt.mounted || bootHolds s) = true := by
      simp [hp, hst, hhold, hm]
    have hmap : (buildMap s).mem = s.mem := congrArg Prod.fst (buildMap_keeps s)
    simp only [exec, execBootReady, if_neg hgo]
    generalize buildMap s = u at hmap ⊢
    obtain ⟨hbt, hmem⟩ := checkHomes_keeps (u.setBt { u.bt with stage := 4, regOwed := true, regWarm := false })
    generalize checkHomes _ = w at hbt hmem ⊢
    obtain ⟨hstage, hwarm⟩ := beginRegistration_bt w
    exact ⟨_, rfl, by rw [hstage, hbt]; rfl, by rw [hwarm, hbt]; rfl, by rw [beginRegistration_mem, hmem]; exact hmap⟩
  · intro s ok hp hst hnone hhold
    have hgo : ¬(!s.powered || decide (s.bt.stage ≠ 5) || s.bt.recoveryStack.isSome || bootHolds s) = true := by
      simp [hp, hst, hhold, hnone]
    simp only [exec, execRecoveryStackTrained, if_neg hgo, if_true]
  · intro s hp hst hnone hhold
    have hgo : ¬(!s.powered || decide (s.bt.stage ≠ 5) || s.bt.recoveryStack.isSome || bootHolds s) = true := by
      simp [hp, hst, hhold, hnone]
    simp only [exec, execRecoveryStackTrained, if_neg hgo, Bool.false_eq_true, if_false]
  · intro s ha hst hw hreg hclk hpeers
    have hgo : ¬(!s.alive || decide (s.bt.stage ≠ 4) || decide (s.rc.warmStep ≠ 0) ||
        (decide (s.bt.regState ≠ 1) && decide (s.bt.regState ≠ 2))) = true := by
      simp [ha, hst, hw, hreg]
    have hlive : ¬(mgmtPeers (s.reach s.bt.regDue)).isEmpty = true := by
      have h : mgmtPeers (s.reach s.bt.regDue) = mgmtPeers s := by simp [mgmtPeers]
      simpa [h] using hpeers
    have hdue : s.bt.regDue ≤ (s.reach s.bt.regDue).now := by
      rw [reach_now hclk]
      exact Nat.le_max_right ..
    simp only [exec, execRegistrationAttempt, if_neg hgo, if_neg hlive]
    have hbt : (s.reach s.bt.regDue).bt = s.bt := by simp
    have hmem : (s.reach s.bt.regDue).mem = s.mem := by simp
    generalize s.reach s.bt.regDue = u at *
    cases u.fa.subs.first? fun _ p => decide (p.state = 3) with
    | none => exact ⟨_, rfl, rfl, by rw [← hbt]; rfl, hdue, Nat.le_add_right .., hmem⟩
    | some kv => exact ⟨_, rfl, rfl, by rw [← hbt]; rfl, hdue, Nat.le_add_right .., hmem⟩
  · intro s p hup hen
    simp only [exec, execGetVersion, spdmServe_of_up hup hen]
  · intro s p hup hen
    simp only [exec, execGetCapabilities, spdmServe_of_up hup hen]
    rfl
  · intro s p asym hash hup hen ha hh
    simp only [exec, execNegotiateAlgorithms, spdmServe_of_up hup hen, ha, hh]
    rfl
  · intro s p ver hup hen hv
    simp only [exec, execGetDigests, spdmAgreed_of_version hup hen hv]
  · intro s p ver offset len hup hen hv hoff
    have hgo : ¬(decide (0 ≠ 0) || decide ((slot0Chain s).length ≤ offset)) = true := by simp [hoff]
    simp only [exec, execGetCertificate, spdmAgreed_of_version hup hen hv, if_neg hgo]
    exact ⟨_, rfl, by simp only [List.length_append, length_leBytes]⟩
  · intro s p ver nonce hup hen hv
    simp only [exec, execChallenge, spdmAgreed_of_version hup hen hv, ne_eq, not_true_eq_false, if_false]
    exact ⟨_, rfl⟩
  · intro s p ver index nonce block hup hen hv h0 hff hb
    simp only [exec, execGetMeasurements, spdmAgreed_of_version hup hen hv, if_neg h0, if_neg hff, hb, Option.map_some,
      List.flatMap_cons, List.flatMap_nil, List.append_nil]
    generalize aliasSign (drawEntropy s).2 _ = sig
    refine ⟨leBytes 1 1 ++ leBytes 3 (leBytes 1 index ++ leBytes 2 block.length ++ block).length ++ leBytes 1 index ++
      leBytes 2 block.length, leBytes 32 (drawEntropy s).1 ++ sig, ?_⟩
    simp only [List.length_singleton, List.append_assoc]
    rfl
  · intro s p hup hen
    simp only [exec, execGetVersion, spdmServe]
    rw [if_neg (by simp [hup]), if_pos hen]
  · intro s p ver slot offset len hup hen hv hslot
    have hgo : (decide (slot ≠ 0) || decide ((slot0Chain s).length ≤ offset)) = true := by simp [hslot]
    simp only [exec, execGetCertificate, spdmAgreed_of_version hup hen hv, if_pos hgo]

end Sys2Proof.Machine
